-- ==== Sys2Proof/Word.lean ====
section
/-!
DEFINITION. The widths the OY3250 counts in, and the plainest arithmetic on them: bytes, indices with the manual's
capacities (R7), and the conversions between numbers and the octets of R409 (most significant byte first).
-/

namespace Sys2Proof

/-- A byte of a message, a key or an octet-string object. -/
abbrev Byte := BitVec 8

/-- A channel, CH[0] to CH[31]. -/
abbrev Chan := Fin 32
/-- A terminal instance. -/
abbrev Term := Fin 8192
/-- An allocation instance. -/
abbrev Alloc := Fin 16384
/-- A flow instance. -/
abbrev Flow := Fin 65536
/-- A downstream queue. -/
abbrev Queue := Fin 32768
/-- An uplink port. -/
abbrev Uplink := Fin 16
/-- A Passage port. -/
abbrev Psg := Fin 4
/-- A port of the MACsec and timestamp tables: uplinks 0 to 15, Passage ports 16 to 19. -/
abbrev Port := Fin 20
/-- A Sconce master. -/
abbrev Master := Fin 3
/-- A cage, one per tree. -/
abbrev Cage := Fin 32
/-- A grant lane, GL[0] to GL[2]. -/
abbrev GrantLane := Fin 3
/-- A time domain: A is 0 and B is 1. -/
abbrev TimeDomain := Fin 2
/-- A pipeline. -/
abbrev Pipeline := Fin 6
/-- A bridge domain. -/
abbrev BridgeDomain := Fin 16384
/-- A MACsec SA slot. -/
abbrev Sa := Fin 256
/-- A trigger output or a capture input. -/
abbrev Trig := Fin 8

/-- Wick time as a TIME96 number: 64 bits of nanoseconds and 32 of fraction, so one unit is 2^-32 ns. -/
abbrev Time := Nat

namespace Tm

/-- One nanosecond. -/
def ns : Nat := 4294967296
/-- One microsecond. -/
def us : Nat := 1000 * ns
/-- One millisecond. -/
def ms : Nat := 1000000 * ns
/-- One second. -/
def s : Nat := 1000000000 * ns
/-- One frame, 125 µs. -/
def frame : Nat := 125000 * ns

end Tm

/-- The low `n` bytes of a number, most significant byte first (R404, R409). -/
def beBytes : Nat → Nat → List Byte
  | 0, _ => []
  | n + 1, v => BitVec.ofNat 8 (v / 256 ^ n) :: beBytes n v

/-- The number a byte string spells, most significant byte first. -/
def beNat (bs : List Byte) : Nat := bs.foldl (fun a b => a * 256 + b.toNat) 0

/-- A signed number as the unsigned number of its two's complement in `w` bits. -/
def twos (w : Nat) (v : Int) : Nat := (v % (2 ^ w : Nat)).toNat

/-- The signed number that `w` bits spell in two's complement. -/
def signed (w : Nat) (n : Nat) : Int :=
  if n % 2 ^ w < 2 ^ (w - 1) then ((n % 2 ^ w : Nat) : Int) else ((n % 2 ^ w : Nat) : Int) - (2 ^ w : Nat)

/-- Bits `hi` down to `lo` of a number. -/
def bitsOf (hi lo n : Nat) : Nat := n / 2 ^ lo % 2 ^ (hi - lo + 1)

/-- A number with its bits `hi` down to `lo` replaced by the low bits of `v`. -/
def putBits (hi lo n v : Nat) : Nat :=
  n / 2 ^ (hi + 1) * 2 ^ (hi + 1) + v % 2 ^ (hi - lo + 1) * 2 ^ lo + n % 2 ^ lo

/-- Division rounded up. -/
def ceilDiv (a b : Nat) : Nat := (a + b - 1) / b

end Sys2Proof
end

