-- ==== Sys2Proof/Machine/Table.lean ====
section
/-!
DEFINITION. Sparse tables: a list of key and value pairs in one canonical form, keys strictly rising and no entry equal
to what an unlisted key reads as. Every large collection of State (objects, registers, terminals, queues, Gallery
positions) is held this way, so that equal contents are equal data.
-/

namespace Sys2Proof.Machine

/-- A sparse table: key and value pairs. -/
abbrev Tab (α : Type) := List (Nat × α)

variable {α : Type}

/-- The listed value of a key, if any. -/
def tabFind : Tab α → Nat → Option α
  | [], _ => none
  | (k, v) :: t, a => if k = a then some v else tabFind t a

/-- The table without a key. -/
def tabErase (t : Tab α) (a : Nat) : Tab α := t.filter fun p => p.1 ≠ a

/-- The table with an entry placed before the first larger key. -/
def tabPlace : Tab α → Nat → α → Tab α
  | [], a, v => [(a, v)]
  | (k, w) :: t, a, v => if a < k then (a, v) :: (k, w) :: t else (k, w) :: tabPlace t a v

/-- What a key reads as: its listed value, or the default of the table. -/
def tabGet (d : Nat → α) (t : Tab α) (a : Nat) : α := (tabFind t a).getD (d a)

/-- A write: the entry is listed unless the value is what an unlisted key reads as. -/
def tabPut [DecidableEq α] (d : Nat → α) (t : Tab α) (a : Nat) (v : α) : Tab α :=
  if v = d a then tabErase t a else tabPlace (tabErase t a) a v

/-- Keys strictly rising. -/
def tabSorted : Tab α → Bool
  | [] => true
  | [_] => true
  | (a, _) :: (b, w) :: t => a < b && tabSorted ((b, w) :: t)

/-- The canonical form: keys strictly rising, and no entry equal to the default. -/
def tabWf [DecidableEq α] (d : Nat → α) (t : Tab α) : Bool :=
  tabSorted t && t.all fun p => decide (p.2 ≠ d p.1)

/-- An element placed by its key, after the elements with the same key. -/
def placeBy {α : Type} (key : α → Nat) (x : α) : List α → List α
  | [] => [x]
  | y :: t => if key x < key y then x :: y :: t else y :: placeBy key x t

/-- A list in rising order of a key. -/
def sortBy {α : Type} (key : α → Nat) (l : List α) : List α := l.foldl (fun a x => placeBy key x a) []

end Sys2Proof.Machine
end

