-- ==== Sys2Proof/Machine/Types.lean ====
section
/-!
DEFINITION. The records of Lantern and of the parts that Lantern keeps: Sconce messages, claims, pending writes and
events (chapter "The Sconce dictionary"), the NVM, firmware slots, stage buffer, Snuffs and rails.
-/

namespace Sys2Proof.Machine

/-- Index, subindex and instance as a Sconce record spells them (R407). -/
structure ObjRef where
  index : Fin 65536
  sub : Fin 256
  inst : Fin 16777216
  deriving DecidableEq, Repr

/-- An operation record of a request (R407): opcode, object, Offset or count, Length and value. -/
structure OpRec where
  opcode : Nat
  ref : ObjRef
  off : Nat
  len : Nat
  value : List Byte
  deriving DecidableEq, Repr

/-- An operation record of a response: `code` is none while the operation has neither taken effect nor been refused. -/
structure OpRes where
  opcode : Nat
  ref : ObjRef
  code : Option Nat
  value : List Byte
  deriving DecidableEq, Repr

/-- What Lantern does once a response has been sent: a new key is stored (R421), Lantern restarts (R472, R474), or the
whole device resets. -/
inductive AfterSend where
  | storeKey (target : Nat) (key : List Byte)
  | restartLantern (cause : Nat)
  | resetDevice
  deriving DecidableEq, Repr

/-- An outstanding message (R403): its number in the model, its master, the request's counter, whether its writes form
a transaction, its records' results, and what follows the response. -/
structure Message where
  id : Nat
  master : Master
  /-- The address from which the request came. -/
  addr : Nat
  ref : Nat
  txn : Bool
  results : List OpRes
  after : List AfterSend
  deriving DecidableEq, Repr

/-- A write that waits for its boundary (R410): the message and the record it answers, the object as code and instance,
its value, the class of the boundary and, for the Epoch class, the channel; and when it was accepted: a boundary of that
very instant is not its boundary (R16). -/
structure PendingWrite where
  msg : Nat
  pos : Nat
  master : Master
  txn : Bool
  code : Nat
  inst : Nat
  value : List Byte
  cls : Nat
  chan : Option Nat
  at_ : Time
  deriving DecidableEq, Repr

/-- A claim (R413); instance 0xFFFFFF stands for every instance. -/
structure ClaimRec where
  master : Master
  code : Nat
  inst : Nat
  deriving DecidableEq, Repr

/-- The snapshot that serves a master's segmented reads for 10 s (R408). -/
structure Snap where
  master : Master
  code : Nat
  inst : Nat
  bytes : List Byte
  taken : Time
  deriving DecidableEq, Repr

/-- An event record (R416). -/
structure EventRec where
  seq : Nat
  kind : Nat
  lost : Bool
  headless : Bool
  time : Time
  code : Nat
  inst : Nat
  detail : List Byte
  deriving DecidableEq, Repr

/-- What Lantern keeps for a master: the two counter series of R406, the event queue of R418, the address of its latest
accepted request and the instants that timers count from. -/
structure MasterSt where
  highest : Nat
  issued : Nat
  addr : Option Nat
  lastAccepted : Time
  lastAuthAnswer : Option Time
  nextSeq : Nat
  lostPending : Bool
  events : List EventRec
  sentUpTo : Nat
  lastSend : Time
  deriving DecidableEq, Repr

/-- An image upload in progress (R423). -/
structure Upload where
  owner : Option Master
  bytes : List Byte
  deriving DecidableEq, Repr

/-- A record of a commissioning image (R422). -/
structure CommRec where
  code : Nat
  inst : Nat
  value : List Byte
  deriving DecidableEq, Repr

/-- A lifetime record (R509): the sequence, reason and Wick time of its latest save, and what it has counted. Histograms
are sparse, by bin; the lane margins by lane × 16 + bin. -/
structure LifeRec where
  seq : Nat
  reason : Nat
  written : Time
  powered : Nat
  counts : Tab Nat
  holdover : Tab Nat
  memory : Tab Nat
  caseTemp : Tab Nat
  supply : Tab Nat
  margin : Tab Nat
  deriving DecidableEq, Repr

/-- A record of zeros with sequence 0 (R512). -/
def LifeRec.new : LifeRec := ⟨0, 0, 0, 0, [], [], [], [], [], []⟩

/-- An NVM copy of the lifetime record (R511): `valid` is false while no save has written the digest. -/
structure LifeCopy where
  rec_ : LifeRec
  valid : Bool
  deriving DecidableEq, Repr

/-- The contents of the NVM die (R1): keys and counter marks, the firmware slots with their selection fields (R471), the
commissioning image, the lifetime record's two copies, the signature limit, the rollback floor, the commissioning key,
the quarantined serial numbers with channel and terminal instance, 0xFFFF for none (R131), and the oscillator model's bin table with the bins learned (R195). -/
structure Nvm where
  keys : List (Option (List Byte))
  reqMarks : List Nat
  outMarks : List Nat
  slots : List (List Byte)
  pref : Nat
  trial : Bool
  tries : Nat
  commission : List Byte
  commissionKey : List Byte
  copies : List LifeCopy
  sigLimit : Nat
  rollbackFloor : Nat
  quarantined : List (Nat × Nat × List Byte)
  learnedModel : List Int
  learnedBins : Nat
  deriving DecidableEq, Repr

/-- A committed set that waits for its boundary (R431), and when it was committed (R16). -/
structure CommitSet where
  cls : Nat
  chan : Nat
  writes : List (Nat × Nat)
  at_ : Time
  deriving DecidableEq, Repr

/-- The stage buffer of the head-end die: the open set, if any, and the committed sets, oldest first; and the WO1
registers that have been written (R429). -/
structure Stage where
  openSet : Option (List (Nat × Nat))
  waiting : List CommitSet
  once : List Nat
  deriving DecidableEq, Repr

/-- What a Snuff acts on (R486). -/
inductive ResKind where
  | channel | terminal | alloc | flow | queue | sa | uplink | psgPort | psgLane
  deriving DecidableEq, Repr

/-- A Snuff in progress: when Closing and Draining began, whether it purges, whether a container or Glim entry started it
rather than the resource's own enable (R485, R489), and whether its last messages have been queued and have been sent. -/
structure SnuffRec where
  closing : Time
  draining : Option Time
  purge : Bool
  byContainer : Bool
  told : Bool
  sent : Bool
  deriving DecidableEq, Repr

/-- The state of a supply rail (R468, R393). -/
inductive RailState where
  | off
  | starting (since : Time)
  | inWindow
  | faulted (since : Time)
  deriving DecidableEq, Repr

/-- An attestation report request that waits, or a finished report (R372). -/
structure AttestReq where
  inst : Fin 3
  nonce : List Byte
  deriving DecidableEq, Repr

/-- The security header of a protected frame as sent: AN, packet number and SCI (R361, R362, R365). -/
structure SecOut where
  an : Nat
  pn : Nat
  sci : Nat
  deriving DecidableEq, Repr

/-- Something the device gives to the outside, in the order given: the model's record of messages, pulses and frames. -/
inductive Out where
  | response (master : Master) (addr : Nat) (counter : Nat) (ref : Nat) (txn : Bool) (records : List OpRes)
  | abort (master : Master) (code : Nat) (floor : Nat)
  | events (master : Master) (addr : Nat) (counter : Nat) (records : List EventRec)
  /-- A PLOAM message of a frame: the fields that the framer fills in are the ONU-ID, the sequence number and the
  integrity field (R50). -/
  | ploam (chan : Nat) (onu : Nat) (kind : Nat) (seq check : Nat) (body : List Nat)
  /-- A downstream frame with its superframe counter and map, under a code of R45: 0 none, 1 RS(255,239), 2 RS(248,216),
  3 LDPC(17280,14592). -/
  | frame (chan : Nat) (fec : Nat) (bytes : List Nat)
  /-- A GEM or XGEM fragment: port-ID, key (0 in clear, 1 and 2 the terminal's slots, 3 and 4 the channel's broadcast
  slots), payload bytes, the bonding group header at the start of the payload (R64), and whether the payload ends. -/
  | gem (chan port key bytes : Nat) (head : Option Nat) (last : Bool)
  /-- The frame that the channel's framer is sending ends with the ones' complement of its FCS (R378). -/
  | inverted (chan port : Nat)
  /-- A pulse on a pin of kind 0 OPT_RSSI_TRIG, 1 OPT_BRST, 2 TRIG, 3 PPS_OUT, active between two times of Wick, and
  whether its active level is high. -/
  | pulse (pin : Nat) (index : Nat) (rise fall : Nat) (high : Bool)
  /-- What leaves on an uplink: 0 a frame, 1 a flow-control frame, 2 a frame looped back, 3 the end of an aborted frame
  (R318). The FCS is that of the bytes sent, where the cipher pool does not make it (R381). -/
  | ethernet (port : Nat) (what : Nat) (body : List Nat) (head : List Byte) (fcs : Option Nat) (sec : Option SecOut)
  /-- What leaves on a Passage port: 0 a frame that has waited in a queue, 3 a time frame, 4 a credit frame, 16 the end of an
  aborted frame (R337). With its header, and the CRC where it is stitched. -/
  | passage (port : Nat) (what : Nat) (body : List Nat) (head : List Byte) (crc : Option Nat) (sec : Option SecOut)
  /-- A message of TOD_OUT, 0 time event or 1 time announce: its baud rate, the times between which it starts and ends,
  and what it describes (R203). -/
  | serial (kind baud : Nat) (earliest latest : Time) (body : List Nat)
  /-- A second of FREQ_OUT's square wave: its frequency, and the Second boundary at which an edge rises (R204). -/
  | square (pin hz : Nat) (rise : Time)
  | i2c (cage : Nat) (body : List Byte)
  /-- Nine clock pulses and a stop condition on a cage's bus, whose SDA was found low (R36). -/
  | i2cRecover (cage : Nat)
  deriving DecidableEq, Repr

end Sys2Proof.Machine
end

