-- ==== Sys2Proof/Machine/Inputs.lean ====
section
/-!
DEFINITION. What a command is given from outside, where it is more than a number: a coincident hardware update of a
register, and the parsed contents of bursts and frames.
-/

namespace Sys2Proof.Machine

/-- A hardware update that falls in the cycle of a software write (R427): the bits that hardware drives, and their
values. A mask of zero is no update. -/
structure HwUpdate where
  mask : BitVec 32
  value : BitVec 32
  deriving DecidableEq, Repr

/-- The IP header of a frame, where it has one (R242): addresses, protocol or last next header, DSCP, the ports of TCP,
UDP or SCTP where present, and the fragment fields (R257). -/
structure IpHdr where
  v6 : Bool
  src : Nat
  dst : Nat
  proto : Nat
  dscp : Nat
  ports : Option (Nat × Nat)
  offset : Nat
  more : Bool
  ident : Nat
  deriving DecidableEq, Repr

/-- An Ethernet frame as the device reads it: addresses, outer tag (VLAN ID, PCP and DEI), inner VLAN ID, EtherType
after tags, IP header, its length L from the destination address through the FCS, whether it is a PTP message of its
port's profile, its first bytes (up to 2,048), and its FCS as received. -/
structure FrameHdr where
  dmac : Nat
  smac : Nat
  outer : Option (Nat × Nat)
  inner : Option Nat
  etype : Nat
  ip : Option IpHdr
  len : Nat
  ptp : Bool
  bytes : List Byte
  fcs : Nat
  deriving DecidableEq, Repr

/-- A SecTAG as received: AN, the 32 bits of its packet number, its SCI, and whether the tag check passes. -/
structure SecTag where
  an : Fin 4
  pn : Nat
  sci : Nat
  icvOk : Bool
  deriving DecidableEq, Repr

/-- A frame as an uplink port receives it (R312, R313): header, code error, uncorrectable codewords that it lies in,
corrected symbols, whether its FCS is right, the opcode of a MAC control frame, its SecTAG, whether it goes on by
cut-through before its last byte has been checked, and the PCS blocks with an invalid sync header that each lane of the port
has taken since the frame before it (R506). -/
structure RxFrame where
  hdr : FrameHdr
  codeError : Bool
  uncorrectable : Nat
  corrected : Nat
  fcsOk : Bool
  control : Option Nat
  sec : Option SecTag
  pending : Bool
  badSync : Vector Nat 4
  deriving DecidableEq, Repr

/-- What a wake detector sees (R323): a frame with a correct FCS, by its first 64 bytes as received; or signal energy, that
was absent for one time and has then persisted for another. -/
inductive WakeSignal where
  | frame (bytes : Vector Byte 64)
  | energy (dark lit : Time)
  deriving DecidableEq, Repr

/-- A Passage frame as a port receives it (R335): its header's fields with HCK, the Ethernet frame of a data frame, its SecTAG under
MACsec, its CRC and whether that is right, whether it goes on by cut-through before that is known, and the stuff violations
and marker misses of each lane since the frame before it. -/
structure PsgFrame where
  type : Fin 16
  dest : Fin 4096
  src : Fin 4096
  cls : Fin 8
  tree : Bool
  seq : Fin 65536
  hops : Fin 64
  dir : Fin 4
  colour : Fin 4
  len : Nat
  domain : Fin 16384
  hck : Fin 256
  eth : Option FrameHdr
  body : List Nat
  sec : Option SecTag
  crc : Nat
  crcOk : Bool
  pending : Bool
  stuff : Vector Nat 4
  misses : Vector Nat 4
  deriving DecidableEq, Repr

/-- A Passage time message (R345): subtype, the sender's clock class, steps removed and step count, its sequence and
stamp; the receive stamp, the egress stamp of the answer that a SYNC draws, and the rate that the servo estimates with it,
in 2^-48. -/
structure PsgTime where
  sub : Fin 3
  cls : Fin 256
  steps : Fin 256
  stepCount : Fin 256
  seq : Fin 65536
  stamp : Time
  arrival : Time
  reply : Time
  freq : Int
  deriving DecidableEq, Repr

/-- The fields of a Gallery command (R233). -/
structure GalCmd where
  tag : Nat
  domain : Nat
  mac : Nat
  flags : Nat
  kind : Nat
  dest : Nat
  flow : Nat
  cursor : Nat
  count : Nat
  deriving DecidableEq, Repr

/-- A PTP message as Lantern's PTP functions read it (R191): 0 Announce, 1 Sync with its Follow_Up, 2 Delay_Resp, 3 a
client's request for unicast service, 4 its cancellation; whether the profile's best-master algorithm makes its port the
slave port; the time that the message carries, with its correction; when it crossed the ball, and when the Delay_Req that
a Delay_Resp answers did, in 2^-32 ns; the rate that the servo estimates with it, in 2^-48; the grandmaster's clock
class; and the client. -/
structure PtpMsg where
  kind : Fin 5
  slave : Bool
  origin : Time
  arrival : Time
  asked : Time
  freq : Int
  cls : Option Nat
  client : Nat
  deriving DecidableEq, Repr

/-- A ToD message (R193): whether its checksum holds, the second that it names, the UTC offset that it carries where it
names UTC, and its clock class. -/
structure TodMsg where
  ok : Bool
  seconds : Nat
  utc : Option Int
  cls : Option Nat
  deriving DecidableEq, Repr

/-- An entry of a CTI report (R157): path identifier, window start and volume in bytes, where it carries them. -/
structure CtiEntry where
  path : Option Nat
  start : Option Nat
  volume : Option Nat
  deriving DecidableEq, Repr

/-- What a reassembled GEM or XGEM frame holds: an Ethernet frame, an OMCI message with its trailer's check, or a bonding
fragment with its group header, the bytes that follow it, and the header of the frame that it starts. -/
inductive UpData where
  | ethernet (h : FrameHdr)
  | omci (bytes : List Byte) (ok : Bool)
  | bond (word : BitVec 32) (len : Nat) (h : Option FrameHdr)
  deriving DecidableEq, Repr

/-- A GEM or XGEM frame, or a fragment of one: port-ID, key index, whether it starts and ends the frame, its payload words,
and, where it ends the frame, what the frame holds. -/
structure UpFrag where
  port : Nat
  key : Nat
  first : Bool
  last : Bool
  words : Nat
  data : UpData
  deriving DecidableEq, Repr

/-- One grant of a burst as received: the status report in bytes where it passes its check, the words of idle frames, the
frames before delineation is lost, and whether it is lost (R87). -/
structure UpGrant where
  report : Option Nat
  idle : Nat
  frags : List UpFrag
  lost : Bool
  deriving DecidableEq, Repr

/-- An upstream PLOAM message: its check fails, an acknowledgement, a type that the device omits or does not know, or a
message whose exchange has its own command. -/
inductive UpPloam where
  | bad | ack | unknown | handled
  deriving DecidableEq, Repr

/-- What an internal bus carries when its parity fails (R378): a stored frame, by its first cell; the frame that a
channel's framer is sending; a control access; or nothing. -/
inductive BusUse where
  | frame (cell : Nat)
  | tree (chan : Fin 32)
  | control
  | idle
  deriving DecidableEq, Repr

/-- Where an uncorrectable error or parity failure lies (R383), memory by memory: a Sump cell's data or its tag (with the
pool of a free cell), a queue's descriptors, a node's or a policer's buckets, a grant lane, a terminal's record on a
channel, a configuration entry (0 flow, 1 allocation, 2 channel, 3 port), a key slot as CIPH_KEY_SEL names it, a Gallery
position, a rule, a fragment record by its place in the table, an indirection entry (table × 256 + entry), a pool's
free-pointer cache with the cells in it, a port's timestamp queue, an input's capture queue, a lane buffer. -/
inductive MemHit where
  | cellData (cell : Nat)
  | cellTag (cell pool : Nat)
  | queue (key : Nat)
  | node (level : Fin 7) (i : Nat)
  | policer (i : Nat)
  | lane (l : Fin 3)
  | record (t : Fin 8192) (ch : Fin 32)
  | entry (kind : Fin 4) (i : Nat)
  | slot (kind : Fin 3) (i : Nat)
  | gallery (pos : Nat)
  | rule (r : Nat)
  | fragment (k : Nat)
  | indirection (k : Nat)
  | cache (pool cells : Nat)
  | stamp (port : Nat)
  | capture (k : Fin 8)
  | buffer (bus : Fin 256) (carried : BusUse)
  deriving DecidableEq, Repr

/-- What the lane finds where it expects a burst: the positions at which the delimiter lies within some distance, as signed
offsets in bits from the expected position with their Hamming distances; the sampling phase in 1/64 bit; the recommended
equaliser code; corrected bits, uncorrectable codewords; whether the header passes its check, its ONU-ID, BIP errors; the
PLOAM message; and the burst's grants in order. -/
structure BurstRx where
  hits : List (Int × Nat)
  phase : Nat
  code : Fin 16
  corrected : Nat
  uncorrectable : Nat
  headerOk : Bool
  onu : Nat
  bip : Nat
  ploam : Option UpPloam
  grants : List UpGrant
  deriving DecidableEq, Repr

end Sys2Proof.Machine
end

