-- ==== Sys2Proof/Syntax.lean ====
section
/-!
DEFINITION. The commands of the OY3250: one constructor for each row of the table of operations and events, in the
table's order. A command is a host operation, an access by Lantern or by host software, or an event of the device or of
what is joined to it; its operands are what the step is given from outside.
-/

namespace Sys2Proof

open Machine

/-- A command. The comment of a constructor names the rule that its row cites. -/
inductive Instr where
  /-- R15. -/
  | frameBoundary
  /-- R14. -/
  | secondBoundary (sensors : Vector Int 9)
  /-- R163. -/
  | epochStart (ch : Chan)
  /-- R404. -/
  | sconceRequest (m : Master) (addr : Nat) (datagram : List Byte)
  /-- R408. -/
  | read (m : Master) (ref : ObjRef) (off len : Nat)
  /-- R410. -/
  | write (m : Master) (ref : ObjRef) (off : Nat) (value : List Byte)
  /-- R413. -/
  | claim (m : Master) (ref : ObjRef)
  /-- R413. -/
  | release (m : Master) (ref : ObjRef)
  /-- R407. -/
  | next (m : Master) (ref : ObjRef)
  /-- R407. -/
  | default (m : Master) (ref : ObjRef) (count : Nat)
  /-- R410. -/
  | responseSent (m : Master)
  /-- R413. -/
  | claimTimeout (m : Master)
  /-- R413. -/
  | claimBreak (m : Master) (target : Nat)
  /-- R418. -/
  | eventAcknowledgement (m : Master) (ref : Nat)
  /-- R418. -/
  | eventSend (m : Master)
  /-- R418. -/
  | eventResend (m : Master)
  /-- R421. -/
  | masterKeyWrite (m target : Master) (key : List Byte)
  /-- R369. -/
  | commissionKeyWrite (m : Master) (key : List Byte)
  /-- R423. -/
  | imageUpload (m : Master) (kind : Fin 2) (off : Nat) (segment : List Byte)
  /-- R423. -/
  | imageCommit (m : Master) (kind : Fin 2) (value : Nat)
  /-- R423. -/
  | imageStored (kind : Fin 2)
  /-- R420. -/
  | omciSend (m : Master) (t : Term) (value : List Byte)
  /-- R372. -/
  | attestRequest (m : Master) (slot : Fin 3) (nonce : List Byte)
  /-- R372. -/
  | attestReportSigned (slot : Fin 3)
  /-- R368. -/
  | firmwareRollbackCommit (m : Master) (value : Nat)
  /-- R474. -/
  | warmResetLantern (m : Master)
  /-- R474. -/
  | warmResetDevice (m : Master)
  /-- R472. -/
  | firmwareActivate (m : Master) (value : Nat)
  /-- R472. -/
  | firmwareConfirm (m : Master) (value : Nat)
  /-- R472. -/
  | firmwareTrialExpiry
  /-- R511. -/
  | lifetimeSave (m : Master) (value : Nat)
  /-- R511. -/
  | periodicSave
  /-- R511. -/
  | lifetimeRecordSaved
  /-- R432. -/
  | rawRegisterRead (m : Master) (reg : Fin 16777216)
  /-- R432. -/
  | rawRegisterWrite (m : Master) (reg : Fin 16777216) (value : Nat) (hw : HwUpdate)
  /-- R426. -/
  | registerWrite (addr value : Nat) (staged : Bool) (hw : HwUpdate)
  /-- R431. -/
  | stageOpen
  /-- R431. -/
  | stageDiscard
  /-- R431. -/
  | commitGo (cls : Fin 4) (ch : Chan)
  /-- R442. -/
  | recordClear (which : Fin 4)
  /-- R429. -/
  | glbLockSet (bits : BitVec 16)
  /-- R428. -/
  | glbSnapshotWrite (word : BitVec 32)
  /-- R180. -/
  | wickNsLoRead
  /-- R72. -/
  | tcDsSfcLoRead (ch : Chan)
  /-- R376. -/
  | ciphKeyUsageLoRead
  /-- R500. -/
  | cntValLoRead (c : Fin 256)
  /-- R212. -/
  | tsTxEntry3Read (p : Port)
  /-- R212. -/
  | captInfoRead (k : Trig)
  /-- R207. -/
  | captNextRead (m : Master) (k : Trig)
  /-- R285. -/
  | queueMaxRead (m : Master) (delay : Bool) (q : Queue)
  /-- R305. -/
  | highWaterRead (m : Master) (ts : Bool) (q : Fin 1024)
  /-- R514. -/
  | unitStart (m : Master) (unit : Fin 16) (mask : BitVec 16)
  /-- R514. -/
  | unitStop (m : Master) (unit : Fin 16) (mask : BitVec 16)
  /-- R501. -/
  | counterSnapshot (m : Master) (value : Nat)
  /-- R497. -/
  | counterOverflowClear (m : Master) (c : Fin 256) (value : Nat)
  /-- R496. -/
  | counterValueLoad (m : Master) (c : Fin 256) (value inc : Nat)
  /-- R497. -/
  | counterOverflow (c : Fin 256) (amount : Nat)
  /-- R505. -/
  | upstreamFrameAccounted (ch : Chan)
  /-- R510. -/
  | laneMarginMeasurement (lane : Fin 64) (eye : Nat)
  /-- R34. -/
  | channelRssiRequest (m : Master) (ch : Chan) (t : Nat)
  /-- R34. -/
  | rssiTrigger (ch : Chan) (t : Term)
  /-- R34. -/
  | rssiRequestLapse (ch : Chan)
  /-- R37. -/
  | cageI2cRequest (m : Master) (c : Cage) (request : List Byte)
  /-- R36. -/
  | i2cRequestComplete (c : Cage) (sda status : Fin 3) (data : List Byte)
  /-- R36. -/
  | i2cClockStretchTimeout (c : Cage) (sda : Bool)
  /-- R35. -/
  | moduleInsertion (c : Cage)
  /-- R35. -/
  | identityReadComplete (c : Cage) (bytes : List Byte)
  /-- R35. -/
  | moduleRemoval (c : Cage)
  /-- R39. -/
  | laneRunEntry (ch : Chan)
  /-- R38. -/
  | txPllLossOfLock (ch : Chan)
  /-- R38. -/
  | faultRecovery (ch : Chan)
  /-- R38. -/
  | rxPllLossOfLock (ch : Chan)
  /-- R38. -/
  | laneSleepEntry (ch : Chan)
  /-- R41. -/
  | sleepRxPllStart (ch : Chan)
  /-- R40. -/
  | laneNap (ch : Chan) (gapStart gapEnd : Time)
  /-- R40. -/
  | laneNapWake (ch : Chan)
  /-- R42. -/
  | loopModeSet (m : Master) (ch : Chan) (mode : Nat)
  /-- R44. -/
  | prbsClr (ch : Chan)
  /-- R44. -/
  | rxCal (ch : Chan)
  /-- R29. -/
  | presetTrackingStep (ch : Chan) (t : Term)
  /-- R91. -/
  | burstReceived (ch : Chan) (frame alloc : Nat) (pipe : Pipeline) (r : BurstRx)
  /-- R67. -/
  | bondingTimeout (f : Flow) (pipe : Pipeline)
  /-- R69. -/
  | bondingResync (f : Flow)
  /-- R93. -/
  | lightFound (ch : Chan) (a b : Time) (level : Nat)
  /-- R94. -/
  | rogueSuspicion (ch : Chan) (named : Option Term)
  /-- R128. -/
  | rogueObservationEnd (ch : Chan)
  /-- R129. -/
  | huntStepEnd (ch : Chan)
  /-- R130. -/
  | huntRetry (ch : Chan)
  /-- R130. -/
  | huntAbort (ch : Chan)
  /-- R131. -/
  | rogueRelease (m : Master) (t : Term) (value : Nat)
  /-- R109. -/
  | quietWindowFixed (ch : Chan)
  /-- R109. -/
  | quietAt (m : Master) (ch : Chan) (time : Nat)
  /-- R136. -/
  | quietNow (ch : Chan)
  /-- R105. -/
  | serialNumberResponse (ch : Chan) (hits : List (Nat × Nat)) (phase : Fin 64) (good : Bool) (serial : Vector Byte 8) (code : Fin 16)
  /-- R111. -/
  | quietWindowEnd (ch : Chan) (light : Bool)
  /-- R113. -/
  | rangingResponse (ch : Chan) (t : Term) (hits : List (Nat × Nat)) (phase : Fin 64) (good : Bool) (code : Fin 16)
  /-- R112. -/
  | rangingWindowEnd (ch : Chan) (t : Term)
  /-- R106. -/
  | registrationRequest (ch : Chan) (t : Term)
  /-- R106. -/
  | registrationReply (ch : Chan) (t : Term) (id : List Byte)
  /-- R106. -/
  | registrationTimeout (ch : Chan) (t : Term)
  /-- R106. -/
  | authLockoutExpiry (ch : Chan) (serial : Vector Byte 8)
  /-- R119. -/
  | driftCorrectionTimeout (ch : Chan) (t : Term)
  /-- R121. -/
  | terminalLost (ch : Chan) (t : Term)
  /-- R122. -/
  | lostHoldExpiry (ch : Chan) (t : Term)
  /-- R123. -/
  | sleepRequest (t : Term) (mode : Fin 4)
  /-- R123. -/
  | sleepAllow (t : Term)
  /-- R125. -/
  | awarePeriodEnd (t : Term)
  /-- R127. -/
  | sleepLoss (ch : Chan) (t : Term)
  /-- R146. -/
  | mapComputation (wrong : List (Chan × Nat × List (GrantLane × Nat))) (builder : List Chan)
  /-- R169. -/
  | grantLaneCopyComplete (l : GrantLane)
  /-- R168. -/
  | grantLaneRejoin (l : GrantLane)
  /-- R170. -/
  | grantReload
  /-- R170. -/
  | reloadComplete
  /-- R173. -/
  | grantLaneTest (m : Master) (value : Nat)
  /-- R173. -/
  | grantLaneTestEnd
  /-- R173. -/
  | grantLaneRelease (m : Master) (value : Nat)
  /-- R157. -/
  | ctiReport (p : Uplink) (ether : Bool) (entries : List CtiEntry)
  /-- R344. -/
  | passageCooperativeOrder (q : Psg) (alloc : Fin 65536) (start volume : Nat)
  /-- R164. -/
  | fsyncEdge (rising : Bool) (stamp : Time)
  /-- R164. -/
  | fsyncLost
  /-- R183. -/
  | wickSetTime (m : Master) (time : Nat)
  /-- R184. -/
  | wickStep
  /-- R180. -/
  | wickCopyMismatch (copy : Fin 3) (increment : Bool) (value : Time)
  /-- R180. -/
  | wickNoMajority (increment : Bool) (a b : Time)
  /-- R182. -/
  | ovenReady
  /-- R182. -/
  | warmingTimeout
  /-- R199. -/
  | ovenFault
  /-- R191. -/
  | ptpMessageReceived (d : TimeDomain) (p : Uplink) (msg : PtpMsg)
  /-- R191. -/
  | ptpMessageSend (p : Uplink) (type : Fin 16) (seq : Fin 65536) (h : FrameHdr)
  /-- R193. -/
  | todMessageReceived (msg : TodMsg)
  /-- R193. -/
  | ppsInEdge (k : Fin 2) (stamp : Nat)
  /-- R188. -/
  | domainLocked (d : TimeDomain)
  /-- R188. -/
  | domainLost (d : TimeDomain) (announce : Bool)
  /-- R185. -/
  | wickLocked
  /-- R189. -/
  | domainRevert (d : TimeDomain)
  /-- R189. -/
  | domainInconsistent
  /-- R189. -/
  | domainConsistent (d : TimeDomain)
  /-- R196. -/
  | headlessHoldover
  /-- R198. -/
  | holdoverExpiry
  /-- R198. -/
  | holdExpiryRecompute
  /-- R195. -/
  | binLearned (b : Fin 68) (f : Int)
  /-- R195. -/
  | ageingRefit (rate : Int)
  /-- R195. -/
  | timeModelReset (m : Master) (value : Nat)
  /-- R205. -/
  | trigArm (m : Master) (k : Trig)
  /-- R205. -/
  | trigDisarm (m : Master) (k : Trig)
  /-- R205. -/
  | triggerPulse (k : Trig)
  /-- R207. -/
  | captureEdge (k : Trig) (rising : Bool) (stamp : Nat)
  /-- R212. -/
  | captClr
  /-- R312. -/
  | uplinkFrameReceived (p : Uplink) (pipe : Pipeline) (f : RxFrame)
  /-- R223. -/
  | learnRequestProcessed (engine : Fin 4)
  /-- R230. -/
  | stashMigration (pos : Fin 524288)
  /-- R231. -/
  | agerVisit (pos : Nat)
  /-- R232. -/
  | staticRestore (domain : BridgeDomain) (mac : Nat)
  /-- R247. -/
  | ruleRestore (rule : Fin 131072)
  /-- R234. -/
  | gallerySearch (m : Master) (c : GalCmd)
  /-- R234. -/
  | galleryInsert (m : Master) (c : GalCmd)
  /-- R234. -/
  | galleryDelete (m : Master) (c : GalCmd)
  /-- R235. -/
  | galleryWalkOpen (m : Master) (c : GalCmd)
  /-- R235. -/
  | galleryNext (m : Master) (c : GalCmd)
  /-- R235. -/
  | galleryWalkClose (m : Master) (c : GalCmd)
  /-- R236. -/
  | galleryFlush (m : Master) (c : GalCmd)
  /-- R235. -/
  | walkTimeout (cursor : Nat)
  /-- R236. -/
  | flushStart
  /-- R236. -/
  | flushComplete
  /-- R257. -/
  | fragmentRecordExpiry
  /-- R274. -/
  | framerRequest (ch : Chan) (room : Nat)
  /-- R63. -/
  | keyHeldDiscard (q : Queue)
  /-- R285. -/
  | sampleSweep
  /-- R298. -/
  | pressureSignal (pool : Fin 16)
  /-- R303. -/
  | verdictWritten (cell : Nat) (ok icv : Bool)
  /-- R304. -/
  | sumpRebuildDone
  /-- R315. -/
  | pauseFrameReceived (p : Uplink) (time : Fin 65536)
  /-- R315. -/
  | pfcFrameReceived (p : Uplink) (enable : BitVec 8) (times : Vector Nat 8)
  /-- R315. -/
  | pauseStopExpiry (p : Uplink) (c : Fin 8)
  /-- R316. -/
  | flowControlRefresh (p : Uplink)
  /-- R311. -/
  | uplinkLinkUp (p : Uplink)
  /-- R311. -/
  | uplinkLinkDown (p : Uplink) (lost : Nat) (locks : Vector Nat 4)
  /-- R317. -/
  | uplinkTransmitFrame (port : Port) (at_ : Time)
  /-- R364. -/
  | macsecHeldDiscard (port : Port) (c : Fin 8)
  /-- R322. -/
  | uplinkLoop (m : Master) (p : Uplink) (value : Nat)
  /-- R323. -/
  | uplinkWakeMatch (p : Uplink) (seen : WakeSignal)
  /-- R335. -/
  | passageFrameReceived (q : Psg) (pipe : Pipeline) (f : PsgFrame)
  /-- R227. -/
  | learnNoticeReceived (q : Psg) (src : Fin 4095) (domain : BridgeDomain) (mac : BitVec 48)
  /-- R342. -/
  | creditFrameReceived (q : Psg) (counts : Vector (Fin 65536) 8)
  /-- R342. -/
  | creditFrameSend (q : Psg)
  /-- R341. -/
  | presenceFrameReceived (q : Psg) (src : Fin 4095) (nonce : BitVec 32)
  /-- R341. -/
  | presenceSend
  /-- R341. -/
  | reachTimeout (q : Psg) (d : Fin 4095)
  /-- R345. -/
  | timeMessageReceived (q : Psg) (msg : PsgTime)
  /-- R345. -/
  | timeSyncSend (q : Psg) (stamp : Time)
  /-- R331. -/
  | passageLaneLocked (lane : Fin 16) (first second : BitVec 32)
  /-- R331. -/
  | passageLaneLockLoss (lane : Fin 16)
  /-- R332. -/
  | passageLaneDeskewed (lane : Fin 16) (skew : Nat)
  /-- R334. -/
  | passageLaneReturn (lane : Fin 16)
  /-- R333. -/
  | txMapChange (q : Psg) (markers : Vector (Option (BitVec 32)) 4)
  /-- R333. -/
  | passagePortUp (q : Psg)
  /-- R333. -/
  | passagePortDown (q : Psg)
  /-- R61. -/
  | keyExchangeComplete (t : Term) (key : Vector Byte 16)
  /-- R61. -/
  | keySwitch (t : Term)
  /-- R357. -/
  | ponKeySoftLimit (bcast : Bool) (slot : Fin 16384)
  /-- R357. -/
  | ponKeyHardLimit (bcast : Bool) (slot : Fin 16384)
  /-- R356. -/
  | previousSlotExpiry (bcast : Bool) (slot : Fin 16384)
  /-- R359. -/
  | bcastKeyWrite (m : Master) (slot : Fin 64) (key : List Byte)
  /-- R359. -/
  | bcastKeySwitch (m : Master) (ch : Chan) (value : Nat)
  /-- R360. -/
  | bcastKeyLock (m : Master) (slot : Fin 64) (value : Nat)
  /-- R360. -/
  | saLock (m : Master) (sa : Sa) (value : Nat)
  /-- R376. -/
  | ciphKeyErase
  /-- R354. -/
  | maskRekey
  /-- R355. -/
  | entropyTestFailure
  /-- R355. -/
  | entropyRecovery
  /-- R378. -/
  | busParityError (bus : Fin 256) (carried : BusUse)
  /-- R383. -/
  | uncorrectableError (hit : MemHit) (row : Fin 16777216)
  /-- R384. -/
  | singleBitError (mem : Fin 15) (row : Fin 16777216)
  /-- R385. -/
  | scrubPass
  /-- R383. -/
  | reclaimSweep
  /-- R383. -/
  | shadowRewrite
  /-- R392. -/
  | watchdogKick
  /-- R392. -/
  | watchdogExpiry
  /-- R393. -/
  | regulatorFault (rail : Fin 4)
  /-- R393. -/
  | railRecovery (rail : Fin 4)
  /-- R394. -/
  | oscillatorLoss
  /-- R395. -/
  | faultCauseClear (m : Master) (mask : Nat) (hw : BitVec 8)
  /-- R399. -/
  | reattachment
  /-- R464. -/
  | thermalTrip (lantern : Bool)
  /-- R464. -/
  | thermalRecovery (lantern : Bool)
  /-- R464. -/
  | caseTempWarn (milli : Int)
  /-- R437. -/
  | flitCrcFailure (again : Bool)
  /-- R437. -/
  | ucieRetrain
  /-- R438. -/
  | ucieWiden (m : Master) (value : Nat)
  /-- R438. -/
  | retrainComplete (failed : BitVec 16)
  /-- R440. -/
  | ucieLinkLost
  /-- R440. -/
  | ucieTrainingRetry
  /-- R440. -/
  | ucieTrained (failed : BitVec 16)
  /-- R467. -/
  | coldStart (vin : Bool) (osc : Int)
  /-- R457. -/
  | resetNRecognised
  /-- R449. -/
  | undervoltageReset
  /-- R450. -/
  | powerFailWarning (pin : Bool)
  /-- R450. -/
  | powerFailWarningEnd
  /-- R468. -/
  | railInWindow (rail : Fin 4)
  /-- R468. -/
  | railStartTimeout
  /-- R468. -/
  | regulationRestart
  /-- R471. -/
  | firmwareLoaded
  /-- R390. -/
  | marchTestComplete (results : Vector (Fin 3) 15)
  /-- R469. -/
  | readyEvent
  /-- R492. -/
  | glimGo (wake : Option (Fin 4))
  /-- R479. -/
  | glimDrainExpiry
  /-- R479. -/
  | glimReached
  /-- R480. -/
  | glimWakeTime
  /-- R481. -/
  | glimReturnComplete
  /-- R483. -/
  | blockClockStop (b : Fin 16)
  /-- R485. -/
  | snuffDraining (k : ResKind) (n : Nat)
  /-- R485. -/
  | snuffDrainLimit (k : ResKind) (n : Nat)
  /-- R485. -/
  | snuffDark (k : ResKind) (n : Nat)
  /-- R38. -/
  | rxPllRelock (ch : Chan)
  /-- R42. -/
  | prbsCheckerLock (ch : Chan) (errors : Nat)
  /-- R44. -/
  | rxCalComplete (ch : Chan)
  /-- R329. -/
  | portLanePllLocked (passage : Bool) (lane : Fin 16)
  /-- R464. -/
  | caseTempRearm (milli : Int)
  deriving DecidableEq, Repr

end Sys2Proof
end

