-- ==== Sys2Proof/Decode.lean ====
section
/-!
DEFINITION. The decoder over the table's bits. The table of operations and events gives no row any bits: a command comes
from a Sconce message, a register access or an event, and has no word. So no word spells a command, and each is refused.
-/

namespace Sys2Proof

/-- The command that a word spells by the table's bits: none, for the table gives no row any. -/
def decodeTableWord (_nbits _w : Nat) : Option Instr := none

end Sys2Proof
end

