-- ==== Sys2Proof/Config.lean ====
section
/-!
DEFINITION. What the manual leaves open: functions and values of which nothing is known but that they are values of the
right width. None has a body that a proof could use.
-/

namespace Sys2Proof.Config

/-- A value that the manual does not give: the `k`-th that a run takes, in `w` bits. -/
opaque freeValue (w k : Nat) : BitVec w

/-- What a hash takes for a field of R242 that a frame lacks and for which the table gives no value (R253). -/
opaque absentField (field : Nat) : Nat

/-- Whether a rule beyond the 117,964 that always fit finds a place (R246). -/
opaque rulePlaced (rule rules : Nat) : Bool

/-- KMAC256 with the customisation string of R405: key and message give 32 bytes. -/
opaque kmac256 (key message : List Byte) : Vector Byte 32

/-- SHAKE256 with an output of 256 bits. -/
opaque shake256 (message : List Byte) : Vector Byte 32

/-- Whether an XMSS signature of RFC 8391 verifies: public key, message, signature. -/
opaque xmssVerify (key message signature : List Byte) : Bool

/-- The XMSS signature that the part's own key makes with an index. -/
opaque xmssSign (index : Nat) (message : List Byte) : Vector Byte 4963

/-- What MasterCounterFloor shows when no counter will be accepted any more, since the series has ended (R406). -/
opaque floorEnded : BitVec 64

/-- A Garwen root public key, and whether the fuse that revokes root key 0 is blown (R368). -/
opaque rootKey (k : Nat) : List Byte
opaque root0Revoked : Bool

/-- The spare columns that a memory uses (R389), and the firmware that manufacture has stored in a slot. -/
opaque sparesUsed (mem : Nat) : BitVec 8
opaque factoryImage (slot : Nat) : List Byte

/-- The identity of the part: its first MAC address, the die identity, the package serial, the attestation public key
and certificate, and the trim of a channel's transmit and receive delay. -/
opaque baseMac : BitVec 48
opaque dieIdentity (die : Nat) : Vector Byte 16
opaque packageSerial : Vector Byte 12
opaque attestKey : Vector Byte 68
opaque attestCertificate : List Byte
opaque devTxDelay (channel : Nat) : Nat
opaque devRxDelay (channel : Nat) : Nat

/-- Whether a PTP profile requires the fraction of a one-step stamp in the correctionField (R201). -/
opaque correctionUsed (profile : Nat) : Bool

/-- The class of Passage frames that the manual sends without naming one: learn notices, and presence and link-local
frames. -/
opaque noticeClass : Fin 8
opaque presenceClass : Fin 8

/-- The oscillator's noise after some seconds of holdover, in picoseconds: R199 gives it at 8 h and 24 h only. -/
opaque oscNoise (seconds : Nat) : Nat

/-- The uncertainty that the model measured by its latest fit for a term of the budget of R199, after some seconds of
holdover, in picoseconds: R198 does not say how it is measured. -/
opaque modelUncertainty (term fit seconds : Nat) : Nat

/-- The integrity field (MIC or CRC) of a downstream PLOAM message as the recommendation of a generation defines it: the
integrity key of a registered terminal, and the ONU-ID, kind, sequence number and content (R50). -/
opaque ploamCheck (gen : Nat) (key : Option Nat) (message : List Nat) : Nat

end Sys2Proof.Config
end

