-- ==== Sys2Proof/Machine/ClockTypes.lean ====
section
/-!
DEFINITION. What the Wick block holds (R178 to R208): the counter and its increment in three copies, a step that waits,
the domains' estimates, the oscillator model's dwell, transmit timestamps, triggers and captures.
-/

namespace Sys2Proof.Machine

/-- A step that waits for the next Frame boundary (R183): towards a domain, to a written time, or by a signed offset. -/
inductive StepTarget where
  | domain (d : Nat)
  | time (t : Time)
  | offset (x : Int)
  deriving DecidableEq, Repr

/-- A domain's estimate (R188): domain time minus elapsed time at `t0`, and its rate in 2^-48; since when the estimate
has been stable; the latest inputs; the received clock class; counts of consecutive seconds. -/
structure DomSt where
  off : Int
  freq : Int
  t0 : Time
  since : Time
  lastSync : Time
  lastAnnounce : Time
  edge : Option Time
  /-- The latest Sync of a PTP port: its origin time and its ingress stamp (R191). -/
  sync : Option (Nat × Nat)
  todNext : Option Nat
  lastTod : Option Nat
  cls : Option Nat
  consistent : Nat
  better : Nat
  deriving DecidableEq, Repr

/-- An entry of a transmit timestamp queue (R202); the stamp counts 2^-16 ns. -/
structure TsEntry where
  seq : Nat
  type : Nat
  dom : Nat
  stamp : Nat
  deriving DecidableEq, Repr

/-- A trigger program (R205). -/
structure TrigProg where
  start : Time
  period : Nat
  width : Nat
  count : Nat
  polarity : Bool
  deriving DecidableEq, Repr

/-- A trigger output: the program that runs with the number of its next edge, and an armed one that waits. -/
structure TrigSt where
  running : Option (TrigProg × Nat)
  armed : Option TrigProg
  deriving DecidableEq, Repr

/-- The Wick block. -/
structure ClockSt where
  /-- Time since the supply came up, by the 40 MHz reference. -/
  elapsed : Time
  c0 : Nat
  c1 : Nat
  c2 : Nat
  i0 : Nat
  i1 : Nat
  i2 : Nat
  /-- The Second boundary and the Frame boundary served last. -/
  secondAt : Option Time
  frameAt : Option Time
  /-- The step that waits, and the instant of its decision. -/
  step : Option (StepTarget × Time)
  /-- What is left of the residual of a written step. -/
  residual : Int
  /-- The part of the increment in use that removes it. -/
  slewed : Int
  /-- The state that Acquiring came from was Expired. -/
  wasExpired : Bool
  /-- Consecutive qualifying Second boundaries (R185) and outliers (R189). -/
  qualify : Nat
  outliers : Nat
  /-- Locked was entered by a switch, so offsets are slewed out at TimeSwitchSlew. -/
  switched : Bool
  doms : Vector DomSt 2
  /-- When the model took over: instant and bin. -/
  modelAt : Time
  modelBin : Nat
  /-- The latest increment update from Lantern, and the latest recomputation of WICK_HOLD_EXPIRY. -/
  lastUpdate : Time
  lastExpiry : Time
  lastRefit : Time
  lockedSeconds : Nat
  dwell : Tab Nat
  startTemp : Int
  /-- The elapsed time at which the always-on rails started last (R182). -/
  since : Time
  /-- Discarded pulse edges and ToD messages (R188, R193). -/
  edgeDiscards : Nat
  todDiscards : Nat
  /-- The number of the model's latest fit, by which its measured uncertainties are known (R198). -/
  fit : Nat
  /-- The latest stamps of the ports' frames in 2^-16 ns: port `p` sent, 32 + `p` received (R200). -/
  stamps : Tab Nat
  /-- When a PTP port sent its messages of a type in the last second, and the unicast clients it has granted service (R191). -/
  ptpSent : Tab (List Time)
  ptpClients : Tab (List Nat)
  ts : Tab (List TsEntry)
  trigs : Vector TrigSt 8
  captures : Tab (List (Nat × Nat))
  lastEdge : Tab Nat
  deriving DecidableEq, Repr

/-- A domain before any input. -/
def DomSt.idle : DomSt := ⟨0, 0, 0, 0, 0, 0, none, none, none, none, none, 0, 0⟩

/-- The nominal increment, 25 ns. -/
def nominalInc : Nat := 107374182400

/-- The Wick block when the supply first comes up. -/
def ClockSt.start : ClockSt :=
  { elapsed := 0, c0 := 0, c1 := 0, c2 := 0, i0 := nominalInc, i1 := nominalInc, i2 := nominalInc, secondAt := none, frameAt := none,
    step := none, residual := 0, slewed := 0, wasExpired := false, qualify := 0, outliers := 0, switched := false,
    doms := .replicate 2 DomSt.idle, modelAt := 0, modelBin := 32, lastUpdate := 0, lastExpiry := 0, lastRefit := 0,
    lockedSeconds := 0, dwell := [], startTemp := 25000, since := 0, edgeDiscards := 0, todDiscards := 0, fit := 0, stamps := [], ptpSent := [], ptpClients := [], ts := [],
    trigs := .replicate 8 ⟨none, none⟩, captures := [], lastEdge := [] }

end Sys2Proof.Machine
end

