-- ==== Sys2Proof/Machine/FlowTypes.lean ====
section
/-!
DEFINITION. What the Gallery, classification, the traffic manager and Sump hold (R213 to R306), and the bonding state of
flows (R64 to R70).
-/

namespace Sys2Proof.Machine

/-- Where a frame came from (field 0 of R242). -/
inductive Ingress where
  | flow (f : Nat)
  | uplink (p : Nat)
  | passage (q : Nat)
  deriving DecidableEq, Repr

/-! ### The Gallery -/

/-- A learning entry (R216), without VALID and PARITY. -/
structure GalEntry where
  static : Bool
  pinned : Bool
  hit : Bool
  kind : Nat
  dest : Nat
  domain : Nat
  mac : Nat
  flow : Nat
  age : Nat
  moves : Nat
  moveSec : Nat
  deriving DecidableEq, Repr

/-- A learn request (R223). -/
structure LearnReq where
  domain : Nat
  mac : Nat
  kind : Nat
  dest : Nat
  flow : Nat
  deriving DecidableEq, Repr

/-- An open walk (R235). -/
structure Walk where
  cursor : Nat
  pos : Nat
  domain : Nat
  kind : Nat
  dest : Nat
  flags : Nat
  catchUp : List GalEntry
  rescan : Bool
  second : Bool
  lastNext : Time
  deriving DecidableEq, Repr

/-- A flush (R236); `flow` is set for the automatic flush of a flow (R237). -/
structure Flush where
  domain : Nat
  kind : Nat
  dest : Nat
  flow : Option Nat
  static : Bool
  tag : Option Nat
  deriving DecidableEq, Repr

/-- The Gallery: entries by position, the age order of the stash, the learn queues, walks, flushes, Lantern's static
shadow and the static keys that wait to be restored. -/
structure GallerySt where
  entries : Tab (Option GalEntry)
  stash : List Nat
  queues : Vector (List LearnReq) 4
  walks : List Walk
  nextCursor : Nat
  flushes : List Flush
  flushing : Bool
  shadow : List GalEntry
  lost : List (Nat × Nat)
  lostRules : List Nat
  /-- Indirection entries lost to parity, table × 256 + entry (R383). -/
  badIndir : List Nat
  learnPeak : Nat
  /-- The abort code of the latest command, and the master whose instance holds its result. -/
  abort : Nat
  lastBy : Nat
  /-- Frames discarded for the group bit of their source (R220), and when a terminal's spoof was last reported (R226). -/
  groupDrops : Nat
  spoofAt : Tab Time
  deriving DecidableEq, Repr

/-- The Gallery after reset. -/
def GallerySt.empty : GallerySt :=
  ⟨[], [], #v[[], [], [], []], [], 1, [], false, [], [], [], [], 0, 0, 0, 0, []⟩

/-! ### Classification -/

/-- The outcome of the profile stage (R248, R249). -/
structure Decision where
  forward : Nat
  domain : Nat
  cls : Nat
  colour : Nat
  policer : Nat
  queue : Nat
  flow : Nat
  spread : Nat
  group : Nat
  learn : Bool
  discard : Bool
  rule : Option Nat
  deriving DecidableEq, Repr

/-- The key of a fragment-follow record (R257). -/
structure FragKey where
  v6 : Bool
  src : Nat
  dst : Nat
  proto : Nat
  ident : Nat
  deriving DecidableEq, Repr

/-- A fragment-follow record, with the hash index of every table its first fragment used. -/
structure FragRec where
  key : FragKey
  outcome : Decision
  used : List (Nat × Nat)
  born : Time
  deriving DecidableEq, Repr

/-! ### Queues and Sump -/

/-- What stands for a flow where a frame has none, and for the OMCI path in a framer: no flow instance. -/
def noFlow : Nat := 65536

/-- A frame's descriptor in a queue: its first cell, its length L, the flow (`noFlow` none), class, colour, priority of
its sender's queue, when it was enqueued (Wick time), the release owner, and when it was found held for want of a key
(R63, R364). `hdr` is kept for the header work of egress; `hops` and `dir` for Passage. -/
structure QDesc where
  cell : Nat
  len : Nat
  flow : Nat
  cls : Nat
  colour : Nat
  at_ : Time
  owner : Nat
  held : Option Time
  /-- Destination device and further fields of a Passage frame: type, destination, source, tree bit, sequence number,
  hops, direction, domain; empty for other frames. -/
  psg : List Nat
  ptp : Bool
  /-- A broadcast frame (R359). -/
  bcast : Bool
  ingress : Ingress
  /-- Its FCS, or the CRC of a transit frame; the checkpoints recorded at ingress (R379); and the bytes that an edit may
  reach (R380). -/
  check : Nat
  points : List Nat
  head : List Byte
  deriving DecidableEq, Repr

/-- A held cell's tag (R291). -/
structure CellTag where
  refs : Nat
  owner : Nat
  pool : Nat
  next : Option Nat
  verdict : Nat
  first : Bool
  last : Bool
  deriving DecidableEq, Repr

/-- A scheduling node's buckets in units of 10^-9 × 2^-32 byte, when they last accrued, its two deficits as a child, and
whose turn it is among its own children, by pass × 8 + priority (R268 to R278). -/
structure NodeSt where
  committed : Int
  peak : Int
  at_ : Time
  defC : Int
  defE : Int
  turns : List (Nat × Nat)
  deriving DecidableEq, Repr

/-- A policer's buckets, in the same units (R280). -/
structure PolicerSt where
  c : Int
  p : Int
  at_ : Time
  deriving DecidableEq, Repr

/-- A message on a terminal's OMCI path (R57, R420). -/
structure OmciMsg where
  tag : Nat
  master : Nat
  bytes : List Byte
  deriving DecidableEq, Repr

/-- A bonding fragment: its group header's SEQ, F and L, payload bytes after the group header, the frame whose first
fragment it is, the first of its Sump cells while it is held, and when it came. -/
structure BondFrag where
  seq : Nat
  f : Bool
  l : Bool
  len : Nat
  hdr : Option FrameHdr
  cell : Option Nat
  since : Time
  deriving DecidableEq, Repr

/-- The receiver of a bonded flow (R67, R68). -/
structure BondRx where
  next : Nat
  lastA : Option Nat
  lastB : Option Nat
  held : List BondFrag
  /-- The frame that is open: its first fragment's header, the bytes so far, and the first Sump cells of its fragments. -/
  open_ : Option (Option FrameHdr × Nat × List Nat)
  taken : Time
  deriving DecidableEq, Repr

/-- What waits to be sent on one channel of a pair (R66, R275): a bonding fragment of a flow with its SEQ, F and L, or a
whole frame of a flow that uses one channel (`seq` none); with its length, whether it is a broadcast frame, and since when
it has been held for want of a key (R63). -/
structure BondOut where
  flow : Nat
  seq : Option Nat
  f : Bool
  l : Bool
  len : Nat
  bcast : Bool
  held : Option Time
  deriving DecidableEq, Repr

/-- The rest of a fragmented frame in a channel's framer: bytes left, the flow (`noFlow` for OMCI), the terminal, the
port-ID, the key (0 in clear, 1 and 2 the terminal's slots, 3 and 4 the channel's broadcast slots), the group header still
to be sent (R64), and whether it is a bonding fragment and a broadcast frame. -/
structure RestSt where
  left : Nat
  flow : Nat
  term : Nat
  port : Nat
  key : Nat
  head : Option Nat
  bonded : Bool
  bcast : Bool
  deriving DecidableEq, Repr

/-- The traffic manager and Sump. -/
structure TrafficSt where
  /-- Downstream queues 0 to 32,767, transmit queues from 65,536, and transit queues from 131,072 (R283, R284, R342). -/
  queues : Tab (List QDesc)
  omci : Tab (List OmciMsg)
  nodes : Tab (Option NodeSt)
  policers : Tab (Option PolicerSt)
  cells : Tab (Option CellTag)
  /-- Cells withdrawn for a tag error until the next rebuild (R383), with their pools. -/
  withdrawn : List (Nat × Nat)
  /-- Frames of purged queues, and free cells of emptied caches with their pool, until the reclaim sweep (R383). -/
  orphans : List QDesc
  emptied : List (Nat × Nat)
  /-- Pools whose Pressure has been signalled (R298). -/
  signalled : List Nat
  rebuilding : Bool
  /-- Delay alarms: queues whose last sample was above, and those whose alarm stands (R285). -/
  above : List Nat
  alarmed : List Nat
  /-- What is left of the frame in each channel's framer (R58). -/
  rest : Tab (Option RestSt)
  /-- The next sequence number of each bonded flow, what waits on each channel, and the sides (terminal and side) that
  take no fragment since the latest Frame boundary (R66). -/
  bondSeq : Tab Nat
  bondWait : Tab (List BondOut)
  solo : List (Nat × Nat)
  bondRx : Tab (Option BondRx)
  /-- The frames in transmission by cut-through whose verdict is pending: port and descriptor. -/
  cutting : List (Nat × QDesc)
  /-- Frames of each flow discarded for want of a key (R63). -/
  keyDrops : Tab Nat
  /-- Slots of each pipeline that frames have taken ahead of the cycles counted so far (R503). -/
  slotDebt : Vector Nat 6
  deriving DecidableEq, Repr

/-- The traffic manager after reset. -/
def TrafficSt.empty : TrafficSt := ⟨[], [], [], [], [], [], [], [], [], false, [], [], [], [], [], [], [], [], [], .replicate 6 0⟩

end Sys2Proof.Machine
end

