-- ==== Sys2Proof/Machine/FramerTypes.lean ====
section
/-!
DEFINITION. What a channel's downstream framer holds: its PLOAM queues and repeat sequences (R50 to R54) and announced
key switches (R62).
-/

namespace Sys2Proof.Machine

/-- The PLOAM messages that the device sends (R50); `relay` carries a host message of the relay type ID. -/
inductive Ploam where
  | burstProfile | assignOnuId | rangingTime | deactivate | disableSerial
  | requestRegistration | assignAllocId | keyControl | requestKey | keySwitchingTime | encryptedPortId | configurePortId
  | sleepAllow
  /-- The message of a GPON frame for which none is queued (R51). -/
  | noMessage
  | relay (typeId : Nat)
  deriving DecidableEq, Repr

/-- A queued message: the terminal (0xFFFF broadcast), the ONU-ID, its content, and the number of consecutive frames
that it takes (1 but for the repeat sequences of R52). Host messages carry their tag. -/
structure PloamMsg where
  kind : Ploam
  term : Nat
  onu : Nat
  body : List Nat
  times : Nat
  tag : Nat
  deriving DecidableEq, Repr

/-- A framer: the queues of the activation engine, of Lantern and of host software, the sequences that run, for how many
frames sequences have held every place, the switches announced (terminal and superframe counter), the messages sent in the
frame that the engines act on (kind, terminal and content), and the sequence number of the latest broadcast message. -/
structure FramerSt where
  act : List PloamMsg
  lan : List PloamMsg
  host : List PloamMsg
  running : List PloamMsg
  held : Nat
  chain : Bool
  switches : List (Nat × Nat)
  noted : List (Ploam × Nat × List Nat)
  bseq : Nat
  deriving DecidableEq, Repr

/-- A framer with nothing queued. -/
def FramerSt.idle : FramerSt := ⟨[], [], [], [], 0, false, [], [], 0⟩

end Sys2Proof.Machine
end

