-- ==== Sys2Proof/Machine/TermTypes.lean ====
section
/-!
DEFINITION. What the activation engine and Lantern hold for a terminal and for a channel beyond their objects (R91 to
R134), and the contents of burst profiles (R73 to R75).
-/

namespace Sys2Proof.Machine

/-- The content of a burst profile (R75). -/
structure Profile where
  preamble : Nat
  pattern : List Byte
  dbits : Nat
  delimiter : Nat
  threshold : Nat
  fec : Bool
  deriving DecidableEq, Repr

/-- A ranging window (R112): the frame and StartTime of its grant, its start and end, and what holds for it from the
Frame boundary at which the grant is sent (R79): profile 0, the equaliser preset, and the pre-assigned delay announced
(R110); and the bit of the window from which the search goes on (R82). -/
structure RangeWin where
  frame : Nat
  start : Nat
  lo : Time
  hi : Time
  prof : Profile
  code : Nat
  ePre : Int
  next : Nat
  deriving DecidableEq, Repr

/-- A terminal on one channel of its group. -/
structure SideSt where
  /-- When it was admitted (R129), and the offset of its serial-number response from the earliest position (R112). -/
  admitted : Time
  offset : Time
  /-- The frame whose map is to carry the ranging grant, whether it waits for the next epoch, and failed attempts. -/
  rangeAt : Option Nat
  retry : Bool
  attempts : Nat
  /-- The ranging window granted (R112). -/
  window : Option RangeWin
  /-- The delay E in force, in units of Ranging_Time (R113, R114), and the round-trip delay. -/
  eqd : Int
  rtd : Int
  /-- Registration requests sent, when the latest one was sent, and whether a matching reply has come (R106). -/
  asked : Nat
  askedAt : Time
  accepted : Bool
  /-- The frame in which the outstanding drift correction was sent (R119). -/
  correction : Option Nat
  /-- The last four arrival offsets, latest first, and this second's sum and number, in 1/64 bit (R118, R119). -/
  recent : List Int
  sum : Int
  number : Nat
  /-- Consecutive absent bursts (R121), when Lost was entered, and whether a Good burst has ended Lost (R122). -/
  absent : Nat
  lostAt : Time
  recovered : Bool
  /-- A PLOAM grant asked for (R138). -/
  ploam : Bool
  /-- Consecutive frames with stray light, and when each such light was found (R94, R129). -/
  strayRun : Nat
  strayAt : List Time
  /-- The map's frame from which the terminal's own bursts have been received, and its first burst seen (R31). -/
  seeded : Bool
  /-- The PLOAM integrity key that Lantern loads after registration, and the latest sequence number sent (R50). -/
  mik : Option Nat
  pseq : Nat
  deriving DecidableEq, Repr

/-- A terminal that is Idle on a channel. -/
def SideSt.idle : SideSt :=
  ⟨0, 0, none, false, 0, none, 0, 0, 0, 0, false, none, [], 0, 0, 0, 0, false, false, 0, [], false, none, 0⟩

/-- A terminal. -/
structure TermSt where
  a : SideSt
  b : SideSt
  /-- In an aware period of Sleep, and when its last Good burst arrived (R125). -/
  aware : Bool
  lastGood : Time
  /-- Since when its downstream queues have been empty (R123 note 2). -/
  emptySince : Option Time
  /-- The frame of the latest wake cause (R126), and the frame from which keep-alive frames are counted (R124). -/
  wakeFrame : Option Nat
  /-- The frame of the latest Sleep_Request and the power state that it found (R126). -/
  reqFrom : Option (Nat × Nat)
  aliveFrom : Nat
  deriving DecidableEq, Repr

/-- A terminal with nothing in progress. -/
def TermSt.idle : TermSt := ⟨.idle, .idle, false, 0, none, none, none, 0⟩

/-- A fixed quiet window (R109): the frame whose map grants it, its start and its length; what holds for it from the
Frame boundary at which its grant is sent (R26, R79): profile 0 and ChannelEqDefault; and the bit of the window from which
the search goes on (R82). -/
structure QuietWin where
  frame : Nat
  start : Time
  len : Time
  prof : Profile
  code : Nat
  next : Nat
  deriving DecidableEq, Repr

/-- A rogue hunt (R129): serial numbers still to be tried, the one that is silenced, the frame from which the step
observes, whether light was found meanwhile, whether the hunt is to end with the step, and whether the terminal has become
Dark meanwhile (R132). -/
structure HuntSt where
  todo : List (List Byte)
  cur : List Byte
  from_ : Nat
  lit : Bool
  abort : Bool
  snuffed : Bool
  deriving DecidableEq, Repr

/-- The activation engine's state for a channel. -/
structure ActSt where
  wins : List QuietWin
  /-- Granting frames of extra windows that are not fixed yet, and the frame of the latest periodic window fixed. -/
  extra : List Nat
  served : Nat
  /-- Of the window in progress: responses decoded, and the serial numbers found. -/
  decoded : Nat
  serials : List (List Byte)
  /-- Registration lockouts: serial number and end (R106). -/
  lockouts : List (List Byte × Time)
  /-- Consecutive lit frames (R93, R94). -/
  litRun : Nat
  /-- Start and end of the windows that have closed in the last millisecond (R92). -/
  pastWins : List (Time × Time)
  /-- The pre-assigned delay of the latest Burst_Profile message sent, in units (R110). -/
  ePre : Int
  /-- The observation of R128: terminal, first frame, and light found. -/
  watch : Option (Nat × Nat × Bool)
  hunt : Option HuntSt
  retryAt : Option Time
  /-- Terminal resets of R105 note 1, and drift reports that met an outstanding correction (R119). -/
  resets : Nat
  driftIgnored : Nat
  deriving DecidableEq, Repr

/-- A channel on which nothing is in progress. -/
def ActSt.idle : ActSt := ⟨[], [], 0, 0, [], [], 0, [], 0, none, none, none, 0, 0⟩

end Sys2Proof.Machine
end

