-- ==== Sys2Proof/Machine/GrantTypes.lean ====
section
/-!
DEFINITION. What the grant engine holds (R137 to R176): maps, orders, epochs, demand and the grant lanes. An allocation is
named by its instance, and a terminal's default allocation (R138) by 16,384 + terminal.
-/

namespace Sys2Proof.Machine

/-- The kind of a grant, for the order of R156. -/
inductive GKind where
  | keepAlive | ranging | recovery | ploam | coop | local_ | fill
  deriving DecidableEq, Repr

/-- A grant: one map entry. -/
structure Grant where
  alloc : Nat
  words : Nat
  report : Bool
  kind : GKind
  /-- The words of each local class that it holds: fixed, assured, non-assured, best-effort. -/
  parts : List Nat
  deriving DecidableEq, Repr

/-- A burst of a map (R152): it occupies the words from `start - lead` to `stop`. The profile's content is the one in
force when the burst is granted; `bad` says that the map names a disabled profile (R76). -/
structure Burst where
  term : Nat
  start : Nat
  stop : Nat
  lead : Nat
  profile : Nat
  prof : Profile
  bad : Bool
  ploam : Bool
  grants : List Grant
  deriving DecidableEq, Repr

/-- A computed map. -/
structure GMap where
  frame : Nat
  bursts : List Burst
  trimmed : Bool
  /-- Some allocation had reported demand that the map leaves unmet (R98). -/
  unmet : Bool
  /-- Ungranted words, and whether it is the quiet map of R168. -/
  idle : Nat
  quiet : Bool
  /-- The words, by their place in the map, that a majority of lanes gave another value than the engine's (R166). -/
  alt : List (Nat × Nat)
  deriving DecidableEq, Repr

/-- An expected burst with the parameters of the boundary that carried its grant (R79). -/
structure Expect where
  burst : Burst
  prof : Profile
  preset : Nat
  /-- The profile that the map named was disabled (R76). -/
  badProfile : Bool
  deriving DecidableEq, Repr

/-- The map of a frame that has been sent, until its upstream frame has been accounted. -/
structure Flight where
  frame : Nat
  quiet : Bool
  trimmed : Bool
  unmet : Bool
  window : Nat
  drift : Nat
  decrypt : Bool
  idle : Nat
  expected : List Expect
  /-- Payload words carried so far (R98), and bursts that are still to come. -/
  carried : Nat
  due : List Nat
  /-- The frame is lit, and the terminals with stray light in it (R93, R94). -/
  lit : Bool
  strays : List Nat
  deriving DecidableEq, Repr

/-- A cooperative order (R158). -/
structure Order where
  alloc : Nat
  frame : Nat
  start : Nat
  words : Nat
  at_ : Time
  /-- Accepted after the deadline of its map (reason 1). -/
  late : Bool
  deriving DecidableEq, Repr

/-- A channel in the grant engine: the epochs fixed, the current one first (start frame and length); maps computed and
not yet sent; maps sent; orders; the rotation pointer; the frame of the latest map; and whether that map was trimmed. -/
structure GrantCh where
  epochs : List (Nat × Nat)
  maps : List GMap
  flight : List Flight
  /-- The map whose upstream frame was accounted last: its bursts bound the gaps after it. -/
  past : Option Flight
  orders : List Order
  rot : Nat
  upTo : Nat
  trimmed : Bool
  /-- The confirmed FSYNC phase: the frame number of the edge, to which P of R163 adds ChannelEpochFsyncOffset. -/
  phase : Option Nat
  deriving DecidableEq, Repr

/-- A channel without maps. -/
def GrantCh.idle : GrantCh := ⟨[], [], [], none, [], 0, 0, false, none⟩

/-- An allocation's demand: the latest report (the map that asked for it, and its words), the estimate of R144, whether
its reports have been lost, the words granted in each of the last 16 maps, and a partial frame that waits (R87). -/
structure DemandSt where
  report : Option (Nat × Nat)
  lost : Bool
  est : Option Nat
  history : List (Nat × Nat)
  partial_ : Bool
  /-- Assign_Alloc-ID has been sent (R137). -/
  ready : Bool
  /-- Grants in the latest map, and the words of it. -/
  grants : Nat
  last : Nat
  deriving DecidableEq, Repr

/-- An allocation that has not reported. -/
def DemandSt.idle : DemandSt := ⟨none, false, none, [], false, false, 0, 0⟩

/-- A grant lane: frames in Shadow without disagreement; the lane whose state is copied into it, and whether that copy
has ended, so that its state memory holds the engine's state (R169); the ends in Out of its copies; and whether its copy
follows a release (R173). -/
structure GLaneSt where
  shadow : Nat
  source : Option Nat
  copied : Bool
  outs : List Time
  released : Bool
  deriving DecidableEq, Repr

/-- A lane at rest. -/
def GLaneSt.idle : GLaneSt := ⟨0, none, false, [], false⟩

/-- The grant engine. -/
structure GrantSt where
  chans : Tab GrantCh
  demand : Tab DemandSt
  lanes : Vector GLaneSt 3
  /-- A reload in progress: since when, and its frames in Shadow once the shadow has been written (R170). -/
  reload : Option (Time × Nat)
  /-- A reload that starts at the next Frame boundary, and the channels that it is due for. -/
  reloadDue : Bool
  affected : List Nat
  /-- The lanes that gave different words in the reload in progress (R170). -/
  differ : List (Nat × Nat)
  /-- The frame of the latest computation of maps. -/
  mapAt : Option Nat
  /-- The lanes have voted together since the engine started (R172). -/
  started : Bool
  /-- GL[0] drives alone until a second lane votes, after a write of 1 to GrantVoteEnable (R171). -/
  joining : Bool
  /-- The lane test (R173): lane, when it was ordered, whether the inverted map has been given, and whether it was voted
  out. -/
  test : Option (Nat × Time × Bool × Bool)
  /-- The latest FSYNC edge, the frame number P of the latest accepted one, and the edges ignored (R164). -/
  fsyncAt : Option Time
  fsyncP : Option Nat
  fsyncOk : Bool
  fsyncIgnored : Nat
  /-- The FSYNC-lost event of the present silence has been raised. -/
  fsyncLost : Bool
  /-- A raw write of VOTE_EN that waits for a reload to end (R177). -/
  voteLater : Option Bool
  deriving DecidableEq, Repr

/-- The grant engine after reset. -/
def GrantSt.idle : GrantSt := 
  ⟨[], [], .replicate 3 .idle, none, false, [], [], none, false, false, none, none, none, false, 0, false, none⟩

end Sys2Proof.Machine
end

