-- ==== Sys2Proof/Machine/LaneTypes.lean ====
section
/-!
DEFINITION. What the PON lanes and cages hold beyond their registers (R25 to R42).
-/

namespace Sys2Proof.Machine

/-- The lanes of a channel. -/
structure LaneSt where
  /-- The frame at whose start a lane in Starting enters Run (R39), and whether it comes from Fault (R38). -/
  runFrame : Nat
  fromFault : Bool
  /-- The armed measurement of R34: the terminal, and the Wick time of the request. -/
  rssi : Option (Nat × Time)
  /-- When the nap in progress ends (R40). -/
  napUntil : Option Time
  /-- A rerun of receive calibration in progress (R44). -/
  cal : Bool
  /-- The last instant at which the channel had an active terminal (R38 note 4). -/
  lastActive : Time
  /-- The equaliser code in use and the expected end of the previous burst (R27, R33). -/
  code : Nat
  lastEnd : Time
  /-- The check of R21 has kept the lanes Off. -/
  badPair : Bool
  deriving DecidableEq, Repr

/-- A cage's I2C relay: the requests that wait, oldest first, and whether the identity read is in progress (R35, R36). -/
structure CageSt where
  queue : List (List Byte)
  reading : Bool
  deriving DecidableEq, Repr

/-- A lane as it stands after reset. -/
def LaneSt.idle : LaneSt := ⟨0, false, none, none, false, 0, 6, 0, false⟩

/-- A cage as it stands after reset. -/
def CageSt.idle : CageSt := ⟨[], false⟩

end Sys2Proof.Machine
end

