-- ==== Sys2Proof/Machine/Lantern.lean ====
section
/-!
DEFINITION. The state of Lantern and of the functions the whole part shares: Sconce, the shadow's defaults, the UCIe
link, start-up and supply, the lifetime record, the stage buffer, Snuffs and rate limits.
-/

namespace Sys2Proof.Machine

/-- What Lantern holds for Sconce (R402 to R423). -/
structure LanternSt where
  masters : Vector MasterSt 3
  msgs : List Message
  nextMsg : Nat
  writes : List PendingWrite
  claims : List ClaimRec
  snaps : List Snap
  uploads : Vector Upload 2
  /-- The commissioning values in force as defaults (R422). -/
  commission : List CommRec
  commissionOutcome : Nat
  /-- Attestation requests that wait for signing (R372). -/
  attest : List AttestReq
  reports : Vector (List Byte) 3
  /-- When the latest report was signed. -/
  signedAt : Option Time
  /-- Next signature index (R371). -/
  sigNext : Nat
  /-- Keys of the write-once objects already written (R10). -/
  written : List Nat
  /-- The object of the latest refused write to a locked or write-once object (R11). -/
  lockRecord : Option (Nat × Nat)
  /-- Quarantined serial numbers beyond the 256 of the NVM (R131). -/
  rogueExtra : List (List Byte)
  /-- The channels whose ChannelAsymmetry has been written since the last change of generation or band (R117). -/
  asymHost : List Nat
  deriving DecidableEq, Repr

/-- The Lantern link and headless running (R396 to R399, R437 to R440). -/
structure UcieSt where
  headless : Bool
  since : Time
  /-- Set when Lantern kept running through the loss (R399). -/
  kept : Bool
  headEvents : List EventRec
  lostEvents : Nat
  /-- When the running training or retrain began, and the next retry is due. -/
  trainStart : Time
  /-- When the link was lost. -/
  lostAt : Time
  /-- Consecutive failed attempts of the flit in hand, and the failures of the running millisecond. -/
  attempts : Nat
  failWindow : List Time
  /-- Bytes waiting in the 64 KiB buffer (R439). -/
  upBytes : Nat
  /-- Whether the running retrain was ordered by UcieWiden (R438). -/
  widening : Bool
  deriving DecidableEq, Repr

/-- Start-up, supply and power states (R449, R450, R457, R467 to R483). -/
structure BootSt where
  vinUp : Bool
  resetLow : Bool
  /-- The rails in the order of R468: 0 always-on with the oscillator die, 1 NVM, 2 Lantern, 3 head-end. -/
  rails : Vector RailState 4
  /-- When a failed regulation sequence restarts. -/
  restartAt : Option Time
  /-- Lantern's firmware, or in recovery its boot code, serves Sconce; when it started; and the cause of the start. -/
  lanternUp : Bool
  lanternStart : Time
  recovery : Bool
  slot : Nat
  cause : Nat
  /-- The start event of kind 0x0B waits for reattachment (R399). -/
  startDue : Bool
  /-- The head-end die held in reset, and whether Lantern has configured it since. -/
  dieReset : Bool
  configured : Bool
  /-- Channels that the commissioning image enables (R469). -/
  imageChans : List Nat
  readyAt : Option Time
  /-- Entry to Glim: its Frame boundary F, as elapsed time; Glim itself with when it was reached; a wake held (R482), the
  ports that matched with the instant of the first match (R323), and the return in progress. -/
  glimEntry : Option Time
  glim : Bool
  glimAt : Time
  /-- The bins of case temperature and supply in force at Glim entry (R508). -/
  glimBins : Nat × Nat
  heldWake : Option Nat
  matched : Option (Time × List Nat)
  returning : Option Time
  /-- When Trim was entered (R38 note 4). -/
  trimSince : Time
  /-- The dies whose junction has tripped at 125 °C (R464), and whether a case warning stands. -/
  tripDie : Bool
  tripLantern : Bool
  caseWarned : Bool
  kick : Time
  /-- Blocks whose clock has stopped, and the latest register access of each (R483). -/
  clkStop : Nat
  clkLast : Tab Time
  /-- Configuration entries lost to memory errors until Lantern rewrites them (R383): kind and index. -/
  skipped : List (Nat × Nat)
  deriving DecidableEq, Repr

/-- The running lifetime record (R508 to R511): the latest completed save in elapsed time, the reason of the save in
progress, a warning's save that waits behind it (R452), the copy that the next save writes, the head-end counters as they
stood at the latest save, seconds with the oven ready, and the minute of each lane's latest margin measurement. -/
structure LifeSt where
  rec_ : LifeRec
  lastSave : Option Time
  saving : Option Nat
  queued : Bool
  nextCopy : Nat
  base : Tab Nat
  ovenSeconds : Nat
  measured : Tab Nat
  /-- By PON lane, the minute in which it last had a Good burst of at least 10,000 bits (R510). -/
  bright : Tab Nat
  /-- Counts of events that Lantern was not there to count, added at its next start. -/
  owed : List (Nat × Nat)
  /-- Holdover episodes, in seconds, that ended while Lantern was not there. -/
  owedHold : List Nat
  deriving DecidableEq, Repr

end Sys2Proof.Machine
end

