-- ==== Sys2Proof/Machine/PortTypes.lean ====
section
/-!
DEFINITION. What the uplink ports, the Passage ports and the cipher pool hold beyond their objects (R307 to R366).
-/

namespace Sys2Proof.Machine

/-- An uplink port: its lanes whose PLL is locked, the ends of the stops from the far end by class, the classes for
which a stop is announced with the instant and the length of the announcement, the classes whose pool is in Pressure,
and the open link's loss and wake. -/
structure UplinkSt where
  pll : Nat
  stops : Tab Time
  announced : Nat
  annAt : Time
  annFor : Time
  deriving DecidableEq, Repr

/-- An uplink port with nothing in progress. -/
def UplinkSt.idle : UplinkSt := ⟨0, [], 0, 0, 0⟩

/-- A Passage port: lanes whose PLL is locked, lanes that have lost lock or deskew and when they came back, TX_MAP and
RX_OK as received and whether the markers of one cycle disagreed, credit granted by the far end and cells sent, credit given to the far end, withheld and told, and its
part in time transfer. -/
structure PsgSt where
  pll : Nat
  lost : Nat
  back : Tab Time
  farMap : Nat
  farOk : Nat
  mixed : Bool
  granted : Vector Nat 8
  sent : Vector Nat 8
  given : Vector Nat 8
  withheld : Vector Nat 8
  told : Vector Nat 8
  toldAt : Time
  movedAt : Option Time
  /-- The latest SYNC: sequence, its stamp and its arrival; the egress stamp of our DELAY_REQ; class and steps removed. -/
  sync : Option (Nat × Nat × Nat × Nat)
  cls : Nat
  steps : Nat
  deriving DecidableEq, Repr

/-- A Passage port with nothing in progress. -/
def PsgSt.idle : PsgSt :=
  ⟨0, 0, [], 0, 0, false, .replicate 8 0, .replicate 8 0, .replicate 8 0, .replicate 8 0, .replicate 8 0, 0, none, none, 255, 255⟩

/-- A sequence window of R340: source, class, highest number, and the marked numbers. -/
structure SeqWindow where
  src : Nat
  cls : Nat
  high : Nat
  marks : List Nat
  deriving DecidableEq, Repr

/-- The cascade: the next sequence numbers, the number of the free value that is the nonce, the windows, when each
device was last heard on each port (device × 4 + port), the latest presence and SYNC sends, and the SYNC sequence. -/
structure CascadeSt where
  seqs : Vector Nat 8
  nonce : Nat
  windows : List SeqWindow
  heard : Tab Time
  presentAt : Time
  syncAt : Tab Time
  syncSeq : Nat
  deriving DecidableEq, Repr

/-- The cascade at power-up. -/
def CascadeSt.idle : CascadeSt := ⟨.replicate 8 0, 0, [], [], 0, [], 0⟩

/-- A terminal's key exchange (R61, R62, R356): wanted, running, frames to go until the switch, and whether the framer
already uses the next key while old fragments are sent out. -/
structure ExchSt where
  wanted : Bool
  running : Bool
  due : Option Nat
  used : Bool
  deriving DecidableEq, Repr

/-- A terminal with no exchange. -/
def ExchSt.idle : ExchSt := ⟨false, false, none, false⟩

/-- The cipher pool's keys and locks. Slots are numbered kind × 65,536 + slot as CIPH_KEY_SEL numbers them: terminal 0,
broadcast 1, secure association 2. -/
structure CipherSt where
  termKeys : Tab (List Byte)
  exch : Tab ExchSt
  /-- Frames until the ordered switch of a channel's broadcast key. -/
  bcastDue : Tab Nat
  /-- Frames for which a slot stays Previous. -/
  prev : Tab Nat
  /-- Slots whose soft limit has been reported. -/
  soft : List Nat
  locked : List Nat
  /-- The next packet number that a receive SA expects, and highest number a transmit SA has assigned at the limit. -/
  rxNext : Tab Nat
  /-- What the mask generators were keyed with last, and when. -/
  maskKey : List Byte
  maskAt : Time
  deriving DecidableEq, Repr

/-- The cipher pool after reset. -/
def CipherSt.idle : CipherSt := ⟨[], [], [], [], [], [], [], [], 0⟩

end Sys2Proof.Machine
end

