-- ==== Sys2Proof/Machine/Objects.lean ====
section
/-!
DEFINITION. The objects of the Sconce dictionary (R424 and the object table of every other chapter), as one closed
enumeration: a constructor per object, named as the manual names it. The objects of a node table that serves several
indices (note 1 of R288) carry the node's kind in their names.
-/

namespace Sys2Proof.Machine

/-- One object of the dictionary. The comment before each group is its index. -/
inductive Obj where
  -- 0x1000
  | deviceModel | deviceBaseMac | deviceUptime
  -- 0x1008
  | sconceUdpPort | inbandVlan | inbandPorts | inbandIpv4Address | inbandIpv6Address | sconceClaimTimeout
  | sconceAlertMask | sconceClaimBreak
  -- 0x1010
  | mgtEnable | mgtInterface | mgtIpv4Address | mgtIpv4Mask | mgtIpv4Gateway | mgtIpv6Address
  -- 0x1020
  | masterKey | masterKeySet | masterCounterFloor | masterEventMask | masterClaims
  -- 0x1028
  | sconceRequests | sconceAuthFailures | sconceReplays | sconceMalformed | sconceEventsLost | sconceSuperseded
  -- 0x1040
  | imageUpload | imageCommit | imageStatus | imageReceived
  -- 0x2000
  | startPhase | startCause | warmReset
  -- 0x2008
  | firmwareActivate | firmwareConfirm | firmwareTrialTime | firmwareTrialState
  -- 0x2010
  | firmwareSlotValid | firmwareSlotVersion
  -- 0x2020
  | devicePowerState | devicePowerStateActual | glimDrainTime | glimWakeAt | glimWakeCause | glimEpisodes
  -- 0x2030
  | snuffActive
  -- 0x2040
  | channelSnuff | channelSnuffMode | channelSnuffPhase
  -- 0x2400
  | supplyVoltage | supplyCurrent | supplyPower | caseTemperature | caseTempWarn | powerFailState | powerFailWarnings
  -- 0x2410
  | dieTemperature
  -- 0x3000
  | treeEnable | treePairMode | treeCagePlan
  -- 0x3010
  | channelGeneration | channelUpRate | channelEqDefault | channelEqTrack | channelTxSwing | channelTxPost
  | channelBrstOffset | channelBrstWidth | channelBrstPolarity | channelRssiRequest | channelRssiDelay
  | channelRssiWidth | channelTrimIdleDwell | channelLoopMode | channelPrbsPattern | channelPrbsErrors
  | channelLaneState | channelUpBand
  -- 0x3020
  | cageI2cRate | cageI2cRequest | cageI2cResult | cageModuleIdentity | cageModulePresent | cageI2cPullup
  -- 0x3040
  | terminalEqPresetA | terminalEqPresetB | terminalEqRecommendedA | terminalEqRecommendedB | terminalEqPinned
  -- 0x3100
  | channelDsFec | channelPloamPerFrame | channelKeySwitchLead | channelPloamRelay | channelPloamRelayResult
  | channelSuperframe
  -- 0x3200
  | channelUpSearchWindow | channelUpGuard | channelUpDriftThreshold | channelUpDecrypt | channelGapMonitor
  | channelGapMinLen | channelGapEnergyThreshold | channelRogueFrames | channelUpFrameDelay
  -- 0x3210
  | burstProfileEnable | burstProfilePreambleBits | burstProfilePreamblePattern | burstProfileDelimiterBits
  | burstProfileDelimiter | burstProfileThreshold | burstProfileFec
  -- 0x3220
  | upBurstsGood | upBurstsMissing | upHeaderErrors | upMisdirected | upLaneUnlocked | upCodewordsUncorrectable
  | upUnknownPortId | upForeignPortId | upPloamDiscarded | upKeyDiscards | upLitFrames | upProfileFaults
  | upReportsLost | upOverlong | upEarlyLight | upDelineationLosses | upPartialFrameDrops
  -- 0x3230
  | terminalUpBursts | terminalUpAbsent | terminalUpFecUncorrectable | terminalUpBitErrors | terminalUpOverlong
  | terminalArrivalOffsetA | terminalArrivalOffsetB
  -- 0x3800
  | channelQuietPeriod | channelQuietLength | channelQuietAt | channelQuietNext | channelReachMin | channelReachMax
  | channelAsymmetry | channelBoardTxDelay | channelBoardRxDelay | channelDevTxDelay | channelDevRxDelay
  | channelLossBursts | channelLostHold | channelDisableUnlisted | channelAuthLockout | channelRogueAction
  | channelRogueRetry | channelRogueState | channelTerminalsActive | channelSnResponsesExcess
  -- 0x3810
  | admitSerial | admitAction | admitTerminal | admitRegistrationId
  -- 0x3820
  | discoveredSerial | discoveredChannel | discoveredTime | discoveredReason | discoveredCount
  -- 0x3830
  | terminalEnable | terminalChannel | terminalBonded | terminalOnuId | terminalOnuIdAssigned | terminalSerial
  | terminalStateA | terminalStateB | terminalRegistrationId | terminalSnuffMode | terminalSnuffPhase
  | terminalDisableSnOnDark | terminalRogue | terminalRogueRelease
  -- 0x3840
  | terminalEqdA | terminalEqdB | terminalRtdA | terminalRtdB | terminalDsDelayA | terminalDsDelayB | terminalEqdCorrections
  -- 0x3850
  | terminalPowerModes | terminalSleepInterval | terminalAwareInterval | terminalKeepAliveFrames | terminalWakePriority
  | terminalSleepHoldBytes | terminalAwakeHold | terminalForceAwake | terminalPowerState
  -- 0x4000
  | allocEnable | allocTerminal | allocChannelB | allocIdValue | allocIdAssigned | allocType | allocFixedWords
  | allocFixedPeriod | allocFixedPhase | allocAssuredWords | allocNonAssuredWords | allocBestEffortWeight
  | allocMaxWords | allocCoopWords | allocCoopMargin | allocReport | allocSnuffPhase | allocDemandWords
  | allocGrantedWords | allocCoopGrantedWords
  -- 0x4010
  | terminalBurstProfile
  -- 0x4100
  | channelEpochFrames | channelEpochSync | channelEpochFsyncOffset | channelEpochIndex | channelTrimPercent
  | channelCommitLimit | channelCommittedWords | channelProbeWords | channelDefaultWeight | channelCoopHorizon
  | channelCoopTimeOffset
  -- 0x4110
  | grantQuietMaps | grantEntryDeferrals | grantWindowSkips | grantOverbooked | coopOrdersAccepted | coopOrdersRejected
  | coopOrdersLate | coopWordsClipped | epochAdjustments | trimmedFrames
  -- 0x4200
  | grantVoteEnable | grantLaneState0 | grantLaneState1 | grantLaneState2 | grantLaneTest | grantLaneTestResult
  | grantLaneRelease | grantLaneDisagreements0 | grantLaneDisagreements1 | grantLaneDisagreements2 | grantReloads
  | fsyncEdge | fsyncLostTimeout | coopUdpPort | coopEtherType | coopOrdersUnattributed
  -- 0x4300
  | coopPathId | coopAllocation | coopDevice
  -- 0x4800
  | flowTerminal | flowPortId | flowEncrypt | flowBondMode | flowPortIdB | flowBondFragThreshold | flowBondUpTimeout
  | flowUpEncryptRequired | flowEnable | flowSnuffMode | flowSnuffPhase
  -- 0x4810
  | bondFragmentsLost | bondFramesDiscarded | bondHeaderErrors | bondDuplicates | bondTimeouts
  -- 0x4880
  | omciSend | omciRxDiscards
  -- 0x5000
  | galleryAgeTime | galleryMoveLimit | galleryFlushOnLinkDown | galleryEntries | galleryStashUsed | galleryStaticEntries
  | galleryFlushQueue
  -- 0x5008
  | learnsInserted | stationMoves | movesDamped | spoofDrops | learnLimitExcess | learnQueueDrops | tablePressure
  | galleryParityErrors | staticRestores | agedOut | terminalToTerminalDrops | destinationDownDrops | hairpinDrops
  | staticConflicts
  -- 0x5010
  | galleryCommand | galleryResult
  -- 0x5100
  | domainEnable | domainMode | domainLearn | domainFloodUnknown | domainUplinks | domainPassage | domainCascadeLearn
  | domainSpoofAction | domainEntries | domainFloodFlows
  -- 0x5200
  | terminalLearnLimit | terminalLearnExcess | terminalSourceCheck | terminalLearnedEntries | terminalSpoofCount
  -- 0x5300
  | flowFloodDomain
  -- 0x5800
  | classHashSeed | classFragEnable | classFragLife | classTrapRate | classRulesUsed | classFragUsed
  -- 0x5808
  | classMisses | classNoDomain | classFlowDown | classTreeDirectDrops | spreadFailovers | spreadNoMember
  | fragFollowHits | fragFollowMisses | fragFollowFull | trapDrops | classParityErrors | classRuleRestores
  -- 0x5810
  | classProfileEnable | classProfileFields | classProfileFrameType | classProfileV4Prefix | classProfileV6Prefix
  | classProfileRules
  -- 0x5820
  | classGroupProfiles | classGroupDomain | classGroupClassSource | classGroupClass | classGroupMissAction
  -- 0x5830
  | portClassGroup
  -- 0x5831
  | flowClassGroup
  -- 0x5840
  | indirHashFields | indirEntries
  -- 0x5850
  | portSpreadAnchor | portSpreadTable
  -- 0x5860
  | flowSpreadPartner
  -- 0x5870
  | mcastUplinks | mcastPassage | mcastFlows
  -- 0x5900
  | classRuleValid | classRuleProfile | classRuleKey | classRuleForward | classRuleDomain | classRuleClass
  | classRuleColour | classRulePolicer | classRuleQueue | classRuleFlow | classRuleSpread | classRuleGroup
  | classRuleLearn | classRuleHits
  -- 0x6000
  | queueMismatchDrops | nodeMismatchDrops | queueAbsentDrops | snuffPurged | sampleSweeps
  -- 0x6010
  | queueNodePriority | queueNodeWeight | queueNodeCommittedRate | queueNodeCommittedBurst | queueNodePeakRate
  | queueNodePeakBurst | queueNodeOverheadProfile | queueNodeTokenReset | queueNodeCommittedTokens | queueNodePeakTokens
  | queueNodeBytesSent | queueNodeFramesSent | queueEnable | queueTerminal | queueSnuffMode | queueSnuffPhase
  | queueRequester | queueMaxBytes | queueMaxBytesYellow | queueMaxBytesRed | queueDepthBytes | queueHeadDelay
  | queueDepthMax | queueDelayMax | queueDelayAlarm | queueTailDrops | queueClosedDrops
  -- 0x6020
  | terminalNodePriority | terminalNodeWeight | terminalNodeCommittedRate | terminalNodeCommittedBurst
  | terminalNodePeakRate | terminalNodePeakBurst | terminalNodeOverheadProfile | terminalNodeTokenReset
  | terminalNodeCommittedTokens | terminalNodePeakTokens | terminalNodeBytesSent | terminalNodeFramesSent
  | terminalNodeParent
  -- 0x6030
  | cgNodePriority | cgNodeWeight | cgNodeCommittedRate | cgNodeCommittedBurst | cgNodePeakRate | cgNodePeakBurst
  | cgNodeOverheadProfile | cgNodeTokenReset | cgNodeCommittedTokens | cgNodePeakTokens | cgNodeBytesSent
  | cgNodeFramesSent | cgNodeChannel | cgNodeBonded
  -- 0x6040
  | treeNodePriority | treeNodeWeight | treeNodeCommittedRate | treeNodeCommittedBurst | treeNodePeakRate
  | treeNodePeakBurst | treeNodeOverheadProfile | treeNodeTokenReset | treeNodeCommittedTokens | treeNodePeakTokens
  | treeNodeBytesSent | treeNodeFramesSent
  -- 0x6050
  | aggregateNodePriority | aggregateNodeWeight | aggregateNodeCommittedRate | aggregateNodeCommittedBurst
  | aggregateNodePeakRate | aggregateNodePeakBurst | aggregateNodeOverheadProfile | aggregateNodeTokenReset
  | aggregateNodeCommittedTokens | aggregateNodePeakTokens | aggregateNodeBytesSent | aggregateNodeFramesSent
  -- 0x6060
  | txQueueNodePriority | txQueueNodeWeight | txQueueNodeCommittedRate | txQueueNodeCommittedBurst | txQueueNodePeakRate
  | txQueueNodePeakBurst | txQueueNodeOverheadProfile | txQueueNodeTokenReset | txQueueNodeCommittedTokens
  | txQueueNodePeakTokens | txQueueNodeBytesSent | txQueueNodeFramesSent | txQueueRequester | txQueueMaxBytes
  | txQueueMaxBytesYellow | txQueueMaxBytesRed | txQueueDepthBytes | txQueueHeadDelay | txQueueDepthMax
  | txQueueDelayMax | txQueueDelayAlarm | txQueueTailDrops
  -- 0x6070
  | portNodePriority | portNodeWeight | portNodeCommittedRate | portNodeCommittedBurst | portNodePeakRate
  | portNodePeakBurst | portNodeOverheadProfile | portNodeTokenReset | portNodeCommittedTokens | portNodePeakTokens
  | portNodeBytesSent | portNodeFramesSent
  -- 0x6080
  | flowQueue
  -- 0x6090
  | overheadBytes
  -- 0x6200
  | policerCir | policerCbs | policerPir | policerPbs | policerColourAware | policerRedAction | policerOverheadProfile
  | policerTokenReset | greenFrames | yellowFrames | redFrames | greenBytes | yellowBytes | redBytes
  -- 0x6800
  | sumpCellsUnassigned | sumpBondRequester
  -- 0x6808
  | quotaDrops | colourDrops | poolEmptyDrops | midFrameDrops | borrows | doubleFrees | foreignFrees | verdictDrops
  | poolDisabledDrops
  -- 0x6810
  | poolEnable | poolCells | poolFallback | poolNoticeCells | poolPressureCells | poolShedCells | poolHysteresisCells
  | poolCellsHeld | poolCellsLent | poolSharedFree | poolState
  -- 0x6820
  | requesterPool | requesterMinCells | requesterMaxCells | requesterCellsHeld | requesterCellsBorrowed
  | requesterHighWater | requesterDrops
  -- 0x6830
  | sumpSourcePool
  -- 0x6C00
  | uplinkQuadMode | uplinkQuadPolarity
  -- 0x6C10
  | uplinkEnable | uplinkFec | uplinkMaxFrame | uplinkFlowControl | uplinkPauseHonour | uplinkPfcClasses
  | uplinkPauseQuanta | uplinkMacAddress | uplinkLinkDownHold | uplinkLinkState | uplinkSnuffMode | uplinkSnuffPhase
  | uplinkCutThrough | uplinkLoop | uplinkMacsecEnable | uplinkMacsecValidate | uplinkMacsecPtpClear | uplinkWakeMode
  | uplinkWakePattern | uplinkWakeMask
  -- 0x6C20
  | uplinkRxFrames | uplinkRxBytes | uplinkTxFrames | uplinkTxBytes | uplinkDropCode | uplinkDropRunt
  | uplinkDropOversize | uplinkDropFcs | uplinkDropMacControl | uplinkPauseHonoured | uplinkPauseIgnored
  | uplinkPauseSent | uplinkTxAborted | uplinkTxOversize | uplinkTxLinkDownDrops | uplinkTxClosedDrops
  | uplinkMacsecUntagged | uplinkFecCorrected | uplinkFecUncorrectable | uplinkWakeMatches
  -- 0x7000
  | passageDeviceId | passageRingPorts | passageHopLimit | passageLatencyBudget | passageTransitRequester
  | passageCreditCells | passageReachTimeout | passageIdConflict
  -- 0x7010
  | passagePortEnable | passageLaneEnable | passagePortState | passageTxLanes | passageRxLanes | passageNeighbour
  | passageSnuffMode | passageSnuffPhase | passageTimeServe | passagePortAsymmetry
  -- 0x7020
  | passageLaneState | passageLaneSkew | passageLaneSnuffPhase
  -- 0x7030
  | passageRxFrames | passageTxFrames | passageCrcErrors | passageHeaderErrors | passageDuplicates | passageStale
  | passageHopDrops | passageLoopDrops | passageNoRoute | passageTxAborted | passageUntracked | passageStuffViolations
  | passageLaneLosses | passageDegradedEntries
  -- 0x7040
  | passageRoute | passageReachable
  -- 0x7400
  | wickState | wickTime | wickSetTime | wickIncrement | wickStepCount | wickCounterMismatches | timeAcquireSlew
  | timeQualifyThreshold | timeSwitchSlew | timeSwitchMaxOffset | timeOutlierLimit | timeHoldoverLimit
  | timeHoldoverEstimate | timeHoldoverElapsed | timeModelLearnedHours | timeModelBinsLearned | timeModelReset
  | timeServoBandwidth | timeSelectedDomain | ovenState | oscCaseTemperature
  -- 0x7410
  | timeDomainSource | timeDomainPorts | timeDomainProfile | timeDomainNumber | timeDomainPriority | timeDomainRevertive
  | timeDomainWtr | timeDomainClockClassManual | timeDomainTodFormat | timeDomainTodConvention | timeDomainTodBaud
  | timeDomainUtcOffset | timeDomainPpsDelay | timeDomainState | timeDomainOffset | timeDomainClockClass
  | timeDomainSlavePort
  -- 0x7420
  | ptpPortEnable | ptpPortRole | ptpPortProfile | ptpPortDomainNumber | ptpPortOneStep | ptpPortLogSync
  | ptpPortLogDelayReq | ptpPortLogAnnounce | ptpPortIngressDelay | ptpPortEgressDelay | ptpPortAsymmetry
  | ptpPortUnicastMax | ptpPortState
  -- 0x7430
  | tsQueueLevel | tsQueueHighWater | tsQueueLost
  -- 0x7440
  | lostStampPort | lostStampSequenceId | lostStampMessageType | lostStampDomain | lostStampTime | lostStampStepCount
  -- 0x7441
  | lostStampTotal | lostStampNewest
  -- 0x7450
  | ppsOutEnable | ppsOutWidth | ppsOutAdvance | ppsOutSquelch
  -- 0x7458
  | todOutEnable | todOutBaud
  -- 0x7460
  | freqOutEnable | freqOutHz | freqOutSquelch
  -- 0x7470
  | trigStart | trigPeriod | trigWidth | trigCount | trigPolarity | trigSquelch | trigArm | trigState
  | trigLateCount
  -- 0x7480
  | captEnable | captEdge | captDelay | captNext | captPending | captOverflows | captIgnored
  -- 0x7490
  | channelTodReference
  -- 0x74A0
  | terminalTodReferenceA | terminalTodReferenceB
  -- 0x7800
  | cipherCoresAllotted | cipherCoresFree | entropyState | entropyFailures | ponKeySoftLimit | ponKeyHardLimit
  -- 0x7810
  | keySlotState | keySlotUsage
  -- 0x7820
  | bcastKey | bcastKeyLock | bcastKeyState | bcastKeyUsage
  -- 0x7828
  | channelBcastKeySwitch
  -- 0x7840
  | saEnable | saPort | saDirection | saAn | saSuite | saSci | saSsci | saSalt | saKey | saInitialPn | saPnSoft
  | saPnHard | saLock | saState | saNextPn | saSnuffPhase
  -- 0x7850
  | macsecTxAn | macsecCipherCeiling | macsecReplayWindow | macsecPortEnable
  -- 0x7858
  | macsecTxProtected | macsecRxOk | macsecRxBadTag | macsecRxNoSa | macsecRxLate | macsecNoSaDrops
  -- 0x7900
  | firmwareSlotActive | firmwareDigest | firmwareVersion | firmwareRollbackFloor | firmwareRollbackCommit
  | configDigest | commissionKey
  -- 0x7910
  | attestRequest | attestStatus | attestReport
  -- 0x7920
  | attestPublicKey | attestCertificate | attestIndexNext | attestIndexRemaining
  -- 0x7B20
  | dieIdentity
  -- 0x7B28
  | packageSerial
  -- 0x7C00
  | integrityScrubEnable | integrityMonitorEnable | integrityGuarantee | faultCause | faultCauseClear
  | faultMask | scrubPasses | busParityErrors | watchdogExpiries | regulatorFaults | oscillatorLosses
  | headlessEpisodes | headlessLastDuration
  -- 0x7C10
  | memCorrected | memUncorrectable | memLastAddress | memTestResult | memSparesUsed
  -- 0x7C20
  | ucieLinkState | ucieWidth | ucieWiden | ucieCrcErrors | ucieRetries | ucieRetrains | ucieDegrades
  | ucieLinkLosses | ucieUpDrops
  -- 0x8000
  | counterSnapshot | counterEventLimit | counterOverflowsSuppressed
  -- 0x8010
  | counterEvent | counterInstance | counterEnable | counterMode | counterPreload | counterValue | counterOverflow
  | counterOverflowClear | counterSecondValue
  -- 0x8020
  | unitStart | unitStop | unitSecondLatch
  -- 0x8100
  | slotsRetired | slotsWasted | slotsFrontStarved | slotsBackStarved | slotsPending | slotsTotal
  -- 0x8110
  | upWordsCarried | upWordsBlocked | upWordsStarved | upWordsIdle | upFramesAccounted
  -- 0x8200
  | lineSecond | lineErroredSeconds
  -- 0x8800
  | lifetimeRecord | lifetimeRecordState | lifetimeSave | lifetimeLastSave
  -- 0xF000
  | rawRegister
  -- 0xF001
  | rawRegisterObjects
  -- 0xF0F0
  | rawWindowMasters | regLockViolation | regWriteLost | regLockViolations | regWritesLost
  deriving DecidableEq

end Sys2Proof.Machine
end

