-- ==== Sys2Proof/Machine/ObjectTypes.lean ====
section
/-!
DEFINITION. What a row of an object table says: the type encodings of R409, the access rights of R10, the boundary
classes of R14, and the values an object may hold.
-/

namespace Sys2Proof.Machine

/-- A type of R409. `octRange a b` is OCTETS(a–b), `octRange n n` OCTETS(n) and `octOr a b` OCTETS(a or b). -/
inductive Ty where
  | bool | u8 | u16 | u32 | u64 | i32 | i64 | time96 | mac
  | octRange (a b : Nat)
  | octOr (a b : Nat)
  deriving DecidableEq, Repr

/-- An access right of R10. -/
inductive Access where
  | ro | rw | wo | rwl | wo1 | const
  deriving DecidableEq, Repr

/-- A boundary class of R14; `none` for an object that is not writable. -/
inductive BClass where
  | immediate | packet | frame | epoch | second | none
  deriving DecidableEq, Repr

/-- The value of an object: a number, or an octet string. `unset` stands in the store for a default that depends on
other objects or on the part (the generation's burst profile of R75, a quad's FEC of R308, a suite's limits of R363,
the identity of the part), which a read resolves. -/
inductive Val where
  | unset
  | num (v : Int)
  | oct (bs : List Byte)
  deriving DecidableEq, Repr

/-- A row of an object table. An empty list of intervals leaves the whole of the type; `dflt` is given the instance. -/
structure ObjInfo where
  ty : Ty
  acc : Access
  cls : BClass
  count : Nat
  range : List (Int × Int)
  dflt : Nat → Val

/-- A string of zero bytes, the default that the tables call "zeros". -/
def zeros (n : Nat) : Val := .oct (List.replicate n 0)

/-- The ASCII bytes of a text. -/
def asciiBytes (t : String) : List Byte := t.toList.map fun c => BitVec.ofNat 8 c.toNat

/-- The channel that channel-group node `i` serves by default (R264). -/
def cgDefaultChannel (i : Nat) : Int :=
  if i < 32 then i else if i < 48 then 2 * (i - 32) else 255

/-- Whether channel-group node `i` serves a bonded pair by default (R264). -/
def cgDefaultBonded (i : Nat) : Bool := 32 ≤ i && i < 48

/-- Bytes of a value of the type: the shortest, where the length varies. -/
def Ty.minLen : Ty → Nat
  | .bool | .u8 => 1
  | .u16 => 2
  | .u32 | .i32 => 4
  | .u64 | .i64 => 8
  | .time96 => 12
  | .mac => 6
  | .octRange a _ => a
  | .octOr a b => min a b

/-- Whether a value of the type may have this many bytes. -/
def Ty.lenOk (t : Ty) (n : Nat) : Bool :=
  match t with
  | .octRange a b => a ≤ n && n ≤ b
  | .octOr a b => n == a || n == b
  | t => n == t.minLen

/-- Whether the type is encoded in two's complement. -/
def Ty.isSigned : Ty → Bool
  | .i32 | .i64 => true
  | _ => false

/-- Whether the type is an octet string. -/
def Ty.isOct : Ty → Bool
  | .octRange _ _ | .octOr _ _ => true
  | _ => false

/-- The value that a byte string of the right length encodes (R409). -/
def Ty.parse (t : Ty) (bs : List Byte) : Val :=
  if t.isOct then .oct bs
  else if t.isSigned then .num (signed (8 * t.minLen) (beNat bs))
  else .num (beNat bs)

/-- The bytes that encode a value (R409). -/
def Ty.encode (t : Ty) : Val → List Byte
  | .oct bs => bs
  | .num v => beBytes t.minLen (twos (8 * t.minLen) v)
  | .unset => List.replicate t.minLen 0

/-- Whether the value lies in one of the intervals of a row, or the row leaves the whole type. -/
def ObjInfo.inRange (r : ObjInfo) : Val → Bool
  | .num v =>
    (match r.ty with | .bool => 0 ≤ v && v ≤ 1 | _ => true) &&
    (r.range.isEmpty || r.range.any fun p => p.1 ≤ v && v ≤ p.2)
  | _ => true

end Sys2Proof.Machine
end

