-- ==== Sys2Proof/Machine/ObjectTable.lean ====
section
/-!
DEFINITION. The object tables of the manual, row for row: index and subindex, type, access, boundary class, number of
instances, default and permitted range of every object of the dictionary.
-/

namespace Sys2Proof.Machine

/-- Index × 256 + subindex of an object, from the object tables. -/
def Obj.code : Obj → Nat
  | .deviceModel => 0x100001
  | .deviceBaseMac => 0x100002
  | .deviceUptime => 0x100003
  | .sconceUdpPort => 0x100801
  | .inbandVlan => 0x100802
  | .inbandPorts => 0x100803
  | .inbandIpv4Address => 0x100804
  | .inbandIpv6Address => 0x100805
  | .sconceClaimTimeout => 0x100806
  | .sconceAlertMask => 0x100807
  | .sconceClaimBreak => 0x100808
  | .mgtEnable => 0x101001
  | .mgtInterface => 0x101002
  | .mgtIpv4Address => 0x101003
  | .mgtIpv4Mask => 0x101004
  | .mgtIpv4Gateway => 0x101005
  | .mgtIpv6Address => 0x101006
  | .masterKey => 0x102001
  | .masterKeySet => 0x102002
  | .masterCounterFloor => 0x102003
  | .masterEventMask => 0x102004
  | .masterClaims => 0x102005
  | .sconceRequests => 0x102801
  | .sconceAuthFailures => 0x102802
  | .sconceReplays => 0x102803
  | .sconceMalformed => 0x102804
  | .sconceEventsLost => 0x102805
  | .sconceSuperseded => 0x102806
  | .imageUpload => 0x104001
  | .imageCommit => 0x104002
  | .imageStatus => 0x104003
  | .imageReceived => 0x104004
  | .startPhase => 0x200001
  | .startCause => 0x200002
  | .warmReset => 0x200003
  | .firmwareActivate => 0x200801
  | .firmwareConfirm => 0x200802
  | .firmwareTrialTime => 0x200803
  | .firmwareTrialState => 0x200804
  | .firmwareSlotValid => 0x201001
  | .firmwareSlotVersion => 0x201002
  | .devicePowerState => 0x202001
  | .devicePowerStateActual => 0x202002
  | .glimDrainTime => 0x202003
  | .glimWakeAt => 0x202004
  | .glimWakeCause => 0x202005
  | .glimEpisodes => 0x202006
  | .snuffActive => 0x203001
  | .channelSnuff => 0x204001
  | .channelSnuffMode => 0x204002
  | .channelSnuffPhase => 0x204003
  | .supplyVoltage => 0x240001
  | .supplyCurrent => 0x240002
  | .supplyPower => 0x240003
  | .caseTemperature => 0x240004
  | .caseTempWarn => 0x240005
  | .powerFailState => 0x240006
  | .powerFailWarnings => 0x240007
  | .dieTemperature => 0x241001
  | .treeEnable => 0x300001
  | .treePairMode => 0x300002
  | .treeCagePlan => 0x300003
  | .channelGeneration => 0x301001
  | .channelUpRate => 0x301002
  | .channelEqDefault => 0x301003
  | .channelEqTrack => 0x301004
  | .channelTxSwing => 0x301005
  | .channelTxPost => 0x301006
  | .channelBrstOffset => 0x301007
  | .channelBrstWidth => 0x301008
  | .channelBrstPolarity => 0x301009
  | .channelRssiRequest => 0x30100A
  | .channelRssiDelay => 0x30100B
  | .channelRssiWidth => 0x30100C
  | .channelTrimIdleDwell => 0x30100D
  | .channelLoopMode => 0x30100E
  | .channelPrbsPattern => 0x30100F
  | .channelPrbsErrors => 0x301010
  | .channelLaneState => 0x301011
  | .channelUpBand => 0x301012
  | .cageI2cRate => 0x302001
  | .cageI2cRequest => 0x302002
  | .cageI2cResult => 0x302003
  | .cageModuleIdentity => 0x302004
  | .cageModulePresent => 0x302005
  | .cageI2cPullup => 0x302006
  | .terminalEqPresetA => 0x304001
  | .terminalEqPresetB => 0x304002
  | .terminalEqRecommendedA => 0x304003
  | .terminalEqRecommendedB => 0x304004
  | .terminalEqPinned => 0x304005
  | .channelDsFec => 0x310001
  | .channelPloamPerFrame => 0x310002
  | .channelKeySwitchLead => 0x310003
  | .channelPloamRelay => 0x310004
  | .channelPloamRelayResult => 0x310005
  | .channelSuperframe => 0x310006
  | .channelUpSearchWindow => 0x320001
  | .channelUpGuard => 0x320002
  | .channelUpDriftThreshold => 0x320003
  | .channelUpDecrypt => 0x320004
  | .channelGapMonitor => 0x320005
  | .channelGapMinLen => 0x320006
  | .channelGapEnergyThreshold => 0x320007
  | .channelRogueFrames => 0x320008
  | .channelUpFrameDelay => 0x320009
  | .burstProfileEnable => 0x321001
  | .burstProfilePreambleBits => 0x321002
  | .burstProfilePreamblePattern => 0x321003
  | .burstProfileDelimiterBits => 0x321004
  | .burstProfileDelimiter => 0x321005
  | .burstProfileThreshold => 0x321006
  | .burstProfileFec => 0x321007
  | .upBurstsGood => 0x322001
  | .upBurstsMissing => 0x322002
  | .upHeaderErrors => 0x322003
  | .upMisdirected => 0x322004
  | .upLaneUnlocked => 0x322005
  | .upCodewordsUncorrectable => 0x322006
  | .upUnknownPortId => 0x322007
  | .upForeignPortId => 0x322008
  | .upPloamDiscarded => 0x322009
  | .upKeyDiscards => 0x32200A
  | .upLitFrames => 0x32200B
  | .upProfileFaults => 0x32200C
  | .upReportsLost => 0x32200D
  | .upOverlong => 0x32200E
  | .upEarlyLight => 0x32200F
  | .upDelineationLosses => 0x322010
  | .upPartialFrameDrops => 0x322011
  | .terminalUpBursts => 0x323001
  | .terminalUpAbsent => 0x323002
  | .terminalUpFecUncorrectable => 0x323003
  | .terminalUpBitErrors => 0x323004
  | .terminalUpOverlong => 0x323005
  | .terminalArrivalOffsetA => 0x323006
  | .terminalArrivalOffsetB => 0x323007
  | .channelQuietPeriod => 0x380001
  | .channelQuietLength => 0x380002
  | .channelQuietAt => 0x380003
  | .channelQuietNext => 0x380004
  | .channelReachMin => 0x380005
  | .channelReachMax => 0x380006
  | .channelAsymmetry => 0x380007
  | .channelBoardTxDelay => 0x380008
  | .channelBoardRxDelay => 0x380009
  | .channelDevTxDelay => 0x38000A
  | .channelDevRxDelay => 0x38000B
  | .channelLossBursts => 0x38000C
  | .channelLostHold => 0x38000D
  | .channelDisableUnlisted => 0x38000E
  | .channelAuthLockout => 0x38000F
  | .channelRogueAction => 0x380010
  | .channelRogueRetry => 0x380011
  | .channelRogueState => 0x380012
  | .channelTerminalsActive => 0x380013
  | .channelSnResponsesExcess => 0x380014
  | .admitSerial => 0x381001
  | .admitAction => 0x381002
  | .admitTerminal => 0x381003
  | .admitRegistrationId => 0x381004
  | .discoveredSerial => 0x382001
  | .discoveredChannel => 0x382002
  | .discoveredTime => 0x382003
  | .discoveredReason => 0x382004
  | .discoveredCount => 0x382005
  | .terminalEnable => 0x383001
  | .terminalChannel => 0x383002
  | .terminalBonded => 0x383003
  | .terminalOnuId => 0x383004
  | .terminalOnuIdAssigned => 0x383005
  | .terminalSerial => 0x383006
  | .terminalStateA => 0x383007
  | .terminalStateB => 0x383008
  | .terminalRegistrationId => 0x383009
  | .terminalSnuffMode => 0x38300A
  | .terminalSnuffPhase => 0x38300B
  | .terminalDisableSnOnDark => 0x38300C
  | .terminalRogue => 0x38300D
  | .terminalRogueRelease => 0x38300E
  | .terminalEqdA => 0x384001
  | .terminalEqdB => 0x384002
  | .terminalRtdA => 0x384003
  | .terminalRtdB => 0x384004
  | .terminalDsDelayA => 0x384005
  | .terminalDsDelayB => 0x384006
  | .terminalEqdCorrections => 0x384007
  | .terminalPowerModes => 0x385001
  | .terminalSleepInterval => 0x385002
  | .terminalAwareInterval => 0x385003
  | .terminalKeepAliveFrames => 0x385004
  | .terminalWakePriority => 0x385005
  | .terminalSleepHoldBytes => 0x385006
  | .terminalAwakeHold => 0x385007
  | .terminalForceAwake => 0x385008
  | .terminalPowerState => 0x385009
  | .allocEnable => 0x400001
  | .allocTerminal => 0x400002
  | .allocChannelB => 0x400003
  | .allocIdValue => 0x400004
  | .allocIdAssigned => 0x400005
  | .allocType => 0x400006
  | .allocFixedWords => 0x400007
  | .allocFixedPeriod => 0x400008
  | .allocFixedPhase => 0x400009
  | .allocAssuredWords => 0x40000A
  | .allocNonAssuredWords => 0x40000B
  | .allocBestEffortWeight => 0x40000C
  | .allocMaxWords => 0x40000D
  | .allocCoopWords => 0x40000E
  | .allocCoopMargin => 0x40000F
  | .allocReport => 0x400010
  | .allocSnuffPhase => 0x400011
  | .allocDemandWords => 0x400012
  | .allocGrantedWords => 0x400013
  | .allocCoopGrantedWords => 0x400014
  | .terminalBurstProfile => 0x401001
  | .channelEpochFrames => 0x410001
  | .channelEpochSync => 0x410002
  | .channelEpochFsyncOffset => 0x410003
  | .channelEpochIndex => 0x410004
  | .channelTrimPercent => 0x410005
  | .channelCommitLimit => 0x410006
  | .channelCommittedWords => 0x410007
  | .channelProbeWords => 0x410008
  | .channelDefaultWeight => 0x410009
  | .channelCoopHorizon => 0x41000A
  | .channelCoopTimeOffset => 0x41000B
  | .grantQuietMaps => 0x411001
  | .grantEntryDeferrals => 0x411002
  | .grantWindowSkips => 0x411003
  | .grantOverbooked => 0x411004
  | .coopOrdersAccepted => 0x411005
  | .coopOrdersRejected => 0x411006
  | .coopOrdersLate => 0x411007
  | .coopWordsClipped => 0x411008
  | .epochAdjustments => 0x411009
  | .trimmedFrames => 0x41100A
  | .grantVoteEnable => 0x420001
  | .grantLaneState0 => 0x420002
  | .grantLaneState1 => 0x420003
  | .grantLaneState2 => 0x420004
  | .grantLaneTest => 0x420005
  | .grantLaneTestResult => 0x420006
  | .grantLaneRelease => 0x420007
  | .grantLaneDisagreements0 => 0x420008
  | .grantLaneDisagreements1 => 0x420009
  | .grantLaneDisagreements2 => 0x42000A
  | .grantReloads => 0x42000B
  | .fsyncEdge => 0x42000C
  | .fsyncLostTimeout => 0x42000D
  | .coopUdpPort => 0x42000E
  | .coopEtherType => 0x42000F
  | .coopOrdersUnattributed => 0x420010
  | .coopPathId => 0x430001
  | .coopAllocation => 0x430002
  | .coopDevice => 0x430003
  | .flowTerminal => 0x480001
  | .flowPortId => 0x480002
  | .flowEncrypt => 0x480003
  | .flowBondMode => 0x480004
  | .flowPortIdB => 0x480005
  | .flowBondFragThreshold => 0x480006
  | .flowBondUpTimeout => 0x480007
  | .flowUpEncryptRequired => 0x480008
  | .flowEnable => 0x480009
  | .flowSnuffMode => 0x48000A
  | .flowSnuffPhase => 0x48000B
  | .bondFragmentsLost => 0x481001
  | .bondFramesDiscarded => 0x481002
  | .bondHeaderErrors => 0x481003
  | .bondDuplicates => 0x481004
  | .bondTimeouts => 0x481005
  | .omciSend => 0x488001
  | .omciRxDiscards => 0x488002
  | .galleryAgeTime => 0x500001
  | .galleryMoveLimit => 0x500002
  | .galleryFlushOnLinkDown => 0x500003
  | .galleryEntries => 0x500004
  | .galleryStashUsed => 0x500005
  | .galleryStaticEntries => 0x500006
  | .galleryFlushQueue => 0x500007
  | .learnsInserted => 0x500801
  | .stationMoves => 0x500802
  | .movesDamped => 0x500803
  | .spoofDrops => 0x500804
  | .learnLimitExcess => 0x500805
  | .learnQueueDrops => 0x500806
  | .tablePressure => 0x500807
  | .galleryParityErrors => 0x500808
  | .staticRestores => 0x500809
  | .agedOut => 0x50080A
  | .terminalToTerminalDrops => 0x50080B
  | .destinationDownDrops => 0x50080C
  | .hairpinDrops => 0x50080D
  | .staticConflicts => 0x50080E
  | .galleryCommand => 0x501001
  | .galleryResult => 0x501002
  | .domainEnable => 0x510001
  | .domainMode => 0x510002
  | .domainLearn => 0x510003
  | .domainFloodUnknown => 0x510004
  | .domainUplinks => 0x510005
  | .domainPassage => 0x510006
  | .domainCascadeLearn => 0x510007
  | .domainSpoofAction => 0x510008
  | .domainEntries => 0x510009
  | .domainFloodFlows => 0x51000A
  | .terminalLearnLimit => 0x520001
  | .terminalLearnExcess => 0x520002
  | .terminalSourceCheck => 0x520003
  | .terminalLearnedEntries => 0x520004
  | .terminalSpoofCount => 0x520005
  | .flowFloodDomain => 0x530001
  | .classHashSeed => 0x580001
  | .classFragEnable => 0x580002
  | .classFragLife => 0x580003
  | .classTrapRate => 0x580004
  | .classRulesUsed => 0x580005
  | .classFragUsed => 0x580006
  | .classMisses => 0x580801
  | .classNoDomain => 0x580802
  | .classFlowDown => 0x580803
  | .classTreeDirectDrops => 0x580804
  | .spreadFailovers => 0x580805
  | .spreadNoMember => 0x580806
  | .fragFollowHits => 0x580807
  | .fragFollowMisses => 0x580808
  | .fragFollowFull => 0x580809
  | .trapDrops => 0x58080A
  | .classParityErrors => 0x58080B
  | .classRuleRestores => 0x58080C
  | .classProfileEnable => 0x581001
  | .classProfileFields => 0x581002
  | .classProfileFrameType => 0x581003
  | .classProfileV4Prefix => 0x581004
  | .classProfileV6Prefix => 0x581005
  | .classProfileRules => 0x581006
  | .classGroupProfiles => 0x582001
  | .classGroupDomain => 0x582002
  | .classGroupClassSource => 0x582003
  | .classGroupClass => 0x582004
  | .classGroupMissAction => 0x582005
  | .portClassGroup => 0x583001
  | .flowClassGroup => 0x583101
  | .indirHashFields => 0x584001
  | .indirEntries => 0x584002
  | .portSpreadAnchor => 0x585001
  | .portSpreadTable => 0x585002
  | .flowSpreadPartner => 0x586001
  | .mcastUplinks => 0x587001
  | .mcastPassage => 0x587002
  | .mcastFlows => 0x587003
  | .classRuleValid => 0x590001
  | .classRuleProfile => 0x590002
  | .classRuleKey => 0x590003
  | .classRuleForward => 0x590004
  | .classRuleDomain => 0x590005
  | .classRuleClass => 0x590006
  | .classRuleColour => 0x590007
  | .classRulePolicer => 0x590008
  | .classRuleQueue => 0x590009
  | .classRuleFlow => 0x59000A
  | .classRuleSpread => 0x59000B
  | .classRuleGroup => 0x59000C
  | .classRuleLearn => 0x59000D
  | .classRuleHits => 0x59000E
  | .queueMismatchDrops => 0x600001
  | .nodeMismatchDrops => 0x600002
  | .queueAbsentDrops => 0x600003
  | .snuffPurged => 0x600004
  | .sampleSweeps => 0x600005
  | .queueNodePriority => 0x601001
  | .queueNodeWeight => 0x601002
  | .queueNodeCommittedRate => 0x601003
  | .queueNodeCommittedBurst => 0x601004
  | .queueNodePeakRate => 0x601005
  | .queueNodePeakBurst => 0x601006
  | .queueNodeOverheadProfile => 0x601007
  | .queueNodeTokenReset => 0x601008
  | .queueNodeCommittedTokens => 0x601009
  | .queueNodePeakTokens => 0x60100A
  | .queueNodeBytesSent => 0x60100B
  | .queueNodeFramesSent => 0x60100C
  | .queueEnable => 0x601010
  | .queueTerminal => 0x601011
  | .queueSnuffMode => 0x601012
  | .queueSnuffPhase => 0x601013
  | .queueRequester => 0x601014
  | .queueMaxBytes => 0x601015
  | .queueMaxBytesYellow => 0x601016
  | .queueMaxBytesRed => 0x601017
  | .queueDepthBytes => 0x601018
  | .queueHeadDelay => 0x601019
  | .queueDepthMax => 0x60101A
  | .queueDelayMax => 0x60101B
  | .queueDelayAlarm => 0x60101C
  | .queueTailDrops => 0x60101D
  | .queueClosedDrops => 0x60101E
  | .terminalNodePriority => 0x602001
  | .terminalNodeWeight => 0x602002
  | .terminalNodeCommittedRate => 0x602003
  | .terminalNodeCommittedBurst => 0x602004
  | .terminalNodePeakRate => 0x602005
  | .terminalNodePeakBurst => 0x602006
  | .terminalNodeOverheadProfile => 0x602007
  | .terminalNodeTokenReset => 0x602008
  | .terminalNodeCommittedTokens => 0x602009
  | .terminalNodePeakTokens => 0x60200A
  | .terminalNodeBytesSent => 0x60200B
  | .terminalNodeFramesSent => 0x60200C
  | .terminalNodeParent => 0x602010
  | .cgNodePriority => 0x603001
  | .cgNodeWeight => 0x603002
  | .cgNodeCommittedRate => 0x603003
  | .cgNodeCommittedBurst => 0x603004
  | .cgNodePeakRate => 0x603005
  | .cgNodePeakBurst => 0x603006
  | .cgNodeOverheadProfile => 0x603007
  | .cgNodeTokenReset => 0x603008
  | .cgNodeCommittedTokens => 0x603009
  | .cgNodePeakTokens => 0x60300A
  | .cgNodeBytesSent => 0x60300B
  | .cgNodeFramesSent => 0x60300C
  | .cgNodeChannel => 0x603010
  | .cgNodeBonded => 0x603011
  | .treeNodePriority => 0x604001
  | .treeNodeWeight => 0x604002
  | .treeNodeCommittedRate => 0x604003
  | .treeNodeCommittedBurst => 0x604004
  | .treeNodePeakRate => 0x604005
  | .treeNodePeakBurst => 0x604006
  | .treeNodeOverheadProfile => 0x604007
  | .treeNodeTokenReset => 0x604008
  | .treeNodeCommittedTokens => 0x604009
  | .treeNodePeakTokens => 0x60400A
  | .treeNodeBytesSent => 0x60400B
  | .treeNodeFramesSent => 0x60400C
  | .aggregateNodePriority => 0x605001
  | .aggregateNodeWeight => 0x605002
  | .aggregateNodeCommittedRate => 0x605003
  | .aggregateNodeCommittedBurst => 0x605004
  | .aggregateNodePeakRate => 0x605005
  | .aggregateNodePeakBurst => 0x605006
  | .aggregateNodeOverheadProfile => 0x605007
  | .aggregateNodeTokenReset => 0x605008
  | .aggregateNodeCommittedTokens => 0x605009
  | .aggregateNodePeakTokens => 0x60500A
  | .aggregateNodeBytesSent => 0x60500B
  | .aggregateNodeFramesSent => 0x60500C
  | .txQueueNodePriority => 0x606001
  | .txQueueNodeWeight => 0x606002
  | .txQueueNodeCommittedRate => 0x606003
  | .txQueueNodeCommittedBurst => 0x606004
  | .txQueueNodePeakRate => 0x606005
  | .txQueueNodePeakBurst => 0x606006
  | .txQueueNodeOverheadProfile => 0x606007
  | .txQueueNodeTokenReset => 0x606008
  | .txQueueNodeCommittedTokens => 0x606009
  | .txQueueNodePeakTokens => 0x60600A
  | .txQueueNodeBytesSent => 0x60600B
  | .txQueueNodeFramesSent => 0x60600C
  | .txQueueRequester => 0x606014
  | .txQueueMaxBytes => 0x606015
  | .txQueueMaxBytesYellow => 0x606016
  | .txQueueMaxBytesRed => 0x606017
  | .txQueueDepthBytes => 0x606018
  | .txQueueHeadDelay => 0x606019
  | .txQueueDepthMax => 0x60601A
  | .txQueueDelayMax => 0x60601B
  | .txQueueDelayAlarm => 0x60601C
  | .txQueueTailDrops => 0x60601D
  | .portNodePriority => 0x607001
  | .portNodeWeight => 0x607002
  | .portNodeCommittedRate => 0x607003
  | .portNodeCommittedBurst => 0x607004
  | .portNodePeakRate => 0x607005
  | .portNodePeakBurst => 0x607006
  | .portNodeOverheadProfile => 0x607007
  | .portNodeTokenReset => 0x607008
  | .portNodeCommittedTokens => 0x607009
  | .portNodePeakTokens => 0x60700A
  | .portNodeBytesSent => 0x60700B
  | .portNodeFramesSent => 0x60700C
  | .flowQueue => 0x608001
  | .overheadBytes => 0x609001
  | .policerCir => 0x620001
  | .policerCbs => 0x620002
  | .policerPir => 0x620003
  | .policerPbs => 0x620004
  | .policerColourAware => 0x620005
  | .policerRedAction => 0x620006
  | .policerOverheadProfile => 0x620007
  | .policerTokenReset => 0x620008
  | .greenFrames => 0x620009
  | .yellowFrames => 0x62000A
  | .redFrames => 0x62000B
  | .greenBytes => 0x62000C
  | .yellowBytes => 0x62000D
  | .redBytes => 0x62000E
  | .sumpCellsUnassigned => 0x680001
  | .sumpBondRequester => 0x680002
  | .quotaDrops => 0x680801
  | .colourDrops => 0x680802
  | .poolEmptyDrops => 0x680803
  | .midFrameDrops => 0x680804
  | .borrows => 0x680805
  | .doubleFrees => 0x680806
  | .foreignFrees => 0x680807
  | .verdictDrops => 0x680808
  | .poolDisabledDrops => 0x680809
  | .poolEnable => 0x681001
  | .poolCells => 0x681002
  | .poolFallback => 0x681003
  | .poolNoticeCells => 0x681004
  | .poolPressureCells => 0x681005
  | .poolShedCells => 0x681006
  | .poolHysteresisCells => 0x681007
  | .poolCellsHeld => 0x681008
  | .poolCellsLent => 0x681009
  | .poolSharedFree => 0x68100A
  | .poolState => 0x68100B
  | .requesterPool => 0x682001
  | .requesterMinCells => 0x682002
  | .requesterMaxCells => 0x682003
  | .requesterCellsHeld => 0x682004
  | .requesterCellsBorrowed => 0x682005
  | .requesterHighWater => 0x682006
  | .requesterDrops => 0x682007
  | .sumpSourcePool => 0x683001
  | .uplinkQuadMode => 0x6C0001
  | .uplinkQuadPolarity => 0x6C0002
  | .uplinkEnable => 0x6C1001
  | .uplinkFec => 0x6C1002
  | .uplinkMaxFrame => 0x6C1003
  | .uplinkFlowControl => 0x6C1004
  | .uplinkPauseHonour => 0x6C1005
  | .uplinkPfcClasses => 0x6C1006
  | .uplinkPauseQuanta => 0x6C1007
  | .uplinkMacAddress => 0x6C1008
  | .uplinkLinkDownHold => 0x6C1009
  | .uplinkLinkState => 0x6C100A
  | .uplinkSnuffMode => 0x6C100B
  | .uplinkSnuffPhase => 0x6C100C
  | .uplinkCutThrough => 0x6C100D
  | .uplinkLoop => 0x6C100E
  | .uplinkMacsecEnable => 0x6C100F
  | .uplinkMacsecValidate => 0x6C1010
  | .uplinkMacsecPtpClear => 0x6C1011
  | .uplinkWakeMode => 0x6C1012
  | .uplinkWakePattern => 0x6C1013
  | .uplinkWakeMask => 0x6C1014
  | .uplinkRxFrames => 0x6C2001
  | .uplinkRxBytes => 0x6C2002
  | .uplinkTxFrames => 0x6C2003
  | .uplinkTxBytes => 0x6C2004
  | .uplinkDropCode => 0x6C2005
  | .uplinkDropRunt => 0x6C2006
  | .uplinkDropOversize => 0x6C2007
  | .uplinkDropFcs => 0x6C2008
  | .uplinkDropMacControl => 0x6C2009
  | .uplinkPauseHonoured => 0x6C200A
  | .uplinkPauseIgnored => 0x6C200B
  | .uplinkPauseSent => 0x6C200C
  | .uplinkTxAborted => 0x6C200D
  | .uplinkTxOversize => 0x6C200E
  | .uplinkTxLinkDownDrops => 0x6C200F
  | .uplinkTxClosedDrops => 0x6C2010
  | .uplinkMacsecUntagged => 0x6C2011
  | .uplinkFecCorrected => 0x6C2012
  | .uplinkFecUncorrectable => 0x6C2013
  | .uplinkWakeMatches => 0x6C2014
  | .passageDeviceId => 0x700001
  | .passageRingPorts => 0x700002
  | .passageHopLimit => 0x700003
  | .passageLatencyBudget => 0x700004
  | .passageTransitRequester => 0x700005
  | .passageCreditCells => 0x700006
  | .passageReachTimeout => 0x700007
  | .passageIdConflict => 0x700008
  | .passagePortEnable => 0x701001
  | .passageLaneEnable => 0x701002
  | .passagePortState => 0x701003
  | .passageTxLanes => 0x701004
  | .passageRxLanes => 0x701005
  | .passageNeighbour => 0x701006
  | .passageSnuffMode => 0x701007
  | .passageSnuffPhase => 0x701008
  | .passageTimeServe => 0x701009
  | .passagePortAsymmetry => 0x70100A
  | .passageLaneState => 0x702001
  | .passageLaneSkew => 0x702002
  | .passageLaneSnuffPhase => 0x702003
  | .passageRxFrames => 0x703001
  | .passageTxFrames => 0x703002
  | .passageCrcErrors => 0x703003
  | .passageHeaderErrors => 0x703004
  | .passageDuplicates => 0x703005
  | .passageStale => 0x703006
  | .passageHopDrops => 0x703007
  | .passageLoopDrops => 0x703008
  | .passageNoRoute => 0x703009
  | .passageTxAborted => 0x70300A
  | .passageUntracked => 0x70300B
  | .passageStuffViolations => 0x70300C
  | .passageLaneLosses => 0x70300D
  | .passageDegradedEntries => 0x70300E
  | .passageRoute => 0x704001
  | .passageReachable => 0x704002
  | .wickState => 0x740001
  | .wickTime => 0x740002
  | .wickSetTime => 0x740003
  | .wickIncrement => 0x740004
  | .wickStepCount => 0x740005
  | .wickCounterMismatches => 0x740006
  | .timeAcquireSlew => 0x740007
  | .timeQualifyThreshold => 0x740008
  | .timeSwitchSlew => 0x740009
  | .timeSwitchMaxOffset => 0x74000A
  | .timeOutlierLimit => 0x74000B
  | .timeHoldoverLimit => 0x74000C
  | .timeHoldoverEstimate => 0x74000D
  | .timeHoldoverElapsed => 0x74000E
  | .timeModelLearnedHours => 0x74000F
  | .timeModelBinsLearned => 0x740010
  | .timeModelReset => 0x740011
  | .timeServoBandwidth => 0x740012
  | .timeSelectedDomain => 0x740013
  | .ovenState => 0x740014
  | .oscCaseTemperature => 0x740015
  | .timeDomainSource => 0x741001
  | .timeDomainPorts => 0x741002
  | .timeDomainProfile => 0x741003
  | .timeDomainNumber => 0x741004
  | .timeDomainPriority => 0x741005
  | .timeDomainRevertive => 0x741006
  | .timeDomainWtr => 0x741007
  | .timeDomainClockClassManual => 0x741008
  | .timeDomainTodFormat => 0x741009
  | .timeDomainTodConvention => 0x74100A
  | .timeDomainTodBaud => 0x74100B
  | .timeDomainUtcOffset => 0x74100C
  | .timeDomainPpsDelay => 0x74100D
  | .timeDomainState => 0x74100E
  | .timeDomainOffset => 0x74100F
  | .timeDomainClockClass => 0x741010
  | .timeDomainSlavePort => 0x741011
  | .ptpPortEnable => 0x742001
  | .ptpPortRole => 0x742002
  | .ptpPortProfile => 0x742003
  | .ptpPortDomainNumber => 0x742004
  | .ptpPortOneStep => 0x742005
  | .ptpPortLogSync => 0x742006
  | .ptpPortLogDelayReq => 0x742007
  | .ptpPortLogAnnounce => 0x742008
  | .ptpPortIngressDelay => 0x742009
  | .ptpPortEgressDelay => 0x74200A
  | .ptpPortAsymmetry => 0x74200B
  | .ptpPortUnicastMax => 0x74200C
  | .ptpPortState => 0x74200D
  | .tsQueueLevel => 0x743001
  | .tsQueueHighWater => 0x743002
  | .tsQueueLost => 0x743003
  | .lostStampPort => 0x744001
  | .lostStampSequenceId => 0x744002
  | .lostStampMessageType => 0x744003
  | .lostStampDomain => 0x744004
  | .lostStampTime => 0x744005
  | .lostStampStepCount => 0x744006
  | .lostStampTotal => 0x744101
  | .lostStampNewest => 0x744102
  | .ppsOutEnable => 0x745001
  | .ppsOutWidth => 0x745002
  | .ppsOutAdvance => 0x745003
  | .ppsOutSquelch => 0x745004
  | .todOutEnable => 0x745801
  | .todOutBaud => 0x745802
  | .freqOutEnable => 0x746001
  | .freqOutHz => 0x746002
  | .freqOutSquelch => 0x746003
  | .trigStart => 0x747001
  | .trigPeriod => 0x747002
  | .trigWidth => 0x747003
  | .trigCount => 0x747004
  | .trigPolarity => 0x747005
  | .trigSquelch => 0x747006
  | .trigArm => 0x747007
  | .trigState => 0x747008
  | .trigLateCount => 0x747009
  | .captEnable => 0x748001
  | .captEdge => 0x748002
  | .captDelay => 0x748003
  | .captNext => 0x748004
  | .captPending => 0x748005
  | .captOverflows => 0x748006
  | .captIgnored => 0x748007
  | .channelTodReference => 0x749001
  | .terminalTodReferenceA => 0x74A001
  | .terminalTodReferenceB => 0x74A002
  | .cipherCoresAllotted => 0x780001
  | .cipherCoresFree => 0x780002
  | .entropyState => 0x780003
  | .entropyFailures => 0x780004
  | .ponKeySoftLimit => 0x780005
  | .ponKeyHardLimit => 0x780006
  | .keySlotState => 0x781001
  | .keySlotUsage => 0x781002
  | .bcastKey => 0x782001
  | .bcastKeyLock => 0x782002
  | .bcastKeyState => 0x782003
  | .bcastKeyUsage => 0x782004
  | .channelBcastKeySwitch => 0x782801
  | .saEnable => 0x784001
  | .saPort => 0x784002
  | .saDirection => 0x784003
  | .saAn => 0x784004
  | .saSuite => 0x784005
  | .saSci => 0x784006
  | .saSsci => 0x784007
  | .saSalt => 0x784008
  | .saKey => 0x784009
  | .saInitialPn => 0x78400A
  | .saPnSoft => 0x78400B
  | .saPnHard => 0x78400C
  | .saLock => 0x78400D
  | .saState => 0x78400E
  | .saNextPn => 0x78400F
  | .saSnuffPhase => 0x784010
  | .macsecTxAn => 0x785001
  | .macsecCipherCeiling => 0x785002
  | .macsecReplayWindow => 0x785003
  | .macsecPortEnable => 0x785004
  | .macsecTxProtected => 0x785801
  | .macsecRxOk => 0x785802
  | .macsecRxBadTag => 0x785803
  | .macsecRxNoSa => 0x785804
  | .macsecRxLate => 0x785805
  | .macsecNoSaDrops => 0x785806
  | .firmwareSlotActive => 0x790001
  | .firmwareDigest => 0x790002
  | .firmwareVersion => 0x790003
  | .firmwareRollbackFloor => 0x790004
  | .firmwareRollbackCommit => 0x790005
  | .configDigest => 0x790006
  | .commissionKey => 0x790007
  | .attestRequest => 0x791001
  | .attestStatus => 0x791002
  | .attestReport => 0x791003
  | .attestPublicKey => 0x792001
  | .attestCertificate => 0x792002
  | .attestIndexNext => 0x792003
  | .attestIndexRemaining => 0x792004
  | .dieIdentity => 0x7B2001
  | .packageSerial => 0x7B2801
  | .integrityScrubEnable => 0x7C0001
  | .integrityMonitorEnable => 0x7C0002
  | .integrityGuarantee => 0x7C0003
  | .faultCause => 0x7C0004
  | .faultCauseClear => 0x7C0005
  | .faultMask => 0x7C0006
  | .scrubPasses => 0x7C0007
  | .busParityErrors => 0x7C0008
  | .watchdogExpiries => 0x7C0009
  | .regulatorFaults => 0x7C000A
  | .oscillatorLosses => 0x7C000B
  | .headlessEpisodes => 0x7C000C
  | .headlessLastDuration => 0x7C000D
  | .memCorrected => 0x7C1001
  | .memUncorrectable => 0x7C1002
  | .memLastAddress => 0x7C1003
  | .memTestResult => 0x7C1004
  | .memSparesUsed => 0x7C1005
  | .ucieLinkState => 0x7C2001
  | .ucieWidth => 0x7C2002
  | .ucieWiden => 0x7C2003
  | .ucieCrcErrors => 0x7C2004
  | .ucieRetries => 0x7C2005
  | .ucieRetrains => 0x7C2006
  | .ucieDegrades => 0x7C2007
  | .ucieLinkLosses => 0x7C2008
  | .ucieUpDrops => 0x7C2009
  | .counterSnapshot => 0x800001
  | .counterEventLimit => 0x800002
  | .counterOverflowsSuppressed => 0x800003
  | .counterEvent => 0x801001
  | .counterInstance => 0x801002
  | .counterEnable => 0x801003
  | .counterMode => 0x801004
  | .counterPreload => 0x801005
  | .counterValue => 0x801006
  | .counterOverflow => 0x801007
  | .counterOverflowClear => 0x801008
  | .counterSecondValue => 0x801009
  | .unitStart => 0x802001
  | .unitStop => 0x802002
  | .unitSecondLatch => 0x802003
  | .slotsRetired => 0x810001
  | .slotsWasted => 0x810002
  | .slotsFrontStarved => 0x810003
  | .slotsBackStarved => 0x810004
  | .slotsPending => 0x810005
  | .slotsTotal => 0x810006
  | .upWordsCarried => 0x811001
  | .upWordsBlocked => 0x811002
  | .upWordsStarved => 0x811003
  | .upWordsIdle => 0x811004
  | .upFramesAccounted => 0x811005
  | .lineSecond => 0x820001
  | .lineErroredSeconds => 0x820002
  | .lifetimeRecord => 0x880001
  | .lifetimeRecordState => 0x880002
  | .lifetimeSave => 0x880003
  | .lifetimeLastSave => 0x880004
  | .rawRegister => 0xF00001
  | .rawRegisterObjects => 0xF00101
  | .rawWindowMasters => 0xF0F001
  | .regLockViolation => 0xF0F002
  | .regWriteLost => 0xF0F003
  | .regLockViolations => 0xF0F004
  | .regWritesLost => 0xF0F005

/-- The row of an object in its table: type, access, boundary class, instances, permitted intervals and default. -/
def Obj.info : Obj → ObjInfo
  | .deviceModel => ⟨(.octRange 8 8), .const, .none, 1, [], fun _ => (.oct (asciiBytes "OY3250  "))⟩
  | .deviceBaseMac => ⟨.mac, .const, .none, 1, [], fun _ => .unset⟩
  | .deviceUptime => ⟨.u64, .ro, .none, 1, [], fun _ => (.num 0)⟩
  | .sconceUdpPort => ⟨.u16, .rw, .second, 1, [(1024, 65535)], fun _ => (.num 41032)⟩
  | .inbandVlan => ⟨.u16, .rw, .second, 1, [(1, 4094), (65535, 65535)], fun _ => (.num 65535)⟩
  | .inbandPorts => ⟨.u16, .rw, .second, 1, [], fun _ => (.num 0)⟩
  | .inbandIpv4Address => ⟨.u32, .rw, .second, 1, [], fun _ => (.num 0)⟩
  | .inbandIpv6Address => ⟨(.octRange 16 16), .rw, .second, 1, [], fun _ => (zeros 16)⟩
  | .sconceClaimTimeout => ⟨.u16, .rw, .second, 1, [(5, 3600)], fun _ => (.num 60)⟩
  | .sconceAlertMask => ⟨.u16, .rw, .second, 1, [], fun _ => (.num 24)⟩
  | .sconceClaimBreak => ⟨.u8, .wo, .immediate, 1, [(1, 2)], fun _ => (.num 0)⟩
  | .mgtEnable => ⟨.bool, .rw, .second, 2, [], fun _ => (.num 1)⟩
  | .mgtInterface => ⟨.u8, .rw, .second, 2, [(0, 1)], fun _ => (.num 0)⟩
  | .mgtIpv4Address => ⟨.u32, .rw, .second, 2, [], fun i => (.num (0xC0A80001 + i))⟩
  | .mgtIpv4Mask => ⟨.u32, .rw, .second, 2, [], fun _ => (.num 4294967040)⟩
  | .mgtIpv4Gateway => ⟨.u32, .rw, .second, 2, [], fun _ => (.num 0)⟩
  | .mgtIpv6Address => ⟨(.octRange 16 16), .rw, .second, 2, [], fun _ => (zeros 16)⟩
  | .masterKey => ⟨(.octRange 32 32), .wo, .immediate, 3, [], fun _ => (zeros 32)⟩
  | .masterKeySet => ⟨.bool, .ro, .none, 3, [], fun _ => (.num 0)⟩
  | .masterCounterFloor => ⟨.u64, .ro, .none, 3, [], fun _ => (.num 0)⟩
  | .masterEventMask => ⟨.u16, .rw, .second, 3, [], fun _ => (.num 4094)⟩
  | .masterClaims => ⟨.u16, .ro, .none, 3, [], fun _ => (.num 0)⟩
  | .sconceRequests => ⟨.u64, .ro, .none, 1, [], fun _ => (.num 0)⟩
  | .sconceAuthFailures => ⟨.u64, .ro, .none, 1, [], fun _ => (.num 0)⟩
  | .sconceReplays => ⟨.u64, .ro, .none, 1, [], fun _ => (.num 0)⟩
  | .sconceMalformed => ⟨.u64, .ro, .none, 1, [], fun _ => (.num 0)⟩
  | .sconceEventsLost => ⟨.u64, .ro, .none, 1, [], fun _ => (.num 0)⟩
  | .sconceSuperseded => ⟨.u64, .ro, .none, 1, [], fun _ => (.num 0)⟩
  | .imageUpload => ⟨(.octRange 1 4096), .wo, .immediate, 2, [], fun _ => (zeros 1)⟩
  | .imageCommit => ⟨.bool, .wo, .immediate, 2, [], fun _ => (.num 0)⟩
  | .imageStatus => ⟨.u8, .ro, .none, 2, [], fun _ => (.num 0)⟩
  | .imageReceived => ⟨.u32, .ro, .none, 2, [], fun _ => (.num 0)⟩
  | .startPhase => ⟨.u8, .ro, .none, 1, [], fun _ => (.num 0)⟩
  | .startCause => ⟨.u8, .ro, .none, 1, [], fun _ => (.num 0)⟩
  | .warmReset => ⟨.u8, .wo, .immediate, 1, [(1, 2)], fun _ => (.num 0)⟩
  | .firmwareActivate => ⟨.bool, .wo, .immediate, 1, [], fun _ => (.num 0)⟩
  | .firmwareConfirm => ⟨.bool, .wo, .immediate, 1, [], fun _ => (.num 0)⟩
  | .firmwareTrialTime => ⟨.u32, .rw, .second, 1, [(0, 86400)], fun _ => (.num 0)⟩
  | .firmwareTrialState => ⟨.u8, .ro, .none, 1, [], fun _ => (.num 0)⟩
  | .firmwareSlotValid => ⟨.bool, .ro, .none, 2, [], fun _ => (.num 0)⟩
  | .firmwareSlotVersion => ⟨.u32, .ro, .none, 2, [], fun _ => (.num 0)⟩
  | .devicePowerState => ⟨.u8, .rw, .frame, 1, [(0, 2)], fun _ => (.num 0)⟩
  | .devicePowerStateActual => ⟨.u8, .ro, .none, 1, [], fun _ => (.num 0)⟩
  | .glimDrainTime => ⟨.u16, .rw, .frame, 1, [(0, 100)], fun _ => (.num 0)⟩
  | .glimWakeAt => ⟨.time96, .rw, .frame, 1, [], fun _ => (.num 0)⟩
  | .glimWakeCause => ⟨.u8, .ro, .none, 1, [], fun _ => (.num 0)⟩
  | .glimEpisodes => ⟨.u32, .ro, .none, 1, [], fun _ => (.num 0)⟩
  | .snuffActive => ⟨.u32, .ro, .none, 1, [], fun _ => (.num 0)⟩
  | .channelSnuff => ⟨.bool, .rw, .frame, 32, [], fun _ => (.num 0)⟩
  | .channelSnuffMode => ⟨.u8, .rw, .frame, 32, [(0, 1)], fun _ => (.num 0)⟩
  | .channelSnuffPhase => ⟨.u8, .ro, .none, 32, [], fun _ => (.num 3)⟩
  | .supplyVoltage => ⟨.u32, .ro, .none, 1, [], fun _ => (.num 0)⟩
  | .supplyCurrent => ⟨.u32, .ro, .none, 1, [], fun _ => (.num 0)⟩
  | .supplyPower => ⟨.u32, .ro, .none, 1, [], fun _ => (.num 0)⟩
  | .caseTemperature => ⟨.i32, .ro, .none, 1, [], fun _ => (.num 0)⟩
  | .caseTempWarn => ⟨.i32, .rw, .second, 1, [(-40000, 105000)], fun _ => (.num 90000)⟩
  | .powerFailState => ⟨.u8, .ro, .none, 1, [], fun _ => (.num 0)⟩
  | .powerFailWarnings => ⟨.u32, .ro, .none, 1, [], fun _ => (.num 0)⟩
  | .dieTemperature => ⟨.i32, .ro, .none, 4, [], fun _ => (.num 0)⟩
  | .treeEnable => ⟨.bool, .rw, .frame, 32, [], fun _ => (.num 0)⟩
  | .treePairMode => ⟨.u8, .rw, .frame, 32, [(0, 2)], fun _ => (.num 0)⟩
  | .treeCagePlan => ⟨.u8, .wo1, .frame, 32, [(0, 1)], fun _ => (.num 0)⟩
  | .channelGeneration => ⟨.u8, .rw, .frame, 32, [(0, 4)], fun _ => (.num 0)⟩
  | .channelUpRate => ⟨.u8, .rw, .frame, 32, [(0, 2)], fun _ => (.num 2)⟩
  | .channelEqDefault => ⟨.u8, .rw, .frame, 32, [(0, 15)], fun _ => (.num 6)⟩
  | .channelEqTrack => ⟨.bool, .rw, .frame, 32, [], fun _ => (.num 1)⟩
  | .channelTxSwing => ⟨.u8, .rw, .frame, 32, [(0, 15)], fun _ => (.num 10)⟩
  | .channelTxPost => ⟨.u8, .rw, .frame, 32, [(0, 7)], fun _ => (.num 2)⟩
  | .channelBrstOffset => ⟨.u8, .rw, .frame, 32, [(0, 64)], fun _ => (.num 2)⟩
  | .channelBrstWidth => ⟨.u8, .rw, .frame, 32, [(2, 64)], fun _ => (.num 8)⟩
  | .channelBrstPolarity => ⟨.bool, .rw, .frame, 32, [], fun _ => (.num 1)⟩
  | .channelRssiRequest => ⟨.u16, .wo, .immediate, 32, [(0, 8191)], fun _ => (.num 0)⟩
  | .channelRssiDelay => ⟨.u8, .rw, .frame, 32, [(0, 255)], fun _ => (.num 20)⟩
  | .channelRssiWidth => ⟨.u8, .rw, .frame, 32, [(1, 255)], fun _ => (.num 50)⟩
  | .channelTrimIdleDwell => ⟨.u32, .rw, .second, 32, [], fun _ => (.num 60)⟩
  | .channelLoopMode => ⟨.u8, .rw, .immediate, 32, [(0, 2)], fun _ => (.num 0)⟩
  | .channelPrbsPattern => ⟨.u8, .rw, .immediate, 32, [(0, 3)], fun _ => (.num 3)⟩
  | .channelPrbsErrors => ⟨.u64, .ro, .none, 32, [], fun _ => (.num 0)⟩
  | .channelLaneState => ⟨.u8, .ro, .none, 32, [], fun _ => (.num 0)⟩
  | .channelUpBand => ⟨.u8, .rw, .frame, 32, [(0, 1)], fun _ => (.num 0)⟩
  | .cageI2cRate => ⟨.u8, .rw, .frame, 32, [(0, 1)], fun _ => (.num 1)⟩
  | .cageI2cRequest => ⟨(.octRange 4 132), .wo, .immediate, 32, [], fun _ => (zeros 4)⟩
  | .cageI2cResult => ⟨(.octRange 3 131), .ro, .none, 32, [], fun _ => (zeros 3)⟩
  | .cageModuleIdentity => ⟨(.octRange 128 128), .ro, .none, 32, [], fun _ => (zeros 128)⟩
  | .cageModulePresent => ⟨.bool, .ro, .none, 32, [], fun _ => (.num 0)⟩
  | .cageI2cPullup => ⟨.bool, .rw, .frame, 32, [], fun _ => (.num 1)⟩
  | .terminalEqPresetA => ⟨.u8, .rw, .frame, 8192, [(0, 15)], fun _ => (.num 6)⟩
  | .terminalEqPresetB => ⟨.u8, .rw, .frame, 8192, [(0, 15)], fun _ => (.num 6)⟩
  | .terminalEqRecommendedA => ⟨.u8, .ro, .none, 8192, [], fun _ => (.num 0)⟩
  | .terminalEqRecommendedB => ⟨.u8, .ro, .none, 8192, [], fun _ => (.num 0)⟩
  | .terminalEqPinned => ⟨.bool, .rw, .frame, 8192, [], fun _ => (.num 0)⟩
  | .channelDsFec => ⟨.bool, .rw, .frame, 32, [], fun _ => (.num 1)⟩
  | .channelPloamPerFrame => ⟨.u8, .rw, .frame, 32, [(1, 4)], fun _ => (.num 4)⟩
  | .channelKeySwitchLead => ⟨.u8, .rw, .frame, 32, [(16, 255)], fun _ => (.num 48)⟩
  | .channelPloamRelay => ⟨(.octOr 14 40), .wo, .immediate, 32, [], fun _ => (zeros 14)⟩
  | .channelPloamRelayResult => ⟨(.octRange 6 6), .ro, .none, 32, [], fun _ => (zeros 6)⟩
  | .channelSuperframe => ⟨.u64, .ro, .none, 32, [], fun _ => (.num 0)⟩
  | .channelUpSearchWindow => ⟨.u16, .rw, .frame, 32, [(8, 256)], fun _ => (.num 32)⟩
  | .channelUpGuard => ⟨.u16, .rw, .frame, 32, [], fun _ => .unset⟩
  | .channelUpDriftThreshold => ⟨.u8, .rw, .frame, 32, [(1, 32)], fun _ => (.num 4)⟩
  | .channelUpDecrypt => ⟨.bool, .rw, .frame, 32, [], fun _ => (.num 1)⟩
  | .channelGapMonitor => ⟨.bool, .rw, .frame, 32, [], fun _ => (.num 1)⟩
  | .channelGapMinLen => ⟨.u16, .rw, .frame, 32, [(100, 10000)], fun _ => (.num 200)⟩
  | .channelGapEnergyThreshold => ⟨.u8, .rw, .frame, 32, [(1, 255)], fun _ => (.num 40)⟩
  | .channelRogueFrames => ⟨.u8, .rw, .frame, 32, [(1, 255)], fun _ => (.num 8)⟩
  | .channelUpFrameDelay => ⟨.u32, .const, .none, 32, [], fun _ => (.num 625000)⟩
  | .burstProfileEnable => ⟨.bool, .rw, .frame, 128, [], fun i => (.num (if i % 4 = 0 then 1 else 0))⟩
  | .burstProfilePreambleBits => ⟨.u16, .rw, .frame, 128, [], fun _ => .unset⟩
  | .burstProfilePreamblePattern => ⟨(.octRange 8 8), .rw, .frame, 128, [], fun _ => .unset⟩
  | .burstProfileDelimiterBits => ⟨.u8, .rw, .frame, 128, [], fun _ => .unset⟩
  | .burstProfileDelimiter => ⟨.u64, .rw, .frame, 128, [], fun _ => .unset⟩
  | .burstProfileThreshold => ⟨.u8, .rw, .frame, 128, [], fun _ => .unset⟩
  | .burstProfileFec => ⟨.bool, .rw, .frame, 128, [], fun _ => .unset⟩
  | .upBurstsGood => ⟨.u64, .ro, .none, 32, [], fun _ => (.num 0)⟩
  | .upBurstsMissing => ⟨.u64, .ro, .none, 32, [], fun _ => (.num 0)⟩
  | .upHeaderErrors => ⟨.u64, .ro, .none, 32, [], fun _ => (.num 0)⟩
  | .upMisdirected => ⟨.u64, .ro, .none, 32, [], fun _ => (.num 0)⟩
  | .upLaneUnlocked => ⟨.u64, .ro, .none, 32, [], fun _ => (.num 0)⟩
  | .upCodewordsUncorrectable => ⟨.u64, .ro, .none, 32, [], fun _ => (.num 0)⟩
  | .upUnknownPortId => ⟨.u64, .ro, .none, 32, [], fun _ => (.num 0)⟩
  | .upForeignPortId => ⟨.u64, .ro, .none, 32, [], fun _ => (.num 0)⟩
  | .upPloamDiscarded => ⟨.u64, .ro, .none, 32, [], fun _ => (.num 0)⟩
  | .upKeyDiscards => ⟨.u64, .ro, .none, 32, [], fun _ => (.num 0)⟩
  | .upLitFrames => ⟨.u64, .ro, .none, 32, [], fun _ => (.num 0)⟩
  | .upProfileFaults => ⟨.u64, .ro, .none, 32, [], fun _ => (.num 0)⟩
  | .upReportsLost => ⟨.u64, .ro, .none, 32, [], fun _ => (.num 0)⟩
  | .upOverlong => ⟨.u64, .ro, .none, 32, [], fun _ => (.num 0)⟩
  | .upEarlyLight => ⟨.u64, .ro, .none, 32, [], fun _ => (.num 0)⟩
  | .upDelineationLosses => ⟨.u64, .ro, .none, 32, [], fun _ => (.num 0)⟩
  | .upPartialFrameDrops => ⟨.u64, .ro, .none, 32, [], fun _ => (.num 0)⟩
  | .terminalUpBursts => ⟨.u64, .ro, .none, 8192, [], fun _ => (.num 0)⟩
  | .terminalUpAbsent => ⟨.u64, .ro, .none, 8192, [], fun _ => (.num 0)⟩
  | .terminalUpFecUncorrectable => ⟨.u64, .ro, .none, 8192, [], fun _ => (.num 0)⟩
  | .terminalUpBitErrors => ⟨.u64, .ro, .none, 8192, [], fun _ => (.num 0)⟩
  | .terminalUpOverlong => ⟨.u64, .ro, .none, 8192, [], fun _ => (.num 0)⟩
  | .terminalArrivalOffsetA => ⟨.i32, .ro, .none, 8192, [], fun _ => (.num 0)⟩
  | .terminalArrivalOffsetB => ⟨.i32, .ro, .none, 8192, [], fun _ => (.num 0)⟩
  | .channelQuietPeriod => ⟨.u32, .rw, .frame, 32, [(0, 0), (10, 60000)], fun _ => (.num 1000)⟩
  | .channelQuietLength => ⟨.u16, .rw, .frame, 32, [(100, 600)], fun _ => (.num 250)⟩
  | .channelQuietAt => ⟨.time96, .wo, .immediate, 32, [], fun _ => (.num 0)⟩
  | .channelQuietNext => ⟨.time96, .ro, .none, 32, [], fun _ => (.num 0)⟩
  | .channelReachMin => ⟨.u8, .rw, .frame, 32, [(0, 59)], fun _ => (.num 0)⟩
  | .channelReachMax => ⟨.u8, .rw, .frame, 32, [(1, 60)], fun _ => (.num 20)⟩
  | .channelAsymmetry => ⟨.i32, .rw, .frame, 32, [(-2000000, 2000000)], fun _ => .num 0⟩
  | .channelBoardTxDelay => ⟨.u32, .rw, .frame, 32, [(0, 100000)], fun _ => (.num 0)⟩
  | .channelBoardRxDelay => ⟨.u32, .rw, .frame, 32, [(0, 100000)], fun _ => (.num 0)⟩
  | .channelDevTxDelay => ⟨.u32, .const, .none, 32, [], fun _ => .unset⟩
  | .channelDevRxDelay => ⟨.u32, .const, .none, 32, [], fun _ => .unset⟩
  | .channelLossBursts => ⟨.u8, .rw, .frame, 32, [(2, 64)], fun _ => (.num 4)⟩
  | .channelLostHold => ⟨.u32, .rw, .frame, 32, [(100, 60000)], fun _ => (.num 1000)⟩
  | .channelDisableUnlisted => ⟨.bool, .rw, .frame, 32, [], fun _ => (.num 0)⟩
  | .channelAuthLockout => ⟨.u32, .rw, .second, 32, [(0, 86400)], fun _ => (.num 60)⟩
  | .channelRogueAction => ⟨.u8, .rw, .frame, 32, [(0, 2)], fun _ => (.num 2)⟩
  | .channelRogueRetry => ⟨.u32, .rw, .second, 32, [(10, 86400)], fun _ => (.num 600)⟩
  | .channelRogueState => ⟨.u8, .ro, .none, 32, [], fun _ => (.num 0)⟩
  | .channelTerminalsActive => ⟨.u16, .ro, .none, 32, [], fun _ => (.num 0)⟩
  | .channelSnResponsesExcess => ⟨.u64, .ro, .none, 32, [], fun _ => (.num 0)⟩
  | .admitSerial => ⟨(.octRange 8 8), .rw, .frame, 16384, [], fun _ => (zeros 8)⟩
  | .admitAction => ⟨.u8, .rw, .frame, 16384, [(0, 3)], fun _ => (.num 0)⟩
  | .admitTerminal => ⟨.u16, .rw, .frame, 16384, [(0, 8191), (65535, 65535)], fun _ => (.num 65535)⟩
  | .admitRegistrationId => ⟨(.octRange 0 36), .rw, .frame, 16384, [], fun _ => (.oct [])⟩
  | .discoveredSerial => ⟨(.octRange 8 8), .ro, .none, 256, [], fun _ => (zeros 8)⟩
  | .discoveredChannel => ⟨.u8, .ro, .none, 256, [], fun _ => (.num 0)⟩
  | .discoveredTime => ⟨.time96, .ro, .none, 256, [], fun _ => (.num 0)⟩
  | .discoveredReason => ⟨.u8, .ro, .none, 256, [], fun _ => (.num 0)⟩
  | .discoveredCount => ⟨.u32, .ro, .none, 256, [], fun _ => (.num 0)⟩
  | .terminalEnable => ⟨.bool, .rw, .frame, 8192, [], fun _ => (.num 0)⟩
  | .terminalChannel => ⟨.u8, .rw, .frame, 8192, [(0, 31), (255, 255)], fun _ => (.num 255)⟩
  | .terminalBonded => ⟨.bool, .rw, .frame, 8192, [], fun _ => (.num 0)⟩
  | .terminalOnuId => ⟨.u16, .rw, .frame, 8192, [(0, 1022), (65535, 65535)], fun _ => (.num 65535)⟩
  | .terminalOnuIdAssigned => ⟨.u16, .ro, .none, 8192, [], fun _ => (.num 65535)⟩
  | .terminalSerial => ⟨(.octRange 8 8), .ro, .none, 8192, [], fun _ => (zeros 8)⟩
  | .terminalStateA => ⟨.u8, .ro, .none, 8192, [], fun _ => (.num 0)⟩
  | .terminalStateB => ⟨.u8, .ro, .none, 8192, [], fun _ => (.num 0)⟩
  | .terminalRegistrationId => ⟨(.octRange 0 36), .ro, .none, 8192, [], fun _ => (.oct [])⟩
  | .terminalSnuffMode => ⟨.u8, .rw, .frame, 8192, [(0, 1)], fun _ => (.num 0)⟩
  | .terminalSnuffPhase => ⟨.u8, .ro, .none, 8192, [], fun _ => (.num 3)⟩
  | .terminalDisableSnOnDark => ⟨.bool, .rw, .frame, 8192, [], fun _ => (.num 0)⟩
  | .terminalRogue => ⟨.bool, .ro, .none, 8192, [], fun _ => (.num 0)⟩
  | .terminalRogueRelease => ⟨.bool, .wo, .immediate, 8192, [], fun _ => (.num 0)⟩
  | .terminalEqdA => ⟨.u32, .ro, .none, 8192, [], fun _ => (.num 0)⟩
  | .terminalEqdB => ⟨.u32, .ro, .none, 8192, [], fun _ => (.num 0)⟩
  | .terminalRtdA => ⟨.u32, .ro, .none, 8192, [], fun _ => (.num 0)⟩
  | .terminalRtdB => ⟨.u32, .ro, .none, 8192, [], fun _ => (.num 0)⟩
  | .terminalDsDelayA => ⟨.u32, .ro, .none, 8192, [], fun _ => (.num 0)⟩
  | .terminalDsDelayB => ⟨.u32, .ro, .none, 8192, [], fun _ => (.num 0)⟩
  | .terminalEqdCorrections => ⟨.u32, .ro, .none, 8192, [], fun _ => (.num 0)⟩
  | .terminalPowerModes => ⟨.u8, .rw, .frame, 8192, [(0, 7)], fun _ => (.num 0)⟩
  | .terminalSleepInterval => ⟨.u16, .rw, .frame, 8192, [(10, 10000)], fun _ => (.num 100)⟩
  | .terminalAwareInterval => ⟨.u16, .rw, .frame, 8192, [(2, 1000)], fun _ => (.num 10)⟩
  | .terminalKeepAliveFrames => ⟨.u8, .rw, .frame, 8192, [(1, 255)], fun _ => (.num 8)⟩
  | .terminalWakePriority => ⟨.u8, .rw, .frame, 8192, [(0, 8)], fun _ => (.num 6)⟩
  | .terminalSleepHoldBytes => ⟨.u32, .rw, .frame, 8192, [], fun _ => (.num 262144)⟩
  | .terminalAwakeHold => ⟨.u16, .rw, .frame, 8192, [], fun _ => (.num 1000)⟩
  | .terminalForceAwake => ⟨.bool, .rw, .frame, 8192, [], fun _ => (.num 0)⟩
  | .terminalPowerState => ⟨.u8, .ro, .none, 8192, [], fun _ => (.num 0)⟩
  | .allocEnable => ⟨.bool, .rw, .frame, 16384, [], fun _ => (.num 0)⟩
  | .allocTerminal => ⟨.u16, .rw, .frame, 16384, [(0, 8191), (65535, 65535)], fun _ => (.num 65535)⟩
  | .allocChannelB => ⟨.bool, .rw, .frame, 16384, [], fun _ => (.num 0)⟩
  | .allocIdValue => ⟨.u16, .rw, .frame, 16384, [], fun _ => (.num 65535)⟩
  | .allocIdAssigned => ⟨.u16, .ro, .none, 16384, [], fun _ => (.num 65535)⟩
  | .allocType => ⟨.u8, .rw, .epoch, 16384, [(1, 6)], fun _ => (.num 4)⟩
  | .allocFixedWords => ⟨.u32, .rw, .epoch, 16384, [], fun _ => (.num 0)⟩
  | .allocFixedPeriod => ⟨.u8, .rw, .epoch, 16384, [(1, 64)], fun _ => (.num 1)⟩
  | .allocFixedPhase => ⟨.u8, .rw, .epoch, 16384, [(0, 63)], fun _ => (.num 0)⟩
  | .allocAssuredWords => ⟨.u32, .rw, .epoch, 16384, [], fun _ => (.num 0)⟩
  | .allocNonAssuredWords => ⟨.u32, .rw, .epoch, 16384, [], fun _ => (.num 0)⟩
  | .allocBestEffortWeight => ⟨.u16, .rw, .epoch, 16384, [(1, 65535)], fun _ => (.num 1)⟩
  | .allocMaxWords => ⟨.u32, .rw, .epoch, 16384, [], fun _ => (.num 0)⟩
  | .allocCoopWords => ⟨.u32, .rw, .epoch, 16384, [], fun _ => (.num 0)⟩
  | .allocCoopMargin => ⟨.u8, .rw, .epoch, 16384, [(0, 50)], fun _ => (.num 5)⟩
  | .allocReport => ⟨.bool, .rw, .epoch, 16384, [], fun _ => (.num 1)⟩
  | .allocSnuffPhase => ⟨.u8, .ro, .none, 16384, [], fun _ => (.num 3)⟩
  | .allocDemandWords => ⟨.u32, .ro, .none, 16384, [], fun _ => (.num 0)⟩
  | .allocGrantedWords => ⟨.u64, .ro, .none, 16384, [], fun _ => (.num 0)⟩
  | .allocCoopGrantedWords => ⟨.u64, .ro, .none, 16384, [], fun _ => (.num 0)⟩
  | .terminalBurstProfile => ⟨.u8, .rw, .frame, 8192, [(0, 3)], fun _ => (.num 0)⟩
  | .channelEpochFrames => ⟨.u8, .rw, .epoch, 32, [(2, 64)], fun _ => (.num 8)⟩
  | .channelEpochSync => ⟨.bool, .rw, .epoch, 32, [], fun _ => (.num 0)⟩
  | .channelEpochFsyncOffset => ⟨.u8, .rw, .epoch, 32, [(0, 63)], fun _ => (.num 0)⟩
  | .channelEpochIndex => ⟨.u8, .ro, .none, 32, [], fun _ => (.num 0)⟩
  | .channelTrimPercent => ⟨.u8, .rw, .frame, 32, [(0, 100)], fun _ => (.num 0)⟩
  | .channelCommitLimit => ⟨.u8, .rw, .frame, 32, [(10, 95)], fun _ => (.num 80)⟩
  | .channelCommittedWords => ⟨.u32, .ro, .none, 32, [], fun _ => (.num 0)⟩
  | .channelProbeWords => ⟨.u16, .rw, .frame, 32, [(1, 1024)], fun _ => (.num 16)⟩
  | .channelDefaultWeight => ⟨.u16, .rw, .frame, 32, [(1, 65535)], fun _ => (.num 16)⟩
  | .channelCoopHorizon => ⟨.u8, .rw, .frame, 32, [(2, 255)], fun _ => (.num 64)⟩
  | .channelCoopTimeOffset => ⟨.i32, .rw, .frame, 32, [(-1000000, 1000000)], fun _ => (.num 0)⟩
  | .grantQuietMaps => ⟨.u64, .ro, .none, 32, [], fun _ => (.num 0)⟩
  | .grantEntryDeferrals => ⟨.u64, .ro, .none, 32, [], fun _ => (.num 0)⟩
  | .grantWindowSkips => ⟨.u64, .ro, .none, 32, [], fun _ => (.num 0)⟩
  | .grantOverbooked => ⟨.u64, .ro, .none, 32, [], fun _ => (.num 0)⟩
  | .coopOrdersAccepted => ⟨.u64, .ro, .none, 32, [], fun _ => (.num 0)⟩
  | .coopOrdersRejected => ⟨.u64, .ro, .none, 32, [], fun _ => (.num 0)⟩
  | .coopOrdersLate => ⟨.u64, .ro, .none, 32, [], fun _ => (.num 0)⟩
  | .coopWordsClipped => ⟨.u64, .ro, .none, 32, [], fun _ => (.num 0)⟩
  | .epochAdjustments => ⟨.u64, .ro, .none, 32, [], fun _ => (.num 0)⟩
  | .trimmedFrames => ⟨.u64, .ro, .none, 32, [], fun _ => (.num 0)⟩
  | .grantVoteEnable => ⟨.bool, .rw, .frame, 1, [], fun _ => (.num 1)⟩
  | .grantLaneState0 => ⟨.u8, .ro, .none, 1, [], fun _ => (.num 0)⟩
  | .grantLaneState1 => ⟨.u8, .ro, .none, 1, [], fun _ => (.num 0)⟩
  | .grantLaneState2 => ⟨.u8, .ro, .none, 1, [], fun _ => (.num 0)⟩
  | .grantLaneTest => ⟨.u8, .wo, .immediate, 1, [(0, 2)], fun _ => (.num 0)⟩
  | .grantLaneTestResult => ⟨.u8, .ro, .none, 1, [], fun _ => (.num 0)⟩
  | .grantLaneRelease => ⟨.u8, .wo, .immediate, 1, [(0, 2)], fun _ => (.num 0)⟩
  | .grantLaneDisagreements0 => ⟨.u64, .ro, .none, 1, [], fun _ => (.num 0)⟩
  | .grantLaneDisagreements1 => ⟨.u64, .ro, .none, 1, [], fun _ => (.num 0)⟩
  | .grantLaneDisagreements2 => ⟨.u64, .ro, .none, 1, [], fun _ => (.num 0)⟩
  | .grantReloads => ⟨.u32, .ro, .none, 1, [], fun _ => (.num 0)⟩
  | .fsyncEdge => ⟨.u8, .rw, .frame, 1, [(0, 1)], fun _ => (.num 0)⟩
  | .fsyncLostTimeout => ⟨.u16, .rw, .frame, 1, [(10, 60000)], fun _ => (.num 1000)⟩
  | .coopUdpPort => ⟨.u16, .rw, .frame, 1, [], fun _ => (.num 0)⟩
  | .coopEtherType => ⟨.u16, .rw, .frame, 1, [], fun _ => (.num 0)⟩
  | .coopOrdersUnattributed => ⟨.u64, .ro, .none, 1, [], fun _ => (.num 0)⟩
  | .coopPathId => ⟨.u32, .rw, .frame, 4096, [], fun _ => (.num 4294967295)⟩
  | .coopAllocation => ⟨.u16, .rw, .frame, 4096, [(0, 16383), (65535, 65535)], fun _ => (.num 65535)⟩
  | .coopDevice => ⟨.u16, .rw, .frame, 4096, [(0, 4094), (65535, 65535)], fun _ => (.num 65535)⟩
  | .flowTerminal => ⟨.u16, .rw, .frame, 65536, [(0, 8191), (65535, 65535)], fun _ => (.num 65535)⟩
  | .flowPortId => ⟨.u16, .rw, .frame, 65536, [], fun _ => (.num 65535)⟩
  | .flowEncrypt => ⟨.bool, .rw, .frame, 65536, [], fun _ => (.num 0)⟩
  | .flowBondMode => ⟨.u8, .rw, .frame, 65536, [(0, 2)], fun _ => (.num 0)⟩
  | .flowPortIdB => ⟨.u16, .rw, .frame, 65536, [], fun _ => (.num 65535)⟩
  | .flowBondFragThreshold => ⟨.u16, .rw, .frame, 65536, [(64, 12288)], fun _ => (.num 512)⟩
  | .flowBondUpTimeout => ⟨.u16, .rw, .frame, 65536, [(50, 500)], fun _ => (.num 500)⟩
  | .flowUpEncryptRequired => ⟨.bool, .rw, .frame, 65536, [], fun _ => (.num 0)⟩
  | .flowEnable => ⟨.bool, .rw, .frame, 65536, [], fun _ => (.num 0)⟩
  | .flowSnuffMode => ⟨.u8, .rw, .frame, 65536, [(0, 1)], fun _ => (.num 0)⟩
  | .flowSnuffPhase => ⟨.u8, .ro, .none, 65536, [], fun _ => (.num 3)⟩
  | .bondFragmentsLost => ⟨.u64, .ro, .none, 65536, [], fun _ => (.num 0)⟩
  | .bondFramesDiscarded => ⟨.u64, .ro, .none, 65536, [], fun _ => (.num 0)⟩
  | .bondHeaderErrors => ⟨.u64, .ro, .none, 65536, [], fun _ => (.num 0)⟩
  | .bondDuplicates => ⟨.u64, .ro, .none, 65536, [], fun _ => (.num 0)⟩
  | .bondTimeouts => ⟨.u64, .ro, .none, 65536, [], fun _ => (.num 0)⟩
  | .omciSend => ⟨(.octRange 45 1977), .wo, .immediate, 8192, [], fun _ => (zeros 45)⟩
  | .omciRxDiscards => ⟨.u64, .ro, .none, 8192, [], fun _ => (.num 0)⟩
  | .galleryAgeTime => ⟨.u32, .rw, .second, 1, [(0, 0), (10, 1000000)], fun _ => (.num 300)⟩
  | .galleryMoveLimit => ⟨.u8, .rw, .second, 1, [(0, 7)], fun _ => (.num 4)⟩
  | .galleryFlushOnLinkDown => ⟨.bool, .rw, .packet, 1, [], fun _ => (.num 1)⟩
  | .galleryEntries => ⟨.u32, .ro, .none, 1, [], fun _ => (.num 0)⟩
  | .galleryStashUsed => ⟨.u8, .ro, .none, 1, [], fun _ => (.num 0)⟩
  | .galleryStaticEntries => ⟨.u32, .ro, .none, 1, [], fun _ => (.num 0)⟩
  | .galleryFlushQueue => ⟨.u8, .ro, .none, 1, [], fun _ => (.num 0)⟩
  | .learnsInserted => ⟨.u64, .ro, .none, 1, [], fun _ => (.num 0)⟩
  | .stationMoves => ⟨.u64, .ro, .none, 1, [], fun _ => (.num 0)⟩
  | .movesDamped => ⟨.u64, .ro, .none, 1, [], fun _ => (.num 0)⟩
  | .spoofDrops => ⟨.u64, .ro, .none, 1, [], fun _ => (.num 0)⟩
  | .learnLimitExcess => ⟨.u64, .ro, .none, 1, [], fun _ => (.num 0)⟩
  | .learnQueueDrops => ⟨.u64, .ro, .none, 1, [], fun _ => (.num 0)⟩
  | .tablePressure => ⟨.u64, .ro, .none, 1, [], fun _ => (.num 0)⟩
  | .galleryParityErrors => ⟨.u64, .ro, .none, 1, [], fun _ => (.num 0)⟩
  | .staticRestores => ⟨.u64, .ro, .none, 1, [], fun _ => (.num 0)⟩
  | .agedOut => ⟨.u64, .ro, .none, 1, [], fun _ => (.num 0)⟩
  | .terminalToTerminalDrops => ⟨.u64, .ro, .none, 1, [], fun _ => (.num 0)⟩
  | .destinationDownDrops => ⟨.u64, .ro, .none, 1, [], fun _ => (.num 0)⟩
  | .hairpinDrops => ⟨.u64, .ro, .none, 1, [], fun _ => (.num 0)⟩
  | .staticConflicts => ⟨.u64, .ro, .none, 1, [], fun _ => (.num 0)⟩
  | .galleryCommand => ⟨(.octRange 24 24), .wo, .immediate, 3, [], fun _ => (zeros 24)⟩
  | .galleryResult => ⟨(.octRange 7 263), .ro, .none, 3, [], fun _ => (zeros 7)⟩
  | .domainEnable => ⟨.bool, .rw, .packet, 16384, [], fun _ => (.num 0)⟩
  | .domainMode => ⟨.u8, .rw, .packet, 16384, [(0, 2)], fun _ => (.num 1)⟩
  | .domainLearn => ⟨.bool, .rw, .packet, 16384, [], fun _ => (.num 1)⟩
  | .domainFloodUnknown => ⟨.bool, .rw, .packet, 16384, [], fun _ => (.num 1)⟩
  | .domainUplinks => ⟨.u16, .rw, .packet, 16384, [], fun _ => (.num 0)⟩
  | .domainPassage => ⟨.u8, .rw, .packet, 16384, [(0, 15)], fun _ => (.num 0)⟩
  | .domainCascadeLearn => ⟨.bool, .rw, .packet, 16384, [], fun _ => (.num 0)⟩
  | .domainSpoofAction => ⟨.u8, .rw, .packet, 16384, [(0, 1)], fun _ => (.num 0)⟩
  | .domainEntries => ⟨.u32, .ro, .none, 16384, [], fun _ => (.num 0)⟩
  | .domainFloodFlows => ⟨.u16, .ro, .none, 16384, [], fun _ => (.num 0)⟩
  | .terminalLearnLimit => ⟨.u16, .rw, .packet, 8192, [(0, 4096)], fun _ => (.num 64)⟩
  | .terminalLearnExcess => ⟨.u8, .rw, .packet, 8192, [(0, 1)], fun _ => (.num 0)⟩
  | .terminalSourceCheck => ⟨.bool, .rw, .packet, 8192, [], fun _ => (.num 0)⟩
  | .terminalLearnedEntries => ⟨.u16, .ro, .none, 8192, [], fun _ => (.num 0)⟩
  | .terminalSpoofCount => ⟨.u64, .ro, .none, 8192, [], fun _ => (.num 0)⟩
  | .flowFloodDomain => ⟨.u16, .rw, .packet, 65536, [(0, 16383), (65535, 65535)], fun _ => (.num 65535)⟩
  | .classHashSeed => ⟨.u32, .rw, .packet, 1, [], fun _ => (.num 0)⟩
  | .classFragEnable => ⟨.bool, .rw, .packet, 1, [], fun _ => (.num 1)⟩
  | .classFragLife => ⟨.u16, .rw, .packet, 1, [(1, 1000)], fun _ => (.num 30)⟩
  | .classTrapRate => ⟨.u16, .rw, .packet, 1, [(0, 10000)], fun _ => (.num 1000)⟩
  | .classRulesUsed => ⟨.u32, .ro, .none, 1, [], fun _ => (.num 0)⟩
  | .classFragUsed => ⟨.u16, .ro, .none, 1, [], fun _ => (.num 0)⟩
  | .classMisses => ⟨.u64, .ro, .none, 1, [], fun _ => (.num 0)⟩
  | .classNoDomain => ⟨.u64, .ro, .none, 1, [], fun _ => (.num 0)⟩
  | .classFlowDown => ⟨.u64, .ro, .none, 1, [], fun _ => (.num 0)⟩
  | .classTreeDirectDrops => ⟨.u64, .ro, .none, 1, [], fun _ => (.num 0)⟩
  | .spreadFailovers => ⟨.u64, .ro, .none, 1, [], fun _ => (.num 0)⟩
  | .spreadNoMember => ⟨.u64, .ro, .none, 1, [], fun _ => (.num 0)⟩
  | .fragFollowHits => ⟨.u64, .ro, .none, 1, [], fun _ => (.num 0)⟩
  | .fragFollowMisses => ⟨.u64, .ro, .none, 1, [], fun _ => (.num 0)⟩
  | .fragFollowFull => ⟨.u64, .ro, .none, 1, [], fun _ => (.num 0)⟩
  | .trapDrops => ⟨.u64, .ro, .none, 1, [], fun _ => (.num 0)⟩
  | .classParityErrors => ⟨.u64, .ro, .none, 1, [], fun _ => (.num 0)⟩
  | .classRuleRestores => ⟨.u64, .ro, .none, 1, [], fun _ => (.num 0)⟩
  | .classProfileEnable => ⟨.bool, .rw, .packet, 16, [], fun _ => (.num 0)⟩
  | .classProfileFields => ⟨.u16, .rw, .packet, 16, [], fun _ => (.num 0)⟩
  | .classProfileFrameType => ⟨.u8, .rw, .packet, 16, [(0, 3)], fun _ => (.num 0)⟩
  | .classProfileV4Prefix => ⟨.u8, .rw, .packet, 16, [(1, 32)], fun _ => (.num 32)⟩
  | .classProfileV6Prefix => ⟨.u8, .rw, .packet, 16, [(1, 128)], fun _ => (.num 128)⟩
  | .classProfileRules => ⟨.u32, .ro, .none, 16, [], fun _ => (.num 0)⟩
  | .classGroupProfiles => ⟨.u32, .rw, .packet, 64, [], fun _ => (.num 4294967295)⟩
  | .classGroupDomain => ⟨.u16, .rw, .packet, 64, [(0, 16383), (65535, 65535)], fun _ => (.num 65535)⟩
  | .classGroupClassSource => ⟨.u8, .rw, .packet, 64, [(0, 2)], fun _ => (.num 1)⟩
  | .classGroupClass => ⟨.u8, .rw, .packet, 64, [(0, 7)], fun _ => (.num 0)⟩
  | .classGroupMissAction => ⟨.u8, .rw, .packet, 64, [(0, 1)], fun _ => (.num 0)⟩
  | .portClassGroup => ⟨.u8, .rw, .packet, 20, [(0, 63)], fun _ => (.num 0)⟩
  | .flowClassGroup => ⟨.u8, .rw, .packet, 65536, [(0, 63)], fun _ => (.num 0)⟩
  | .indirHashFields => ⟨.u16, .rw, .packet, 64, [], fun _ => (.num 24966)⟩
  | .indirEntries => ⟨(.octRange 1024 1024), .rw, .packet, 64, [], fun _ => (zeros 1024)⟩
  | .portSpreadAnchor => ⟨.u8, .rw, .packet, 16, [(0, 15)], fun i => (.num i)⟩
  | .portSpreadTable => ⟨.u8, .rw, .packet, 16, [(0, 63), (255, 255)], fun _ => (.num 255)⟩
  | .flowSpreadPartner => ⟨.u16, .rw, .packet, 65536, [], fun _ => (.num 65535)⟩
  | .mcastUplinks => ⟨.u16, .rw, .packet, 4096, [], fun _ => (.num 0)⟩
  | .mcastPassage => ⟨.u8, .rw, .packet, 4096, [(0, 15)], fun _ => (.num 0)⟩
  | .mcastFlows => ⟨(.octRange 0 512), .rw, .packet, 4096, [], fun _ => (.oct [])⟩
  | .classRuleValid => ⟨.bool, .rw, .packet, 131072, [], fun _ => (.num 0)⟩
  | .classRuleProfile => ⟨.u8, .rw, .packet, 131072, [(0, 15)], fun _ => (.num 0)⟩
  | .classRuleKey => ⟨(.octRange 40 40), .rw, .packet, 131072, [], fun _ => (zeros 40)⟩
  | .classRuleForward => ⟨.u8, .rw, .packet, 131072, [(0, 5)], fun _ => (.num 0)⟩
  | .classRuleDomain => ⟨.u16, .rw, .packet, 131072, [(0, 16383), (65535, 65535)], fun _ => (.num 65535)⟩
  | .classRuleClass => ⟨.u8, .rw, .packet, 131072, [(0, 7), (255, 255)], fun _ => (.num 255)⟩
  | .classRuleColour => ⟨.u8, .rw, .packet, 131072, [(0, 2), (255, 255)], fun _ => (.num 255)⟩
  | .classRulePolicer => ⟨.u16, .rw, .packet, 131072, [], fun _ => (.num 65535)⟩
  | .classRuleQueue => ⟨.u16, .rw, .packet, 131072, [(0, 32767), (65535, 65535)], fun _ => (.num 65535)⟩
  | .classRuleFlow => ⟨.u16, .rw, .packet, 131072, [], fun _ => (.num 65535)⟩
  | .classRuleSpread => ⟨.u8, .rw, .packet, 131072, [(0, 63), (255, 255)], fun _ => (.num 255)⟩
  | .classRuleGroup => ⟨.u16, .rw, .packet, 131072, [(0, 4095)], fun _ => (.num 0)⟩
  | .classRuleLearn => ⟨.u8, .rw, .packet, 131072, [(0, 1)], fun _ => (.num 0)⟩
  | .classRuleHits => ⟨.u64, .ro, .none, 131072, [], fun _ => (.num 0)⟩
  | .queueMismatchDrops => ⟨.u64, .ro, .none, 1, [], fun _ => (.num 0)⟩
  | .nodeMismatchDrops => ⟨.u64, .ro, .none, 1, [], fun _ => (.num 0)⟩
  | .queueAbsentDrops => ⟨.u64, .ro, .none, 1, [], fun _ => (.num 0)⟩
  | .snuffPurged => ⟨.u64, .ro, .none, 1, [], fun _ => (.num 0)⟩
  | .sampleSweeps => ⟨.u64, .ro, .none, 1, [], fun _ => (.num 0)⟩
  | .queueNodePriority => ⟨.u8, .rw, .packet, 32768, [(0, 7)], fun _ => (.num 0)⟩
  | .queueNodeWeight => ⟨.u16, .rw, .packet, 32768, [(1, 4095)], fun _ => (.num 1)⟩
  | .queueNodeCommittedRate => ⟨.u32, .rw, .packet, 32768, [(0, 0), (8, 100000000)], fun _ => (.num 0)⟩
  | .queueNodeCommittedBurst => ⟨.u32, .rw, .packet, 32768, [(64, 16777216)], fun _ => (.num 65536)⟩
  | .queueNodePeakRate => ⟨.u32, .rw, .packet, 32768, [(0, 0), (8, 100000000)], fun _ => (.num 0)⟩
  | .queueNodePeakBurst => ⟨.u32, .rw, .packet, 32768, [(64, 16777216)], fun _ => (.num 65536)⟩
  | .queueNodeOverheadProfile => ⟨.u8, .rw, .packet, 32768, [(0, 63)], fun _ => (.num 0)⟩
  | .queueNodeTokenReset => ⟨.u8, .rw, .packet, 32768, [(0, 1)], fun _ => (.num 0)⟩
  | .queueNodeCommittedTokens => ⟨.i64, .ro, .none, 32768, [], fun _ => (.num 0)⟩
  | .queueNodePeakTokens => ⟨.i64, .ro, .none, 32768, [], fun _ => (.num 0)⟩
  | .queueNodeBytesSent => ⟨.u64, .ro, .none, 32768, [], fun _ => (.num 0)⟩
  | .queueNodeFramesSent => ⟨.u64, .ro, .none, 32768, [], fun _ => (.num 0)⟩
  | .queueEnable => ⟨.bool, .rw, .packet, 32768, [], fun _ => (.num 0)⟩
  | .queueTerminal => ⟨.u16, .rw, .packet, 32768, [(0, 8191), (65535, 65535)], fun _ => (.num 65535)⟩
  | .queueSnuffMode => ⟨.u8, .rw, .packet, 32768, [(0, 1)], fun _ => (.num 0)⟩
  | .queueSnuffPhase => ⟨.u8, .ro, .none, 32768, [], fun _ => (.num 3)⟩
  | .queueRequester => ⟨.u16, .rw, .packet, 32768, [(0, 1023)], fun _ => (.num 0)⟩
  | .queueMaxBytes => ⟨.u32, .rw, .packet, 32768, [], fun _ => (.num 0)⟩
  | .queueMaxBytesYellow => ⟨.u32, .rw, .packet, 32768, [], fun _ => (.num 0)⟩
  | .queueMaxBytesRed => ⟨.u32, .rw, .packet, 32768, [], fun _ => (.num 0)⟩
  | .queueDepthBytes => ⟨.u32, .ro, .none, 32768, [], fun _ => (.num 0)⟩
  | .queueHeadDelay => ⟨.u32, .ro, .none, 32768, [], fun _ => (.num 0)⟩
  | .queueDepthMax => ⟨.u32, .ro, .none, 32768, [], fun _ => (.num 0)⟩
  | .queueDelayMax => ⟨.u32, .ro, .none, 32768, [], fun _ => (.num 0)⟩
  | .queueDelayAlarm => ⟨.u32, .rw, .packet, 32768, [], fun _ => (.num 0)⟩
  | .queueTailDrops => ⟨.u64, .ro, .none, 32768, [], fun _ => (.num 0)⟩
  | .queueClosedDrops => ⟨.u64, .ro, .none, 32768, [], fun _ => (.num 0)⟩
  | .terminalNodePriority => ⟨.u8, .rw, .packet, 8192, [(0, 7)], fun _ => (.num 0)⟩
  | .terminalNodeWeight => ⟨.u16, .rw, .packet, 8192, [(1, 4095)], fun _ => (.num 1)⟩
  | .terminalNodeCommittedRate => ⟨.u32, .rw, .packet, 8192, [(0, 0), (8, 100000000)], fun _ => (.num 0)⟩
  | .terminalNodeCommittedBurst => ⟨.u32, .rw, .packet, 8192, [(64, 16777216)], fun _ => (.num 65536)⟩
  | .terminalNodePeakRate => ⟨.u32, .rw, .packet, 8192, [(0, 0), (8, 100000000)], fun _ => (.num 0)⟩
  | .terminalNodePeakBurst => ⟨.u32, .rw, .packet, 8192, [(64, 16777216)], fun _ => (.num 65536)⟩
  | .terminalNodeOverheadProfile => ⟨.u8, .rw, .packet, 8192, [(0, 63)], fun _ => (.num 0)⟩
  | .terminalNodeTokenReset => ⟨.u8, .rw, .packet, 8192, [(0, 1)], fun _ => (.num 0)⟩
  | .terminalNodeCommittedTokens => ⟨.i64, .ro, .none, 8192, [], fun _ => (.num 0)⟩
  | .terminalNodePeakTokens => ⟨.i64, .ro, .none, 8192, [], fun _ => (.num 0)⟩
  | .terminalNodeBytesSent => ⟨.u64, .ro, .none, 8192, [], fun _ => (.num 0)⟩
  | .terminalNodeFramesSent => ⟨.u64, .ro, .none, 8192, [], fun _ => (.num 0)⟩
  | .terminalNodeParent => ⟨.u8, .rw, .packet, 8192, [(0, 95), (255, 255)], fun _ => (.num 255)⟩
  | .cgNodePriority => ⟨.u8, .rw, .packet, 96, [(0, 7)], fun _ => (.num 0)⟩
  | .cgNodeWeight => ⟨.u16, .rw, .packet, 96, [(1, 4095)], fun _ => (.num 1)⟩
  | .cgNodeCommittedRate => ⟨.u32, .rw, .packet, 96, [(0, 0), (8, 100000000)], fun _ => (.num 0)⟩
  | .cgNodeCommittedBurst => ⟨.u32, .rw, .packet, 96, [(64, 16777216)], fun _ => (.num 65536)⟩
  | .cgNodePeakRate => ⟨.u32, .rw, .packet, 96, [(0, 0), (8, 100000000)], fun _ => (.num 0)⟩
  | .cgNodePeakBurst => ⟨.u32, .rw, .packet, 96, [(64, 16777216)], fun _ => (.num 65536)⟩
  | .cgNodeOverheadProfile => ⟨.u8, .rw, .packet, 96, [(0, 63)], fun _ => (.num 0)⟩
  | .cgNodeTokenReset => ⟨.u8, .rw, .packet, 96, [(0, 1)], fun _ => (.num 0)⟩
  | .cgNodeCommittedTokens => ⟨.i64, .ro, .none, 96, [], fun _ => (.num 0)⟩
  | .cgNodePeakTokens => ⟨.i64, .ro, .none, 96, [], fun _ => (.num 0)⟩
  | .cgNodeBytesSent => ⟨.u64, .ro, .none, 96, [], fun _ => (.num 0)⟩
  | .cgNodeFramesSent => ⟨.u64, .ro, .none, 96, [], fun _ => (.num 0)⟩
  | .cgNodeChannel => ⟨.u8, .rw, .packet, 96, [(0, 31), (255, 255)], fun i => (.num (cgDefaultChannel i))⟩
  | .cgNodeBonded => ⟨.bool, .rw, .packet, 96, [], fun i => (.num (if cgDefaultBonded i then 1 else 0))⟩
  | .treeNodePriority => ⟨.u8, .rw, .packet, 32, [(0, 7)], fun _ => (.num 0)⟩
  | .treeNodeWeight => ⟨.u16, .rw, .packet, 32, [(1, 4095)], fun _ => (.num 1)⟩
  | .treeNodeCommittedRate => ⟨.u32, .rw, .packet, 32, [(0, 0), (8, 100000000)], fun _ => (.num 0)⟩
  | .treeNodeCommittedBurst => ⟨.u32, .rw, .packet, 32, [(64, 16777216)], fun _ => (.num 65536)⟩
  | .treeNodePeakRate => ⟨.u32, .rw, .packet, 32, [(0, 0), (8, 100000000)], fun _ => (.num 0)⟩
  | .treeNodePeakBurst => ⟨.u32, .rw, .packet, 32, [(64, 16777216)], fun _ => (.num 65536)⟩
  | .treeNodeOverheadProfile => ⟨.u8, .rw, .packet, 32, [(0, 63)], fun _ => (.num 0)⟩
  | .treeNodeTokenReset => ⟨.u8, .rw, .packet, 32, [(0, 1)], fun _ => (.num 0)⟩
  | .treeNodeCommittedTokens => ⟨.i64, .ro, .none, 32, [], fun _ => (.num 0)⟩
  | .treeNodePeakTokens => ⟨.i64, .ro, .none, 32, [], fun _ => (.num 0)⟩
  | .treeNodeBytesSent => ⟨.u64, .ro, .none, 32, [], fun _ => (.num 0)⟩
  | .treeNodeFramesSent => ⟨.u64, .ro, .none, 32, [], fun _ => (.num 0)⟩
  | .aggregateNodePriority => ⟨.u8, .rw, .packet, 1, [(0, 7)], fun _ => (.num 0)⟩
  | .aggregateNodeWeight => ⟨.u16, .rw, .packet, 1, [(1, 4095)], fun _ => (.num 1)⟩
  | .aggregateNodeCommittedRate => ⟨.u32, .rw, .packet, 1, [(0, 0), (8, 100000000)], fun _ => (.num 0)⟩
  | .aggregateNodeCommittedBurst => ⟨.u32, .rw, .packet, 1, [(64, 16777216)], fun _ => (.num 65536)⟩
  | .aggregateNodePeakRate => ⟨.u32, .rw, .packet, 1, [(0, 0), (8, 100000000)], fun _ => (.num 0)⟩
  | .aggregateNodePeakBurst => ⟨.u32, .rw, .packet, 1, [(64, 16777216)], fun _ => (.num 65536)⟩
  | .aggregateNodeOverheadProfile => ⟨.u8, .rw, .packet, 1, [(0, 63)], fun _ => (.num 0)⟩
  | .aggregateNodeTokenReset => ⟨.u8, .rw, .packet, 1, [(0, 1)], fun _ => (.num 0)⟩
  | .aggregateNodeCommittedTokens => ⟨.i64, .ro, .none, 1, [], fun _ => (.num 0)⟩
  | .aggregateNodePeakTokens => ⟨.i64, .ro, .none, 1, [], fun _ => (.num 0)⟩
  | .aggregateNodeBytesSent => ⟨.u64, .ro, .none, 1, [], fun _ => (.num 0)⟩
  | .aggregateNodeFramesSent => ⟨.u64, .ro, .none, 1, [], fun _ => (.num 0)⟩
  | .txQueueNodePriority => ⟨.u8, .rw, .packet, 160, [(0, 7)], fun i => (.num (i % 8))⟩
  | .txQueueNodeWeight => ⟨.u16, .rw, .packet, 160, [(1, 4095)], fun _ => (.num 1)⟩
  | .txQueueNodeCommittedRate => ⟨.u32, .rw, .packet, 160, [(0, 0), (8, 100000000)], fun _ => (.num 0)⟩
  | .txQueueNodeCommittedBurst => ⟨.u32, .rw, .packet, 160, [(64, 16777216)], fun _ => (.num 65536)⟩
  | .txQueueNodePeakRate => ⟨.u32, .rw, .packet, 160, [(0, 0), (8, 100000000)], fun _ => (.num 0)⟩
  | .txQueueNodePeakBurst => ⟨.u32, .rw, .packet, 160, [(64, 16777216)], fun _ => (.num 65536)⟩
  | .txQueueNodeOverheadProfile => ⟨.u8, .rw, .packet, 160, [(0, 63)], fun _ => (.num 0)⟩
  | .txQueueNodeTokenReset => ⟨.u8, .rw, .packet, 160, [(0, 1)], fun _ => (.num 0)⟩
  | .txQueueNodeCommittedTokens => ⟨.i64, .ro, .none, 160, [], fun _ => (.num 0)⟩
  | .txQueueNodePeakTokens => ⟨.i64, .ro, .none, 160, [], fun _ => (.num 0)⟩
  | .txQueueNodeBytesSent => ⟨.u64, .ro, .none, 160, [], fun _ => (.num 0)⟩
  | .txQueueNodeFramesSent => ⟨.u64, .ro, .none, 160, [], fun _ => (.num 0)⟩
  | .txQueueRequester => ⟨.u16, .rw, .packet, 160, [(0, 1023)], fun _ => (.num 0)⟩
  | .txQueueMaxBytes => ⟨.u32, .rw, .packet, 160, [], fun _ => (.num 0)⟩
  | .txQueueMaxBytesYellow => ⟨.u32, .rw, .packet, 160, [], fun _ => (.num 0)⟩
  | .txQueueMaxBytesRed => ⟨.u32, .rw, .packet, 160, [], fun _ => (.num 0)⟩
  | .txQueueDepthBytes => ⟨.u32, .ro, .none, 160, [], fun _ => (.num 0)⟩
  | .txQueueHeadDelay => ⟨.u32, .ro, .none, 160, [], fun _ => (.num 0)⟩
  | .txQueueDepthMax => ⟨.u32, .ro, .none, 160, [], fun _ => (.num 0)⟩
  | .txQueueDelayMax => ⟨.u32, .ro, .none, 160, [], fun _ => (.num 0)⟩
  | .txQueueDelayAlarm => ⟨.u32, .rw, .packet, 160, [], fun _ => (.num 0)⟩
  | .txQueueTailDrops => ⟨.u64, .ro, .none, 160, [], fun _ => (.num 0)⟩
  | .portNodePriority => ⟨.u8, .rw, .packet, 20, [(0, 7)], fun _ => (.num 0)⟩
  | .portNodeWeight => ⟨.u16, .rw, .packet, 20, [(1, 4095)], fun _ => (.num 1)⟩
  | .portNodeCommittedRate => ⟨.u32, .rw, .packet, 20, [(0, 0), (8, 100000000)], fun _ => (.num 0)⟩
  | .portNodeCommittedBurst => ⟨.u32, .rw, .packet, 20, [(64, 16777216)], fun _ => (.num 65536)⟩
  | .portNodePeakRate => ⟨.u32, .rw, .packet, 20, [(0, 0), (8, 100000000)], fun _ => (.num 0)⟩
  | .portNodePeakBurst => ⟨.u32, .rw, .packet, 20, [(64, 16777216)], fun _ => (.num 65536)⟩
  | .portNodeOverheadProfile => ⟨.u8, .rw, .packet, 20, [(0, 63)], fun _ => (.num 0)⟩
  | .portNodeTokenReset => ⟨.u8, .rw, .packet, 20, [(0, 1)], fun _ => (.num 0)⟩
  | .portNodeCommittedTokens => ⟨.i64, .ro, .none, 20, [], fun _ => (.num 0)⟩
  | .portNodePeakTokens => ⟨.i64, .ro, .none, 20, [], fun _ => (.num 0)⟩
  | .portNodeBytesSent => ⟨.u64, .ro, .none, 20, [], fun _ => (.num 0)⟩
  | .portNodeFramesSent => ⟨.u64, .ro, .none, 20, [], fun _ => (.num 0)⟩
  | .flowQueue => ⟨.u16, .rw, .packet, 65536, [(0, 32767), (65535, 65535)], fun _ => (.num 65535)⟩
  | .overheadBytes => ⟨.i32, .rw, .packet, 64, [(-32, 63)], fun _ => (.num 0)⟩
  | .policerCir => ⟨.u32, .rw, .packet, 65536, [], fun _ => (.num 0)⟩
  | .policerCbs => ⟨.u32, .rw, .packet, 65536, [], fun _ => (.num 65536)⟩
  | .policerPir => ⟨.u32, .rw, .packet, 65536, [], fun _ => (.num 100000000)⟩
  | .policerPbs => ⟨.u32, .rw, .packet, 65536, [], fun _ => (.num 65536)⟩
  | .policerColourAware => ⟨.bool, .rw, .packet, 65536, [], fun _ => (.num 0)⟩
  | .policerRedAction => ⟨.u8, .rw, .packet, 65536, [(0, 1)], fun _ => (.num 0)⟩
  | .policerOverheadProfile => ⟨.u8, .rw, .packet, 65536, [(0, 63)], fun _ => (.num 0)⟩
  | .policerTokenReset => ⟨.u8, .rw, .packet, 65536, [(0, 1)], fun _ => (.num 0)⟩
  | .greenFrames => ⟨.u64, .ro, .none, 65536, [], fun _ => (.num 0)⟩
  | .yellowFrames => ⟨.u64, .ro, .none, 65536, [], fun _ => (.num 0)⟩
  | .redFrames => ⟨.u64, .ro, .none, 65536, [], fun _ => (.num 0)⟩
  | .greenBytes => ⟨.u64, .ro, .none, 65536, [], fun _ => (.num 0)⟩
  | .yellowBytes => ⟨.u64, .ro, .none, 65536, [], fun _ => (.num 0)⟩
  | .redBytes => ⟨.u64, .ro, .none, 65536, [], fun _ => (.num 0)⟩
  | .sumpCellsUnassigned => ⟨.u32, .ro, .none, 1, [], fun _ => (.num 0)⟩
  | .sumpBondRequester => ⟨.u16, .rw, .packet, 1, [(0, 1023)], fun _ => (.num 0)⟩
  | .quotaDrops => ⟨.u64, .ro, .none, 1, [], fun _ => (.num 0)⟩
  | .colourDrops => ⟨.u64, .ro, .none, 1, [], fun _ => (.num 0)⟩
  | .poolEmptyDrops => ⟨.u64, .ro, .none, 1, [], fun _ => (.num 0)⟩
  | .midFrameDrops => ⟨.u64, .ro, .none, 1, [], fun _ => (.num 0)⟩
  | .borrows => ⟨.u64, .ro, .none, 1, [], fun _ => (.num 0)⟩
  | .doubleFrees => ⟨.u64, .ro, .none, 1, [], fun _ => (.num 0)⟩
  | .foreignFrees => ⟨.u64, .ro, .none, 1, [], fun _ => (.num 0)⟩
  | .verdictDrops => ⟨.u64, .ro, .none, 1, [], fun _ => (.num 0)⟩
  | .poolDisabledDrops => ⟨.u64, .ro, .none, 1, [], fun _ => (.num 0)⟩
  | .poolEnable => ⟨.bool, .rw, .packet, 16, [], fun i => (.num (if i = 0 then 1 else 0))⟩
  | .poolCells => ⟨.u32, .rw, .packet, 16, [(0, 393216)], fun i => (.num (if i = 0 then 393216 else 0))⟩
  | .poolFallback => ⟨.u8, .rw, .packet, 16, [(0, 15), (255, 255)], fun _ => (.num 255)⟩
  | .poolNoticeCells => ⟨.u32, .rw, .packet, 16, [], fun i => (.num (if i = 0 then 294912 else 0))⟩
  | .poolPressureCells => ⟨.u32, .rw, .packet, 16, [], fun i => (.num (if i = 0 then 344064 else 0))⟩
  | .poolShedCells => ⟨.u32, .rw, .packet, 16, [], fun i => (.num (if i = 0 then 376832 else 0))⟩
  | .poolHysteresisCells => ⟨.u32, .rw, .packet, 16, [(0, 65535)], fun _ => (.num 256)⟩
  | .poolCellsHeld => ⟨.u32, .ro, .none, 16, [], fun _ => (.num 0)⟩
  | .poolCellsLent => ⟨.u32, .ro, .none, 16, [], fun _ => (.num 0)⟩
  | .poolSharedFree => ⟨.u32, .ro, .none, 16, [], fun _ => (.num 0)⟩
  | .poolState => ⟨.u8, .ro, .none, 16, [], fun _ => (.num 0)⟩
  | .requesterPool => ⟨.u8, .rw, .packet, 1024, [(0, 15)], fun _ => (.num 0)⟩
  | .requesterMinCells => ⟨.u32, .rw, .packet, 1024, [], fun _ => (.num 0)⟩
  | .requesterMaxCells => ⟨.u32, .rw, .packet, 1024, [(1, 393216)], fun _ => (.num 8192)⟩
  | .requesterCellsHeld => ⟨.u32, .ro, .none, 1024, [], fun _ => (.num 0)⟩
  | .requesterCellsBorrowed => ⟨.u32, .ro, .none, 1024, [], fun _ => (.num 0)⟩
  | .requesterHighWater => ⟨.u32, .ro, .none, 1024, [], fun _ => (.num 0)⟩
  | .requesterDrops => ⟨.u64, .ro, .none, 1024, [], fun _ => (.num 0)⟩
  | .sumpSourcePool => ⟨.u8, .rw, .packet, 192, [(0, 15), (255, 255)], fun _ => (.num 0)⟩
  | .uplinkQuadMode => ⟨.u8, .rw, .frame, 4, [(0, 5)], fun _ => (.num 2)⟩
  | .uplinkQuadPolarity => ⟨.u8, .rw, .frame, 4, [], fun _ => (.num 0)⟩
  | .uplinkEnable => ⟨.bool, .rw, .frame, 16, [], fun _ => (.num 0)⟩
  | .uplinkFec => ⟨.u8, .rw, .frame, 16, [(0, 3)], fun _ => .unset⟩
  | .uplinkMaxFrame => ⟨.u16, .rw, .packet, 16, [(1518, 12288)], fun _ => (.num 12288)⟩
  | .uplinkFlowControl => ⟨.u8, .rw, .frame, 16, [(0, 2)], fun _ => (.num 0)⟩
  | .uplinkPauseHonour => ⟨.bool, .rw, .frame, 16, [], fun _ => (.num 1)⟩
  | .uplinkPfcClasses => ⟨.u8, .rw, .frame, 16, [], fun _ => (.num 255)⟩
  | .uplinkPauseQuanta => ⟨.u16, .rw, .frame, 16, [(1, 65535)], fun _ => (.num 65535)⟩
  | .uplinkMacAddress => ⟨.mac, .rw, .frame, 16, [], fun _ => .unset⟩
  | .uplinkLinkDownHold => ⟨.u16, .rw, .frame, 16, [(0, 10000)], fun _ => (.num 0)⟩
  | .uplinkLinkState => ⟨.u8, .ro, .none, 16, [], fun _ => (.num 0)⟩
  | .uplinkSnuffMode => ⟨.u8, .rw, .frame, 16, [(0, 1)], fun _ => (.num 0)⟩
  | .uplinkSnuffPhase => ⟨.u8, .ro, .none, 16, [], fun _ => (.num 3)⟩
  | .uplinkCutThrough => ⟨.bool, .rw, .packet, 16, [], fun _ => (.num 1)⟩
  | .uplinkLoop => ⟨.u8, .rw, .immediate, 16, [(0, 1)], fun _ => (.num 0)⟩
  | .uplinkMacsecEnable => ⟨.bool, .rw, .frame, 16, [], fun _ => (.num 0)⟩
  | .uplinkMacsecValidate => ⟨.u8, .rw, .frame, 16, [(0, 2)], fun _ => (.num 2)⟩
  | .uplinkMacsecPtpClear => ⟨.bool, .rw, .frame, 16, [], fun _ => (.num 1)⟩
  | .uplinkWakeMode => ⟨.u8, .rw, .frame, 16, [(0, 2)], fun _ => (.num 0)⟩
  | .uplinkWakePattern => ⟨(.octRange 64 64), .rw, .frame, 16, [], fun _ => (zeros 64)⟩
  | .uplinkWakeMask => ⟨(.octRange 64 64), .rw, .frame, 16, [], fun _ => (zeros 64)⟩
  | .uplinkRxFrames => ⟨.u64, .ro, .none, 16, [], fun _ => (.num 0)⟩
  | .uplinkRxBytes => ⟨.u64, .ro, .none, 16, [], fun _ => (.num 0)⟩
  | .uplinkTxFrames => ⟨.u64, .ro, .none, 16, [], fun _ => (.num 0)⟩
  | .uplinkTxBytes => ⟨.u64, .ro, .none, 16, [], fun _ => (.num 0)⟩
  | .uplinkDropCode => ⟨.u64, .ro, .none, 16, [], fun _ => (.num 0)⟩
  | .uplinkDropRunt => ⟨.u64, .ro, .none, 16, [], fun _ => (.num 0)⟩
  | .uplinkDropOversize => ⟨.u64, .ro, .none, 16, [], fun _ => (.num 0)⟩
  | .uplinkDropFcs => ⟨.u64, .ro, .none, 16, [], fun _ => (.num 0)⟩
  | .uplinkDropMacControl => ⟨.u64, .ro, .none, 16, [], fun _ => (.num 0)⟩
  | .uplinkPauseHonoured => ⟨.u64, .ro, .none, 16, [], fun _ => (.num 0)⟩
  | .uplinkPauseIgnored => ⟨.u64, .ro, .none, 16, [], fun _ => (.num 0)⟩
  | .uplinkPauseSent => ⟨.u64, .ro, .none, 16, [], fun _ => (.num 0)⟩
  | .uplinkTxAborted => ⟨.u64, .ro, .none, 16, [], fun _ => (.num 0)⟩
  | .uplinkTxOversize => ⟨.u64, .ro, .none, 16, [], fun _ => (.num 0)⟩
  | .uplinkTxLinkDownDrops => ⟨.u64, .ro, .none, 16, [], fun _ => (.num 0)⟩
  | .uplinkTxClosedDrops => ⟨.u64, .ro, .none, 16, [], fun _ => (.num 0)⟩
  | .uplinkMacsecUntagged => ⟨.u64, .ro, .none, 16, [], fun _ => (.num 0)⟩
  | .uplinkFecCorrected => ⟨.u64, .ro, .none, 16, [], fun _ => (.num 0)⟩
  | .uplinkFecUncorrectable => ⟨.u64, .ro, .none, 16, [], fun _ => (.num 0)⟩
  | .uplinkWakeMatches => ⟨.u64, .ro, .none, 16, [], fun _ => (.num 0)⟩
  | .passageDeviceId => ⟨.u16, .rw, .frame, 1, [(0, 4094), (65535, 65535)], fun _ => (.num 65535)⟩
  | .passageRingPorts => ⟨.u8, .rw, .frame, 1, [(0, 15)], fun _ => (.num 0)⟩
  | .passageHopLimit => ⟨.u8, .rw, .frame, 1, [(1, 63)], fun _ => (.num 32)⟩
  | .passageLatencyBudget => ⟨.u32, .rw, .frame, 1, [(450, 100000)], fun _ => (.num 20000)⟩
  | .passageTransitRequester => ⟨.u16, .rw, .packet, 1, [(0, 1023)], fun _ => (.num 0)⟩
  | .passageCreditCells => ⟨.u16, .rw, .frame, 1, [(16, 1024)], fun _ => (.num 128)⟩
  | .passageReachTimeout => ⟨.u16, .rw, .frame, 1, [(2, 1000)], fun _ => (.num 10)⟩
  | .passageIdConflict => ⟨.bool, .ro, .none, 1, [], fun _ => (.num 0)⟩
  | .passagePortEnable => ⟨.bool, .rw, .frame, 4, [], fun _ => (.num 0)⟩
  | .passageLaneEnable => ⟨.u8, .rw, .frame, 4, [(0, 15)], fun _ => (.num 15)⟩
  | .passagePortState => ⟨.u8, .ro, .none, 4, [], fun _ => (.num 0)⟩
  | .passageTxLanes => ⟨.u8, .ro, .none, 4, [], fun _ => (.num 0)⟩
  | .passageRxLanes => ⟨.u8, .ro, .none, 4, [], fun _ => (.num 0)⟩
  | .passageNeighbour => ⟨.u16, .ro, .none, 4, [], fun _ => (.num 65535)⟩
  | .passageSnuffMode => ⟨.u8, .rw, .frame, 4, [(0, 1)], fun _ => (.num 0)⟩
  | .passageSnuffPhase => ⟨.u8, .ro, .none, 4, [], fun _ => (.num 3)⟩
  | .passageTimeServe => ⟨.bool, .rw, .second, 4, [], fun _ => (.num 1)⟩
  | .passagePortAsymmetry => ⟨.i32, .rw, .second, 4, [(-100000, 100000)], fun _ => (.num 0)⟩
  | .passageLaneState => ⟨.u8, .ro, .none, 16, [], fun _ => (.num 0)⟩
  | .passageLaneSkew => ⟨.u32, .ro, .none, 16, [], fun _ => (.num 0)⟩
  | .passageLaneSnuffPhase => ⟨.u8, .ro, .none, 16, [], fun _ => (.num 3)⟩
  | .passageRxFrames => ⟨.u64, .ro, .none, 4, [], fun _ => (.num 0)⟩
  | .passageTxFrames => ⟨.u64, .ro, .none, 4, [], fun _ => (.num 0)⟩
  | .passageCrcErrors => ⟨.u64, .ro, .none, 4, [], fun _ => (.num 0)⟩
  | .passageHeaderErrors => ⟨.u64, .ro, .none, 4, [], fun _ => (.num 0)⟩
  | .passageDuplicates => ⟨.u64, .ro, .none, 4, [], fun _ => (.num 0)⟩
  | .passageStale => ⟨.u64, .ro, .none, 4, [], fun _ => (.num 0)⟩
  | .passageHopDrops => ⟨.u64, .ro, .none, 4, [], fun _ => (.num 0)⟩
  | .passageLoopDrops => ⟨.u64, .ro, .none, 4, [], fun _ => (.num 0)⟩
  | .passageNoRoute => ⟨.u64, .ro, .none, 4, [], fun _ => (.num 0)⟩
  | .passageTxAborted => ⟨.u64, .ro, .none, 4, [], fun _ => (.num 0)⟩
  | .passageUntracked => ⟨.u64, .ro, .none, 4, [], fun _ => (.num 0)⟩
  | .passageStuffViolations => ⟨.u64, .ro, .none, 4, [], fun _ => (.num 0)⟩
  | .passageLaneLosses => ⟨.u64, .ro, .none, 4, [], fun _ => (.num 0)⟩
  | .passageDegradedEntries => ⟨.u64, .ro, .none, 4, [], fun _ => (.num 0)⟩
  | .passageRoute => ⟨.u8, .rw, .packet, 4095, [(0, 15)], fun _ => (.num 0)⟩
  | .passageReachable => ⟨.u8, .ro, .none, 4095, [], fun _ => (.num 0)⟩
  | .wickState => ⟨.u8, .ro, .none, 1, [], fun _ => (.num 0)⟩
  | .wickTime => ⟨.time96, .ro, .none, 1, [], fun _ => (.num 0)⟩
  | .wickSetTime => ⟨.time96, .wo, .immediate, 1, [], fun _ => (.num 0)⟩
  | .wickIncrement => ⟨.u64, .ro, .none, 1, [], fun _ => (.num 107374182400)⟩
  | .wickStepCount => ⟨.u8, .ro, .none, 1, [], fun _ => (.num 0)⟩
  | .wickCounterMismatches => ⟨.u64, .ro, .none, 1, [], fun _ => (.num 0)⟩
  | .timeAcquireSlew => ⟨.u32, .rw, .frame, 1, [(100, 10000)], fun _ => (.num 10000)⟩
  | .timeQualifyThreshold => ⟨.u32, .rw, .second, 1, [(10, 10000)], fun _ => (.num 100)⟩
  | .timeSwitchSlew => ⟨.u32, .rw, .frame, 1, [(1, 1000)], fun _ => (.num 10)⟩
  | .timeSwitchMaxOffset => ⟨.u32, .rw, .second, 1, [(10, 100000)], fun _ => (.num 1000)⟩
  | .timeOutlierLimit => ⟨.u32, .rw, .second, 1, [(100, 1000000)], fun _ => (.num 1500)⟩
  | .timeHoldoverLimit => ⟨.u32, .rw, .second, 1, [(100, 1000000)], fun _ => (.num 1100)⟩
  | .timeHoldoverEstimate => ⟨.u32, .ro, .none, 1, [], fun _ => (.num 0)⟩
  | .timeHoldoverElapsed => ⟨.u32, .ro, .none, 1, [], fun _ => (.num 0)⟩
  | .timeModelLearnedHours => ⟨.u32, .ro, .none, 1, [], fun _ => (.num 0)⟩
  | .timeModelBinsLearned => ⟨(.octRange 9 9), .ro, .none, 1, [], fun _ => (zeros 9)⟩
  | .timeModelReset => ⟨.bool, .wo, .immediate, 1, [], fun _ => (.num 0)⟩
  | .timeServoBandwidth => ⟨.u16, .rw, .second, 1, [(10, 100)], fun _ => (.num 100)⟩
  | .timeSelectedDomain => ⟨.u8, .ro, .none, 1, [], fun _ => (.num 255)⟩
  | .ovenState => ⟨.u8, .ro, .none, 1, [], fun _ => (.num 0)⟩
  | .oscCaseTemperature => ⟨.i32, .ro, .none, 1, [], fun _ => (.num 0)⟩
  | .timeDomainSource => ⟨.u8, .rw, .second, 2, [(0, 4)], fun _ => (.num 0)⟩
  | .timeDomainPorts => ⟨.u32, .rw, .second, 2, [(0, 1048575)], fun _ => (.num 0)⟩
  | .timeDomainProfile => ⟨.u8, .rw, .second, 2, [(0, 2)], fun _ => (.num 0)⟩
  | .timeDomainNumber => ⟨.u8, .rw, .second, 2, [], fun _ => (.num 24)⟩
  | .timeDomainPriority => ⟨.u8, .rw, .second, 2, [(1, 255)], fun _ => (.num 128)⟩
  | .timeDomainRevertive => ⟨.bool, .rw, .second, 2, [], fun _ => (.num 1)⟩
  | .timeDomainWtr => ⟨.u16, .rw, .second, 2, [(0, 3600)], fun _ => (.num 300)⟩
  | .timeDomainClockClassManual => ⟨.u8, .rw, .second, 2, [], fun _ => (.num 6)⟩
  | .timeDomainTodFormat => ⟨.u8, .rw, .second, 2, [(0, 1)], fun _ => (.num 0)⟩
  | .timeDomainTodConvention => ⟨.u8, .rw, .second, 2, [(0, 1)], fun _ => (.num 0)⟩
  | .timeDomainTodBaud => ⟨.u32, .rw, .second, 2, [(4800, 4800), (9600, 9600), (19200, 19200), (38400, 38400), (57600, 57600), (115200, 115200)], fun _ => (.num 9600)⟩
  | .timeDomainUtcOffset => ⟨.i32, .rw, .second, 2, [], fun _ => (.num 37)⟩
  | .timeDomainPpsDelay => ⟨.i32, .rw, .second, 2, [(-1000000, 1000000)], fun _ => (.num 0)⟩
  | .timeDomainState => ⟨.u8, .ro, .none, 2, [], fun _ => (.num 0)⟩
  | .timeDomainOffset => ⟨.i64, .ro, .none, 2, [], fun _ => (.num 0)⟩
  | .timeDomainClockClass => ⟨.u8, .ro, .none, 2, [], fun _ => (.num 0)⟩
  | .timeDomainSlavePort => ⟨.u8, .ro, .none, 2, [], fun _ => (.num 255)⟩
  | .ptpPortEnable => ⟨.bool, .rw, .second, 16, [], fun _ => (.num 0)⟩
  | .ptpPortRole => ⟨.u8, .rw, .second, 16, [(0, 2)], fun _ => (.num 0)⟩
  | .ptpPortProfile => ⟨.u8, .rw, .second, 16, [(0, 2)], fun _ => (.num 0)⟩
  | .ptpPortDomainNumber => ⟨.u8, .rw, .second, 16, [], fun _ => (.num 24)⟩
  | .ptpPortOneStep => ⟨.bool, .rw, .second, 16, [], fun _ => (.num 1)⟩
  | .ptpPortLogSync => ⟨.i32, .rw, .second, 16, [(-7, 0)], fun _ => (.num (-4))⟩
  | .ptpPortLogDelayReq => ⟨.i32, .rw, .second, 16, [(-7, 0)], fun _ => (.num (-4))⟩
  | .ptpPortLogAnnounce => ⟨.i32, .rw, .second, 16, [(-3, 1)], fun _ => (.num (-3))⟩
  | .ptpPortIngressDelay => ⟨.i32, .rw, .frame, 16, [(-100000, 100000)], fun _ => (.num 0)⟩
  | .ptpPortEgressDelay => ⟨.i32, .rw, .frame, 16, [(-100000, 100000)], fun _ => (.num 0)⟩
  | .ptpPortAsymmetry => ⟨.i32, .rw, .second, 16, [], fun _ => (.num 0)⟩
  | .ptpPortUnicastMax => ⟨.u16, .rw, .second, 16, [(0, 64)], fun _ => (.num 0)⟩
  | .ptpPortState => ⟨.u8, .ro, .none, 16, [], fun _ => (.num 0)⟩
  | .tsQueueLevel => ⟨.u8, .ro, .none, 20, [], fun _ => (.num 0)⟩
  | .tsQueueHighWater => ⟨.u8, .ro, .none, 20, [], fun _ => (.num 0)⟩
  | .tsQueueLost => ⟨.u64, .ro, .none, 20, [], fun _ => (.num 0)⟩
  | .lostStampPort => ⟨.u8, .ro, .none, 16, [], fun _ => (.num 0)⟩
  | .lostStampSequenceId => ⟨.u16, .ro, .none, 16, [], fun _ => (.num 0)⟩
  | .lostStampMessageType => ⟨.u8, .ro, .none, 16, [], fun _ => (.num 0)⟩
  | .lostStampDomain => ⟨.u8, .ro, .none, 16, [], fun _ => (.num 0)⟩
  | .lostStampTime => ⟨.time96, .ro, .none, 16, [], fun _ => (.num 0)⟩
  | .lostStampStepCount => ⟨.u8, .ro, .none, 16, [], fun _ => (.num 0)⟩
  | .lostStampTotal => ⟨.u64, .ro, .none, 1, [], fun _ => (.num 0)⟩
  | .lostStampNewest => ⟨.u8, .ro, .none, 1, [], fun _ => (.num 255)⟩
  | .ppsOutEnable => ⟨.bool, .rw, .second, 2, [], fun _ => (.num 0)⟩
  | .ppsOutWidth => ⟨.u32, .rw, .second, 2, [(1, 500000)], fun _ => (.num 100000)⟩
  | .ppsOutAdvance => ⟨.i32, .rw, .second, 2, [(-1000000, 1000000)], fun _ => (.num 0)⟩
  | .ppsOutSquelch => ⟨.bool, .rw, .second, 2, [], fun _ => (.num 1)⟩
  | .todOutEnable => ⟨.bool, .rw, .second, 1, [], fun _ => (.num 0)⟩
  | .todOutBaud => ⟨.u32, .rw, .second, 1, [(4800, 4800), (9600, 9600), (19200, 19200), (38400, 38400), (57600, 57600), (115200, 115200)], fun _ => (.num 9600)⟩
  | .freqOutEnable => ⟨.bool, .rw, .second, 2, [], fun _ => (.num 0)⟩
  | .freqOutHz => ⟨.u32, .rw, .second, 2, [(1000, 125000000)], fun _ => (.num 10000000)⟩
  | .freqOutSquelch => ⟨.bool, .rw, .second, 2, [], fun _ => (.num 1)⟩
  | .trigStart => ⟨.time96, .rw, .immediate, 8, [], fun _ => (.num 0)⟩
  | .trigPeriod => ⟨.u64, .rw, .immediate, 8, [], fun _ => (.num 0)⟩
  | .trigWidth => ⟨.u32, .rw, .immediate, 8, [], fun _ => (.num 100)⟩
  | .trigCount => ⟨.u32, .rw, .immediate, 8, [], fun _ => (.num 0)⟩
  | .trigPolarity => ⟨.bool, .rw, .immediate, 8, [], fun _ => (.num 1)⟩
  | .trigSquelch => ⟨.bool, .rw, .immediate, 8, [], fun _ => (.num 1)⟩
  | .trigArm => ⟨.bool, .wo, .immediate, 8, [], fun _ => (.num 0)⟩
  | .trigState => ⟨.u8, .ro, .none, 8, [], fun _ => (.num 0)⟩
  | .trigLateCount => ⟨.u32, .ro, .none, 8, [], fun _ => (.num 0)⟩
  | .captEnable => ⟨.bool, .rw, .frame, 8, [], fun _ => (.num 0)⟩
  | .captEdge => ⟨.u8, .rw, .frame, 8, [(0, 2)], fun _ => (.num 0)⟩
  | .captDelay => ⟨.i32, .rw, .frame, 8, [(-1000000, 1000000)], fun _ => (.num 0)⟩
  | .captNext => ⟨(.octRange 13 13), .ro, .none, 8, [], fun _ => (zeros 13)⟩
  | .captPending => ⟨.u8, .ro, .none, 8, [], fun _ => (.num 0)⟩
  | .captOverflows => ⟨.u32, .ro, .none, 8, [], fun _ => (.num 0)⟩
  | .captIgnored => ⟨.u32, .ro, .none, 8, [], fun _ => (.num 0)⟩
  | .channelTodReference => ⟨(.octRange 20 20), .ro, .none, 32, [], fun _ => (zeros 20)⟩
  | .terminalTodReferenceA => ⟨(.octRange 20 20), .ro, .none, 8192, [], fun _ => (zeros 20)⟩
  | .terminalTodReferenceB => ⟨(.octRange 20 20), .ro, .none, 8192, [], fun _ => (zeros 20)⟩
  | .cipherCoresAllotted => ⟨.u16, .ro, .none, 1, [], fun _ => (.num 0)⟩
  | .cipherCoresFree => ⟨.u16, .ro, .none, 1, [], fun _ => (.num 576)⟩
  | .entropyState => ⟨.u8, .ro, .none, 1, [], fun _ => (.num 0)⟩
  | .entropyFailures => ⟨.u64, .ro, .none, 1, [], fun _ => (.num 0)⟩
  | .ponKeySoftLimit => ⟨.u64, .rw, .frame, 1, [], fun _ => (.num 268435456)⟩
  | .ponKeyHardLimit => ⟨.u64, .rw, .frame, 1, [], fun _ => (.num 1073676288)⟩
  | .keySlotState => ⟨.u8, .ro, .none, 16384, [], fun _ => (.num 0)⟩
  | .keySlotUsage => ⟨.u64, .ro, .none, 16384, [], fun _ => (.num 0)⟩
  | .bcastKey => ⟨(.octRange 16 16), .wo, .frame, 64, [], fun _ => (zeros 16)⟩
  | .bcastKeyLock => ⟨.bool, .wo, .immediate, 64, [], fun _ => (.num 0)⟩
  | .bcastKeyState => ⟨.u8, .ro, .none, 64, [], fun _ => (.num 0)⟩
  | .bcastKeyUsage => ⟨.u64, .ro, .none, 64, [], fun _ => (.num 0)⟩
  | .channelBcastKeySwitch => ⟨.bool, .wo, .immediate, 32, [], fun _ => (.num 0)⟩
  | .saEnable => ⟨.bool, .rw, .packet, 256, [], fun _ => (.num 0)⟩
  | .saPort => ⟨.u8, .rw, .packet, 256, [(0, 19), (255, 255)], fun _ => (.num 255)⟩
  | .saDirection => ⟨.u8, .rw, .packet, 256, [(0, 1)], fun _ => (.num 0)⟩
  | .saAn => ⟨.u8, .rw, .packet, 256, [(0, 3)], fun _ => (.num 0)⟩
  | .saSuite => ⟨.u8, .rw, .packet, 256, [(0, 3)], fun _ => (.num 0)⟩
  | .saSci => ⟨.u64, .rw, .packet, 256, [], fun _ => (.num 0)⟩
  | .saSsci => ⟨.u32, .rw, .packet, 256, [], fun _ => (.num 0)⟩
  | .saSalt => ⟨(.octRange 12 12), .wo, .packet, 256, [], fun _ => (zeros 12)⟩
  | .saKey => ⟨(.octOr 16 32), .wo, .packet, 256, [], fun _ => (zeros 16)⟩
  | .saInitialPn => ⟨.u64, .rw, .packet, 256, [], fun _ => (.num 1)⟩
  | .saPnSoft => ⟨.u64, .rw, .packet, 256, [], fun _ => .unset⟩
  | .saPnHard => ⟨.u64, .rw, .packet, 256, [], fun _ => .unset⟩
  | .saLock => ⟨.bool, .wo, .immediate, 256, [], fun _ => (.num 0)⟩
  | .saState => ⟨.u8, .ro, .none, 256, [], fun _ => (.num 0)⟩
  | .saNextPn => ⟨.u64, .ro, .none, 256, [], fun _ => (.num 0)⟩
  | .saSnuffPhase => ⟨.u8, .ro, .none, 256, [], fun _ => (.num 3)⟩
  | .macsecTxAn => ⟨.u8, .rw, .packet, 20, [(0, 3)], fun _ => (.num 0)⟩
  | .macsecCipherCeiling => ⟨.u8, .rw, .frame, 20, [(0, 1)], fun _ => (.num 0)⟩
  | .macsecReplayWindow => ⟨.u32, .rw, .packet, 20, [], fun _ => (.num 0)⟩
  | .macsecPortEnable => ⟨.bool, .rw, .frame, 20, [], fun _ => (.num 0)⟩
  | .macsecTxProtected => ⟨.u64, .ro, .none, 20, [], fun _ => (.num 0)⟩
  | .macsecRxOk => ⟨.u64, .ro, .none, 20, [], fun _ => (.num 0)⟩
  | .macsecRxBadTag => ⟨.u64, .ro, .none, 20, [], fun _ => (.num 0)⟩
  | .macsecRxNoSa => ⟨.u64, .ro, .none, 20, [], fun _ => (.num 0)⟩
  | .macsecRxLate => ⟨.u64, .ro, .none, 20, [], fun _ => (.num 0)⟩
  | .macsecNoSaDrops => ⟨.u64, .ro, .none, 20, [], fun _ => (.num 0)⟩
  | .firmwareSlotActive => ⟨.u8, .ro, .none, 1, [], fun _ => (.num 0)⟩
  | .firmwareDigest => ⟨(.octRange 32 32), .ro, .none, 1, [], fun _ => (zeros 32)⟩
  | .firmwareVersion => ⟨.u32, .ro, .none, 1, [], fun _ => (.num 0)⟩
  | .firmwareRollbackFloor => ⟨.u32, .ro, .none, 1, [], fun _ => (.num 0)⟩
  | .firmwareRollbackCommit => ⟨.bool, .wo, .immediate, 1, [], fun _ => (.num 0)⟩
  | .configDigest => ⟨(.octRange 32 32), .ro, .none, 1, [], fun _ => (zeros 32)⟩
  | .commissionKey => ⟨(.octRange 68 68), .wo1, .immediate, 1, [], fun _ => (zeros 68)⟩
  | .attestRequest => ⟨(.octRange 32 32), .wo, .immediate, 3, [], fun _ => (zeros 32)⟩
  | .attestStatus => ⟨.u8, .ro, .none, 3, [], fun _ => (.num 0)⟩
  | .attestReport => ⟨(.octOr 200 5163), .ro, .none, 3, [], fun _ => (zeros 200)⟩
  | .attestPublicKey => ⟨(.octRange 68 68), .const, .none, 1, [], fun _ => .unset⟩
  | .attestCertificate => ⟨(.octRange 0 8192), .const, .none, 1, [], fun _ => .unset⟩
  | .attestIndexNext => ⟨.u32, .ro, .none, 1, [], fun _ => (.num 0)⟩
  | .attestIndexRemaining => ⟨.u32, .ro, .none, 1, [], fun _ => (.num 1048576)⟩
  | .dieIdentity => ⟨(.octRange 16 16), .const, .none, 4, [], fun _ => .unset⟩
  | .packageSerial => ⟨(.octRange 12 12), .const, .none, 1, [], fun _ => .unset⟩
  | .integrityScrubEnable => ⟨.bool, .rw, .frame, 1, [], fun _ => (.num 1)⟩
  | .integrityMonitorEnable => ⟨.bool, .rw, .frame, 1, [], fun _ => (.num 1)⟩
  | .integrityGuarantee => ⟨.bool, .ro, .none, 1, [], fun _ => (.num 0)⟩
  | .faultCause => ⟨.u32, .ro, .none, 1, [], fun _ => (.num 0)⟩
  | .faultCauseClear => ⟨.u32, .wo, .immediate, 1, [], fun _ => (.num 0)⟩
  | .faultMask => ⟨.u32, .rw, .immediate, 1, [], fun _ => (.num 255)⟩
  | .scrubPasses => ⟨.u64, .ro, .none, 1, [], fun _ => (.num 0)⟩
  | .busParityErrors => ⟨.u64, .ro, .none, 1, [], fun _ => (.num 0)⟩
  | .watchdogExpiries => ⟨.u32, .ro, .none, 1, [], fun _ => (.num 0)⟩
  | .regulatorFaults => ⟨.u32, .ro, .none, 1, [], fun _ => (.num 0)⟩
  | .oscillatorLosses => ⟨.u32, .ro, .none, 1, [], fun _ => (.num 0)⟩
  | .headlessEpisodes => ⟨.u32, .ro, .none, 1, [], fun _ => (.num 0)⟩
  | .headlessLastDuration => ⟨.u32, .ro, .none, 1, [], fun _ => (.num 0)⟩
  | .memCorrected => ⟨.u64, .ro, .none, 15, [], fun _ => (.num 0)⟩
  | .memUncorrectable => ⟨.u64, .ro, .none, 15, [], fun _ => (.num 0)⟩
  | .memLastAddress => ⟨.u32, .ro, .none, 15, [], fun _ => (.num 0)⟩
  | .memTestResult => ⟨.u8, .ro, .none, 15, [], fun _ => (.num 0)⟩
  | .memSparesUsed => ⟨.u8, .ro, .none, 15, [], fun _ => (.num 0)⟩
  | .ucieLinkState => ⟨.u8, .ro, .none, 1, [], fun _ => (.num 0)⟩
  | .ucieWidth => ⟨.u8, .ro, .none, 1, [], fun _ => (.num 16)⟩
  | .ucieWiden => ⟨.bool, .wo, .immediate, 1, [], fun _ => (.num 0)⟩
  | .ucieCrcErrors => ⟨.u64, .ro, .none, 1, [], fun _ => (.num 0)⟩
  | .ucieRetries => ⟨.u64, .ro, .none, 1, [], fun _ => (.num 0)⟩
  | .ucieRetrains => ⟨.u32, .ro, .none, 1, [], fun _ => (.num 0)⟩
  | .ucieDegrades => ⟨.u32, .ro, .none, 1, [], fun _ => (.num 0)⟩
  | .ucieLinkLosses => ⟨.u32, .ro, .none, 1, [], fun _ => (.num 0)⟩
  | .ucieUpDrops => ⟨.u64, .ro, .none, 1, [], fun _ => (.num 0)⟩
  | .counterSnapshot => ⟨.bool, .rw, .immediate, 1, [], fun _ => (.num 0)⟩
  | .counterEventLimit => ⟨.u16, .rw, .second, 1, [(1, 10000)], fun _ => (.num 1000)⟩
  | .counterOverflowsSuppressed => ⟨.u64, .ro, .none, 1, [], fun _ => (.num 0)⟩
  | .counterEvent => ⟨.u16, .rw, .immediate, 256, [], fun _ => (.num 0)⟩
  | .counterInstance => ⟨.u16, .rw, .immediate, 256, [], fun _ => (.num 65535)⟩
  | .counterEnable => ⟨.bool, .rw, .immediate, 256, [], fun _ => (.num 0)⟩
  | .counterMode => ⟨.u8, .rw, .immediate, 256, [(0, 1)], fun _ => (.num 0)⟩
  | .counterPreload => ⟨.u64, .rw, .immediate, 256, [(0, 281474976710655)], fun _ => (.num 0)⟩
  | .counterValue => ⟨.u64, .rw, .immediate, 256, [(0, 281474976710655)], fun _ => (.num 0)⟩
  | .counterOverflow => ⟨.bool, .ro, .none, 256, [], fun _ => (.num 0)⟩
  | .counterOverflowClear => ⟨.bool, .wo, .immediate, 256, [], fun _ => (.num 0)⟩
  | .counterSecondValue => ⟨.u64, .ro, .none, 256, [], fun _ => (.num 0)⟩
  | .unitStart => ⟨.u16, .wo, .immediate, 16, [], fun _ => (.num 0)⟩
  | .unitStop => ⟨.u16, .wo, .immediate, 16, [], fun _ => (.num 0)⟩
  | .unitSecondLatch => ⟨.bool, .rw, .immediate, 16, [], fun _ => (.num 1)⟩
  | .slotsRetired => ⟨.u64, .ro, .none, 6, [], fun _ => (.num 0)⟩
  | .slotsWasted => ⟨.u64, .ro, .none, 6, [], fun _ => (.num 0)⟩
  | .slotsFrontStarved => ⟨.u64, .ro, .none, 6, [], fun _ => (.num 0)⟩
  | .slotsBackStarved => ⟨.u64, .ro, .none, 6, [], fun _ => (.num 0)⟩
  | .slotsPending => ⟨.u16, .ro, .none, 6, [], fun _ => (.num 0)⟩
  | .slotsTotal => ⟨.u64, .ro, .none, 6, [], fun _ => (.num 0)⟩
  | .upWordsCarried => ⟨.u64, .ro, .none, 32, [], fun _ => (.num 0)⟩
  | .upWordsBlocked => ⟨.u64, .ro, .none, 32, [], fun _ => (.num 0)⟩
  | .upWordsStarved => ⟨.u64, .ro, .none, 32, [], fun _ => (.num 0)⟩
  | .upWordsIdle => ⟨.u64, .ro, .none, 32, [], fun _ => (.num 0)⟩
  | .upFramesAccounted => ⟨.u64, .ro, .none, 32, [], fun _ => (.num 0)⟩
  | .lineSecond => ⟨(.octRange 28 28), .ro, .none, 64, [], fun _ => (zeros 28)⟩
  | .lineErroredSeconds => ⟨.u64, .ro, .none, 64, [], fun _ => (.num 0)⟩
  | .lifetimeRecord => ⟨(.octRange 4960 4960), .ro, .none, 1, [], fun _ => (zeros 4960)⟩
  | .lifetimeRecordState => ⟨.u8, .ro, .none, 1, [], fun _ => (.num 0)⟩
  | .lifetimeSave => ⟨.bool, .wo, .immediate, 1, [], fun _ => (.num 0)⟩
  | .lifetimeLastSave => ⟨.time96, .ro, .none, 1, [], fun _ => (.num 0)⟩
  | .rawRegister => ⟨.u32, .rw, .immediate, 5767168, [], fun _ => (.num 0)⟩
  | .rawRegisterObjects => ⟨(.octRange 0 1536), .ro, .none, 5767168, [], fun _ => (.oct [])⟩
  | .rawWindowMasters => ⟨.u8, .rw, .immediate, 1, [(0, 7)], fun _ => (.num 1)⟩
  | .regLockViolation => ⟨.u32, .ro, .none, 1, [], fun _ => (.num 0)⟩
  | .regWriteLost => ⟨.u32, .ro, .none, 1, [], fun _ => (.num 0)⟩
  | .regLockViolations => ⟨.u64, .ro, .none, 1, [], fun _ => (.num 0)⟩
  | .regWritesLost => ⟨.u64, .ro, .none, 1, [], fun _ => (.num 0)⟩

def objs1000 : List Obj := [.deviceModel, .deviceBaseMac, .deviceUptime]
def objs1008 : List Obj := [.sconceUdpPort, .inbandVlan, .inbandPorts, .inbandIpv4Address, .inbandIpv6Address, .sconceClaimTimeout, .sconceAlertMask, .sconceClaimBreak]
def objs1010 : List Obj := [.mgtEnable, .mgtInterface, .mgtIpv4Address, .mgtIpv4Mask, .mgtIpv4Gateway, .mgtIpv6Address]
def objs1020 : List Obj := [.masterKey, .masterKeySet, .masterCounterFloor, .masterEventMask, .masterClaims]
def objs1028 : List Obj := [.sconceRequests, .sconceAuthFailures, .sconceReplays, .sconceMalformed, .sconceEventsLost, .sconceSuperseded]
def objs1040 : List Obj := [.imageUpload, .imageCommit, .imageStatus, .imageReceived]
def objs2000 : List Obj := [.startPhase, .startCause, .warmReset]
def objs2008 : List Obj := [.firmwareActivate, .firmwareConfirm, .firmwareTrialTime, .firmwareTrialState]
def objs2010 : List Obj := [.firmwareSlotValid, .firmwareSlotVersion]
def objs2020 : List Obj := [.devicePowerState, .devicePowerStateActual, .glimDrainTime, .glimWakeAt, .glimWakeCause, .glimEpisodes]
def objs2030 : List Obj := [.snuffActive]
def objs2040 : List Obj := [.channelSnuff, .channelSnuffMode, .channelSnuffPhase]
def objs2400 : List Obj := [.supplyVoltage, .supplyCurrent, .supplyPower, .caseTemperature, .caseTempWarn, .powerFailState, .powerFailWarnings]
def objs2410 : List Obj := [.dieTemperature]
def objs3000 : List Obj := [.treeEnable, .treePairMode, .treeCagePlan]
def objs3010 : List Obj := [.channelGeneration, .channelUpRate, .channelEqDefault, .channelEqTrack, .channelTxSwing, .channelTxPost, .channelBrstOffset, .channelBrstWidth, .channelBrstPolarity, .channelRssiRequest, .channelRssiDelay, .channelRssiWidth, .channelTrimIdleDwell, .channelLoopMode, .channelPrbsPattern, .channelPrbsErrors, .channelLaneState, .channelUpBand]
def objs3020 : List Obj := [.cageI2cRate, .cageI2cRequest, .cageI2cResult, .cageModuleIdentity, .cageModulePresent, .cageI2cPullup]
def objs3040 : List Obj := [.terminalEqPresetA, .terminalEqPresetB, .terminalEqRecommendedA, .terminalEqRecommendedB, .terminalEqPinned]
def objs3100 : List Obj := [.channelDsFec, .channelPloamPerFrame, .channelKeySwitchLead, .channelPloamRelay, .channelPloamRelayResult, .channelSuperframe]
def objs3200 : List Obj := [.channelUpSearchWindow, .channelUpGuard, .channelUpDriftThreshold, .channelUpDecrypt, .channelGapMonitor, .channelGapMinLen, .channelGapEnergyThreshold, .channelRogueFrames, .channelUpFrameDelay]
def objs3210 : List Obj := [.burstProfileEnable, .burstProfilePreambleBits, .burstProfilePreamblePattern, .burstProfileDelimiterBits, .burstProfileDelimiter, .burstProfileThreshold, .burstProfileFec]
def objs3220 : List Obj := [.upBurstsGood, .upBurstsMissing, .upHeaderErrors, .upMisdirected, .upLaneUnlocked, .upCodewordsUncorrectable, .upUnknownPortId, .upForeignPortId, .upPloamDiscarded, .upKeyDiscards, .upLitFrames, .upProfileFaults, .upReportsLost, .upOverlong, .upEarlyLight, .upDelineationLosses, .upPartialFrameDrops]
def objs3230 : List Obj := [.terminalUpBursts, .terminalUpAbsent, .terminalUpFecUncorrectable, .terminalUpBitErrors, .terminalUpOverlong, .terminalArrivalOffsetA, .terminalArrivalOffsetB]
def objs3800 : List Obj := [.channelQuietPeriod, .channelQuietLength, .channelQuietAt, .channelQuietNext, .channelReachMin, .channelReachMax, .channelAsymmetry, .channelBoardTxDelay, .channelBoardRxDelay, .channelDevTxDelay, .channelDevRxDelay, .channelLossBursts, .channelLostHold, .channelDisableUnlisted, .channelAuthLockout, .channelRogueAction, .channelRogueRetry, .channelRogueState, .channelTerminalsActive, .channelSnResponsesExcess]
def objs3810 : List Obj := [.admitSerial, .admitAction, .admitTerminal, .admitRegistrationId]
def objs3820 : List Obj := [.discoveredSerial, .discoveredChannel, .discoveredTime, .discoveredReason, .discoveredCount]
def objs3830 : List Obj := [.terminalEnable, .terminalChannel, .terminalBonded, .terminalOnuId, .terminalOnuIdAssigned, .terminalSerial, .terminalStateA, .terminalStateB, .terminalRegistrationId, .terminalSnuffMode, .terminalSnuffPhase, .terminalDisableSnOnDark, .terminalRogue, .terminalRogueRelease]
def objs3840 : List Obj := [.terminalEqdA, .terminalEqdB, .terminalRtdA, .terminalRtdB, .terminalDsDelayA, .terminalDsDelayB, .terminalEqdCorrections]
def objs3850 : List Obj := [.terminalPowerModes, .terminalSleepInterval, .terminalAwareInterval, .terminalKeepAliveFrames, .terminalWakePriority, .terminalSleepHoldBytes, .terminalAwakeHold, .terminalForceAwake, .terminalPowerState]
def objs4000 : List Obj := [.allocEnable, .allocTerminal, .allocChannelB, .allocIdValue, .allocIdAssigned, .allocType, .allocFixedWords, .allocFixedPeriod, .allocFixedPhase, .allocAssuredWords, .allocNonAssuredWords, .allocBestEffortWeight, .allocMaxWords, .allocCoopWords, .allocCoopMargin, .allocReport, .allocSnuffPhase, .allocDemandWords, .allocGrantedWords, .allocCoopGrantedWords]
def objs4010 : List Obj := [.terminalBurstProfile]
def objs4100 : List Obj := [.channelEpochFrames, .channelEpochSync, .channelEpochFsyncOffset, .channelEpochIndex, .channelTrimPercent, .channelCommitLimit, .channelCommittedWords, .channelProbeWords, .channelDefaultWeight, .channelCoopHorizon, .channelCoopTimeOffset]
def objs4110 : List Obj := [.grantQuietMaps, .grantEntryDeferrals, .grantWindowSkips, .grantOverbooked, .coopOrdersAccepted, .coopOrdersRejected, .coopOrdersLate, .coopWordsClipped, .epochAdjustments, .trimmedFrames]
def objs4200 : List Obj := [.grantVoteEnable, .grantLaneState0, .grantLaneState1, .grantLaneState2, .grantLaneTest, .grantLaneTestResult, .grantLaneRelease, .grantLaneDisagreements0, .grantLaneDisagreements1, .grantLaneDisagreements2, .grantReloads, .fsyncEdge, .fsyncLostTimeout, .coopUdpPort, .coopEtherType, .coopOrdersUnattributed]
def objs4300 : List Obj := [.coopPathId, .coopAllocation, .coopDevice]
def objs4800 : List Obj := [.flowTerminal, .flowPortId, .flowEncrypt, .flowBondMode, .flowPortIdB, .flowBondFragThreshold, .flowBondUpTimeout, .flowUpEncryptRequired, .flowEnable, .flowSnuffMode, .flowSnuffPhase]
def objs4810 : List Obj := [.bondFragmentsLost, .bondFramesDiscarded, .bondHeaderErrors, .bondDuplicates, .bondTimeouts]
def objs4880 : List Obj := [.omciSend, .omciRxDiscards]
def objs5000 : List Obj := [.galleryAgeTime, .galleryMoveLimit, .galleryFlushOnLinkDown, .galleryEntries, .galleryStashUsed, .galleryStaticEntries, .galleryFlushQueue]
def objs5008 : List Obj := [.learnsInserted, .stationMoves, .movesDamped, .spoofDrops, .learnLimitExcess, .learnQueueDrops, .tablePressure, .galleryParityErrors, .staticRestores, .agedOut, .terminalToTerminalDrops, .destinationDownDrops, .hairpinDrops, .staticConflicts]
def objs5010 : List Obj := [.galleryCommand, .galleryResult]
def objs5100 : List Obj := [.domainEnable, .domainMode, .domainLearn, .domainFloodUnknown, .domainUplinks, .domainPassage, .domainCascadeLearn, .domainSpoofAction, .domainEntries, .domainFloodFlows]
def objs5200 : List Obj := [.terminalLearnLimit, .terminalLearnExcess, .terminalSourceCheck, .terminalLearnedEntries, .terminalSpoofCount]
def objs5300 : List Obj := [.flowFloodDomain]
def objs5800 : List Obj := [.classHashSeed, .classFragEnable, .classFragLife, .classTrapRate, .classRulesUsed, .classFragUsed]
def objs5808 : List Obj := [.classMisses, .classNoDomain, .classFlowDown, .classTreeDirectDrops, .spreadFailovers, .spreadNoMember, .fragFollowHits, .fragFollowMisses, .fragFollowFull, .trapDrops, .classParityErrors, .classRuleRestores]
def objs5810 : List Obj := [.classProfileEnable, .classProfileFields, .classProfileFrameType, .classProfileV4Prefix, .classProfileV6Prefix, .classProfileRules]
def objs5820 : List Obj := [.classGroupProfiles, .classGroupDomain, .classGroupClassSource, .classGroupClass, .classGroupMissAction]
def objs5830 : List Obj := [.portClassGroup]
def objs5831 : List Obj := [.flowClassGroup]
def objs5840 : List Obj := [.indirHashFields, .indirEntries]
def objs5850 : List Obj := [.portSpreadAnchor, .portSpreadTable]
def objs5860 : List Obj := [.flowSpreadPartner]
def objs5870 : List Obj := [.mcastUplinks, .mcastPassage, .mcastFlows]
def objs5900 : List Obj := [.classRuleValid, .classRuleProfile, .classRuleKey, .classRuleForward, .classRuleDomain, .classRuleClass, .classRuleColour, .classRulePolicer, .classRuleQueue, .classRuleFlow, .classRuleSpread, .classRuleGroup, .classRuleLearn, .classRuleHits]
def objs6000 : List Obj := [.queueMismatchDrops, .nodeMismatchDrops, .queueAbsentDrops, .snuffPurged, .sampleSweeps]
def objs6010 : List Obj := [.queueNodePriority, .queueNodeWeight, .queueNodeCommittedRate, .queueNodeCommittedBurst, .queueNodePeakRate, .queueNodePeakBurst, .queueNodeOverheadProfile, .queueNodeTokenReset, .queueNodeCommittedTokens, .queueNodePeakTokens, .queueNodeBytesSent, .queueNodeFramesSent, .queueEnable, .queueTerminal, .queueSnuffMode, .queueSnuffPhase, .queueRequester, .queueMaxBytes, .queueMaxBytesYellow, .queueMaxBytesRed, .queueDepthBytes, .queueHeadDelay, .queueDepthMax, .queueDelayMax, .queueDelayAlarm, .queueTailDrops, .queueClosedDrops]
def objs6020 : List Obj := [.terminalNodePriority, .terminalNodeWeight, .terminalNodeCommittedRate, .terminalNodeCommittedBurst, .terminalNodePeakRate, .terminalNodePeakBurst, .terminalNodeOverheadProfile, .terminalNodeTokenReset, .terminalNodeCommittedTokens, .terminalNodePeakTokens, .terminalNodeBytesSent, .terminalNodeFramesSent, .terminalNodeParent]
def objs6030 : List Obj := [.cgNodePriority, .cgNodeWeight, .cgNodeCommittedRate, .cgNodeCommittedBurst, .cgNodePeakRate, .cgNodePeakBurst, .cgNodeOverheadProfile, .cgNodeTokenReset, .cgNodeCommittedTokens, .cgNodePeakTokens, .cgNodeBytesSent, .cgNodeFramesSent, .cgNodeChannel, .cgNodeBonded]
def objs6040 : List Obj := [.treeNodePriority, .treeNodeWeight, .treeNodeCommittedRate, .treeNodeCommittedBurst, .treeNodePeakRate, .treeNodePeakBurst, .treeNodeOverheadProfile, .treeNodeTokenReset, .treeNodeCommittedTokens, .treeNodePeakTokens, .treeNodeBytesSent, .treeNodeFramesSent]
def objs6050 : List Obj := [.aggregateNodePriority, .aggregateNodeWeight, .aggregateNodeCommittedRate, .aggregateNodeCommittedBurst, .aggregateNodePeakRate, .aggregateNodePeakBurst, .aggregateNodeOverheadProfile, .aggregateNodeTokenReset, .aggregateNodeCommittedTokens, .aggregateNodePeakTokens, .aggregateNodeBytesSent, .aggregateNodeFramesSent]
def objs6060 : List Obj := [.txQueueNodePriority, .txQueueNodeWeight, .txQueueNodeCommittedRate, .txQueueNodeCommittedBurst, .txQueueNodePeakRate, .txQueueNodePeakBurst, .txQueueNodeOverheadProfile, .txQueueNodeTokenReset, .txQueueNodeCommittedTokens, .txQueueNodePeakTokens, .txQueueNodeBytesSent, .txQueueNodeFramesSent, .txQueueRequester, .txQueueMaxBytes, .txQueueMaxBytesYellow, .txQueueMaxBytesRed, .txQueueDepthBytes, .txQueueHeadDelay, .txQueueDepthMax, .txQueueDelayMax, .txQueueDelayAlarm, .txQueueTailDrops]
def objs6070 : List Obj := [.portNodePriority, .portNodeWeight, .portNodeCommittedRate, .portNodeCommittedBurst, .portNodePeakRate, .portNodePeakBurst, .portNodeOverheadProfile, .portNodeTokenReset, .portNodeCommittedTokens, .portNodePeakTokens, .portNodeBytesSent, .portNodeFramesSent]
def objs6080 : List Obj := [.flowQueue]
def objs6090 : List Obj := [.overheadBytes]
def objs6200 : List Obj := [.policerCir, .policerCbs, .policerPir, .policerPbs, .policerColourAware, .policerRedAction, .policerOverheadProfile, .policerTokenReset, .greenFrames, .yellowFrames, .redFrames, .greenBytes, .yellowBytes, .redBytes]
def objs6800 : List Obj := [.sumpCellsUnassigned, .sumpBondRequester]
def objs6808 : List Obj := [.quotaDrops, .colourDrops, .poolEmptyDrops, .midFrameDrops, .borrows, .doubleFrees, .foreignFrees, .verdictDrops, .poolDisabledDrops]
def objs6810 : List Obj := [.poolEnable, .poolCells, .poolFallback, .poolNoticeCells, .poolPressureCells, .poolShedCells, .poolHysteresisCells, .poolCellsHeld, .poolCellsLent, .poolSharedFree, .poolState]
def objs6820 : List Obj := [.requesterPool, .requesterMinCells, .requesterMaxCells, .requesterCellsHeld, .requesterCellsBorrowed, .requesterHighWater, .requesterDrops]
def objs6830 : List Obj := [.sumpSourcePool]
def objs6C00 : List Obj := [.uplinkQuadMode, .uplinkQuadPolarity]
def objs6C10 : List Obj := [.uplinkEnable, .uplinkFec, .uplinkMaxFrame, .uplinkFlowControl, .uplinkPauseHonour, .uplinkPfcClasses, .uplinkPauseQuanta, .uplinkMacAddress, .uplinkLinkDownHold, .uplinkLinkState, .uplinkSnuffMode, .uplinkSnuffPhase, .uplinkCutThrough, .uplinkLoop, .uplinkMacsecEnable, .uplinkMacsecValidate, .uplinkMacsecPtpClear, .uplinkWakeMode, .uplinkWakePattern, .uplinkWakeMask]
def objs6C20 : List Obj := [.uplinkRxFrames, .uplinkRxBytes, .uplinkTxFrames, .uplinkTxBytes, .uplinkDropCode, .uplinkDropRunt, .uplinkDropOversize, .uplinkDropFcs, .uplinkDropMacControl, .uplinkPauseHonoured, .uplinkPauseIgnored, .uplinkPauseSent, .uplinkTxAborted, .uplinkTxOversize, .uplinkTxLinkDownDrops, .uplinkTxClosedDrops, .uplinkMacsecUntagged, .uplinkFecCorrected, .uplinkFecUncorrectable, .uplinkWakeMatches]
def objs7000 : List Obj := [.passageDeviceId, .passageRingPorts, .passageHopLimit, .passageLatencyBudget, .passageTransitRequester, .passageCreditCells, .passageReachTimeout, .passageIdConflict]
def objs7010 : List Obj := [.passagePortEnable, .passageLaneEnable, .passagePortState, .passageTxLanes, .passageRxLanes, .passageNeighbour, .passageSnuffMode, .passageSnuffPhase, .passageTimeServe, .passagePortAsymmetry]
def objs7020 : List Obj := [.passageLaneState, .passageLaneSkew, .passageLaneSnuffPhase]
def objs7030 : List Obj := [.passageRxFrames, .passageTxFrames, .passageCrcErrors, .passageHeaderErrors, .passageDuplicates, .passageStale, .passageHopDrops, .passageLoopDrops, .passageNoRoute, .passageTxAborted, .passageUntracked, .passageStuffViolations, .passageLaneLosses, .passageDegradedEntries]
def objs7040 : List Obj := [.passageRoute, .passageReachable]
def objs7400 : List Obj := [.wickState, .wickTime, .wickSetTime, .wickIncrement, .wickStepCount, .wickCounterMismatches, .timeAcquireSlew, .timeQualifyThreshold, .timeSwitchSlew, .timeSwitchMaxOffset, .timeOutlierLimit, .timeHoldoverLimit, .timeHoldoverEstimate, .timeHoldoverElapsed, .timeModelLearnedHours, .timeModelBinsLearned, .timeModelReset, .timeServoBandwidth, .timeSelectedDomain, .ovenState, .oscCaseTemperature]
def objs7410 : List Obj := [.timeDomainSource, .timeDomainPorts, .timeDomainProfile, .timeDomainNumber, .timeDomainPriority, .timeDomainRevertive, .timeDomainWtr, .timeDomainClockClassManual, .timeDomainTodFormat, .timeDomainTodConvention, .timeDomainTodBaud, .timeDomainUtcOffset, .timeDomainPpsDelay, .timeDomainState, .timeDomainOffset, .timeDomainClockClass, .timeDomainSlavePort]
def objs7420 : List Obj := [.ptpPortEnable, .ptpPortRole, .ptpPortProfile, .ptpPortDomainNumber, .ptpPortOneStep, .ptpPortLogSync, .ptpPortLogDelayReq, .ptpPortLogAnnounce, .ptpPortIngressDelay, .ptpPortEgressDelay, .ptpPortAsymmetry, .ptpPortUnicastMax, .ptpPortState]
def objs7430 : List Obj := [.tsQueueLevel, .tsQueueHighWater, .tsQueueLost]
def objs7440 : List Obj := [.lostStampPort, .lostStampSequenceId, .lostStampMessageType, .lostStampDomain, .lostStampTime, .lostStampStepCount]
def objs7441 : List Obj := [.lostStampTotal, .lostStampNewest]
def objs7450 : List Obj := [.ppsOutEnable, .ppsOutWidth, .ppsOutAdvance, .ppsOutSquelch]
def objs7458 : List Obj := [.todOutEnable, .todOutBaud]
def objs7460 : List Obj := [.freqOutEnable, .freqOutHz, .freqOutSquelch]
def objs7470 : List Obj := [.trigStart, .trigPeriod, .trigWidth, .trigCount, .trigPolarity, .trigSquelch, .trigArm, .trigState, .trigLateCount]
def objs7480 : List Obj := [.captEnable, .captEdge, .captDelay, .captNext, .captPending, .captOverflows, .captIgnored]
def objs7490 : List Obj := [.channelTodReference]
def objs74A0 : List Obj := [.terminalTodReferenceA, .terminalTodReferenceB]
def objs7800 : List Obj := [.cipherCoresAllotted, .cipherCoresFree, .entropyState, .entropyFailures, .ponKeySoftLimit, .ponKeyHardLimit]
def objs7810 : List Obj := [.keySlotState, .keySlotUsage]
def objs7820 : List Obj := [.bcastKey, .bcastKeyLock, .bcastKeyState, .bcastKeyUsage]
def objs7828 : List Obj := [.channelBcastKeySwitch]
def objs7840 : List Obj := [.saEnable, .saPort, .saDirection, .saAn, .saSuite, .saSci, .saSsci, .saSalt, .saKey, .saInitialPn, .saPnSoft, .saPnHard, .saLock, .saState, .saNextPn, .saSnuffPhase]
def objs7850 : List Obj := [.macsecTxAn, .macsecCipherCeiling, .macsecReplayWindow, .macsecPortEnable]
def objs7858 : List Obj := [.macsecTxProtected, .macsecRxOk, .macsecRxBadTag, .macsecRxNoSa, .macsecRxLate, .macsecNoSaDrops]
def objs7900 : List Obj := [.firmwareSlotActive, .firmwareDigest, .firmwareVersion, .firmwareRollbackFloor, .firmwareRollbackCommit, .configDigest, .commissionKey]
def objs7910 : List Obj := [.attestRequest, .attestStatus, .attestReport]
def objs7920 : List Obj := [.attestPublicKey, .attestCertificate, .attestIndexNext, .attestIndexRemaining]
def objs7B20 : List Obj := [.dieIdentity]
def objs7B28 : List Obj := [.packageSerial]
def objs7C00 : List Obj := [.integrityScrubEnable, .integrityMonitorEnable, .integrityGuarantee, .faultCause, .faultCauseClear, .faultMask, .scrubPasses, .busParityErrors, .watchdogExpiries, .regulatorFaults, .oscillatorLosses, .headlessEpisodes, .headlessLastDuration]
def objs7C10 : List Obj := [.memCorrected, .memUncorrectable, .memLastAddress, .memTestResult, .memSparesUsed]
def objs7C20 : List Obj := [.ucieLinkState, .ucieWidth, .ucieWiden, .ucieCrcErrors, .ucieRetries, .ucieRetrains, .ucieDegrades, .ucieLinkLosses, .ucieUpDrops]
def objs8000 : List Obj := [.counterSnapshot, .counterEventLimit, .counterOverflowsSuppressed]
def objs8010 : List Obj := [.counterEvent, .counterInstance, .counterEnable, .counterMode, .counterPreload, .counterValue, .counterOverflow, .counterOverflowClear, .counterSecondValue]
def objs8020 : List Obj := [.unitStart, .unitStop, .unitSecondLatch]
def objs8100 : List Obj := [.slotsRetired, .slotsWasted, .slotsFrontStarved, .slotsBackStarved, .slotsPending, .slotsTotal]
def objs8110 : List Obj := [.upWordsCarried, .upWordsBlocked, .upWordsStarved, .upWordsIdle, .upFramesAccounted]
def objs8200 : List Obj := [.lineSecond, .lineErroredSeconds]
def objs8800 : List Obj := [.lifetimeRecord, .lifetimeRecordState, .lifetimeSave, .lifetimeLastSave]
def objsF000 : List Obj := [.rawRegister]
def objsF001 : List Obj := [.rawRegisterObjects]
def objsF0F0 : List Obj := [.rawWindowMasters, .regLockViolation, .regWriteLost, .regLockViolations, .regWritesLost]

/-- Every object, in ascending index and subindex. -/
def Obj.all : List Obj :=
  objs1000 ++ objs1008 ++ objs1010 ++ objs1020 ++ objs1028 ++ objs1040 ++ objs2000 ++ objs2008 ++ objs2010
    ++ objs2020 ++ objs2030 ++ objs2040 ++ objs2400 ++ objs2410 ++ objs3000 ++ objs3010 ++ objs3020
    ++ objs3040 ++ objs3100 ++ objs3200 ++ objs3210 ++ objs3220 ++ objs3230 ++ objs3800 ++ objs3810
    ++ objs3820 ++ objs3830 ++ objs3840 ++ objs3850 ++ objs4000 ++ objs4010 ++ objs4100 ++ objs4110
    ++ objs4200 ++ objs4300 ++ objs4800 ++ objs4810 ++ objs4880 ++ objs5000 ++ objs5008 ++ objs5010
    ++ objs5100 ++ objs5200 ++ objs5300 ++ objs5800 ++ objs5808 ++ objs5810 ++ objs5820 ++ objs5830
    ++ objs5831 ++ objs5840 ++ objs5850 ++ objs5860 ++ objs5870 ++ objs5900 ++ objs6000 ++ objs6010
    ++ objs6020 ++ objs6030 ++ objs6040 ++ objs6050 ++ objs6060 ++ objs6070 ++ objs6080 ++ objs6090
    ++ objs6200 ++ objs6800 ++ objs6808 ++ objs6810 ++ objs6820 ++ objs6830 ++ objs6C00 ++ objs6C10
    ++ objs6C20 ++ objs7000 ++ objs7010 ++ objs7020 ++ objs7030 ++ objs7040 ++ objs7400 ++ objs7410
    ++ objs7420 ++ objs7430 ++ objs7440 ++ objs7441 ++ objs7450 ++ objs7458 ++ objs7460 ++ objs7470
    ++ objs7480 ++ objs7490 ++ objs74A0 ++ objs7800 ++ objs7810 ++ objs7820 ++ objs7828 ++ objs7840
    ++ objs7850 ++ objs7858 ++ objs7900 ++ objs7910 ++ objs7920 ++ objs7B20 ++ objs7B28 ++ objs7C00
    ++ objs7C10 ++ objs7C20 ++ objs8000 ++ objs8010 ++ objs8020 ++ objs8100 ++ objs8110 ++ objs8200
    ++ objs8800 ++ objsF000 ++ objsF001 ++ objsF0F0

end Sys2Proof.Machine
end

