-- ==== Sys2Proof/Machine/RegTypes.lean ====
section
/-!
DEFINITION. What a row of a register table says (R12, R425): where a register lies, its access, and for each field
whether the field is the register's own bits, part of an object (R516), or computed from the state.
-/

namespace Sys2Proof.Machine

/-- A register access code of R12; `mw` is said of the register, not of a field. -/
inductive RegAcc where
  | ro | rw | w1c | w1s | sc | wo1 | lk
  deriving DecidableEq, Repr

/-- A read-only field that is computed from the state at the read. -/
inductive RegView where
  | stageWrites | stageOpen | stageWaiting
  | powerState | clkRun | snuffActive
  | wickNsLo | wickQualified | wickOvenReady | holdElapsed
  | tsEntry (k : Nat) | lostLog (k : Nat)
  | captNs (k : Nat) | captInfo
  | framerRunning | receiverRunning
  | actSuspended | actRunning
  | reloadActive | fsyncConfirmed | allocCount | allocLast | allocCoop | trimming
  | galEntries | galStashFull | galFlushActive | galLearnDepth | galLearnPeak | galRsp (k : Nat) | galAbort
  | blockRunning
  | paramDepth | sumpRebuilding
  | uplPeerPaused | uplPauseSent | uplStopped | uplAnnounced | uplFecLock | uplLinkUp
  | psgUp | psgDegraded | psgRunning
  | keyState | keyLocked | keyUsageLo
  | selftestFail | headless
  | ucieWidthX8
  | unitOvf
  deriving DecidableEq, Repr

/-- A command that a write of 1 to an SC field starts. -/
inductive RegCmd where
  | recordClr (k : Nat) | stageOpen | stageDiscard | commitGo | glimGo
  | captClr | wickStep | trigArm
  | prbsClr | rxCal
  | huntAbort | quietNow
  | grantRelease | grantTest | grantReload
  | galGo
  | paramRead | paramWriteC | paramWriteP
  | keyLoad | keyLock | keyErase
  | wdogKick
  | ucieRetrain | ucieWiden
  deriving DecidableEq, Repr

/-- Where a field's value is kept. -/
inductive RHome where
  /-- The register's own bits. -/
  | own
  /-- Bits of an object's value, from bit `sh` up. -/
  | obj (o : Obj) (i sh : Nat)
  /-- A counter object, saturating at the field's width. -/
  | sat (o : Obj) (i : Nat)
  /-- Four bytes of an octet-string object from byte `k`, most significant first. -/
  | octw (o : Obj) (i k : Nat)
  /-- A temperature object in m°C, shown in 1/64 °C, 16 bits signed. -/
  | temp (o : Obj) (i : Nat)
  /-- The value of an object that has a "none" value, shown as zero while it is none. -/
  | nulVal (o : Obj) (i null : Nat)
  /-- The bit that says whether such an object is none: `pol` is what the bit reads when it is; the value's field is
  bits `vh` to `vl` of the same register. -/
  | nulFlag (o : Obj) (i null vh vl : Nat) (pol : Bool)
  /-- Computed at the read. -/
  | view (v : RegView)
  /-- An SC bit. -/
  | cmd (c : RegCmd)
  deriving DecidableEq

/-- A field: its bits, its access, its home, and the values that its own limits admit. -/
structure RegField where
  hi : Nat
  lo : Nat
  acc : RegAcc
  home : RHome
  ok : Nat → Bool := fun _ => true

/-- A register, or a row of registers `stride` bytes apart; `fields` is given the number in the row. -/
structure RegDesc where
  base : Nat
  stride : Nat := 4
  count : Nat := 1
  reset : Nat := 0
  mw : Bool := false
  fields : Nat → List RegField

/-- The register's own read-only bits. -/
def fRo (hi lo : Nat) : RegField := ⟨hi, lo, .ro, .own, fun _ => true⟩
/-- The register's own read-write bits. -/
def fRw (hi lo : Nat) : RegField := ⟨hi, lo, .rw, .own, fun _ => true⟩
/-- Status bits that a write of 1 clears. -/
def fW1c (hi lo : Nat) : RegField := ⟨hi, lo, .w1c, .own, fun _ => true⟩
/-- Read-write bits of an object. -/
def fObj (hi lo : Nat) (o : Obj) (i : Nat) (sh : Nat := 0) : RegField := ⟨hi, lo, .rw, .obj o i sh, fun _ => true⟩
/-- Read-only bits of an object. -/
def fObjRo (hi lo : Nat) (o : Obj) (i : Nat) (sh : Nat := 0) : RegField := ⟨hi, lo, .ro, .obj o i sh, fun _ => true⟩
/-- A counter object, saturating. -/
def fSat (hi lo : Nat) (o : Obj) (i : Nat) : RegField := ⟨hi, lo, .ro, .sat o i, fun _ => true⟩
/-- A computed read-only field. -/
def fView (hi lo : Nat) (v : RegView) : RegField := ⟨hi, lo, .ro, .view v, fun _ => true⟩
/-- A command bit. -/
def fCmd (k : Nat) (c : RegCmd) : RegField := ⟨k, k, .sc, .cmd c, fun _ => true⟩

end Sys2Proof.Machine
end

