-- ==== Sys2Proof/Machine/RegTable.lean ====
section
/-!
DEFINITION. The register tables of the head-end die, block by block (R425): R442, R466, R492, R212, R72, R100, R44,
R136, R177, R239, R262, R289, R306, R325, R350, R376, R401 and R515. A location that no row names reads as zero and
ignores writes (R13).
-/

namespace Sys2Proof.Machine

/-! Addresses of the status registers and counters that hardware updates by itself. -/

def Reg.glbLock : Nat := 0x8
def Reg.glbSnapshot : Nat := 0xC
def Reg.glbLockviol : Nat := 0x10
def Reg.glbWriteLost : Nat := 0x14
def Reg.glbStageCtrl : Nat := 0x40
def Reg.glbCommit : Nat := 0x48
def Reg.glbPfw : Nat := 0x11C
def Reg.glbPowerCtrl : Nat := 0x200
def Reg.glbPowerStatus : Nat := 0x204
def Reg.glbResetCause : Nat := 0x214
def Reg.glbClkRun : Nat := 0x218
def Reg.wickCtrl : Nat := 0x100000
def Reg.wickStatus : Nat := 0x100004
def Reg.wickNsHi : Nat := 0x10000C
def Reg.wickFrac : Nat := 0x100010
def Reg.wickIncInt : Nat := 0x100014
def Reg.wickStepLo : Nat := 0x10001C
def Reg.wickStepHi : Nat := 0x100020
def Reg.wickHoldExpiry : Nat := 0x10002C
def Reg.wickModelBase : Nat := 0x100038
def Reg.wickModelAge : Nat := 0x10003C
def Reg.wickModelBin (b : Nat) : Nat := 0x100100 + 4 * b
def Reg.tcDsStatus (n : Nat) : Nat := 0x200004 + n * 0x10000
def Reg.tcDsCtrl (n : Nat) : Nat := 0x200000 + n * 0x10000
def Reg.tcDsSfcHi (n : Nat) : Nat := 0x20000C + n * 0x10000
def Reg.tcDsFrameCnt (n : Nat) : Nat := 0x200010 + n * 0x10000
def Reg.tcDsKeyHeldCnt (n : Nat) : Nat := 0x200014 + n * 0x10000
def Reg.tcDsPortidDropCnt (n : Nat) : Nat := 0x200018 + n * 0x10000
def Reg.tcDsPloamCnt (n : Nat) : Nat := 0x20001C + n * 0x10000
def Reg.tcUsCtrl (n : Nat) : Nat := 0x200100 + n * 0x10000
def Reg.tcUsStatus (n : Nat) : Nat := 0x200104 + n * 0x10000
def Reg.tcUsLastOffset (n : Nat) : Nat := 0x200128 + n * 0x10000
def Reg.tcUsHdrErrCnt (n : Nat) : Nat := 0x20011C + n * 0x10000
def Reg.ponLaneCtrl (n : Nat) : Nat := 0x400000 + n * 0x4000
def Reg.ponLaneStatus (n : Nat) : Nat := 0x400004 + n * 0x4000
def Reg.ponLaneCmd (n : Nat) : Nat := 0x400014 + n * 0x4000
def Reg.ponLanePresetSkipCnt (n : Nat) : Nat := 0x400018 + n * 0x4000
def Reg.ponLaneBrstTruncCnt (n : Nat) : Nat := 0x40001C + n * 0x4000
def Reg.actStatus (n : Nat) : Nat := 0x500004 + n * 0x100
def Reg.actCtrl (n : Nat) : Nat := 0x500000 + n * 0x100
def Reg.actSnAcqCnt (n : Nat) : Nat := 0x500020 + n * 0x100
def Reg.actCollisionCnt (n : Nat) : Nat := 0x500024 + n * 0x100
def Reg.actEqdCorrCnt (n : Nat) : Nat := 0x500028 + n * 0x100
def Reg.actLostCnt (n : Nat) : Nat := 0x50002C + n * 0x100
def Reg.grantCtrl : Nat := 0x600000
def Reg.grantLaneStatus : Nat := 0x600004
def Reg.grantFsync : Nat := 0x600008
def Reg.grantChStatus (n : Nat) : Nat := 0x601004 + n * 0x40
def Reg.grantChEntries (n : Nat) : Nat := 0x601008 + n * 0x40
def Reg.grantChIdleWords (n : Nat) : Nat := 0x60100C + n * 0x40
def Reg.grantComputeMax : Nat := 0x60001C
def Reg.galCtrl : Nat := 0x800000
def Reg.galStatus : Nat := 0x800004
def Reg.galParityPos : Nat := 0x800010
def Reg.galLearnQ : Nat := 0x800014
def Reg.galCmd : Nat := 0x800038
def Reg.clsCtrl : Nat := 0xA00000
def Reg.clsStatus : Nat := 0xA00004
def Reg.clsParityPos : Nat := 0xA00018
def Reg.tmCtrl : Nat := 0xC00000
def Reg.tmStatus : Nat := 0xC00004
def Reg.tmAlarmQ : Nat := 0xC0000C
def Reg.tmMismatchCnt : Nat := 0xC00010
def Reg.tmParamSel : Nat := 0xC00020
def Reg.tmParamData (k : Nat) : Nat := 0xC00024 + 4 * k
def Reg.sumpCtrl : Nat := 0xE00000
def Reg.sumpStatus : Nat := 0xE00004
def Reg.sumpFaultCell : Nat := 0xE0000C
def Reg.sumpFaultReq : Nat := 0xE00010
def Reg.uplStatus (p : Nat) : Nat := 0x1001004 + p * 0x100
def Reg.psgGlobalStatus : Nat := 0x1100004
def Reg.psgStatus (p : Nat) : Nat := 0x1101004 + p * 0x100
def Reg.psgLaneStatus (p l : Nat) : Nat := 0x1101080 + p * 0x100 + l * 0x10
def Reg.ciphCtrl : Nat := 0x1200000
def Reg.ciphStatus : Nat := 0x1200004
def Reg.ciphKeySel : Nat := 0x1200010
def Reg.ciphKeyData (k : Nat) : Nat := 0x1200020 + 4 * k
def Reg.ciphKeyUsageHi : Nat := 0x120004C
def Reg.ciphLockviolSlot : Nat := 0x1200054
def Reg.integCtrl : Nat := 0x1300000
def Reg.integStatus : Nat := 0x1300004
def Reg.faultCauseReg : Nat := 0x1300008
def Reg.integEccLast : Nat := 0x1300010
def Reg.integEccLastAddr : Nat := 0x1300014
def Reg.integBusParityLast : Nat := 0x1300018
def Reg.cntGlobalCtrl : Nat := 0x1400000
def Reg.cntGlobalStatus : Nat := 0x1400004
def Reg.cntUnitSec (u : Nat) : Nat := 0x140100C + u * 0x400
def Reg.cntValHi (c : Nat) : Nat := 0x1401208 + c / 16 * 0x400 + c % 16 * 0x20
def Reg.ucieCtrl : Nat := 0x1500000
def Reg.ucieStatus : Nat := 0x1500004
def Reg.ucieLaneFail : Nat := 0x1500014
def Reg.ucieDownTime : Nat := 0x1500018

/-- R442, R466 and R492: the global block. -/
def regsGlobal : List RegDesc := [
  { base := 0x0, reset := 0x3250, fields := fun _ => [fRo 19 0] },
  { base := 0x4, fields := fun _ => [fRw 31 0] },
  { base := 0x8, fields := fun _ => [⟨15, 0, .w1s, .own, fun _ => true⟩] },
  { base := 0xC, mw := true, fields := fun _ => [fRw 13 0, fObj 14 14 .counterSnapshot 0, fRw 15 15] },
  { base := 0x10, fields := fun _ => [fObjRo 24 0 .regLockViolation 0, fObjRo 31 30 .regLockViolation 0 30] },
  { base := 0x14, fields := fun _ => [fObjRo 24 0 .regWriteLost 0, fObjRo 31 30 .regWriteLost 0 30] },
  { base := 0x18, fields := fun _ => [fSat 31 0 .regLockViolations 0] },
  { base := 0x1C, fields := fun _ => [fSat 31 0 .regWritesLost 0] },
  { base := 0x20, fields := fun _ => [fCmd 0 (.recordClr 0), fCmd 1 (.recordClr 1)] },
  { base := 0x40, fields := fun _ => [fCmd 0 .stageOpen, fCmd 1 .stageDiscard] },
  { base := 0x44, fields := fun _ => [fView 12 0 .stageWrites, fView 16 16 .stageOpen, fView 19 17 .stageWaiting] },
  { base := 0x48, fields := fun _ => [fRw 2 1, fRw 12 8, fCmd 0 .commitGo] },
  { base := 0x100, fields := fun _ => [fObjRo 15 0 .supplyVoltage 0] },
  { base := 0x104, fields := fun _ => [fObjRo 15 0 .supplyCurrent 0] },
  { base := 0x108, fields := fun _ => [⟨15, 0, .ro, .temp .caseTemperature 0, fun _ => true⟩] },
  { base := 0x10C, count := 4, fields := fun k => [⟨15, 0, .ro, .temp .dieTemperature k, fun _ => true⟩] },
  { base := 0x11C, fields := fun _ => [fRo 2 0, fW1c 9 8] },
  { base := 0x120, reset := 0x1680, fields := fun _ => [⟨15, 0, .rw, .temp .caseTempWarn 0, fun _ => true⟩] },
  { base := 0x124, reset := 0xFFFFFFFF,
    fields := fun _ => (List.range 32).map fun k => fObj k k .cageI2cPullup k },
  { base := 0x200, reset := 0x20000,
    fields := fun _ => [fRw 17 16, fCmd 8 .glimGo, fRw 0 0] },
  { base := 0x204, fields := fun _ => [fW1c 10 10, fObjRo 9 8 .glimWakeCause 0, fView 2 0 .powerState] },
  { base := 0x208, fields := fun _ => [fObj 31 0 .glimWakeAt 0 32] },
  { base := 0x20C, fields := fun _ => [fObj 31 0 .glimWakeAt 0 64] },
  { base := 0x210, fields := fun _ => [fObj 31 0 .glimWakeAt 0 0] },
  { base := 0x214, fields := fun _ => [fRo 1 0] },
  { base := 0x218, fields := fun _ => [fView 15 0 .clkRun] },
  { base := 0x21C, fields := fun _ => [fView 17 0 .snuffActive] }]

/-- R212: the Wick block. -/
def regsWick : List RegDesc := [
  { base := 0x100000, reset := 1, fields := fun _ => [fCmd 3 .captClr, fRw 2 2, fCmd 1 .wickStep, fRw 0 0] },
  { base := 0x100004, fields := fun _ => [fW1c 14 8, fRo 5 5, fView 4 4 .wickOvenReady, fView 3 3 .wickQualified,
      fObjRo 2 0 .wickState 0] },
  { base := 0x100008, fields := fun _ => [fView 31 0 .wickNsLo] },
  { base := 0x10000C, fields := fun _ => [fRo 31 0] },
  { base := 0x100010, fields := fun _ => [fRo 31 0] },
  { base := 0x100014, reset := 0x19, fields := fun _ => [fObj 31 0 .wickIncrement 0 32] },
  { base := 0x100018, fields := fun _ => [fObj 31 0 .wickIncrement 0 0] },
  { base := 0x10001C, fields := fun _ => [fRw 31 0] },
  { base := 0x100020, fields := fun _ => [fRw 31 0] },
  { base := 0x100024, fields := fun _ => [fSat 31 0 .wickCounterMismatches 0] },
  { base := 0x100028, fields := fun _ => [fObjRo 7 0 .wickStepCount 0] },
  { base := 0x10002C, fields := fun _ => [fRw 31 0] },
  { base := 0x100030, fields := fun _ => [fView 31 0 .holdElapsed] },
  { base := 0x100034, fields := fun _ => [⟨15, 0, .ro, .temp .oscCaseTemperature 0, fun _ => true⟩] },
  { base := 0x100038, fields := fun _ => [fRw 31 0] },
  { base := 0x10003C, fields := fun _ => [fRw 31 0] },
  { base := 0x100100, count := 68, fields := fun _ => [fRw 31 0] },
  { base := 0x101000, stride := 0x20, count := 20, fields := fun p => [fObjRo 7 0 .tsQueueLevel p] },
  { base := 0x101004, stride := 0x20, count := 20, fields := fun _ => [fView 31 0 (.tsEntry 0)] },
  { base := 0x101008, stride := 0x20, count := 20, fields := fun _ => [fView 31 0 (.tsEntry 1)] },
  { base := 0x10100C, stride := 0x20, count := 20, fields := fun _ => [fView 31 0 (.tsEntry 2)] },
  { base := 0x101010, stride := 0x20, count := 20, fields := fun _ => [fView 31 0 (.tsEntry 3)] },
  { base := 0x102000, stride := 0x10, count := 16, fields := fun _ => [fView 31 0 (.lostLog 0)] },
  { base := 0x102004, stride := 0x10, count := 16, fields := fun _ => [fView 31 0 (.lostLog 1)] },
  { base := 0x102008, stride := 0x10, count := 16, fields := fun _ => [fView 31 0 (.lostLog 2)] },
  { base := 0x10200C, stride := 0x10, count := 16, fields := fun i => [fObjRo 7 0 .lostStampStepCount i,
      fObjRo 12 8 .lostStampPort i] },
  { base := 0x103000, stride := 0x40, count := 8, fields := fun k => [fObj 31 0 .trigStart k 32] },
  { base := 0x103004, stride := 0x40, count := 8, fields := fun k => [fObj 31 0 .trigStart k 64] },
  { base := 0x103008, stride := 0x40, count := 8, fields := fun k => [fObj 31 0 .trigStart k 0] },
  { base := 0x10300C, stride := 0x40, count := 8, fields := fun k => [fObj 31 0 .trigPeriod k 0] },
  { base := 0x103010, stride := 0x40, count := 8, fields := fun k => [fObj 31 0 .trigPeriod k 32] },
  { base := 0x103014, stride := 0x40, count := 8, fields := fun k => [fObj 31 0 .trigWidth k] },
  { base := 0x103018, stride := 0x40, count := 8, fields := fun k => [fObj 31 0 .trigCount k] },
  { base := 0x10301C, stride := 0x40, count := 8, fields := fun k => [fCmd 0 .trigArm, fObj 1 1 .trigPolarity k,
      fObj 2 2 .trigSquelch k, fObjRo 5 4 .trigState k] },
  { base := 0x104000, stride := 0x20, count := 8, fields := fun k => [fObj 0 0 .captEnable k, fObj 2 1 .captEdge k] },
  { base := 0x104004, stride := 0x20, count := 8, fields := fun _ => [fView 31 0 (.captNs 0)] },
  { base := 0x104008, stride := 0x20, count := 8, fields := fun _ => [fView 31 0 (.captNs 1)] },
  { base := 0x10400C, stride := 0x20, count := 8, fields := fun _ => [fView 31 0 (.captNs 2)] },
  { base := 0x104010, stride := 0x20, count := 8, fields := fun k => [fView 7 0 .captInfo,
      fObjRo 12 8 .captPending k] }]

/-- R72 and R100: the channel TC block. -/
def regsTc : List RegDesc :=
  let ch (b : Nat) (r : Nat) (f : Nat → List RegField) : RegDesc :=
    { base := 0x200000 + b, stride := 0x10000, count := 32, reset := r, fields := f }
  [ ch 0x0 0x402 fun n => [fObj 10 8 .channelPloamPerFrame n, fObj 4 2 .channelGeneration n, fObj 1 1 .channelDsFec n,
      fRw 0 0],
    ch 0x4 0 fun _ => [fW1c 5 1, fView 0 0 .framerRunning],
    ch 0x8 0 fun n => [fObjRo 31 0 .channelSuperframe n],
    ch 0xC 0 fun _ => [fRo 18 0],
    ch 0x10 0 fun _ => [fRo 31 0],
    ch 0x14 0 fun _ => [fRo 31 0],
    ch 0x18 0 fun _ => [fRo 31 0],
    ch 0x1C 0 fun _ => [fRo 31 0],
    ch 0x100 0x20280C fun n => [fObj 24 16 .channelUpSearchWindow n, fObj 15 8 .channelGapEnergyThreshold n,
      fObj 3 3 .channelUpDecrypt n, fObj 2 2 .channelGapMonitor n, fRw 0 0],
    ch 0x104 0 fun _ => [fW1c 9 1, fView 0 0 .receiverRunning],
    ch 0x108 0xC8 fun n => [fObj 13 0 .channelGapMinLen n],
    ch 0x10C 0 fun n => [fObj 11 0 .channelUpGuard n],
    ch 0x110 0x804 fun n => [fObj 5 0 .channelUpDriftThreshold n, fObj 15 8 .channelRogueFrames n],
    ch 0x114 0 fun n => [fObjRo 31 0 .upBurstsGood n],
    ch 0x118 0 fun n => [fSat 31 0 .upBurstsMissing n],
    ch 0x11C 0 fun _ => [fRo 31 0],
    ch 0x120 0 fun n => [fSat 31 0 .upCodewordsUncorrectable n],
    ch 0x124 0 fun n => [fSat 31 0 .upLitFrames n],
    ch 0x128 0 fun _ => [fRo 28 0] ]

/-- R44: the PON lane block. -/
def regsLane : List RegDesc :=
  let ch (b : Nat) (r : Nat) (f : Nat → List RegField) : RegDesc :=
    { base := 0x400000 + b, stride := 0x4000, count := 32, reset := r, fields := f }
  [ ch 0x0 0x6340 fun n => [fObj 15 12 .channelEqDefault n, fRw 11 11, fObj 10 8 .channelPrbsPattern n, fRw 6 6,
      fObj 5 4 .channelLoopMode n, fRw 1 0],
    ch 0x4 0 fun n => [fW1c 13 8, fObjRo 6 4 .channelLaneState n, fRo 3 3, fObjRo 2 2 .cageModulePresent n, fRo 1 0],
    ch 0x8 0x8802 fun n => [fObj 6 0 .channelBrstOffset n, fObj 14 8 .channelBrstWidth n,
      fObj 15 15 .channelBrstPolarity n],
    ch 0xC 0x2A fun n => [fObj 3 0 .channelTxSwing n, fObj 6 4 .channelTxPost n],
    ch 0x10 0 fun n => [fSat 31 0 .channelPrbsErrors n],
    ch 0x14 0 fun _ => [fCmd 0 .prbsClr, fCmd 1 .rxCal],
    ch 0x18 0 fun _ => [fRo 31 0],
    ch 0x1C 0 fun _ => [fRo 31 0] ]

/-- R136: the activation block. -/
def regsAct : List RegDesc :=
  let ch (b : Nat) (r : Nat) (f : Nat → List RegField) : RegDesc :=
    { base := 0x500000 + b, stride := 0x100, count := 32, reset := r, fields := f }
  let t (b : Nat) (f : Nat → List RegField) : RegDesc :=
    { base := 0x504000 + b, stride := 0x20, count := 8192, fields := f }
  [ ch 0x0 0x4020000 fun n => [fObj 31 24 .channelLossBursts n, fObj 17 16 .channelRogueAction n,
      fObj 3 3 .channelDisableUnlisted n, fCmd 2 .huntAbort, fCmd 1 .quietNow, fRw 0 0],
    ch 0x4 0 fun n => [fObjRo 11 10 .channelRogueState n, fW1c 9 2, fView 1 1 .actSuspended, fView 0 0 .actRunning],
    ch 0x8 0x3E8 fun n => [fObj 15 0 .channelQuietPeriod n],
    ch 0xC 0xFA fun n => [fObj 9 0 .channelQuietLength n],
    ch 0x10 0x1400 fun n => [fObj 5 0 .channelReachMin n, fObj 13 8 .channelReachMax n],
    ch 0x14 0 fun n => [fObj 31 0 .channelAsymmetry n],
    ch 0x18 0 fun n => [fObjRo 31 0 .channelDevTxDelay n],
    ch 0x1C 0 fun n => [fObjRo 31 0 .channelDevRxDelay n],
    ch 0x20 0 fun _ => [fRo 31 0],
    ch 0x24 0 fun _ => [fRo 31 0],
    ch 0x28 0 fun _ => [fRo 31 0],
    ch 0x2C 0 fun _ => [fRo 31 0],
    ch 0x30 0 fun n => [fSat 31 0 .channelSnResponsesExcess n],
    t 0x0 fun k => [fObjRo 31 0 .terminalEqdA k],
    t 0x4 fun k => [fObjRo 31 0 .terminalEqdB k],
    t 0x8 fun k => [fObjRo 31 0 .terminalRtdA k],
    t 0xC fun k => [fObjRo 31 0 .terminalRtdB k],
    t 0x10 fun k => [fObjRo 31 0 .terminalDsDelayA k],
    t 0x14 fun k => [fObjRo 31 0 .terminalDsDelayB k],
    t 0x18 fun k => [fObjRo 2 0 .terminalStateA k, fObjRo 6 4 .terminalStateB k, fObjRo 10 8 .terminalPowerState k] ]

/-- R177: the grant engine block. -/
def regsGrant : List RegDesc :=
  let ch (b : Nat) (r : Nat) (f : Nat → List RegField) : RegDesc :=
    { base := 0x601000 + b, stride := 0x40, count := 32, reset := r, fields := f }
  [ { base := 0x600000, reset := 2, fields := fun _ => [fCmd 7 .grantRelease, fCmd 6 .grantTest,
        ⟨5, 4, .rw, .own, fun v => v != 3⟩, fCmd 2 .grantReload, fObj 1 1 .grantVoteEnable 0, fRw 0 0] },
    { base := 0x600004, fields := fun _ => [fW1c 23 23, fObjRo 22 21 .grantLaneTestResult 0, fView 20 20 .reloadActive,
        fW1c 19 16, fObjRo 10 8 .grantLaneState2 0, fObjRo 6 4 .grantLaneState1 0, fObjRo 2 0 .grantLaneState0 0] },
    { base := 0x600008, reset := 0x3E80000, fields := fun _ => [fObj 0 0 .fsyncEdge 0, fView 2 2 .fsyncConfirmed,
        fW1c 3 3, fObj 31 16 .fsyncLostTimeout 0] },
    { base := 0x60000C, fields := fun _ => [fSat 31 0 .grantLaneDisagreements0 0] },
    { base := 0x600010, fields := fun _ => [fSat 31 0 .grantLaneDisagreements1 0] },
    { base := 0x600014, fields := fun _ => [fSat 31 0 .grantLaneDisagreements2 0] },
    { base := 0x600018, fields := fun _ => [fSat 31 0 .grantReloads 0] },
    { base := 0x60001C, fields := fun _ => [⟨15, 0, .rw, .own, fun v => v == 0⟩] },
    ch 0x0 0x8 fun n => [fObj 22 16 .channelTrimPercent n, fObj 13 8 .channelEpochFsyncOffset n,
      fObj 7 7 .channelEpochSync n, fObj 6 0 .channelEpochFrames n],
    ch 0x4 0 fun n => [fW1c 13 8, fView 7 7 .trimming, fObjRo 6 0 .channelEpochIndex n],
    ch 0x8 0 fun _ => [fRo 10 0, fRo 26 16],
    ch 0xC 0 fun _ => [fRo 17 0],
    ch 0x10 0 fun n => [fSat 31 0 .grantQuietMaps n],
    ch 0x14 0 fun n => [fSat 31 0 .grantEntryDeferrals n],
    ch 0x18 0 fun n => [fSat 31 0 .grantWindowSkips n],
    ch 0x1C 0 fun n => [fSat 31 0 .coopOrdersRejected n],
    { base := 0x620000, stride := 0x10, count := 16384, fields := fun a => [fObjRo 31 0 .allocDemandWords a] },
    { base := 0x620004, stride := 0x10, count := 16384, fields := fun _ => [fView 31 0 .allocLast] },
    { base := 0x620008, stride := 0x10, count := 16384, fields := fun a => [fObjRo 1 0 .allocSnuffPhase a,
        fView 15 8 .allocCount, fView 16 16 .allocCoop] } ]

/-- R239: the Gallery learning block. -/
def regsGallery : List RegDesc := [
  { base := 0x800000, reset := 0x400000E, fields := fun _ => [fObj 26 24 .galleryMoveLimit 0,
      fObj 3 3 .galleryFlushOnLinkDown 0, fRw 2 0] },
  { base := 0x800004, fields := fun _ => [fW1c 14 8, fView 2 2 .galStashFull, fView 1 1 .galFlushActive,
      fView 0 0 .blockRunning] },
  { base := 0x800008, reset := 0x12C, fields := fun _ => [fObj 19 0 .galleryAgeTime 0] },
  { base := 0x80000C, fields := fun _ => [fView 19 0 .galEntries, fObjRo 26 20 .galleryStashUsed 0] },
  { base := 0x800010, fields := fun _ => [fRo 31 31, fRo 19 0] },
  { base := 0x800014, fields := fun _ => [fView 10 0 .galLearnDepth, fView 26 16 .galLearnPeak] },
  { base := 0x800020, count := 6, fields := fun _ => [fRw 31 0] },
  { base := 0x800038, fields := fun _ => [fCmd 0 .galGo] },
  { base := 0x80003C, fields := fun _ => [fView 31 0 .galAbort] }] ++
  (([.learnsInserted, .stationMoves, .movesDamped, .spoofDrops, .learnLimitExcess, .learnQueueDrops, .tablePressure,
    .galleryParityErrors, .staticRestores, .agedOut, .terminalToTerminalDrops, .destinationDownDrops, .hairpinDrops,
    .staticConflicts] : List Obj).mapIdx fun k o =>
    ({ base := 0x800040 + 4 * k, fields := fun _ => [fSat 31 0 o 0] } : RegDesc)) ++
  (List.range 66).map fun k => { base := 0x800100 + 4 * k, fields := fun _ => [fView 31 0 (.galRsp k)] }

/-- R262: the classification block. -/
def regsClass : List RegDesc := [
  { base := 0xA00000, reset := 6, fields := fun _ => [fRw 2 2, fObj 1 1 .classFragEnable 0, fRw 0 0] },
  { base := 0xA00004, fields := fun _ => [fW1c 14 8, fView 0 0 .blockRunning] },
  { base := 0xA00008, fields := fun _ => [fObj 31 0 .classHashSeed 0] },
  { base := 0xA0000C, reset := 0x1E, fields := fun _ => [fObj 9 0 .classFragLife 0] },
  { base := 0xA00010, fields := fun _ => [fObjRo 12 0 .classFragUsed 0] },
  { base := 0xA00014, fields := fun _ => [fObjRo 17 0 .classRulesUsed 0] },
  { base := 0xA00018, fields := fun _ => [fRo 31 31, fRo 17 0] },
  { base := 0xA0001C, reset := 0x3E8, fields := fun _ => [fObj 15 0 .classTrapRate 0] }] ++
  (([.classMisses, .classNoDomain, .classFlowDown, .classTreeDirectDrops, .spreadFailovers, .spreadNoMember,
    .fragFollowHits, .fragFollowMisses, .fragFollowFull, .trapDrops, .classParityErrors, .classRuleRestores]
    : List Obj).mapIdx fun k o =>
    ({ base := 0xA00040 + 4 * k, fields := fun _ => [fSat 31 0 o 0] } : RegDesc))

/-- The four registers of a scheduling node (R289). `par` gives the node's [31:23] fields. -/
def nodeRegs (base count : Nat) (prio weight ovh ctok ptok frames : Obj) (par : Nat → List RegField) : List RegDesc := [
  { base := base, stride := 0x10, count := count, reset := 0x10,
    fields := fun i => [fObj 2 0 prio i, fObj 15 4 weight i, fObj 21 16 ovh i] ++ par i },
  { base := base + 4, stride := 0x10, count := count, fields := fun i => [fObjRo 31 0 ctok i] },
  { base := base + 8, stride := 0x10, count := count, fields := fun i => [fObjRo 31 0 ptok i] },
  { base := base + 12, stride := 0x10, count := count, fields := fun i => [fObjRo 31 0 frames i] }]

/-- R289: the traffic manager block. -/
def regsTm : List RegDesc := [
  { base := 0xC00000, reset := 0xE, fields := fun _ => [fRw 3 0] },
  { base := 0xC00004, fields := fun _ => [fW1c 6 1, fView 0 0 .blockRunning] },
  { base := 0xC00008, fields := fun _ => [fObjRo 31 0 .sampleSweeps 0] },
  { base := 0xC0000C, fields := fun _ => [fRo 31 31, fRo 15 0] },
  { base := 0xC00010, fields := fun _ => [fRo 31 0] },
  { base := 0xC00014, fields := fun _ => [fSat 31 0 .queueAbsentDrops 0] },
  { base := 0xC00018, fields := fun _ => [fSat 31 0 .snuffPurged 0] },
  { base := 0xC00020, fields := fun _ => [fRw 15 0, fRw 22 20, fRw 24 24] },
  { base := 0xC00024, count := 4, fields := fun _ => [fRw 31 0] },
  { base := 0xC00034, fields := fun _ => [fCmd 0 .paramRead, fCmd 1 .paramWriteC, fCmd 2 .paramWriteP] },
  { base := 0xC00100, count := 64, fields := fun k => [fObj 7 0 .overheadBytes k] }] ++
  nodeRegs 0xC40000 8192 .terminalNodePriority .terminalNodeWeight .terminalNodeOverheadProfile
    .terminalNodeCommittedTokens .terminalNodePeakTokens .terminalNodeFramesSent
    (fun i => [fObj 31 24 .terminalNodeParent i]) ++
  nodeRegs 0xC60000 96 .cgNodePriority .cgNodeWeight .cgNodeOverheadProfile .cgNodeCommittedTokens .cgNodePeakTokens
    .cgNodeFramesSent (fun i => [fObj 31 24 .cgNodeChannel i, fObj 23 23 .cgNodeBonded i]) ++
  nodeRegs 0xC60600 32 .treeNodePriority .treeNodeWeight .treeNodeOverheadProfile .treeNodeCommittedTokens
    .treeNodePeakTokens .treeNodeFramesSent (fun _ => []) ++
  nodeRegs 0xC60800 1 .aggregateNodePriority .aggregateNodeWeight .aggregateNodeOverheadProfile
    .aggregateNodeCommittedTokens .aggregateNodePeakTokens .aggregateNodeFramesSent (fun _ => []) ++
  nodeRegs 0xC60810 20 .portNodePriority .portNodeWeight .portNodeOverheadProfile .portNodeCommittedTokens
    .portNodePeakTokens .portNodeFramesSent (fun _ => []) ++ [
  { base := 0xC70000, stride := 0x10, count := 160, fields := fun j => [fObjRo 3 1 .txQueueNodePriority j,
      fObj 12 7 .txQueueNodeOverheadProfile j] },
  { base := 0xC70004, stride := 0x10, count := 160, fields := fun j => [fObjRo 26 0 .txQueueDepthBytes j] },
  { base := 0xC70008, stride := 0x10, count := 160, fields := fun _ => [fView 31 0 .paramDepth] },
  { base := 0xC7000C, stride := 0x10, count := 160, reset := 1, fields := fun j => [fObj 11 0 .txQueueNodeWeight j] },
  { base := 0xC80000, stride := 0x10, count := 32768, reset := 0x80000000, fields := fun q => [fObj 0 0 .queueEnable q,
      fObj 3 1 .queueNodePriority q, fObj 4 4 .queueSnuffMode q, fObjRo 6 5 .queueSnuffPhase q,
      fObj 12 7 .queueNodeOverheadProfile q, ⟨28, 16, .rw, .nulVal .queueTerminal q 0xFFFF, fun _ => true⟩,
      ⟨31, 31, .rw, .nulFlag .queueTerminal q 0xFFFF 28 16 true, fun _ => true⟩] },
  { base := 0xC80004, stride := 0x10, count := 32768, fields := fun q => [fObjRo 26 0 .queueDepthBytes q] },
  { base := 0xC80008, stride := 0x10, count := 32768, fields := fun _ => [fView 31 0 .paramDepth] },
  { base := 0xC8000C, stride := 0x10, count := 32768, reset := 1, fields := fun q => [fObj 11 0 .queueNodeWeight q] },
  { base := 0xD00000, stride := 0x10, count := 65536, fields := fun p => [fObj 0 0 .policerColourAware p,
      fObj 1 1 .policerRedAction p, fObj 7 2 .policerOverheadProfile p] },
  { base := 0xD00004, stride := 0x10, count := 65536, fields := fun p => [fObjRo 31 0 .greenFrames p] },
  { base := 0xD00008, stride := 0x10, count := 65536, fields := fun p => [fObjRo 31 0 .yellowFrames p] },
  { base := 0xD0000C, stride := 0x10, count := 65536, fields := fun p => [fObjRo 31 0 .redFrames p] }]

/-- R306: the Sump block. -/
def regsSump : List RegDesc :=
  let pool (b : Nat) (f : Nat → List RegField) : RegDesc :=
    { base := 0xE01000 + b, stride := 0x40, count := 16, fields := f }
  let req (b : Nat) (f : Nat → List RegField) : RegDesc :=
    { base := 0xE10000 + b, stride := 0x10, count := 1024, fields := f }
  [ { base := 0xE00000, reset := 6, fields := fun _ => [fRw 2 0] },
    { base := 0xE00004, fields := fun _ => [fW1c 15 8, fView 1 1 .sumpRebuilding, fView 0 0 .blockRunning] },
    { base := 0xE00008, fields := fun _ => [fObjRo 18 0 .sumpCellsUnassigned 0] },
    { base := 0xE0000C, fields := fun _ => [fRo 31 31, fRo 18 0] },
    { base := 0xE00010, fields := fun _ => [fRo 16 16, fRo 9 0] } ] ++
  (([.quotaDrops, .colourDrops, .poolEmptyDrops, .midFrameDrops, .borrows, .doubleFrees, .foreignFrees, .verdictDrops,
    .poolDisabledDrops] : List Obj).mapIdx fun k o =>
    ({ base := 0xE00040 + 4 * k, fields := fun _ => [fSat 31 0 o 0] } : RegDesc)) ++
  [ pool 0x0 fun p => [fObj 0 0 .poolEnable p, ⟨11, 8, .rw, .nulVal .poolFallback p 0xFF, fun _ => true⟩,
      ⟨12, 12, .rw, .nulFlag .poolFallback p 0xFF 11 8 false, fun _ => true⟩, fObjRo 17 16 .poolState p],
    pool 0x4 fun p => [fObj 18 0 .poolCells p],
    pool 0x8 fun p => [fObj 18 0 .poolNoticeCells p],
    pool 0xC fun p => [fObj 18 0 .poolPressureCells p],
    pool 0x10 fun p => [fObj 18 0 .poolShedCells p],
    pool 0x14 fun p => [fObj 18 0 .poolHysteresisCells p],
    pool 0x18 fun p => [fObjRo 18 0 .poolCellsHeld p],
    pool 0x1C fun p => [fObjRo 18 0 .poolCellsLent p],
    pool 0x20 fun p => [fObjRo 18 0 .poolSharedFree p],
    req 0x0 fun r => [fObj 3 0 .requesterPool r],
    req 0x4 fun r => [fObj 18 0 .requesterMinCells r],
    req 0x8 fun r => [fObj 18 0 .requesterMaxCells r],
    req 0xC fun r => [fObjRo 18 0 .requesterCellsHeld r] ]

/-- R325: the uplink block. -/
def regsUplink : List RegDesc :=
  let po (b : Nat) (r : Nat) (f : Nat → List RegField) : RegDesc :=
    { base := 0x1001000 + b, stride := 0x100, count := 16, reset := r, fields := f }
  [ { base := 0x1000000, count := 4, reset := 2, fields := fun q => [fObj 2 0 .uplinkQuadMode q,
        fObj 11 4 .uplinkQuadPolarity q] },
    po 0x0 0xC0C30 fun p => [fObj 21 20 .uplinkWakeMode p, fObj 19 19 .uplinkMacsecPtpClear p,
      fObj 18 17 .uplinkMacsecValidate p, fObj 16 16 .uplinkMacsecEnable p, fObj 13 12 .uplinkLoop p,
      fObj 11 11 .uplinkCutThrough p, fObj 10 10 .uplinkPauseHonour p, fObj 9 8 .uplinkFlowControl p,
      fObj 5 4 .uplinkFec p, fObj 3 3 .uplinkSnuffMode p, fObj 0 0 .uplinkEnable p],
    po 0x4 0 fun p => [fW1c 12 8, fObjRo 5 4 .uplinkSnuffPhase p, fView 3 3 .uplPeerPaused, fView 2 2 .uplPauseSent,
      fView 1 1 .uplFecLock, fView 0 0 .uplLinkUp],
    po 0x8 0x3000 fun p => [fObj 13 0 .uplinkMaxFrame p],
    po 0xC 0xFFFFFF fun p => [fObj 15 0 .uplinkPauseQuanta p, fObj 23 16 .uplinkPfcClasses p],
    po 0x10 0 fun _ => [fView 7 0 .uplStopped, fView 15 8 .uplAnnounced],
    po 0x14 0 fun p => [fObj 13 0 .uplinkLinkDownHold p] ] ++
  (([.uplinkDropCode, .uplinkDropRunt, .uplinkDropOversize, .uplinkDropFcs, .uplinkDropMacControl, .uplinkPauseHonoured,
    .uplinkPauseIgnored, .uplinkPauseSent, .uplinkTxAborted, .uplinkTxOversize] : List Obj).mapIdx fun k o =>
    po (0x40 + 4 * k) 0 fun p => [fSat 31 0 o p]) ++
  ((List.range 16).map fun k => po (0x80 + 4 * k) 0 fun p => [⟨31, 0, .rw, .octw .uplinkWakePattern p (4 * k), fun _ => true⟩]) ++
  ((List.range 16).map fun k => po (0xC0 + 4 * k) 0 fun p => [⟨31, 0, .rw, .octw .uplinkWakeMask p (4 * k), fun _ => true⟩])

/-- R350: the Passage block. -/
def regsPassage : List RegDesc :=
  let po (b : Nat) (r : Nat) (f : Nat → List RegField) : RegDesc :=
    { base := 0x1101000 + b, stride := 0x100, count := 4, reset := r, fields := f }
  [ { base := 0x1100000, reset := 0x2000, fields := fun _ => [
        ⟨28, 28, .rw, .nulFlag .passageDeviceId 0 0xFFFF 27 16 false, fun _ => true⟩,
        ⟨27, 16, .rw, .nulVal .passageDeviceId 0 0xFFFF, fun v => v != 0xFFF⟩,
        fObj 13 8 .passageHopLimit 0, fObj 7 4 .passageRingPorts 0, fRw 0 0] },
    { base := 0x1100004, fields := fun _ => [fW1c 1 0, fView 8 8 .psgRunning] },
    { base := 0x1100008, reset := 0x80, fields := fun _ => [fObj 10 0 .passageCreditCells 0] },
    { base := 0x110000C, reset := 0xA, fields := fun _ => [fObj 9 0 .passageReachTimeout 0] },
    po 0x0 0xF08 fun p => [fObj 11 8 .passageLaneEnable p, fObj 3 3 .passageTimeServe p, fObj 1 1 .passageSnuffMode p,
      fObj 0 0 .passagePortEnable p],
    po 0x4 0 fun p => [fW1c 21 16, fObjRo 11 10 .passageSnuffPhase p, fObjRo 9 6 .passageTxLanes p,
      fObjRo 5 2 .passageRxLanes p, fView 1 1 .psgDegraded, fView 0 0 .psgUp] ] ++
  (([.passageRxFrames, .passageTxFrames, .passageCrcErrors, .passageHeaderErrors, .passageDuplicates, .passageStale,
    .passageHopDrops, .passageLoopDrops, .passageNoRoute, .passageTxAborted, .passageUntracked,
    .passageStuffViolations, .passageLaneLosses, .passageDegradedEntries] : List Obj).mapIdx fun k o =>
    po (0x40 + 4 * k) 0 fun p => [fSat 31 0 o p]) ++
  ((List.range 4).map fun l => po (0x80 + 0x10 * l) 0 fun p => [fObjRo 1 0 .passageLaneState (4 * p + l), fRo 2 2,
    fRo 15 8]) ++
  ((List.range 4).map fun l => po (0x84 + 0x10 * l) 0 fun p => [fObjRo 17 0 .passageLaneSkew (4 * p + l)]) ++
  [ { base := 0x1110000, count := 4095, fields := fun d => [fObj 3 0 .passageRoute d, fObjRo 11 8 .passageReachable d] } ]

/-- R376: the cipher pool block. -/
def regsCipher : List RegDesc := [
  { base := 0x1200000, reset := 2, fields := fun _ => [fRw 1 0] },
  { base := 0x1200004, fields := fun _ => [fW1c 9 5, fObjRo 1 0 .entropyState 0] },
  { base := 0x1200008, fields := fun _ => [fObjRo 9 0 .cipherCoresAllotted 0, fObjRo 25 16 .cipherCoresFree 0] },
  { base := 0x1200010, fields := fun _ => [fRw 18 0] },
  { base := 0x1200020, count := 8, fields := fun _ => [] },
  { base := 0x1200040, fields := fun _ => [fCmd 0 .keyLoad, fCmd 1 .keyLock, fCmd 2 .keyErase] },
  { base := 0x1200044, fields := fun _ => [fView 2 0 .keyState, fView 3 3 .keyLocked] },
  { base := 0x1200048, fields := fun _ => [fView 31 0 .keyUsageLo] },
  { base := 0x120004C, fields := fun _ => [fRo 31 0] },
  { base := 0x1200050, fields := fun _ => [fSat 31 0 .entropyFailures 0] },
  { base := 0x1200054, fields := fun _ => [fRo 31 31, fRo 18 0] }]

/-- R401: the integrity block. -/
def regsInteg : List RegDesc := [
  { base := 0x1300000, reset := 0xE, fields := fun _ => [fRw 3 3, fObj 2 2 .integrityMonitorEnable 0,
      fObj 1 1 .integrityScrubEnable 0, fCmd 0 .wdogKick] },
  { base := 0x1300004, fields := fun _ => [fView 15 15 .selftestFail, fView 14 14 .headless,
      fObjRo 13 13 .integrityGuarantee 0, fW1c 5 0] },
  { base := 0x1300008, fields := fun _ => [fObjRo 7 7 .faultCause 0 7, ⟨6, 1, .w1c, .obj .faultCause 0 1, fun _ => true⟩,
      fObjRo 0 0 .faultCause 0 0] },
  { base := 0x130000C, reset := 0xFF, fields := fun _ => [fObjRo 7 7 .faultMask 0 7, fObj 6 1 .faultMask 0 1,
      fObjRo 0 0 .faultMask 0 0] },
  { base := 0x1300010, fields := fun _ => [fRo 31 31, fRo 8 0] },
  { base := 0x1300014, fields := fun _ => [fRo 23 0] },
  { base := 0x1300018, fields := fun _ => [fRo 31 31, fRo 7 0] },
  { base := 0x130001C, fields := fun _ => [fObjRo 31 0 .scrubPasses 0] },
  { base := 0x1300040, count := 15, fields := fun m => [fSat 31 0 .memCorrected m] },
  { base := 0x1300080, count := 15, fields := fun m => [fSat 31 0 .memUncorrectable m] },
  { base := 0x1300100, count := 15, fields := fun m => [fObjRo 1 0 .memTestResult m, fObjRo 15 8 .memSparesUsed m] }]

/-- The registers of counter unit `u` (R515). -/
def unitRegs (u : Nat) : List RegDesc :=
  let b := 0x1401000 + u * 0x400
  let c (o : Nat) (r : Nat) (f : Nat → List RegField) : RegDesc :=
    { base := b + 0x200 + o, stride := 0x20, count := 16, reset := r, fields := fun k => f (u * 16 + k) }
  [ { base := b, mw := true, fields := fun _ => (List.range 16).map fun k => fObj k k .counterEnable (u * 16 + k) },
    { base := b + 4, fields := fun _ => (List.range 16).map fun k =>
        ⟨k, k, .w1c, .obj .counterOverflow (u * 16 + k) 0, fun _ => true⟩ },
    { base := b + 8, reset := 1, fields := fun _ => [fObj 0 0 .unitSecondLatch u] },
    { base := b + 12, fields := fun _ => [fRo 31 0] },
    c 0x0 0xFFFF0000 fun k => [fObj 31 16 .counterInstance k, fObj 12 12 .counterMode k, fObj 11 0 .counterEvent k],
    c 0x4 0 fun k => [⟨31, 0, .rw, .obj .counterValue k 0, fun _ => true⟩],
    c 0x8 0 fun _ => [fRw 15 0],
    c 0xC 0 fun k => [fObj 31 0 .counterPreload k 0],
    c 0x10 0 fun k => [fObj 15 0 .counterPreload k 32],
    c 0x14 0 fun k => [fObjRo 31 0 .counterSecondValue k 0],
    c 0x18 0 fun _ => [fRo 15 0] ]

/-- R515: the counter block. -/
def regsCount : List RegDesc := [
  { base := 0x1400000, reset := 6, fields := fun _ => [fRw 2 0] },
  { base := 0x1400004, fields := fun _ => [fW1c 16 16, fView 15 0 .unitOvf] },
  { base := 0x1400008, reset := 0x3E8, fields := fun _ => [fObj 13 0 .counterEventLimit 0] },
  { base := 0x140000C, fields := fun _ => [fSat 31 0 .counterOverflowsSuppressed 0] }] ++
  (List.range 16).flatMap unitRegs ++
  ((([.slotsRetired, .slotsWasted, .slotsFrontStarved, .slotsBackStarved] : List Obj).mapIdx fun i o =>
    ([ { base := 0x1408000 + 8 * i, stride := 0x40, count := 6, fields := fun k => [fObjRo 31 0 o k 0] },
       { base := 0x1408004 + 8 * i, stride := 0x40, count := 6, fields := fun _ => [fRo 31 0] } ] : List RegDesc))).flatten ++
  [ { base := 0x1408020, stride := 0x40, count := 6, fields := fun k => [fObjRo 8 0 .slotsPending k] } ] ++
  ((([.upWordsCarried, .upWordsBlocked, .upWordsStarved, .upWordsIdle] : List Obj).mapIdx fun i o =>
    ([ { base := 0x1409000 + 8 * i, stride := 0x20, count := 32, fields := fun n => [fObjRo 31 0 o n 0] },
       { base := 0x1409004 + 8 * i, stride := 0x20, count := 32, fields := fun n => [fObjRo 31 0 o n 32] } ] : List RegDesc))).flatten ++
  ((List.range 4).map fun i =>
    ({ base := 0x140A000 + 4 * i, stride := 0x20, count := 64,
       fields := fun l => [⟨31, 0, .ro, .octw .lineSecond l (12 + 4 * i), fun _ => true⟩] } : RegDesc)) ++
  [ { base := 0x140A010, stride := 0x20, count := 64, fields := fun l => [⟨31, 0, .ro, .octw .lineSecond l 4, fun _ => true⟩] },
    { base := 0x140A014, stride := 0x20, count := 64, fields := fun l => [fSat 31 0 .lineErroredSeconds l] } ]

/-- R442: the UCIe adapter block. -/
def regsUcie : List RegDesc := [
  { base := 0x1500000, reset := 0x80, fields := fun _ => [⟨7, 4, .rw, .own, fun v => v != 0⟩, fCmd 1 .ucieRetrain,
      fCmd 0 .ucieWiden] },
  { base := 0x1500004, fields := fun _ => [fW1c 10 8, fRo 4 4, fView 3 3 .ucieWidthX8, fObjRo 2 0 .ucieLinkState 0] },
  { base := 0x1500008, fields := fun _ => [fSat 31 0 .ucieCrcErrors 0] },
  { base := 0x150000C, fields := fun _ => [fSat 31 0 .ucieRetries 0] },
  { base := 0x1500010, fields := fun _ => [fSat 31 0 .ucieRetrains 0] },
  { base := 0x1500014, fields := fun _ => [fRo 15 0] },
  { base := 0x1500018, fields := fun _ => [fRo 31 0] },
  { base := 0x150001C, fields := fun _ => [fSat 31 0 .ucieUpDrops 0] }]

/-- The rows of the block that an address lies in (R425). -/
def blockRegs (blk : Nat) : List RegDesc :=
  match blk with
  | 0 => regsGlobal
  | 1 => regsWick
  | 2 => regsTc
  | 3 => regsLane
  | 4 => regsAct
  | 5 => regsGrant
  | 6 => regsGallery
  | 7 => regsClass
  | 8 => regsTm
  | 9 => regsSump
  | 10 => regsUplink
  | 11 => regsPassage
  | 12 => regsCipher
  | 13 => regsInteg
  | 14 => regsCount
  | 15 => regsUcie
  | _ => []

/-- The block ID of a byte address, 16 for an address outside the map (R425). -/
def blockOf (a : Nat) : Nat :=
  if a < 0x100000 then 0 else if a < 0x200000 then 1 else if a < 0x400000 then 2 else if a < 0x500000 then 3
  else if a < 0x600000 then 4 else if a < 0x800000 then 5 else if a < 0xA00000 then 6 else if a < 0xC00000 then 7
  else if a < 0xE00000 then 8 else if a < 0x1000000 then 9 else if a < 0x1100000 then 10 else if a < 0x1200000 then 11
  else if a < 0x1300000 then 12 else if a < 0x1400000 then 13 else if a < 0x1500000 then 14 else if a < 0x1600000 then 15
  else 16

/-- Whether the row holds the register at the address. -/
def RegDesc.holds (d : RegDesc) (a : Nat) : Bool :=
  d.base ≤ a && (a - d.base) % d.stride == 0 && (a - d.base) / d.stride < d.count

/-- The row of an address and the number of the register in it, where one exists. -/
def regAt (a : Nat) : Option (RegDesc × Nat) :=
  match (blockRegs (blockOf a)).find? fun d => d.holds a with
  | some d => some (d, (a - d.base) / d.stride)
  | none => none

end Sys2Proof.Machine
end

