-- ==== Sys2Proof/Machine/State.lean ====
section
/-!
DEFINITION. The state of the OY3250, its state after reset, and the reasons for which a step can stop.
-/

namespace Sys2Proof.Machine

/-- The reasons for a fault. -/
inductive Fault where
  /-- Raised by no meaning: a fault of the OY3250 is a value of its state (FAULT_CAUSE, R395). Safe. -/
  | none
  deriving DecidableEq, Repr

/-- The reasons for a refusal. -/
inductive Refusal where
  /-- Answered by an arm of exec whose command has no meaning yet. Safe. -/
  | notModelled (mnemonic : String)
  deriving DecidableEq, Repr

/-- What a snapshot of a block's counters holds (R442, R501): the objects and registers as they stood when it was taken. -/
structure Latch where
  objs : Tab Val
  regs : Tab Nat
  deriving DecidableEq, Repr

/-- The whole of the OY3250, and the commands that wait. -/
structure State where
  /-- Commands that wait, the first to come first. -/
  pending : List Instr
  /-- The values of all objects, by key; an unlisted instance reads as its default. -/
  objs : Tab Val
  /-- The bits of the head-end die's registers that belong to no object, by address. -/
  regs : Tab Nat
  /-- The snapshots held, by block ID. -/
  latched : Tab Latch
  clk : ClockSt
  lan : LanternSt
  nvm : Nvm
  stage : Stage
  ucie : UcieSt
  boot : BootSt
  life : LifeSt
  snuffs : Tab SnuffRec
  /-- Uses of each rate limit in a second of Wick time. -/
  limits : Tab (Nat × Nat)
  lanes : Tab LaneSt
  cages : Tab CageSt
  /-- Runs of bursts counted for preset tracking (R29), by terminal and side. -/
  eqRuns : Tab Nat
  framers : Tab FramerSt
  /-- The line counts of the Wick second in progress (R506): line instance × 4 + count. -/
  lineRun : Tab Nat
  gal : GallerySt
  /-- Fragment-follow records (R257). -/
  frags : List FragRec
  tm : TrafficSt
  terms : Tab TermSt
  acts : Tab ActSt
  /-- When each entry of the discovery log last raised an event (R108). -/
  logEvents : Tab Time
  grants : GrantSt
  ciph : CipherSt
  uplinks : Tab UplinkSt
  psgs : Tab PsgSt
  casc : CascadeSt
  /-- What the device has given to the outside, the first first. -/
  sent : List Out
  /-- The number of the next free value. -/
  fresh : Nat
  deriving DecidableEq, Repr

/-- A master from whom nothing has come. -/
def MasterSt.fresh : MasterSt := ⟨0, 0, none, 0, none, 1, false, [], 0, 0⟩

/-- The NVM die as the part leaves manufacture: no key, no commissioning image and no lifetime record. -/
def Nvm.factory : Nvm :=
  { keys := [none, none, none], reqMarks := [1, 1, 1], outMarks := [1, 1, 1]
    slots := [Config.factoryImage 0, Config.factoryImage 1], pref := 0, trial := false, tries := 0
    commission := [], commissionKey := [], copies := [⟨.new, false⟩, ⟨.new, false⟩], sigLimit := 0, rollbackFloor := 0
    quarantined := [], learnedModel := [], learnedBins := 0 }

/-- Lantern before its first start. -/
def LanternSt.off : LanternSt :=
  { masters := .replicate 3 .fresh, msgs := [], nextMsg := 0, writes := [], claims := [], snaps := []
    uploads := .replicate 2 ⟨none, []⟩, commission := [], commissionOutcome := 1, attest := [], reports := .replicate 3 []
    signedAt := none, sigNext := 0, written := [], lockRecord := none, rogueExtra := [], asymHost := [] }

/-- The link before its first training. -/
def UcieSt.idle : UcieSt := ⟨false, 0, false, [], 0, 0, 0, 0, [], 0, false⟩

/-- Start-up as VIN reaches 10.8 V: the always-on rails start, the head-end die is in reset. -/
def BootSt.begin_ : BootSt :=
  { vinUp := true, resetLow := false, rails := #v[.starting 0, .off, .off, .off], restartAt := none
    lanternUp := false, lanternStart := 0, recovery := false, slot := 0, cause := 0, startDue := false
    dieReset := true, configured := false, imageChans := [], readyAt := none, glimEntry := none, glim := false
    glimAt := 0, glimBins := (0, 0), heldWake := none, matched := none, returning := none, trimSince := 0, tripDie := false, tripLantern := false
    caseWarned := false, kick := 0, clkStop := 0, clkLast := [], skipped := [] }

/-- The machine at the instant at which a cold start from Off begins, with the NVM as manufacture left it (R467, R178). -/
def State.reset : State :=
  { pending := [], objs := [], regs := [], latched := [], clk := .start, lan := .off, nvm := .factory
    stage := ⟨none, [], []⟩, ucie := .idle, boot := .begin_, life := ⟨.new, none, none, false, 0, [], 0, [], [], [], []⟩
    snuffs := [], limits := [], lanes := [], cages := [], eqRuns := [], framers := [], lineRun := [], gal := .empty
    frags := [], tm := .empty, terms := [], acts := [], logEvents := [], grants := .idle
    ciph := .idle, uplinks := [], psgs := [], casc := .idle, sent := [], fresh := 1 }

end Sys2Proof.Machine
end

