-- ==== Sys2Proof/Machine/Ops.lean ====
section
/-!
DEFINITION. The named operations over State that every chapter uses: objects and registers read and written in one
place, counters, counter units (R493 to R499), events (R416 to R418, R398), rate limits, and what leaves the device.
-/

namespace Sys2Proof.Machine

/-- The key of an object's instance in the object store. -/
def Obj.key (o : Obj) (i : Nat) : Nat := o.code * 16777216 + i

namespace State

/-! ### Time -/

/-- Time since the always-on domain started, which every timer counts by. -/
def now (s : State) : Time := s.clk.elapsed

/-- The majority of three numbers; the first when all differ (R180). -/
def vote3 (a b c : Nat) : Nat := if a = b ∨ a = c then a else if b = c then b else a

/-- Wick time: the voted counter (R178, R180). -/
def wick (s : State) : Time := vote3 s.clk.c0 s.clk.c1 s.clk.c2

/-- The integer second of Wick time. -/
def second (s : State) : Nat := s.wick / Tm.s

/-- The number of the frame in progress (R15). -/
def frameNo (s : State) : Nat := s.wick / Tm.frame

/-- The present instant is a Frame boundary. -/
def atFrame (s : State) : Bool := s.wick % Tm.frame == 0

/-! ### Objects -/

/-- The stored value of an object; an unlisted instance reads as its default. -/
def val (s : State) (o : Obj) (i : Nat) : Val := tabGet (fun _ => o.info.dflt i) s.objs (o.key i)

/-- The stored value as a number. -/
def num (s : State) (o : Obj) (i : Nat) : Int :=
  match s.val o i with
  | .num v => v
  | _ => 0

/-- The stored value as a number without sign. -/
def n (s : State) (o : Obj) (i : Nat) : Nat := (s.num o i).toNat

/-- The stored value as a BOOL. -/
def on (s : State) (o : Obj) (i : Nat) : Bool := s.num o i != 0

/-- The stored value as an octet string. -/
def oct (s : State) (o : Obj) (i : Nat) : List Byte :=
  match s.val o i with
  | .oct bs => bs
  | _ => []

/-- Whether the instance stands at a value of its own. -/
def isSet (s : State) (o : Obj) (i : Nat) : Bool := s.val o i != .unset

/-- The object store with one value written, in canonical form. -/
def putVal (s : State) (o : Obj) (i : Nat) (v : Val) : State :=
  { s with objs := tabPut (fun _ => o.info.dflt i) s.objs (o.key i) v }

/-- A number written to an object. -/
def put (s : State) (o : Obj) (i : Nat) (v : Nat) : State := s.putVal o i (.num v)

/-- A signed number written to an object. -/
def puti (s : State) (o : Obj) (i : Nat) (v : Int) : State := s.putVal o i (.num v)

/-- An octet string written to an object. -/
def putOct (s : State) (o : Obj) (i : Nat) (bs : List Byte) : State := s.putVal o i (.oct bs)

/-- A counter object advanced, within the width of its type: a U32 or shorter counter stays at its largest value, a U64
wraps. -/
def bump (s : State) (o : Obj) (i : Nat) (k : Nat) : State :=
  let m := 256 ^ o.info.ty.minLen
  if o.info.ty = .u64 then s.put o i ((s.n o i + k) % m) else s.put o i (min (m - 1) (s.n o i + k))

/-- The listed instances of an object, rising. -/
def listed (s : State) (o : Obj) : List Nat :=
  s.objs.filterMap fun p => if p.1 / 16777216 = o.code then some (p.1 % 16777216) else none

/-- The listed instances of an object whose value is this number. -/
def withNum (s : State) (o : Obj) (v : Int) : List Nat :=
  s.objs.filterMap fun p =>
    if p.1 / 16777216 = o.code ∧ p.2 = .num v then some (p.1 % 16777216) else none

/-! ### Registers: the bits that are a register's own -/

/-- What an unlisted register reads as: its reset word (R425). -/
def regDflt (a : Nat) : Nat :=
  match regAt a with
  | some (d, _) => d.reset
  | none => 0

/-- The own bits of a register. -/
def reg (s : State) (a : Nat) : Nat := tabGet regDflt s.regs a

/-- A register's own bits written. -/
def putReg (s : State) (a v : Nat) : State := { s with regs := tabPut regDflt s.regs a (v % 4294967296) }

/-- One bit of a register. -/
def bit (s : State) (a k : Nat) : Bool := s.reg a / 2 ^ k % 2 = 1

/-- One bit of a register set or cleared. -/
def setBit (s : State) (a k : Nat) (b : Bool) : State :=
  s.putReg a (putBits k k (s.reg a) (if b then 1 else 0))

/-- A field of a register written. -/
def setField (s : State) (a hi lo v : Nat) : State := s.putReg a (putBits hi lo (s.reg a) v)

/-- A 32-bit counter register advanced; it stays at its largest value. -/
def bumpReg (s : State) (a k : Nat) : State := s.putReg a (min 4294967295 (s.reg a + k))

/-- A configuration entry lost to a memory error is skipped until Lantern rewrites it (R383): 0 flow, 1 allocation,
2 channel, 3 port. -/
def skips (s : State) (kind i : Nat) : Bool := s.boot.skipped.contains (kind, i)

/-! ### Rate limits -/

/-- Whether fewer than `lim` have been taken under the key in the second of Wick time in progress. -/
def limitFree (s : State) (key lim : Nat) : Bool :=
  match tabFind s.limits key with
  | some (t, c) => if t = s.second then decide (c < lim) else decide (0 < lim)
  | none => decide (0 < lim)

/-- One more taken under the key. -/
def limitTake (s : State) (key : Nat) : State :=
  let c := match tabFind s.limits key with
    | some (t, c) => if t = s.second then c + 1 else 1
    | none => 1
  { s with limits := tabPlace (tabErase s.limits key) key (s.second, c) }

/-! ### Events -/

/-- A master's record replaced. -/
def setMaster (s : State) (m : Master) (r : MasterSt) : State :=
  { s with lan := { s.lan with masters := s.lan.masters.set m r } }

/-- An event put in a master's queue: discarded and counted when the queue holds 1,024 events, so that the next one
carries LOST (R418). Master 2 exists while InbandVlan is set (R402). -/
def queueTo (s : State) (m : Master) (e : EventRec) : State :=
  if (s.n .masterEventMask m) / 2 ^ e.kind % 2 = 1 ∧ (m ≠ 2 ∨ s.n .inbandVlan 0 ≠ 0xFFFF) then
    let r := s.lan.masters[m]
    if 1024 ≤ r.events.length then
      (s.setMaster m { r with lostPending := true }).bump .sconceEventsLost 0 1
    else
      s.setMaster m { r with
        events := r.events ++ [{ e with seq := r.nextSeq, lost := r.lostPending }]
        nextSeq := r.nextSeq + 1
        lostPending := false }
  else s

/-- An event queued for every master whose mask has the kind's bit set. -/
def queueAll (s : State) (e : EventRec) : State := ((s.queueTo 0 e).queueTo 1 e).queueTo 2 e

/-- An event that Lantern itself raises. -/
def raiseL (s : State) (kind : Nat) (o : Obj) (i : Nat) (detail : List Byte) : State :=
  if s.boot.lanternUp then s.queueAll ⟨0, kind, false, false, s.wick, o.code, i, detail⟩ else s

/-- An event of the head-end die: to the masters while the link carries it, else to the die's queue of 1,024 (R398,
R439). -/
def raise (s : State) (kind : Nat) (o : Obj) (i : Nat) (detail : List Byte) : State :=
  if s.ucie.headless ∨ s.n .ucieLinkState 0 = 4 then
    if 1024 ≤ s.ucie.headEvents.length then { s with ucie := { s.ucie with lostEvents := s.ucie.lostEvents + 1 } }
    else
      let e : EventRec := ⟨0, kind, false, s.ucie.headless, s.wick, o.code, i, detail⟩
      { s with ucie := { s.ucie with headEvents := s.ucie.headEvents ++ [e] } }
  else s.raiseL kind o i detail

/-- A state-change event (kind 0x01): old state, new state, then named values. -/
def raiseChange (s : State) (o : Obj) (i old new : Nat) (detail : List Byte := []) : State :=
  s.raise 1 o i (beBytes 1 old ++ beBytes 1 new ++ detail)

/-- A refusal or discard event (kind 0x03): a code, then named values. -/
def raiseRefusal (s : State) (o : Obj) (i code : Nat) (detail : List Byte := []) : State :=
  s.raise 3 o i (beBytes 4 code ++ detail)

/-- A completion event (kind 0x05): the tag where the command had one, then named values. -/
def raiseDone (s : State) (o : Obj) (i : Nat) (detail : List Byte := []) : State := s.raise 5 o i detail

/-- A configuration error (kind 0x06) naming an object. -/
def raiseConfig (s : State) (o : Obj) (i : Nat) : State :=
  s.raise 6 o i (beBytes 2 (o.code / 256) ++ beBytes 1 (o.code % 256) ++ beBytes 3 i)

/-! ### Fault causes (R395) -/

/-- Bits of FAULT_CAUSE. -/
def faultWord (s : State) : Nat := s.n .faultCause 0

/-- A bit of FAULT_CAUSE written. -/
def putCause (s : State) (k : Nat) (b : Bool) : State :=
  s.put .faultCause 0 (putBits k k s.faultWord (if b then 1 else 0))

/-- A fault cause set. -/
def setCause (s : State) (k : Nat) : State := s.putCause k true

/-- A fault event (kind 0x04): FAULT_CAUSE as it stands, then named values. -/
def raiseFault (s : State) (o : Obj) (i : Nat) (detail : List Byte := []) : State :=
  s.raise 4 o i (beBytes 4 s.faultWord ++ detail)

/-! ### Counter units (R493 to R499) -/

/-- The largest value of a counter. -/
def counterMax : Nat := 0xFFFFFFFFFFFF

/-- A counter advanced by `k`, at most one overflow of R497, with its flag and its event under the limit of R498. -/
def countAdd (s : State) (c k : Nat) : State :=
  let v := s.n .counterValue c + k
  if v ≤ counterMax then s.put .counterValue c v
  else
    let rest := v - counterMax - 1
    if s.on .counterMode c then (s.put .counterValue c (rest % (counterMax + 1))).put .counterOverflow c 1
    else
      let s := (s.put .counterValue c ((s.n .counterPreload c + rest) % (counterMax + 1))).put .counterOverflow c 1
      if s.limitFree (0x1000 + c / 16) (s.n .counterEventLimit 0) then
        (s.limitTake (0x1000 + c / 16)).raise 2 .counterValue c (beBytes 8 counterMax)
      else (s.bump .counterOverflowsSuppressed 0 1).setBit Reg.cntGlobalStatus 16 true

/-- Whether a counter counts the event for the instance (R494, R495). -/
def countsFor (s : State) (c ev inst : Nat) : Bool :=
  s.n .counterEvent c == ev && (s.n .counterInstance c == 0xFFFF || s.n .counterInstance c == inst)

/-- An event of the catalogue that occurred `k` times: every enabled counter that selects it counts, while the block is
enabled and the device is not in Glim (R493, R515). -/
def count (s : State) (ev inst k : Nat) : State :=
  if s.bit Reg.cntGlobalCtrl 0 ∧ ¬ s.boot.glim then
    ((s.withNum .counterEnable 1).filter fun c => s.countsFor c ev inst).foldl (fun t c => t.countAdd c k) s
  else s

/-- One of the four counts of a line instance advanced (R506); the counts stop in Glim (R507). -/
def lineAdd (s : State) (line k amount : Nat) : State :=
  if s.boot.glim then s
  else { s with lineRun := tabPut (fun _ => 0) s.lineRun (4 * line + k)
                  (tabGet (fun _ => 0) s.lineRun (4 * line + k) + amount) }

/-! ### The lifetime record's counts (R508, R509) -/

/-- A bin of a histogram advanced; it saturates. -/
def binAdd (t : Tab Nat) (k v : Nat) : Tab Nat :=
  tabPut (fun _ => 0) t k (min 4294967295 (tabGet (fun _ => 0) t k + v))

/-- Count `i` of the lifetime record advanced: by Lantern, or at its next start where it is not running (R508). -/
def lifeCount (s : State) (i k : Nat) : State :=
  if s.boot.lanternUp ∧ ¬ s.boot.recovery then
    { s with life := { s.life with rec_ := { s.life.rec_ with counts := binAdd s.life.rec_.counts i k } } }
  else { s with life := { s.life with owed := s.life.owed ++ [(i, k)] } }

/-- The minute of elapsed time, from 1. -/
def minute (s : State) : Nat := s.now / (60 * Tm.s) + 1

/-! ### What leaves the device, and free values -/

/-- Something given to the outside. -/
def emit (s : State) (o : Out) : State := { s with sent := s.sent ++ [o] }

/-- The next free value's number, and the state that has used it up. -/
def draw (s : State) : Nat × State := (s.fresh, { s with fresh := s.fresh + 1 })

/-- The fabric runs: the head-end die is out of reset and not in Glim (R483). -/
def fabricRuns (s : State) : Bool := !s.boot.dieReset && !s.boot.glim

/-- The rail of the NVM is in its window: Lantern writes to the NVM (R393). -/
def nvmUp (s : State) : Bool := s.boot.rails[1] == .inWindow

/-- A write of Lantern's to the NVM: none while the NVM die's rail is outside its window (R393). -/
def setNvm (s : State) (f : Nvm → Nvm) : State := { s with nvm := if s.nvmUp then f s.nvm else s.nvm }

/-- Lantern runs, and the head-end die is reached: its functions are available (R196, R398). -/
def avail (s : State) : Bool := s.boot.lanternUp && !s.ucie.headless && !s.boot.glim

end State
end Sys2Proof.Machine
end

