-- ==== Sys2Proof/Machine/Host.lean ====
section
/-!
DEFINITION. A host operation on an object: the abort codes (R415), finding an object (R407), the checks of acceptance
(R410 step 1, with R10, R11, R402, R409, R411, R413, R421, R424, R433, R473), and a message of one record, which every
host command of the table is.
-/

namespace Sys2Proof.Machine

namespace Abort

/-! The codes of R415. -/

def ok : Nat := 0
def noSuch : Nat := 0x06010001
def readOnly : Nat := 0x06010002
def writtenOnce : Nat := 0x06010003
def locked : Nat := 0x06010004
def range : Nat := 0x06010005
def malformed : Nat := 0x06010006
def superseded : Nat := 0x06020001
def claimed : Nat := 0x06020002
def inSnuff : Nat := 0x06030001
def notDark : Nat := 0x06030002
def auth : Nat := 0x06040001
def replayed : Nat := 0x06040002
def full : Nat := 0x06050001
def pinned : Nat := 0x06050002
def notApplied : Nat := 0x06060001

end Abort

/-- The object of an index and subindex. -/
def Obj.find (code : Nat) : Option Obj := Obj.all.find? fun o => o.code == code

/-- The effect of an accepted write of an Immediate object: master, instance and value, with the abort code. -/
abbrev Eff := State → Master → Nat → List Byte → State × Nat

namespace State

/-- Whether a stored master key makes the factory key of R421 the one in force for master 0. -/
def factoryKey (s : State) (m : Master) : Bool := m == 0 && (s.nvm.keys.getD 0 none).isNone

/-- Whether a master's interface is open: its management port is enabled (R424), or, in-band, the VLAN exists and an uplink
port of InbandPorts is up (R402). In recovery the boot code serves MGT[0] alone (R473). -/
def mgmtOpen (s : State) (m : Master) : Bool :=
  if s.boot.recovery then m == 0
  else if m = 2 then
    s.n .inbandVlan 0 != 0xFFFF && (List.range 16).any fun p => s.n .inbandPorts 0 / 2 ^ p % 2 == 1 && s.n .uplinkLinkState p == 2
  else s.on .mgtEnable m

/-- Whether Lantern listens on a master's interface: it runs, the interface is open, the device is not in Glim, and the die
does not run headless, but in recovery (R398, R473). -/
def listens (s : State) (m : Master) : Bool :=
  s.boot.lanternUp && !s.boot.glim && (s.boot.recovery || !s.ucie.headless) && s.mgmtOpen m

/-- Whether Lantern takes messages of a master: it listens, and the master has a key (R421). -/
def serves (s : State) (m : Master) : Bool := s.listens m && (m == 0 || (s.nvm.keys.getD m none).isSome)

/-- The objects served in recovery (R473). -/
def recoveryObjs : List Obj :=
  [.deviceModel, .startPhase, .imageUpload, .imageCommit, .imageStatus, .imageReceived, .warmReset]

/-- The objects that the factory key may write (R411, R421). -/
def factoryObjs : List Obj :=
  [.masterKey, .commissionKey, .imageUpload, .imageCommit, .mgtEnable, .mgtInterface, .mgtIpv4Address, .mgtIpv4Mask,
   .mgtIpv4Gateway, .mgtIpv6Address]

/-- Whether the object and instance exist for a master (R407, R473). -/
def exists? (s : State) (o : Obj) (i : Nat) : Bool :=
  i < o.info.count && (!s.boot.recovery || recoveryObjs.contains o)

/-- Whether another master holds a claim that covers the instance (R413). -/
def claimedBy (s : State) (m : Master) (code i : Nat) : Bool :=
  s.lan.claims.any fun c => c.master != m && c.code == code && (c.inst == i || c.inst == 0xFFFFFF)

/-- Whether a write-once object has had its first write (R10). -/
def writtenOnce (s : State) (o : Obj) (i : Nat) : Bool := s.lan.written.contains (o.key i)

/-- Writable only by another master (R421, R424, R433). -/
def foreignWrite (s : State) (m : Master) (o : Obj) (i : Nat) : Bool :=
  match o with
  | .sconceClaimBreak => m != 0
  | .masterKey => m != 0 && i != m
  | .rawWindowMasters => m != 0
  | .rawRegister => s.n .rawWindowMasters 0 / 2 ^ m.val % 2 == 0
  | _ => false

/-- The cipher slot to whose lock an object is subject (R360), numbered as CIPH_KEY_SEL numbers slots. -/
def lockSlot (o : Obj) (i : Nat) : Option Nat :=
  match o with
  | .bcastKey => some (65536 + i)
  | .saPort | .saDirection | .saAn | .saSuite | .saSci | .saSsci | .saSalt | .saKey | .saInitialPn | .saPnSoft
  | .saPnHard => some (131072 + i)
  | _ => none

/-- Whether a lock covers the object's instance. -/
def lockedObj (s : State) (o : Obj) (i : Nat) : Bool :=
  match lockSlot o i with
  | some k => s.ciph.locked.contains k
  | none => false

/-- Type and range of a value (R409). -/
def valueCode (o : Obj) (bs : List Byte) : Nat :=
  if ¬ o.info.ty.lenOk bs.length then Abort.malformed
  else if ¬ o.info.inRange (o.info.ty.parse bs) then Abort.range
  else Abort.ok

/-- The checks of acceptance on a write that come before those of its value, in the order in which R410 names them. -/
def accessCode (s : State) (m : Master) (o : Obj) (i : Nat) : Nat :=
  if ¬ s.exists? o i then Abort.noSuch
  else match o.info.acc with
    | .ro | .const => Abort.readOnly
    | _ =>
      if o.info.acc = .wo1 ∧ s.writtenOnce o i then Abort.writtenOnce
      else if s.lockedObj o i then Abort.locked
      else if s.foreignWrite m o i then Abort.readOnly
      else if s.factoryKey m ∧ ¬ factoryObjs.contains o then Abort.auth
      else if s.claimedBy m o.code i then Abort.claimed
      else Abort.ok

/-- The checks of acceptance on a write. -/
def acceptCode (s : State) (m : Master) (o : Obj) (i : Nat) (bs : List Byte) : Nat :=
  let c := s.accessCode m o i
  if c = Abort.ok then valueCode o bs else c

/-- A refused write to a write-once or locked object sets the record of R11 and raises an event. The record holds the
object of the latest refusal; no object or register shows it, and it ends with Lantern's run (log entry 121). For a locked cipher
slot CIPH_STATUS.LOCK_VIOL and CIPH_LOCKVIOL_SLOT too (R376). -/
def recordOnce (s : State) (o : Obj) (i : Nat) (code : Nat) : State :=
  if code = Abort.writtenOnce ∨ code = Abort.locked then
    let s := match lockSlot o i with
      | some k => (s.setBit Reg.ciphStatus 9 true).putReg Reg.ciphLockviolSlot (2147483648 + k)
      | none => s
    { s with lan := { s.lan with lockRecord := some (o.code, i) } }.raiseL 9 o i
      (beBytes 2 (o.code / 256) ++ beBytes 1 (o.code % 256) ++ beBytes 3 i)
  else s

/-- Messages of a master that are outstanding (R403). -/
def outstanding (s : State) (m : Master) : Nat := (s.lan.msgs.filter fun q => q.master == m).length

/-- The highest counter of a series. -/
def lastCounter : Nat := 0xFFFFFFFFFFFFFFFF

/-- A request counter accepted: a counter that reaches the mark first moves the mark in the NVM by 65,536 (R406). -/
def acceptCounter (s : State) (m : Master) (c : Nat) : State :=
  let mark := s.nvm.reqMarks.getD m 0
  let s := if mark ≤ c then s.setNvm fun n => { n with reqMarks := n.reqMarks.set m (c + 65536) } else s
  let r := s.lan.masters[m]
  (s.setMaster m { r with highest := c, lastAccepted := s.now, addr := some (r.addr.getD 0) }).bump .sconceRequests 0 1

/-- The next counter that the device issues to a master, kept below the mark in the same way (R406). -/
def issueCounter (s : State) (m : Master) : Nat × State :=
  let c := s.lan.masters[m].issued + 1
  let mark := s.nvm.outMarks.getD m 0
  let s := if mark ≤ c then s.setNvm fun n => { n with outMarks := n.outMarks.set m (c + 65536) } else s
  (c, s.setMaster m { s.lan.masters[m] with issued := c })

/-- A message added to the outstanding ones. -/
def addMsg (s : State) (m : Master) (txn : Bool) (rs : List OpRes) (after : List AfterSend := []) : State :=
  let r := s.lan.masters[m]
  { s with lan := { s.lan with
      msgs := s.lan.msgs ++ [⟨s.lan.nextMsg, m, r.addr.getD 0, r.highest, txn, rs, after⟩]
      nextMsg := s.lan.nextMsg + 1 } }

/-- MasterCounterFloor: the lowest counter that Lantern will accept from a master (R406). -/
def counterFloor (s : State) (m : Master) : Nat :=
  if lastCounter ≤ s.lan.masters[m].highest then Config.floorEnded.toNat else s.lan.masters[m].highest + 1

/-- A message-level abort (R406): Count 0, the code, and MasterCounterFloor; none once the device's series to the master
has ended. -/
def abortMsg (s : State) (m : Master) (code : Nat) : State :=
  if lastCounter ≤ s.lan.masters[m].issued then s
  else ((s.issueCounter m).2).emit (.abort m code (s.counterFloor m))

/-- A response record of an object's operation. -/
def resOf (opcode : Nat) (o : Obj) (i : Nat) (code : Option Nat) (v : List Byte) : OpRes :=
  ⟨opcode, ⟨Fin.ofNat 65536 (o.code / 256), Fin.ofNat 256 o.code, Fin.ofNat 16777216 i⟩, code, v⟩

/-- A request of one record from a master: not taken where Lantern does not serve the master or its series has ended;
answered with an abort, and not accepted, when 16 messages are outstanding (R403); else `act` is performed and the
message waits for its response. -/
def oneRecord (s : State) (m : Master) (act : State → State × List OpRes) : State :=
  if ¬ s.serves m ∨ lastCounter ≤ s.lan.masters[m].highest then s
  else if 16 ≤ s.outstanding m then s.abortMsg m Abort.full
  else
    let r := act (s.acceptCounter m (s.lan.masters[m].highest + 1))
    r.1.addMsg m false r.2

/-- An Immediate write: the checks of acceptance, then the object's own effect. -/
def immediateWrite (s : State) (m : Master) (o : Obj) (i : Nat) (bs : List Byte) (eff : Eff) : State × Nat :=
  let c := s.acceptCode m o i bs
  if c = Abort.ok then eff s m i bs else (s.recordOnce o i c, c)

/-- A host write of one Immediate object, as a request of one record. -/
def hostWrite (s : State) (m : Master) (o : Obj) (i : Nat) (bs : List Byte) (eff : Eff) : State :=
  s.oneRecord m fun t =>
    let r := t.immediateWrite m o i bs eff
    (r.1, [resOf 2 o i (some r.2) []])

/-- The number by which a pending write names its boundary class. -/
def clsCode : BClass → Nat
  | .immediate => 0
  | .packet => 1
  | .frame => 2
  | .epoch => 3
  | .second => 4
  | .none => 5

/-- The write of a write-once object is its first from its acceptance on (R10). A write of TreeCagePlan to an odd tree
never is, since it is always refused (R19). -/
def markOnce (s : State) (o : Obj) (i : Nat) : State :=
  if o.info.acc = .wo1 ∧ ¬ (o = .treeCagePlan ∧ i % 2 = 1) ∧ ¬ s.lan.written.contains (o.key i) then
    { s with lan := { s.lan with written := o.key i :: s.lan.written } }
  else s

/-- An accepted write that waits for its boundary, as record `pos` of the message being taken; a refused one answers at
once. `chan` is the channel of an Epoch-class object. -/
def pendWrite (s : State) (m : Master) (pos : Nat) (txn : Bool) (o : Obj) (i : Nat) (bs : List Byte)
    (chan : Option Nat) : State × OpRes :=
  let c := s.acceptCode m o i bs
  if c = Abort.ok then
    let w : PendingWrite := ⟨s.lan.nextMsg, pos, m, txn, o.code, i, bs, clsCode o.info.cls, chan, s.now⟩
    ({ s with lan := { s.lan with writes := s.lan.writes ++ [w] } }.markOnce o i, resOf 2 o i none [])
  else (s.recordOnce o i c, resOf 2 o i (some c) [])

/-- A host write of one object of class Frame, as a request of one record. -/
def hostPend (s : State) (m : Master) (o : Obj) (i : Nat) (bs : List Byte) : State :=
  s.oneRecord m fun t =>
    let r := t.pendWrite m 0 false o i bs none
    (r.1, [r.2])

/-- A host read of one object, as a request of one record; `value` gives the state after the read and the bytes. -/
def hostRead (s : State) (m : Master) (o : Obj) (i : Nat) (value : State → State × List Byte) : State :=
  s.oneRecord m fun t =>
    if t.exists? o i then
      let r := value t
      (r.1, [resOf 1 o i (some Abort.ok) r.2])
    else (t, [resOf 1 o i (some Abort.noSuch) []])

/-- An effect that only stores the value. -/
def storeEff (o : Obj) : Eff := fun s _ i bs => (s.putVal o i (o.info.ty.parse bs), Abort.ok)

end State
end Sys2Proof.Machine
end

