-- ==== Sys2Proof/Machine/Topology.lean ====
section
/-!
DEFINITION. Which channels a terminal, an allocation and a flow live on (R5, R103, R137, R55), the pairs of trees (R18 to
R22), generations and rates, and the pairs of objects that hold a terminal's values on channel A and channel B.
-/

namespace Sys2Proof.Machine

/-- A generation's line rates in 10 kb/s: the downstream rate, and the upstream rate (R22). -/
def downRate (gen : Nat) : Nat :=
  if gen = 1 then 248832 else if gen = 2 ∨ gen = 3 then 995328 else if gen = 4 then 4976640 else 0

/-- The upstream rate in 10 kb/s; `up` is ChannelUpRate. -/
def upRateOf (gen up : Nat) : Nat :=
  if gen = 1 then 124416 else if gen = 2 then 248832 else if gen = 3 then 995328
  else if gen = 4 then (if up = 0 then 1244160 else if up = 1 then 2488320 else 4976640)
  else 0

namespace State

/-- ChannelGeneration of a channel. -/
def gen (s : State) (ch : Nat) : Nat := s.n .channelGeneration ch

/-- The upstream rate of a channel in 10 kb/s. -/
def upRate (s : State) (ch : Nat) : Nat := upRateOf (s.gen ch) (s.n .channelUpRate ch)

/-- TreePairMode of the pair that a channel's trees may form. -/
def pairMode (s : State) (ch : Nat) : Nat := s.n .treePairMode (ch / 2 * 2)

/-- The other channel of the pair. -/
def partner (ch : Nat) : Nat := if ch % 2 = 0 then ch + 1 else ch - 1

/-- The tree that a channel serves (R18). -/
def treeOf (s : State) (ch : Nat) : Nat := if s.pairMode ch = 0 then ch else ch / 2 * 2

/-- Whether TreeCagePlan joins the cages of the pair (R19). -/
def dualCage (s : State) (ch : Nat) : Bool := s.on .treeCagePlan (ch / 2 * 2)

/-- The cage of a channel's module (R20). -/
def cageOf (s : State) (ch : Nat) : Nat := if s.dualCage ch then ch / 2 * 2 else ch

/-- Whether a channel's module is present. -/
def modulePresent (s : State) (ch : Nat) : Bool := s.on .cageModulePresent (s.cageOf ch)

/-- A channel's lane state (R38). -/
def laneState (s : State) (ch : Nat) : Nat := s.n .channelLaneState ch

/-- Run or Sleep: the channel sends frames. -/
def sending (s : State) (ch : Nat) : Bool := s.laneState ch == 2 || s.laneState ch == 3

/-- Lives on a bonded pair (R103). -/
def bonded (s : State) (t : Nat) : Bool := s.on .terminalBonded t

/-- Channel A of a terminal: its TerminalChannel, 255 unbound. -/
def chanA (s : State) (t : Nat) : Nat := s.n .terminalChannel t

/-- The terminal's side on a channel: 0 for channel A, 1 for channel B. -/
def sideOn (s : State) (t ch : Nat) : Option Nat :=
  if s.chanA t = ch then some 0
  else if s.bonded t ∧ s.chanA t + 1 = ch then some 1
  else none

/-- The channel of a side. -/
def chanOf (s : State) (t side : Nat) : Nat := s.chanA t + side

/-- The channels of a terminal. -/
def chansOf (s : State) (t : Nat) : List Nat :=
  if s.chanA t = 255 then [] else if s.bonded t then [s.chanA t, s.chanA t + 1] else [s.chanA t]

/-- A terminal's object on one side of two. -/
def side (a b : Obj) (k : Nat) : Obj := if k = 0 then a else b

/-- A terminal's activation state on a side (R101). -/
def tstate (s : State) (t k : Nat) : Nat := s.n (side .terminalStateA .terminalStateB k) t

/-- A terminal's activation state on a channel, Idle where it does not live on it. -/
def stateOn (s : State) (t ch : Nat) : Nat :=
  match s.sideOn t ch with
  | some k => s.tstate t k
  | none => 0

/-- In service on a channel (R102). -/
def inService (s : State) (t ch : Nat) : Bool := s.stateOn t ch == 4

/-- In service on some channel of its group. -/
def inServiceAny (s : State) (t : Nat) : Bool := (s.chansOf t).any fun c => s.inService t c

/-- Snuff phase Active. -/
def active? (s : State) (phase : Obj) (i : Nat) : Bool := s.n phase i == 0

/-- Snuff phase Dark. -/
def dark? (s : State) (phase : Obj) (i : Nat) : Bool := s.n phase i == 3

/-- Terminals whose TerminalChannel places them on the channel. -/
def terminalsOn (s : State) (ch : Nat) : List Nat :=
  let a := s.withNum .terminalChannel ch
  if ch % 2 = 1 then a ++ (s.withNum .terminalChannel (ch - 1 : Nat)).filter (fun t => s.bonded t) else a

/-- Active on a channel: from acquisition until Dark (R38 note 1). -/
def activeOn (s : State) (ch : Nat) : List Nat := (s.terminalsOn ch).filter fun t => s.stateOn t ch != 0

/-- The channel that carries an allocation's bursts (R137), 255 while its terminal is unbound. -/
def allocChan (s : State) (a : Nat) : Nat :=
  let t := s.n .allocTerminal a
  if t = 0xFFFF then 255
  else if s.chanA t = 255 then 255
  else if s.bonded t ∧ s.on .allocChannelB a then s.chanA t + 1 else s.chanA t

/-- Allocations bound to a terminal. -/
def allocsOf (s : State) (t : Nat) : List Nat := s.withNum .allocTerminal (t : Nat)

/-- Flows owned by a terminal. -/
def flowsOf (s : State) (t : Nat) : List Nat := s.withNum .flowTerminal (t : Nat)

/-- Queues owned by a terminal. -/
def queuesOf (s : State) (t : Nat) : List Nat := s.withNum .queueTerminal (t : Nat)

/-- Whether a flow is bonded (R55, R65). -/
def flowBonded (s : State) (f : Nat) : Bool := s.n .flowBondMode f == 2 && s.bonded (s.n .flowTerminal f)

/-- The port-ID that a flow uses on a channel (R55). -/
def flowPort (s : State) (f ch : Nat) : Option Nat :=
  let t := s.n .flowTerminal f
  let mode := if s.bonded t then s.n .flowBondMode f else 0
  match s.sideOn t ch with
  | some 0 => if mode = 1 then none else some (s.n .flowPortId f)
  | some _ => if mode = 0 then none else some (s.n .flowPortIdB f)
  | none => none

/-! ### What is held of a terminal -/

/-- A terminal's record. -/
def term (s : State) (t : Nat) : TermSt := tabGet (fun _ => TermSt.idle) s.terms t

/-- A terminal's record replaced. -/
def setTerm (s : State) (t : Nat) (r : TermSt) : State :=
  { s with terms := tabPut (fun _ => TermSt.idle) s.terms t r }

/-- A terminal's record on a side. -/
def sd (s : State) (t k : Nat) : SideSt := if k = 0 then (s.term t).a else (s.term t).b

/-- A terminal's record on a side replaced. -/
def setSd (s : State) (t k : Nat) (r : SideSt) : State :=
  if k = 0 then s.setTerm t { s.term t with a := r } else s.setTerm t { s.term t with b := r }

/-! ### Snuffs in progress (R484, R486) -/

/-- The object that shows a resource's phase. -/
def phaseObj : ResKind → Obj
  | .channel => .channelSnuffPhase
  | .terminal => .terminalSnuffPhase
  | .alloc => .allocSnuffPhase
  | .flow => .flowSnuffPhase
  | .queue => .queueSnuffPhase
  | .sa => .saSnuffPhase
  | .uplink => .uplinkSnuffPhase
  | .psgPort => .passageSnuffPhase
  | .psgLane => .passageLaneSnuffPhase

/-- The key of a resource in the table of Snuffs. -/
def snuffKey (k : ResKind) (i : Nat) : Nat :=
  (match k with
    | .channel => 0 | .terminal => 1 | .alloc => 2 | .flow => 3 | .queue => 4 | .sa => 5 | .uplink => 6
    | .psgPort => 7 | .psgLane => 8) * 1048576 + i

/-- The Snuff in progress of a resource. -/
def snuffOf (s : State) (k : ResKind) (i : Nat) : Option SnuffRec := tabFind s.snuffs (snuffKey k i)

/-! ### Counters that restart when a Dark resource is enabled again (R485) -/

/-- The counter objects of a resource. -/
def countersOf : ResKind → List Obj
  | .channel => [.upBurstsGood, .upBurstsMissing, .upHeaderErrors, .upMisdirected, .upLaneUnlocked,
      .upCodewordsUncorrectable, .upUnknownPortId, .upForeignPortId, .upPloamDiscarded, .upKeyDiscards, .upLitFrames,
      .upProfileFaults, .upReportsLost, .upOverlong, .upEarlyLight, .upDelineationLosses, .upPartialFrameDrops,
      .grantQuietMaps, .grantEntryDeferrals, .grantWindowSkips, .grantOverbooked, .coopOrdersAccepted,
      .coopOrdersRejected, .coopOrdersLate, .coopWordsClipped, .epochAdjustments, .trimmedFrames,
      .channelSnResponsesExcess]
  | .terminal => [.terminalUpBursts, .terminalUpAbsent, .terminalUpFecUncorrectable, .terminalUpBitErrors,
      .terminalUpOverlong, .terminalEqdCorrections, .terminalSpoofCount, .omciRxDiscards,
      .terminalNodeBytesSent, .terminalNodeFramesSent]
  | .alloc => [.allocGrantedWords, .allocCoopGrantedWords]
  | .flow => [.bondFragmentsLost, .bondFramesDiscarded, .bondHeaderErrors, .bondDuplicates, .bondTimeouts]
  | .queue => [.queueTailDrops, .queueClosedDrops, .queueNodeBytesSent, .queueNodeFramesSent]
  | .sa => []
  | .uplink => [.uplinkRxFrames, .uplinkRxBytes, .uplinkTxFrames, .uplinkTxBytes, .uplinkDropCode, .uplinkDropRunt,
      .uplinkDropOversize, .uplinkDropFcs, .uplinkDropMacControl, .uplinkPauseHonoured, .uplinkPauseIgnored,
      .uplinkPauseSent, .uplinkTxAborted, .uplinkTxOversize, .uplinkTxLinkDownDrops, .uplinkTxClosedDrops,
      .uplinkMacsecUntagged, .uplinkFecCorrected, .uplinkFecUncorrectable, .uplinkWakeMatches]
  | .psgPort => [.passageRxFrames, .passageTxFrames, .passageCrcErrors, .passageHeaderErrors, .passageDuplicates,
      .passageStale, .passageHopDrops, .passageLoopDrops, .passageNoRoute, .passageTxAborted, .passageUntracked,
      .passageStuffViolations, .passageLaneLosses, .passageDegradedEntries]
  | .psgLane => []

/-- A resource's counters set to zero. -/
def zeroCounters (s : State) (k : ResKind) (i : Nat) : State :=
  (countersOf k).foldl (fun t o => t.put o i 0) s

end State
end Sys2Proof.Machine
end

