-- ==== Sys2Proof/Machine/Lanes.lean ====
section
/-!
DEFINITION. PON lanes, optics sideband and the I2C relay (R18 to R44): the operations of a lane, and the meanings of the
commands CHANNEL_RSSI_REQUEST to PRESET_TRACKING_STEP, RX_PLL_RELOCK, PRBS_CHECKER_LOCK and RX_CAL_COMPLETE.
-/

namespace Sys2Proof.Machine

namespace State

/-- A channel's lanes. -/
def lane (s : State) (ch : Nat) : LaneSt := tabGet (fun _ => LaneSt.idle) s.lanes ch

/-- A channel's lanes replaced. -/
def setLane (s : State) (ch : Nat) (l : LaneSt) : State :=
  { s with lanes := tabPut (fun _ => LaneSt.idle) s.lanes ch l }

/-- A cage's relay. -/
def cage (s : State) (c : Nat) : CageSt := tabGet (fun _ => CageSt.idle) s.cages c

/-- A cage's relay replaced. -/
def setCage (s : State) (c : Nat) (r : CageSt) : State :=
  { s with cages := tabPut (fun _ => CageSt.idle) s.cages c r }

/-! ### Lane states -/

/-- The generation pairs that may share a tree in coexistence (R21). -/
def coexist (g u g' u' : Nat) : Bool :=
  let ok (a b : Nat × Nat) : Bool :=
    (a.1 == 1 && (b.1 == 2 || b.1 == 3)) || (a.1 == 1 && b.1 == 4 && b.2 == 0) ||
    ((a.1 == 2 || a.1 == 3) && b.1 == 4 && b.2 == 1)
  ok (g, u) (g', u') || ok (g', u') (g, u)

/-- The check of R21 on a channel that leaves Off. -/
def pairOk (s : State) (ch : Nat) : Bool :=
  let p := partner ch
  if s.pairMode ch = 0 ∨ s.gen p = 0 then true
  else if s.pairMode ch = 1 then
    coexist (s.gen ch) (s.n .channelUpBand ch) (s.gen p) (s.n .channelUpBand p)
  else s.gen ch == s.gen p && (s.gen ch != 4 || s.n .channelUpRate ch == s.n .channelUpRate p)

/-- Whether the channel's tree is enabled, its generation set and its Snuff not ordered (R22, R38, R487); the odd tree of
a dual-lane cage is never available (R19). -/
def laneWanted (s : State) (ch : Nat) : Bool :=
  s.on .treeEnable (s.treeOf ch) && s.gen ch != 0 && !s.on .channelSnuff ch &&
    !(s.treeOf ch % 2 == 1 && s.dualCage ch)

/-- Starting: the enable of R22 takes effect in Off. The lanes stay Off, with a configuration event, where the pair
breaks R21. -/
def laneStart (s : State) (ch : Nat) : State :=
  if s.laneState ch ≠ 0 then s
  else if ¬ s.pairOk ch then
    if (s.lane ch).badPair then s
    else (s.setLane ch { s.lane ch with badPair := true }).raiseConfig .channelGeneration ch
  else
    let s := if s.n .channelSnuffPhase ch = 3 then
        (if s.boot.returning.isSome then s else s.zeroCounters .channel ch).put .channelSnuffPhase ch 0
      else s
    let s := (s.put .channelLaneState ch 1).setField (Reg.ponLaneCtrl ch) 1 0 3
    s.setLane ch { s.lane ch with runFrame := s.frameNo + 2, fromFault := false, badPair := false }

/-- Off: PLLs and lanes unpowered, RX_EN and TX_EN cleared (R22, R38). An armed measurement lapses in its time (R34). -/
def laneOff (s : State) (ch : Nat) : State :=
  let s := (s.put .channelLaneState ch 0).setField (Reg.ponLaneCtrl ch) 1 0 0
  let s := (s.setField (Reg.ponLaneStatus ch) 1 0 0).setBit (Reg.ponLaneStatus ch) 3 false
  s.setLane ch { LaneSt.idle with lastActive := (s.lane ch).lastActive, rssi := (s.lane ch).rssi }

/-- OPT_TXDIS is pulled low, which lets the module emit light (R24). -/
def txEnabled (s : State) (ch : Nat) : Bool :=
  s.sending ch && s.modulePresent ch && s.bit (Reg.ponLaneCtrl ch) 0

/-- Run entered: both PLLs are locked; a lane that comes from Fault takes TX_EN again while TX_RESUME is 1 (R38). -/
def laneRun (s : State) (ch : Nat) : State :=
  let l := s.lane ch
  let s := (s.put .channelLaneState ch 2).setField (Reg.ponLaneStatus ch) 1 0 3
  let s := if l.fromFault ∧ s.bit (Reg.ponLaneCtrl ch) 6 then s.setBit (Reg.ponLaneCtrl ch) 0 true else s
  s.setLane ch { l with fromFault := false }

/-- A return from Sleep to Run, with the receive PLL running (R41). -/
def laneWake (s : State) (ch : Nat) : State :=
  if s.laneState ch = 3 then
    (s.put .channelLaneState ch 2).setBit (Reg.ponLaneStatus ch) 1 true
  else s

/-- The PLLs of a lane that has been started at an earlier Frame boundary have locked, in Starting and in Loop (R39,
R44). -/
def pllFrame (s : State) (ch : Nat) : State :=
  if (s.laneState ch = 1 ∧ (s.lane ch).runFrame ≤ s.frameNo + 1) ∨ s.laneState ch = 4 then
    s.setField (Reg.ponLaneStatus ch) 1 0 3
  else s

/-! ### Received power (R34) -/

/-- CHANNEL_RSSI_REQUEST: one measurement armed; a new request replaces the one armed before. -/
def rssiRequestEff : Eff := fun s _ ch bs =>
  (s.setLane ch { s.lane ch with rssi := some (beNat bs, s.wick) }, Abort.ok)

/-! ### The I2C relay (R36, R37) -/

/-- Whether a relay request breaks R37: write data with a read length, a read length above 128, or address bit 7. -/
def i2cBad (bs : List Byte) : Bool :=
  let rd := (bs.getD 3 0).toNat
  (4 < bs.length && rd != 0) || 128 < rd || 128 ≤ (bs.getD 1 0).toNat

/-- CAGE_I2C_REQUEST: at most four requests wait (R36). -/
def i2cRequestEff : Eff := fun s _ c bs =>
  if i2cBad bs then (s, Abort.range)
  else if 4 ≤ (s.cage c).queue.length then (s, Abort.full)
  else (s.setCage c { s.cage c with queue := (s.cage c).queue ++ [bs] }, Abort.ok)

/-- The cage's first request ends with a status and data, which become its result. -/
def i2cEnd (s : State) (c status : Nat) (data : List Byte) : State :=
  match (s.cage c).queue with
  | [] => s
  | r :: rest =>
    let s := s.setCage c { s.cage c with queue := rest }
    let s := if status = 3 ∨ status = 4 then s else s.emit (.i2c c r)
    s.putOct .cageI2cResult c
      ([r.getD 0 0, BitVec.ofNat 8 status, BitVec.ofNat 8 data.length] ++ data)

/-- A request that waits is preceded by the recovery of R36 where SDA is found low. -/
def i2cSda (s : State) (c : Nat) (low : Bool) : State :=
  if low ∧ ¬ (s.cage c).queue.isEmpty then s.emit (.i2cRecover c) else s

/-- Whether the cage's bus serves a module: present, and not the idle bus of a dual-lane cage's odd half (R20). -/
def cageServes (s : State) (c : Nat) : Bool :=
  s.on .cageModulePresent c && !(c % 2 == 1 && s.dualCage c)

/-! ### Equaliser presets (R29 to R31) -/

/-- The preset of a terminal on a side. -/
def presetObj (k : Nat) : Obj := side .terminalEqPresetA .terminalEqPresetB k

/-- The recommended code of a terminal on a side. -/
def recommendedObj (k : Nat) : Obj := side .terminalEqRecommendedA .terminalEqRecommendedB k

/-- The run of bursts counted for tracking, by terminal and side. -/
def eqRun (s : State) (t k : Nat) : Nat := tabGet (fun _ => 0) s.eqRuns (2 * t + k)

/-- The run replaced. -/
def setEqRun (s : State) (t k v : Nat) : State :=
  { s with eqRuns := tabPut (fun _ => 0) s.eqRuns (2 * t + k) v }

/-- The distance between two codes. -/
def codeGap (a b : Nat) : Nat := (a - b) + (b - a)

/-- A counted burst's recommended code: published, and the run advanced by a code two or more away from the preset and
restarted by one within one code of it (R29). -/
def eqCount (s : State) (ch t k code : Nat) : State :=
  let s := s.put (recommendedObj k) t code
  if s.on .channelEqTrack ch ∧ ¬ s.on .terminalEqPinned t then
    if 2 ≤ codeGap code (s.n (presetObj k) t) then s.setEqRun t k (min 16 (s.eqRun t k + 1)) else s.setEqRun t k 0
  else s

/-- A write of a preset at a Frame boundary discards a step that has fallen due there, and the run restarts (R30). -/
def presetWritten (s : State) (t k : Nat) : State := if s.eqRun t k = 16 then s.setEqRun t k 0 else s

/-! ### Test loops (R42) -/

/-- A loop started from Off, or the lanes returned to Off; the serial loop receives with ChannelEqDefault. -/
def loopLanes : Eff := fun s _ ch bs =>
  let v := beNat bs
  if v = 0 then
    let s := s.put .channelLoopMode ch 0
    if s.laneState ch = 4 then (s.laneOff ch, Abort.ok) else (s, Abort.ok)
  else if s.laneState ch ≠ 0 then (s, Abort.notDark)
  else
    let s := ((s.put .channelLoopMode ch v).put .channelPrbsErrors ch 0).put .channelLaneState ch 4
    let s := if v = 2 then s.setLane ch { s.lane ch with code := s.n .channelEqDefault ch } else s
    (s.setBit (Reg.ponLaneStatus ch) 3 false, Abort.ok)

end State

open State

/-- R34: a host write of ChannelRssiRequest. -/
def execChannelRssiRequest (m : Master) (ch : Chan) (t : Nat) (s : State) : Host.Outcome State Fault Refusal :=
  .next (s.hostWrite m .channelRssiRequest ch (beBytes 2 t) rssiRequestEff)

/-- R34: no granted burst of the terminal within 16 frames. -/
def execRssiRequestLapse (ch : Chan) (s : State) : Host.Outcome State Fault Refusal :=
  let l := s.lane ch
  match l.rssi with
  | some (_, at_) =>
    if at_ + 16 * Tm.frame ≤ s.wick then
      .next ((s.setLane ch { l with rssi := none }).raiseRefusal .channelRssiRequest ch 0)
    else .next s
  | none => .next s

/-- R37: a host write of CageI2cRequest. -/
def execCageI2cRequest (m : Master) (c : Cage) (request : List Byte) (s : State) :
    Host.Outcome State Fault Refusal :=
  .next (s.hostWrite m .cageI2cRequest c request i2cRequestEff)

/-- R36, R37: the first request ends once no identity read is in progress: done (0), address (1) or data (2) not
acknowledged, as `status` says. `sda` tells SDA at its start: 1 is low until the recovery, 2 low still after it, so that the
request ends as bus stuck. A request to an absent module ends as such. A write returns no data, and a read no more than
its length. -/
def execI2cRequestComplete (c : Cage) (sda status : Fin 3) (data : List Byte) (s : State) :
    Host.Outcome State Fault Refusal :=
  let r := s.cage c
  if r.reading ∨ ¬ s.boot.lanternUp then .next s
  else if ¬ s.cageServes c then .next (s.i2cEnd c 4 [])
  else
    let len := ((r.queue.headD []).getD 3 0).toNat
    let s := s.i2cSda c (sda != 0)
    .next (if sda = 2 then s.i2cEnd c 3 [] else s.i2cEnd c status (if status = 0 then data.take len else []))

/-- R36: clock stretching longer than 25 ms; `sda` says that SDA was low at the request's start. -/
def execI2cClockStretchTimeout (c : Cage) (sda : Bool) (s : State) : Host.Outcome State Fault Refusal :=
  if (s.cage c).reading ∨ ¬ s.boot.lanternUp ∨ ¬ s.cageServes c then .next s else .next ((s.i2cSda c sda).i2cEnd c 5 [])

/-- R35: presence accepted after ten equal samples; Lantern starts the identity read. The odd half of a dual-lane cage
is ignored (R20). -/
def execModuleInsertion (c : Cage) (s : State) : Host.Outcome State Fault Refusal :=
  if s.on .cageModulePresent c ∨ (c.val % 2 = 1 ∧ s.dualCage c) then .next s
  else
    let s := (s.put .cageModulePresent c 1).setBit (Reg.ponLaneStatus c) 12 true
    let s := s.setCage c { s.cage c with reading := true }
    .next (s.raiseChange .cageModulePresent c 0 1)

/-- R35: bytes 0 to 127 of the identification memory. -/
def execIdentityReadComplete (c : Cage) (bytes : List Byte) (s : State) : Host.Outcome State Fault Refusal :=
  if (s.cage c).reading ∧ s.on .cageModulePresent c ∧ bytes.length = 128 ∧ s.boot.lanternUp then
    .next ((s.setCage c { s.cage c with reading := false }).putOct .cageModuleIdentity c bytes)
  else .next s

/-- R35: removal accepted: OPT_TXDIS is released, since R24 asks for a module, and the identity reads zeros. -/
def execModuleRemoval (c : Cage) (s : State) : Host.Outcome State Fault Refusal :=
  if s.on .cageModulePresent c then
    let s := (s.put .cageModulePresent c 0).setBit (Reg.ponLaneStatus c) 12 true
    let s := (s.putVal .cageModuleIdentity c (zeros 128)).setCage c { s.cage c with reading := false }
    .next (s.raiseChange .cageModulePresent c 1 0)
  else .next s

/-- R38: the transmit PLL loses lock in Run or Sleep. -/
def execTxPllLossOfLock (ch : Chan) (s : State) : Host.Outcome State Fault Refusal :=
  if s.sending ch then
    let old := s.laneState ch
    let s := (s.put .channelLaneState ch 5).setBit (Reg.ponLaneCtrl ch) 0 false
    let s := (s.setBit (Reg.ponLaneStatus ch) 8 true).setBit (Reg.ponLaneStatus ch) 0 false
    .next (s.raiseChange .channelLaneState ch old 5)
  else .next s

/-- R38 note 2: the transmit PLL has held lock for 1 ms; re-entry to Run is fixed at the second Frame boundary after
this instant, and the event of leaving Fault is raised. -/
def execFaultRecovery (ch : Chan) (s : State) : Host.Outcome State Fault Refusal :=
  if s.laneState ch = 5 then
    let s := (s.put .channelLaneState ch 1).setBit (Reg.ponLaneStatus ch) 0 true
    let s := s.setLane ch { s.lane ch with runFrame := s.frameNo + 2, fromFault := true }
    .next (s.raiseChange .channelLaneState ch 5 1)
  else .next s

/-- R38 note 3. -/
def execRxPllLossOfLock (ch : Chan) (s : State) : Host.Outcome State Fault Refusal :=
  if s.laneState ch = 2 then
    let s := (s.setBit (Reg.ponLaneStatus ch) 9 true).setBit (Reg.ponLaneStatus ch) 1 false
    .next (s.raiseFault .channelLaneState ch)
  else .next s

/-- R38 note 3: relock is automatic. -/
def execRxPllRelock (ch : Chan) (s : State) : Host.Outcome State Fault Refusal :=
  if s.laneState ch = 2 then .next (s.setBit (Reg.ponLaneStatus ch) 1 true) else .next s

/-- R41: in Sleep the receive PLL starts 250 µs before a quiet window. -/
def execSleepRxPllStart (ch : Chan) (s : State) : Host.Outcome State Fault Refusal :=
  let next := s.n .channelQuietNext ch
  if s.laneState ch = 3 ∧ next ≠ 0 ∧ next ≤ s.wick + 250 * Tm.us then
    .next (s.setBit (Reg.ponLaneStatus ch) 1 true)
  else .next s

/-- R40: in Trim, a receive lane in Run naps across a gap of 10 µs or more, until 2 µs before the gap's end. -/
def execLaneNap (ch : Chan) (gapStart gapEnd : Time) (s : State) : Host.Outcome State Fault Refusal :=
  if s.laneState ch = 2 ∧ s.n .devicePowerStateActual 0 = 1 ∧ gapStart + 10 * Tm.us ≤ gapEnd then
    .next (s.setLane ch { s.lane ch with napUntil := some (gapEnd - 2 * Tm.us) })
  else .next s

/-- R40: the lane is powered up 2 µs before the next expected burst start. -/
def execLaneNapWake (ch : Chan) (s : State) : Host.Outcome State Fault Refusal :=
  match (s.lane ch).napUntil with
  | some t => if t ≤ s.wick then .next (s.setLane ch { s.lane ch with napUntil := none }) else .next s
  | none => .next s

/-- R44: PRBS_CLR clears the count of loop bit errors. -/
def execPrbsClr (ch : Chan) (s : State) : Host.Outcome State Fault Refusal :=
  .next (s.put .channelPrbsErrors ch 0)

/-- R44: receive calibration rerun, in Starting and Loop only; in any other state the write is ignored. -/
def execRxCal (ch : Chan) (s : State) : Host.Outcome State Fault Refusal :=
  if s.laneState ch = 1 ∨ s.laneState ch = 4 then .next (s.setLane ch { s.lane ch with cal := true }) else .next s

/-- R44: the rerun ends and the command bit clears. -/
def execRxCalComplete (ch : Chan) (s : State) : Host.Outcome State Fault Refusal :=
  .next (s.setLane ch { s.lane ch with cal := false })

/-- R42: lock after 64 error-free bits; a checker that is locked counts the bit errors found since. -/
def execPrbsCheckerLock (ch : Chan) (errors : Nat) (s : State) : Host.Outcome State Fault Refusal :=
  if s.laneState ch = 4 ∧ s.bit (Reg.ponLaneCtrl ch) 11 then
    if s.bit (Reg.ponLaneStatus ch) 3 then
      .next (s.put .channelPrbsErrors ch (min 0xFFFFFFFFFFFFFFFF (s.n .channelPrbsErrors ch + errors)))
    else .next (s.setBit (Reg.ponLaneStatus ch) 3 true)
  else .next s

/-- R29: after 16 counted bursts the preset moves one code towards the recommended code at a Frame boundary, and the run
restarts. -/
def execPresetTrackingStep (ch : Chan) (t : Term) (s : State) : Host.Outcome State Fault Refusal :=
  match s.sideOn t ch with
  | some k =>
    if s.atFrame ∧ s.eqRun t k = 16 ∧ s.on .channelEqTrack ch ∧ ¬ s.on .terminalEqPinned t then
      let p := s.n (presetObj k) t
      let r := s.n (recommendedObj k) t
      .next ((s.put (presetObj k) t (if p < r then p + 1 else p - 1)).setEqRun t k 0)
    else .next s
  | none => .next s

end Sys2Proof.Machine
end

