-- ==== Sys2Proof/Machine/Framing.lean ====
section
/-!
DEFINITION. The downstream framer (R45 to R63): superframe counters, the PLOAM queues and their places in a frame, the
host's PLOAM relay, port-ID rules, and the sending of a frame.
-/

namespace Sys2Proof.Machine

namespace State

/-- A channel's framer. -/
def framer (s : State) (ch : Nat) : FramerSt := tabGet (fun _ => FramerSt.idle) s.framers ch

/-- A channel's framer replaced. -/
def setFramer (s : State) (ch : Nat) (f : FramerSt) : State :=
  { s with framers := tabPut (fun _ => FramerSt.idle) s.framers ch f }

/-- Width of the superframe counter (R45). -/
def sfcWidth (gen : Nat) : Nat := if gen = 1 then 30 else 51

/-- The superframe counter of the frame in progress (R48). -/
def superframe (s : State) (ch : Nat) : Nat := s.frameNo % 2 ^ sfcWidth (s.gen ch)

/-- PLOAM places in a frame (R45, R51). -/
def ploamPlaces (s : State) (ch : Nat) : Nat := if s.gen ch = 1 then 1 else s.n .channelPloamPerFrame ch

/-- A message queued by the activation engine. -/
def ploamAct (s : State) (ch : Nat) (k : Ploam) (t onu : Nat) (body : List Nat) (times : Nat := 1) : State :=
  let f := s.framer ch
  s.setFramer ch { f with act := f.act ++ [⟨k, t, onu, body, times, 0⟩] }

/-- A message queued by Lantern. -/
def ploamLan (s : State) (ch : Nat) (k : Ploam) (t onu : Nat) (body : List Nat) (times : Nat := 1) : State :=
  let f := s.framer ch
  s.setFramer ch { f with lan := f.lan ++ [⟨k, t, onu, body, times, 0⟩] }

/-- The broadcast ONU-ID of a channel. -/
def broadcastOnu (s : State) (ch : Nat) : Nat := if s.gen ch = 1 then 255 else 1023

/-- The number by which a message's kind is recorded as it leaves. -/
def ploamCode : Ploam → Nat
  | .burstProfile => 0
  | .assignOnuId => 1
  | .rangingTime => 2
  | .deactivate => 3
  | .disableSerial => 4
  | .requestRegistration => 5
  | .assignAllocId => 6
  | .keyControl => 7
  | .requestKey => 8
  | .keySwitchingTime => 9
  | .encryptedPortId => 10
  | .configurePortId => 11
  | .sleepAllow => 12
  | .noMessage => 13
  | .relay k => 16 + k

/-- On GPON, Lantern tells a terminal in service whether a flow's port-ID is encrypted (R50, log entry 131). -/
def encryptedPort (s : State) (ch f : Nat) : State :=
  let t := s.n .flowTerminal f
  match s.flowPort f ch with
  | some p =>
    if s.gen ch = 1 ∧ p ≠ 0xFFFF then
      s.ploamLan ch .encryptedPortId t (s.n .terminalOnuIdAssigned t) [p, s.n .flowEncrypt f]
    else s
  | none => s

/-- On GPON, Lantern binds the OMCI path of a terminal that enters service with Configure_Port-ID (R57), and names the
ports of its encrypted flows. -/
def gponBind (s : State) (ch t : Nat) : State :=
  if s.gen ch = 1 ∧ s.avail then
    let onu := s.n .terminalOnuIdAssigned t
    (((s.listed .flowTerminal).filter fun f => s.n .flowTerminal f == t && s.on .flowEncrypt f)).foldl
      (fun u f => u.encryptedPort ch f) (s.ploamLan ch .configurePortId t onu [1, onu])
  else s

/-! ### The relay of host messages (R53, R54) -/

/-- The type IDs that a generation has (R50). -/
def relayTypeOk (gen typeId : Nat) : Bool :=
  if gen = 1 then typeId == 1 || typeId == 3 || typeId == 4 else typeId == 1 || typeId == 2

/-- A write of ChannelPloamRelay. -/
def ploamRelayEff : Eff := fun s _ ch bs =>
  let gen := s.gen ch
  let t := beNat ((bs.drop 1).take 2)
  let ty := (bs.getD 3 0).toNat
  if gen = 0 ∨ bs.length ≠ (if gen = 1 then 14 else 40) ∨ ¬ relayTypeOk gen ty ∨ (8191 < t ∧ t ≠ 0xFFFF) then
    (s, Abort.range)
  else
    let f := s.framer ch
    if 8 ≤ f.host.length then (s.setBit (Reg.tcDsStatus ch) 2 true, Abort.full)
    else
      let onu := if t = 0xFFFF then s.broadcastOnu ch else s.n .terminalOnuIdAssigned t
      (s.setFramer ch { f with host := f.host ++
        [⟨.relay ty, t, onu, (bs.drop 4).map BitVec.toNat, 1, (bs.getD 0 0).toNat⟩] }, Abort.ok)

/-- ChannelPloamRelayResult: tag, status, and bits 31 to 0 of the superframe counter of the frame. -/
def relayResult (s : State) (ch tag status sfc : Nat) : State :=
  s.putOct .channelPloamRelayResult ch (beBytes 1 tag ++ beBytes 1 status ++ beBytes 4 sfc)

/-- Host messages for a terminal that is not in service on the channel discarded at a Frame boundary (R54). -/
def discardUnserved (s : State) (ch : Nat) : State :=
  let f := s.framer ch
  let gone := f.host.filter fun p => p.term != 0xFFFF && !s.inService p.term ch
  if gone.isEmpty then s
  else gone.foldl (fun t p => t.relayResult ch p.tag 1 0)
    (s.setFramer ch { f with host := f.host.filter fun p => p.term == 0xFFFF || s.inService p.term ch })

/-- Host messages discarded because the channel (any terminal) or one terminal enters Closing (R54). -/
def discardHost (s : State) (ch : Nat) (t : Option Nat) : State :=
  let f := s.framer ch
  let hit (p : PloamMsg) : Bool := match t with | some t => p.term == t | none => true
  let gone := f.host.filter hit
  if gone.isEmpty then s
  else gone.foldl (fun u p => u.relayResult ch p.tag 2 0)
    (s.setFramer ch { f with host := f.host.filter fun p => !hit p })

/-- Every queued message discarded as the channel's lanes enter Off (R54). -/
def discardAllPloam (s : State) (ch : Nat) : State := (s.discardHost ch none).setFramer ch FramerSt.idle

/-- Lantern's queued messages discarded as headless running begins; a sequence that has started runs on (R398). -/
def discardLantern (s : State) (ch : Nat) : State := s.setFramer ch { s.framer ch with lan := [] }

/-- A test loop set, or left for Off, where the channel's messages are discarded (R42, R54). -/
def loopSet : Eff := fun s m ch bs =>
  let r := loopLanes s m ch bs
  (if s.laneState ch = 4 ∧ r.1.laneState ch = 0 then r.1.discardAllPloam ch else r.1, r.2)

/-- LOOP_MODE_SET: ChannelLoopMode, for which Lantern also turns generator and checker on and off (PRBS_EN). -/
def loopEff : Eff := fun s m ch bs =>
  let r := loopSet s m ch bs
  if r.2 = Abort.ok ∧ (s.laneState ch = 4 ∨ beNat bs ≠ 0) then
    (r.1.setBit (Reg.ponLaneCtrl ch) 11 (beNat bs != 0), r.2)
  else r

/-! ### Places in a frame (R51, R52) -/

/-- A message that forms a repeat sequence. -/
def PloamMsg.isSeq (p : PloamMsg) : Bool := 1 < p.times

/-- The queue from which the frame's places are filled: originator order, then queue order. On GPON, sequences that wait
while another runs go first. The break after 16 frames puts one other message first. -/
def placeOrder (gpon chain : Bool) (held : Nat) (q : List PloamMsg) : List PloamMsg :=
  let q := if gpon && chain then q.filter (fun p => 1 < p.times) ++ q.filter (fun p => !(1 < p.times)) else q
  if 16 ≤ held then
    match q.find? fun p => !(1 < p.times) with
    | some p => p :: q.erase p
    | none => q
  else q

/-- The messages that the frame carries: the running sequences, which nothing interrupts, and those that take the places
left free, as `start` completes them; with the framer that is left. -/
def ploamFill (f : FramerSt) (gpon : Bool) (places : Nat) (start : PloamMsg → PloamMsg) :
    List PloamMsg × List PloamMsg × FramerSt :=
  let take := (placeOrder gpon f.chain f.held (f.act ++ f.lan ++ f.host)).take (places - f.running.length)
  let act := take.foldl (fun q p => q.erase p) f.act
  let lanTake := take.filter fun p => !f.act.contains p
  let lan := lanTake.foldl (fun q p => q.erase p) f.lan
  let host := (lanTake.filter fun p => !f.lan.contains p).foldl (fun q p => q.erase p) f.host
  let out := take.map start
  let seqs := f.running ++ out.filter fun p => 1 < p.times
  (f.running, out, { f with
    act := act, lan := lan, host := host
    running := (seqs.map fun p => { p with times := p.times - 1 }).filter fun p => 0 < p.times
    held := if places ≤ seqs.length ∧ seqs ≠ [] then f.held + 1 else 0
    chain := !seqs.isEmpty || (decide (16 ≤ f.held) && f.chain) })

/-- The next sequence number of a downstream message, of a terminal's or of the channel's broadcast ONU-ID: GPON's messages
have none (R50). -/
def ploamSeq (s : State) (ch : Nat) (p : PloamMsg) : Nat × State :=
  if s.gen ch = 1 then (0, s)
  else
    match (if p.onu = s.broadcastOnu ch then none else s.sideOn p.term ch) with
    | some k =>
      let q := ((s.sd p.term k).pseq + 1) % 256
      (q, s.setSd p.term k { s.sd p.term k with pseq := q })
    | none =>
      let q := ((s.framer ch).bseq + 1) % 256
      (q, s.setFramer ch { s.framer ch with bseq := q })

/-- The integrity key that a message goes out under: its terminal's, where one is loaded. -/
def ploamKey (s : State) (ch : Nat) (p : PloamMsg) : Option Nat :=
  if p.onu = s.broadcastOnu ch then none
  else match s.sideOn p.term ch with
    | some k => (s.sd p.term k).mik
    | none => none

/-- The message as it starts: Key_Switching_Time names the superframe counter ChannelKeySwitchLead frames on (R52, R62). -/
def ploamStart (s : State) (ch : Nat) (p : PloamMsg) : PloamMsg :=
  match p.kind with
  | .keySwitchingTime => { p with body := [(s.superframe ch + s.n .channelKeySwitchLead ch) % 2 ^ sfcWidth (s.gen ch)] }
  | _ => p

/-- One message sent in the frame, its ONU-ID, sequence number and integrity field filled in (R50). -/
def ploamEmit (s : State) (ch : Nat) (p : PloamMsg) : State :=
  let (seq, s) := s.ploamSeq ch p
  s.emit (.ploam ch p.onu (ploamCode p.kind) seq
    (Config.ploamCheck (s.gen ch) (s.ploamKey ch p) (p.onu :: ploamCode p.kind :: seq :: p.body)) p.body)

/-- One message that takes its first place: a host message reports its result, Key_Switching_Time announces its switch,
and what the engines act on is noted. -/
def ploamFirst (s : State) (ch : Nat) (p : PloamMsg) : State :=
  let f := s.framer ch
  let s := match p.kind with
    | .relay _ => s.relayResult ch p.tag 0 (s.superframe ch)
    | .keySwitchingTime => s.setFramer ch { f with switches := f.switches ++ p.body.map fun v => (p.term, v) }
    | .assignOnuId | .assignAllocId | .burstProfile => s.setFramer ch { f with noted := f.noted ++ [(p.kind, p.term, p.body)] }
    | _ => s
  s.ploamEmit ch p

/-- PLOAM_MESSAGE_SENT: the frame's messages, on GPON the no-message PLOAM where none is queued (R51). -/
def ploamFrame (s : State) (ch : Nat) : State :=
  let gpon := s.gen ch == 1
  let (runs, out, f) := ploamFill (s.framer ch) gpon (s.ploamPlaces ch) (s.ploamStart ch)
  let out := if gpon && runs.isEmpty && out.isEmpty then [⟨.noMessage, 0xFFFF, s.broadcastOnu ch, [], 1, 0⟩] else out
  let s := runs.foldl (fun t p => t.ploamEmit ch p) (s.setFramer ch f)
  let s := out.foldl (fun t p => t.ploamFirst ch p) s
  let k := runs.length + out.length
  if k = 0 then s
  else (s.putReg (Reg.tcDsPloamCnt ch) ((s.reg (Reg.tcDsPloamCnt ch) + k) % 4294967296)).count 0x202 ch k

/-! ### Sending a frame (R47 to R49) -/

/-- The code of R45 that protects a channel's frames. -/
def dsFec (s : State) (ch : Nat) : Nat :=
  match s.gen ch with
  | 1 => if s.on .channelDsFec ch then 1 else 0
  | 2 => 2
  | 3 => 2
  | 4 => 3
  | _ => 0

/-- A channel whose framer sends frames: in Run or Sleep, with FRAMER_EN (R72). -/
def framing (s : State) (ch : Nat) : Bool := s.sending ch && s.bit (Reg.tcDsCtrl ch) 0

/-- DOWNSTREAM_FRAME_SENT: the channel's framer sends the frame that starts now, with the map given, or the quiet map when
the voted words are not complete (R49). -/
def sendFrame (s : State) (ch : Nat) (map : Option (List Nat)) (quiet : List Nat) : State :=
  let s := if map.isNone then s.setBit (Reg.tcDsStatus ch) 1 true else s
  let s := s.emit (.frame ch (s.dsFec ch) (s.superframe ch :: map.getD quiet))
  let s := s.ploamFrame ch
  let s := s.putReg (Reg.tcDsFrameCnt ch) ((s.reg (Reg.tcDsFrameCnt ch) + 1) % 4294967296)
  (s.count 0x200 ch 1).lineAdd ch 0 1

/-! ### Port-IDs (R55, R56) -/

/-- Whether a generation's data flows admit a port-ID; 0xFFFF is none and breaks no rule, and generation 0 admits any. -/
def portInRange (gen p : Nat) : Bool :=
  if p = 0xFFFF then true
  else if gen = 0 then p ≤ 65534
  else if gen = 1 then 256 ≤ p && p ≤ 4095
  else 1024 ≤ p && p ≤ 65534

/-- The port-IDs that a flow uses, with their channels. -/
def portsOf (s : State) (f : Nat) : List (Nat × Nat) :=
  (s.chansOf (s.n .flowTerminal f)).filterMap fun ch =>
    match s.flowPort f ch with
    | some p => if p = 0xFFFF then none else some (ch, p)
    | none => none

/-- Whether a flow keeps the rules of R55: in range, shared with no other flow, and mode 0 for an unbonded terminal. -/
def portsOk (s : State) (f : Nat) : Bool :=
  let t := s.n .flowTerminal f
  let mine := s.portsOf f
  (t == 0xFFFF || s.bonded t || s.n .flowBondMode f == 0) &&
  mine.all (fun p => portInRange (s.gen p.1) p.2) &&
  ((s.listed .flowTerminal).filter fun g => g != f).all fun g => (s.portsOf g).all fun p => !mine.contains p

/-- The flow that a port-ID names on a channel. -/
def flowAt (s : State) (ch port : Nat) : Option Nat :=
  (s.listed .flowTerminal).find? fun f => (s.portsOf f).contains (ch, port) && !s.skips 0 f

/-- A frame of a flow whose port-ID its channel's generation does not admit is discarded at dequeue (R56). -/
def portInvalidDrop (s : State) (ch : Nat) : State :=
  (s.bumpReg (Reg.tcDsPortidDropCnt ch) 1).setBit (Reg.tcDsStatus ch) 4 true

/-- As a channel enters Run, a configuration event names each flow whose port-ID it does not admit (R56). -/
def portEvents (s : State) (ch : Nat) : State :=
  ((s.withNum .flowEnable 1).filter fun f => (s.portsOf f).any fun p => p.1 == ch && !portInRange (s.gen ch) p.2).foldl
    (fun t f => t.raiseConfig .flowPortId f) s

end State

open State

/-- R42: a host write of ChannelLoopMode. -/
def execLoopModeSet (m : Master) (ch : Chan) (mode : Nat) (s : State) : Host.Outcome State Fault Refusal :=
  .next (s.hostWrite m .channelLoopMode ch (beBytes 1 mode) loopEff)

end Sys2Proof.Machine
end

