-- ==== Sys2Proof/Machine/Sump.lean ====
section
/-!
DEFINITION. Sump (R290 to R306): pools and requesters, admission at the first cell and at later cells, thresholds,
borrowing, shared cells and their release, and the verdict.
-/

namespace Sys2Proof.Machine

/-- SUMP_CTRL and SUMP_STATUS bits are named where they are used; cells of a frame of length L (R290). -/
def cellsOf (len : Nat) : Nat := max 1 (ceilDiv len 256)

namespace State

/-- The number of cells (R290). -/
def sumpCells : Nat := 393216

/-- The traffic manager and Sump replaced. -/
def setTm (s : State) (f : TrafficSt → TrafficSt) : State := { s with tm := f s.tm }

/-- The smallest number that the rising list of held cells leaves free, from `k` up. -/
def firstGap : List (Nat × Option CellTag) → Nat → Nat
  | [], k => k
  | (a, _) :: t, k => if a = k then firstGap t (k + 1) else if a < k then firstGap t k else k

/-- A free cell's number; withdrawn cells are not used (R383). -/
def freeCell (s : State) : Nat :=
  firstGap (s.tm.withdrawn.foldl (fun t w => tabPlace (tabErase t w.1) w.1 none) s.tm.cells) 0

/-- A cell's tag, none while it is free. -/
def cellTag (s : State) (c : Nat) : Option CellTag := tabGet (fun _ => none) s.tm.cells c

/-- A cell's tag written. -/
def setCell (s : State) (c : Nat) (t : Option CellTag) : State :=
  s.setTm fun m => { m with cells := tabPut (fun _ => none) m.cells c t }

/-! ### Regions and states of a pool -/

/-- Requesters that reserve or hold cells and name the pool. -/
def requestersOf (s : State) (p : Nat) : List Nat :=
  ((s.listed .requesterMinCells ++ s.listed .requesterCellsHeld).eraseDups).filter fun r => s.n .requesterPool r == p

/-- The cells that a pool's requesters reserve. -/
def reserved (s : State) (p : Nat) : Nat :=
  ((s.requestersOf p).map fun r => s.n .requesterMinCells r).foldl (· + ·) 0

/-- The cells of its own pool that a requester holds beyond its reservation. -/
def sharedHeld (s : State) (r : Nat) : Nat :=
  s.n .requesterCellsHeld r - s.n .requesterCellsBorrowed r - s.n .requesterMinCells r

/-- PoolSharedFree: free cells of the shared region (R294). -/
def sharedFree (s : State) (p : Nat) : Nat :=
  s.n .poolCells p - s.reserved p - ((s.requestersOf p).map s.sharedHeld).foldl (· + ·) 0 - s.n .poolCellsLent p
    - (s.tm.withdrawn.filter fun w => w.2 == p).length
    - ((s.tm.emptied.filter fun w => w.1 == p).map fun w => w.2).foldl (· + ·) 0

/-- A pool's chain (R299): itself, its fallback, and that pool's fallback. -/
def chain (s : State) (p : Nat) : List Nat :=
  if s.bit Reg.sumpCtrl 1 then
    let a := s.n .poolFallback p
    if a = 0xFF then [p]
    else
      let b := s.n .poolFallback a
      if b = 0xFF then [p, a] else [p, a, b]
  else [p]

/-- A state's threshold. -/
def poolThreshold (s : State) (p k : Nat) : Nat :=
  if k = 1 then s.n .poolNoticeCells p else if k = 2 then s.n .poolPressureCells p else s.n .poolShedCells p

/-- Whether state `k` stands: entered at its threshold, left below the threshold minus the hysteresis (R297). -/
def poolStands (s : State) (p k : Nat) : Bool :=
  let f := s.n .poolCellsHeld p
  s.poolThreshold p k ≤ f || (k ≤ s.n .poolState p && s.poolThreshold p k - s.n .poolHysteresisCells p ≤ f)

/-- The state that a pool's fill gives: 0 normal, 1 notice, 2 pressure, 3 shed. A disabled pool is normal. -/
def poolNext (s : State) (p : Nat) : Nat :=
  if ¬ s.on .poolEnable p then 0
  else if s.poolStands p 3 then 3 else if s.poolStands p 2 then 2 else if s.poolStands p 1 then 1 else 0

/-- A pool's state brought up to its fill: status bits for the states entered, and the event of Notice. -/
def poolUpdate (s : State) (p : Nat) : State :=
  let old := s.n .poolState p
  let new := s.poolNext p
  if new = old then s
  else
    let s := s.put .poolState p new
    let s := if old < 3 ∧ 3 ≤ new then s.setBit Reg.sumpStatus 10 true else s
    let s := if old < 2 ∧ 2 ≤ new then s.setBit Reg.sumpStatus 9 true else s
    if old < 1 then (s.setBit Reg.sumpStatus 8 true).raiseChange .poolState p old new else s

/-! ### Taking and returning cells -/

/-- One cell charged to a requester, from a pool; another pool's cell is borrowed (R299). -/
def charge (s : State) (r p : Nat) : State :=
  let u := s.n .requesterCellsHeld r + 1
  let s := (s.put .requesterCellsHeld r u).put .requesterHighWater r (max u (s.n .requesterHighWater r))
  let s := (s.put .poolCellsHeld p (s.n .poolCellsHeld p + 1)).count 0x900 p 1
  let s := if p = s.n .requesterPool r then s
    else ((((s.put .requesterCellsBorrowed r (s.n .requesterCellsBorrowed r + 1)).put .poolCellsLent p
      (s.n .poolCellsLent p + 1)).bump .borrows 0 1).setBit Reg.sumpStatus 11 true)
  s.poolUpdate p

/-- One cell returned to its pool (R302). -/
def uncharge (s : State) (r p : Nat) : State :=
  let s := (s.put .requesterCellsHeld r (s.n .requesterCellsHeld r - 1)).put .poolCellsHeld p
    (s.n .poolCellsHeld p - 1)
  let s := s.count 0x901 p 1
  let s := if p = s.n .requesterPool r then s
    else (s.put .requesterCellsBorrowed r (s.n .requesterCellsBorrowed r - 1)).put .poolCellsLent p
      (s.n .poolCellsLent p - 1)
  s.poolUpdate p

/-- The pool that gives a requester its next cell: its own while its reservation has room, else the first of the chain
with a free shared cell (R296). -/
def cellPool (s : State) (r : Nat) : Option Nat :=
  let p := s.n .requesterPool r
  if s.n .requesterCellsHeld r < s.n .requesterMinCells r then some p
  else (s.chain p).find? fun q => s.on .poolEnable q && 0 < s.sharedFree q

/-- A release of one cell under a requester's tag (R302). -/
def releaseCell (s : State) (c r : Nat) : State :=
  let fault (s : State) (kind : Nat) : State :=
    let s := (s.putReg Reg.sumpFaultCell (2147483648 + c)).putReg Reg.sumpFaultReq (r + 65536 * kind)
    let s := (s.bump (if kind = 0 then .doubleFrees else .foreignFrees) 0 1).setBit Reg.sumpStatus (13 + kind) true
    if s.limitFree 0x2000 100 then
      (s.limitTake 0x2000).raiseRefusal (if kind = 0 then .doubleFrees else .foreignFrees) 0 0
        (beBytes 4 c ++ beBytes 2 r ++ beBytes 1 kind)
    else s
  match s.cellTag c with
  | none => fault s 0
  | some t =>
    if t.owner ≠ r then fault s 1
    else if 1 < t.refs then s.setCell c (some { t with refs := t.refs - 1 })
    else (s.setCell c none).uncharge r t.pool

/-- A frame's cells released under a tag, from its first cell along the chain of NEXT. -/
def releaseFrom (s : State) (c r : Nat) : Nat → State
  | 0 => s
  | k + 1 =>
    let next := (s.cellTag c).bind fun t => t.next
    let s := s.releaseCell c r
    match next with
    | some d => s.releaseFrom d r k
    | none => s

/-- CELL_RELEASE: the release that a dequeue applies for a frame's copy. -/
def releaseFrame (s : State) (c r : Nat) : State := s.releaseFrom c r 64

/-! ### Admission -/

/-- Why a frame is refused (R295). -/
inductive Refuse where
  | disabled | quota | empty | colour | midFrame | rebuilding
  deriving DecidableEq

/-- A refused frame counted. -/
def refuse (s : State) (r : Nat) (w : Refuse) : State :=
  let s := (s.bump .requesterDrops r 1).count 0x902 (s.n .requesterPool r) 1
  match w with
  | .disabled => s.bump .poolDisabledDrops 0 1
  | .quota => (s.bump .quotaDrops 0 1).setBit Reg.sumpStatus 12 true
  | .empty => (s.bump .poolEmptyDrops 0 1).setBit Reg.sumpStatus 12 true
  | .colour => (s.bump .colourDrops 0 1).setBit Reg.sumpStatus 12 true
  | .midFrame => s.bump .midFrameDrops 0 1
  | .rebuilding => s

/-- The rows of R295: the pool of the first cell, or why the frame is refused. -/
def grant (s : State) (r colour : Nat) : Refuse ⊕ Nat :=
  let p := s.n .requesterPool r
  let u := s.n .requesterCellsHeld r
  if s.tm.rebuilding then .inl .rebuilding
  else if ¬ s.on .poolEnable p then .inl .disabled
  else if u < s.n .requesterMinCells r then .inr p
  else if s.n .requesterMaxCells r ≤ u then .inl .quota
  else
    match s.cellPool r with
    | none => .inl .empty
    | some q => if 3 ≤ s.n .poolState q + colour then .inl .colour else .inr q

/-- The later cells of a frame taken one by one; the cells written so far stand in `done`, the latest first. -/
def takeCells (s : State) (r refs : Nat) : Nat → List Nat → Option (List Nat) × State
  | 0, done => (some done, s)
  | k + 1, done =>
    match s.cellPool r with
    | none => (none, done.foldl (fun t c => match t.cellTag c with
        | some g => (t.setCell c none).uncharge r g.pool
        | none => t) s)
    | some p =>
      let c := s.freeCell
      let s := (s.setCell c (some ⟨refs, r, p, none, 0, done.isEmpty, k == 0⟩)).charge r p
      let s := match done with
        | d :: _ => match s.cellTag d with
          | some g => s.setCell d (some { g with next := some c })
          | none => s
        | [] => s
      takeCells s r refs k (c :: done)

/-- A frame stored once for `refs` copies under a requester (R295, R296, R301): its first cell, or none where it is
refused. The verdict is 0 pending, 1 pass, 2 fail. -/
def store (s : State) (r colour len refs verdict : Nat) : Option Nat × State :=
  match s.grant r colour with
  | .inl w => (none, s.refuse r w)
  | .inr _ =>
    match s.takeCells r refs (cellsOf len) [] with
    | (none, t) => (none, t.refuse r .midFrame)
    | (some done, t) =>
      let c := done.getLast?.getD 0
      match t.cellTag c with
      | some g => (some c, t.setCell c (some { g with verdict := verdict }))
      | none => (some c, t)

/-- A frame's verdict (R303). -/
def verdict (s : State) (c : Nat) : Nat := match s.cellTag c with | some t => t.verdict | none => 2

/-- A frame discarded for its verdict (R304). -/
def verdictDrop (s : State) : State := (s.bump .verdictDrops 0 1).setBit Reg.sumpStatus 15 true

/-! ### The rules of writes (R293, R294, R297, R299) -/

/-- The thresholds of a pool in order. -/
def thresholdsOk (t : State) (p : Nat) : Bool :=
  t.n .poolNoticeCells p ≤ t.n .poolPressureCells p && t.n .poolPressureCells p ≤ t.n .poolShedCells p &&
  t.n .poolShedCells p ≤ t.n .poolCells p

/-- The cells that the enabled pools own together. -/
def ownedCells (t : State) : Nat :=
  ((List.range 16).map fun p => if t.on .poolEnable p then t.n .poolCells p else 0).foldl (· + ·) 0

/-- Whether a pool's fallback names itself or closes a loop within two steps. -/
def fallbackLoop (t : State) (p : Nat) : Bool :=
  let a := t.n .poolFallback p
  if a = 0xFF then false
  else if a = p then true
  else t.n .poolFallback a == p

/-- The checks that Sump's writes meet at their boundary: `s` stands before it, `t` with the boundary's writes. -/
def sumpCheck (s t : State) (o : Obj) (i : Nat) : Nat :=
  match o with
  | .poolCells =>
    if s.on .poolEnable i then Abort.notDark
    else if ¬ t.thresholdsOk i ∨ t.n .poolCells i < t.reserved i then Abort.range
    else Abort.ok
  | .poolEnable =>
    if t.on .poolEnable i then (if sumpCells < t.ownedCells then Abort.range else Abort.ok)
    else if s.on .poolEnable i ∧ (s.n .poolCellsHeld i ≠ 0 ∨
        (List.range 1024).any fun r => t.n .requesterPool r == i) then Abort.notDark
    else Abort.ok
  | .poolNoticeCells | .poolPressureCells | .poolShedCells =>
    if t.thresholdsOk i then Abort.ok else Abort.range
  | .poolFallback => if t.fallbackLoop i then Abort.range else Abort.ok
  | .requesterPool =>
    if s.n .requesterCellsHeld i ≠ 0 then Abort.notDark
    else if t.n .poolCells (t.n .requesterPool i) < t.reserved (t.n .requesterPool i) then Abort.range
    else Abort.ok
  | .requesterMinCells =>
    if t.n .poolCells (t.n .requesterPool i) < t.reserved (t.n .requesterPool i) then Abort.range else Abort.ok
  | _ => Abort.ok

/-- What a write of Sump does beyond storing its value: thresholds, hysteresis and the enable act on the state. -/
def sumpApply (s : State) (o : Obj) (i : Nat) : State :=
  match o with
  | .poolEnable | .poolCells | .poolNoticeCells | .poolPressureCells | .poolShedCells | .poolHysteresisCells =>
    s.poolUpdate i
  | _ => s

/-- SumpCellsUnassigned. -/
def unassigned (s : State) : Nat := sumpCells - s.ownedCells

/-- Sump lost and to be rebuilt (R304): queues and cells emptied, and usages, fills, states and lent counts from zero. -/
def sumpLose (s : State) : State :=
  let s := (s.listed .requesterCellsHeld).foldl (fun t r => t.put .requesterCellsHeld r 0) s
  let s := (s.listed .requesterCellsBorrowed).foldl (fun t r => t.put .requesterCellsBorrowed r 0) s
  let s := (List.range 16).foldl (fun t p => ((t.put .poolCellsHeld p 0).put .poolCellsLent p 0).put .poolState p 0) s
  s.setTm fun m => { m with
    queues := [], omci := [], cells := [], withdrawn := [], orphans := [], emptied := [], signalled := [], rest := [], bondSeq := [], bondWait := [], bondRx := [],
    cutting := [], above := [], alarmed := [] }

end State

open State

/-- R304: the rebuild ends, and Sump admits frames again. -/
def execSumpRebuildDone (s : State) : Host.Outcome State Fault Refusal :=
  .next (s.setTm fun m => { m with rebuilding := false })

end Sys2Proof.Machine
end

