-- ==== Sys2Proof/Machine/Gallery.lean ====
section
/-!
DEFINITION. The Gallery learning table (R213 to R239): hashes and buckets, lookup, learning and moves, insertion by
relocation, ageing and parity, and the host's commands.
-/

namespace Sys2Proof.Machine

/-- One bit of CRC-32C, least significant bit first (R214). -/
def crcBit (r : Nat) : Nat := if r % 2 = 1 then Nat.xor (r / 2) 0x82F63B78 else r / 2

/-- One byte of CRC-32C. -/
def crcByte (r : Nat) (b : Byte) : Nat :=
  crcBit (crcBit (crcBit (crcBit (crcBit (crcBit (crcBit (crcBit (Nat.xor r b.toNat))))))))

/-- CRC-32C over bytes from a starting register, with the final XOR (R214). -/
def crc32c (init : Nat) (bs : List Byte) : Nat := Nat.xor (bs.foldl crcByte init) 0xFFFFFFFF

/-- The 8 key bytes of a domain and MAC address (R213). -/
def galKey (domain mac : Nat) : List Byte := beBytes 8 (domain * 281474976710656 + mac)

/-- The candidate bucket of a key in a half (R214). -/
def galBucket (half domain mac : Nat) : Nat :=
  crc32c (if half = 0 then 0xFFFFFFFF else 0x9E3779B9) (galKey domain mac) % 65536

/-- The position of a way (R213). -/
def galPos (half bucket way : Nat) : Nat := half * 262144 + bucket * 4 + way

/-- The first stash position. -/
def galStash : Nat := 524288

namespace State

/-- The Gallery replaced. -/
def setGal (s : State) (f : GallerySt → GallerySt) : State := { s with gal := f s.gal }

/-- The entry at a position. -/
def galAt (s : State) (p : Nat) : Option GalEntry := tabGet (fun _ => none) s.gal.entries p

/-- A position written or cleared. -/
def galSet (s : State) (p : Nat) (e : Option GalEntry) : State :=
  s.setGal fun g => { g with
    entries := tabPut (fun _ => none) g.entries p e
    stash := if p < galStash then g.stash
             else match e with
               | some _ => if g.stash.contains p then g.stash else g.stash ++ [p]
               | none => g.stash.erase p }

/-- The four positions of a bucket. -/
def bucketWays (half bucket : Nat) : List Nat := (List.range 4).map fun w => galPos half bucket w

/-- The positions at which a key can stand: its two buckets and the stash. -/
def candidates (s : State) (domain mac : Nat) : List Nat :=
  bucketWays 0 (galBucket 0 domain mac) ++ bucketWays 1 (galBucket 1 domain mac) ++ s.gal.stash

/-- A lookup (R215): the first valid entry with the key. -/
def galFind (s : State) (domain mac : Nat) : Option (Nat × GalEntry) :=
  (s.candidates domain mac).findSome? fun p =>
    match s.galAt p with
    | some e => if e.domain = domain ∧ e.mac = mac then some (p, e) else none
    | none => none

/-- All entries with their positions, rising. -/
def galAll (s : State) : List (Nat × GalEntry) :=
  s.gal.entries.filterMap fun p => p.2.map fun e => (p.1, e)

/-- Valid entries in buckets and stash, by a test. -/
def galCount (s : State) (p : GalEntry → Bool) : Nat := (s.galAll.filter fun x => p x.2).length

/-- TerminalLearnedEntries (R225). -/
def learnedEntries (s : State) (t : Nat) : Nat := s.galCount fun e => !e.static && e.kind == 0 && e.dest == t

/-! ### Flush filters (R236, R237) -/

/-- Whether a flush deletes an entry. -/
def flushHits (f : Flush) (e : GalEntry) : Bool :=
  (f.domain == 0xFFFF || e.domain == f.domain) && (f.kind == 0xFF || (e.kind == f.kind && e.dest == f.dest)) &&
  (f.static || !e.static) && (match f.flow with | some x => e.kind == 0 && e.flow == x | none => true)

/-- A flush queued automatically (R237): by kind and destination, or by flow. Entry to Glim queues none (R479). -/
def autoFlush (s : State) (kind dest : Nat) (flow : Option Nat) : State :=
  if s.boot.glimEntry.isSome then s else
  s.setGal fun g => { g with flushes := g.flushes ++ [⟨0xFFFF, if flow.isSome then 0xFF else kind, dest, flow, false, none⟩] }

/-! ### Insertion and relocation (R228 to R230) -/

/-- The bucket of an entry in the other half. -/
def alternate (e : GalEntry) (half : Nat) : Nat × Nat := (1 - half, galBucket (1 - half) e.domain e.mac)

/-- The lowest free way of a bucket. -/
def freeWay (s : State) (half bucket : Nat) : Option Nat :=
  (bucketWays half bucket).find? fun p => (s.galAt p).isNone

/-- A way of the bucket whose occupant's alternate has a free way, with that free way. -/
def freeAlternate (s : State) (half bucket : Nat) : Option (Nat × Nat) :=
  (bucketWays half bucket).findSome? fun p =>
    match s.galAt p with
    | some e => (s.freeWay (alternate e half).1 (alternate e half).2).map fun f => (p, f)
    | none => none

/-- The search of R228 from step `k` on: the positions of the path, the newest first, once a free way is found. -/
def findPath (s : State) (half bucket : Nat) (path : List Nat) : Nat → Option (List Nat)
  | 0 => none
  | fuel + 1 =>
    match s.freeAlternate half bucket with
    | some (p, f) => some (f :: p :: path)
    | none =>
      let v := galPos half bucket ((32 - (fuel + 1)) % 4)
      match s.galAt v with
      | some e => s.findPath (alternate e half).1 (alternate e half).2 (v :: path) fuel
      | none => none

/-- A walk's catch-up list takes an entry that a relocation carries behind its cursor (R235). -/
def walkMatch (w : Walk) (e : GalEntry) : Bool :=
  (w.domain == 0xFFFF || e.domain == w.domain) && (w.kind == 0xFF || (e.kind == w.kind && e.dest == w.dest)) &&
  (!(w.flags / 32 % 2 == 1) || e.static) && (!(w.flags / 64 % 2 == 1) || !e.static)

/-- The walks as a relocation from one position to another leaves them. -/
def walkMoved (ws : List Walk) (src dst : Nat) (e : GalEntry) : List Walk :=
  ws.map fun w =>
    if w.pos ≤ src ∧ dst < w.pos ∧ walkMatch w e then
      if w.catchUp.length < 64 then { w with catchUp := w.catchUp ++ [e] } else { w with rescan := true }
    else w

/-- The shadow without a key. -/
def shadowDrop (s : State) (domain mac : Nat) : State :=
  s.setGal fun g => { g with shadow := g.shadow.filter fun x => !(x.domain == domain && x.mac == mac) }

/-- RELOCATION_PAIR (R229): the entry written at its destination, then its source cleared. An entry that the running
flush matches is deleted instead (R236). -/
def relocate (s : State) (src dst : Nat) : State :=
  match s.galAt src with
  | none => s
  | some e =>
    if s.gal.flushing && ((s.gal.flushes.head?.map fun f => flushHits f e).getD false) then
      let s := s.galSet src none
      if e.static then s.shadowDrop e.domain e.mac else s
    else
      let s := ((s.galSet dst (some e)).galSet src none).count 0x603 0 1
      s.setGal fun g => { g with walks := walkMoved g.walks src dst e }

/-- A path executed from its free end back (R229); the newest position stands first. -/
def runPath (s : State) : List Nat → State
  | f :: p :: rest => (s.relocate p f).runPath (p :: rest)
  | _ => s

/-- INSERTION (R228): the place found and taken, or none with the pressure counted. -/
def galInsert (s : State) (e : GalEntry) : Bool × State :=
  let b0 := galBucket 0 e.domain e.mac
  let b1 := galBucket 1 e.domain e.mac
  match (s.freeWay 0 b0).orElse (fun _ => s.freeWay 1 b1) with
  | some p => (true, s.galSet p (some e))
  | none =>
    match s.findPath 0 b0 [] 32 with
    | some path => (true, (s.runPath path).galSet (path.getLast?.getD 0) (some e))
    | none =>
      match ((List.range 64).map (galStash + ·)).find? fun p => (s.galAt p).isNone with
      | some p => (true, s.galSet p (some e))
      | none => (false, ((s.bump .tablePressure 0 1).setBit Reg.galStatus 8 true).raiseRefusal .tablePressure 0 0)

/-! ### Learning (R221 to R227) -/

/-- The learn engine of a domain. -/
def engineOf (d : Nat) : Fin 4 := Fin.ofNat 4 d

/-- A learn request queued: suppressed when its like waits, dropped when 1,024 wait (R223). -/
def learnQueue (s : State) (r : LearnReq) : State :=
  let q := s.gal.queues[engineOf r.domain]
  if q.any fun x => x.domain == r.domain && x.mac == r.mac && x.kind == r.kind && x.dest == r.dest then s
  else if 1024 ≤ q.length then (s.bump .learnQueueDrops 0 1).setBit Reg.galStatus 12 true
  else s.setGal fun g => { g with
    queues := g.queues.set (engineOf r.domain) (q ++ [r])
    learnPeak := max g.learnPeak (q.length + 1) }

/-- LEARN_NOTICE_SENT (R227): the notice is placed on Passage by the caller's chapter; here the wish is answered. -/
def noticeWanted (s : State) (r : LearnReq) : Bool := r.kind == 0 && s.on .domainCascadeLearn r.domain

/-- A terminal at its learn limit (R225). -/
def atLimit (s : State) (kind dest : Nat) : Bool :=
  kind == 0 && s.n .terminalLearnLimit dest ≤ s.learnedEntries dest

/-- A request beyond its terminal's limit (R225). -/
def limitExcess (s : State) : State := (s.bump .learnLimitExcess 0 1).setBit Reg.galStatus 13 true

/-- The events of R224 and R226 carry the domain and the MAC address. -/
def keyDetail (domain mac : Nat) : List Byte := beBytes 2 domain ++ beBytes 6 mac

/-- STATION_MOVE (R224): whether the entry moved. -/
def stationMove (s : State) (p : Nat) (e : GalEntry) (r : LearnReq) : Bool × State :=
  let sec := s.second % 16
  let limit := s.n .galleryMoveLimit 0
  if e.pinned then (false, s)
  else if e.static then (false, s.bump .staticConflicts 0 1)
  else if limit ≠ 0 ∧ e.moveSec = sec ∧ limit ≤ e.moves then
    let s := (s.bump .movesDamped 0 1).setBit Reg.galStatus 10 true
    if s.limitFree 0x2001 100 then
      (false, (s.limitTake 0x2001).raiseRefusal .movesDamped 0 0 (keyDetail r.domain r.mac))
    else (false, s)
  else if s.atLimit r.kind r.dest then (false, s.limitExcess)
  else
    let moves := if e.moveSec = sec then min 7 (e.moves + 1) else 1
    (true, (s.galSet p (some { e with
      kind := r.kind, dest := r.dest, flow := r.flow, moves := moves, moveSec := sec, hit := true })).bump
        .stationMoves 0 1)

/-- A request that its engine takes (R223): the key looked up again, then inserted, refreshed or moved. Answers whether
a learn or move succeeded. -/
def learnTake (s : State) (r : LearnReq) : Bool × State :=
  let s := s.count 0x602 (engineOf r.domain) 1
  match s.galFind r.domain r.mac with
  | some (p, e) =>
    if e.kind = r.kind ∧ e.dest = r.dest then
      (false, s.galSet p (some { e with hit := true, flow := if r.kind = 0 then r.flow else e.flow }))
    else s.stationMove p e r
  | none =>
    if s.atLimit r.kind r.dest then (false, s.limitExcess)
    else
      let (ok, s) := s.galInsert ⟨false, false, true, r.kind, r.dest, r.domain, r.mac, r.flow, 0, 0, 0⟩
      if ok then (true, s.bump .learnsInserted 0 1) else (false, s)

/-! ### Parity (R232) -/

/-- A parity failure at a position: recorded, counted, reported and cleared; a static key waits to be restored. -/
def galParity (s : State) (p : Nat) : State :=
  match s.galAt p with
  | none => s
  | some e =>
    let s := ((s.putReg Reg.galParityPos (2147483648 + p)).bump .galleryParityErrors 0 1).setBit Reg.galStatus 9 true
    let s := (s.galSet p none).raiseFault .galleryParityErrors 0 (beBytes 4 p)
    if e.static then s.setGal fun g => { g with lost := g.lost ++ [(e.domain, e.mac)] } else s

/-! ### Commands (R233 to R236) -/

/-- The learning engines and the ager run: the block's enable (R239, log entry 132). -/
def galRuns (s : State) : Bool := s.bit Reg.galCtrl 0 && !s.boot.glim

/-- An entry as its 16 bytes, PARITY zero (R216). -/
def galBytes (e : GalEntry) : List Byte :=
  let b (x : Bool) (k : Nat) : Nat := if x then 2 ^ k else 0
  beBytes 16 (2 ^ 127 + b e.static 126 + b e.pinned 125 + b e.hit 124 + e.kind * 2 ^ 122 + e.dest * 2 ^ 106
    + e.domain * 2 ^ 92 + e.mac * 2 ^ 44 + e.flow * 2 ^ 28 + e.age * 2 ^ 25 + e.moves * 2 ^ 22 + e.moveSec * 2 ^ 18)

/-- GalleryResult of a master's instance. -/
def galResult (s : State) (m tag status cursor : Nat) (es : List GalEntry) : State :=
  s.putOct .galleryResult m
    (beBytes 1 tag ++ beBytes 1 status ++ beBytes 4 cursor ++ beBytes 1 es.length ++ (es.map galBytes).flatten)

/-- A flag of a command. -/
def GalCmd.flag (c : GalCmd) (k : Nat) : Bool := c.flags / 2 ^ k % 2 == 1

/-- The fields of a command's 24 bytes. -/
def galParse (bs : List Byte) : GalCmd :=
  let f (k n : Nat) : Nat := beNat ((bs.drop k).take n)
  ⟨f 0 1, f 2 2, f 4 6, f 10 1, f 11 1, f 12 2, f 14 2, f 16 4, f 20 1⟩

/-- A command's 24 bytes. -/
def galWord (op : Nat) (c : GalCmd) : List Byte :=
  beBytes 1 c.tag ++ beBytes 1 op ++ beBytes 2 c.domain ++ beBytes 6 c.mac ++ beBytes 1 c.flags ++ beBytes 1 c.kind ++
  beBytes 2 c.dest ++ beBytes 2 c.flow ++ beBytes 4 c.cursor ++ beBytes 1 c.count ++ beBytes 3 0

/-- Whether a destination exists for its kind (R216). -/
def destOk (kind dest : Nat) : Bool :=
  (kind == 0 && dest < 8192) || (kind == 1 && dest < 16) || (kind == 2 && dest < 4096) || (kind == 3 && dest == 0)

/-- Whether a command is well formed (R233, R234). -/
def galFormed (op : Nat) (bs : List Byte) (c : GalCmd) : Bool :=
  !(c.flags / 128 % 2 == 1) && beNat (bs.drop 21) == 0 &&
  match op with
  | 1 | 3 => c.domain < 16384
  | 2 => c.domain < 16384 && destOk c.kind c.dest && (!(c.flags / 2 % 2 == 1) || (c.flags % 2 == 1 && c.kind == 0)) &&
      (c.kind == 0 || c.flow == 0xFFFF)
  | 4 | 7 => (c.domain < 16384 || c.domain == 0xFFFF) && (c.kind == 0xFF || destOk c.kind c.dest)
  | 5 => 1 ≤ c.count && c.count ≤ 16
  | 6 => true
  | _ => false

/-- Search (R234). -/
def galSearch (s : State) (m : Nat) (c : GalCmd) : State × Nat :=
  match s.galFind c.domain c.mac with
  | some (_, e) => (s.galResult m c.tag 0 0 [e], Abort.ok)
  | none => (s.galResult m c.tag 1 0 [], Abort.ok)

/-- The shadow with a static entry in place of its key's earlier one (R234). -/
def shadowPut (s : State) (e : GalEntry) : State :=
  s.setGal fun g => { g with shadow := (g.shadow.filter fun x => !(x.domain == e.domain && x.mac == e.mac)) ++ [e] }

/-- Insert (R234). -/
def galInsertCmd (s : State) (m : Nat) (c : GalCmd) : State × Nat :=
  let st := c.flags % 2 = 1
  let e : GalEntry := ⟨c.flags % 2 == 1, c.flags / 2 % 2 == 1, false, c.kind, c.dest, c.domain, c.mac,
    if c.kind = 0 then c.flow else 0xFFFF, 0, 0, 0⟩
  match s.galFind c.domain c.mac with
  | some (p, old) =>
    if ¬ c.flags / 4 % 2 = 1 then (s.galResult m c.tag 6 0 [], Abort.ok)
    else if old.pinned ∧ ¬ c.flags / 16 % 2 = 1 then (s, Abort.pinned)
    else if old.static ∧ ¬ st then (s.galResult m c.tag 6 0 [], Abort.ok)
    else if st ∧ ¬ old.static ∧ 65536 ≤ s.gal.shadow.length then (s, Abort.full)
    else
      let s := s.galSet p (some e)
      let s := if st then s.shadowPut e else s
      (s.galResult m c.tag 0 0 [], Abort.ok)
  | none =>
    if st ∧ 65536 ≤ s.gal.shadow.length then (s, Abort.full)
    else
      let (ok, t) := s.galInsert e
      if ok then ((if st then t.shadowPut e else t).galResult m c.tag 0 0 [], Abort.ok) else (t, Abort.full)

/-- Delete (R234). -/
def galDeleteCmd (s : State) (m : Nat) (c : GalCmd) : State × Nat :=
  match s.galFind c.domain c.mac with
  | none => (s.galResult m c.tag 1 0 [], Abort.ok)
  | some (p, e) =>
    if e.pinned ∧ ¬ c.flags / 16 % 2 = 1 then (s, Abort.pinned)
    else
      let s := s.galSet p none
      let s := if e.static then s.shadowDrop c.domain c.mac else s
      (s.galResult m c.tag 0 0 [], Abort.ok)

/-- Walk open (R235): one of four slots. -/
def galOpen (s : State) (m : Nat) (c : GalCmd) : State × Nat :=
  if 4 ≤ s.gal.walks.length then (s, Abort.full)
  else
    let k := s.gal.nextCursor
    let s := s.setGal fun g => { g with
      walks := g.walks ++ [⟨k, 0, c.domain, c.kind, c.dest, c.flags, [], false, false, s.now⟩]
      nextCursor := (k + 1) % 4294967296 }
    (s.galResult m c.tag 0 k [], Abort.ok)

/-- Next (R235): entries of the catch-up list, then in position order from the cursor; at the end of a pass that a full
list has marked, a second pass. -/
def galNext (s : State) (m : Nat) (c : GalCmd) : State × Nat :=
  match s.gal.walks.find? fun w => w.cursor == c.cursor with
  | none => (s.galResult m c.tag 5 c.cursor [], Abort.ok)
  | some w =>
    let put (w' : Option Walk) : State := s.setGal fun g => { g with
      walks := g.walks.filterMap fun x => if x.cursor = w.cursor then w' else some x }
    let caught := w.catchUp.take c.count
    let more := (s.galAll.filter fun x => w.pos ≤ x.1 && walkMatch w x.2).take (c.count - caught.length)
    let pos := match more.getLast? with | some x => x.1 + 1 | none => w.pos
    let es := caught ++ more.map fun x => x.2
    if es.isEmpty then
      if w.rescan then
        let again := (s.galAll.filter fun x => walkMatch w x.2).take c.count
        let pos := match again.getLast? with | some x => x.1 + 1 | none => 0
        if again.isEmpty then ((put none).galResult m c.tag 4 c.cursor [], Abort.ok)
        else ((put (some { w with pos := pos, rescan := false, second := true, lastNext := s.now })).galResult m c.tag 0
          c.cursor (again.map fun x => x.2), Abort.ok)
      else ((put none).galResult m c.tag 4 c.cursor [], Abort.ok)
    else
      ((put (some { w with pos := pos, catchUp := w.catchUp.drop c.count, lastNext := s.now })).galResult m c.tag 0
        c.cursor es, Abort.ok)

/-- Walk close (R235). -/
def galClose (s : State) (m : Nat) (c : GalCmd) : State × Nat :=
  if s.gal.walks.any fun w => w.cursor == c.cursor then
    ((s.setGal fun g => { g with walks := g.walks.filter fun w => w.cursor != c.cursor }).galResult m c.tag 0 c.cursor [],
      Abort.ok)
  else (s.galResult m c.tag 5 c.cursor [], Abort.ok)

/-- Flush (R236): one of eight places. -/
def galFlushCmd (s : State) (m : Nat) (c : GalCmd) : State × Nat :=
  if 8 ≤ s.gal.flushes.length then (s, Abort.full)
  else
    ((s.setGal fun g => { g with flushes := g.flushes ++
        [⟨c.domain, c.kind, c.dest, none, c.flags / 8 % 2 == 1, some c.tag⟩] }).galResult m c.tag 0 0 [], Abort.ok)

/-- GalleryCommand: the write's abort code and the result (R233). -/
def galleryEff : Eff := fun s m i bs =>
  let op := (bs.getD 1 0).toNat
  let c := galParse bs
  if i ≠ m.val then (s, Abort.claimed)
  else if ¬ galFormed op bs c then (s.setGal fun g => { g with abort := Abort.range, lastBy := m.val }, Abort.range)
  else
    let r := match op with
      | 1 => s.galSearch m c
      | 2 => s.galInsertCmd m c
      | 3 => s.galDeleteCmd m c
      | 4 => s.galOpen m c
      | 5 => s.galNext m c
      | 6 => s.galClose m c
      | _ => s.galFlushCmd m c
    (r.1.setGal fun g => { g with abort := r.2, lastBy := m.val }, r.2)

/-- The checks of Gallery writes: at most 1,024 flood flows in a domain (R219). -/
def galCheck (_ t : State) (o : Obj) (i : Nat) : Nat :=
  match o with
  | .flowFloodDomain =>
    let d := t.n .flowFloodDomain i
    if d ≠ 0xFFFF ∧ 1024 < (t.withNum .flowFloodDomain d).length then Abort.full else Abort.ok
  | .galleryAgeTime =>
    let v := t.n .galleryAgeTime 0
    if v = 0 ∨ (10 ≤ v ∧ v ≤ 1000000) then Abort.ok else Abort.range
  | _ => Abort.ok

/-- A write of 0 to DomainEnable queues a flush of the domain's dynamic entries (R220). -/
def galApply (s : State) (o : Obj) (i : Nat) : State :=
  match o with
  | .domainEnable =>
    if s.on .domainEnable i then s
    else s.setGal fun g => { g with flushes := g.flushes ++ [⟨i, 0xFF, 0, none, false, none⟩] }
  | _ => s

end State

open State

/-- R231: a dynamic entry at a position, while the ager runs (GalleryAgeTime not 0, AGE_EN 1, not in Glim). -/
def execAgerVisit (pos : Nat) (s : State) : Host.Outcome State Fault Refusal :=
  match s.galAt pos with
  | some e =>
    if e.static ∨ s.n .galleryAgeTime 0 = 0 ∨ ¬ s.bit Reg.galCtrl 2 ∨ ¬ s.galRuns ∨ s.boot.glimEntry.isSome then .next s
    else if e.hit then .next (s.galSet pos (some { e with moves := 0, hit := false, age := 0 }))
    else if e.age = 3 then .next ((s.galSet pos none).bump .agedOut 0 1)
    else .next (s.galSet pos (some { e with moves := 0, age := e.age + 1 }))
  | none => .next s

/-- R230: a freed way takes the oldest stash entry of which its bucket is a candidate. -/
def execStashMigration (pos : Fin 524288) (s : State) : Host.Outcome State Fault Refusal :=
  let half := pos.val / 262144
  let bucket := pos.val % 262144 / 4
  if (s.galAt pos).isSome ∨ ¬ s.galRuns then .next s
  else
    match s.gal.stash.find? fun p => match s.galAt p with
      | some e => galBucket half e.domain e.mac == bucket
      | none => false with
    | some p => .next (s.relocate p pos)
    | none => .next s

/-- R232: Lantern rewrites a lost static entry from its shadow; a dynamic entry learned for the key is overwritten. -/
def execStaticRestore (domain : BridgeDomain) (mac : Nat) (s : State) : Host.Outcome State Fault Refusal :=
  if s.boot.lanternUp ∧ ¬ s.ucie.headless ∧ s.gal.lost.contains (domain.val, mac) then
    let t := s.setGal fun g => { g with lost := g.lost.erase (domain.val, mac) }
    match s.gal.shadow.find? fun e => e.domain == domain.val && e.mac == mac with
    | some e =>
      match (match t.galFind domain mac with
        | some (p, _) => (true, t.galSet p (some e))
        | none => t.galInsert e) with
      | (true, t) => .next ((t.bump .staticRestores 0 1).setBit Reg.galStatus 14 true)
      | (false, t) => .next (t.setGal fun g => { g with lost := g.lost ++ [(domain.val, mac)] })
    | none => .next t
  else .next s

/-- R234: the search command. -/
def execGallerySearch (m : Master) (c : GalCmd) (s : State) : Host.Outcome State Fault Refusal :=
  .next (s.hostWrite m .galleryCommand m (galWord 1 c) galleryEff)

/-- R234: the insert command. -/
def execGalleryInsert (m : Master) (c : GalCmd) (s : State) : Host.Outcome State Fault Refusal :=
  .next (s.hostWrite m .galleryCommand m (galWord 2 c) galleryEff)

/-- R234: the delete command. -/
def execGalleryDelete (m : Master) (c : GalCmd) (s : State) : Host.Outcome State Fault Refusal :=
  .next (s.hostWrite m .galleryCommand m (galWord 3 c) galleryEff)

/-- R235: the walk open command. -/
def execGalleryWalkOpen (m : Master) (c : GalCmd) (s : State) : Host.Outcome State Fault Refusal :=
  .next (s.hostWrite m .galleryCommand m (galWord 4 c) galleryEff)

/-- R235: the next command. -/
def execGalleryNext (m : Master) (c : GalCmd) (s : State) : Host.Outcome State Fault Refusal :=
  .next (s.hostWrite m .galleryCommand m (galWord 5 c) galleryEff)

/-- R235: the walk close command. -/
def execGalleryWalkClose (m : Master) (c : GalCmd) (s : State) : Host.Outcome State Fault Refusal :=
  .next (s.hostWrite m .galleryCommand m (galWord 6 c) galleryEff)

/-- R236: the flush command. -/
def execGalleryFlush (m : Master) (c : GalCmd) (s : State) : Host.Outcome State Fault Refusal :=
  .next (s.hostWrite m .galleryCommand m (galWord 7 c) galleryEff)

/-- R235: a walk with no next for 10 s is closed. -/
def execWalkTimeout (cursor : Nat) (s : State) : Host.Outcome State Fault Refusal :=
  .next (s.setGal fun g => { g with
    walks := g.walks.filter fun w => !(w.cursor == cursor && decide (w.lastNext + 10 * Tm.s ≤ s.now)) })

/-- R236: the first queued flush starts: every matching entry is deleted. -/
def execFlushStart (s : State) : Host.Outcome State Fault Refusal :=
  match s.gal.flushes with
  | f :: _ =>
    if s.gal.flushing then .next s
    else
      let hit := s.galAll.filter fun x => flushHits f x.2
      let s := hit.foldl (fun t x => t.galSet x.1 none) s
      let s := (hit.filter fun x => x.2.static).foldl (fun t x => t.shadowDrop x.2.domain x.2.mac) s
      .next (s.setGal fun g => { g with flushing := true })
  | [] => .next s

/-- R236: the sweep ends; the completion event carries the tag of a command's flush. -/
def execFlushComplete (s : State) : Host.Outcome State Fault Refusal :=
  match s.gal.flushes with
  | f :: rest =>
    if s.gal.flushing then
      let s := s.setGal fun g => { g with flushing := false, flushes := rest }
      .next (s.raiseDone .galleryFlushQueue 0 (match f.tag with | some k => beBytes 1 k | none => []))
    else .next s
  | [] => .next s

end Sys2Proof.Machine
end

