-- ==== Sys2Proof/Machine/Classify.lean ====
section
/-!
DEFINITION. Classification and load spreading (R240 to R262): key fields and profiles, rules and their actions, the
fragment-follow table, and indirection.
-/

namespace Sys2Proof.Machine

/-- Widths of the key fields (R242). -/
def fieldWidth (k : Nat) : Nat :=
  [20, 48, 48, 12, 4, 12, 16, 32, 32, 128, 128, 8, 6, 16, 16, 16].getD k 0

/-- An address cut to its prefix (R242 note 2). -/
def cutPrefix (w keep v : Nat) : Nat := v / 2 ^ (w - keep) * 2 ^ (w - keep)

/-- Field 0: where the frame came from. -/
def ingressField : Ingress → Nat
  | .flow f => f
  | .uplink p => 262144 + p
  | .passage q => 524288 + q

/-- A key field of a frame, none where it is absent and the table gives it no value (R242). -/
def fieldOf (g : Ingress) (h : FrameHdr) (v4 v6 : Nat) (k : Nat) : Option Nat :=
  match k with
  | 0 => some (ingressField g)
  | 1 => some h.dmac
  | 2 => some h.smac
  | 3 => some (match h.outer with | some (v, _) => v | none => 0xFFF)
  | 4 => some (match h.outer with | some (_, p) => p | none => 0)
  | 5 => some (h.inner.getD 0xFFF)
  | 6 => some h.etype
  | 7 => h.ip.bind fun i => if i.v6 then none else some (cutPrefix 32 v4 i.src)
  | 8 => h.ip.bind fun i => if i.v6 then none else some (cutPrefix 32 v4 i.dst)
  | 9 => h.ip.bind fun i => if i.v6 then some (cutPrefix 128 v6 i.src) else none
  | 10 => h.ip.bind fun i => if i.v6 then some (cutPrefix 128 v6 i.dst) else none
  | 11 => h.ip.map fun i => i.proto
  | 12 => h.ip.map fun i => i.dscp
  | 13 => h.ip.bind fun i => i.ports.map fun p => p.1
  | 14 => h.ip.bind fun i => i.ports.map fun p => p.2
  | _ => some (match g with | .flow f => f | _ => 0xFFFF)

/-- The bits that the selected fields make, most significant first, with their number. -/
def fieldBits (mask : Nat) (f : Nat → Nat) : Nat × Nat :=
  (List.range 16).foldl (fun a k =>
    if mask / 2 ^ k % 2 = 1 then (a.1 * 2 ^ fieldWidth k + f k % 2 ^ fieldWidth k, a.2 + fieldWidth k) else a) (0, 0)

/-- The width of a profile's key. -/
def maskWidth (mask : Nat) : Nat := (fieldBits mask fun _ => 0).2

/-- The priority code point and drop eligibility of the outer tag, as a class: its top three bits. -/
def pcpOf (h : FrameHdr) : Option Nat := h.outer.map fun t => t.2 / 2

namespace State

/-- A profile's key for a frame, as a number of 320 bits; none where the profile is skipped (R242, R243). -/
def profileKey (s : State) (p : Nat) (g : Ingress) (h : FrameHdr) : Option Nat :=
  let ty := s.n .classProfileFrameType p
  let okType := ty == 0 || (match h.ip with
    | none => ty == 3
    | some i => if i.v6 then ty == 2 else ty == 1)
  let mask := s.n .classProfileFields p
  let f := fieldOf g h (s.n .classProfileV4Prefix p) (s.n .classProfileV6Prefix p)
  if ¬ s.on .classProfileEnable p ∨ ¬ okType then none
  else if (List.range 16).any fun k => mask / 2 ^ k % 2 == 1 && (f k).isNone then none
  else
    let (v, w) := fieldBits mask fun k => (f k).getD 0
    some (v * 2 ^ (320 - w))

/-- The valid rule of a profile with a key, unless its entry has been lost to parity (R246, R247). -/
def ruleFor (s : State) (p key : Nat) : Option Nat :=
  (s.withNum .classRuleValid 1).find? fun r =>
    s.n .classRuleProfile r == p && beNat (s.oct .classRuleKey r) == key && !s.gal.lostRules.contains r

/-- The ingress group of a frame (R245). -/
def ingressGroup (s : State) : Ingress → Nat
  | .flow f => s.n .flowClassGroup f
  | .uplink p => s.n .portClassGroup p
  | .passage q => s.n .portClassGroup (16 + q)

/-- A group's profiles in order (R245). -/
def groupProfiles (s : State) (g : Nat) : List Nat :=
  (beBytes 4 (s.n .classGroupProfiles g)).map BitVec.toNat |>.filter fun p => p < 16

/-- The first hit in the group's order: profile and rule. -/
def firstHit (s : State) (g : Ingress) (h : FrameHdr) : Option (Nat × Nat) :=
  (s.groupProfiles (s.ingressGroup g)).findSome? fun p =>
    (s.profileKey p g h).bind fun k => (s.ruleFor p k).map fun r => (p, r)

/-- The defaults of an ingress group (R249); `dom` is the domain of a Passage frame's header (R339). -/
def groupDefaults (s : State) (g : Ingress) (h : FrameHdr) (dom : Option Nat) : Decision :=
  let i := s.ingressGroup g
  let fixed := s.n .classGroupClass i
  let cls := match s.n .classGroupClassSource i with
    | 1 => (pcpOf h).getD fixed
    | 2 => match h.ip with | some x => x.dscp / 8 | none => fixed
    | _ => fixed
  { forward := 0, domain := dom.getD (s.n .classGroupDomain i), cls := cls, colour := 0, policer := 0xFFFF,
    queue := 0xFFFF, flow := 0xFFFF, spread := 0xFF, group := 0, learn := true, discard := false, rule := none }

/-- A hit's action over the defaults (R248). -/
def applyRule (s : State) (r : Nat) (d : Decision) : Decision :=
  let keep (o : Obj) (k old : Nat) : Nat := if s.n o r = k then old else s.n o r
  { d with
    forward := s.n .classRuleForward r
    domain := keep .classRuleDomain 0xFFFF d.domain
    cls := keep .classRuleClass 0xFF d.cls
    colour := keep .classRuleColour 0xFF d.colour
    policer := s.n .classRulePolicer r
    queue := s.n .classRuleQueue r
    flow := s.n .classRuleFlow r
    spread := s.n .classRuleSpread r
    group := s.n .classRuleGroup r
    learn := s.n .classRuleLearn r == 0
    rule := some r }

/-- The profile stage: lookups, then the action or the miss defaults (R245, R248, R249). -/
def profileStage (s : State) (g : Ingress) (h : FrameHdr) (dom : Option Nat) : Decision × State :=
  let d := s.groupDefaults g h dom
  match s.firstHit g h with
  | some (p, r) => (s.applyRule r d, (s.bump .classRuleHits r 1).count 0x700 p 1)
  | none =>
    let i := s.ingressGroup g
    ({ d with discard := s.n .classGroupMissAction i == 1 }, (s.bump .classMisses 0 1).count 0x701 i 1)

/-! ### Fragments (R257, R258) -/

/-- The fragment key of an IP frame. -/
def fragKey (i : IpHdr) : FragKey := ⟨i.v6, i.src, i.dst, i.proto, i.ident⟩

/-- Whether a record is live. -/
def fragLive (s : State) (r : FragRec) : Bool := s.now < r.born + s.n .classFragLife 0 * Tm.ms

/-- The live and visible record of a key: visible 8 fabric cycles after its first fragment's lookup. -/
def fragFind (s : State) (k : FragKey) : Option FragRec :=
  s.frags.find? fun r => r.key == k && s.fragLive r && decide (r.born + 64 * Tm.ns / 10 ≤ s.now)

/-- A first fragment records its decision; a full table records nothing. -/
def fragRecord (s : State) (k : FragKey) (d : Decision) : State :=
  let rest := s.frags.filter fun r => s.fragLive r && r.key != k
  if 4096 ≤ rest.length then (s.bump .fragFollowFull 0 1).setBit Reg.clsStatus 9 true
  else { s with frags := rest ++ [⟨k, d, [], s.now⟩] }

/-- Whether a frame passes the profile stage with a decision: it is not discarded there (R249, R250). -/
def stagePasses (tree : Bool) (d : Decision) : Bool :=
  !d.discard && d.domain != 0xFFFF && d.forward != 5 && !(tree && (d.forward == 1 || d.forward == 3))

/-- Stages 2 and 3 of R240. -/
def classifyFrame (s : State) (g : Ingress) (h : FrameHdr) (dom : Option Nat) (tree : Bool) : Decision × State :=
  match h.ip with
  | none => s.profileStage g h dom
  | some i =>
    if ¬ s.on .classFragEnable 0 then s.profileStage g h dom
    else if i.offset ≠ 0 then
      match s.fragFind (fragKey i) with
      | some r => (r.outcome, s.bump .fragFollowHits 0 1)
      | none =>
        let (d, t) := s.profileStage g h dom
        (d, t.bump .fragFollowMisses 0 1)
    else
      let (d, t) := s.profileStage g h dom
      if i.more ∧ stagePasses tree d then (d, t.fragRecord (fragKey i) d) else (d, t)

/-! ### Indirection (R253 to R256) -/

/-- The hash index of a table for a frame's own fields. -/
def hashIndex (s : State) (t : Nat) (g : Ingress) (h : FrameHdr) : Nat :=
  let mask := s.n .indirHashFields t
  let (v, w) := fieldBits mask fun k => (fieldOf g h 32 128 k).getD (Config.absentField k)
  let bytes := ceilDiv w 8
  crc32c (s.n .classHashSeed 0) (beBytes bytes (v * 2 ^ (8 * bytes - w))) % 256

/-- The index that a frame uses in a table: that of its first fragment where the record holds one; a first fragment's
own index is recorded (R257). -/
def spreadIndex (s : State) (t : Nat) (g : Ingress) (h : FrameHdr) : Nat × State :=
  let own := s.hashIndex t g h
  match h.ip with
  | none => (own, s)
  | some i =>
    let k := fragKey i
    if ¬ s.on .classFragEnable 0 then (own, s)
    else if i.offset ≠ 0 then
      match (s.fragFind k).bind fun r => r.used.find? fun u => u.1 == t with
      | some u => (u.2, s)
      | none => (own, s)
    else if i.more then
      (own, { s with frags := s.frags.map fun r => if r.key = k then { r with used := r.used ++ [(t, own)] } else r })
    else (own, s)

/-- An entry of a table: KIND, PSG_PORT, DEVICE and MEMBER (R254). -/
structure IndirEntry where
  kind : Nat
  port : Nat
  device : Nat
  member : Nat

/-- Entry `k` of table `t`. -/
def indirEntry (s : State) (t k : Nat) : IndirEntry :=
  let w := beNat (((s.oct .indirEntries t).drop (4 * k)).take 4)
  ⟨w / 2 ^ 30, w / 2 ^ 28 % 4, w / 2 ^ 16 % 4096, w % 16⟩

/-- What an indirection is used for (R255). -/
inductive SpreadUse where
  | forward
  | uplink
  | bonded (t : Nat)

/-- An uplink port that is up (R311). -/
def uplinkUp (s : State) (p : Nat) : Bool := s.n .uplinkLinkState p == 2 && s.n .uplinkSnuffPhase p == 0

/-- A Passage port that is up (R333). -/
def psgUp (s : State) (q : Nat) : Bool :=
  (s.n .passagePortState q == 2 || s.n .passagePortState q == 3) && s.n .passageSnuffPhase q == 0

/-- Whether an entry is usable (R256). -/
def entryUsable (s : State) (u : SpreadUse) (t k : Nat) : Bool :=
  let e := s.indirEntry t k
  if s.gal.badIndir.contains (t * 256 + k) then false
  else if e.kind = 3 then true
  else match u with
    | .forward =>
      if e.kind = 0 then s.uplinkUp e.member
      else e.kind == 1 && s.psgUp e.port && s.n .passageReachable e.device / 2 ^ e.port % 2 == 1
    | .uplink => e.kind == 0 && s.uplinkUp e.member
    | .bonded term =>
      e.kind == 2 && s.laneState (s.chanOf term (e.member % 2)) == 2 && s.inService term (s.chanOf term (e.member % 2))

/-- INDIRECTION_LOOKUP: the member that a frame takes from a table, none where no entry is usable. -/
def spread (s : State) (u : SpreadUse) (t : Nat) (g : Ingress) (h : FrameHdr) : Option IndirEntry × State :=
  let (i, s) := s.spreadIndex t g h
  match ((List.range 256).map fun j => (i + j) % 256).find? fun k => s.entryUsable u t k with
  | some k =>
    if k = i then (some (s.indirEntry t k), s)
    else (some (s.indirEntry t k), (s.bump .spreadFailovers 0 1).setBit Reg.clsStatus 13 true)
  | none => (none, (s.bump .spreadNoMember 0 1).setBit Reg.clsStatus 12 true)

/-! ### The rules of writes (R243, R244, R246, R255, note 4 of R261) -/

/-- Valid rules: all, or of a profile. -/
def rulesUsed (t : State) : Nat := (t.withNum .classRuleValid 1).length

/-- ClassProfileRules. -/
def profileRules (t : State) (p : Nat) : Nat :=
  ((t.withNum .classRuleValid 1).filter fun r => t.n .classRuleProfile r == p).length

/-- Whether a valid rule stands well: its key within the profile's width, and no other valid rule of that profile and
key. -/
def ruleOk (t : State) (r : Nat) : Bool :=
  let p := t.n .classRuleProfile r
  let k := beNat (t.oct .classRuleKey r)
  let w := maskWidth (t.n .classProfileFields p)
  k % 2 ^ (320 - w) == 0 &&
  !((t.withNum .classRuleValid 1).any fun q => q != r && t.n .classRuleProfile q == p &&
      beNat (t.oct .classRuleKey q) == k)

/-- Whether every entry of a table is of KIND uplink port. -/
def allUplink (t : State) (tab : Nat) : Bool := (List.range 256).all fun k => (t.indirEntry tab k).kind == 0

/-- The checks of classification writes at their boundary. -/
def classCheck (s t : State) (o : Obj) (i : Nat) : Nat :=
  match o with
  | .classProfileFields =>
    if s.on .classProfileEnable i ∨ s.profileRules i ≠ 0 then Abort.notDark
    else
      let m := t.n .classProfileFields i
      if 320 < maskWidth m ∨ (m / 128 % 4 ≠ 0 ∧ m / 512 % 4 ≠ 0) then Abort.range else Abort.ok
  | .classProfileFrameType | .classProfileV4Prefix | .classProfileV6Prefix =>
    if s.on .classProfileEnable i ∨ s.profileRules i ≠ 0 then Abort.notDark else Abort.ok
  | .classRuleValid | .classRuleProfile | .classRuleKey =>
    if ¬ t.on .classRuleValid i then Abort.ok
    else if ¬ t.ruleOk i then Abort.range
    else if 117964 < t.rulesUsed ∧ ¬ Config.rulePlaced i t.rulesUsed then Abort.full
    else Abort.ok
  | .portSpreadTable =>
    let k := t.n .portSpreadTable i
    if k ≠ 0xFF ∧ ¬ t.allUplink k then Abort.range else Abort.ok
  | .indirEntries =>
    if ((List.range 16).any fun p => t.n .portSpreadTable p == i) ∧ ¬ t.allUplink i then Abort.range else Abort.ok
  | .flowSpreadPartner =>
    let f := t.n .flowSpreadPartner i
    if f = 0xFFFF then Abort.ok
    else
      let a := t.n .flowBondMode i
      let b := t.n .flowBondMode f
      if t.n .flowTerminal f = t.n .flowTerminal i ∧ t.bonded (t.n .flowTerminal i) ∧
          ((a = 0 ∧ b = 1) ∨ (a = 1 ∧ b = 0)) then Abort.ok else Abort.range
  | _ => Abort.ok

end State

open State

/-- R247: Lantern rewrites a rule lost to parity. -/
def execRuleRestore (rule : Fin 131072) (s : State) : Host.Outcome State Fault Refusal :=
  if s.boot.lanternUp ∧ ¬ s.ucie.headless ∧ s.gal.lostRules.contains rule.val then
    .next (((s.setGal fun g => { g with lostRules := g.lostRules.erase rule.val }).bump .classRuleRestores 0 1).setBit
      Reg.clsStatus 14 true)
  else .next s

/-- R257: records whose life has ended leave the table. -/
def execFragmentRecordExpiry (s : State) : Host.Outcome State Fault Refusal :=
  .next { s with frags := s.frags.filter fun r => s.fragLive r }

end Sys2Proof.Machine
end

