-- ==== Sys2Proof/Machine/Traffic.lean ====
section
/-!
DEFINITION. Queues, shapers and policers (R263 to R289): buckets and policers, queue admission, the two passes of the
scheduling tree, charging, transmit queues, sampling, and what a write of rates does.
-/

namespace Sys2Proof.Machine

/-! ### Numbers of queues and nodes -/

/-- The key of transmit queue `j`, and of the transit queue of a Passage port and class. -/
def txKey (j : Nat) : Nat := 65536 + j
/-- The transit queue of a Passage port and class (R342). -/
def transitKey (q c : Nat) : Nat := 131072 + q * 8 + c

/-- Node levels (R263): queue, terminal, channel group, tree, aggregate, transmit queue, port node. -/
inductive Level where
  | queue | terminal | cg | tree | aggregate | tx | port
  deriving DecidableEq, Repr

/-- The key of a node. -/
def nodeKey (l : Level) (i : Nat) : Nat :=
  (match l with | .queue => 0 | .terminal => 1 | .cg => 2 | .tree => 3 | .aggregate => 4 | .tx => 5 | .port => 6) * 65536 + i

/-- A node object of a level (R288 note 1). -/
def nodeObj (l : Level) (q t c r a x p : Obj) : Obj :=
  match l with
  | .queue => q
  | .terminal => t
  | .cg => c
  | .tree => r
  | .aggregate => a
  | .tx => x
  | .port => p

namespace Node

def priority (l : Level) : Obj := nodeObj l .queueNodePriority .terminalNodePriority .cgNodePriority .treeNodePriority
  .aggregateNodePriority .txQueueNodePriority .portNodePriority
def weight (l : Level) : Obj := nodeObj l .queueNodeWeight .terminalNodeWeight .cgNodeWeight .treeNodeWeight
  .aggregateNodeWeight .txQueueNodeWeight .portNodeWeight
def cRate (l : Level) : Obj := nodeObj l .queueNodeCommittedRate .terminalNodeCommittedRate .cgNodeCommittedRate
  .treeNodeCommittedRate .aggregateNodeCommittedRate .txQueueNodeCommittedRate .portNodeCommittedRate
def cBurst (l : Level) : Obj := nodeObj l .queueNodeCommittedBurst .terminalNodeCommittedBurst .cgNodeCommittedBurst
  .treeNodeCommittedBurst .aggregateNodeCommittedBurst .txQueueNodeCommittedBurst .portNodeCommittedBurst
def pRate (l : Level) : Obj := nodeObj l .queueNodePeakRate .terminalNodePeakRate .cgNodePeakRate .treeNodePeakRate
  .aggregateNodePeakRate .txQueueNodePeakRate .portNodePeakRate
def pBurst (l : Level) : Obj := nodeObj l .queueNodePeakBurst .terminalNodePeakBurst .cgNodePeakBurst
  .treeNodePeakBurst .aggregateNodePeakBurst .txQueueNodePeakBurst .portNodePeakBurst
def profile (l : Level) : Obj := nodeObj l .queueNodeOverheadProfile .terminalNodeOverheadProfile .cgNodeOverheadProfile
  .treeNodeOverheadProfile .aggregateNodeOverheadProfile .txQueueNodeOverheadProfile .portNodeOverheadProfile
def reset (l : Level) : Obj := nodeObj l .queueNodeTokenReset .terminalNodeTokenReset .cgNodeTokenReset
  .treeNodeTokenReset .aggregateNodeTokenReset .txQueueNodeTokenReset .portNodeTokenReset
def bytesSent (l : Level) : Obj := nodeObj l .queueNodeBytesSent .terminalNodeBytesSent .cgNodeBytesSent
  .treeNodeBytesSent .aggregateNodeBytesSent .txQueueNodeBytesSent .portNodeBytesSent
def framesSent (l : Level) : Obj := nodeObj l .queueNodeFramesSent .terminalNodeFramesSent .cgNodeFramesSent
  .treeNodeFramesSent .aggregateNodeFramesSent .txQueueNodeFramesSent .portNodeFramesSent

end Node

/-- One byte in the units of a bucket. -/
def byteUnits : Int := 1000000000 * 4294967296

namespace State

/-! ### Buckets (R268, R276) -/

/-- A full node. -/
def nodeFull (s : State) (l : Level) (i : Nat) : NodeSt :=
  ⟨s.num (Node.cBurst l) i * byteUnits, s.num (Node.pBurst l) i * byteUnits, s.now, 0, 0, []⟩

/-- A node with its tokens accrued to now at rate / 8 bytes per second, up to the burst. -/
def node (s : State) (l : Level) (i : Nat) : NodeSt :=
  match tabGet (fun _ => none) s.tm.nodes (nodeKey l i) with
  | none => s.nodeFull l i
  | some n =>
    let dt : Int := (s.now - n.at_ : Nat)
    { n with
      committed := min (s.num (Node.cBurst l) i * byteUnits) (n.committed + dt * s.num (Node.cRate l) i * 125)
      peak := min (s.num (Node.pBurst l) i * byteUnits) (n.peak + dt * s.num (Node.pRate l) i * 125)
      at_ := s.now }

/-- A node written. -/
def setNode (s : State) (l : Level) (i : Nat) (n : NodeSt) : State :=
  s.setTm fun m => { m with nodes := tabPut (fun _ => none) m.nodes (nodeKey l i) (some n) }

/-- SHAPE_EN at 0 makes every bucket permit (R289). -/
def shaping (s : State) : Bool := s.bit Reg.tmCtrl 3

/-- The peak bucket permits (R268). -/
def peakOk (s : State) (l : Level) (i : Nat) : Bool :=
  !s.shaping || s.n (Node.pRate l) i == 0 || decide (0 < (s.node l i).peak)

/-- The committed bucket permits and the committed rate is not 0. -/
def committedOk (s : State) (l : Level) (i : Nat) : Bool :=
  s.n (Node.cRate l) i != 0 && (!s.shaping || decide (0 < (s.node l i).committed))

/-- The counted length of a frame at a node (R279). -/
def counted (s : State) (profile len : Nat) : Nat := (max 1 ((len : Int) + s.num .overheadBytes profile)).toNat

/-- A frame charged at a node: the peak bucket when shaped, and the committed one when its parent chose the node in the
committed pass (R271). -/
def chargeNode (s : State) (l : Level) (i len : Nat) (committed : Bool) : State :=
  let n := s.node l i
  let c : Int := s.counted (s.n (Node.profile l) i) len * byteUnits
  let n := { n with
    peak := if s.n (Node.pRate l) i = 0 then n.peak else n.peak - c
    committed := if committed then n.committed - c else n.committed }
  ((s.setNode l i n).bump (Node.bytesSent l) i len).bump (Node.framesSent l) i 1

/-- TOKEN_RESET (R278): one bucket of a node set to its burst, or to zero. -/
def tokenReset (s : State) (l : Level) (i : Nat) (peak zero : Bool) : State :=
  let n := s.node l i
  let v (o : Obj) : Int := if zero then 0 else s.num o i * byteUnits
  s.setNode l i (if peak then { n with peak := v (Node.pBurst l) } else { n with committed := v (Node.cBurst l) })

/-- NodeCommittedTokens and NodePeakTokens, in bytes. -/
def tokens (s : State) (l : Level) (i : Nat) (peak : Bool) : Int :=
  (if peak then (s.node l i).peak else (s.node l i).committed) / byteUnits

/-! ### Policers (R280 to R282) -/

/-- A policer with its buckets accrued to now. -/
def policer (s : State) (p : Nat) : PolicerSt :=
  let cb := s.num .policerCbs p * byteUnits
  let pb := s.num .policerPbs p * byteUnits
  match tabGet (fun _ => none) s.tm.policers p with
  | none => ⟨cb, pb, s.now⟩
  | some q =>
    let dt : Int := (s.now - q.at_ : Nat)
    ⟨min cb (q.c + dt * s.num .policerCir p * 125), min pb (q.p + dt * s.num .policerPir p * 125), s.now⟩

/-- A policer written. -/
def setPolicer (s : State) (p : Nat) (q : PolicerSt) : State :=
  s.setTm fun m => { m with policers := tabPut (fun _ => none) m.policers p (some q) }

/-- The two-rate three-colour marker of RFC 2698: the result's colour and the buckets after it. -/
def marker (aware : Bool) (colour : Nat) (b : Int) (q : PolicerSt) : Nat × PolicerSt :=
  let pre := if aware then colour else 0
  if pre = 2 ∨ q.p < b then (2, q)
  else if pre = 1 ∨ q.c < b then (1, { q with p := q.p - b })
  else (0, { q with p := q.p - b, c := q.c - b })

/-- POLICING: the colour of a metered frame, or none where it is discarded; `POLICE_EN` at 0 keeps the colour. -/
def police (s : State) (p colour len : Nat) : Option Nat × State :=
  if p = 0xFFFF ∨ ¬ s.bit Reg.tmCtrl 2 then (some colour, s)
  else
    let b : Int := s.counted (s.n .policerOverheadProfile p) len * byteUnits
    let (c, q) := marker (s.on .policerColourAware p) colour b (s.policer p)
    let s := s.setPolicer p q
    let s := match c with
      | 0 => (s.bump .greenFrames p 1).bump .greenBytes p len
      | 1 => (s.bump .yellowFrames p 1).bump .yellowBytes p len
      | _ => (s.bump .redFrames p 1).bump .redBytes p len
    if c = 2 ∧ s.n .policerRedAction p = 0 then (none, s) else (some c, s)

/-! ### Queues -/

/-- The frames of a queue, the head first. -/
def queue (s : State) (k : Nat) : List QDesc := tabGet (fun _ => []) s.tm.queues k

/-- A queue replaced. -/
def setQueue (s : State) (k : Nat) (q : List QDesc) : State :=
  s.setTm fun m => { m with queues := tabPut (fun _ => []) m.queues k q }

/-- Depth: the sum of L (R283). -/
def depth (s : State) (k : Nat) : Nat := ((s.queue k).map fun d => d.len).foldl (· + ·) 0

/-- A downstream or transmit queue's object. -/
def queueObj (k : Nat) (a b : Obj) : Obj × Nat := if k < 65536 then (a, k) else (b, k - 65536)

/-- Whether a queue's limit for the colour refuses a frame (R283). -/
def tailDrops (s : State) (k colour len : Nat) : Bool :=
  let o := match colour with
    | 0 => queueObj k .queueMaxBytes .txQueueMaxBytes
    | 1 => queueObj k .queueMaxBytesYellow .txQueueMaxBytesYellow
    | _ => queueObj k .queueMaxBytesRed .txQueueMaxBytesRed
  let lim := s.n o.1 o.2
  lim != 0 && lim < s.depth k + len

/-- A tail drop counted. -/
def tailDrop (s : State) (k : Nat) : State :=
  let o := queueObj k .queueTailDrops .txQueueTailDrops
  ((s.bump o.1 o.2 1).setBit Reg.tmStatus 2 true).count 0x802 0 1

/-- The Sump requester of a queue; transit queues use PassageTransitRequester (R342). -/
def requester (s : State) (k : Nat) : Nat :=
  if 131072 ≤ k then s.n .passageTransitRequester 0
  else
    let o := queueObj k .queueRequester .txQueueRequester
    s.n o.1 o.2

/-- OMCI messages of a terminal. -/
def omci (s : State) (t : Nat) : List OmciMsg := tabGet (fun _ => []) s.tm.omci t

/-- A terminal's OMCI path replaced. -/
def setOmci (s : State) (t : Nat) (q : List OmciMsg) : State :=
  s.setTm fun m => { m with omci := tabPut (fun _ => []) m.omci t q }

/-! ### Terminals that hold frames back (R59, R123, R125, R273) -/

/-- Whether the terminal's downstream frames are held: Sleep outside aware periods, Watch and Alerted. -/
def heldBack (s : State) (t : Nat) : Bool :=
  match s.n .terminalPowerState t with
  | 3 => !(s.term t).aware
  | 4 => true
  | 5 => true
  | _ => false

/-- The frame length of an OMCI message (log entry 74). -/
def omciLen (m : OmciMsg) : Nat := m.bytes.length + 4

/-- Bytes held for a terminal: the sum of L of its queues and of its OMCI messages (R273). -/
def heldBytes (s : State) (t : Nat) : Nat :=
  ((s.queuesOf t).map fun q => s.depth q).foldl (· + ·) 0 + ((s.omci t).map omciLen).foldl (· + ·) 0

/-- Sleep_Allow queued by Lantern on the channels where the terminal is in service, while Lantern is available (R127). -/
def sleepAllow (s : State) (t : Nat) (on_ : Bool) : State :=
  if s.boot.lanternUp ∧ ¬ s.ucie.headless then
    ((s.chansOf t).filter fun c => s.inService t c).foldl (fun u c =>
      u.ploamLan c .sleepAllow t (s.n .terminalOnuIdAssigned t) [if on_ then 1 else 0]) s
  else s

/-- WAKE_CAUSE (R125): Doze, Sleep or Watch becomes Alerted, and Sleep_Allow(OFF) is sent; so does a terminal that a
Sleep_Request of the same frame has taken out of them (R126). Nothing happens while Lantern is unavailable (R127). -/
def wake (s : State) (t : Nat) : State :=
  if s.avail then
    let was : Nat := match (s.term t).reqFrom with
      | some (f, p) => if f = s.frameNo ∧ s.n .terminalPowerState t ≤ 1 then p else 0
      | none => 0
    let low (p : Nat) : Bool := p == 2 || p == 3 || p == 4
    let s := s.setTerm t { s.term t with wakeFrame := some s.frameNo }
    if low (s.n .terminalPowerState t) || low was then (s.put .terminalPowerState t 5).sleepAllow t false else s
  else s

/-- The wake causes of an arriving frame: its priority, and the held bytes. -/
def wakeOnArrival (s : State) (t prio : Nat) : State :=
  if s.n .terminalWakePriority t ≤ prio ∨ (s.heldBack t ∧ s.n .terminalSleepHoldBytes t < s.heldBytes t) then s.wake t
  else s

/-! ### The tree (R263 to R275) -/

/-- Whether a channel-group node serves a terminal's channel group (R264). -/
def cgServes (s : State) (i t : Nat) : Bool :=
  s.chanA t != 255 && s.n .cgNodeChannel i == s.chanA t && s.on .cgNodeBonded i == s.bonded t

/-- The parent of a terminal node (R265). -/
def parentOf (s : State) (t : Nat) : Nat :=
  let p := s.n .terminalNodeParent t
  if p ≠ 0xFF then p else if s.bonded t then 32 + s.chanA t / 2 else s.chanA t

/-- Whether a channel-group node is offered to requests from a channel: it serves a group that contains the channel,
which sends frames; a bonded node's pair is in TreePairMode 2 and holds fewer than 24,576 waiting bytes of fragments
(R264, R274, R275). -/
def cgOffered (s : State) (i ch waiting : Nat) : Bool :=
  let c := s.n .cgNodeChannel i
  if s.on .cgNodeBonded i then
    c == ch / 2 * 2 && s.pairMode ch == 2 && s.sending ch && waiting < 24576
  else c == ch && s.sending ch

/-- Terminals that have something to send. -/
def busyTerminals (s : State) : List Nat :=
  let q := (s.tm.queues.filter fun p => p.1 < 65536).map fun p => s.n .queueTerminal p.1
  (q ++ s.tm.omci.map fun p => p.1).eraseDups.filter fun t => t < 8192

/-- The terminal's queues that hold frames. -/
def busyQueues (s : State) (t : Nat) : List Nat :=
  (s.tm.queues.filter fun p => p.1 < 65536 && s.n .queueTerminal p.1 == t).map fun p => p.1

/-- A queue is ready (R268, R304): enabled and not Dark, its head neither held for a key nor of a pending verdict, and
its peak bucket permits. -/
def queueReady (s : State) (q : Nat) : Bool :=
  match s.queue q with
  | [] => false
  | d :: _ => s.n .queueSnuffPhase q != 3 && d.held.isNone && s.verdict d.cell != 0 && s.peakOk .queue q

/-- A terminal node is ready (R268, R272, R273). -/
def terminalReady (s : State) (t : Nat) : Bool :=
  !s.heldBack t && (!(s.omci t).isEmpty || (s.peakOk .terminal t && (s.busyQueues t).any s.queueReady))

/-- The terminals below a channel-group node that are ready. -/
def cgChildren (s : State) (i : Nat) : List Nat :=
  (s.busyTerminals.filter fun t => s.parentOf t == i && s.cgServes i t && s.terminalReady t)

/-- A channel-group node is ready for a channel's request. -/
def cgReady (s : State) (i ch waiting : Nat) : Bool :=
  s.cgOffered i ch waiting && s.peakOk .cg i && !(s.cgChildren i).isEmpty

/-- Deficit round robin among the children of one pass and priority (R270): the child in turn while its deficit is
above zero, else the next in rising order that a turn's quantum brings above zero. -/
def drr (s : State) (l : Level) (excess : Bool) (turn : Option Nat) (cs : List Nat) : Nat → Option (Nat × State)
  | 0 => none
  | fuel + 1 =>
    let deficit (n : NodeSt) : Int := if excess then n.defE else n.defC
    let goes (c : Nat) (t : State) : Option (Nat × State) :=
      if 0 < deficit (t.node l c) then some (c, t) else none
    match (turn.filter fun c => cs.contains c).bind fun c => goes c s with
    | some r => some r
    | none =>
      let after := match turn with
        | some c => (cs.filter fun x => c < x) ++ cs.filter fun x => x ≤ c
        | none => cs
      match after with
      | [] => none
      | c :: _ =>
        let n := s.node l c
        let q : Int := (s.n (Node.weight l) c : Int) * 256
        let t := s.setNode l c (if excess then { n with defE := n.defE + q } else { n with defC := n.defC + q })
        drr t l excess (some c) cs fuel

/-- A parent's choice among its ready children: committed pass, then excess pass, each from priority 7 down (R269). The
answer names the child, its pass, and the state with deficits and turn. -/
def choose (s : State) (pl : Level) (pi : Nat) (l : Level) (ready : List Nat) : Option (Nat × Bool × State) :=
  let pick (committed : Bool) (prio : Nat) : Option (Nat × Bool × State) :=
    let cs := ready.filter fun c => s.committedOk l c == committed && s.n (Node.priority l) c == prio
    if cs.isEmpty then none
    else
      let key := (if committed then 0 else 8) + prio
      let turn := ((s.node pl pi).turns.find? fun x => x.1 == key).map fun x => x.2
      (s.drr l (!committed) turn cs (64 * (cs.length + 1))).map fun r =>
        let n := r.2.node pl pi
        (r.1, committed, r.2.setNode pl pi { n with turns := (key, r.1) :: n.turns.filter fun x => x.1 != key })
  let prios := [7, 6, 5, 4, 3, 2, 1, 0]
  (prios.findSome? (pick true)).orElse fun _ => prios.findSome? (pick false)

/-- A child's deficit after a selection: the counted length subtracted in its pass (R270). -/
def spend (s : State) (l : Level) (i len : Nat) (committed : Bool) : State :=
  let n := s.node l i
  let c : Int := s.counted (s.n (Node.profile l) i) len
  s.setNode l i (if committed then { n with defC := n.defC - c } else { n with defE := n.defE - c })

/-- A child that has stopped being ready keeps a negative deficit and loses a positive one (R270). -/
def settle (s : State) (l : Level) (i : Nat) (ready : Bool) : State :=
  if ready then s
  else
    let n := s.node l i
    s.setNode l i { n with defC := min 0 n.defC, defE := min 0 n.defE }

/-- Queues and terminal nodes that have stopped being ready since the last choice lose a positive deficit (R270). -/
def settleIdle (s : State) : State :=
  s.tm.nodes.foldl (fun u x =>
    match x.2 with
    | none => u
    | some n =>
      if n.defC ≤ 0 ∧ n.defE ≤ 0 then u
      else if x.1 < 65536 then u.settle .queue x.1 (u.queueReady x.1)
      else if x.1 < 131072 then u.settle .terminal (x.1 - 65536) (u.terminalReady (x.1 - 65536))
      else u) s

/-- What a framer's request selects: a terminal's OMCI message, or a queue's head frame, with the passes in which each
node of the path was chosen. -/
inductive Pick where
  | omci (t cg : Nat) (cCg cTree : Bool)
  | frame (q t cg : Nat) (cQ cT cCg cTree : Bool)
  deriving DecidableEq, Repr

/-- The walk down the tree for a request from a channel (R274): device aggregate, tree node, channel-group node,
terminal node, queue. -/
def select (s : State) (ch waiting : Nat) : Option (Pick × State) :=
  let tree := s.treeOf ch
  if ¬ s.peakOk .aggregate 0 ∨ ¬ s.peakOk .tree tree then none
  else
    let cgs := (List.range 96).filter fun i => s.cgReady i ch waiting
    if cgs.isEmpty then none
    else
      (s.choose .aggregate 0 .tree [tree]).bind fun (_, cTree, s) =>
      (s.choose .tree tree .cg cgs).bind fun (cg, cCg, s) =>
      (s.choose .cg cg .terminal (s.cgChildren cg)).bind fun (t, cT, s) =>
      if ¬ (s.omci t).isEmpty then some (.omci t cg cCg cTree, s)
      else (s.choose .terminal t .queue ((s.busyQueues t).filter s.queueReady)).map fun (q, cQ, s) =>
        (.frame q t cg cQ cT cCg cTree, s)

/-- A selection charged at every node of its path, with deficits (R270 to R272); OMCI is not charged at the terminal
node. -/
def chargePath (s : State) (p : Pick) (ch len : Nat) : State :=
  let tree := s.treeOf ch
  let up (s : State) (cg : Nat) (cCg cTree : Bool) : State :=
    let s := ((s.spend .cg cg len cCg).chargeNode .cg cg len cCg)
    let s := ((s.spend .tree tree len cTree).chargeNode .tree tree len cTree)
    s.chargeNode .aggregate 0 len false
  match p with
  | .omci t cg cCg cTree =>
    let s := s.spend .terminal t len (s.committedOk .terminal t)
    up s cg cCg cTree
  | .frame q t cg cQ cT cCg cTree =>
    let s := (s.spend .queue q len cQ).chargeNode .queue q len cQ
    let s := (s.spend .terminal t len cT).chargeNode .terminal t len cT
    up s cg cCg cTree

/-! ### Sampling (R285) -/

/-- One queue sampled: depth, head delay at 100 ns resolution, the largest of each, and the delay alarm. -/
def sampleQueue (s : State) (k : Nat) : State :=
  let o (a b : Obj) := queueObj k a b
  let put (t : State) (x : Obj × Nat) (v : Nat) : State := t.put x.1 x.2 v
  let get (t : State) (x : Obj × Nat) : Nat := t.n x.1 x.2
  let dark := k < 65536 && s.n .queueSnuffPhase k == 3
  let dep := if dark then 0 else min 0xFFFFFFFF (s.depth k)
  let delay := if dark then 0 else match s.queue k with
    | d :: _ => min 0xFFFFFFFF ((s.wick - d.at_) / (100 * Tm.ns) * 100)
    | [] => 0
  let s := put s (o .queueDepthBytes .txQueueDepthBytes) dep
  let s := put s (o .queueHeadDelay .txQueueHeadDelay) delay
  let s := put s (o .queueDepthMax .txQueueDepthMax) (max dep (get s (o .queueDepthMax .txQueueDepthMax)))
  let s := put s (o .queueDelayMax .txQueueDelayMax) (max delay (get s (o .queueDelayMax .txQueueDelayMax)))
  let lim := get s (o .queueDelayAlarm .txQueueDelayAlarm)
  if lim = 0 ∨ delay ≤ lim * 1000 then
    s.setTm fun m => { m with above := m.above.erase k, alarmed := m.alarmed.erase k }
  else if ¬ s.tm.above.contains k then s.setTm fun m => { m with above := m.above ++ [k] }
  else if s.tm.alarmed.contains k then s
  else
    let s := s.setTm fun m => { m with alarmed := m.alarmed ++ [k] }
    let n := if k < 65536 then k else 32768 + (k - 65536)
    let s := (s.setBit Reg.tmStatus 1 true).putReg Reg.tmAlarmQ (2147483648 + n)
    let x := o .queueHeadDelay .txQueueHeadDelay
    if s.limitFree 0x2002 100 then
      (s.limitTake 0x2002).raise 2 x.1 x.2 (beBytes 4 lim ++ beBytes 4 delay)
    else s

/-- The queues that a sweep changes: those that hold frames, and those whose last sample was not zero. -/
def sampled (s : State) : List Nat :=
  ((s.tm.queues.map fun p => p.1) ++ s.listed .queueDepthBytes ++ s.listed .queueHeadDelay ++
    (s.listed .txQueueDepthBytes).map txKey ++ (s.listed .txQueueHeadDelay).map txKey ++ s.tm.above).eraseDups.filter
      fun k => k < 131072

/-! ### The rules of writes (R264 to R266, R276, R281) -/

/-- 0, or 8 to 100,000,000 kb/s. -/
def rateOk (v : Nat) : Bool := v == 0 || (8 ≤ v && v ≤ 100000000)

/-- A node's rates and bursts as a write would leave them. -/
def nodeRates (t : State) (l : Level) (i : Nat) : Nat :=
  let c := t.n (Node.cRate l) i
  let p := t.n (Node.pRate l) i
  if ¬ rateOk c ∨ ¬ rateOk p then Abort.range
  else if c ≠ 0 ∧ p ≠ 0 ∧ p < c then Abort.range
  else if c ≠ 0 ∧ (l = .aggregate ∨ l = .tx ∨ l = .port) then Abort.range
  else Abort.ok

/-- The level whose rate or burst an object is, and whether it is of the peak bucket. -/
def rateLevel (o : Obj) : Option (Level × Bool) :=
  ([.queue, .terminal, .cg, .tree, .aggregate, .tx, .port] : List Level).findSome? fun l =>
    if o = Node.cRate l ∨ o = Node.cBurst l then some (l, false)
    else if o = Node.pRate l ∨ o = Node.pBurst l then some (l, true)
    else none

/-- The checks of scheduling writes at their boundary. -/
def trafficCheck (s t : State) (o : Obj) (i : Nat) : Nat :=
  match rateLevel o with
  | some (l, _) => t.nodeRates l i
  | none =>
    match o with
    | .cgNodeChannel | .cgNodeBonded =>
      if (s.listed .terminalNodeParent).any fun x => s.n .terminalNodeParent x == i && !s.dark? .terminalSnuffPhase x then
        Abort.notDark
      else if t.on .cgNodeBonded i ∧ t.n .cgNodeChannel i ≠ 0xFF ∧ t.n .cgNodeChannel i % 2 = 1 then Abort.range
      else Abort.ok
    | .terminalNodeParent =>
      if ¬ s.dark? .terminalSnuffPhase i then Abort.notDark
      else if t.n .terminalNodeParent i ≠ 0xFF ∧ ¬ t.cgServes (t.n .terminalNodeParent i) i then Abort.range
      else Abort.ok
    | .queueTerminal => if s.dark? .queueSnuffPhase i then Abort.ok else Abort.notDark
    | .flowQueue =>
      let q := t.n .flowQueue i
      if q ≠ 0xFFFF ∧ t.n .queueTerminal q ≠ t.n .flowTerminal i then Abort.range else Abort.ok
    | .queueEnable =>
      if t.on .queueEnable i ∧ (s.n .queueSnuffPhase i = 1 ∨ s.n .queueSnuffPhase i = 2) then Abort.inSnuff else Abort.ok
    | .policerCir | .policerPir | .policerCbs | .policerPbs =>
      let c := t.n .policerCir i
      let p := t.n .policerPir i
      if rateOk c ∧ 8 ≤ p ∧ p ≤ 100000000 ∧ c ≤ p then Abort.ok else Abort.range
    | _ => Abort.ok

/-- What scheduling writes do beyond storing: token resets (R278), and both deficits cleared by a new priority (R270). -/
def trafficApply (s : State) (o : Obj) (i : Nat) : State :=
  match rateLevel o with
  | some (l, peak) => s.tokenReset l i peak (s.on (Node.reset l) i)
  | none =>
    match ([.queue, .terminal, .cg, .tree] : List Level).find? fun l => o = Node.priority l with
    | some l => s.setNode l i { s.node l i with defC := 0, defE := 0 }
    | none =>
      match o with
      | .policerCir | .policerCbs =>
        s.setPolicer i { s.policer i with c := if s.on .policerTokenReset i then 0 else s.num .policerCbs i * byteUnits }
      | .policerPir | .policerPbs =>
        s.setPolicer i { s.policer i with p := if s.on .policerTokenReset i then 0 else s.num .policerPbs i * byteUnits }
      | _ => s

end State

open State

/-- R285: the sweep that starts at a multiple of 10 ms of Wick time samples every queue, while SAMPLE_EN is 1. -/
def execSampleSweep (s : State) : Host.Outcome State Fault Refusal :=
  if s.bit Reg.tmCtrl 1 ∧ s.fabricRuns ∧ s.wick % (10 * Tm.ms) = 0 then
    .next ((s.sampled.foldl (fun t k => t.sampleQueue k) s).bump .sampleSweeps 0 1)
  else .next s

/-- R285: a read of QueueDepthMax or QueueDelayMax returns the largest sample and clears it. -/
def execQueueMaxRead (m : Master) (delay : Bool) (q : Queue) (s : State) : Host.Outcome State Fault Refusal :=
  let o : Obj := if delay then .queueDelayMax else .queueDepthMax
  .next (s.hostRead m o q fun t => (t.put o q 0, beBytes 4 (t.n o q)))

end Sys2Proof.Machine
end

