-- ==== Sys2Proof/Machine/Wick.lean ====
section
/-!
DEFINITION. Wick (R178 to R199): the voted counter, steps, Wick states, the domains' estimates and their selection,
steering, the oscillator model and holdover.
-/

namespace Sys2Proof.Machine

namespace State

/-- The Wick block replaced. -/
def setClk (s : State) (f : ClockSt → ClockSt) : State := { s with clk := f s.clk }

/-- Time is qualified (R181). -/
def qualified (s : State) : Bool := s.n .wickState 0 == 3 || s.n .wickState 0 == 4

/-- The increment in use: the voted copy (R180). -/
def inc (s : State) : Nat := vote3 s.clk.i0 s.clk.i1 s.clk.i2

/-- 10 ppm of the nominal increment (R179). -/
def incSpan : Int := 1073741

/-- The increment written within 10 ppm of 25 ns, in all copies (R179). -/
def putInc (s : State) (x : Int) : State :=
  let v := (max (-incSpan) (min incSpan (x - nominalInc)) + nominalInc).toNat
  (s.setClk fun c => { c with i0 := v, i1 := v, i2 := v }).put .wickIncrement 0 v

/-- Wick time written in all copies. -/
def putWick (s : State) (w : Time) : State := s.setClk fun c => { c with c0 := w, c1 := w, c2 := w }

/-! ### Domains (R187 to R190) -/

/-- A domain's estimate. -/
def dom (s : State) (d : TimeDomain) : DomSt := s.clk.doms[d]

/-- A domain's estimate replaced. -/
def setDom (s : State) (d : TimeDomain) (r : DomSt) : State := s.setClk fun c => { c with doms := c.doms.set d r }

/-- TimeDomainState. -/
def domState (s : State) (d : TimeDomain) : Nat := s.n .timeDomainState d

/-- TimeDomainState changed, with its event. -/
def putDomState (s : State) (d : TimeDomain) (v : Nat) : State :=
  let old := s.domState d
  if old = v then s else (s.put .timeDomainState d v).raiseChange .timeDomainState d old v

/-- Domain time minus Wick time; a phase-only source gives it within half a second (R187 note 3). -/
def domOffset (s : State) (d : TimeDomain) : Int :=
  let r := s.dom d
  let dt : Int := (s.now - r.t0 : Nat)
  let x := r.off + r.freq * dt / 281474976710656 + (s.now : Int) - (s.wick : Int)
  let sec : Int := (Tm.s : Nat)
  if s.n .timeDomainSource d = 4 then (x + sec / 2) % sec - sec / 2 else x

/-- The clock class in use (R189). -/
def domClass (s : State) (d : TimeDomain) : Nat := (s.dom d).cls.getD (s.n .timeDomainClockClassManual d)

/-- Eligible: Locked, and its source gives full time of day (R183). -/
def eligible (s : State) (d : TimeDomain) : Bool := s.domState d == 2 && s.n .timeDomainSource d != 4

/-- Whether domain `a` is better than `b`: class, then priority, then domain A (R189). -/
def domBetter (s : State) (a b : TimeDomain) : Bool :=
  let ka := s.domClass a * 256 + s.n .timeDomainPriority a
  let kb := s.domClass b * 256 + s.n .timeDomainPriority b
  ka < kb || (ka == kb && a < b)

/-- The best of the domains that a test admits. -/
def bestDom (s : State) (p : TimeDomain → Bool) : Option TimeDomain :=
  if p 0 ∧ p 1 then some (if s.domBetter 0 1 then 0 else 1)
  else if p 0 then some 0 else if p 1 then some 1 else none

/-- TimeSelectedDomain as a domain. -/
def selected (s : State) : Option TimeDomain :=
  match s.n .timeSelectedDomain 0 with
  | 0 => some 0
  | 1 => some 1
  | _ => none

/-- A distance in nanoseconds compared with a limit. -/
def within (x : Int) (ns : Nat) : Bool := decide (x.natAbs ≤ ns * Tm.ns)

/-! ### The model and holdover (R194 to R199) -/

/-- The bin of the oscillator's case temperature, 0 to 67 (R194). -/
def oscBin (s : State) : Nat := min 67 ((s.num .oscCaseTemperature 0 + 40000) / 2000).toNat

/-- A model register as a signed number of 2^-48. -/
def modelReg (s : State) (a : Nat) : Int := signed 32 (s.reg a)

/-- The oscillator noise of R199's budget, in picoseconds. -/
def noise (t : Nat) : Nat := if t = 28800 then 60000 else if t = 86400 then 150000 else Config.oscNoise t

/-- The terms of R199's budget after some seconds of holdover, in picoseconds: phase and frequency at entry, ageing,
temperature, noise, quantisation. -/
def budgetTerms (t : Nat) : List Nat := [15000, 7 * t, t * t / 18000, 20 * t, noise t, 2000]

/-- The estimate after some seconds of holdover: each term of the budget, or the model's measured uncertainty where that
exceeds it (R198). -/
def holdBudget (fit t : Nat) : Nat :=
  ((budgetTerms t).zipIdx.map fun x => max x.1 (Config.modelUncertainty x.2 fit t)).sum

/-- WICK_HOLD_EXPIRY: the seconds after which the estimate exceeds TimeHoldoverLimit (R198). -/
def holdExpiry (s : State) : Nat :=
  ((List.range 4194304).find? fun t => s.n .timeHoldoverLimit 0 * 1000 < holdBudget s.clk.fit t).getD 4194304

/-- HOLD_EXPIRY_RECOMPUTE, with the model's latest fit. -/
def expiryRecompute (s : State) : State :=
  let (k, s) := s.draw
  let s := s.setClk fun c => { c with fit := k, lastExpiry := s.now }
  s.putReg Reg.wickHoldExpiry s.holdExpiry

/-- The increment that the model gives: frequency base, temperature relative to the bin at entry, and ageing by the time
since entry (R194). In Warming only the temperature term applies (R181). -/
def modelInc (s : State) : Int :=
  let t := s.modelReg (Reg.wickModelBin s.oscBin)
  let f : Int :=
    if s.n .wickState 0 = 0 then t
    else
      let seconds : Int := ((s.now - s.clk.modelAt) / Tm.s : Nat)
      s.modelReg Reg.wickModelBase + t - s.modelReg (Reg.wickModelBin s.clk.modelBin) +
        s.modelReg Reg.wickModelAge * seconds / 3600
  nominalInc + (nominalInc : Int) * f / 281474976710656

/-- The increment set to a base with a slew beside it, of which 10 ppm may leave a part only (R179). -/
def putSlewed (s : State) (base slew : Int) : State :=
  let s := s.putInc (base + slew)
  s.setClk fun c => { c with slewed := (s.inc : Int) - base }

/-- The increment in use without the slew of a written step's residual. -/
def baseInc (s : State) : Int := (s.inc : Int) - s.clk.slewed

/-- A residual given up: the increment goes on without its slew. -/
def dropSlew (s : State) : State := (s.putSlewed s.baseInc 0).setClk fun c => { c with residual := 0, slewed := 0 }

/-- MODEL_APPLICATION: once a second the head-end die applies the model (R194), while MODEL_EN is 1; the slew of a
written step's residual stays beside it. -/
def modelApply (s : State) : State :=
  let w := s.n .wickState 0
  if s.bit Reg.wickCtrl 0 ∧ w ≠ 2 ∧ w ≠ 3 then s.putSlewed s.modelInc s.clk.slewed else s

/-! ### Wick states (R181) -/

/-- The base of the model at entry to a state that it carries: the frequency correction in force (R194). -/
def modelEntry (s : State) : State :=
  let f := ((s.inc : Int) - nominalInc) * 281474976710656 / nominalInc
  let f := max (-2147483647) (min 2147483647 f)
  (s.putReg Reg.wickModelBase (twos 32 f)).setClk fun c => { c with modelAt := s.now, modelBin := s.oscBin }

/-- The bin of a holdover episode's seconds (R510). -/
def holdBin (t : Nat) : Nat :=
  if t < 10 then 0 else if t < 60 then 1 else if t < 600 then 2 else if t < 3600 then 3 else if t < 28800 then 4
  else if t < 86400 then 5 else if t < 259200 then 6 else 7

/-- A holdover episode of some seconds added to a record (R509, R510). -/
def holdEpisode (r : LifeRec) (t : Nat) : LifeRec :=
  { r with
    holdover := binAdd r.holdover (holdBin t) 1
    counts := tabPut (fun _ => 0) r.counts 15 (max (min 4294967295 t) (tabGet (fun _ => 0) r.counts 15)) }

/-- A holdover episode ends: Lantern records it, or at its next start where it is not running (R508, R510). -/
def holdEnd (s : State) : State :=
  let n := s.n .timeHoldoverElapsed 0
  if s.boot.lanternUp ∧ ¬ s.boot.recovery then { s with life := { s.life with rec_ := holdEpisode s.life.rec_ n } }
  else { s with life := { s.life with owedHold := s.life.owedHold ++ [n] } }

/-- A Wick state entered, with what the state's row and R185, R189, R196 and R198 say of entry. -/
def enterWick (s : State) (v : Nat) : State :=
  let old := s.n .wickState 0
  if old = v then s
  else
    let s := s.put .wickState 0 v
    let s := if old = 4 then s.holdEnd else s
    let s := if v = 4 then (s.put .timeHoldoverElapsed 0 0).modelEntry else s
    let s := if v ≠ 2 ∧ v ≠ 3 then s.put .timeSelectedDomain 0 0xFF else s
    let s := if v ≠ 1 ∧ s.clk.slewed ≠ 0 then s.dropSlew else if v ≠ 1 then s.setClk fun c => { c with residual := 0 } else s
    let s := if v = 1 ∨ v = 5 then
        let clear (t : State) (d : TimeDomain) : State := if t.domState d = 4 then t.putDomState d 2 else t
        clear (clear s 0) 1
      else s
    let s := if v = 5 then s.setCause 6 else s
    let s := if v = 3 then (s.setBit Reg.wickStatus 5 false).expiryRecompute.setClk fun c => { c with outliers := 0 }
      else s
    s.raiseChange .wickState 0 old v

/-- WICK_ACQUIRING: Acquiring entered with a step towards the domain (R183). -/
def acquire (s : State) (d : TimeDomain) : State :=
  let s := s.setClk fun c => { c with
    wasExpired := s.n .wickState 0 == 5, qualify := 0, switched := false, residual := 0, step := some (.domain d, s.now) }
  (s.put .timeSelectedDomain 0 d).enterWick 2

/-- Acquiring abandoned when its domain stops being Locked (R185), and entered while a domain is eligible (R181). -/
def evaluate (s : State) : State :=
  if ¬ s.avail then s
  else
    let held := match s.selected with | some d => s.domState d == 2 | none => false
    let s := if s.n .wickState 0 = 2 ∧ held = false then
        (s.setClk fun c => { c with step := none }).enterWick (if s.clk.wasExpired then 5 else 1)
      else s
    if s.n .wickState 0 = 1 ∨ s.n .wickState 0 = 5 then
      match s.bestDom s.eligible with
      | some d => s.acquire d
      | none => s
    else s

/-- Warming ends (R181, R182). -/
def warmingEnd (s : State) : State :=
  if s.n .wickState 0 ≠ 0 then s
  else
    match (if s.avail then s.bestDom s.eligible else none) with
    | some d => s.acquire d
    | none => s.enterWick 1

/-- A domain taken by a switch: Inconsistent instead where its offset is too large (R189). -/
def takeDom (s : State) (d : TimeDomain) : Bool × State :=
  if within (s.domOffset d) (s.n .timeSwitchMaxOffset 0) then
    let clear (t : State) (e : TimeDomain) : State := t.setDom e { t.dom e with better := 0 }
    (true, ((clear (clear s 0) 1).put .timeSelectedDomain 0 d).setClk fun c => { c with switched := true, outliers := 0 })
  else (false, s.putDomState d 4)

/-- The other domain. -/
def otherDom (d : TimeDomain) : TimeDomain := if d = 0 then 1 else 0

/-- DOMAIN_SWITCH, HOLDOVER_ENTRY and HOLDOVER_RETURN at a Frame boundary (R189, R190). -/
def frameSelect (s : State) : State :=
  if ¬ s.avail then s
  else
    let s :=
      if s.n .wickState 0 = 3 then
        match s.selected with
        | some d =>
          if s.domState d = 2 then s
          else
            let r := if s.domState (otherDom d) = 2 then s.takeDom (otherDom d) else (false, s)
            if r.1 then r.2 else r.2.enterWick 4
        | none => s.enterWick 4
      else if s.n .wickState 0 = 4 then
        let order : List TimeDomain := if s.domBetter 0 1 then [0, 1] else [1, 0]
        order.foldl (fun t d =>
          if t.n .wickState 0 = 4 ∧ t.domState d = 2 then
            if within (t.domOffset d) (t.n .timeOutlierLimit 0) then
              ((t.put .timeSelectedDomain 0 d).setClk fun c => { c with switched := true }).enterWick 3
            else t.putDomState d 4
          else t) s
      else s
    s.evaluate

/-- The part of an increment that removes an offset: at most a slew of `ppb`, and no more in a frame than is left. -/
def slewInc (ppb : Nat) (x : Int) : Int :=
  let lim : Int := (nominalInc * ppb / 1000000000 : Nat)
  max (-lim) (min lim (x / 5000))

/-- Lantern's update of the increment at a Frame boundary: the domain in use and the slew of its offset (R184, R189);
elsewhere the slew of a written step's residual, which ends with it. -/
def steer (s : State) : State :=
  let w := s.n .wickState 0
  if w = 2 ∨ w = 3 then
    match s.selected with
    | some d =>
      if ¬ s.avail ∨ (w = 2 ∧ s.clk.step.isSome) then s
      else
        let ppb := if w = 3 ∧ s.clk.switched then s.n .timeSwitchSlew 0 else s.n .timeAcquireSlew 0
        let base : Int := nominalInc + (nominalInc : Int) * (s.dom d).freq / 281474976710656
        (s.putInc (base + slewInc ppb (s.domOffset d))).setClk fun c => { c with lastUpdate := s.now }
    | none => s
  else if s.clk.residual ≠ 0 ∧ (w = 0 ∨ w = 1) then
    let t := s.putSlewed s.baseInc (slewInc (s.n .timeAcquireSlew 0) s.clk.residual)
    t.setClk fun c => { c with residual := if c.slewed = 0 then 0 else c.residual - c.slewed * 5000 }
  else if s.clk.slewed ≠ 0 then s.dropSlew
  else s

/-! ### Samples of a domain -/

/-- A new estimate: domain time minus Wick time now, and the domain's rate. Outside 100 ns of the estimate in force the
16 s of R188 start again; a domain that was Lost becomes Acquiring (DOMAIN_ACQUIRING). -/
def domSample (s : State) (d : TimeDomain) (offset freq : Int) : State :=
  let r := s.dom d
  let x := offset + (s.wick : Int) - (s.now : Int)
  let dt : Int := (s.now - r.t0 : Nat)
  let predicted := r.off + r.freq * dt / 281474976710656
  let anew := s.domState d == 3 || !within (x - predicted) 100
  let s := s.setDom d { r with
    off := x
    freq := freq
    t0 := s.now
    since := (if anew then s.now else r.since) }
  if s.domState d = 3 then s.putDomState d 1 else s

/-- A received clock class; a class above 248 ends Locked (R188). -/
def domClassSet (s : State) (d : TimeDomain) (cls : Option Nat) : State :=
  let s := match cls with | some c => s.setDom d { s.dom d with cls := some c } | none => s
  let s := s.put .timeDomainClockClass d (s.domClass d)
  if s.domState d = 2 ∧ 248 < s.domClass d then (s.putDomState d 1).evaluate else s

/-- What a Second boundary does for one domain: TimeDomainOffset, and the seconds of R189. -/
def domSecond (s : State) (d : TimeDomain) : State :=
  if ¬ s.avail ∨ s.domState d = 0 then s
  else
    let x := s.domOffset d
    let s := s.puti .timeDomainOffset d ((x * 1000 + 2147483648) / 4294967296)
    let r := s.dom d
    let better := s.n .wickState 0 == 3 && s.domState d == 2 && (match s.selected with
      | some e => d != e && s.domBetter d e
      | none => false)
    s.setDom d { r with
      consistent := if s.domState d = 4 ∧ within x (s.n .timeSwitchMaxOffset 0) then r.consistent + 1 else 0
      better := if better then r.better + 1 else 0 }

/-- Wick's own work at a Second boundary: R185, R188, R189, R194, R195 and R198. -/
def wickSecond (s : State) : State :=
  let s := (s.domSecond 0).domSecond 1
  let w := s.n .wickState 0
  let s := match s.selected with
    | some d =>
      if w = 2 ∧ s.avail ∧ s.clk.step.isNone then
        s.setClk fun c => { c with
          qualify := if within (s.domOffset d) (s.n .timeQualifyThreshold 0) then c.qualify + 1 else 0 }
      else if w = 3 ∧ s.avail then
        s.setClk fun c => { c with
          outliers := if within (s.domOffset d) (s.n .timeOutlierLimit 0) then 0 else c.outliers + 1 }
      else s
    | none => s
  let s := if w = 3 then
      let n := s.clk.lockedSeconds + 1
      let b := s.oscBin
      let s := s.setClk fun c => { c with
        lockedSeconds := n, dwell := tabPut (fun _ => 0) c.dwell b (tabGet (fun _ => 0) c.dwell b + 1) }
      s.put .timeModelLearnedHours 0 (n / 3600)
    else s
  let s := if w = 4 then
      let n := s.n .timeHoldoverElapsed 0 + 1
      let s := s.put .timeHoldoverElapsed 0 n
      if s.avail then s.put .timeHoldoverEstimate 0 (ceilDiv (holdBudget s.clk.fit n) 1000) else s
    else s
  s.modelApply.evaluate

/-! ### Steps (R183, R184) -/

/-- A write of WickSetTime. -/
def wickSetEff : Eff := fun s _ _ bs =>
  if s.n .wickState 0 = 0 ∨ s.n .wickState 0 = 1 then
    (s.setClk fun c => { c with step := some (.time (beNat bs), s.now) }, Abort.ok)
  else (s, Abort.locked)

/-- WICK_CTRL.STEP: the signed offset of WICK_STEP_HI and WICK_STEP_LO; ignored outside Warming and Unqualified. -/
def wickStepCmd (s : State) : State :=
  if s.n .wickState 0 = 0 ∨ s.n .wickState 0 = 1 then
    let x := signed 64 (s.reg Reg.wickStepHi * 4294967296 + s.reg Reg.wickStepLo) * (Tm.ns : Nat)
    s.setClk fun c => { c with step := some (.offset x, s.now) }
  else s

/-- Theta and step of R184. -/
def stepOf (s : State) (g : StepTarget) : Int × Int :=
  let theta : Int := match g with
    | .domain d => if d = 0 then s.domOffset 0 else s.domOffset 1
    | .time t => (t : Int) - (s.wick : Int)
    | .offset x => x
  let frame : Int := (Tm.frame : Nat)
  if (List.range 32).all fun ch => s.laneState ch == 0 then (theta, theta)
  else
    let q := theta.natAbs / Tm.frame
    let r := theta.natAbs % Tm.frame
    let k : Int := (if Tm.frame < 2 * r then q + 1 else q : Nat)
    (theta, if 0 ≤ theta then k * frame else -(k * frame))

/-- Wick's phase moved by a step that is not zero: counted, shown and reported with B in both times. -/
def wickMove (s : State) (step : Int) : State :=
  let old := s.wick
  let w := s.n .wickState 0
  let s := s.putWick ((old : Int) + step).toNat
  let s := (s.put .wickStepCount 0 ((s.n .wickStepCount 0 + 1) % 256)).setBit Reg.wickStatus 10 true
  s.raiseChange .wickStepCount 0 w w (beBytes 12 old ++ beBytes 12 s.wick)

/-! ### The rules of writes -/

/-- The PTP domain numbers of a profile (R191). -/
def domainNumberOk (profile number : Nat) : Bool :=
  if profile = 0 then 24 ≤ number && number ≤ 43
  else if profile = 1 then 44 ≤ number && number ≤ 63
  else number ≤ 127

/-- The ports that a domain uses: of its source's kind (R187 note 1). -/
def domainPorts (t : State) (d : Nat) : Nat :=
  let p := t.n .timeDomainPorts d
  match t.n .timeDomainSource d with
  | 1 => p % 65536
  | 2 => p / 65536 % 16 * 65536
  | _ => 0

/-- Whether the domains' sources stand together (R187 note 2). -/
def sourcesOk (t : State) : Bool :=
  let a := t.n .timeDomainSource 0
  let b := t.n .timeDomainSource 1
  !(a == b && (a == 3 || a == 4)) && t.domainPorts 0 &&& t.domainPorts 1 == 0

/-- Whether a port's profile is that of every domain in whose slave set it is, where its role lets it be a slave (R211). -/
def profileFits (t : State) (p : Nat) : Bool :=
  t.n .ptpPortRole p == 1 || (List.range 2).all fun d =>
    !(t.n .timeDomainSource d == 1 && t.n .timeDomainPorts d / 2 ^ p % 2 == 1) ||
    t.n .ptpPortProfile p == t.n .timeDomainProfile d

/-- The checks of time writes at their boundary. -/
def wickCheck (t : State) (o : Obj) (i : Nat) : Nat :=
  match o with
  | .timeOutlierLimit | .timeHoldoverLimit =>
    if t.n .timeOutlierLimit 0 < t.n .timeHoldoverLimit 0 then Abort.range else Abort.ok
  | .timeDomainSource | .timeDomainPorts => if t.sourcesOk then Abort.ok else Abort.range
  | .timeDomainProfile | .timeDomainNumber =>
    if domainNumberOk (t.n .timeDomainProfile i) (t.n .timeDomainNumber i) then Abort.ok else Abort.range
  | .ptpPortProfile =>
    if domainNumberOk (t.n .ptpPortProfile i) (t.n .ptpPortDomainNumber i) ∧ t.profileFits i then Abort.ok else Abort.range
  | .ptpPortDomainNumber =>
    if domainNumberOk (t.n .ptpPortProfile i) (t.n .ptpPortDomainNumber i) then Abort.ok else Abort.range
  | .ptpPortOneStep =>
    if t.on .ptpPortOneStep i ∧ ¬ t.on .uplinkMacsecPtpClear i then Abort.range else Abort.ok
  | _ => Abort.ok

/-- The state of a PTP port as IEEE 1588 numbers it (R191): Disabled, Slave where it is a domain's slave port, Master
where its role lets it serve, Listening else. -/
def ptpState (s : State) (p : Nat) : Nat :=
  if ¬ s.on .ptpPortEnable p then 3
  else if s.n .timeDomainSlavePort 0 = p ∨ s.n .timeDomainSlavePort 1 = p then 9
  else if s.n .ptpPortRole p ≠ 2 then 6 else 4

/-- PtpPortState of every port brought up to date. -/
def ptpStates (s : State) : State := (List.range 16).foldl (fun t p => t.put .ptpPortState p (t.ptpState p)) s

/-- A domain's slave port changed: at most one of its ports (R191). -/
def putSlave (s : State) (d p : Nat) : State := (s.put .timeDomainSlavePort d p).ptpStates

/-- A domain whose source has been written starts afresh: Off, or Lost until valid input comes. -/
def domRestart (s : State) (d : TimeDomain) : State :=
  let s := (s.setDom d DomSt.idle).putSlave d 0xFF
  let s := s.put .timeDomainClockClass d (s.domClass d)
  s.putDomState d (if s.n .timeDomainSource d = 0 then 0 else 3)

/-- Lantern returns: a domain with a source re-enters Acquiring, and becomes Locked by R188 alone (R196). -/
def domReturn (s : State) (d : TimeDomain) : State :=
  if s.n .timeDomainSource d = 0 then s
  else (s.setDom d { s.dom d with
    since := s.now, lastSync := s.now, lastAnnounce := s.now, consistent := 0, better := 0 }).putDomState d 1

/-- What time writes do beyond storing. -/
def wickApply (s : State) (o : Obj) (i : Nat) : State :=
  match o with
  | .timeDomainSource => if i = 0 then s.domRestart 0 else s.domRestart 1
  | .ptpPortEnable | .ptpPortRole => s.ptpStates
  | .timeDomainClockClassManual => if i = 0 then s.domClassSet 0 none else s.domClassSet 1 none
  | _ => s

/-- The channel's time-of-day reference at a Second boundary (R209). -/
def channelTod (s : State) (ch : Nat) : State :=
  if ¬ s.sending ch then s
  else
    let d := s.num .channelDevTxDelay ch + s.num .channelBoardTxDelay ch
    let at_ := ((s.wick : Int) + d * (Tm.ns : Nat) / 1000).toNat
    let s := s.putOct .channelTodReference ch (beBytes 8 (s.superframe ch) ++ beBytes 12 at_)
    (s.terminalsOn ch).foldl (fun t x =>
      match t.sideOn x ch with
      | some k =>
        if t.inService x ch then
          let ds := t.num (side .terminalDsDelayA .terminalDsDelayB k) x
          t.putOct (side .terminalTodReferenceA .terminalTodReferenceB k) x
            (beBytes 8 (t.superframe ch) ++ beBytes 12 ((at_ : Int) + ds * (Tm.ns : Nat) / 1000).toNat)
        else t
      | none => t) s

end State
end Sys2Proof.Machine
end

