-- ==== Sys2Proof/Machine/Ciphers.lean ====
section
/-!
DEFINITION. The cipher pool (R351 to R366, R375, R376): core allotment, PON key slots with their exchanges, switches and
limits, broadcast keys, locks, MACsec secure associations, and the entropy source.
-/

namespace Sys2Proof.Machine

/-- A port's rate in Mb/s under a quad mode (R307). -/
def quadRate (mode : Nat) : Nat := [400000, 200000, 100000, 50000, 25000, 10000].getD mode 0

/-- Lanes of a port under a quad mode, by the port's place in its quad; 0 where the mode gives it none (R307). -/
def quadLanes (mode place : Nat) : Nat :=
  match mode with
  | 0 => if place = 0 then 4 else 0
  | 1 => if place % 2 = 0 then 2 else 0
  | _ => 1

/-- A MACsec port's cores (R352). -/
def macsecCores (rate : Nat) (aes256 : Bool) : Nat :=
  let pick (a b : Nat) : Nat := if aes256 then b else a
  if rate = 400000 then pick 50 70
  else if rate = 200000 then pick 25 35
  else if rate = 100000 then pick 13 18
  else if rate = 50000 then pick 7 9
  else if rate = 25000 then pick 4 5
  else pick 2 2

namespace State

/-- The cipher pool replaced. -/
def setCiph (s : State) (f : CipherSt → CipherSt) : State := { s with ciph := f s.ciph }

/-! ### Core allotment (R352, R353) -/

/-- The mode of a port's quad. -/
def quadMode (s : State) (p : Nat) : Nat := s.n .uplinkQuadMode (p / 4)

/-- Whether the mode gives the port lanes (R307). -/
def portExists (s : State) (p : Nat) : Bool := quadLanes (s.quadMode p) (p % 4) != 0

/-- A channel's cores. -/
def channelCores (t : State) (ch : Nat) : Nat :=
  match t.gen ch with
  | 1 => 1
  | 2 => 1
  | 3 => 2
  | 4 => if t.n .channelUpRate ch = 0 then 4 else if t.n .channelUpRate ch = 1 then 5 else 7
  | _ => 0

/-- The cores of the uses that hold them in `s` or that `t` would enable, by the values of `t`. -/
def coresOf (s t : State) : Nat :=
  let chan (ch : Nat) : Nat :=
    if (s.laneState ch ≠ 0 ∧ s.n .channelSnuffPhase ch ≠ 3) ∨ t.laneWanted ch then t.channelCores ch else 0
  let up (p : Nat) : Nat :=
    if t.on .uplinkMacsecEnable p ∧ t.portExists p ∧ (s.n .uplinkSnuffPhase p ≠ 3 ∨ t.on .uplinkEnable p) then
      macsecCores (quadRate (t.quadMode p)) (t.on .macsecCipherCeiling p)
    else 0
  let psg (q : Nat) : Nat :=
    if t.on .macsecPortEnable (16 + q) ∧ (s.n .passageSnuffPhase q ≠ 3 ∨ t.on .passagePortEnable q) then
      (if t.on .macsecCipherCeiling (16 + q) then 39 else 28)
    else 0
  ((List.range 32).map chan).foldl (· + ·) 0 + ((List.range 16).map up).foldl (· + ·) 0 +
    ((List.range 4).map psg).foldl (· + ·) 0

/-- CipherCoresAllotted: the cores held now. -/
def coresAllotted (s : State) : Nat :=
  let chan (ch : Nat) : Nat := if s.laneState ch ≠ 0 ∧ s.n .channelSnuffPhase ch ≠ 3 then s.channelCores ch else 0
  let up (p : Nat) : Nat :=
    if s.on .uplinkMacsecEnable p ∧ s.portExists p ∧ s.n .uplinkSnuffPhase p ≠ 3 then
      macsecCores (quadRate (s.quadMode p)) (s.on .macsecCipherCeiling p)
    else 0
  let psg (q : Nat) : Nat :=
    if s.on .macsecPortEnable (16 + q) ∧ s.n .passageSnuffPhase q ≠ 3 then
      (if s.on .macsecCipherCeiling (16 + q) then 39 else 28)
    else 0
  ((List.range 32).map chan).foldl (· + ·) 0 + ((List.range 16).map up).foldl (· + ·) 0 +
    ((List.range 4).map psg).foldl (· + ·) 0

/-- The check of R353 on a write that may raise the allotment. -/
def coresCheck (s t : State) : Nat := if 576 < coresOf s t then Abort.full else Abort.ok

/-! ### PON key slots (R60 to R62, R356 to R358) -/

/-- A terminal's exchange. -/
def exch (s : State) (t : Nat) : ExchSt := tabGet (fun _ => ExchSt.idle) s.ciph.exch t

/-- A terminal's exchange replaced. -/
def setExch (s : State) (t : Nat) (e : ExchSt) : State :=
  s.setCiph fun c => { c with exch := tabPut (fun _ => ExchSt.idle) c.exch t e }

/-- The state and usage objects of a terminal or broadcast slot. -/
def slotObjs (bcast : Bool) : Obj × Obj :=
  if bcast then (.bcastKeyState, .bcastKeyUsage) else (.keySlotState, .keySlotUsage)

/-- A slot's number as CIPH_KEY_SEL names it. -/
def slotNo (bcast : Bool) (i : Nat) : Nat := if bcast then 65536 + i else i

/-- A slot's state (R356). -/
def slotState (s : State) (bcast : Bool) (i : Nat) : Nat := s.n (slotObjs bcast).1 i

/-- A slot emptied: key and lock erased (R356, R360). -/
def slotErase (s : State) (bcast : Bool) (i : Nat) : State :=
  let s := (s.put (slotObjs bcast).1 i 0).put (slotObjs bcast).2 i 0
  let s := if bcast then s.putVal .bcastKey i (Obj.bcastKey.info.dflt i) else s
  s.setCiph fun c => { c with
    termKeys := if bcast then c.termKeys else tabErase c.termKeys i
    prev := tabErase c.prev (slotNo bcast i)
    soft := c.soft.erase (slotNo bcast i)
    locked := c.locked.erase (slotNo bcast i) }

/-- A loaded slot becomes Next. -/
def slotNext (s : State) (bcast : Bool) (i : Nat) : State :=
  (s.put (slotObjs bcast).1 i 1).put (slotObjs bcast).2 i 0

/-- The switch between the two slots of a pair: Next becomes Current with its usage from zero, Current becomes Previous
for 8 frames, and a Retired slot becomes Empty (R356). -/
def slotSwitch (s : State) (bcast : Bool) (pair : Nat) : State :=
  let one (t : State) (i : Nat) : State :=
    match s.slotState bcast i with
    | 1 => (t.put (slotObjs bcast).1 i 2).put (slotObjs bcast).2 i 0
    | 2 => (t.put (slotObjs bcast).1 i 3).setCiph fun c => { c with
        prev := tabPlace (tabErase c.prev (slotNo bcast i)) (slotNo bcast i) 8
        soft := c.soft.erase (slotNo bcast i) }
    | 4 => t.slotErase bcast i
    | _ => t
  one (one s (2 * pair)) (2 * pair + 1)

/-- A pair has a slot in the state. -/
def pairHas (s : State) (bcast : Bool) (pair v : Nat) : Bool :=
  s.slotState bcast (2 * pair) == v || s.slotState bcast (2 * pair + 1) == v

/-- The channel on which Lantern runs a terminal's exchange (R60): channel A while in service there, else channel B. -/
def exchChannel (s : State) (t : Nat) : Option Nat := (s.chansOf t).find? fun c => s.inService t c

/-- KEY_EXCHANGE_START: Key_Control, or on GPON Request_Key, while no slot is Previous (R356 note 1). -/
def exchStart (s : State) (t : Nat) : State :=
  let e := s.exch t
  match s.exchChannel t with
  | some ch =>
    if e.wanted ∧ ¬ e.running ∧ e.due.isNone ∧ ¬ e.used ∧ s.avail ∧ ¬ s.pairHas false t 3 then
      (s.setExch t { e with wanted := false, running := true }).ploamLan ch
        (if s.gen ch = 1 then .requestKey else .keyControl) t (s.n .terminalOnuIdAssigned t) []
    else s
  | none => s

/-- An exchange asked for: started now, or at the first Frame boundary after the Previous slot becomes Empty. -/
def exchAsk (s : State) (t : Nat) : State :=
  let e := s.exch t
  if e.running ∨ e.due.isSome ∨ e.used ∨ s.pairHas false t 1 then s
  else (s.setExch t { e with wanted := true }).exchStart t

/-- A terminal's content of the cipher pool discarded: slots, exchange and announced switches (R122, R133). -/
def keysDiscard (s : State) (t : Nat) : State :=
  let s := ((s.slotErase false (2 * t)).slotErase false (2 * t + 1)).setExch t ExchSt.idle
  (s.chansOf t).foldl (fun u ch =>
    u.setFramer ch { u.framer ch with switches := (u.framer ch).switches.filter fun x => x.1 != t }) s

/-- Whether the switch of a terminal's next key falls due at this Frame boundary (R61, R62). -/
def switchDue (s : State) (t : Nat) : Bool :=
  s.pairHas false t 1 && ((s.exch t).due == some 0 ||
    (s.chansOf t).any fun ch => (s.framer ch).switches.contains (t, s.superframe ch))

/-- The switch of a terminal's keys, on every channel of the terminal. -/
def switchNow (s : State) (t : Nat) : State :=
  let s := (s.slotSwitch false t).setExch t { s.exch t with due := none, used := false }
  (s.chansOf t).foldl (fun u ch =>
    u.setFramer ch { u.framer ch with switches := (u.framer ch).switches.filter fun x => x.1 != t }) s

/-- The cores run: the first 1,024 samples of the entropy source have passed both tests (R355). -/
def coresRun (s : State) : Bool := s.n .entropyState 0 != 0

/-- What is left of a fragmented frame in a channel's framer. -/
def restOf (s : State) (ch : Nat) : Option RestSt := tabGet (fun _ => none) s.tm.rest ch

/-- A framer of the terminal's channels still holds the rest of a frame that began under its Current slot (R61). -/
def restOld (s : State) (t : Nat) : Bool :=
  (s.chansOf t).any fun ch =>
    match s.restOf ch with
    | some r => r.term == t && (r.key == 1 || r.key == 2) && s.slotState false (2 * t + (r.key - 1)) == 2
    | none => false

/-- A channel's framer still holds the rest of a frame that began under the channel's Current broadcast slot (R359). -/
def restBcast (s : State) (ch : Nat) : Bool :=
  match s.restOf ch with
  | some r => 3 ≤ r.key && s.slotState true (2 * ch + (r.key - 3)) == 2
  | none => false

/-- The slot of a pair in a state, counted from 1. -/
def slotIn (s : State) (bcast : Bool) (pair v : Nat) : Option Nat :=
  if s.slotState bcast (2 * pair) = v then some 1 else if s.slotState bcast (2 * pair + 1) = v then some 2 else none

/-- A terminal's slot for new downstream frames: the Next slot once a switch waits for the rest of an old frame, else the
Current one (R61). -/
def termSlot (s : State) (t : Nat) : Option Nat :=
  if s.coresRun then s.slotIn false t (if (s.exch t).used then 1 else 2) else none

/-- A channel's broadcast slot for new broadcast frames. -/
def bcastSlot (s : State) (ch : Nat) : Option Nat :=
  if s.coresRun then s.slotIn true ch (if (s.ciph.bcastDue.any fun p => p.1 == ch && p.2 == 0) then 1 else 2) else none

/-- The key of a new frame of a flow on a channel (R60, R359, R63): none where it may not be sent now. A broadcast frame
goes out under the channel's broadcast slots once one has been in use there, any other under the terminal's
(log entry 128). -/
def frameKey (s : State) (ch f : Nat) (bcast : Bool) : Option Nat :=
  if f = noFlow ∨ ¬ s.on .flowEncrypt f then some 0
  else if bcast ∧ s.gen ch ≠ 1 ∧ (s.pairHas true ch 2 ∨ (s.bcastSlot ch).isSome ∨ s.pairHas true ch 4) then (s.bcastSlot ch).map fun k => k + 2
  else s.termSlot (s.n .flowTerminal f)

/-- The channels on which a flow's frames go (R55). -/
def flowChans (s : State) (f : Nat) : List Nat :=
  (s.chansOf (s.n .flowTerminal f)).filter fun ch => (s.flowPort f ch).isSome

/-- A frame of an encrypted flow that no usable key lets through (R63). -/
def keyBlocked (s : State) (f : Nat) (bcast : Bool) : Bool := (s.flowChans f).any fun ch => (s.frameKey ch f bcast).isNone

/-- KEY_HELD ends at the first Frame boundary after a usable key is in place (R63). -/
def keysRelease (s : State) : State :=
  let held := s.tm.queues.filter fun p => p.1 < 65536 && p.2.any fun d => d.held.isSome
  held.foldl (fun u p => u.setQueue p.1 (p.2.map fun d =>
    if u.keyBlocked d.flow d.bcast then d else { d with held := none })) s

/-- A broadcast switch made (R359). -/
def bcastSwitch (s : State) (ch : Nat) : State :=
  (s.slotSwitch true ch).setCiph fun c => { c with bcastDue := tabErase c.bcastDue ch }

/-- The cipher pool's work at a Frame boundary: frames to go until switches, broadcast switches, usages, the frames of
Previous slots, exchanges that wait, and held frames. -/
def ciphFrame (s : State) : State :=
  let due (e : ExchSt) : ExchSt := { e with due := e.due.map fun k => k - 1 }
  let s := s.setCiph fun c => { c with
    exch := c.exch.map fun p => (p.1, due p.2)
    bcastDue := c.bcastDue.map fun p => (p.1, p.2 - 1)
    prev := (c.prev.map fun p => (p.1, p.2 - 1)).filter fun p => p.2 != 0 }
  let s := (s.withNum .keySlotState 2).foldl (fun t i => t.put .keySlotUsage i (t.n .keySlotUsage i + 1)) s
  let s := (s.withNum .bcastKeyState 2).foldl (fun t i => t.put .bcastKeyUsage i (t.n .bcastKeyUsage i + 1)) s
  let s := (s.ciph.bcastDue.filter fun p => p.2 == 0).foldl (fun t p => if t.restBcast p.1 then t else t.bcastSwitch p.1) s
  let s := (s.ciph.exch.filter fun p => p.2.wanted).foldl (fun t p => t.exchStart p.1) s
  s.keysRelease

/-! ### Broadcast keys (R359) and locks (R360) -/

/-- Whether a broadcast slot may be loaded: not on a GPON channel, not Current, Previous or Retired, and not while its
partner is Next. -/
def bcastLoadOk (s : State) (i : Nat) : Bool :=
  s.gen (i / 2) != 1 && (s.slotState true i == 0 || s.slotState true i == 1) &&
  s.slotState true (if i % 2 = 0 then i + 1 else i - 1) != 1

/-- Frames to go until the first Frame boundary at least two frames from now. -/
def framesToGo (s : State) : Nat := if s.wick % Tm.frame = 0 then 2 else 3

/-- A write of ChannelBcastKeySwitch. -/
def bcastSwitchEff : Eff := fun s _ ch bs =>
  if beNat bs = 0 then (s, Abort.ok)
  else if s.gen ch = 1 ∨ ¬ s.pairHas true ch 1 then (s, Abort.range)
  else (s.setCiph fun c => { c with bcastDue := tabPlace (tabErase c.bcastDue ch) ch s.framesToGo }, Abort.ok)

/-- A lock set on a slot. -/
def lockAdd (s : State) (k : Nat) : State :=
  s.setCiph fun c => { c with locked := if c.locked.contains k then c.locked else c.locked ++ [k] }

/-- A write of BcastKeyLock. -/
def bcastLockEff : Eff := fun s _ i bs =>
  if beNat bs = 0 then (s, Abort.ok)
  else if s.slotState true i = 0 then (s, Abort.range)
  else (s.lockAdd (65536 + i), Abort.ok)

/-- A write of SaLock. -/
def saLockEff : Eff := fun s _ i bs =>
  if beNat bs = 0 then (s, Abort.ok)
  else if s.n .saState i = 0 then (s, Abort.range)
  else (s.lockAdd (131072 + i), Abort.ok)

/-! ### MACsec (R361 to R365) -/

/-- SaPnSoft and SaPnHard with their suites' defaults (R363). -/
def saSoft (s : State) (i : Nat) : Nat :=
  if s.isSet .saPnSoft i then s.n .saPnSoft i
  else if s.n .saSuite i < 2 then 0xC0000000 else 0xC000000000000000
def saHard (s : State) (i : Nat) : Nat :=
  if s.isSet .saPnHard i then s.n .saPnHard i
  else if s.n .saSuite i < 2 then 0xFFFFFFFF else 0xFFFFFFFFFFFFFFFF

/-- The largest packet number of a suite. -/
def suiteMax (suite : Nat) : Nat := if suite < 2 then 0xFFFFFFFF else 0xFFFFFFFFFFFFFFFF

/-- The enabled SAs of a port and direction with an AN. -/
def sasAt (s : State) (port dir an : Nat) : List Nat :=
  (s.withNum .saEnable 1).filter fun i => s.n .saPort i == port && s.n .saDirection i == dir && s.n .saAn i == an

/-- The transmit SA that a port uses: that of MacsecTxAn, while it is in use and not retired (R362, R364). -/
def txSa (s : State) (port : Nat) : Option Nat :=
  (s.sasAt port 0 (s.n .macsecTxAn port)).find? fun i => s.coresRun && s.n .saState i == 2 && s.n .saSnuffPhase i != 3

/-- A number reached for an SA: the soft limit's event, and retirement at the hard limit (R363). -/
def saReached (s : State) (i pn : Nat) (transmit : Bool) : State :=
  let s := if transmit ∧ pn = s.saSoft i then
      (s.raise 2 .saNextPn i (beBytes 8 (s.saSoft i) ++ beBytes 8 pn)).setBit Reg.ciphStatus 7 true
    else s
  if s.saHard i ≤ pn then
    (s.put .saState i 3).setBit Reg.ciphStatus 8 true
  else s

/-- A packet number assigned by a transmit SA. -/
def saAssign (s : State) (i : Nat) : Nat × State :=
  let pn := s.n .saNextPn i
  (pn, ((s.put .saNextPn i (min (suiteMax (s.n .saSuite i)) (pn + 1))).saReached i pn true))

/-- The result of the checks on a received packet number: accepted, a replay, or above the hard limit. -/
inductive PnCheck where
  | ok | replay | late
  deriving DecidableEq

/-- The full packet number that a SecTAG's 32 bits stand for (R362): for XPN suites, the one nearest above the lowest
acceptable number, as 802.1AE recovers it. -/
def recoverPn (s : State) (i pn : Nat) : Nat :=
  if s.n .saSuite i < 2 then pn
  else
    let low := s.n .saNextPn i
    let high := low / 4294967296 * 4294967296
    if 2147483648 ≤ low % 4294967296 ∧ pn % 4294967296 < low % 4294967296 - 2147483648 then
      high + 4294967296 + pn % 4294967296
    else high + pn % 4294967296

/-- The check of a received number against the window and the hard limit. -/
def pnCheck (s : State) (i pn : Nat) : PnCheck :=
  if s.saHard i < pn then .late else if pn < s.n .saNextPn i then .replay else .ok

/-- A frame accepted by a receive SA: the lowest acceptable number follows MacsecReplayWindow behind the highest
received, and SaPnHard retires the SA. -/
def saAccept (s : State) (i pn : Nat) : State :=
  let w := s.n .macsecReplayWindow (s.n .saPort i)
  let next := max (pn + 1) (tabGet (fun _ => 0) s.ciph.rxNext i)
  let s := s.setCiph fun c => { c with rxNext := tabPut (fun _ => 0) c.rxNext i next }
  let s := s.put .saNextPn i (max (s.n .saNextPn i) (next - w))
  s.saReached i pn false

/-- An SA's content erased at its Dark (R360). -/
def saErase (s : State) (i : Nat) : State :=
  let s := (s.put .saState i 0).put .saNextPn i 0
  let s := (s.putVal .saKey i (Obj.saKey.info.dflt i)).putVal .saSalt i (Obj.saSalt.info.dflt i)
  s.setCiph fun c => { c with rxNext := tabErase c.rxNext i, locked := c.locked.erase (131072 + i) }

/-- The SAs of a port erased at its Dark (R360). -/
def saErasePort (s : State) (port : Nat) : State := (s.withNum .saPort port).foldl (fun t i => t.saErase i) s

/-- SaState as key and enable leave it (R375). -/
def saUpdate (s : State) (i : Nat) : State :=
  if s.n .saState i = 3 then s
  else
    let key := s.isSet .saKey i && s.oct .saKey i != []
    let loaded := key && s.val .saKey i != Obj.saKey.info.dflt i
    let new := if ¬ loaded then 0 else if s.on .saEnable i then 2 else 1
    let s := if new ≠ 2 ∨ s.n .saState i ≠ 2 then (s.put .saNextPn i (s.n .saInitialPn i)) else s
    s.put .saState i new

/-- Whether no other enabled SA has the same port, direction, AN and receive SCI (R361). -/
def saAlone (t : State) (i : Nat) : Bool :=
  (t.sasAt (t.n .saPort i) (t.n .saDirection i) (t.n .saAn i)).all fun j =>
    j == i || (t.n .saDirection i == 1 && t.n .saSci j != t.n .saSci i)

/-- The checks of cipher writes at their boundary. -/
def ciphCheck (s t : State) (o : Obj) (i : Nat) : Nat :=
  if s.lockedObj o i then Abort.locked
  else match o with
    | .ponKeySoftLimit | .ponKeyHardLimit =>
      if t.n .ponKeyHardLimit 0 ≤ t.n .ponKeySoftLimit 0 ∨ 1073676288 < t.n .ponKeyHardLimit 0 then Abort.range
      else Abort.ok
    | .bcastKey => if s.bcastLoadOk i then Abort.ok else Abort.range
    | .saEnable =>
      if t.on .saEnable i ∧ (s.n .saSnuffPhase i = 1 ∨ s.n .saSnuffPhase i = 2) then Abort.inSnuff
      else if t.on .saEnable i ∧ ¬ t.saAlone i then Abort.range
      else Abort.ok
    | .saPort | .saDirection | .saAn | .saSci =>
      if t.on .saEnable i ∧ ¬ t.saAlone i then Abort.range
      else if t.n .saPort i < 20 ∧ t.n .saSuite i % 2 = 1 ∧ ¬ t.on .macsecCipherCeiling (t.n .saPort i) then Abort.range
      else Abort.ok
    | .saSuite =>
      if t.n .saPort i < 20 ∧ t.n .saSuite i % 2 = 1 ∧ ¬ t.on .macsecCipherCeiling (t.n .saPort i) then Abort.range
      else Abort.ok
    | .saKey =>
      if (t.oct .saKey i).length = (if t.n .saSuite i % 2 = 1 then 32 else 16) then Abort.ok else Abort.malformed
    | .saInitialPn => if 2 ≤ s.n .saState i then Abort.notDark else Abort.ok
    | .saPnSoft | .saPnHard =>
      if t.saHard i ≤ t.saSoft i ∨ suiteMax (t.n .saSuite i) < t.saHard i then Abort.range else Abort.ok
    | .macsecTxAn => if (t.sasAt i 0 (t.n .macsecTxAn i)).isEmpty then Abort.range else Abort.ok
    | .macsecCipherCeiling => coresCheck s t
    | .macsecPortEnable =>
      if i < 16 then Abort.range
      else if s.n .passageSnuffPhase (i - 16) ≠ 3 then Abort.notDark
      else coresCheck s t
    | _ => Abort.ok

/-- What cipher writes do beyond storing; the Snuff of an SA is started with the others. -/
def ciphApply (s : State) (o : Obj) (i : Nat) : State :=
  match o with
  | .bcastKey => s.slotNext true i
  | .saKey => s.saUpdate i
  | .saInitialPn => s.put .saNextPn i (s.n .saInitialPn i)
  | .saEnable =>
    if s.on .saEnable i then ((s.put .saSnuffPhase i 0).saUpdate i) else s
  | _ => s

/-! ### Entropy (R355) -/

/-- The entropy source takes samples: ENTROPY_EN 1 in a running die. -/
def entropyRuns (s : State) : Bool := s.bit Reg.ciphCtrl 1 && s.fabricRuns

/-- The expander's first output under the seed from 1,024 raw samples of one bit, which are a free value (R355). -/
def expansion (k : Nat) : List Byte :=
  let seed := Config.shake256 (beBytes 128 (Config.freeValue 1024 k).toNat)
  (Config.shake256 (seed.toList ++ beBytes 8 0)).toList

/-! ### Register commands (R376) -/

/-- The slot that CIPH_KEY_SEL names. -/
def selSlot (s : State) : Nat × Nat := (s.reg Reg.ciphKeySel / 65536 % 8, s.reg Reg.ciphKeySel % 65536)

/-- CIPH_KEY_STATE of the selected slot. -/
def selState (s : State) : Nat :=
  let (k, i) := s.selSlot
  if k = 0 then s.slotState false i else if k = 1 then s.slotState true i else s.n .saState i

/-- The selected slot is locked. -/
def selLocked (s : State) : Bool := s.ciph.locked.contains (s.reg Reg.ciphKeySel)

/-- The usage of the selected slot. -/
def selUsage (s : State) : Nat :=
  let (k, i) := s.selSlot
  if k = 0 then s.n .keySlotUsage i else if k = 1 then s.n .bcastKeyUsage i else s.n .saNextPn i

/-- The record of a LOAD or LOCK of a locked slot, as R11 has it for the slot's key. -/
def selViolation (s : State) : State :=
  let (k, i) := s.selSlot
  s.recordOnce (if k = 1 then .bcastKey else .saKey) i Abort.locked

/-- The bytes of CIPH_KEY_DATA. -/
def keyData (s : State) (n : Nat) : List Byte :=
  ((List.range 8).map fun k => beBytes 4 (s.reg (Reg.ciphKeyData k))).flatten.take n

/-- CIPH_KEY_CMD.LOAD: a locked slot recorded, and what R361 forbids ignored. A terminal slot takes its next key. -/
def keyLoadCmd (s : State) : State :=
  let (k, i) := s.selSlot
  if s.selLocked then s.selViolation
  else if k = 0 ∧ i < 16384 then
    if s.slotState false i ≤ 1 then
      (s.slotNext false i).setCiph fun c => { c with termKeys := tabPlace (tabErase c.termKeys i) i (s.keyData 16) }
    else s
  else if k = 1 ∧ i < 64 then
    if s.bcastLoadOk i then (s.putOct .bcastKey i (s.keyData 16)).slotNext true i else s
  else if k = 2 ∧ i < 256 then
    if s.n .saPort i < 20 ∧ s.n .saSuite i % 2 = 1 ∧ ¬ s.on .macsecCipherCeiling (s.n .saPort i) then s
    else (s.putOct .saKey i (s.keyData (if s.n .saSuite i % 2 = 1 then 32 else 16))).saUpdate i
  else s

/-- CIPH_KEY_CMD.LOCK. -/
def keyLockCmd (s : State) : State :=
  let (k, _) := s.selSlot
  if s.selLocked then s.selViolation
  else if k = 0 ∨ s.selState = 0 then s
  else s.lockAdd (s.reg Reg.ciphKeySel)

/-- CIPH_KEY_CMD.ERASE: a Dark SA, or a Retired slot. -/
def keyEraseCmd (s : State) : State :=
  let (k, i) := s.selSlot
  if k = 2 then (if i < 256 ∧ s.n .saSnuffPhase i = 3 then s.saErase i else s)
  else if k = 0 then (if s.slotState false i = 4 then s.slotErase false i else s)
  else if s.slotState true i = 4 then s.slotErase true i
  else s

end State

open State

/-- R61, R62: the terminal's new key is loaded into its next slot and the switch is scheduled. -/
def execKeyExchangeComplete (t : Term) (key : Vector Byte 16) (s : State) : Host.Outcome State Fault Refusal :=
  let e := s.exch t
  if ¬ (s.avail ∧ e.running) then .next s
  else
    let i := if s.slotState false (2 * t) = 0 ∨ s.slotState false (2 * t) = 1 then 2 * t.val else 2 * t.val + 1
    let s := (s.slotNext false i).setCiph fun c => { c with termKeys := tabPlace (tabErase c.termKeys i) i key.toList }
    match s.exchChannel t with
    | some ch =>
      if s.gen ch = 1 then
        .next ((s.setExch t { e with running := false }).ploamLan ch .keySwitchingTime t
          (s.n .terminalOnuIdAssigned t) [] 3)
      else .next (s.setExch t { e with running := false, due := some s.framesToGo })
    | none => .next (s.setExch t { e with running := false })

/-- R61, R62: the switch at its frame; on the 51-bit generations the slot becomes Current only when the last fragment
under the old key has been sent. -/
def execKeySwitch (t : Term) (s : State) : Host.Outcome State Fault Refusal :=
  if ¬ s.switchDue t then .next s
  else if (s.exch t).due = some 0 ∧ s.restOld t then
    .next (s.setExch t { s.exch t with due := none, used := true })
  else .next (s.switchNow t)

/-- R357: a Current slot's usage reaches PonKeySoftLimit. -/
def execPonKeySoftLimit (bcast : Bool) (slot : Fin 16384) (s : State) : Host.Outcome State Fault Refusal :=
  let u := s.n (slotObjs bcast).2 slot
  let lim := s.n .ponKeySoftLimit 0
  if s.slotState bcast slot = 2 ∧ lim ≤ u ∧ ¬ s.ciph.soft.contains (slotNo bcast slot) then
    let s := s.setCiph fun c => { c with soft := c.soft ++ [slotNo bcast slot] }
    let s := (s.setBit Reg.ciphStatus 7 true).raise 2 (slotObjs bcast).2 slot (beBytes 8 lim ++ beBytes 8 u)
    .next (if bcast then s else s.exchAsk (slot / 2))
  else .next s

/-- R357: a Current slot's usage reaches PonKeyHardLimit; a switch due at the same boundary goes first. -/
def execPonKeyHardLimit (bcast : Bool) (slot : Fin 16384) (s : State) : Host.Outcome State Fault Refusal :=
  let u := s.n (slotObjs bcast).2 slot
  let lim := s.n .ponKeyHardLimit 0
  if s.slotState bcast slot = 2 ∧ lim ≤ u ∧ (bcast ∨ ¬ s.switchDue (slot / 2)) then
    .next (((s.put (slotObjs bcast).1 slot 4).setBit Reg.ciphStatus 8 true).raise 2 (slotObjs bcast).2 slot
      (beBytes 8 lim ++ beBytes 8 u))
  else .next s

/-- R356: a Previous slot becomes Empty 8 frames after the switch. -/
def execPreviousSlotExpiry (bcast : Bool) (slot : Fin 16384) (s : State) : Host.Outcome State Fault Refusal :=
  if s.slotState bcast slot = 3 ∧ tabGet (fun _ => 0) s.ciph.prev (slotNo bcast slot) = 0 then
    .next (s.slotErase bcast slot)
  else .next s

/-- R359: a write of BcastKey, which waits for the Frame boundary. -/
def execBcastKeyWrite (m : Master) (slot : Fin 64) (key : List Byte) (s : State) : Host.Outcome State Fault Refusal :=
  .next (s.hostPend m .bcastKey slot key)

/-- R359: a write of ChannelBcastKeySwitch. -/
def execBcastKeySwitch (m : Master) (ch : Chan) (value : Nat) (s : State) : Host.Outcome State Fault Refusal :=
  .next (s.hostWrite m .channelBcastKeySwitch ch (beBytes 1 value) bcastSwitchEff)

/-- R360: a write of BcastKeyLock. -/
def execBcastKeyLock (m : Master) (slot : Fin 64) (value : Nat) (s : State) : Host.Outcome State Fault Refusal :=
  .next (s.hostWrite m .bcastKeyLock slot (beBytes 1 value) bcastLockEff)

/-- R360: a write of SaLock. -/
def execSaLock (m : Master) (sa : Sa) (value : Nat) (s : State) : Host.Outcome State Fault Refusal :=
  .next (s.hostWrite m .saLock sa (beBytes 1 value) saLockEff)

/-- R376: CIPH_KEY_CMD.ERASE. -/
def execCiphKeyErase (s : State) : Host.Outcome State Fault Refusal := .next s.keyEraseCmd

/-- R354: every 1 ms the mask generators are rekeyed from the entropy expansion, while the source is healthy and
ENTROPY_EN is 1 (R355). -/
def execMaskRekey (s : State) : Host.Outcome State Fault Refusal :=
  if s.n .entropyState 0 = 1 ∧ s.bit Reg.ciphCtrl 1 ∧ s.fabricRuns ∧ s.ciph.maskAt + Tm.ms ≤ s.now then
    let (k, t) := s.draw
    .next (t.setCiph fun c => { c with maskKey := expansion k, maskAt := t.now })
  else .next s

/-- R355: a health test fails. -/
def execEntropyTestFailure (s : State) : Host.Outcome State Fault Refusal :=
  if s.entropyRuns then
    let t := ((s.put .entropyState 0 2).bump .entropyFailures 0 1).setBit Reg.ciphStatus 6 true
    .next ((t.setCause 4).raiseFault .entropyState 0)
  else .next s

/-- R355: 1,024 consecutive samples pass both tests. -/
def execEntropyRecovery (s : State) : Host.Outcome State Fault Refusal :=
  .next (if s.entropyRuns then s.put .entropyState 0 1 else s)

end Sys2Proof.Machine
end

