-- ==== Sys2Proof/Machine/Profiles.lean ====
section
/-!
DEFINITION. Upstream rates and words (R78, R139, R152), burst profiles and their limits and defaults (R73 to R76, R519),
and the words that a burst takes.
-/

namespace Sys2Proof.Machine

/-! ### Words and bits -/

/-- `n` bits at a rate in 10 kb/s. -/
def bitSpan (rate n : Nat) : Time := if rate = 0 then 0 else n * 100000 * Tm.ns / rate

/-- Bits of an upstream word (R78). -/
def wordBits (gen : Nat) : Nat := if gen = 1 then 8 else 32

/-- Words of an upstream frame (R139). -/
def frameWordsOf (rate gen : Nat) : Nat := rate * 5 / 4 / wordBits gen

/-- The upstream frame delay (R77). -/
def upDelay : Time := 625000 * Tm.ns

/-- The fields of a burst in words (R152): header, PLOAM, report, trailer, FEC data and parity words. -/
structure BurstWords where
  header : Nat
  ploam : Nat
  report : Nat
  trailer : Nat
  data : Nat
  parity : Nat

/-- The table of R152. A GPON status report takes 2 words, the shortest of the three modes that the table admits. -/
def burstWords (gen : Nat) : BurstWords :=
  if gen = 1 then ⟨3, 13, 2, 0, 239, 16⟩
  else if gen = 4 then ⟨1, 12, 1, 1, 456, 84⟩
  else ⟨1, 12, 1, 1, 54, 8⟩

/-- Content with its FEC parity. -/
def withParity (b : BurstWords) (fec : Bool) (content : Nat) : Nat :=
  if fec then content + ceilDiv content b.data * b.parity else content

/-- The largest content that fits, with its parity, in a number of words. -/
def fitContent (b : BurstWords) (fec : Bool) (space : Nat) : Nat :=
  if fec then space / (b.data + b.parity) * b.data + (space % (b.data + b.parity) - b.parity) else space

/-! ### Limits and defaults by receive rate (R74, R75) -/

/-- R74's row of a rate: guard minimum, preamble minimum and maximum, delimiter lengths with their largest threshold. -/
structure RateLimits where
  guard : Nat
  preMin : Nat
  preMax : Nat
  delims : List (Nat × Nat)

def rateLimits (rate : Nat) : RateLimits :=
  if rate = 124416 then ⟨32, 64, 1024, [(16, 2), (20, 2), (24, 3)]⟩
  else if rate = 248832 then ⟨16, 80, 2048, [(32, 4), (64, 8)]⟩
  else if rate = 995328 then ⟨64, 96, 2048, [(32, 4), (64, 8)]⟩
  else if rate = 1244160 then ⟨32, 96, 2048, [(32, 4), (64, 8)]⟩
  else if rate = 2488320 then ⟨64, 128, 2048, [(32, 4), (64, 8)]⟩
  else ⟨128, 160, 2048, [(32, 4), (64, 8)]⟩

/-- The clock acquisition figure of a rate, in bits: 32 less than the shortest preamble (R74 note 2). -/
def acquisition (rate : Nat) : Nat := (rateLimits rate).preMin - 32

/-- The default profile of a rate (R75). A channel without a generation has the last row's until one is set (log entry
124). -/
def defaultProfile (rate : Nat) : Profile :=
  let pat : List Byte := List.replicate 8 0xAA
  if rate = 124416 then ⟨64, pat, 20, 0x35B27, 2, false⟩
  else if rate = 248832 then ⟨96, pat, 32, 0x9D3AC561, 3, true⟩
  else if rate = 995328 ∨ rate = 1244160 then ⟨128, pat, 32, 0x9D3AC561, 3, true⟩
  else if rate = 2488320 then ⟨160, pat, 64, 0x9D3AC56162C53A9E, 6, true⟩
  else ⟨192, pat, 64, 0x9D3AC56162C53A9E, 6, true⟩

namespace State

/-- A burst profile of a channel. -/
def profileOf (s : State) (ch p : Nat) : Profile :=
  let d := defaultProfile (s.upRate ch)
  let i := 4 * ch + p
  let num (o : Obj) (v : Nat) : Nat := if s.isSet o i then s.n o i else v
  ⟨num .burstProfilePreambleBits d.preamble,
   if s.isSet .burstProfilePreamblePattern i then s.oct .burstProfilePreamblePattern i else d.pattern,
   num .burstProfileDelimiterBits d.dbits, num .burstProfileDelimiter d.delimiter,
   num .burstProfileThreshold d.threshold, num .burstProfileFec (if d.fec then 1 else 0) != 0⟩

/-- ChannelUpGuard. -/
def guardOf (s : State) (ch : Nat) : Nat :=
  if s.isSet .channelUpGuard ch then s.n .channelUpGuard ch else (rateLimits (s.upRate ch)).guard

/-- Whether FEC protects bursts under a profile (R84). -/
def fecOf (s : State) (ch : Nat) (p : Profile) : Bool := s.gen ch == 4 || p.fec

/-- Words of the channel's upstream frame. -/
def frameWords (s : State) (ch : Nat) : Nat := frameWordsOf (s.upRate ch) (s.gen ch)

/-- The span of `k` upstream words. -/
def wordSpan (s : State) (ch k : Nat) : Time := bitSpan (s.upRate ch) (k * wordBits (s.gen ch))

/-- The burst fields of the channel. -/
def bwords (s : State) (ch : Nat) : BurstWords := burstWords (s.gen ch)

/-- The words between a burst's first occupied word and its StartTime (R152). -/
def leadOf (s : State) (ch : Nat) (p : Profile) : Nat :=
  ceilDiv (s.guardOf ch + p.preamble + p.dbits) (wordBits (s.gen ch))

/-- The bits of a serial-number or ranging response from its delimiter on: header, PLOAM message and trailer (R112). -/
def responseBits (s : State) (ch : Nat) (p : Profile) : Nat :=
  let b := s.bwords ch
  p.dbits + withParity b (s.fecOf ch p) (b.header + b.ploam + b.trailer) * wordBits (s.gen ch)

/-- The length of such a response under profile 0, from its first preamble bit. -/
def responseSpan (s : State) (ch : Nat) : Time :=
  let p := s.profileOf ch 0
  bitSpan (s.upRate ch) (p.preamble + s.responseBits ch p)

/-- G of R153: the words of the gap. -/
def gapWords (s : State) (ch : Nat) : Nat :=
  if s.on .channelGapMonitor ch then
    ceilDiv ((s.n .channelGapMinLen ch + 100) * Tm.ns) (max 1 (s.wordSpan ch 1))
  else 0

/-- The profile of a terminal's bursts on a channel (R112, R152): its own once it is in Operation. -/
def profileFor (s : State) (t ch : Nat) : Nat :=
  let st := s.stateOn t ch
  let p := s.n .terminalBurstProfile t
  if s.gen ch ≠ 1 ∧ (st = 4 ∨ st = 5) ∧ s.on .burstProfileEnable (4 * ch + p) then p else 0

/-! ### Writes of profiles (R73, R74, R76) -/

/-- Whether a profile keeps the limits of R74. -/
def profileOk (s : State) (ch p : Nat) : Bool :=
  let l := rateLimits (s.upRate ch)
  let f := s.profileOf ch p
  l.preMin ≤ f.preamble && f.preamble ≤ l.preMax && f.preamble % 8 == 0 &&
  (l.delims.any fun d => d.1 == f.dbits && f.threshold ≤ d.2) && f.delimiter < 2 ^ f.dbits

/-- The checks of the upstream receiver's writes at their boundary. -/
def upCheck (s t : State) (o : Obj) (i : Nat) : Nat :=
  match o with
  | .burstProfileEnable =>
    if t.on .burstProfileEnable i ∧ t.gen (i / 4) = 1 ∧ i % 4 ≠ 0 then Abort.range else Abort.ok
  | .burstProfilePreambleBits | .burstProfilePreamblePattern | .burstProfileDelimiterBits | .burstProfileDelimiter
  | .burstProfileThreshold | .burstProfileFec =>
    if s.on .burstProfileEnable i ∧ t.on .burstProfileEnable i ∧ s.gen (i / 4) = t.gen (i / 4) ∧
        s.upRate (i / 4) = t.upRate (i / 4) ∧ ¬ s.dark? .channelSnuffPhase (i / 4) then Abort.notDark
    else if t.gen (i / 4) ≠ 0 ∧ ¬ t.profileOk (i / 4) (i % 4) then Abort.range
    else Abort.ok
  | .channelUpGuard =>
    if t.gen i ≠ 0 ∧ t.guardOf i < (rateLimits (t.upRate i)).guard then Abort.range else Abort.ok
  | _ => Abort.ok

/-- The defaults of R75 applied: profile 0 enabled, the others disabled, and content and guard as the rate gives them. -/
def profileDefaults (s : State) (ch : Nat) : State :=
  let s := s.putVal .channelUpGuard ch .unset
  (List.range 4).foldl (fun t k =>
    let i := 4 * ch + k
    ([.burstProfilePreambleBits, .burstProfilePreamblePattern, .burstProfileDelimiterBits, .burstProfileDelimiter,
      .burstProfileThreshold, .burstProfileFec] : List Obj).foldl (fun u o => u.putVal o i .unset)
      (t.put .burstProfileEnable i (if k = 0 then 1 else 0))) s

/-! ### Spans and the pre-assigned delay (R110) -/

/-- Picoseconds as a span in units of 2^-32 ns. -/
def psSpan (ps : Int) : Int := ps * (Tm.ns : Nat) / 1000

/-- A span in whole picoseconds, to the nearest. -/
def spanPs (x : Int) : Int := (x * 1000 + 2147483648) / 4294967296

/-- A number of units of the channel's Ranging_Time message, which is one upstream bit, as a span. -/
def unitSpan (s : State) (ch : Nat) (units : Int) : Int := units * (100000 * (Tm.ns : Nat)) / (max 1 (s.upRate ch) : Nat)

/-- A span in the nearest whole number of units, ties upward. -/
def spanUnits (s : State) (ch : Nat) (x : Int) : Int :=
  (2 * x * (s.upRate ch : Nat) + 100000 * (Tm.ns : Nat)) / (200000 * (Tm.ns : Nat))

/-- The delays of the part and of the board on a channel. -/
def fixedDelay (s : State) (ch : Nat) : Int :=
  psSpan ((Config.devTxDelay ch : Int) + Config.devRxDelay ch + s.n .channelBoardTxDelay ch + s.n .channelBoardRxDelay ch)

/-- E_pre of R110, in units as announced. -/
def ePre (s : State) (ch : Nat) : Int :=
  s.spanUnits ch (((626000 - 35000) * (Tm.ns : Nat) : Int) - 9800 * (Tm.ns : Nat) * s.n .channelReachMin ch - s.fixedDelay ch)

/-! ### Announcement of profiles (R519) -/

/-- BURST_PROFILE_ANNOUNCEMENT: one profile with its content, and the pre-assigned delay (R110), while the channel sends
frames. -/
def announce (s : State) (ch p : Nat) : State :=
  if s.sending ch ∧ s.on .burstProfileEnable (4 * ch + p) then
    let f := s.profileOf ch p
    s.ploamAct ch .burstProfile 0xFFFF (s.broadcastOnu ch) [p, f.preamble, beNat f.pattern, f.dbits,
      f.delimiter, if f.fec then 1 else 0, twos 64 (s.ePre ch)]
  else s

/-- Every enabled profile announced. -/
def announceAll (s : State) (ch : Nat) : State := (List.range 4).foldl (fun t p => t.announce ch p) s

end State
end Sys2Proof.Machine
end

