-- ==== Sys2Proof/Machine/Activate.lean ====
section
/-!
DEFINITION. Activation and ranging, first part (R101 to R127): a terminal's record on its channels, the geometry of
windows, ranging arithmetic, entry to Idle, Lost and Operation, the discovery log, and the rules of writes.
-/

namespace Sys2Proof.Machine

namespace State

/-! ### Records -/

/-- A channel's activation record. -/
def act (s : State) (ch : Nat) : ActSt := tabGet (fun _ => ActSt.idle) s.acts ch

/-- A channel's activation record replaced. -/
def setAct (s : State) (ch : Nat) (r : ActSt) : State := { s with acts := tabPut (fun _ => ActSt.idle) s.acts ch r }

/-- A terminal's state on a side written. -/
def putT (s : State) (t k v : Nat) : State := s.put (side .terminalStateA .terminalStateB k) t v

/-- A wrapping 32-bit counter register advanced by one. -/
def wrapReg (s : State) (a : Nat) : State := s.putReg a ((s.reg a + 1) % 4294967296)

/-! ### Ranging arithmetic (R110, R113 to R115, R117) -/

/-- The default of ChannelAsymmetry (R117), zero for a channel without a generation. -/
def asymDefault (gen band : Nat) : Int :=
  if gen = 1 then 131500 else if gen = 2 ∨ gen = 3 then 268000
  else if gen = 4 then (if band = 0 then -4400 else 3450) else 0

/-- ChannelAsymmetry. -/
def asym (s : State) (ch : Nat) : Int := s.num .channelAsymmetry ch

/-- RTD_f of R115. -/
def rtdFibre (s : State) (ch : Nat) (rtd : Int) : Int := rtd - 35000 * (Tm.ns : Nat) - s.fixedDelay ch

/-- DsDelay of R115. -/
def dsDelay (s : State) (ch : Nat) (rtd : Int) : Int := s.rtdFibre ch rtd * (1000000000 + s.asym ch) / 2000000000

/-- Whether a new delay is out of reach (R114). -/
def outOfReach (s : State) (ch : Nat) (eqd rtd : Int) : Bool :=
  decide (eqd < 0) || decide (9800 * (Tm.ns : Nat) * (s.n .channelReachMax ch + 1 : Nat) < s.rtdFibre ch rtd)

/-- The round-trip delay and the fibre delay of a record shown. -/
def showRtd (s : State) (t k ch : Nat) (rtd : Int) : State :=
  let s := s.setSd t k { s.sd t k with rtd := rtd }
  let s := s.put (side .terminalRtdA .terminalRtdB k) t (spanPs rtd).toNat
  s.put (side .terminalDsDelayA .terminalDsDelayB k) t (spanPs (s.dsDelay ch rtd)).toNat

/-- The equalisation delay sent. -/
def showEqd (s : State) (t k ch : Nat) (eqd : Int) : State :=
  let s := s.setSd t k { s.sd t k with eqd := eqd }
  s.put (side .terminalEqdA .terminalEqdB k) t (spanPs (s.unitSpan ch eqd)).toNat

/-- The ranging record of a side cleared. -/
def clearRecord (s : State) (t k : Nat) : State :=
  ([side .terminalRtdA .terminalRtdB k, side .terminalDsDelayA .terminalDsDelayB k,
    side .terminalEqdA .terminalEqdB k] : List Obj).foldl (fun u o => u.put o t 0) s

/-! ### Messages of the engine -/

/-- Deactivate_ONU-ID, once or in three consecutive frames. -/
def deactivate (s : State) (t ch : Nat) (times : Nat := 3) : State :=
  s.ploamAct ch .deactivate t (s.n .terminalOnuIdAssigned t) [] times

/-- Disable_Serial_Number in three consecutive frames, to the broadcast ONU-ID: 1 disables, 0 is the enable option. -/
def disableSerial (s : State) (ch t : Nat) (serial : List Byte) (disable : Bool) : State :=
  s.ploamAct ch .disableSerial t (s.broadcastOnu ch) ((if disable then 1 else 0) :: serial.map BitVec.toNat) 3

/-! ### Entry to Idle (R101, R122) -/

/-- The terminal's frames purged from its downstream queues and its OMCI path, with their count. -/
def purgeQueues (s : State) (t : Nat) (count : State → State) : State :=
  let s := (s.queuesOf t).foldl (fun u q =>
    (u.queue q).foldl (fun v d => count (v.releaseFrame d.cell d.owner)) (u.setQueue q [])) s
  s.setOmci t []

/-- Idle on a channel: no grants and no ranging record; once Idle on every channel, no ONU-ID. -/
def goIdle (s : State) (t ch : Nat) : State :=
  match s.sideOn t ch with
  | some k =>
    let s := ((s.putT t k 0).clearRecord t k).setSd t k SideSt.idle
    let s := s.setLane ch { s.lane ch with lastActive := s.now }
    if (s.chansOf t).all fun c => s.stateOn t c == 0 then
      ((s.put .terminalOnuIdAssigned t 0xFFFF).put .terminalPowerState t 0).setTerm t
        { s.term t with aware := false, emptySince := none, wakeFrame := none, reqFrom := none }
    else s
  | none => s

/-- R101 note 1: a failed activation. -/
def activationFails (s : State) (t ch : Nat) : State := (s.deactivate t ch 1).goIdle t ch

/-- The actions of R122, the event among them. What the channels of a bonded terminal share, its queues and key slots,
goes once it is Idle on both. -/
def lostActions (s : State) (t ch : Nat) : State :=
  let old := s.stateOn t ch
  let s := (s.deactivate t ch).goIdle t ch
  let s := match s.sideOn t ch with
    | some k => s.raiseChange (side .terminalStateA .terminalStateB k) t old 0
    | none => s
  if (s.chansOf t).all fun c => s.stateOn t c == 0 then
    (s.purgeQueues t fun u => u.bump .queueAbsentDrops 0 1).keysDiscard t
  else s

/-- Lost entered on a channel (R120, R121, R127): recovery grants, and downstream frames sent on. -/
def enterLost (s : State) (t ch : Nat) : State :=
  match s.sideOn t ch with
  | some k =>
    let s := (s.putT t k 5).setSd t k { s.sd t k with lostAt := s.now, absent := 0, recovered := false }
    let s := ((s.setBit (Reg.actStatus ch) 3 true).bumpReg (Reg.actLostCnt ch) 1).count 0x401 ch 1
    s.put .terminalPowerState t 0
  | none => s

/-! ### Admission (R103 to R105, R108) -/

/-- The used entry of the admission list with a serial number: its instance. -/
def admitEntry (s : State) (serial : List Byte) : Option Nat :=
  (s.listed .admitAction).find? fun i => s.n .admitAction i != 0 && s.oct .admitSerial i == serial

/-- Whether an ONU-ID is free on a channel. -/
def onuFree (s : State) (ch id : Nat) : Bool := (s.terminalsOn ch).all fun t => s.n .terminalOnuIdAssigned t != id

/-- Number of ONU-IDs of a generation. -/
def onuIds (gen : Nat) : Nat := if gen = 1 then 254 else 1023

/-- The ONU-ID for a terminal (R103): the one that it holds, else the one requested, else the lowest that is free on
every channel of its group. -/
def onuFor (s : State) (t : Nat) : Option Nat :=
  let have_ := s.n .terminalOnuIdAssigned t
  let cs := s.chansOf t
  let ok (id : Nat) : Bool := cs.all fun c => id < onuIds (s.gen c) && s.onuFree c id
  if have_ ≠ 0xFFFF then some have_
  else
    let want := s.n .terminalOnuId t
    if want ≠ 0xFFFF then (if ok want then some want else none)
    else (List.range 1023).find? ok

/-- Whether a serial number is quarantined (R131). -/
def quarantined (s : State) (serial : List Byte) : Bool :=
  (s.nvm.quarantined.any fun q => q.2.2 == serial) || s.lan.rogueExtra.contains serial

/-- The terminal already bound on a channel, in a state other than Idle, under a serial number. -/
def boundAs (s : State) (ch : Nat) (serial : List Byte) : Option Nat :=
  (s.activeOn ch).find? fun t => s.oct .terminalSerial t == serial

/-- The decision of R105: none admits, else the log reason. -/
def admission (s : State) (ch : Nat) (serial : List Byte) : Option Nat :=
  if s.quarantined serial then some 9
  else if (s.act ch).serials.contains serial then some 6
  else
    match s.admitEntry serial with
    | none => some 0
    | some i =>
      let t := s.n .admitTerminal i
      if s.n .admitAction i = 2 then some 1
      else if s.n .admitAction i = 3 then some 2
      else if ¬ s.on .terminalEnable t ∨ s.n .terminalSnuffPhase t ≠ 0 then some 4
      else if (s.sideOn t ch).isNone then some 3
      else if (s.act ch).lockouts.any fun x => x.1 == serial && s.now < x.2 then some 7
      else if 512 ≤ ((s.activeOn ch).filter fun x => x != t).length then some 5
      else if (s.onuFor t).isNone then some 8
      else none

/-- The log instance for a serial number: its own entry, else the one with the oldest DiscoveredTime (R108). -/
def logIndex (s : State) (serial : List Byte) : Bool × Nat :=
  match (s.listed .discoveredCount).find? fun i => s.oct .discoveredSerial i == serial with
  | some i => (false, i)
  | none => (true, (List.range 256).foldl (fun a i => if s.n .discoveredTime i < s.n .discoveredTime a then i else a) 0)

/-- DISCOVERY_LOG_UPDATE. -/
def logResponse (s : State) (ch : Nat) (serial : List Byte) (reason : Nat) : State :=
  let (fresh, i) := s.logIndex serial
  let s := (s.putOct .discoveredSerial i serial).put .discoveredCount i (if fresh then 1 else s.n .discoveredCount i + 1)
  let s := ((s.put .discoveredChannel i ch).put .discoveredTime i s.wick).put .discoveredReason i reason
  let s := s.setBit (Reg.actStatus ch) 4 true
  let due := fresh || (match tabFind s.logEvents i with | some t => decide (t + 60 * Tm.s ≤ s.now) | none => true)
  if due then
    { s.raiseRefusal .discoveredSerial i reason (serial ++ beBytes 1 ch) with
      logEvents := tabPlace (tabErase s.logEvents i) i s.now }
  else s

/-- A serial-number response that is not admitted. -/
def refuseResponse (s : State) (ch : Nat) (serial : List Byte) (reason : Nat) : State :=
  let s := if reason = 5 then s.setBit (Reg.actStatus ch) 5 true else s
  let s := if reason = 9 ∨ reason = 2 ∨ (reason = 0 ∧ s.on .channelDisableUnlisted ch) then
      s.disableSerial ch 0xFFFF serial true else s
  s.logResponse ch serial reason

/-- An admission: Assigning, with Assign_ONU-ID sent, the initial preset seeded (R31) and the recommended code published
(R29). An instance in a state other than Idle under another serial number takes the new one (log entry 125). -/
def admitNow (s : State) (ch t : Nat) (serial : List Byte) (delim : Time) (start : Time) (code : Nat) : State :=
  match s.sideOn t ch, s.onuFor t with
  | some k, some onu =>
    let s := (s.putOct .terminalSerial t serial).put .terminalOnuIdAssigned t onu
    let s := ((s.putT t k 1).put (presetObj k) t code).eqCount ch t k code
    let s := s.setSd t k { SideSt.idle with admitted := s.now, offset := delim - (start + Tm.us), seeded := true }
    s.ploamAct ch .assignOnuId t (s.broadcastOnu ch) (onu :: serial.map BitVec.toNat)
  | _, _ => s

/-- A decoded serial-number response in a window (R105, R111). While a hunt runs nothing joins (R132). -/
def snResponse (s : State) (ch : Nat) (w : QuietWin) (serial : List Byte) (delim : Time) (code : Nat) : State :=
  let a := s.act ch
  if 32 ≤ a.decoded then s.bump .channelSnResponsesExcess ch 1
  else
    let s := ((s.setAct ch { a with decoded := a.decoded + 1 }).wrapReg (Reg.actSnAcqCnt ch)).count 0x400 ch 1
    let s := s.laneWake ch
    if s.n .channelSnuffPhase ch ≠ 0 ∨ (s.act ch).hunt.isSome then s
    else
      let r := s.admission ch serial
      let s := s.setAct ch { s.act ch with serials := (s.act ch).serials ++ [serial] }
      match r with
      | some reason => s.refuseResponse ch serial reason
      | none =>
        let s := match s.boundAs ch serial with
          | some t => (s.lostActions t ch).setAct ch { s.act ch with resets := (s.act ch).resets + 1 }
          | none => s
        match s.admitEntry serial with
        | some i => s.admitNow ch (s.n .admitTerminal i) serial delim w.start code
        | none => s

/-! ### The search in a window (R82) -/

/-- The position that the search takes, from bit `from_` on: the first within the threshold, then the one of least distance
among it and as many positions after it as the delimiter has bits, the earliest on ties. -/
def findResponse (p : Profile) (hits : List (Nat × Nat)) (from_ : Nat) : Option Nat :=
  let near := hits.filter fun h => decide (from_ ≤ h.1) && decide (h.2 ≤ p.threshold)
  let first := near.foldl (fun (a : Option Nat) h => match a with
    | some x => if h.1 < x then some h.1 else a
    | none => some h.1) none
  first.bind fun x =>
    let best := (near.filter fun h => decide (h.1 ≤ x + p.dbits)).foldl (fun (a : Option (Nat × Nat)) h => match a with
      | some b => if h.2 < b.2 ∨ (h.2 = b.2 ∧ h.1 < b.1) then some h else a
      | none => some h) none
    best.map fun b => b.1

/-- A window that has closed is kept for a millisecond (R92). -/
def windowPast (s : State) (ch : Nat) (lo hi : Time) : State :=
  let a := s.act ch
  s.setAct ch { a with pastWins := (a.pastWins.filter fun w => decide (s.wick < w.2 + Tm.ms)) ++ [(lo, hi)] }

/-- A bit position of a window with the sampling phase as a span. -/
def bitTime (s : State) (ch pos phase : Nat) : Time := bitSpan (s.upRate ch) (64 * pos + phase) / 64

/-- A good ranging response with the Wick time of its delimiter (R113, R114): out of reach, the activation fails with an
event; else Ranging_Time is sent. -/
def ranged (s : State) (ch t k : Nat) (w : RangeWin) (delim : Time) (code : Nat) : State :=
  let d := w.prof.dbits
  let rtd : Int := (delim : Int) - (w.frame * Tm.frame : Nat) - s.wordSpan ch w.start + bitSpan (s.upRate ch) d
    - s.unitSpan ch w.ePre
  let eqd := s.spanUnits ch ((upDelay : Int) - rtd)
  let s := (s.windowPast ch w.lo w.hi).setLane ch { s.lane ch with code := w.code }
  let s := if (s.sd t k).seeded then s else s.put (presetObj k) t code
  let s := s.eqCount ch t k code
  if s.outOfReach ch eqd rtd then
    (s.activationFails t ch).raiseChange (side .terminalStateA .terminalStateB k) t 2 0 (beBytes 4 (twos 32 (spanPs rtd)))
  else
    let s := ((s.setSd t k { s.sd t k with window := none, seeded := true }).showEqd t k ch eqd).showRtd t k ch rtd
    (s.putT t k 3).ploamAct ch .rangingTime t (s.n .terminalOnuIdAssigned t) [eqd.toNat]

/-! ### Windows (R109, R110) -/

/-- Whether a channel's windows are scheduled: the channel sends frames, Lantern is available, no hunt runs, and the
channel is not in Snuff (R109, R487). -/
def windowsRun (s : State) (ch : Nat) : Bool :=
  s.sending ch && s.avail && (s.act ch).hunt.isNone && s.n .channelSnuffPhase ch == 0 && s.bit (Reg.actCtrl ch) 0

/-- Whether frame `f` starts at the first Frame boundary at or after k × ChannelQuietPeriod + n × ChannelQuietPeriod / 32
for some k. -/
def periodic (s : State) (ch f : Nat) : Bool :=
  let per := s.n .channelQuietPeriod ch * Tm.ms
  let off := ch * per / 32
  let t := f * Tm.frame
  per != 0 && off ≤ t && t < (t - off) / per * per + off + Tm.frame

/-- ChannelQuietNext: the start of the next fixed window, one that has not begun. -/
def quietNext (s : State) (ch : Nat) : State :=
  s.put .channelQuietNext ch (((s.act ch).wins.filter fun w => s.wick < w.start).foldl
    (fun a w => if a = 0 ∨ w.start < a then w.start else a) 0)

/-- A window fixed for the map of frame `f`, with the announcement of the profiles (R519). -/
def fixWindow (s : State) (ch f : Nat) : State :=
  let w : QuietWin := ⟨f, f * Tm.frame + upDelay, s.n .channelQuietLength ch * Tm.us, s.profileOf ch 0,
    s.n .channelEqDefault ch, 0⟩
  let a := s.act ch
  ((s.setAct ch { a with wins := a.wins ++ [w], extra := a.extra.filter fun x => x != f, served := f }).quietNext ch).announceAll ch

/-- The geometry of R110. -/
def geometryOk (t : State) (ch : Nat) : Bool :=
  let lo := t.n .channelReachMin ch
  let hi := t.n .channelReachMax ch
  hi ≤ 60 && lo < hi && hi - lo ≤ 40 && 98 * (hi - lo) + 520 ≤ 10 * t.n .channelQuietLength ch

/-- A write of ChannelQuietAt: the first Frame boundary at or after the time must lie 1 ms ahead. -/
def quietAtEff : Eff := fun s _ ch bs =>
  let f := ceilDiv (beNat bs) Tm.frame
  if f * Tm.frame < s.wick + Tm.ms then (s, Abort.range)
  else (s.setAct ch { s.act ch with extra := (s.act ch).extra ++ [f] }, Abort.ok)

/-! ### The rules of writes (R103, R104, R110, R134) -/

/-- Instances of the admission list in use. -/
def admitUsed (t : State) : List Nat := (t.listed .admitAction).filter fun i => t.n .admitAction i != 0

/-- The rules of R104 on one entry against the others. -/
def admitOk (t : State) (i : Nat) : Bool :=
  t.n .admitAction i == 0 ||
  ((t.n .admitAction i != 1 || t.n .admitTerminal i ≤ 8191) &&
   t.admitUsed.all fun j => j == i || (t.oct .admitSerial j != t.oct .admitSerial i &&
     !(t.n .admitAction i == 1 && t.n .admitAction j == 1 && t.n .admitTerminal j == t.n .admitTerminal i)))

/-- Whether two terminals share a channel. -/
def shareChannel (t : State) (a b : Nat) : Bool := (t.chansOf a).any fun c => (t.chansOf b).contains c

/-- The checks of activation writes at their boundary. -/
def actCheck (s t : State) (o : Obj) (i : Nat) : Nat :=
  match o with
  | .terminalChannel | .terminalBonded =>
    if ¬ s.dark? .terminalSnuffPhase i then Abort.notDark
    else if t.bonded i ∧ (t.chanA i % 2 = 1 ∨ 32 ≤ t.chanA i ∨ t.pairMode (t.chanA i) ≠ 2) then Abort.range
    else Abort.ok
  | .terminalOnuId =>
    let v := t.n .terminalOnuId i
    if v = 0xFFFF then Abort.ok
    else if 1022 < v then Abort.range
    else if (t.withNum .terminalOnuId v).any fun u => u != i && t.shareChannel u i then Abort.range
    else Abort.ok
  | .terminalEnable =>
    if t.on .terminalEnable i ∧ (s.n .terminalSnuffPhase i = 1 ∨ s.n .terminalSnuffPhase i = 2) then Abort.inSnuff
    else Abort.ok
  | .admitSerial | .admitAction | .admitTerminal => if t.admitOk i then Abort.ok else Abort.range
  | .channelQuietLength | .channelReachMin | .channelReachMax => if t.geometryOk i then Abort.ok else Abort.range
  | _ => Abort.ok

/-- The power-saving modes' bit of a state, 0 for states without one. -/
def modeBit (p : Nat) : Nat := if p = 2 then 1 else if p = 3 then 2 else if p = 4 then 4 else 0

/-- What activation writes do beyond storing; enables are applied with the Snuffs. -/
def actApply (s : State) (o : Obj) (i : Nat) : State :=
  match o with
  | .terminalForceAwake =>
    if s.on .terminalForceAwake i then
      let s := if s.n .terminalPowerState i = 1 then (s.put .terminalPowerState i 0).sleepAllow i false else s
      s.wake i
    else s
  | .terminalPowerModes =>
    let p := s.n .terminalPowerState i
    if p = 1 ∧ s.n .terminalPowerModes i = 0 then (s.put .terminalPowerState i 0).sleepAllow i false
    else if modeBit p ≠ 0 ∧ s.n .terminalPowerModes i &&& modeBit p = 0 then s.wake i
    else s
  | .channelAsymmetry => { s with lan := { s.lan with asymHost := i :: s.lan.asymHost.filter fun ch => ch != i } }
  | .flowEncrypt | .flowPortId | .flowPortIdB | .flowTerminal | .flowBondMode =>
    let t := s.n .flowTerminal i
    if s.avail ∧ (o = .flowEncrypt ∨ s.on .flowEncrypt i) then ((s.chansOf t).filter fun c => s.inService t c).foldl (fun u c => u.encryptedPort c i) s else s
  | .burstProfileEnable => if s.on .burstProfileEnable i then s.announce (i / 4) (i % 4) else s
  | _ => s

/-- ChannelAsymmetry set to its default as the channel leaves Off, unless a value has been written (R117). -/
def asymLoad (s : State) (ch : Nat) : State :=
  if s.lan.asymHost.contains ch then s
  else s.puti .channelAsymmetry ch (asymDefault (s.gen ch) (s.n .channelUpBand ch))

/-- ACTIVATION_ABORT (R107): terminals in activation whose entry the writes of the boundary have removed or changed. -/
def activationAborts (s t : State) : State :=
  let entry (x : State) (serial : List Byte) : Option (Nat × Nat × List Byte) :=
    (x.admitEntry serial).map fun i => (x.n .admitAction i, x.n .admitTerminal i, x.oct .admitRegistrationId i)
  let hit (u : Nat) (k : Nat) : Bool :=
    let st := t.tstate u k
    1 ≤ st && st ≤ 3 && entry s (s.oct .terminalSerial u) != entry t (s.oct .terminalSerial u)
  (t.terms.map fun p => p.1).foldl (fun v u =>
    let v := if hit u 0 then v.activationFails u (v.chanOf u 0) else v
    if hit u 1 then v.activationFails u (v.chanOf u 1) else v) t

/-! ### The engine's work at a Frame boundary -/

/-- The instant from which the terminal's downstream queues are empty (R123 note 2). -/
def noteEmpty (s : State) (t : Nat) : State :=
  if (s.term t).emptySince.isNone ∧ (s.omci t).isEmpty ∧ (s.queuesOf t).all (fun q => (s.queue q).isEmpty) then
    s.setTerm t { s.term t with emptySince := some s.now }
  else s

/-- A terminal's channel on a side at a Frame boundary: Operation entered (R106), Lost left (R122). Lantern asks for its
allocations to be assigned where `assign` says how. -/
def sideFrame (s : State) (t k : Nat) : State :=
  let r := s.sd t k
  if s.tstate t k = 3 ∧ r.accepted then
    (((s.putT t k 4).setSd t k { r with accepted := false, ploam := false, absent := 0 }).noteEmpty t).gponBind (s.chanOf t k) t
  else if s.tstate t k = 5 ∧ r.recovered then (s.putT t k 4).setSd t k { r with recovered := false, absent := 0 }
  else s

/-- What the messages of a frame announce is noted: the pre-assigned delay (R110); and the frame in which Assign_ONU-ID
went fixes the frame of the ranging grant, two frames on (R112). -/
def noteSent (s : State) (ch : Nat) : State :=
  let f := s.framer ch
  let s := ((f.noted.filter fun p => p.1 == Ploam.burstProfile).map fun p => p.2.2.getLastD 0).foldl (fun u e =>
    u.setAct ch { u.act ch with ePre := signed 64 e }) s
  (f.noted.filter fun p => p.1 == Ploam.assignOnuId).foldl (fun u p =>
    match u.sideOn p.2.1 ch with
    | some k => if u.tstate p.2.1 k = 1 then u.setSd p.2.1 k { u.sd p.2.1 k with rangeAt := some (u.frameNo + 2) } else u
    | none => u) (s.setFramer ch { f with noted := f.noted.filter fun p => p.1 == Ploam.assignAllocId })

/-- The whole engine's work at a Frame boundary. -/
def actFrame (s : State) : State :=
  (s.terms.map fun p => p.1).foldl (fun u t => (u.sideFrame t 0).sideFrame t 1) s

/-! ### Drift (R118 to R120) -/

/-- A drift report acted on, `recent` being the offsets of the last Good bursts with the reporting burst: Ranging_Time with
the corrected delay. Where that is out of reach, an activation fails, and a terminal in Operation enters Lost (R101,
R120). -/
def driftCorrection (s : State) (t k ch : Nat) (recent : List Int) : State :=
  let r := s.sd t k
  let st := s.tstate t k
  if st < 3 ∨ 5 < st then s
  else if r.correction.isSome then s.setAct ch { s.act ch with driftIgnored := (s.act ch).driftIgnored + 1 }
  else
    let n : Int := (max 1 recent.length : Nat)
    let total := recent.foldl (· + ·) 0
    let eqd := (128 * n * r.eqd - 2 * total + 64 * n) / (128 * n)
    let rtd := (upDelay : Int) - s.unitSpan ch r.eqd + s.unitSpan ch total / (64 * n)
    if s.outOfReach ch eqd rtd then
      (if st = 3 then s.activationFails t ch else if st = 4 then s.enterLost t ch else s)
    else
      let s := (s.showEqd t k ch eqd).setSd t k { (s.showEqd t k ch eqd).sd t k with correction := some s.frameNo, ploam := true }
      let s := ((s.put .terminalEqdCorrections t ((s.n .terminalEqdCorrections t + 1) % 4294967296)).wrapReg (Reg.actEqdCorrCnt ch)).count 0x402 ch 1
      (s.setBit (Reg.actStatus ch) 2 true).ploamAct ch .rangingTime t (s.n .terminalOnuIdAssigned t) [eqd.toNat]

/-- RTD_UPDATE: the record replaced from the second's mean offset. -/
def rtdSecond (s : State) (t k : Nat) : State :=
  let r := s.sd t k
  if r.number = 0 ∨ s.tstate t k < 3 ∨ 5 < s.tstate t k then s
  else
    let ch := s.chanOf t k
    let s := s.setSd t k { r with sum := 0, number := 0 }
    let mean := s.unitSpan ch r.sum / (64 * (r.number : Int))
    s.showRtd t k ch ((upDelay : Int) - s.unitSpan ch r.eqd + mean)

/-- RTD_UPDATE for every terminal. -/
def rtdUpdate (s : State) : State :=
  (s.terms.map fun p => p.1).foldl (fun u t => (u.rtdSecond t 0).rtdSecond t 1) s

end State

open State

/-! ### Windows, admission and ranging -/

/-- R109: at a Frame boundary, 1 ms before it begins, the window that the map of the third frame from now grants is fixed. -/
def execQuietWindowFixed (ch : Chan) (s : State) : Host.Outcome State Fault Refusal :=
  let f := s.frameNo + 3
  let a := s.act ch
  if s.atFrame ∧ s.windowsRun ch ∧ (s.periodic ch f ∨ a.extra.contains f) ∧ ¬ (a.wins.any fun w => w.frame == f) then
    .next (s.fixWindow ch f)
  else .next s

/-- R109: a host write of ChannelQuietAt. -/
def execQuietAt (m : Master) (ch : Chan) (time : Nat) (s : State) : Host.Outcome State Fault Refusal :=
  .next (s.hostWrite m .channelQuietAt ch (beBytes 12 time) quietAtEff)

/-- R136: ACT_CTRL.QUIET_NOW adds a window at the first Frame boundary at least 1 ms ahead. -/
def execQuietNow (ch : Chan) (s : State) : Host.Outcome State Fault Refusal :=
  .next (s.setAct ch { s.act ch with extra := (s.act ch).extra ++ [ceilDiv (s.wick + Tm.ms) Tm.frame] })

/-- R82, R105, R111: a response in the window that is open, as the search finds it among the positions `hits` (bits from
the window's start) at which the delimiter lies within some distance; `phase` is its sampling phase and `good` says that
header and PLOAM message pass. -/
def execSerialNumberResponse (ch : Chan) (hits : List (Nat × Nat)) (phase : Fin 64) (good : Bool) (serial : Vector Byte 8)
    (code : Fin 16) (s : State) : Host.Outcome State Fault Refusal :=
  match (s.act ch).wins with
  | w :: rest =>
    if s.sending ch ∧ w.start ≤ s.wick then
      match findResponse w.prof hits w.next with
      | some pos =>
        let delim := w.start + s.bitTime ch pos phase
        if delim < w.start + w.len then
          let s := s.setAct ch { s.act ch with wins := { w with next := pos + s.responseBits ch w.prof } :: rest }
          .next (if good then s.snResponse ch w serial.toList delim code else s)
        else .next s
      | none => .next s
    else .next s
  | [] => .next s

/-- R82, R113, R114: a response of the terminal in its ranging window, found as a serial-number response is. -/
def execRangingResponse (ch : Chan) (t : Term) (hits : List (Nat × Nat)) (phase : Fin 64) (good : Bool) (code : Fin 16)
    (s : State) : Host.Outcome State Fault Refusal :=
  match s.sideOn t ch with
  | some k =>
    let r := s.sd t k
    match r.window with
    | some w =>
      match findResponse w.prof hits w.next with
      | some pos =>
        let delim := w.lo + s.bitTime ch pos phase
        if s.tstate t k = 2 ∧ delim < w.hi then
          if good then .next (s.ranged ch t k w delim code)
          else .next (s.setSd t k { r with window := some { w with next := pos + s.responseBits ch w.prof } })
        else .next s
      | none => .next s
    | none => .next s
  | none => .next s

/-- R112: a ranging window ends without a good response: tried again in the next epoch, and deactivated after the third
failure. -/
def execRangingWindowEnd (ch : Chan) (t : Term) (s : State) : Host.Outcome State Fault Refusal :=
  match s.sideOn t ch with
  | some k =>
    let r := s.sd t k
    match r.window with
    | some w =>
      if s.tstate t k = 2 ∧ w.hi ≤ s.wick then
        let s := s.windowPast ch w.lo w.hi
        if 2 ≤ r.attempts then .next (s.activationFails t ch)
        else .next (s.setSd t k { r with window := none, attempts := r.attempts + 1, retry := true })
      else .next s
    | none => .next s
  | none => .next s

/-! ### Registration (R106) -/

/-- R106: Request_Registration, or Request_Password on GPON, at most three times, 20 ms apart; the map grants the reply. -/
def execRegistrationRequest (ch : Chan) (t : Term) (s : State) : Host.Outcome State Fault Refusal :=
  match s.sideOn t ch with
  | some k =>
    let r := s.sd t k
    if s.avail ∧ s.tstate t k = 3 ∧ ¬ r.accepted ∧ r.asked < 3 ∧ (r.asked = 0 ∨ r.askedAt + 20 * Tm.ms ≤ s.now) then
      let s := s.setSd t k { r with asked := r.asked + 1, askedAt := s.now, ploam := true }
      .next (s.ploamLan ch .requestRegistration t (s.n .terminalOnuIdAssigned t) [])
    else .next s
  | none => .next s

/-- R106: a valid registration reply compared with the entry of the terminal's serial number. -/
def execRegistrationReply (ch : Chan) (t : Term) (id : List Byte) (s : State) : Host.Outcome State Fault Refusal :=
  match s.sideOn t ch with
  | some k =>
    let r := s.sd t k
    if s.avail ∧ s.tstate t k = 3 ∧ ¬ r.accepted ∧ r.asked ≠ 0 then
      let s := s.putOct .terminalRegistrationId t id
      let want := match s.admitEntry (s.oct .terminalSerial t) with
        | some i => s.oct .admitRegistrationId i
        | none => []
      if want = [] ∨ want = id then
        let (mik, s) := s.draw
        .next (s.setSd t k { r with accepted := true, ploam := false, mik := some mik })
      else
        let serial := s.oct .terminalSerial t
        let s := (s.activationFails t ch).setBit (Reg.actStatus ch) 7 true
        let a := s.act ch
        .next (s.setAct ch { a with lockouts :=
          (a.lockouts.filter fun x => x.1 != serial) ++ [(serial, s.now + s.n .channelAuthLockout ch * Tm.s)] })
    else .next s
  | none => .next s

/-- R106: no valid reply 20 ms after the third request. -/
def execRegistrationTimeout (ch : Chan) (t : Term) (s : State) : Host.Outcome State Fault Refusal :=
  match s.sideOn t ch with
  | some k =>
    let r := s.sd t k
    if s.tstate t k = 3 ∧ ¬ r.accepted ∧ r.asked = 3 ∧ r.askedAt + 20 * Tm.ms ≤ s.now then .next (s.activationFails t ch)
    else .next s
  | none => .next s

/-- R106: a lockout runs out. -/
def execAuthLockoutExpiry (ch : Chan) (serial : Vector Byte 8) (s : State) : Host.Outcome State Fault Refusal :=
  let a := s.act ch
  .next (s.setAct ch { a with lockouts := a.lockouts.filter fun x => !(x.1 == serial.toList && decide (x.2 ≤ s.now)) })

/-! ### Service, loss and power saving -/

/-- R119: on GPON a correction stops being outstanding after 8 frames. -/
def execDriftCorrectionTimeout (ch : Chan) (t : Term) (s : State) : Host.Outcome State Fault Refusal :=
  match s.sideOn t ch with
  | some k =>
    match (s.sd t k).correction with
    | some f => if s.gen ch = 1 ∧ f + 8 ≤ s.frameNo then .next (s.setSd t k { s.sd t k with correction := none }) else .next s
    | none => .next s
  | none => .next s

/-- R121: at a Frame boundary, an awake terminal with ChannelLossBursts consecutive absent bursts is Lost. -/
def execTerminalLost (ch : Chan) (t : Term) (s : State) : Host.Outcome State Fault Refusal :=
  match s.sideOn t ch with
  | some k =>
    if s.tstate t k = 4 ∧ s.n .terminalPowerState t ≤ 1 ∧ s.n .channelLossBursts ch ≤ (s.sd t k).absent ∧
        s.wick % Tm.frame = 0 then .next (s.enterLost t ch)
    else .next s
  | none => .next s

/-- R122: ChannelLostHold without a Good burst. -/
def execLostHoldExpiry (ch : Chan) (t : Term) (s : State) : Host.Outcome State Fault Refusal :=
  match s.sideOn t ch with
  | some k =>
    let r := s.sd t k
    if s.tstate t k = 5 ∧ ¬ r.recovered ∧ r.lostAt + s.n .channelLostHold ch * Tm.ms ≤ s.now then
      .next (s.lostActions t ch)
    else .next s
  | none => .next s

/-- R123, R126: a Sleep_Request: 0 awake, 1 doze, 2 sleep, 3 watchful sleep. A wake cause of the same frame decides the
state, whichever came first. -/
def execSleepRequest (t : Term) (mode : Fin 4) (s : State) : Host.Outcome State Fault Refusal :=
  let p := s.n .terminalPowerState t
  let woken : Bool := (s.term t).wakeFrame == some s.frameNo
  if ¬ s.inServiceAny t then .next s
  else
    let s := s.setTerm t { s.term t with reqFrom := some (s.frameNo, p) }
    if mode = 0 then
      if p < 2 ∨ (p = 5 ∧ woken) then .next s
      else
        let s := (s.put .terminalPowerState t 0).setTerm t { s.term t with aware := false }
        .next (if p = 5 then s else s.sleepAllow t false)
    else if s.n .terminalPowerModes t / 2 ^ (mode.val - 1) % 2 = 0 then
      .next ((if p = 5 ∧ woken then s else s.put .terminalPowerState t 0).sleepAllow t false)
    else if p = 0 ∨ p = 5 then .next s
    else
      let s := (s.put .terminalPowerState t (mode.val + 1)).setTerm t { s.term t with
        aware := false, lastGood := s.now, aliveFrom := s.frameNo }
      if woken then .next (s.wake t) else .next s

/-- R123: Sleep_Allow(ON), once the terminal's downstream queues have been empty for TerminalAwakeHold. -/
def execSleepAllow (t : Term) (s : State) : Host.Outcome State Fault Refusal :=
  match (s.term t).emptySince with
  | some e =>
    if s.avail ∧ s.inServiceAny t ∧ s.n .terminalPowerState t = 0 ∧ s.n .terminalPowerModes t ≠ 0 ∧
        ¬ s.on .terminalForceAwake t ∧ s.n .terminalSnuffPhase t = 0 ∧ e + s.n .terminalAwakeHold t * Tm.ms ≤ s.now then
      .next ((s.put .terminalPowerState t 1).sleepAllow t true)
    else .next s
  | none => .next s

/-- R125: an aware period ends. -/
def execAwarePeriodEnd (t : Term) (s : State) : Host.Outcome State Fault Refusal :=
  let r := s.term t
  if r.aware ∧ r.lastGood + s.n .terminalAwareInterval t * Tm.ms ≤ s.now then .next (s.setTerm t { r with aware := false })
  else .next s

/-- R127: a terminal that saves power sends no Good burst for its interval. -/
def execSleepLoss (ch : Chan) (t : Term) (s : State) : Host.Outcome State Fault Refusal :=
  let r := s.term t
  if s.inService t ch ∧ 2 ≤ s.n .terminalPowerState t ∧
      r.lastGood + (s.n .terminalSleepInterval t + s.n .terminalAwareInterval t + 2) * Tm.ms ≤ s.now then
    .next (s.enterLost t ch)
  else .next s

end Sys2Proof.Machine
end

