-- ==== Sys2Proof/Machine/Time.lean ====
section
/-!
DEFINITION. The commands of Wick and of the time pins (R178 to R208, R212): settings and steps, copies of the counter,
the oven, domain inputs, the oscillator model, triggers, captures and transmit timestamps.
-/

namespace Sys2Proof.Machine

namespace State

/-! ### Transmit timestamps (R200 to R202) -/

/-- A delay in picoseconds as Wick time. -/
def psTime (ps : Int) : Int := ps * (Tm.ns : Nat) / 1000

/-- The 64.16 stamp of an instant in Wick time with a correction in picoseconds (R200): the nearest quantum of 0.2 ns, as
the nearest value that the fraction holds. -/
def stampOf (at_ : Time) (ps : Int) : Nat :=
  let q := ((at_ : Int) * 5000 + ps * 5 * (Tm.ns : Nat) + 500 * (Tm.ns : Nat)) / (1000 * (Tm.ns : Nat))
  ((q * 131072 + 5) / 10).toNat

/-- The latest stamp of a port's frames: sent, or received. -/
def putStamp (s : State) (p : Nat) (rx : Bool) (stamp : Nat) : State :=
  s.setClk fun c => { c with stamps := tabPut (fun _ => 0) c.stamps (if rx then 32 + p else p) stamp }

/-- A frame received on a port now, stamped with the port's correction (R200). -/
def ingressStamp (s : State) (p : Nat) : State :=
  s.putStamp p true (stampOf s.wick (if p < 16 then - s.num .ptpPortIngressDelay p else 0))

/-- A port's transmit timestamp queue. -/
def tsQueue (s : State) (p : Nat) : List TsEntry := tabGet (fun _ => []) s.clk.ts p

/-- A queue replaced, with its level and its high water. -/
def setTsQueue (s : State) (p : Nat) (q : List TsEntry) : State :=
  let s := s.setClk fun c => { c with ts := tabPut (fun _ => []) c.ts p q }
  (s.put .tsQueueLevel p q.length).put .tsQueueHighWater p (max q.length (s.n .tsQueueHighWater p))

/-- TIMESTAMP_LOST: the log of 16 entries, the oldest overwritten, and its counters. -/
def tsLost (s : State) (p : Nat) (e : TsEntry) : State :=
  let last := s.n .lostStampNewest 0
  let i := if last = 0xFF then 0 else (last + 1) % 16
  let s := (s.put .lostStampPort i p).put .lostStampSequenceId i e.seq
  let s := (s.put .lostStampMessageType i e.type).put .lostStampDomain i e.dom
  let s := (s.put .lostStampTime i s.wick).put .lostStampStepCount i (s.n .wickStepCount 0)
  let s := (s.put .lostStampNewest 0 i).bump .lostStampTotal 0 1
  ((s.bump .tsQueueLost p 1).setBit Reg.wickStatus 11 true).raiseRefusal .tsQueueLost p 0

/-- An egress stamp of a port that is not one-step (R201, R202). -/
def tsStamp (s : State) (p : Nat) (e : TsEntry) : State :=
  let q := s.tsQueue p
  if 128 ≤ q.length then s.tsLost p e else s.setTsQueue p (q ++ [e])

/-! ### Triggers (R205, R206) -/

/-- A trigger output's record. -/
def trig (s : State) (k : Trig) : TrigSt := s.clk.trigs[k]

/-- A trigger output's record replaced. -/
def setTrig (s : State) (k : Trig) (r : TrigSt) : State := s.setClk fun c => { c with trigs := c.trigs.set k r }

/-- The staged program. -/
def stagedProg (s : State) (k : Nat) : TrigProg :=
  ⟨s.n .trigStart k, s.n .trigPeriod k, s.n .trigWidth k, s.n .trigCount k, s.on .trigPolarity k⟩

/-- Whether a staged program may not be armed (R205): it starts in less than 1 ms, or its pulses are too short or too
close. -/
def trigArmBad (s : State) (k : Trig) : Bool :=
  let p := s.stagedProg k
  decide (p.start < s.wick + Tm.ms) || p.width < 10 || (p.period != 0 && p.period < p.width + 10)

/-- The staged program armed, or with 0 the program stopped. -/
def trigArmSet (s : State) (i v : Nat) : State :=
  let k : Trig := Fin.ofNat 8 i
  if v = 0 then (s.setTrig k ⟨none, none⟩).put .trigState k 0
  else if s.trigArmBad k then s
  else
    let r := s.trig k
    let s := s.setTrig k { r with armed := some (s.stagedProg k) }
    if r.running.isNone then s.put .trigState k 1 else s

/-- A write of TrigArm. -/
def trigArmEff : Eff := fun s _ i bs =>
  (s.trigArmSet i (beNat bs), if beNat bs ≠ 0 ∧ s.trigArmBad (Fin.ofNat 8 i) then Abort.range else Abort.ok)

/-- Whether an output of the time pins is held inactive (R208); with the head-end die in reset or in Glim every one is
(R476). -/
def squelched (s : State) (own : Bool) : Bool :=
  s.boot.dieReset || s.boot.glim || s.bit Reg.wickCtrl 2 || (own && !s.qualified)

/-- A pulse of a program given at a time, unless the output is held inactive. It is given whole, so that neither a
disarm nor a later program cuts it short, and the level is active wherever any pulse given is (R205, R206). -/
def trigEmit (s : State) (k : Trig) (p : TrigProg) (at_ : Time) : State :=
  if s.squelched (s.on .trigSquelch k) then s else s.emit (.pulse 2 k at_ (at_ + p.width * Tm.ns) p.polarity)

/-- The program's state after edge `n`. -/
def trigAfter (s : State) (k : Trig) (p : TrigProg) (n : Nat) : State :=
  let r := s.trig k
  if p.period = 0 ∨ (p.count ≠ 0 ∧ p.count ≤ n + 1) then (s.setTrig k { r with running := none }).put .trigState k 3
  else (s.setTrig k { r with running := some (p, n + 1) }).put .trigState k 2

/-- The program that runs at the present time: an armed program takes over at its start. -/
def trigTake (s : State) (k : Trig) : State :=
  let r := s.trig k
  match r.armed with
  | some p => if p.start ≤ s.wick then s.setTrig k ⟨some (p, 0), none⟩ else s
  | none => s

/-- TRIGGER_PULSE: the next edge of the program, once its time has come. -/
def trigPulse (s : State) (k : Trig) : State :=
  let s := s.trigTake k
  match (s.trig k).running with
  | some (p, n) =>
    let at_ := p.start + n * p.period * Tm.ns
    if at_ ≤ s.wick then (s.trigEmit k p at_).trigAfter k p n else s
  | none => s

/-- What a step of Wick does to a trigger (R206): LATE_TRIGGER for a single pulse passed over, and for a periodic
program the edges that fall on the new time. -/
def trigStep (s : State) (k : Trig) (old : Time) : State :=
  let s := if old < s.wick then s.trigTake k else s
  match (s.trig k).running with
  | some (p, n) =>
    if p.period = 0 then
      if n = 0 ∧ old < p.start ∧ p.start ≤ s.wick then
        (((s.bump .trigLateCount k 1).setBit Reg.wickStatus 13 true).trigEmit k p s.wick).trigAfter k p 0
      else s
    else
      let next := ceilDiv (s.wick - p.start) (p.period * Tm.ns)
      if n < next then
        if p.count ≠ 0 ∧ p.count ≤ next then (s.setTrig k { s.trig k with running := none }).put .trigState k 3
        else s.setTrig k { s.trig k with running := some (p, next) }
      else s
  | none => s

/-! ### Captures (R207) -/

/-- A capture queue. -/
def captures (s : State) (k : Nat) : List (Nat × Nat) := tabGet (fun _ => []) s.clk.captures k

/-- A capture queue replaced, with CaptPending. -/
def setCaptures (s : State) (k : Nat) (q : List (Nat × Nat)) : State :=
  (s.setClk fun c => { c with captures := tabPut (fun _ => []) c.captures k q }).put .captPending k q.length

/-- An edge that the program selects: stamped and queued, ignored, or dropped. -/
def captureEdge (s : State) (k : Nat) (stamp : Nat) : State :=
  let last := tabFind s.clk.lastEdge k
  if (match last with | some t => decide (stamp < t + 100 * Tm.ns ∧ t ≤ stamp) | none => false) then
    s.bump .captIgnored k 1
  else if 16 ≤ (s.captures k).length then
    (s.bump .captOverflows k 1).setBit Reg.wickStatus 12 true
  else
    let s := s.setClk fun c => { c with lastEdge := tabPlace (tabErase c.lastEdge k) k stamp }
    let t := ((stamp : Int) - psTime (s.num .captDelay k)).toNat
    s.setCaptures k (s.captures k ++ [(t, s.n .wickStepCount 0)])

/-- CaptNext: the oldest entry taken, or 13 zero bytes. -/
def captNext (s : State) (k : Nat) : State × List Byte :=
  match s.captures k with
  | [] => (s, List.replicate 13 0)
  | (t, c) :: q => (s.setCaptures k q, beBytes 12 t ++ beBytes 1 c)

/-! ### Inputs of domains -/

/-- A domain with a source that takes an input. -/
def domTakes (s : State) (d : TimeDomain) (source : Nat) : Bool := s.avail && s.n .timeDomainSource d == source

/-- The domain that takes PPS_IN[k]: source 3 for input 0, source 4 for input 1. -/
def pulseDomain (s : State) (k : Nat) : Option TimeDomain :=
  let src := 3 + k
  if s.domTakes 0 src then some 0 else if s.domTakes 1 src then some 1 else none

/-- The time that a pulse edge stands for: the whole second nearest to Wick's, plus the domain's estimate. -/
def edgeOffset (s : State) (d : TimeDomain) (stamp : Nat) : Int :=
  let x : Int := s.domOffset d
  let predicted := (stamp : Int) + x
  let sec : Int := (Tm.s : Nat)
  (predicted + sec / 2) / sec * sec - stamp

/-- An edge of PPS_IN (R188, R193). A locked domain discards an edge more than 1 µs from its prediction, which does not count as missing. -/
def ppsEdge (s : State) (d : TimeDomain) (stamp : Nat) : State :=
  let r := s.dom d
  if s.domState d = 2 ∧ ¬ within (s.edgeOffset d stamp - s.domOffset d) 1000 then
    (s.setDom d { r with lastSync := s.now }).setClk fun c => { c with edgeDiscards := c.edgeDiscards + 1 }
  else
    let s := s.setDom d { r with edge := some stamp, lastSync := s.now }
    if s.n .timeDomainSource d = 4 then
      let sec : Int := (Tm.s : Nat)
      s.domSample d (((stamp : Int) + sec / 2) / sec * sec - stamp) r.freq
    else
      match r.todNext with
      | some t => (s.setDom d { s.dom d with todNext := none }).domSample d ((t * Tm.s : Nat) - (stamp : Int)) r.freq
      | none => if s.domState d = 1 ∨ s.domState d = 2 ∨ s.domState d = 4 then s.domSample d (s.edgeOffset d stamp) r.freq else s

/-- A ToD message of the domain with source 3 (R193). -/
def todMessage (s : State) (d : TimeDomain) (m : TodMsg) : State :=
  let r := s.dom d
  let tai := ((m.seconds : Int) + (if s.n .timeDomainTodFormat d = 1 then s.num .timeDomainUtcOffset d
    else m.utc.getD 0)).toNat
  let drop (s : State) : State := s.setClk fun c => { c with todDiscards := c.todDiscards + 1 }
  if ¬ m.ok then drop s
  else if (match r.lastTod with | some t => t + 1 != tai | none => false) then
    drop (s.setDom d { r with lastTod := some tai })
  else
    let s := s.setDom d { r with lastTod := some tai, lastAnnounce := s.now }
    let s := if m.cls.isSome then s.domClassSet d m.cls else s
    if s.n .timeDomainTodConvention d = 1 then s.setDom d { s.dom d with todNext := some tai }
    else match r.edge with
      | some e => s.domSample d ((tai * Tm.s : Nat) - (e : Int)) r.freq
      | none => s

/-! ### PTP (R191, R200) -/

/-- A port in a domain's slave set: enabled, of the domain's profile, and not for service alone. -/
def slaveCapable (s : State) (d : TimeDomain) (p : Uplink) : Bool :=
  s.n .timeDomainPorts d / 2 ^ p.val % 2 == 1 && s.on .ptpPortEnable p && s.n .ptpPortRole p != 1 &&
  s.n .ptpPortProfile p == s.n .timeDomainProfile d

/-- An Announce at a domain's slave port. -/
def announceTaken (s : State) (d : TimeDomain) (cls : Option Nat) : State :=
  let s := s.setDom d { s.dom d with lastAnnounce := s.now }
  let s := if s.domState d = 3 then
      (s.setDom d { s.dom d with since := s.now, lastSync := s.now }).putDomState d 1 else s
  s.domClassSet d cls

/-- A stamp back as Wick time. -/
def stampTime (stamp : Nat) : Int := (stamp : Int) * 65536

/-- A Sync at a domain's slave port: its origin time and its ingress stamp are held until the Delay_Resp. -/
def ptpSync (s : State) (d : TimeDomain) (p : Uplink) (m : PtpMsg) : State :=
  let t2 := stampOf m.arrival (- s.num .ptpPortIngressDelay p)
  s.setDom d { s.dom d with lastSync := s.now, sync := some (m.origin, t2) }

/-- A Delay_Resp at a domain's slave port: half the difference of the two ways, with the port's asymmetry. -/
def ptpDelay (s : State) (d : TimeDomain) (p : Uplink) (m : PtpMsg) : State :=
  match (s.dom d).sync with
  | some (t1, t2) =>
    let t3 := stampTime (stampOf m.asked (s.num .ptpPortEgressDelay p))
    s.domSample d (((t1 : Int) - stampTime t2 + ((m.origin : Int) - t3)) / 2 + psTime (s.num .ptpPortAsymmetry p)) m.freq
  | none => s

/-- The unicast clients of a port. -/
def ptpClients (s : State) (p : Nat) : List Nat := tabGet (fun _ => []) s.clk.ptpClients p

/-- A client's request for unicast service of a serving port, granted within PtpPortUnicastMax and 256 across the
device, or its cancellation (R191 note 1). -/
def unicast (s : State) (p : Uplink) (ask : Bool) (client : Nat) : State :=
  let l := s.ptpClients p
  let put (l : List Nat) : State := s.setClk fun c => { c with ptpClients := tabPut (fun _ => []) c.ptpClients p l }
  if ¬ s.avail then s
  else if ¬ ask then put (l.filter (· != client))
  else if s.n .ptpPortState p = 6 ∧ s.n .ptpPortProfile p = 1 ∧ ¬ l.contains client ∧
      l.length < min 64 (s.n .ptpPortUnicastMax p) ∧
      ((List.range 16).map fun q => (s.ptpClients q).length).sum < 256 then put (l ++ [client])
  else s

/-- The times at which a port sent messages of a type in the last second. -/
def ptpRecent (s : State) (p type : Nat) : List Time :=
  (tabGet (fun _ => []) s.clk.ptpSent (16 * p + type)).filter fun t => s.now < t + Tm.s

/-- When a port sent its latest message of a type. -/
def ptpLatest (s : State) (p type : Nat) : Option Time := (tabGet (fun _ => []) s.clk.ptpSent (16 * p + type)).head?

/-- A message noted: its time, before those of the last second. -/
def ptpNote (s : State) (p type : Nat) : State :=
  let l := s.now :: s.ptpRecent p type
  s.setClk fun c => { c with ptpSent := tabPut (fun _ => []) c.ptpSent (16 * p + type) l }

/-- The message interval of a type on a port, by its logarithm, in units of Wick time. -/
def ptpInterval (s : State) (p type : Nat) : Time :=
  let log : Int := match type with
    | 0 => s.num .ptpPortLogSync p
    | 1 => s.num .ptpPortLogDelayReq p
    | _ => s.num .ptpPortLogAnnounce p
  Tm.s * 2 ^ (log + 7).toNat / 128

/-- Whether a port sends a message of a type now (R191): a slave port Delay_Req; a master port Sync, Follow_Up,
Delay_Resp and Announce; either Signaling. At most 128 Sync and Delay_Resp messages and 8 Announce messages go out in a
second, and in the multicast profiles Sync, Delay_Req and Announce keep their interval. -/
def ptpSends (s : State) (p type : Nat) : Bool :=
  let recent := s.ptpRecent p type
  let state := s.n .ptpPortState p
  (if type = 1 then state == 9 else if type = 12 then state == 9 || state == 6
   else state == 6 && ([0, 8, 9, 11] : List Nat).contains type) &&
  (type != 0 && type != 9 || recent.length < 128) && (type != 11 || recent.length < 8) &&
  (s.n .ptpPortProfile p == 1 || (type != 0 && type != 1 && type != 11) ||
    (match s.ptpLatest p type with | some t => decide (t + s.ptpInterval p type ≤ s.now) | none => true))

/-- The domain number of a port's messages: its domain's on a slave port, else that of its service. -/
def ptpDomain (s : State) (p : Nat) : Nat :=
  if s.n .timeDomainSlavePort 0 = p then s.n .timeDomainNumber 0
  else if s.n .timeDomainSlavePort 1 = p then s.n .timeDomainNumber 1
  else s.n .ptpPortDomainNumber p

/-- Whether a domain's input has failed for the time of R188. -/
def domSilent (s : State) (d : TimeDomain) (announce : Bool) : Bool :=
  let r := s.dom d
  let three := 3 * Tm.s
  match s.n .timeDomainSource d with
  | 1 => announce || r.lastSync + three ≤ s.now
  | 2 => r.lastSync + three ≤ s.now
  | 3 => r.lastSync + three ≤ s.now || r.lastAnnounce + three ≤ s.now
  | 4 => r.lastSync + three ≤ s.now
  | _ => false

/-- The bin table's register writes and TimeModelBinsLearned. -/
def binsLearned (s : State) : Nat := beNat (s.oct .timeModelBinsLearned 0)

/-- A write of 1 to TimeModelReset: the model cleared, in the NVM as well. -/
def modelResetEff : Eff := fun s _ _ bs =>
  if beNat bs = 0 then (s, Abort.ok)
  else
    let s := (List.range 68).foldl (fun t b => t.putReg (Reg.wickModelBin b) 0) s
    let s := ((s.putReg Reg.wickModelAge 0).putReg Reg.wickModelBase 0).putOct .timeModelBinsLearned 0 (List.replicate 9 0)
    let s := (s.put .timeModelLearnedHours 0 0).setClk fun c => { c with lockedSeconds := 0, dwell := [] }
    (s.setNvm fun n => { n with learnedModel := [], learnedBins := 0 }, Abort.ok)

/-- The bound on Warming for a case temperature at power-up, in milli-degrees (R182). -/
def warmBound (milli : Int) : Time :=
  let minute : Int := (60 * Tm.s : Nat)
  if milli ≤ -40000 then (9 * minute).toNat
  else if 25000 ≤ milli then (5 * minute).toNat
  else (9 * minute - (milli + 40000) * 4 * minute / 65000).toNat

/-- OvenState 2, with a fault event (R182, R199). -/
def ovenFail (s : State) : State :=
  if s.n .ovenState 0 = 2 then s else ((s.put .ovenState 0 2).lifeCount 7 1).raiseFault .ovenState 0

/-- The increment in all its copies, as a vote leaves it (R180). -/
def putCopies (s : State) (v : Nat) : State :=
  (s.setClk fun c => { c with i0 := v, i1 := v, i2 := v }).put .wickIncrement 0 v

/-- The middle of three numbers. -/
def middle (a b c : Nat) : Nat := max (min a b) (min (max a b) c)

/-- The time whose whole nanoseconds are the middle of three (R180). -/
def medianTime (a b c : Nat) : Nat :=
  let m := middle (a / Tm.ns) (b / Tm.ns) (c / Tm.ns)
  if a / Tm.ns = m then a else if b / Tm.ns = m then b else c

end State

open State

/-- R183: a write of WickSetTime. -/
def execWickSetTime (m : Master) (time : Nat) (s : State) : Host.Outcome State Fault Refusal :=
  .next (s.hostWrite m .wickSetTime 0 (beBytes 12 time) wickSetEff)

/-- R180: one copy of the counter or of the increment departs, to `value`, and is outvoted in the same tick. -/
def execWickCopyMismatch (copy : Fin 3) (increment : Bool) (value : Nat) (s : State) :
    Host.Outcome State Fault Refusal :=
  let hit (k : Nat) (v : Nat) : Nat := if copy = k then value else v
  let c := s.clk
  if (if increment then s.inc else s.wick) = value then .next s
  else
    let t := if increment then s.putCopies (vote3 (hit 0 c.i0) (hit 1 c.i1) (hit 2 c.i2))
      else s.putWick (vote3 (hit 0 c.c0) (hit 1 c.c1) (hit 2 c.c2))
    .next ((t.bump .wickCounterMismatches 0 1).setBit Reg.wickStatus 8 true)

/-- R180: two copies depart, to `a` and `b`, and no two agree: the middle of the whole nanoseconds is taken, and Wick
enters Expired. -/
def execWickNoMajority (increment : Bool) (a b : Nat) (s : State) : Host.Outcome State Fault Refusal :=
  let own := if increment then s.inc else s.wick
  if a = own ∨ b = own ∨ a = b then .next s
  else
    let t := if increment then s.putCopies (medianTime own a b) else s.putWick (medianTime own a b)
    let t := (t.setBit Reg.wickStatus 9 true).raiseFault .wickState 0
    .next ((t.setClk fun c => { c with step := none }).enterWick 5)

/-- R182: the oven reports ready. -/
def execOvenReady (s : State) : Host.Outcome State Fault Refusal :=
  .next ((s.put .ovenState 0 1).warmingEnd)

/-- R182: one minute beyond the bound, Warming ends without the oven. -/
def execWarmingTimeout (s : State) : Host.Outcome State Fault Refusal :=
  if s.n .wickState 0 = 0 ∧ s.clk.since + warmBound s.clk.startTemp + 60 * Tm.s ≤ s.now then
    .next s.ovenFail.warmingEnd
  else .next s

/-- R182, R199: the oven reports a fault, or leaves ready. -/
def execOvenFault (s : State) : Host.Outcome State Fault Refusal :=
  let t := if s.n .ovenState 0 = 1 then s.setBit Reg.wickStatus 14 true else s
  let t := t.ovenFail
  match t.n .wickState 0 with
  | 0 => .next t.warmingEnd
  | 3 => .next (t.setClk fun c => { c with dwell := tabErase c.dwell t.oscBin })
  | 4 => .next (t.enterWick 5)
  | _ => .next t

/-- R191: a PTP message on a slave port of a domain with source 1, or of a unicast client of a port. -/
def execPtpMessageReceived (d : TimeDomain) (p : Uplink) (msg : PtpMsg) (s : State) :
    Host.Outcome State Fault Refusal :=
  if 3 ≤ msg.kind.val then .next (s.unicast p (msg.kind == 3) msg.client)
  else if msg.slave ∧ s.domTakes d 1 ∧ s.slaveCapable d p then
    let t := if s.n .timeDomainSlavePort d = p then s else s.putSlave d p
    match msg.kind with
    | 0 => .next (t.announceTaken d msg.cls)
    | 1 => .next (t.ptpSync d p msg)
    | _ => .next (t.ptpDelay d p msg)
  else .next s

/-- R193: a ToD message on TOD_IN. -/
def execTodMessageReceived (msg : TodMsg) (s : State) : Host.Outcome State Fault Refusal :=
  if s.domTakes 0 3 then .next (s.todMessage 0 msg)
  else if s.domTakes 1 3 then .next (s.todMessage 1 msg)
  else .next s

/-- R193: an edge on PPS_IN[k], stamped as captures are. -/
def execPpsInEdge (k : Fin 2) (stamp : Nat) (s : State) : Host.Outcome State Fault Refusal :=
  match s.pulseDomain k with
  | some d => .next (s.ppsEdge d ((stamp : Int) - psTime (s.num .timeDomainPpsDelay d)).toNat)
  | none => .next s

/-- R188: an estimate stable over 16 s, with a class of at most 248, makes the domain Locked. -/
def execDomainLocked (d : TimeDomain) (s : State) : Host.Outcome State Fault Refusal :=
  if s.avail ∧ s.domState d = 1 ∧ (s.dom d).since + 16 * Tm.s ≤ s.now ∧ s.domClass d ≤ 248 then
    .next (s.putDomState d 2).evaluate
  else .next s

/-- R188: a domain whose inputs have failed becomes Lost. -/
def execDomainLost (d : TimeDomain) (announce : Bool) (s : State) : Host.Outcome State Fault Refusal :=
  if s.avail ∧ (s.domState d = 1 ∨ s.domState d = 2 ∨ s.domState d = 4) ∧ s.domSilent d announce then
    .next ((s.putSlave d 0xFF).putDomState d 3).evaluate
  else .next s

/-- R185: after 16 qualifying Second boundaries Wick enters Locked at the Frame boundary. -/
def execWickLocked (s : State) : Host.Outcome State Fault Refusal :=
  if s.avail ∧ s.n .wickState 0 = 2 ∧ 16 ≤ s.clk.qualify ∧ s.wick % Tm.frame = 0 then .next (s.enterWick 3) else .next s

/-- R189: a better revertive domain that has stayed better for TimeDomainWtr displaces the selected one. -/
def execDomainRevert (d : TimeDomain) (s : State) : Host.Outcome State Fault Refusal :=
  match s.selected with
  | some e =>
    if s.avail ∧ s.n .wickState 0 = 3 ∧ d ≠ e ∧ s.domState d = 2 ∧ s.domBetter d e ∧ s.on .timeDomainRevertive d ∧
        s.n .timeDomainWtr d ≤ (s.dom d).better then
      .next (s.takeDom d).2
    else .next s
  | none => .next s

/-- R189: 16 consecutive Second boundaries beyond TimeOutlierLimit. -/
def execDomainInconsistent (s : State) : Host.Outcome State Fault Refusal :=
  match s.selected with
  | some d =>
    if s.avail ∧ s.n .wickState 0 = 3 ∧ 16 ≤ s.clk.outliers then
      .next ((s.setClk fun c => { c with outliers := 0 }).putDomState d 4)
    else .next s
  | none => .next s

/-- R189: 60 consecutive seconds within TimeSwitchMaxOffset. -/
def execDomainConsistent (d : TimeDomain) (s : State) : Host.Outcome State Fault Refusal :=
  if s.avail ∧ s.domState d = 4 ∧ 60 ≤ (s.dom d).consistent then .next (s.putDomState d 2).evaluate else .next s

/-- R196: no increment update for 1 s while Locked. -/
def execHeadlessHoldover (s : State) : Host.Outcome State Fault Refusal :=
  if ¬ s.avail ∧ s.n .wickState 0 = 3 ∧ s.clk.lastUpdate + Tm.s ≤ s.now then
    .next ((s.enterWick 4).setBit Reg.wickStatus 5 true)
  else .next s

/-- R198: the seconds of holdover reach WICK_HOLD_EXPIRY. -/
def execHoldoverExpiry (s : State) : Host.Outcome State Fault Refusal :=
  if s.n .wickState 0 = 4 ∧ s.reg Reg.wickHoldExpiry ≤ s.n .timeHoldoverElapsed 0 then .next (s.enterWick 5) else .next s

/-- R198: once a minute while Locked. -/
def execHoldExpiryRecompute (s : State) : Host.Outcome State Fault Refusal :=
  if s.avail ∧ s.n .wickState 0 = 3 ∧ s.clk.lastExpiry + 60 * Tm.s ≤ s.now then .next s.expiryRecompute else .next s

/-- R195: a bin with 30 min of dwell is learned, with the correction that the model's fit gives. -/
def execBinLearned (b : Fin 68) (f : Int) (s : State) : Host.Outcome State Fault Refusal :=
  if s.avail ∧ s.n .wickState 0 = 3 ∧ 1800 ≤ tabGet (fun _ => 0) s.clk.dwell b then
    let t := s.putReg (Reg.wickModelBin b) (twos 32 f)
    let t := t.putOct .timeModelBinsLearned 0 (beBytes 9 (putBits b b t.binsLearned 1))
    let row (k : Nat) : Int := if k = b then f else t.nvm.learnedModel.getD k 0
    .next (t.setNvm fun n => { n with
      learnedModel := (List.range 68).map row
      learnedBins := putBits b b n.learnedBins 1 })
  else .next s

/-- R195: every hour while Locked, rate_age is refitted. -/
def execAgeingRefit (rate : Int) (s : State) : Host.Outcome State Fault Refusal :=
  if s.avail ∧ s.n .wickState 0 = 3 ∧ s.clk.lastRefit + 3600 * Tm.s ≤ s.now then
    .next ((s.putReg Reg.wickModelAge (twos 32 rate)).setClk fun c => { c with lastRefit := s.now })
  else .next s

/-- R195: a write of TimeModelReset. -/
def execTimeModelReset (m : Master) (value : Nat) (s : State) : Host.Outcome State Fault Refusal :=
  .next (s.hostWrite m .timeModelReset 0 (beBytes 1 value) modelResetEff)

/-- R205: a write of 1 to TrigArm. -/
def execTrigArm (m : Master) (k : Trig) (s : State) : Host.Outcome State Fault Refusal :=
  .next (s.hostWrite m .trigArm k (beBytes 1 1) trigArmEff)

/-- R205: a write of 0 to TrigArm. -/
def execTrigDisarm (m : Master) (k : Trig) (s : State) : Host.Outcome State Fault Refusal :=
  .next (s.hostWrite m .trigArm k (beBytes 1 0) trigArmEff)

/-- R205: the next pulse of a trigger, once its time has come. -/
def execTriggerPulse (k : Trig) (s : State) : Host.Outcome State Fault Refusal := .next (s.trigPulse k)

/-- R207: an edge on CAPT[k], with the stamp that the device takes of it. -/
def execCaptureEdge (k : Trig) (rising : Bool) (stamp : Nat) (s : State) : Host.Outcome State Fault Refusal :=
  let e := s.n .captEdge k
  if s.on .captEnable k ∧ (e = 2 ∨ (e = 0 ∧ rising) ∨ (e = 1 ∧ ¬ rising)) then .next (s.captureEdge k stamp)
  else .next s

/-- R212: WICK_CTRL.CAPT_CLR. -/
def execCaptClr (s : State) : Host.Outcome State Fault Refusal :=
  .next ((List.range 8).foldl (fun t k => t.setCaptures k []) s)

/-- R207: a read of CaptNext. -/
def execCaptNextRead (m : Master) (k : Trig) (s : State) : Host.Outcome State Fault Refusal :=
  .next (s.hostRead m .captNext k fun t => t.captNext k)

/-- R202, R305: a read of TsQueueHighWater or RequesterHighWater returns the largest level since the last read. -/
def execHighWaterRead (m : Master) (ts : Bool) (i : Fin 1024) (s : State) : Host.Outcome State Fault Refusal :=
  if ts then .next (s.hostRead m .tsQueueHighWater i fun t =>
    (t.put .tsQueueHighWater i (t.n .tsQueueLevel i), beBytes 1 (t.n .tsQueueHighWater i)))
  else .next (s.hostRead m .requesterHighWater i fun t =>
    (t.put .requesterHighWater i 0, beBytes 4 (t.n .requesterHighWater i)))

end Sys2Proof.Machine
end

