-- ==== Sys2Proof/Machine/Stitch.lean ====
section
/-!
DEFINITION. Stitched frame checks (R379, R380): the FCS as a register that runs over a frame's bytes, the checkpoints
that the ingress checker records, the combination by which an edit's new check follows from the old one, and the header
of a Passage frame with its own check (R335).
-/

namespace Sys2Proof.Machine

/-- One bit, and one byte, of the CRC-32 of IEEE 802.3, in its reflected form. -/
def fcsBit (r : Nat) : Nat := if r % 2 = 1 then Nat.xor (r / 2) 0xEDB88320 else r / 2
def fcsByte (r : Nat) (b : Byte) : Nat :=
  fcsBit (fcsBit (fcsBit (fcsBit (fcsBit (fcsBit (fcsBit (fcsBit (Nat.xor r b.toNat))))))))

/-- The FCS of a frame's bytes. -/
def fcsOf (bs : List Byte) : Nat := Nat.xor (bs.foldl fcsByte 0xFFFFFFFF) 0xFFFFFFFF

/-- How far into a frame edits and checkpoints reach (R379, R380). -/
def editSpan : Nat := 128

/-- The CRC register's value at every 4-byte boundary within a frame's first 128 bytes (R379). -/
def checkpoints (bs : List Byte) : List Nat :=
  ((List.range (editSpan / 4 + 1)).filter fun k => 4 * k ≤ bs.length).map fun k =>
    (bs.take (4 * k)).foldl fcsByte 0xFFFFFFFF

/-- A CRC register carried over `n` zero bytes. -/
def zeroRun (step : Nat → Byte → Nat) (n r : Nat) : Nat := Nat.repeat (fun x => step x 0) n r

/-- The check of a frame after one edit (R380): from the register at the edit's start, the bytes that the edit removes and
writes, how many bytes follow it under the check, and the old check. No byte that the edit leaves unchanged is read. -/
def stitch (step : Nat → Byte → Nat) (start : Nat) (removed written : List Byte) (after check : Nat) : Nat :=
  Nat.xor check (zeroRun step after (Nat.xor (removed.foldl step start) (written.foldl step start)))

/-! ### The header of a Passage frame (R335, R336) -/

/-- The CRC-8 register moved by one bit, and over the bytes of a header. -/
def hckBit (r : Nat) : Nat := if 128 ≤ r then Nat.xor (r * 2 % 256) 7 else r * 2
def hckByte (r : Nat) (b : Byte) : Nat :=
  hckBit (hckBit (hckBit (hckBit (hckBit (hckBit (hckBit (hckBit (Nat.xor r b.toNat))))))))

/-- HCK over the 15 bytes before it. -/
def hckOf (bs : List Byte) : Nat := Nat.xor (bs.foldl hckByte 0) 0x55

/-- The 16 bytes of a header. -/
def psgHeader (dest type src cls tree seq hops dir colour len domain : Nat) : List Byte :=
  let fields : List (Nat × Nat) := [(12, dest), (4, type), (12, src), (3, cls), (1, tree), (16, seq), (6, hops), (2, dir),
    (2, colour), (14, len), (14, domain), (34, 0)]
  let bs := beBytes 15 (fields.foldl (fun a f => a * 2 ^ f.1 + f.2 % 2 ^ f.1) 0)
  bs ++ beBytes 1 (hckOf bs)

/-! ### Lane markers (R330) -/

/-- The CRC-4 register over the top `k` bits of a marker's 28. -/
def chkRun (w : Nat) : Nat → Nat → Nat
  | 0, r => r
  | k + 1, r =>
    let top := (r / 8 + w / 2 ^ k) % 2
    chkRun w k (if top = 1 then Nat.xor (r * 2 % 16) 3 else r * 2 % 16)

/-- CHK over bits [31:4] of a marker. -/
def markerChk (w : Nat) : Nat := chkRun (w / 16) 28 0

/-- A marker match on a lane (R330): SYNC, CHK, and LANE as the lane is placed (R329). -/
def markerOk (lane w : Nat) : Bool := w / 1048576 % 4096 == 0xC5A && markerChk w == w % 16 && w / 262144 % 4 == lane

/-- MFC, TX_MAP and RX_OK of a marker. -/
def markerMfc (w : Nat) : Nat := w / 4096 % 64
def markerMap (w : Nat) : Nat := w / 256 % 16
def markerRxOk (w : Nat) : Nat := w / 16 % 16

/-! ### One-step PTP (R201) -/

/-- A one's complement sum folded to 16 bits. -/
def foldSum (x : Nat) : Nat :=
  let y := x % 65536 + x / 65536
  y % 65536 + y / 65536

/-- The 16-bit words of a list of bytes. -/
def words16 : List Byte → List Nat
  | a :: b :: rest => (a.toNat * 256 + b.toNat) :: words16 rest
  | [a] => [a.toNat * 256]
  | [] => []

/-- A UDP checksum brought up to an edit of what it covers; 0, no checksum, stays. -/
def udpUpdate (old : Nat) (removed written : List Byte) : Nat :=
  if old = 0 then 0
  else
    let gone := (words16 removed).foldl (fun a w => a + (65535 - w)) 0
    let sum := (words16 written).foldl (· + ·) (65535 - old + gone)
    let c := 65535 - foldSum sum
    if c = 0 then 65535 else c

end Sys2Proof.Machine
end

