-- ==== Sys2Proof/Machine/Pipeline.lean ====
section
/-!
DEFINITION. The stages of a frame (R240): fixed traps, classification, policing, source learning, destination, queue
choice and admission; copies (R219, R251, R301); routes over Passage (R339); and the accounting of slots (R503).
-/

namespace Sys2Proof.Machine

/-- A frame at the input of a pipeline: where it came from, its header, the domain of its Passage header, whether it is
tree-side (R217), the source device, its pipeline, and its verdict (R303: 0 pending, 1 pass, 2 fail). -/
structure Ctx where
  g : Ingress
  h : FrameHdr
  dom : Option Nat
  tree : Bool
  src : Nat
  pipe : Pipeline
  verdict : Nat

/-- Where a copy goes: a flow, an uplink port, or Passage with a destination device (0xFFF every device) and the ports
that it may leave on. -/
inductive Target where
  | flow (f : Nat)
  | uplink (p : Nat)
  | passage (dest : Nat) (ports : Nat)
  deriving DecidableEq, Repr

namespace State

/-! ### Slots (R503, R504) -/

/-- A slot classed as its frame leaves the pipeline: retired or wasted. -/
def slot (s : State) (pipe : Pipeline) (retired : Bool) : State :=
  if s.bit Reg.cntGlobalCtrl 1 ∧ ¬ s.boot.glim then
    let s := s.bump (if retired then .slotsRetired else .slotsWasted) pipe 1
    let s := s.count (if retired then 0xE00 else 0xE01) pipe 1
    s.setTm fun m => { m with slotDebt := m.slotDebt.set pipe (m.slotDebt[pipe] + 1) }
  else s

/-! ### Routes over Passage (R339, R341) -/

/-- The ports of a mask. -/
def maskPorts (mask : Nat) : List Nat := (List.range 4).filter fun q => mask / 2 ^ q % 2 == 1

/-- Whether a port is one of PassageRingPorts. -/
def onRing (s : State) (q : Nat) : Bool := s.n .passageRingPorts 0 / 2 ^ q % 2 == 1

/-- DIR of a frame that this device sends on a port: the lower or the higher ring port (R335). -/
def dirOf (s : State) (q : Nat) : Nat :=
  match maskPorts (s.n .passageRingPorts 0) with
  | [a, b] => if q = a then 1 else if q = b then 2 else 0
  | _ => 0

/-- A device is reachable on a port (R341). -/
def reachable (s : State) (d q : Nat) : Bool := s.n .passageReachable d / 2 ^ q % 2 == 1

/-- The ports of a device's route that are up. -/
def routeUp (s : State) (d : Nat) : List Nat := (maskPorts (s.n .passageRoute d)).filter fun q => s.psgUp q

/-- The ports on which a local unicast frame for a device leaves. -/
def routePorts (s : State) (d : Nat) : List Nat := (s.routeUp d).filter fun q => s.reachable d q

/-- The ports on which a local flood leaves: those named, and both ring ports when either is named. -/
def floodPorts (s : State) (mask : Nat) : List Nat :=
  let ring := s.n .passageRingPorts 0
  let m := if mask &&& ring ≠ 0 then mask ||| ring else mask
  (maskPorts m).filter fun q => s.psgUp q

/-- Whether a route uses both ring ports, so that its frames carry DIR. -/
def ringRoute (s : State) (mask : Nat) : Bool :=
  let ring := s.n .passageRingPorts 0
  ring != 0 && mask &&& ring == ring

/-- The next sequence number of a class (R338). -/
def takeSeq (s : State) (c : Fin 8) : Nat × State :=
  (s.casc.seqs[c], { s with casc := { s.casc with seqs := s.casc.seqs.set c ((s.casc.seqs[c] + 1) % 65536) } })

/-! ### Copies -/

/-- A copy of a frame for a queue. -/
structure Copy where
  key : Nat
  desc : QDesc

/-- A descriptor that is not yet stored. -/
def descOf (s : State) (c : Ctx) (flow cls colour : Nat) (psg : List Nat) : QDesc :=
  ⟨0, c.h.len, flow, cls, colour, s.wick, 0, none, psg, c.h.ptp, c.h.dmac == 0xFFFFFFFFFFFF, c.g,
    c.h.fcs, checkpoints c.h.bytes, c.h.bytes.take editSpan⟩

/-- The downstream queue for a frame of a flow (R266): the rule's, else the flow's. -/
def flowQueueOf (s : State) (f ruleQueue : Nat) : Nat := if ruleQueue ≠ 0xFFFF then ruleQueue else s.n .flowQueue f

/-- A discard of R265 or R266 noted (R289). -/
def mismatch (s : State) : State := (s.setBit Reg.tmStatus 4 true).bumpReg Reg.tmMismatchCnt 1

/-- A frame for a flow as a copy: none where R250, R265, R266 or R286 discards it. -/
def flowCopy (s : State) (c : Ctx) (d : Decision) (colour f : Nat) : Option Copy × State :=
  let t := s.n .flowTerminal f
  let q := s.flowQueueOf f d.queue
  if ¬ s.on .flowEnable f ∨ s.n .flowSnuffPhase f ≠ 0 ∨ s.skips 0 f then (none, s.bump .classFlowDown 0 1)
  else if q = 0xFFFF ∨ s.n .queueTerminal q ≠ t ∨ t = 0xFFFF then (none, (s.bump .queueMismatchDrops 0 1).mismatch)
  else if ¬ (s.chansOf t).any fun ch => s.stateOn t ch != 0 then
    (none, (s.bump .queueAbsentDrops 0 1).setBit Reg.tmStatus 3 true)
  else if ¬ s.cgServes (s.parentOf t) t then
    (none, ((s.bump .nodeMismatchDrops 0 1).mismatch).raiseRefusal .terminalNodeParent t 0)
  else if s.n .queueSnuffPhase q ≠ 0 then (none, if s.n .queueSnuffPhase q = 3 then s else s.bump .queueClosedDrops q 1)
  else (some ⟨q, s.descOf c f d.cls colour []⟩, s)

/-- A frame for an uplink port as a copy: none where the port is closing or down. -/
def uplinkCopy (s : State) (c : Ctx) (d : Decision) (colour p : Nat) : Option Copy × State :=
  if s.n .uplinkSnuffPhase p = 1 ∨ s.n .uplinkSnuffPhase p = 2 then (none, s.bump .uplinkTxClosedDrops p 1)
  else if ¬ s.uplinkUp p then (none, s)
  else (some ⟨txKey (p * 8 + d.cls), s.descOf c noFlow d.cls colour []⟩, s)

/-- A frame for Passage ports as copies, all with one sequence number. -/
def passageCopies (s : State) (c : Ctx) (d : Decision) (colour dest : Nat) (ports : List Nat) (ring : Bool) :
    List Copy × State :=
  if ports.isEmpty then ([], s)
  else
    let cls : Fin 8 := Fin.ofNat 8 d.cls
    let (seq, s) := s.takeSeq cls
    (ports.map fun q => ⟨txKey ((16 + q) * 8 + cls.val), s.descOf c noFlow cls colour
      [0, dest, s.n .passageDeviceId 0, if c.tree then 1 else 0, seq, 1, if ring then s.dirOf q else 0, d.domain]⟩, s)

/-- The copies that their queues admit, in copy order (R283, R301): each counts with those before it in its queue. -/
def admitted (s : State) (colour len : Nat) : List Copy → List Copy → List Copy × State
  | [], done => (done.reverse, s)
  | k :: rest, done =>
    let ahead := (done.filter fun x => x.key == k.key).length * len
    if s.tailDrops k.key colour (len + ahead) then (s.tailDrop k.key).admitted colour len rest done
    else s.admitted colour len rest (k :: done)

/-- QUEUE_ADMISSION and BUFFER_ADMISSION of a frame's copies: whether at least one is enqueued (R301). -/
def enqueue (s : State) (len colour verdict : Nat) (copies : List Copy) : Bool × State :=
  let (adm, s) := s.admitted colour len copies []
  match adm with
  | [] => (false, s)
  | first :: _ =>
    let r := s.requester first.key
    match s.store r colour len adm.length verdict with
    | (none, s) => (false, s)
    | (some cell, s) =>
      (true, adm.foldl (fun t k =>
        let t := t.setQueue k.key (t.queue k.key ++ [{ k.desc with cell := cell, owner := r }])
        if k.key < 65536 then
          let x := t.n .queueTerminal k.key
          (t.setTerm x { t.term x with emptySince := none }).wakeOnArrival x (t.n .queueNodePriority k.key)
        else t) s)

/-! ### Source learning (R220 to R227) -/

/-- The logical uplink port (R255). -/
def logical (s : State) (p : Nat) : Nat := s.n .portSpreadAnchor p

/-- The source destination of a frame (R221): kind, destination and flow. -/
def sourceDest (s : State) (c : Ctx) : Nat × Nat × Nat :=
  match c.g with
  | .flow f => (0, s.n .flowTerminal f, f)
  | .uplink p => (1, s.logical p, 0xFFFF)
  | .passage _ => (2, c.src, 0xFFFF)

/-- The terminal that a frame came from, if any. -/
def ingressTerm (s : State) (c : Ctx) : Option Nat :=
  match c.g with
  | .flow f => some (s.n .flowTerminal f)
  | _ => none

/-- SPOOF (R226): counted and reported; whether the frame goes on. -/
def spoof (s : State) (c : Ctx) (domain : Nat) : Bool × State :=
  let s := (s.bump .spoofDrops 0 1).setBit Reg.galStatus 11 true
  let s := match s.ingressTerm c with
    | some t =>
      let s := s.bump .terminalSpoofCount t 1
      let last := tabFind s.gal.spoofAt t
      if (match last with | some a => decide (s.now < a + Tm.s) | none => false) then s
      else (s.setGal fun g => { g with spoofAt := tabPlace (tabErase g.spoofAt t) t s.now }).raiseRefusal
        .terminalSpoofCount t 0 (keyDetail domain c.h.smac)
    | none => s.raiseRefusal .spoofDrops 0 0 (keyDetail domain c.h.smac)
  (s.n .domainSpoofAction domain == 1, s)

/-- SOURCE_LEARNING: whether the frame goes on. -/
def learnSource (s : State) (c : Ctx) (d : Decision) : Bool × State :=
  let (kind, dest, flow) := s.sourceDest c
  let hit := s.galFind d.domain c.h.smac
  let own : Bool := match hit with | some (_, e) => e.pinned && e.kind == 0 && e.dest == dest && kind == 0 | none => false
  let checked : Bool := match s.ingressTerm c with | some t => s.on .terminalSourceCheck t | none => false
  if checked && !own then s.spoof c d.domain
  else if s.n .domainMode d.domain = 2 ∨ ¬ s.on .domainLearn d.domain ∨ ¬ d.learn then (true, s)
  else
    match hit with
    | some (p, e) =>
      if e.kind = kind ∧ e.dest = dest then
        (true, s.galSet p (some { e with hit := true, flow := if kind = 0 then flow else e.flow }))
      else if e.pinned then s.spoof c d.domain
      else (true, s.learnQueue ⟨d.domain, c.h.smac, kind, dest, flow⟩)
    | none =>
      if s.atLimit kind dest then (s.n .terminalLearnExcess dest == 0, s.limitExcess)
      else (true, s.learnQueue ⟨d.domain, c.h.smac, kind, dest, flow⟩)

/-! ### Destinations (R217 to R219, R250 to R255) -/

/-- Whether the target is where the frame came from. -/
def hairpin (s : State) (c : Ctx) : Target → Bool
  | .flow f => c.g == .flow f
  | .uplink a => match c.g with | .uplink p => s.logical p == a | _ => false
  | .passage d _ => match c.g with | .passage _ => d == c.src | _ => false

/-- The members of a flood or of a multicast group after the three exclusions of R219. -/
def floodTargets (s : State) (c : Ctx) (mode uplinks passage : Nat) (flows : List Nat) : List Target :=
  let ups := ((List.range 16).filter fun p => uplinks / 2 ^ p % 2 == 1).map Target.uplink
  let psg := match c.g with
    | .passage _ => []
    | _ => if passage = 0 then [] else [Target.passage 0xFFF passage]
  let fl := if c.tree ∧ mode ≠ 0 then [] else flows.map Target.flow
  (ups ++ psg ++ fl).filter fun x => !s.hairpin c x

/-- FLOOD: the members of the frame's domain. -/
def flood (s : State) (c : Ctx) (d : Decision) : List Target :=
  s.floodTargets c (s.n .domainMode d.domain) (s.n .domainUplinks d.domain) (s.n .domainPassage d.domain)
    (s.withNum .flowFloodDomain d.domain)

/-- The flow of a bonded pair to which a spread entry sends a frame (R255). -/
def pairFlow (s : State) (c : Ctx) (d : Decision) (f : Nat) : Option Nat × State :=
  let g := s.n .flowSpreadPartner f
  if g = 0xFFFF ∨ d.spread = 0xFF then (some f, s)
  else
    match s.spread (.bonded (s.n .flowTerminal f)) d.spread c.g c.h with
    | (some e, s) =>
      if e.kind = 3 then (none, s)
      else
        let side := e.member % 2
        (some (if s.n .flowBondMode f = side then f else g), s)
    | (none, s) => (none, s)

/-- A Gallery entry's target, or none with its drop counted (R218). -/
def entryTarget (s : State) (c : Ctx) (d : Decision) (e : GalEntry) : Option Target × State :=
  match e.kind with
  | 0 =>
    let f := if e.flow ≠ 0xFFFF then e.flow else d.flow
    if s.n .domainMode d.domain = 1 ∧ c.tree then (none, s.bump .terminalToTerminalDrops 0 1)
    else if s.dark? .terminalSnuffPhase e.dest then (none, s.bump .destinationDownDrops 0 1)
    else if f = 0xFFFF then (none, s.bump .classFlowDown 0 1)
    else
      match s.pairFlow c d f with
      | (some g, s) => if s.hairpin c (.flow g) then (none, s.bump .hairpinDrops 0 1) else (some (.flow g), s)
      | (none, s) => (none, s)
  | 1 =>
    if s.hairpin c (.uplink e.dest) then (none, s.bump .hairpinDrops 0 1)
    else if s.n .portSpreadTable e.dest = 0xFF ∧ ¬ s.uplinkUp e.dest ∧
        (s.n .uplinkSnuffPhase e.dest = 0 ∨ s.n .uplinkSnuffPhase e.dest = 3) then
      (none, s.bump .destinationDownDrops 0 1)
    else (some (.uplink e.dest), s)
  | 2 =>
    if s.hairpin c (.passage e.dest 0) then (none, s.bump .hairpinDrops 0 1)
    else if (s.routePorts e.dest).isEmpty then (none, s.bump .destinationDownDrops 0 1)
    else (some (.passage e.dest (s.n .passageRoute e.dest)), s)
  | _ => (none, s)

/-- DESTINATION_LOOKUP (R218): the targets of forward 0. -/
def bridge (s : State) (c : Ctx) (d : Decision) : List Target × State :=
  if s.n .domainMode d.domain = 2 then (s.flood c d, s)
  else if c.h.dmac / 1099511627776 % 2 = 1 then (s.flood c d, s)
  else
    let s := s.count 0x600 c.pipe 1
    match s.galFind d.domain c.h.dmac with
    | some (_, e) =>
      let (x, s) := s.entryTarget c d e
      (x.toList, s)
    | none =>
      let s := s.count 0x601 c.pipe 1
      (if s.on .domainFloodUnknown d.domain then s.flood c d else [], s)

/-- The flows that McastFlows lists. -/
def mcastFlowList (s : State) (grp : Nat) : List Nat :=
  let bs := s.oct .mcastFlows grp
  (List.range (bs.length / 2)).map fun k => beNat ((bs.drop (2 * k)).take 2)

/-- The target of forward 2 (R255). -/
def spreadTarget (s : State) (c : Ctx) (d : Decision) : Option Target × State :=
  if d.spread = 0xFF then (none, s)
  else
    match s.spread .forward d.spread c.g c.h with
    | (none, s) => (none, s)
    | (some e, s) =>
      match e.kind with
      | 0 => (some (.uplink e.member), s)
      | 1 => (some (.passage e.device (2 ^ e.port)), s)
      | _ => (none, s)

/-- The targets of a frame (stage 6), in copy order. -/
def targets (s : State) (c : Ctx) (d : Decision) : List Target × State :=
  match d.forward with
  | 0 => s.bridge c d
  | 1 =>
    if d.flow = 0xFFFF then ([], s.bump .classFlowDown 0 1)
    else
      let (g, s) := s.pairFlow c d d.flow
      ((g.map Target.flow).toList, s)
  | 2 =>
    let (x, s) := s.spreadTarget c d
    (x.toList, s)
  | 3 =>
    (s.floodTargets c 0 (s.n .mcastUplinks d.group) (s.n .mcastPassage d.group) (s.mcastFlowList d.group), s)
  | _ => ([], s)

/-- The member port of a logical port (R255). -/
def memberPort (s : State) (c : Ctx) (a : Nat) : Option Nat × State :=
  let k := s.n .portSpreadTable a
  if k = 0xFF then (some a, s)
  else
    match s.spread .uplink k c.g c.h with
    | (some e, s) => (if e.kind = 3 then none else some e.member, s)
    | (none, s) => (none, s)

/-- The copies of a target (stage 7). -/
def copiesOf (s : State) (c : Ctx) (d : Decision) (colour : Nat) (x : Target) : List Copy × State :=
  match x with
  | .flow f =>
    let (k, s) := s.flowCopy c d colour f
    (k.toList, s)
  | .uplink a =>
    if d.forward = 2 then
      let (k, s) := s.uplinkCopy c d colour a
      (k.toList, s)
    else
      let (p, s) := s.memberPort c a
      match p with
      | some p =>
        let (k, s) := s.uplinkCopy c d colour p
        (k.toList, s)
      | none => ([], s)
  | .passage dest mask =>
    if dest = 0xFFF then s.passageCopies c d colour dest (s.floodPorts mask) (mask &&& s.n .passageRingPorts 0 != 0)
    else
      let ports := if d.forward = 2 then (maskPorts mask).filter fun q => s.psgUp q && s.reachable dest q
        else s.routePorts dest
      if ports.isEmpty then ([], s.bump .passageNoRoute ((maskPorts mask).head?.getD 0) 1)
      else s.passageCopies c d colour dest ports (s.ringRoute mask)

/-- The place of a copy in copy order (R301): uplink ports, then Passage, then flows, each rising. -/
def copyRank (k : Copy) : Nat := if 65536 ≤ k.key then k.key - 65536 else 65536 + k.desc.flow

/-- All copies of a frame, in copy order. -/
def allCopies (s : State) (c : Ctx) (d : Decision) (colour : Nat) (xs : List Target) : List Copy × State :=
  let r := xs.foldl (fun (a : List Copy × State) x =>
    let r := a.2.copiesOf c d colour x
    (a.1 ++ r.1, r.2)) ([], s)
  (sortBy copyRank r.1, r.2)

/-! ### Lantern's own frames and traps (R241, R252, R439) -/

/-- Traffic towards Lantern while the link retrains: 64 KiB wait (R439). -/
def toLantern (s : State) (len : Nat) : Bool × State :=
  if s.n .ucieLinkState 0 ≠ 4 then (true, s)
  else if 65536 < s.ucie.upBytes + len then (false, s.bump .ucieUpDrops 0 1)
  else (true, { s with ucie := { s.ucie with upBytes := s.ucie.upBytes + len } })

/-- A frame for Lantern discarded (R252). -/
def trapDrop (s : State) : State := (s.bump .trapDrops 0 1).setBit Reg.clsStatus 10 true

/-- TRAP_TO_LANTERN: forward 4. -/
def trapFrame (s : State) (c : Ctx) : Bool × State :=
  if ¬ s.avail ∨ ¬ s.bit Reg.clsCtrl 2 ∨ ¬ s.limitFree 0x2003 (s.n .classTrapRate 0) then (false, s.trapDrop)
  else
    let s := s.limitTake 0x2003
    match s.toLantern c.h.len with
    | (false, s) => (false, s.trapDrop)
    | (true, s) => (true, s.raise 7 .trapDrops 0
        (beBytes 4 (ingressField c.g) ++ beBytes 2 c.h.len ++ c.h.bytes.take 2048))

/-- A frame of the cooperative interface (R157): it goes to the grant engine. -/
def coopTrap (s : State) (c : Ctx) : Bool :=
  match c.g with
  | .uplink _ =>
    let coop := s.n .coopUdpPort 0
    let ety := s.n .coopEtherType 0
    (match c.h.ip with
     | some i => i.proto == 17 && coop != 0 && (match i.ports with | some x => x.2 == coop | none => false)
     | none => false) || (ety != 0 && c.h.etype == ety)
  | _ => false

/-- A PTP message of a port's profile, or a frame of the in-band management VLAN: it goes to Lantern. -/
def lanternTrap (s : State) (c : Ctx) : Bool :=
  match c.g with
  | .uplink p =>
    let vlan := s.n .inbandVlan 0
    (s.on .ptpPortEnable p && c.h.ptp) ||
    (vlan != 0xFFFF && s.n .inbandPorts 0 / 2 ^ p % 2 == 1 && (match c.h.outer with | some v => v.1 == vlan | none => false))
  | _ => false

/-- FIXED_TRAP: the frames that R241 takes off the data path; the trapped message itself is a command of its own. -/
def fixedTrap (s : State) (c : Ctx) : Bool := s.coopTrap c || s.lanternTrap c

/-! ### The stages in order -/

/-- Stages 5 to 7 of a frame that classification and policing have passed. -/
def forwardFrame (s : State) (c : Ctx) (d : Decision) (colour : Nat) : Bool × State :=
  if c.h.smac / 1099511627776 % 2 = 1 then (false, s.setGal fun g => { g with groupDrops := g.groupDrops + 1 })
  else if ¬ s.on .domainEnable d.domain then (false, s)
  else
    match s.learnSource c d with
    | (false, s) => (false, s)
    | (true, s) =>
      if d.forward = 4 then s.trapFrame c
      else
        let (xs, s) := s.targets c d
        let (ks, s) := s.allCopies c d colour xs
        s.enqueue c.h.len colour c.verdict ks

/-- Stages 2 to 7: whether the frame's slot is retired. -/
def stages (s : State) (c : Ctx) : Bool × State :=
  let (d, s) := s.classifyFrame c.g c.h c.dom c.tree
  if d.discard then (false, s)
  else if d.domain = 0xFFFF then (false, (s.bump .classNoDomain 0 1).setBit Reg.clsStatus 11 true)
  else if d.forward = 5 then (false, s)
  else if c.tree ∧ (d.forward = 1 ∨ d.forward = 3) then (false, s.bump .classTreeDirectDrops 0 1)
  else
    match s.police d.policer d.colour c.h.len with
    | (none, s) => (false, s)
    | (some colour, s) => s.forwardFrame c d colour

/-- PIPELINE_FRAME: a frame through its pipeline, with its slot. -/
def pipeline (s : State) (c : Ctx) : State :=
  if s.coopTrap c then s.slot c.pipe true
  else if s.lanternTrap c then
    match s.toLantern c.h.len with
    | (true, s) => s.slot c.pipe true
    | (false, s) => s.trapDrop.slot c.pipe true
  else
    let r := s.stages c
    r.2.slot c.pipe r.1

/-! ### Learn notices (R227) -/

/-- Frames of the cascade's own types sent through the transmit queues: learn notices, orders and presence frames. The
list holds type, destination, source, tree bit, sequence, hops, direction and domain, then the payload's values. -/
def cascadeFrame (s : State) (type dest domain len : Nat) (cls : Fin 8) (ports : List Nat) (ring : Bool)
    (body : List Nat) : State :=
  if ports.isEmpty then s
  else
    let (seq, s) := s.takeSeq cls
    let copies := ports.map fun q => (⟨txKey ((16 + q) * 8 + cls.val),
      ⟨0, len, noFlow, cls, 0, s.wick, 0, none,
        [type, dest, s.n .passageDeviceId 0, 0, seq, 1, if ring then s.dirOf q else 0, domain] ++ body, false, false,
        .passage q, 0, [], []⟩⟩ : Copy)
    (s.enqueue len 0 1 copies).2

/-- LEARN_NOTICE_SENT. -/
def sendNotice (s : State) (r : LearnReq) : State :=
  let mask := s.n .domainPassage r.domain
  if s.noticeWanted r ∧ s.n .passageDeviceId 0 ≠ 0xFFFF then
    s.cascadeFrame 1 0xFFF r.domain 8 Config.noticeClass (s.floodPorts mask) (mask &&& s.n .passageRingPorts 0 != 0) [r.mac]
  else s

end State

open State

/-- R223: a learn engine takes its oldest request, unless a flush runs (R236) or LEARN_EN is 0. -/
def execLearnRequestProcessed (engine : Fin 4) (s : State) : Host.Outcome State Fault Refusal :=
  match s.gal.queues[engine] with
  | r :: rest =>
    if s.gal.flushing ∨ ¬ s.bit Reg.galCtrl 1 ∨ ¬ s.galRuns then .next s
    else
      let s := s.setGal fun g => { g with queues := g.queues.set engine rest }
      match s.learnTake r with
      | (true, s) => .next (s.sendNotice r)
      | (false, s) => .next s
  | [] => .next s

end Sys2Proof.Machine
end

