-- ==== Sys2Proof/Machine/Uplink.lean ====
section
/-!
DEFINITION. The uplink ports (R307 to R325) and the sending side that uplink and Passage ports share: reception, pause
and PFC in both directions, transmission with its verdicts and MACsec, link state and loops.
-/

namespace Sys2Proof.Machine

/-- A frame with bytes of its first 128 rewritten and its check stitched (R380). Both ends of a rewrite have one length,
so that the register at its start drops out. -/
def QDesc.rewrite (d : QDesc) (pos : Nat) (written : List Byte) : QDesc :=
  let stop := pos + written.length
  if stop ≤ min editSpan d.head.length then
    { d with
      check := stitch fcsByte (d.points.getD (pos / 4) 0) ((d.head.drop pos).take written.length) written
        (d.len - 4 - stop) d.check
      head := d.head.take pos ++ written ++ d.head.drop stop }
  else d

namespace State

/-- An uplink port's record. -/
def upl (s : State) (p : Nat) : UplinkSt := tabGet (fun _ => UplinkSt.idle) s.uplinks p

/-- An uplink port's record replaced. -/
def setUpl (s : State) (p : Nat) (r : UplinkSt) : State :=
  { s with uplinks := tabPut (fun _ => UplinkSt.idle) s.uplinks p r }

/-- A port's rate in Mb/s. -/
def portRate (s : State) (p : Nat) : Nat := quadRate (s.quadMode p)

/-- A port's lanes. -/
def portLanes (s : State) (p : Nat) : Nat := quadLanes (s.quadMode p) (p % 4)

/-- UplinkFec, with its mode's default (R307). -/
def uplinkFecOf (s : State) (p : Nat) : Nat :=
  if s.isSet .uplinkFec p then s.n .uplinkFec p
  else if s.quadMode p < 4 then 3 else if s.quadMode p = 4 then 2 else 0

/-- UplinkMacAddress, with its default (R324). -/
def uplinkMacOf (s : State) (p : Nat) : Nat :=
  if s.isSet .uplinkMacAddress p then s.n .uplinkMacAddress p else (Config.baseMac.toNat + p) % 281474976710656

/-- The FEC values that a mode permits (R307). -/
def fecOk (mode v : Nat) : Bool := if mode < 4 then v == 3 else if mode = 4 then v ≤ 2 else v ≤ 1

/-- `k` × 512 bit times at a rate in Mb/s. -/
def quanta (k rate : Nat) : Time := k * 512000 * Tm.ns / rate

/-! ### Pressure and flow control sent (R298, R316) -/

/-- Whether a source's pool has signalled Pressure. -/
def pressed (s : State) (source : Nat) : Bool :=
  s.bit Reg.sumpCtrl 2 && s.n .sumpSourcePool source != 0xFF && s.tm.signalled.contains (s.n .sumpSourcePool source)

/-- The classes of an uplink port that are to be stopped. -/
def stopWanted (s : State) (p : Nat) : Nat :=
  let m := ((List.range 8).filter fun c => s.pressed (32 + p * 8 + c)).foldl (fun a c => a + 2 ^ c) 0
  match s.n .uplinkFlowControl p with
  | 1 => if m = 0 then 0 else 0xFF
  | 2 => m &&& s.n .uplinkPfcClasses p
  | _ => 0

/-- One flow-control frame: its kind, its source address, the classes stopped with UplinkPauseQuanta, and those released
with time 0. -/
def sendStop (s : State) (p stop release : Nat) : State :=
  let q := s.n .uplinkPauseQuanta p
  let s := s.setUpl p { s.upl p with
    announced := stop
    annAt := s.now
    annFor := quanta q (s.portRate p) }
  (s.emit (.ethernet p 1 [s.n .uplinkFlowControl p, s.uplinkMacOf p, stop, q, release] [] none none)).bump .uplinkPauseSent p 1

/-- The port's announcement brought up to the pressure. -/
def flowControl (s : State) (p : Nat) : State :=
  if s.n .uplinkLinkState p ≠ 2 then s
  else
    let want := s.stopWanted p
    let had := (s.upl p).announced
    if want = had then s else s.sendStop p want (had - (had &&& want))

/-! ### Flow control received (R314, R315) -/

/-- Whether a flow-control frame of a kind is acted on: 1 pause, 2 PFC. -/
def honours (s : State) (p kind : Nat) : Bool := s.on .uplinkPauseHonour p && s.n .uplinkFlowControl p == kind

/-- The stop of a class set for `time` quanta, or ended by time 0. -/
def stopClass (s : State) (p c time : Nat) : State :=
  let r := s.upl p
  s.setUpl p { r with
    stops := if time = 0 then tabErase r.stops c
             else tabPlace (tabErase r.stops c) c (s.now + quanta time (s.portRate p)) }

/-- A class stopped by the far end. -/
def stopped (s : State) (p c : Nat) : Bool :=
  match tabFind (s.upl p).stops c with
  | some e => decide (s.now < e)
  | none => false

/-- A flow-control frame that is only counted. -/
def pauseIgnored (s : State) (p : Nat) : State := (s.bump .uplinkPauseIgnored p 1).setBit (Reg.uplStatus p) 10 true

/-- An honoured frame counted. -/
def pauseHonoured (s : State) (p : Nat) : State := (s.bump .uplinkPauseHonoured p 1).count 0xA02 p 1

/-- A pause frame taken (R314, R315). -/
def takePause (s : State) (p time : Nat) : State :=
  if s.honours p 1 then ((List.range 8).foldl (fun t c => t.stopClass p c time) s).pauseHonoured p else s.pauseIgnored p

/-- A PFC frame taken: enable bits, and the times of the classes. -/
def takePfc (s : State) (p enable : Nat) (times : List Nat) : State :=
  if s.honours p 2 then
    let on (c : Nat) : Bool := enable / 2 ^ c % 2 == 1 && s.n .uplinkPfcClasses p / 2 ^ c % 2 == 1
    (((List.range 8).filter on).foldl (fun t c => t.stopClass p c (times.getD c 0 % 65536)) s).pauseHonoured p
  else s.pauseIgnored p

/-- The 16-bit word at a place of a frame's bytes. -/
def wordAt (bs : List Byte) (k : Nat) : Nat := beNat ((bs.drop k).take 2)

/-- A MAC control frame with opcode 0x0001 or 0x0101, laid out as Annex 31B and IEEE 802.1Q lay it out (R314). -/
def takeControl (s : State) (p : Nat) (pfc : Bool) (bs : List Byte) : State :=
  if pfc then s.takePfc p (wordAt bs 16) ((List.range 8).map fun c => wordAt bs (18 + 2 * c)) else s.takePause p (wordAt bs 16)

/-- Whether a port takes received frames: up, not in Closing or Dark, and not in Glim. -/
def receives (s : State) (p : Nat) : Bool := s.uplinkUp p && !s.boot.glim && s.boot.glimEntry.isNone

/-- An accepted frame counted. -/
def rxCount (s : State) (p len : Nat) : State :=
  ((s.bump .uplinkRxFrames p 1).bump .uplinkRxBytes p len).count 0xA00 p 1

/-! ### Link state (R311, R322) -/

/-- A transmit queue emptied, each frame released and counted. -/
def purgeTx (s : State) (key : Nat) (count : State → State) : State :=
  (s.queue key).foldl (fun t d => count (t.releaseFrame d.cell d.owner)) (s.setQueue key [])

/-- UplinkLinkState changed, with its event. -/
def putLink (s : State) (p v : Nat) : State :=
  let old := s.n .uplinkLinkState p
  if old = v then s
  else ((s.put .uplinkLinkState p v).setBit (Reg.uplStatus p) 9 true).raiseChange .uplinkLinkState p old v

/-- The effects of a link that goes down: queues purged, stops cleared, and the flush of R237. -/
def linkDown (s : State) (p : Nat) : State :=
  let s := (List.range 8).foldl (fun t c => t.purgeTx (txKey (8 * p + c)) fun u => u.bump .uplinkTxLinkDownDrops p 1) s
  let s := s.setUpl p { s.upl p with stops := [], announced := 0 }
  if s.on .galleryFlushOnLinkDown 0 then s.autoFlush 1 p none else s

/-- A write of UplinkLoop. -/
def uplinkLoopEff : Eff := fun s _ p bs =>
  let v := beNat bs
  let s := s.put .uplinkLoop p v
  let l := s.n .uplinkLinkState p
  if v = 1 ∧ l ≠ 0 ∧ l ≠ 3 then ((if l = 2 then s.linkDown p else s).putLink p 3, Abort.ok)
  else if v = 0 ∧ l = 3 then (s.putLink p 1, Abort.ok)
  else (s, Abort.ok)

/-! ### MACsec on receive (R319, R320, R361 to R364) -/

/-- Uncontrolled frames of a MACsec port. -/
def uncontrolled (s : State) (p etype : Nat) (ptp : Bool) : Bool :=
  etype == 0x888E || (ptp && s.on .uplinkMacsecPtpClear p)

/-- The receive SA for a SecTAG. -/
def rxSa (s : State) (port an : Nat) (sci : Nat) : Option Nat :=
  (s.sasAt port 1 an).find? fun i =>
    s.coresRun && s.n .saSci i == sci && s.n .saState i == 2 && s.n .saSnuffPhase i != 3

/-- A SecTAG checked: the frame's verdict, or none where it is discarded. -/
def macsecRx (s : State) (port : Nat) (g : SecTag) (pending : Bool) : Option Nat × State :=
  match s.rxSa port g.an g.sci with
  | none => (none, s.bump .macsecRxNoSa port 1)
  | some i =>
    let pn := s.recoverPn i g.pn
    match s.pnCheck i pn with
    | .late => (none, s.bump .macsecRxLate port 1)
    | .replay => (none, s.bump .macsecRxBadTag port 1)
    | .ok =>
      if pending then (some 0, if g.icvOk then s.saAccept i pn else s)
      else if g.icvOk then (some 1, (s.saAccept i pn).bump .macsecRxOk port 1)
      else (some 2, (s.bump .macsecRxBadTag port 1).count 0xC01 port 1)

/-! ### Reception (R312, R313, R319) -/

/-- The first reason of R313 for which a frame is dropped. -/
def dropReason (s : State) (p : Nat) (f : RxFrame) : Option Obj :=
  if f.codeError ∨ 0 < f.uncorrectable then some .uplinkDropCode
  else if f.hdr.len < 64 then some .uplinkDropRunt
  else if s.n .uplinkMaxFrame p < f.hdr.len then some .uplinkDropOversize
  else if ¬ f.fcsOk ∧ ¬ f.pending then some .uplinkDropFcs
  else if f.hdr.etype = 0x8808 ∧ f.control ≠ some 1 ∧ f.control ≠ some 0x101 then some .uplinkDropMacControl
  else none

/-- One of the counts that the lanes of a port take (R506). -/
def portLaneCounts (s : State) (p k : Nat) (v : Vector Nat 4) : State :=
  (List.finRange 4).foldl (fun t l => if v[l] = 0 ∨ s.portLanes p ≤ l.val then t else t.lineAdd (32 + p + l.val) k v[l]) s

/-- FEC counts of a frame's codewords (R313), and the counts of its lanes (R506). -/
def fecCounts (s : State) (p : Nat) (f : RxFrame) : State :=
  let s := s.portLaneCounts p 2 f.badSync
  let s := if f.corrected = 0 then s else (s.bump .uplinkFecCorrected p f.corrected).lineAdd (32 + p) 0 f.corrected
  if f.uncorrectable = 0 then s
  else ((s.bump .uplinkFecUncorrectable p f.uncorrectable).lineAdd (32 + p) 1 f.uncorrectable).setBit (Reg.uplStatus p) 8 true

/-- An accepted frame passed to classification, after MACsec. -/
def acceptFrame (s : State) (p : Nat) (pipe : Pipeline) (f : RxFrame) : State :=
  let go (s : State) (v : Nat) : State := s.pipeline ⟨.uplink p, f.hdr, none, false, 0, pipe, v⟩
  let v := if f.pending then 0 else 1
  if ¬ s.on .uplinkMacsecEnable p then go s v
  else if f.hdr.etype = 0x888E then (s.trapFrame ⟨.uplink p, f.hdr, none, false, 0, pipe, v⟩).2
  else if s.uncontrolled p f.hdr.etype f.hdr.ptp then go s v
  else
    match f.sec with
    | none => if s.n .uplinkMacsecValidate p = 2 then s.bump .uplinkMacsecUntagged p 1 else go s v
    | some g =>
      if s.n .uplinkMacsecValidate p = 0 then go s v
      else
        match s.macsecRx p g f.pending with
        | (none, s) => s
        | (some v, s) => go s v

/-! ### Transmission (R284, R304, R317, R342, R343, R363, R364) -/

/-- A port by its number in the MACsec and timestamp tables is a Passage port. -/
def isPsg (port : Nat) : Bool := 16 ≤ port

/-- Cells of credit that a Passage frame takes (R342, R365). -/
def creditCells (s : State) (q len : Nat) : Nat :=
  let pad := (4 - len % 4) % 4
  ceilDiv ((if s.on .macsecPortEnable (16 + q) then 48 else 20) + len + pad) 256

/-- A Passage port's record. -/
def psg (s : State) (q : Nat) : PsgSt := tabGet (fun _ => PsgSt.idle) s.psgs q

/-- A Passage port's record replaced. -/
def setPsg (s : State) (q : Nat) (r : PsgSt) : State := { s with psgs := tabPut (fun _ => PsgSt.idle) s.psgs q r }

/-- Credit left for a class (R342). -/
def creditLeft (s : State) (q : Nat) (c : Fin 8) : Nat :=
  ((s.psg q).granted[c] + 65536 - (s.psg q).sent[c] % 65536) % 65536

/-- A frame is of the port's controlled kind, so that MACsec protects it. -/
def controlled (s : State) (port : Nat) (d : QDesc) : Bool :=
  if isPsg port then s.on .macsecPortEnable port
  else s.on .uplinkMacsecEnable port && !(d.ptp && s.on .uplinkMacsecPtpClear port)

/-- Rate of a frame's ingress, in Mb/s, for the cut-through rule of R317. -/
def ingressRate (s : State) : Ingress → Nat
  | .uplink p => s.portRate p
  | .passage q => if s.n .passagePortState q = 3 then 168750 else 225000
  | .flow f => s.upRate (s.chanA (s.n .flowTerminal f)) / 100

/-- Whether a frame's first 512 bytes have been written since it was taken (R317). -/
def headStart (s : State) (d : QDesc) : Bool :=
  decide (512 ≤ d.len) && decide (d.at_ + 8 * quanta 1 (s.ingressRate d.ingress) ≤ s.wick)

/-- Whether a head frame may start now (R304, R317): its verdict has passed, or the port cuts through. -/
def mayStart (s : State) (port : Nat) (d : QDesc) : Bool :=
  match s.verdict d.cell with
  | 1 => true
  | 0 => if isPsg port then true
         else s.on .uplinkCutThrough port && s.headStart d && decide (s.portRate port ≤ s.ingressRate d.ingress)
  | _ => false

/-- The queues of a port's class, in the order of service: on Passage ports transit goes before local frames. -/
def classQueues (port c : Nat) : List Nat :=
  if isPsg port then [transitKey (port - 16) c, txKey (8 * port + c)] else [txKey (8 * port + c)]

/-- The head of a queue that is discarded at dequeue: a failed verdict (R304), or a length over UplinkMaxFrame (R317). -/
def headBad (s : State) (port : Nat) (d : QDesc) : Option State :=
  if s.verdict d.cell = 2 then some s.verdictDrop
  else if ¬ isPsg port ∧ s.n .uplinkMaxFrame port < d.len then some (s.bump .uplinkTxOversize port 1)
  else none

/-- A queue with its bad heads discarded. -/
def stripHeads (s : State) (port key : Nat) : Nat → State
  | 0 => s
  | fuel + 1 =>
    match s.queue key with
    | [] => s
    | d :: rest =>
      match s.headBad port d with
      | some t => ((t.setQueue key rest).releaseFrame d.cell d.owner).stripHeads port key fuel
      | none => s

/-- A held head frame noted for want of a usable transmit SA (R364). -/
def holdHead (s : State) (key : Nat) : State :=
  match s.queue key with
  | d :: rest =>
    let d := { d with held := some (d.held.getD s.now) }
    (s.setQueue key (d :: rest)).setBit Reg.ciphStatus 5 true
  | [] => s

/-- Whether a queue of a port is ready (R284), apart from its head's verdict and MACsec. -/
def txReady (s : State) (port c key : Nat) : Bool :=
  !(s.queue key).isEmpty &&
  (if isPsg port then
     (match s.queue key with
      | d :: _ => s.creditCells (port - 16) d.len ≤ s.creditLeft (port - 16) (Fin.ofNat 8 c)
      | [] => false) &&
     (131072 ≤ key || (s.peakOk .tx (8 * port + c) && s.peakOk .port port))
   else !s.stopped port c && s.peakOk .tx (8 * port + c) && s.peakOk .port port)

/-- The first queue, in the given order, from which a frame starts, with held heads noted on the way. -/
def pickTx (s : State) (port : Nat) : List (Nat × Nat) → Option (Nat × Nat) × State
  | [] => (none, s)
  | (c, key) :: rest =>
    let s := s.stripHeads port key 1024
    if ¬ s.txReady port c key then s.pickTx port rest
    else
      match s.queue key with
      | d :: _ =>
        if s.controlled port d ∧ (s.txSa port).isNone then (s.holdHead key).pickTx port rest
        else if s.mayStart port d then (some (c, key), s)
        else s.pickTx port rest
      | [] => s.pickTx port rest

/-- The order in which a port serves its queues: classes 7 down to 0. -/
def txOrder (port : Nat) : List (Nat × Nat) :=
  ([7, 6, 5, 4, 3, 2, 1, 0] : List Nat).flatMap fun c => (classQueues port c).map fun k => (c, k)

/-- A Sync message with its egress stamp written (R201): the seconds and nanoseconds in originTimestamp, the fraction in
correctionField where the profile asks for it, the UDP checksum brought up to both, and the FCS stitched. `off` is where
the PTP header starts and `udp` where the checksum lies, 0 for none. -/
def oneStep (d : QDesc) (correct : Bool) (off udp stamp : Nat) : QDesc :=
  let ns := stamp / 65536
  let old (p n : Nat) : List Byte := (d.head.drop p).take n
  let origin := beBytes 6 (ns / 1000000000) ++ beBytes 4 (ns % 1000000000)
  let cf := beBytes 8 (beNat (old (off + 8) 8) + (if correct then stamp % 65536 else 0))
  let sum := udpUpdate (udpUpdate (beNat (old udp 2)) (old (off + 34) 10) origin) (old (off + 8) 8) cf
  let e := (d.rewrite (off + 34) origin).rewrite (off + 8) cf
  if udp = 0 then e else e.rewrite udp (beBytes 2 sum)

/-- The egress stamp of a frame that crosses the ball at an instant of Wick time (R200), and the frame as it is sent: on a
one-step port the stamp stands in a Sync message of Lantern; on any other port that of a PTP event message goes to the
queue (R201). -/
def egressStamp (s : State) (p : Nat) (at_ : Time) (d : QDesc) : State × QDesc :=
  let stamp := stampOf at_ (if p < 16 then s.num .ptpPortEgressDelay p else 0)
  let s := s.putStamp p false stamp
  match d.psg with
  | [type, seq, dn, off, udp] =>
    if ¬ d.ptp ∨ 2 ≤ type ∨ isPsg p then (s, d)
    else if ¬ s.on .ptpPortOneStep p then (s.tsStamp p ⟨seq, type, dn, stamp⟩, d)
    else (s, if type = 0 then oneStep d (Config.correctionUsed (s.n .ptpPortProfile p)) off udp stamp else d)
  | _ => (s, d)

/-- The SCI of a port's transmitted SecTAGs (R361). -/
def txSci (s : State) (port : Nat) : Nat :=
  (if isPsg port then (Config.baseMac.toNat + 2 + port) % 281474976710656 else s.uplinkMacOf port) * 65536 + 1

/-- A protected frame's packet number (R362), with its counters; and its security header: AN, packet number and SCI. -/
def protect (s : State) (port : Nat) (d : QDesc) : Option SecOut × State :=
  if ¬ s.controlled port d then (none, s)
  else
    match s.txSa port with
    | some i =>
      let (pn, t) := s.saAssign i
      (some ⟨s.n .saAn i, pn, s.txSci port⟩, (t.bump .macsecTxProtected port 1).count 0xC00 0 (ceilDiv d.len 16))
    | none => (none, s)

/-- The header of a frame from a Passage queue (R335). -/
def headerOf (d : QDesc) : List Byte :=
  let x (k : Nat) : Nat := d.psg.getD k 0
  psgHeader (x 1) (x 0) (x 2) d.cls (x 3) (x 4) (x 5) (x 6) d.colour d.len (x 7)

/-- The check that a frame carries on the wire where it is stitched or kept: not where the cipher pool makes a new one
(R365, R381), nor the CRC of a frame that enters Passage here. -/
def sentCheck (s : State) (port key : Nat) (d : QDesc) : Option Nat :=
  if s.controlled port d then none
  else if ¬ isPsg port then some d.check
  else
    match d.ingress with
    | .passage q => if 131072 ≤ key ∧ ¬ s.on .macsecPortEnable (16 + q) then some d.check else none
    | _ => none

/-- A frame sent from a queue: charged, numbered, stamped and counted; its cells are released, at the verdict where it
left by cut-through. -/
def sendFrom (s : State) (port c key : Nat) (at_ : Time) : State :=
  match s.queue key with
  | [] => s
  | d :: rest =>
    let s := s.setQueue key rest
    let s := if 131072 ≤ key then s
      else (s.chargeNode .tx (8 * port + c) d.len false).chargeNode .port port d.len false
    let (sec, s) := s.protect port d
    let (s, d) := s.egressStamp port at_ d
    let check := s.sentCheck port key d
    let s := if isPsg port then
        let q := port - 16
        let cf : Fin 8 := Fin.ofNat 8 c
        let r := s.psg q
        let s := s.setPsg q { r with sent := r.sent.set cf ((r.sent[cf] + s.creditCells q d.len) % 65536) }
        let s := (s.bump .passageTxFrames q 1).emit (.passage q 0 (d.len :: d.psg) (headerOf d) check sec)
        if 131072 ≤ key then s.count 0xB01 q 1 else s
      else
        let s := ((s.bump .uplinkTxFrames port 1).bump .uplinkTxBytes port d.len).count 0xA01 port 1
        s.emit (.ethernet port 0 (d.len :: d.psg) d.head check sec)
    if s.verdict d.cell = 0 then s.setTm fun m => { m with cutting := m.cutting ++ [(port, d)] }
    else s.releaseFrame d.cell d.owner

/-- Whether a port sends at all. -/
def portSends (s : State) (port : Nat) : Bool :=
  !s.boot.glim &&
  (if isPsg port then
     (s.n .passagePortState (port - 16) == 2 || s.n .passagePortState (port - 16) == 3) &&
     s.n .passageSnuffPhase (port - 16) != 3
   else s.n .uplinkLinkState port == 2 && s.n .uplinkSnuffPhase port != 3)

/-- UPLINK_TRANSMIT_FRAME: the next frame of a port. -/
def transmit (s : State) (port : Nat) (at_ : Time) : State :=
  if ¬ s.portSends port ∨ s.skips 3 port then s
  else
    match s.pickTx port (txOrder port) with
    | (some (c, key), s) => s.sendFrom port c key at_
    | (none, s) => s

/-! ### Credit given (R342) -/

/-- The source number of a Passage port and class. -/
def psgSource (q : Nat) (c : Fin 8) : Nat := 160 + 8 * q + c.val

/-- Cells of a class given back to the far end, or withheld while the class's source is in Pressure. -/
def giveCredit (s : State) (q : Nat) (c : Fin 8) (k : Nat) : State :=
  let r := s.psg q
  if s.pressed (psgSource q c) then s.setPsg q { r with withheld := r.withheld.set c (r.withheld[c] + k) }
  else s.setPsg q { r with given := r.given.set c ((r.given[c] + k) % 65536), movedAt := some (r.movedAt.getD s.now) }

/-- What was withheld is given once the pressure has ended. -/
def creditRelease (s : State) : State :=
  (List.range 4).foldl (fun t q => (List.finRange 8).foldl (fun u c =>
    let k := (u.psg q).withheld[c]
    if k = 0 ∨ u.pressed (psgSource q c) then u
    else (u.setPsg q { u.psg q with withheld := (u.psg q).withheld.set c 0 }).giveCredit q c k) t) s

/-- What the pressed sources see after a change of SumpSourcePool or of PRESSURE_EN (R298). -/
def pressureSeen (s : State) : State := ((List.range 16).foldl (fun t p => t.flowControl p) s).creditRelease

/-! ### The rules of writes (R307 to R309, R320, R321, R353) -/

/-- Every port of a quad is Dark. -/
def quadDark (s : State) (q : Nat) : Bool := (List.range 4).all fun k => s.n .uplinkSnuffPhase (4 * q + k) == 3

/-- The checks of uplink writes at their boundary. -/
def uplinkCheck (s t : State) (o : Obj) (i : Nat) : Nat :=
  match o with
  | .uplinkQuadMode => if s.quadDark i then coresCheck s t else Abort.notDark
  | .uplinkQuadPolarity => if s.quadDark i then Abort.ok else Abort.notDark
  | .uplinkFec =>
    if ¬ s.quadDark (i / 4) then Abort.notDark
    else if fecOk (t.quadMode i) (t.uplinkFecOf i) then Abort.ok else Abort.range
  | .uplinkEnable =>
    if ¬ t.on .uplinkEnable i then Abort.ok
    else if ¬ t.portExists i then Abort.range
    else if s.n .uplinkSnuffPhase i = 1 ∨ s.n .uplinkSnuffPhase i = 2 then Abort.inSnuff
    else coresCheck s t
  | .uplinkMacsecEnable => coresCheck s t
  | .uplinkMacsecPtpClear =>
    if ¬ t.on .uplinkMacsecPtpClear i ∧ t.on .ptpPortOneStep i then Abort.range else Abort.ok
  | _ => Abort.ok

/-- What uplink writes do beyond storing; the Snuff of a disabled port is started with the others. -/
def uplinkApply (s : State) (o : Obj) (i : Nat) : State :=
  match o with
  | .uplinkEnable =>
    if s.boot.configured ∧ s.on .uplinkEnable i ∧ s.n .uplinkSnuffPhase i = 3 then
      ((s.zeroCounters .uplink i).put .uplinkSnuffPhase i 0).putLink i (if s.n .uplinkLoop i = 1 then 3 else 1)
    else s
  | .uplinkFlowControl => (s.setUpl i { s.upl i with stops := [], announced := 0 }).flowControl i
  | .uplinkPauseHonour => s.setUpl i { s.upl i with stops := [] }
  | .uplinkPfcClasses => s.flowControl i
  | .sumpSourcePool => s.pressureSeen
  | _ => s

end State

open State

/-- R312: a frame received on an uplink port; in a far-end loop it is sent back and goes nowhere else (R322). -/
def execUplinkFrameReceived (p : Uplink) (pipe : Pipeline) (f : RxFrame) (s : State) : Host.Outcome State Fault Refusal :=
  if s.n .uplinkLinkState p = 3 ∧ ¬ s.boot.glim then
    .next (s.emit (.ethernet p 2 [f.hdr.len] (f.hdr.bytes.take editSpan) (some f.hdr.fcs) none))
  else if ¬ s.receives p then .next s
  else
    let s := s.fecCounts p f
    match s.dropReason p f with
    | some o => .next (s.bump o p 1)
    | none =>
      let s := (s.rxCount p f.hdr.len).ingressStamp p
      if f.hdr.etype = 0x8808 then .next (s.takeControl p (f.control == some 0x101) f.hdr.bytes)
      else .next (s.acceptFrame p pipe f)

/-- R298: a pool's change of Pressure is signalled to the sources that SumpSourcePool maps to it; with PRESSURE_EN 0 the
sources see none. -/
def execPressureSignal (pool : Fin 16) (s : State) : Host.Outcome State Fault Refusal :=
  let now := decide (2 ≤ s.n .poolState pool)
  let was := s.tm.signalled.contains pool.val
  if now = was then .next s
  else
    let s := s.setTm fun m => { m with
      signalled := if now then m.signalled ++ [pool.val] else m.signalled.erase pool.val }
    .next s.pressureSeen

/-- R314, R315: a pause frame. -/
def execPauseFrameReceived (p : Uplink) (time : Fin 65536) (s : State) : Host.Outcome State Fault Refusal :=
  if s.n .uplinkLinkState p ≠ 2 ∨ s.n .uplinkSnuffPhase p = 3 ∨ s.boot.glim then .next s
  else .next ((s.rxCount p 64).takePause p time)

/-- R314, R315: a PFC frame, with the time of each class whose enable bit is set. -/
def execPfcFrameReceived (p : Uplink) (enable : BitVec 8) (times : Vector Nat 8) (s : State) :
    Host.Outcome State Fault Refusal :=
  if s.n .uplinkLinkState p ≠ 2 ∨ s.n .uplinkSnuffPhase p = 3 ∨ s.boot.glim then .next s
  else .next ((s.rxCount p 64).takePfc p enable.toNat times.toList)

/-- R315: a class's stop has run out. -/
def execPauseStopExpiry (p : Uplink) (c : Fin 8) (s : State) : Host.Outcome State Fault Refusal :=
  if s.stopped p c then .next s else .next (s.stopClass p c 0)

/-- R316: the announcement is sent again once half of its time has passed. -/
def execFlowControlRefresh (p : Uplink) (s : State) : Host.Outcome State Fault Refusal :=
  let r := s.upl p
  let want := s.stopWanted p
  if s.n .uplinkLinkState p = 2 ∧ r.announced ≠ 0 ∧ want = r.announced ∧ r.annAt + r.annFor / 2 ≤ s.now then
    .next (s.sendStop p want 0)
  else .next s

/-- R311: a port that gains lock and alignment goes up. -/
def execUplinkLinkUp (p : Uplink) (s : State) : Host.Outcome State Fault Refusal :=
  let lanes := (2 ^ s.portLanes p - 1)
  if s.n .uplinkLinkState p = 1 ∧ s.n .uplinkSnuffPhase p = 0 ∧ s.portExists p ∧ (s.upl p).pll % 16 &&& lanes = lanes then
    .next ((s.putLink p 2).flowControl p)
  else .next s

/-- R311: a port that has lost its conditions for `lost` ms, at least UplinkLinkDownHold, goes down; `locks` is how often
each of its lanes has lost block lock, which counts whether or not the loss lasts that long (R506). -/
def execUplinkLinkDown (p : Uplink) (lost : Nat) (locks : Vector Nat 4) (s : State) : Host.Outcome State Fault Refusal :=
  let s := if s.portExists p ∧ s.n .uplinkSnuffPhase p ≠ 3 then s.portLaneCounts p 3 locks else s
  if s.n .uplinkLinkState p = 2 ∧ s.n .uplinkLinkDownHold p ≤ lost then .next ((s.putLink p 1).linkDown p) else .next s

/-- R317: a port, uplink or Passage, takes its next frame and sends it; `at_` is the instant of Wick time at which
it crosses the ball. -/
def execUplinkTransmitFrame (port : Port) (at_ : Time) (s : State) : Host.Outcome State Fault Refusal :=
  .next (s.transmit port at_)

/-- R364: a head frame held 100 ms for want of a usable transmit SA is discarded. -/
def execMacsecHeldDiscard (port : Port) (c : Fin 8) (s : State) : Host.Outcome State Fault Refusal :=
  let late (key : Nat) : Bool := match s.queue key with
    | d :: _ => (match d.held with | some t => decide (t + 100 * Tm.ms ≤ s.now) | none => false) && s.controlled port d &&
        (s.txSa port).isNone
    | [] => false
  match (classQueues port c).find? late with
  | some key =>
    match s.queue key with
    | d :: rest => .next (((s.setQueue key rest).releaseFrame d.cell d.owner).bump .macsecNoSaDrops port 1)
    | [] => .next s
  | none => .next s

/-- R322: a write of UplinkLoop. -/
def execUplinkLoop (m : Master) (p : Uplink) (value : Nat) (s : State) : Host.Outcome State Fault Refusal :=
  .next (s.hostWrite m .uplinkLoop p (beBytes 1 value) uplinkLoopEff)

/-- Where a PTP message's header starts in its frame, and where its UDP checksum lies, 0 for none: past the addresses and
tags, directly under EtherType 0x88F7, else past the IP and UDP headers. -/
def ptpPlaces (h : FrameHdr) : Nat × Nat :=
  let l2 := 14 + (if h.outer.isSome then 4 else 0) + (if h.inner.isSome then 4 else 0)
  match h.ip with
  | none => (l2, 0)
  | some i =>
    let off := l2 + (if i.v6 then 48 else 28)
    (off, off - 2)

/-- R191: Lantern sends a PTP message on a port, by transmit queue 7 (R317). -/
def execPtpMessageSend (p : Uplink) (type : Fin 16) (seq : Fin 65536) (h : FrameHdr) (s : State) :
    Host.Outcome State Fault Refusal :=
  if s.avail ∧ s.on .ptpPortEnable p ∧ s.uplinkUp p ∧ s.ptpSends p type then
    let (off, udp) := ptpPlaces h
    let d : QDesc := ⟨0, h.len, noFlow, 7, 0, s.wick, 0, none, [type, seq, s.ptpDomain p, off, udp], true, false, .uplink p,
      h.fcs, checkpoints h.bytes, h.bytes.take editSpan⟩
    .next ((s.ptpNote p type).enqueue h.len 0 1 [⟨txKey (8 * p + 7), d⟩]).2
  else .next s

/-- R329, R480: a lane's PLL locks; an enabled Passage lane then hunts and sends idle frames and markers. -/
def execPortLanePllLocked (passage : Bool) (lane : Fin 16) (s : State) : Host.Outcome State Fault Refusal :=
  if passage then
    let q := lane.val / 4
    let l := lane.val % 4
    if s.on .passagePortEnable q ∧ s.n .passageLaneEnable q / 2 ^ l % 2 = 1 ∧ s.n .passageLaneState lane = 0 then
      let s := s.setPsg q { s.psg q with pll := putBits l l (s.psg q).pll 1 }
      .next ((s.put .passageLaneState lane 1).put .passageLaneSnuffPhase lane 0)
    else .next s
  else
    let p := (List.range 16).find? fun p => s.n .uplinkSnuffPhase p == 0 && s.portLanes p != 0 && p ≤ lane.val &&
      lane.val < p + s.portLanes p
    match p with
    | some p =>
      let k := lane.val - p
      .next (s.setUpl p { s.upl p with pll := putBits k k (s.upl p).pll 1 })
    | none => .next s

end Sys2Proof.Machine
end

