-- ==== Sys2Proof/Machine/Counters.lean ====
section
/-!
DEFINITION. The counter block's commands (R494 to R501, R442): selection, loads, units, overflow and snapshots; and the
settings of the Immediate class, which take effect when Lantern processes their message (R14).
-/

namespace Sys2Proof.Machine

/-- The catalogue of R494: the number of instances of an event, 0 where it has none. -/
def catalogue (ev : Nat) : Option Nat :=
  match ev with
  | 0x000 | 0x100 | 0x101 | 0x102 | 0x603 | 0x802 | 0xC00 => some 0
  | 0x200 | 0x201 | 0x202 | 0x210 | 0x211 | 0x212 | 0x213 | 0x214 | 0x300 | 0x301 | 0x400 | 0x401 | 0x402 | 0x500 | 0x501
  | 0x502 | 0x503 | 0x800 | 0x801 | 0xE10 | 0xE11 | 0xE12 | 0xE13 => some 32
  | 0x504 => some 3
  | 0x600 | 0x601 | 0xE00 | 0xE01 | 0xE02 | 0xE03 => some 6
  | 0x602 | 0xB00 | 0xB01 | 0xB02 => some 4
  | 0x700 | 0x900 | 0x901 | 0x902 | 0xA00 | 0xA01 | 0xA02 => some 16
  | 0x701 => some 64
  | 0xC01 => some 20
  | 0xD00 | 0xD01 => some 15
  | _ => none

/-- Whether a counter may count an event for an instance (R495). -/
def instanceOk (ev inst : Nat) : Bool :=
  match catalogue ev with
  | some k => inst == 0xFFFF || decide (inst < k)
  | none => false

namespace State

/-! ### Selection and loads (R494 to R496) -/

/-- COUNTER_EVENT. -/
def counterEventEff : Eff := fun s _ c bs =>
  if s.on .counterEnable c then (s, Abort.notDark)
  else if instanceOk (beNat bs) (s.n .counterInstance c) then (s.put .counterEvent c (beNat bs), Abort.ok)
  else (s, Abort.range)

/-- COUNTER_INSTANCE. -/
def counterInstanceEff : Eff := fun s _ c bs =>
  if s.on .counterEnable c then (s, Abort.notDark)
  else if instanceOk (s.n .counterEvent c) (beNat bs) then (s.put .counterInstance c (beNat bs), Abort.ok)
  else (s, Abort.range)

/-- COUNTER_MODE. -/
def counterModeEff : Eff := fun s _ c bs =>
  if s.on .counterEnable c then (s, Abort.notDark) else (s.put .counterMode c (beNat bs), Abort.ok)

/-- COUNTER_OVERFLOW_CLEAR. -/
def overflowClearEff : Eff := fun s _ c bs =>
  (if beNat bs = 1 then s.put .counterOverflow c 0 else s, Abort.ok)

/-- An increment that falls in the cycle of a load is added to the loaded value, where the counter is enabled. -/
def loadEff (inc : Nat) : Eff := fun s _ c bs =>
  let s := s.put .counterValue c (beNat bs)
  (if s.on .counterEnable c ∧ inc ≠ 0 then s.countAdd c inc else s, Abort.ok)

/-- The counters of a unit that a mask selects enabled or disabled together (R514 note 1). -/
def unitSet (s : State) (u mask v : Nat) : State :=
  (List.range 16).foldl (fun t k => if mask / 2 ^ k % 2 = 1 then t.put .counterEnable (16 * u + k) v else t) s

/-- UNIT_START and UNIT_STOP. -/
def unitEff (v : Nat) : Eff := fun s _ u bs => (s.unitSet u (beNat bs) v, Abort.ok)

/-! ### Snapshots (R442, R501) -/

/-- GLB_SNAPSHOT; bit 14 is CounterSnapshot. -/
def snapWord (s : State) : Nat := putBits 14 14 (s.reg Reg.glbSnapshot) (s.n .counterSnapshot 0)

/-- GLB_SNAPSHOT written: a block whose bit goes to 1 is latched, one whose bit goes to 0 is released. -/
def putSnap (s : State) (word : Nat) : State :=
  let old := s.snapWord
  let one (l : Tab Latch) (b : Nat) : Tab Latch :=
    if word / 2 ^ b % 2 = 0 then tabErase l b
    else if old / 2 ^ b % 2 = 1 then l
    else tabPlace (tabErase l b) b ⟨s.objs, s.regs⟩
  let t := { s with latched := (List.range 16).foldl one s.latched }
  (t.putReg Reg.glbSnapshot (putBits 14 14 (word % 65536) 0)).put .counterSnapshot 0 (word / 16384 % 2)

/-- What a read of a block's counters sees: the snapshot while one is held. -/
def counterView (s : State) (blk : Nat) : State :=
  match tabFind s.latched blk with
  | some l => { s with objs := l.objs, regs := l.regs }
  | none => s

/-- COUNTER_SNAPSHOT. -/
def snapshotEff : Eff := fun s _ _ bs => (s.putSnap (putBits 14 14 s.snapWord (beNat bs)), Abort.ok)

/-- A read of CNT_VAL_LO: the low half, and the high half latched; bits [31:16] of CNT_VAL_HI's word hold the half that a
write stages, which no read shows (R515). -/
def cntValLoRead (s : State) (c : Nat) : State × Nat :=
  let v := (s.counterView 14).n .counterValue c
  (s.setField (Reg.cntValHi c) 15 0 (v / 4294967296), v % 4294967296)

/-! ### Settings of the Immediate class -/

/-- FAULT_MASK: bits 0 and 7 read 1, and only eight causes have a bit (R401). -/
def faultMaskEff : Eff := fun s _ _ bs => (s.put .faultMask 0 (beNat bs % 256 ||| 0x81), Abort.ok)

/-- The effect of a write of an RW object of the Immediate class, but for those of the raw register window. -/
def settingEff (o : Obj) : Eff :=
  match o with
  | .channelLoopMode => loopEff
  | .uplinkLoop => uplinkLoopEff
  | .faultMask => faultMaskEff
  | .counterSnapshot => snapshotEff
  | .counterEvent => counterEventEff
  | .counterInstance => counterInstanceEff
  | .counterMode => counterModeEff
  | .counterValue => loadEff 0
  | o => storeEff o

end State

open State

/-- R514: a host write of UnitStart. -/
def execUnitStart (m : Master) (unit : Fin 16) (mask : BitVec 16) (s : State) : Host.Outcome State Fault Refusal :=
  .next (s.hostWrite m .unitStart unit (beBytes 2 mask.toNat) (unitEff 1))

/-- R514: a host write of UnitStop. -/
def execUnitStop (m : Master) (unit : Fin 16) (mask : BitVec 16) (s : State) : Host.Outcome State Fault Refusal :=
  .next (s.hostWrite m .unitStop unit (beBytes 2 mask.toNat) (unitEff 0))

/-- R501: a host write of CounterSnapshot. -/
def execCounterSnapshot (m : Master) (value : Nat) (s : State) : Host.Outcome State Fault Refusal :=
  .next (s.hostWrite m .counterSnapshot 0 (beBytes 1 value) snapshotEff)

/-- R497: a host write of CounterOverflowClear. -/
def execCounterOverflowClear (m : Master) (c : Fin 256) (value : Nat) (s : State) : Host.Outcome State Fault Refusal :=
  .next (s.hostWrite m .counterOverflowClear c (beBytes 1 value) overflowClearEff)

/-- R496: a host write of CounterValue; `inc` is an increment in the same fabric cycle. -/
def execCounterValueLoad (m : Master) (c : Fin 256) (value inc : Nat) (s : State) : Host.Outcome State Fault Refusal :=
  .next (s.hostWrite m .counterValue c (beBytes 8 value) (loadEff inc))

/-- R497: an enabled counter is advanced past its largest value. -/
def execCounterOverflow (c : Fin 256) (amount : Nat) (s : State) : Host.Outcome State Fault Refusal :=
  if s.on .counterEnable c ∧ s.bit Reg.cntGlobalCtrl 0 ∧ ¬ s.boot.glim ∧ counterMax < s.n .counterValue c + amount then
    .next (s.countAdd c amount)
  else .next s

end Sys2Proof.Machine
end

