-- ==== Sys2Proof/Machine/Life.lean ====
section
/-!
DEFINITION. The lifetime record (R508 to R513): what it counts, its bytes, and its saves to the two copies of the NVM.
-/

namespace Sys2Proof.Machine

namespace State

/-- Lantern runs its firmware and reaches the head-end die: additions are made and saves are taken (R398, R508, R511). -/
def recording (s : State) : Bool := s.boot.lanternUp && !s.boot.recovery && !s.ucie.headless

/-- The lifetime record replaced. -/
def setLife (s : State) (f : LifeSt → LifeSt) : State := { s with life := f s.life }

/-! ### Counts drawn from head-end counters (R508) -/

/-- The head-end counters that the record draws on: memory errors by memory ID, corrected then uncorrectable, grant-lane
disagreements, UCIe degrades and headless episodes. -/
def headCounter (s : State) (k : Nat) : Nat :=
  if k < 30 then s.n (if k % 2 = 0 then .memCorrected else .memUncorrectable) (k / 2)
  else if k = 30 then s.n .grantLaneDisagreements0 0
  else if k = 31 then s.n .grantLaneDisagreements1 0
  else if k = 32 then s.n .grantLaneDisagreements2 0
  else if k = 33 then s.n .ucieDegrades 0
  else s.n .headlessEpisodes 0

/-- The counters as they stand, to draw from next time. -/
def headBase (s : State) : Tab Nat :=
  (List.range 35).foldl (fun t k => tabPut (fun _ => 0) t k (s.headCounter k)) []

/-- The change of a counter since the latest save. -/
def headDelta (s : State) (k : Nat) : Nat := s.headCounter k - tabGet (fun _ => 0) s.life.base k

/-- The running record as it stands, with what its head-end counters have grown by. -/
def lifeNow (s : State) : LifeRec :=
  let r := s.life.rec_
  let add (t : Tab Nat) (k v : Nat) : Tab Nat := if v = 0 then t else binAdd t k v
  { r with
    memory := (List.range 30).foldl (fun t k => add t k (s.headDelta k)) r.memory
    counts := add (add (add (add (add r.counts 12 (s.headDelta 30)) 13 (s.headDelta 31)) 14 (s.headDelta 32)) 10
      (s.headDelta 33)) 3 (s.headDelta 34) }

/-! ### The record's bytes (R509) -/

/-- The entries of a histogram of `n` bins as U32. -/
def binBytes (n : Nat) (t : Tab Nat) : List Byte :=
  (List.range n).flatMap fun k => beBytes 4 (tabGet (fun _ => 0) t k)

/-- Bytes 0 to 4,927 of a record in a copy. -/
def lifeBody (r : LifeRec) (copy : Nat) : List Byte :=
  beBytes 4 0x4F594C52 ++ beBytes 1 1 ++ beBytes 1 copy ++ beBytes 1 r.reason ++ beBytes 1 0 ++ beBytes 4 r.seq ++
  beBytes 4 4960 ++ beBytes 12 r.written ++ beBytes 8 r.powered ++ Config.packageSerial.toList ++ beBytes 16 0 ++
  binBytes 16 r.counts ++ binBytes 8 r.holdover ++ binBytes 30 r.memory ++ beBytes 8 0 ++ binBytes 84 r.caseTemp ++
  binBytes 48 r.supply ++ beBytes 16 0 ++ binBytes 1024 r.margin

/-- A Read of LifetimeRecord: the running record, its digest computed at the read (R513). -/
def lifeBytes (s : State) : List Byte :=
  let body := lifeBody s.lifeNow (1 - s.life.nextCopy)
  body ++ (Config.shake256 body).toList

/-! ### Additions (R508, R510) -/

/-- The bin of a case temperature in milli-degrees. -/
def tempBin (milli : Int) : Nat := min 83 ((milli + 40000) / 2000).toNat

/-- The bin of a supply voltage in millivolts. -/
def supplyBin (mv : Nat) : Nat := min 47 ((mv - 9600) / 100)

/-- Seconds added to the time histograms and to the powered seconds. -/
def lifeSeconds (r : LifeRec) (n tbin vbin : Nat) : LifeRec :=
  { r with
    powered := r.powered + n
    caseTemp := binAdd r.caseTemp tbin n
    supply := binAdd r.supply vbin n }

/-- What Lantern adds at a Second boundary: a second to the bins of the readings, and the oven's hours. -/
def lifeSecond (s : State) : State :=
  if ¬ s.recording then s
  else
    let s := s.setLife fun l =>
      { l with rec_ := lifeSeconds l.rec_ 1 (tempBin (s.num .caseTemperature 0)) (supplyBin (s.n .supplyVoltage 0)) }
    if s.n .ovenState 0 = 1 then
      let n := s.life.ovenSeconds + 1
      let s := s.setLife fun l => { l with ovenSeconds := n }
      if n % 3600 = 0 then s.lifeCount 6 1 else s
    else s

/-! ### Saves (R511) -/

/-- A save requested: merged into one in progress, but a power-fail warning's save follows it (R452). None is made while
the head-end die runs headless or in recovery. -/
def saveStart (s : State) (reason : Nat) : State :=
  if ¬ s.recording then s
  else if s.life.saving.isSome then
    if reason = 1 then s.setLife fun l => { l with queued := true } else s
  else s.setLife fun l => { l with saving := some reason }

/-- A save written, digest last: the copy that does not hold the latest valid record takes the record with the next
sequence. A warning's save holds the holdover episode that it would cut off (R510). -/
def saveNow (s : State) (reason : Nat) : State :=
  let r := { s.lifeNow with
    seq := s.life.rec_.seq + 1
    reason := reason
    written := s.wick }
  let stored := if reason = 1 ∧ s.n .wickState 0 = 4 then holdEpisode r (s.n .timeHoldoverElapsed 0) else r
  let k := s.life.nextCopy
  let s := s.setNvm fun n => { n with copies := n.copies.set k ⟨stored, true⟩ }
  let base := s.headBase
  (s.setLife fun l => { l with
    rec_ := r
    base := base
    lastSave := some s.now
    nextCopy := 1 - k }).put .lifetimeLastSave 0 s.wick

/-- LIFETIME_RECORD_SAVED: the save in progress ends; after a warning's save PowerFailState reads 2. -/
def saveDone (s : State) : State :=
  match s.life.saving with
  | none => s
  | some reason =>
    let s := s.saveNow reason
    let s := s.setLife fun l => { l with saving := if l.queued then some 1 else none, queued := false }
    if reason = 1 ∧ s.n .powerFailState 0 = 1 then
      (s.put .powerFailState 0 2).setBit Reg.glbPfw 2 true
    else s

/-- A save taken to its end at once, before a reset marked "Save first" (R474) and at Glim entry (R479): it is merged into
one in progress. -/
def saveFirst (s : State) (reason : Nat) : State :=
  if ¬ s.recording ∨ ¬ s.nvmUp then s
  else
    let s := s.saveNow (s.life.saving.getD reason)
    s.setLife fun l => { l with saving := none, queued := false }

/-- LIFETIME_SAVE. -/
def lifetimeSaveEff : Eff := fun s _ _ bs =>
  if beNat bs = 0 then (s, Abort.ok)
  else
    let soon : Bool := match s.life.lastSave with
      | some t => decide (s.now < t + 60 * Tm.s)
      | none => false
    if soon ∨ s.n .powerFailState 0 ≠ 0 then (s, Abort.range) else (s.saveStart 4, Abort.ok)

/-! ### Start (R512) -/

/-- The running record at a start: the valid copy with the higher sequence, else a new record; what happened while
Lantern was away is counted. -/
def lifeRestore (s : State) : State :=
  let a := s.nvm.copies.getD 0 ⟨.new, false⟩
  let b := s.nvm.copies.getD 1 ⟨.new, false⟩
  let pick : LifeRec × Nat × Nat :=
    if a.valid ∧ b.valid then (if b.rec_.seq ≤ a.rec_.seq then (a.rec_, 1, 0) else (b.rec_, 0, 0))
    else if a.valid then (a.rec_, 1, 1)
    else if b.valid then (b.rec_, 0, 1)
    else (.new, 0, 2)
  let s := { s with life := ⟨pick.1, none, none, false, pick.2.1, s.life.base, 0, [], s.life.bright, s.life.owed, s.life.owedHold⟩ }
  let s := s.setLife fun l => { l with
    rec_ := l.owedHold.foldl holdEpisode
      { l.rec_ with counts := l.owed.foldl (fun t c => binAdd t c.1 c.2) l.rec_.counts }
    owed := [], owedHold := [] }
  let s := (s.put .lifetimeRecordState 0 pick.2.2).put .lifetimeLastSave 0 pick.1.written
  if pick.2.2 = 0 then s else s.raiseL 1 .lifetimeRecordState 0 (beBytes 1 0 ++ beBytes 1 pick.2.2)

/-! ### Lane margins (R510) -/

/-- Whether a lane is in service: its PON lane in Run, its uplink port up, or its Passage lane deskewed. -/
def marginLane (s : State) (l : Nat) : Bool :=
  if l < 32 then s.laneState l == 2
  else if l < 48 then
    (List.range 16).any fun p => s.uplinkUp p &&
      decide (p ≤ l - 32) && decide (l - 32 < p + s.portLanes p)
  else s.n .passageLaneState (l - 48) == 3

end State

open State

/-- R511: a host write of LifetimeSave. -/
def execLifetimeSave (m : Master) (value : Nat) (s : State) : Host.Outcome State Fault Refusal :=
  .next (s.hostWrite m .lifetimeSave 0 (beBytes 1 value) lifetimeSaveEff)

/-- R511: the Second boundary of an integer second that is a multiple of 900, at least 60 s after the latest save. -/
def execPeriodicSave (s : State) : Host.Outcome State Fault Refusal :=
  let soon : Bool := match s.life.lastSave with
    | some t => decide (s.now < t + 60 * Tm.s)
    | none => false
  if s.wick % (900 * Tm.s) = 0 ∧ ¬ soon then .next (s.saveStart 0) else .next s

/-- R511: the save in progress ends, once the NVM can be written. -/
def execLifetimeRecordSaved (s : State) : Host.Outcome State Fault Refusal :=
  if s.recording ∧ s.nvmUp then .next s.saveDone else .next s

/-- R510: a lane in service measures its eye opening once a minute, as 1/65,536 of the receiver's full scale; a PON lane
over a Good burst of this minute that carries at least 10,000 bits. -/
def execLaneMarginMeasurement (lane : Fin 64) (eye : Nat) (s : State) : Host.Outcome State Fault Refusal :=
  if s.recording ∧ s.marginLane lane ∧ tabGet (fun _ => 0) s.life.measured lane ≠ s.minute ∧
      (32 ≤ lane.val ∨ tabGet (fun _ => 0) s.life.bright lane = s.minute) then
    .next (s.setLife fun l => { l with
      measured := tabPut (fun _ => 0) l.measured lane s.minute
      rec_ := { l.rec_ with margin := binAdd l.rec_.margin (16 * lane + min 15 (eye * 16 / 65536)) 1 } })
  else .next s

end Sys2Proof.Machine
end

