-- ==== Sys2Proof/Machine/Rogue.lean ====
section
/-!
DEFINITION. Light in the gaps and rogue emission (R92 to R94, R128 to R132).
-/

namespace Sys2Proof.Machine

namespace State

/-- A stored quarantine: in the NVM for up to 256 serial numbers, else until the next restart with an event (R131). The
episode is counted in the lifetime record. -/
def quarantine (s : State) (ch : Nat) (serial : List Byte) : State :=
  let s := ((s.terms.map fun p => p.1).filter fun t => s.oct .terminalSerial t == serial).foldl
    (fun u t => u.put .terminalRogue t 1) s
  let s := s.setBit (Reg.actStatus ch) 8 true
  let s := s.lifeCount 11 1
  if s.quarantined serial then s
  else if s.nvmUp ∧ s.nvm.quarantined.length < 256 then
    let t := ((s.terms.map fun p => p.1).find? fun t => s.oct .terminalSerial t == serial).getD 0xFFFF
    s.setNvm fun n => { n with quarantined := n.quarantined ++ [(ch, t, serial)] }
  else
    { s with lan := { s.lan with rogueExtra := s.lan.rogueExtra ++ [serial] } }.raise 2 .channelRogueState ch
      (beBytes 4 256 ++ serial)

/-- QUARANTINE_REPLAY: as a channel enters Run, Disable_Serial_Number for each stored serial number (R131). -/
def quarantineReplay (s : State) (ch : Nat) : State :=
  if s.avail then (s.nvm.quarantined.map fun q => q.2.2).foldl (fun u x => u.disableSerial ch 0xFFFF x true) s else s

/-- What Lantern restores of the stored quarantines at a start: TerminalRogue, the serial number, and Disabled (R131). -/
def quarantineRestore (s : State) : State :=
  (s.nvm.quarantined.filter fun q => q.2.1 < 8192).foldl (fun u q =>
    let u := (u.put .terminalRogue q.2.1 1).putOct .terminalSerial q.2.1 q.2.2
    match u.sideOn q.2.1 q.1 with
    | some k => if u.tstate q.2.1 k = 0 then u.putT q.2.1 k 6 else u
    | none => u) s

/-- ChannelRogueState written. -/
def putRogue (s : State) (ch v : Nat) : State := s.put .channelRogueState ch v

/-- A terminal silenced on a channel: Disabled, its record reading zero. -/
def silence (s : State) (t ch : Nat) : State :=
  match s.sideOn t ch with
  | some k =>
    let s := s.disableSerial ch t (s.oct .terminalSerial t) true
    ((s.putT t k 6).clearRecord t k).setSd t k { SideSt.idle with admitted := (s.sd t k).admitted, strayAt := (s.sd t k).strayAt }
  | none => s

/-- A silenced terminal enabled again: Idle, to join by discovery. -/
def unsilence (s : State) (t ch : Nat) : State :=
  let s := s.disableSerial ch t (s.oct .terminalSerial t) false
  if s.stateOn t ch = 6 then s.goIdle t ch else s

/-- ROGUE_ISOLATION (R128): observed from the sixth frame after the first message, which goes in the next frame. -/
def isolate (s : State) (t ch : Nat) : State :=
  let s := (s.silence t ch).putRogue ch 1
  s.setAct ch { s.act ch with watch := some (t, s.frameNo + 7, false) }

/-- A terminal's overlong and early-light bursts in the last 60 s. -/
def strayCount (s : State) (t ch : Nat) : Nat :=
  match s.sideOn t ch with
  | some k => ((s.sd t k).strayAt.filter fun x => s.now < x + 60 * Tm.s).length
  | none => 0

/-- Whether a terminal comes before another in a hunt (R129). -/
def huntBefore (s : State) (ch a b : Nat) : Bool :=
  let adm (t : Nat) : Time := match s.sideOn t ch with | some k => (s.sd t k).admitted | none => 0
  s.strayCount b ch < s.strayCount a ch ||
  (s.strayCount a ch == s.strayCount b ch && (adm b < adm a || (adm a == adm b && a < b)))

/-- A terminal placed in hunt order. -/
def huntPlace (s : State) (ch t : Nat) : List Nat → List Nat
  | [] => [t]
  | u :: rest => if s.huntBefore ch t u then t :: u :: rest else u :: huntPlace s ch t rest

/-- The serial numbers that a hunt tries, in order: those of the terminals bound to the channel, but for quarantined ones,
which are silent already, then those of the log. -/
def huntList (s : State) (ch : Nat) : List (List Byte) :=
  let ts := ((s.terminalsOn ch).filter fun t => s.oct .terminalSerial t != List.replicate 8 0 &&
    !s.on .terminalRogue t).foldl (fun l t => s.huntPlace ch t l) []
  let bound := ts.map fun t => s.oct .terminalSerial t
  let log := ((s.listed .discoveredCount).filter fun i =>
    s.n .discoveredChannel i == ch && s.wick < s.n .discoveredTime i + 600 * Tm.s).map fun i => s.oct .discoveredSerial i
  bound ++ log.filter fun x => !bound.contains x

/-- One step of a hunt: a serial number silenced. -/
def huntStep (s : State) (ch : Nat) (serial : List Byte) (todo : List (List Byte)) : State :=
  let s := match s.boundAs ch serial with
    | some t => s.silence t ch
    | none => s.disableSerial ch 0xFFFF serial true
  s.setAct ch { s.act ch with hunt := some ⟨todo, serial, s.frameNo + 7, false, false, false⟩ }

/-- A hunt ended: 0 with a culprit, 3 unresolved, by abort too, with an event and the wait of R130. -/
def huntEnd (s : State) (ch v : Nat) : State :=
  let s := (s.setAct ch { s.act ch with hunt := none, litRun := if v = 3 then (s.act ch).litRun else 0 }).setBit
    (Reg.actStatus ch) 9 true
  let s := s.putRogue ch v
  if v = 3 then
    (s.setAct ch { s.act ch with retryAt := some (s.now + s.n .channelRogueRetry ch * Tm.s) }).raiseChange
      .channelRogueState ch 2 3
  else s

/-- ROGUE_HUNT_START. -/
def huntStart (s : State) (ch : Nat) : State :=
  let s := s.putRogue ch 2
  match s.huntList ch with
  | [] => s.huntEnd ch 3
  | x :: rest => s.huntStep ch x rest

/-- A write of TerminalRogueRelease. -/
def rogueReleaseEff : Eff := fun s _ t bs =>
  if beNat bs = 0 ∨ ¬ s.on .terminalRogue t then (s, Abort.ok)
  else
    let serial := s.oct .terminalSerial t
    let s := (s.chansOf t).foldl (fun u ch => u.unsilence t ch) (s.put .terminalRogue t 0)
    let s := s.setNvm fun n => { n with quarantined := n.quarantined.filter fun q => q.2.2 != serial }
    ({ s with
      lan := { s.lan with rogueExtra := s.lan.rogueExtra.filter fun x => x != serial } }, Abort.ok)

/-- Light noted for the observation in progress. -/
def lightSeen (s : State) (ch : Nat) : State :=
  let a := s.act ch
  let a := match a.watch with
    | some (t, f, lit) => { a with watch := some (t, f, lit || f ≤ s.frameNo) }
    | none => a
  let a := match a.hunt with
    | some h => { a with hunt := some { h with lit := h.lit || h.from_ ≤ s.frameNo } }
    | none => a
  s.setAct ch a

end State

open State

/-- R94, R128, R129: a run of lit frames, or of frames with one terminal's stray light, has reached ChannelRogueFrames. -/
def execRogueSuspicion (ch : Chan) (named : Option Term) (s : State) : Host.Outcome State Fault Refusal :=
  let limit := s.n .channelRogueFrames ch
  let a := s.act ch
  let action := s.n .channelRogueAction ch
  let report (u : State) (t : Nat) : State :=
    (u.setBit (Reg.tcUsStatus ch) 8 true).raise 2 .channelRogueState ch (beBytes 1 limit ++ beBytes 2 t)
  let busy : Bool := a.watch.isSome || a.hunt.isSome
  match named with
  | some t =>
    match s.sideOn t ch with
    | some k =>
      if limit ≤ (s.sd t k).strayRun then
        let s := (s.setSd t k { s.sd t k with strayRun := 0 })
        let s := report s t
        .next (if action = 0 ∨ busy then s else s.isolate t ch)
      else .next s
    | none => .next s
  | none =>
    if a.litRun < limit then .next s
    else
      let s := report s 0xFFFF
      if action = 2 ∧ a.retryAt.isNone ∧ s.avail ∧ ¬ busy then .next (s.huntStart ch)
      else .next (s.setAct ch { s.act ch with litRun := if a.retryAt.isSome then a.litRun else 0 })

/-- R128: the observation ends: dark since, the terminal is rogue; lit, it is enabled again, and a hunt starts with
ChannelRogueAction 2. -/
def execRogueObservationEnd (ch : Chan) (s : State) : Host.Outcome State Fault Refusal :=
  let a := s.act ch
  match a.watch with
  | some (t, f, lit) =>
    if s.frameNo < f + s.n .channelRogueFrames ch then .next s
    else
      let s := s.setAct ch { a with watch := none }
      if lit then
        let s := (s.unsilence t ch).putRogue ch 0
        .next (if s.n .channelRogueAction ch = 2 ∧ a.retryAt.isNone then s.huntStart ch else s)
      else .next ((s.quarantine ch (s.oct .terminalSerial t)).putRogue ch 0)
  | none => .next s

/-- R129, R130: a hunt's step ends. -/
def execHuntStepEnd (ch : Chan) (s : State) : Host.Outcome State Fault Refusal :=
  match (s.act ch).hunt with
  | some h =>
    if ¬ h.snuffed ∧ s.frameNo < h.from_ + s.n .channelRogueFrames ch then .next s
    else if ¬ h.lit ∧ ¬ h.abort ∧ ¬ h.snuffed then .next ((s.quarantine ch h.cur).huntEnd ch 0)
    else
      let s := if h.snuffed then s else match (s.terminalsOn ch).find? fun t => s.oct .terminalSerial t == h.cur with
        | some t => s.unsilence t ch
        | none => s.disableSerial ch 0xFFFF h.cur false
      if h.abort then .next (s.huntEnd ch 3)
      else
        match h.todo with
        | [] => .next (s.huntEnd ch 3)
        | x :: rest => .next (s.huntStep ch x rest)
  | none => .next s

/-- R130: ChannelRogueRetry seconds after an unresolved hunt, a hunt may start again, and does so while the channel is
still lit. -/
def execHuntRetry (ch : Chan) (s : State) : Host.Outcome State Fault Refusal :=
  let a := s.act ch
  match a.retryAt with
  | some t =>
    if t ≤ s.now then
      let s := s.setAct ch { a with retryAt := none }
      if s.n .channelRogueFrames ch ≤ a.litRun ∧ s.n .channelRogueAction ch = 2 ∧ s.avail then .next (s.huntStart ch)
      else .next s
    else .next s
  | none => .next s

/-- R130: ACT_CTRL.HUNT_ABORT ends a running hunt after the step in progress. -/
def execHuntAbort (ch : Chan) (s : State) : Host.Outcome State Fault Refusal :=
  match (s.act ch).hunt with
  | some h => .next (s.setAct ch { s.act ch with hunt := some { h with abort := true } })
  | none => .next s

/-- R131: a host write of TerminalRogueRelease. -/
def execRogueRelease (m : Master) (t : Term) (value : Nat) (s : State) : Host.Outcome State Fault Refusal :=
  .next (s.hostWrite m .terminalRogueRelease t (beBytes 1 value) rogueReleaseEff)

end Sys2Proof.Machine
end

