-- ==== Sys2Proof/Machine/Grants.lean ====
section
/-!
DEFINITION. The grant engine, first part (R137 to R145, R157 to R165): allocations and their Alloc-IDs, demand, epochs,
FSYNC, and cooperative orders.
-/

namespace Sys2Proof.Machine

namespace State

/-- The grant engine's state replaced. -/
def setGr (s : State) (f : GrantSt → GrantSt) : State := { s with grants := f s.grants }

/-- A channel in the grant engine. -/
def gch (s : State) (ch : Nat) : GrantCh := tabGet (fun _ => GrantCh.idle) s.grants.chans ch

/-- A channel in the grant engine replaced. -/
def setGch (s : State) (ch : Nat) (r : GrantCh) : State :=
  s.setGr fun g => { g with chans := tabPut (fun _ => GrantCh.idle) g.chans ch r }

/-- Demand of an allocation, a default allocation being 16,384 + terminal. -/
def dem (s : State) (a : Nat) : DemandSt := tabGet (fun _ => DemandSt.idle) s.grants.demand a

/-- Demand replaced. -/
def setDem (s : State) (a : Nat) (d : DemandSt) : State :=
  s.setGr fun g => { g with demand := tabPut (fun _ => DemandSt.idle) g.demand a d }

/-- The number of a terminal's default allocation (R138). -/
def dflt (t : Nat) : Nat := 16384 + t

/-- Whether an allocation is a default allocation. -/
def isDflt (a : Nat) : Bool := 16384 ≤ a

/-- The terminal of an allocation. -/
def allocTerm (s : State) (a : Nat) : Nat := if isDflt a then a - 16384 else s.n .allocTerminal a

/-! ### Alloc-IDs (R137) -/

/-- Allocations whose bursts a channel carries. -/
def allocsOn (s : State) (ch : Nat) : List Nat :=
  (s.listed .allocTerminal).filter fun a => s.allocChan a == ch

/-- The Alloc-IDs of a generation. -/
def allocIdOk (gen id : Nat) : Bool := if gen = 1 then 256 ≤ id && id ≤ 4095 else 1024 ≤ id && id ≤ 16383

/-- Whether an Alloc-ID is held on a channel by another allocation. -/
def allocIdHeld (s : State) (ch a id : Nat) : Bool :=
  (s.allocsOn ch).any fun b => b != a && s.n .allocIdAssigned b == id

/-- The Alloc-ID for an allocation on its channel. -/
def allocIdFor (s : State) (ch a : Nat) : Option Nat :=
  let want := s.n .allocIdValue a
  if want ≠ 0xFFFF then (if allocIdOk (s.gen ch) want && !s.allocIdHeld ch a want then some want else none)
  else (List.range 16384).find? fun id => allocIdOk (s.gen ch) id && !s.allocIdHeld ch a id

/-- Lantern's Assign_Alloc-ID for one allocation whose terminal is in service on its channel (R137, R175); an Alloc-ID
lapses as its terminal becomes Idle there. -/
def allocAssign (s : State) (a : Nat) : State :=
  let ch := s.allocChan a
  let t := s.n .allocTerminal a
  if s.n .allocIdAssigned a = 0xFFFF then
    if s.avail ∧ ch ≠ 255 ∧ s.inService t ch ∧ s.n .allocSnuffPhase a = 0 then
      match s.allocIdFor ch a with
      | some id => (s.put .allocIdAssigned a id).ploamLan ch .assignAllocId t (s.n .terminalOnuIdAssigned t) [id, a, 1]
      | none => s
    else s
  else if ch = 255 ∨ s.stateOn t ch = 0 then (s.put .allocIdAssigned a 0xFFFF).setDem a DemandSt.idle
  else s

/-- Assignments at a Frame boundary, for every enabled allocation. -/
def allocFrame (s : State) : State := (s.withNum .allocEnable 1).foldl (fun u a => u.allocAssign a) s

/-- An allocation is granted from the first map computed after its Assign_Alloc-ID has been sent. -/
def noteAlloc (s : State) (ch : Nat) : State :=
  let f := s.framer ch
  (f.noted.filter fun p => p.1 == Ploam.assignAllocId).foldl (fun u p =>
    match p.2.2 with
    | [_, a, on_] => u.setDem a { u.dem a with ready := on_ == 1 }
    | _ => u) (s.setFramer ch { f with noted := f.noted.filter fun p => p.1 != Ploam.assignAllocId })

/-! ### Shares and their checks (R140 to R142, R165) -/

/-- Words per frame that an allocation may be granted at most. -/
def maxWords (s : State) (a ch : Nat) : Nat :=
  if isDflt a then 256
  else if s.n .allocMaxWords a = 0 then s.frameWords ch else s.n .allocMaxWords a

/-- The table of R140. -/
def typeOk (s : State) (a : Nat) : Bool :=
  let f := s.n .allocFixedWords a
  let g := s.n .allocAssuredWords a
  let n := s.n .allocNonAssuredWords a
  match s.n .allocType a with
  | 1 => 0 < f && g == 0 && n == 0
  | 2 => f == 0 && 0 < g && n == 0
  | 3 => f == 0 && 0 < g && 0 < n
  | 4 => f == 0 && g == 0 && n == 0
  | 5 => true
  | 6 => f == 0 && g == 0 && n == 0 && 0 < s.n .allocCoopWords a
  | _ => false

/-- The shortest regular epoch of a channel. -/
def shortestEpoch (s : State) (ch : Nat) : Nat :=
  s.n .channelEpochFrames ch - if s.on .channelEpochSync ch then 1 else 0

/-- The check of R141; what depends on a channel is judged once the allocation has one. -/
def sharesOk (s : State) (a : Nat) : Bool :=
  let ch := s.allocChan a
  s.typeOk a && s.n .allocFixedPhase a < s.n .allocFixedPeriod a &&
  (ch == 255 || s.n .allocFixedPeriod a ≤ s.shortestEpoch ch) &&
  (let m := s.n .allocMaxWords a
   let sum := s.n .allocFixedWords a + s.n .allocCoopWords a
   if m ≠ 0 then sum ≤ m else ch == 255 || s.gen ch == 0 || sum ≤ s.frameWords ch)

/-- ChannelCommittedWords (R142). -/
def committedWords (s : State) (ch : Nat) : Nat :=
  (((s.withNum .allocEnable 1).filter fun a => s.allocChan a == ch).map fun a =>
    ceilDiv (s.n .allocFixedWords a) (max 1 (s.n .allocFixedPeriod a)) + s.n .allocAssuredWords a + s.n .allocCoopWords a).foldl
    (· + ·) 0

/-- Whether a channel's committed words keep ChannelCommitLimit. -/
def commitOk (s : State) (ch : Nat) : Bool :=
  ch == 255 || s.gen ch == 0 || s.committedWords ch * 100 ≤ s.n .channelCommitLimit ch * s.frameWords ch

/-- R142 for one write: refused where the sum exceeds the limit and the write, alone, makes it larger. -/
def commitCheck (s t : State) (o : Obj) (i : Nat) : Nat :=
  let alone := s.putVal o i (t.val o i)
  let ch := t.allocChan i
  if ¬ t.commitOk ch ∧ s.committedWords ch < alone.committedWords ch then Abort.range else Abort.ok

/-- The enabled allocations that a channel carries, as R6 counts them. -/
def allocCount (s : State) (ch : Nat) : Nat := ((s.withNum .allocEnable 1).filter fun a => s.allocChan a == ch).length

/-- R7 for one write that enables or binds allocations: refused where a channel would then carry more than 2,048 enabled
allocations and the write, alone, gives it one more (log entry 123). -/
def allocLimit (s t : State) (o : Obj) (i : Nat) : Nat :=
  let alone := s.putVal o i (t.val o i)
  if (List.range 32).any fun ch => decide (2048 < t.allocCount ch) && decide (s.allocCount ch < alone.allocCount ch)
  then Abort.full else Abort.ok

/-- The objects of an allocation whose values R141 checks together. -/
def allocParams : List Obj :=
  [.allocTerminal, .allocChannelB, .allocType, .allocFixedWords, .allocFixedPeriod, .allocFixedPhase, .allocAssuredWords,
   .allocNonAssuredWords, .allocBestEffortWeight, .allocMaxWords, .allocCoopWords, .allocCoopMargin, .allocReport]

/-- Whether the writes of a boundary change a parameter of an allocation and leave parameters that R141 refuses. -/
def sharesFail (s t : State) (a : Nat) : Bool :=
  !t.sharesOk a && allocParams.any fun o => s.val o a != t.val o a

/-- The first refusal of a list of codes. -/
def firstRefusal : List Nat → Nat
  | [] => Abort.ok
  | c :: cs => if c = Abort.ok then firstRefusal cs else c

/-- The checks of grant-engine writes at their boundary. -/
def grantCheck (s t : State) (o : Obj) (i : Nat) : Nat :=
  match o with
  | .allocTerminal | .allocChannelB =>
    if ¬ s.dark? .allocSnuffPhase i then Abort.notDark
    else if ¬ t.sharesOk i then Abort.range
    else firstRefusal [s.allocLimit t o i, s.commitCheck t o i]
  | .allocIdValue =>
    let v := t.n .allocIdValue i
    let ch := t.allocChan i
    if s.sharesFail t i then Abort.range
    else if v = 0xFFFF then Abort.ok
    else if (ch ≠ 255 ∧ t.gen ch ≠ 0 ∧ ¬ allocIdOk (t.gen ch) v) ∨ (ch ≠ 255 ∧ t.allocIdHeld ch i v) then Abort.range
    else Abort.ok
  | .allocEnable =>
    if t.on .allocEnable i ∧ (s.n .allocSnuffPhase i = 1 ∨ s.n .allocSnuffPhase i = 2) then Abort.inSnuff
    else if s.sharesFail t i ∨ (t.on .allocEnable i ∧ ¬ t.sharesOk i) then Abort.range
    else firstRefusal [s.allocLimit t o i, s.commitCheck t o i]
  | .terminalChannel | .terminalBonded => s.allocLimit t o i
  | .allocType | .allocFixedWords | .allocFixedPeriod | .allocFixedPhase | .allocAssuredWords | .allocNonAssuredWords
  | .allocBestEffortWeight | .allocMaxWords | .allocCoopWords | .allocCoopMargin | .allocReport =>
    if t.sharesOk i then s.commitCheck t o i else Abort.range
  | .channelCommitLimit =>
    if ¬ t.commitOk i ∧ t.n .channelCommitLimit i < s.n .channelCommitLimit i then Abort.range else Abort.ok
  | .channelEpochFrames | .channelEpochSync =>
    if (o = .channelEpochSync ∧ ¬ t.on .channelEpochSync i) then Abort.ok
    else if ((t.withNum .allocEnable 1).filter fun a => t.allocChan a == i).any fun a =>
        t.shortestEpoch i < t.n .allocFixedPeriod a then Abort.range
    else Abort.ok
  | .coopPathId =>
    let v := t.n .coopPathId i
    if v ≠ 0xFFFFFFFF ∧ (t.withNum .coopPathId v).any fun j => j != i then Abort.range else Abort.ok
  | _ => Abort.ok

/-! ### Epochs (R162 to R165) -/

/-- The epoch that holds a frame. -/
def epochOf (s : State) (ch f : Nat) : Option (Nat × Nat) :=
  (s.gch ch).epochs.find? fun e => e.1 ≤ f && f < e.1 + e.2

/-- The epoch index of a frame. -/
def epochIndex (s : State) (ch f : Nat) : Nat :=
  match s.epochOf ch f with
  | some e => f - e.1
  | none => 0

/-- The length of the regular epoch that starts at frame `f`, with the adjustment of R163. -/
def epochLen (s : State) (ch f : Nat) : Nat :=
  let e := s.n .channelEpochFrames ch
  if s.on .channelEpochSync ch then
    match (s.gch ch).phase with
    | some p =>
      let d := (p + s.n .channelEpochFsyncOffset ch + e - f % e) % e
      if d = 0 then e else if 2 * d ≤ e then e + 1 else e - 1
    | none => e
  else e

/-- One more epoch fixed, from the end of the latest. -/
def fixEpoch (s : State) (ch f : Nat) : State :=
  let len := s.epochLen ch f
  let g := s.gch ch
  let s := s.setGch ch { g with epochs := g.epochs ++ [(f, len)] }
  if len = s.n .channelEpochFrames ch then s
  else (s.bump .epochAdjustments ch 1).setBit (Reg.grantChStatus ch) 9 true

/-- The epochs carried on so that frame `f` lies in one: the initial epoch starts at the entry to Run. -/
def coverEpoch (s : State) (ch f : Nat) : State :=
  match (s.gch ch).epochs.getLast? with
  | none =>
    let e := s.n .channelEpochFrames ch
    let first := ceilDiv f e * e
    if first = f then s.fixEpoch ch f
    else s.setGch ch { s.gch ch with epochs := [(f, first - f)] }
  | some (a, n) => if f < a + n then s else s.fixEpoch ch (a + n)

/-! ### Demand (R143, R144) -/

/-- Whether the allocation asks for status reports; a default allocation does. -/
def reports (s : State) (a : Nat) : Bool := isDflt a || s.on .allocReport a

/-- The words granted in maps `lo` to `hi`. -/
def grantedIn (d : DemandSt) (lo hi : Nat) : Nat :=
  ((d.history.filter fun h => lo ≤ h.1 && h.1 ≤ hi).map fun h => h.2).foldl (· + ·) 0

/-- The demand of an allocation for the map of frame `m`. -/
def demand (s : State) (a ch m : Nat) : Nat :=
  let d := s.dem a
  let probe := if s.epochIndex ch m = 0 then s.n .channelProbeWords ch else 0
  if s.reports a then
    match d.report with
    | none => probe
    | some (k, w) =>
      let left := w - grantedIn d (k + 1) (m - 1)
      if left = 0 ∧ (w = 0 ∨ d.lost) then probe else left
  else
    match d.est with
    | none => probe
    | some v => v

/-- The words granted to an allocation in the map of frame `m` noted in its history of 16 maps. -/
def noteGranted (s : State) (a m words grants : Nat) : State :=
  let d := s.dem a
  s.setDem a { d with
    history := (d.history.filter fun h => m < h.1 + 16) ++ (if words = 0 then [] else [(m, words)])
    last := words, grants := grants }

/-! ### Cooperative orders (R157 to R161) -/

/-- A rejection that names a channel. -/
def coopReject (s : State) (ch reason a m : Nat) : State :=
  let s := (s.bump .coopOrdersRejected ch 1).setBit (Reg.grantChStatus ch) 13 true
  let s := if reason = 1 then s.bump .coopOrdersLate ch 1 else s
  if s.limitFree (0x3000 + ch) 100 then
    (s.limitTake (0x3000 + ch)).raiseRefusal .coopOrdersRejected ch reason (beBytes 2 a ++ beBytes 8 m)
  else s

/-- A rejection that names no channel. -/
def coopUnattributed (s : State) (reason : Nat) : State :=
  let s := s.bump .coopOrdersUnattributed 0 1
  if s.limitFree 0x3100 100 then (s.limitTake 0x3100).raiseRefusal .coopOrdersUnattributed 0 reason else s

/-- An order taken into its channel's store, or rejected for its deadline, the horizon or a full store. -/
def storeOrder (s : State) (ch : Nat) (o : Order) : State :=
  let g := s.gch ch
  if o.frame < 2 ∨ (o.frame - 2) * Tm.frame < s.wick + 40 * Tm.us then s.coopReject ch 1 o.alloc o.frame
  else if s.frameNo + s.n .channelCoopHorizon ch < o.frame then s.coopReject ch 2 o.alloc o.frame
  else
    let same (x : Order) : Bool := x.alloc == o.alloc && x.frame == o.frame
    let rest := g.orders.filter fun x => !same x
    if 256 ≤ rest.length then s.coopReject ch 9 o.alloc o.frame
    else s.setGch ch { g with orders := rest ++ [o] }

/-- The words of payload that a burst of one allocation holds from a StartTime to the end of the frame less the gap. -/
def orderRoom (s : State) (ch a start : Nat) : Nat :=
  let b := s.bwords ch
  let p := s.profileOf ch (s.profileFor (s.n .allocTerminal a) ch)
  fitContent b (s.fecOf ch p) (s.frameWords ch - s.gapWords ch - start) - (b.header + b.trailer + if s.reports a then b.report else 0)

/-- A bound entry as an order (R158); what runs past the frame's end becomes a second order for the next map. -/
def takeOrder (s : State) (a : Nat) (start volume : Nat) : State :=
  let ch := if a < 16384 then s.allocChan a else 255
  if ch = 255 ∨ s.gen ch = 0 then s.coopUnattributed 5
  else
    let t := ((start : Int) + s.num .channelCoopTimeOffset ch * (Tm.ns : Nat)).toNat
    let m := (t - upDelay) / Tm.frame
    let at_ := ceilDiv (t - upDelay - m * Tm.frame) (max 1 (s.wordSpan ch 1))
    let words := ceilDiv (volume * (100 + s.n .allocCoopMargin a)) (100 * (wordBits (s.gen ch) / 8))
    let room := s.orderRoom ch a at_
    let s := s.storeOrder ch ⟨a, m, at_, min words room, s.now, false⟩
    if words ≤ room then s
    else
      let p := s.profileOf ch (s.profileFor (s.n .allocTerminal a) ch)
      s.storeOrder ch ⟨a, m + 1, s.leadOf ch p, words - room, s.now, false⟩

/-- The bound entry of a path identifier (R176 note 1). -/
def coopBinding (s : State) (path : Nat) : Option Nat :=
  if path = 0xFFFFFFFF then none
  else (s.withNum .coopPathId path).find? fun i => s.n .coopAllocation i != 0xFFFF

/-- One entry of a CTI report. -/
def ctiEntry (s : State) (e : CtiEntry) : State :=
  match e.path, e.start, e.volume with
  | some path, some start, some volume =>
    match s.coopBinding path with
    | none => s.coopUnattributed 3
    | some i =>
      let dev := s.n .coopDevice i
      let a := s.n .coopAllocation i
      if dev = 0xFFFF ∨ dev = s.n .passageDeviceId 0 then s.takeOrder a start volume
      else
        let ports := s.routePorts dev
        if ports.isEmpty then s.bump .passageNoRoute ((maskPorts (s.n .passageRoute dev)).head?.getD 0) 1
        else s.cascadeFrame 2 dev 0 20 7 ports (s.ringRoute (s.n .passageRoute dev)) [a, start, volume]
  | _, _, _ => s.coopUnattributed 11

/-- Every order of a channel discarded with a reason (R160 notes 4 and 6, R174). -/
def dropOrders (s : State) (ch reason : Nat) (p : Order → Bool) : State :=
  let g := s.gch ch
  (g.orders.filter p).foldl (fun u o => u.coopReject ch reason o.alloc o.frame)
    (s.setGch ch { g with orders := g.orders.filter fun o => !p o })

/-- COOP_ORDER_DISCARD: a step of Wick discards the orders and counts them late (R186). -/
def lateOrders (s : State) (ch : Nat) : State :=
  let g := s.gch ch
  if g.orders.isEmpty then s
  else (s.setGch ch { g with orders := [] }).bump .coopOrdersLate ch g.orders.length

/-! ### FSYNC (R164) -/

/-- An accepted FSYNC edge: P of R163 is the Frame boundary nearest the edge, the later one on a tie; it is confirmed for
each channel by that channel's own E. -/
def fsyncEdge (s : State) (stamp : Time) : State :=
  let p := (stamp + Tm.frame / 2) / Tm.frame
  let prev := s.grants.fsyncP
  let chans := List.range 32
  let good (u : State) (ch : Nat) : Bool := match prev with
    | some q => (p : Int) % (u.n .channelEpochFrames ch : Nat) == (q : Int) % (u.n .channelEpochFrames ch : Nat)
    | none => false
  let s := s.setGr fun g => { g with
    fsyncAt := some stamp, fsyncLost := false, fsyncP := some p, fsyncOk := chans.any fun c => good s c }
  chans.foldl (fun u ch =>
    if good u ch then u.setGch ch { u.gch ch with phase := some p } else u) s

end State

open State

/-- R157: a CTI report that classification has trapped on an uplink port, in UDP or in its own EtherType. -/
def execCtiReport (p : Uplink) (ether : Bool) (entries : List CtiEntry) (s : State) : Host.Outcome State Fault Refusal :=
  if s.receives p ∧ (if ether then s.n .coopEtherType 0 else s.n .coopUdpPort 0) ≠ 0 then
    .next (entries.foldl (fun u e => u.ctiEntry e) s)
  else .next s

/-- R344: a relayed order arrives at this device. -/
def execPassageCooperativeOrder (q : Psg) (alloc : Fin 65536) (start volume : Nat) (s : State) :
    Host.Outcome State Fault Refusal :=
  if s.psgUp q then .next (s.takeOrder alloc start volume) else .next s

/-- R164: an FSYNC edge, with its Wick time. -/
def execFsyncEdge (rising : Bool) (stamp : Time) (s : State) : Host.Outcome State Fault Refusal :=
  if rising ≠ (s.n .fsyncEdge 0 == 0) then .next s
  else
    match s.grants.fsyncAt with
    | some t =>
      if stamp < t + 500 * Tm.us then .next (s.setGr fun g => { g with
        fsyncAt := some stamp, fsyncLost := false, fsyncIgnored := g.fsyncIgnored + 1 })
      else .next (s.fsyncEdge stamp)
    | none => .next (s.fsyncEdge stamp)

/-- R164: FsyncLostTimeout without an edge, since the latest one or since the supply came up; the phase is kept. The next
edge arms the event again. -/
def execFsyncLost (s : State) : Host.Outcome State Fault Refusal :=
  let since := match s.grants.fsyncAt with
    | some t => s.wick - t
    | none => s.now
  if s.n .fsyncLostTimeout 0 * Tm.ms ≤ since ∧ ¬ s.grants.fsyncLost then
    .next (((s.setBit Reg.grantFsync 3 true).setGr fun g => { g with fsyncLost := true }).raiseRefusal .fsyncLostTimeout 0 0)
  else .next s

end Sys2Proof.Machine
end

