-- ==== Sys2Proof/Machine/Layout.lean ====
section
/-!
DEFINITION. The grant engine, second part (R149 to R156, R518): the layout of a map. Words are numbered from 0 in the
upstream frame; a span is half-open.
-/

namespace Sys2Proof.Machine

/-- A map under construction: the first word that no burst may use (the gap begins there), the reserved spans with
whether each is a window, and the bursts placed, in the order of placement. -/
structure Lay where
  limit : Nat
  blocks : List (Nat × Nat)
  bursts : List Burst

/-- A number placed in a rising list without repeats. -/
def insertNat (a : Nat) : List Nat → List Nat
  | [] => [a]
  | b :: t => if a < b then a :: b :: t else if a = b then b :: t else b :: insertNat a t

namespace Lay

/-- The occupied spans. -/
def taken (l : Lay) : List (Nat × Nat) := l.blocks ++ l.bursts.map fun b => (b.start - b.lead, b.stop)

/-- The free runs, in rising order. -/
def runs (l : Lay) : List (Nat × Nat) :=
  let t := l.taken
  let from_ := (t.foldl (fun a x => insertNat x.2 a) [0]).filter fun p => p < l.limit && !(t.any fun x => x.1 ≤ p && p < x.2)
  from_.map fun p => (p, t.foldl (fun a x => if p < x.1 ∧ x.1 < a then x.1 else a) l.limit)

/-- The first free run with room for a number of words. -/
def find (l : Lay) (room : Nat) : Option (Nat × Nat) := l.runs.find? fun r => r.1 + room ≤ r.2

/-- Whether a span is free. -/
def free (l : Lay) (lo hi : Nat) : Bool := hi ≤ l.limit && !(l.taken.any fun x => x.1 < hi && lo < x.2)

/-- One more burst. -/
def add (l : Lay) (b : Burst) : Lay := { l with bursts := l.bursts ++ [b] }

/-- The map with a burst in place of the one that starts at the same word. -/
def replace (l : Lay) (b : Burst) : Lay := { l with bursts := l.bursts.map fun x => if x.start = b.start then b else x }

end Lay

/-- The shares of one allocation in a frame (R149): fixed, assured, non-assured and best-effort words, and D. -/
structure Share where
  alloc : Nat
  term : Nat
  fixed : Nat
  assured : Nat
  non : Nat
  best : Nat
  want : Nat
  weight : Nat

/-- Committed words: fixed, assured and non-assured (R153). -/
def Share.committed (x : Share) : Nat := x.fixed + x.assured + x.non

/-- What a step of the layout leaves: the map, the words skipped and overbooked, and the allocations cut, in order. -/
structure LayOut where
  lay : Lay
  skips : Nat
  excess : Nat
  cut : List Nat

namespace State

/-- Whether FEC protects a terminal's bursts on a channel. -/
def fecFor (s : State) (ch t : Nat) : Bool := s.fecOf ch (s.profileOf ch (s.profileFor t ch))

/-- The lead of a terminal's bursts. -/
def leadFor (s : State) (ch t : Nat) : Nat := s.leadOf ch (s.profileOf ch (s.profileFor t ch))

/-- The content of a burst in words (R152). -/
def content (s : State) (ch : Nat) (b : Burst) : Nat :=
  let w := s.bwords ch
  w.header + w.trailer + (if b.ploam then w.ploam else 0) +
    (b.grants.map fun g => g.words + if g.report then w.report else 0).foldl (· + ·) 0

/-- A burst with its end word as its content leaves it. -/
def refit (s : State) (ch : Nat) (b : Burst) : Burst :=
  { b with stop := b.start + withParity (s.bwords ch) (s.fecFor ch b.term) (s.content ch b) }

/-- An empty burst of a terminal. -/
def burstAt (s : State) (ch t start : Nat) (ploam : Bool) : Burst :=
  let p := s.profileFor t ch
  s.refit ch ⟨t, start, start, s.leadFor ch t, p, s.profileOf ch p, !s.on .burstProfileEnable (4 * ch + p), ploam, []⟩

/-! ### Steps 1 to 4 (R153) -/

/-- A span of time as words of the upstream frame of map `m`, where it falls in it. -/
def spanWords (s : State) (ch m : Nat) (lo hi : Time) : Option (Nat × Nat) :=
  let u := m * Tm.frame + upDelay
  let w := max 1 (s.wordSpan ch 1)
  if hi ≤ u ∨ u + Tm.frame ≤ lo then none
  else some ((lo - u) / w, min (s.frameWords ch) (ceilDiv (hi - u) w))

/-- The fixed quiet windows and the ranging windows that fall in the upstream frame of map `m`. -/
def windowWords (s : State) (ch m : Nat) : List (Nat × Nat) :=
  let quiet := (s.act ch).wins.filterMap fun w => s.spanWords ch m w.start (w.start + w.len)
  let ranging := (s.terminalsOn ch).filterMap fun t => (s.sideOn t ch).bind fun k =>
    (s.sd t k).window.bind fun x => s.spanWords ch m x.lo x.hi
  quiet ++ ranging

/-- Terminals of a channel in rising order of ONU-ID. -/
def byOnu (s : State) (ts : List Nat) : List Nat := sortBy (fun t => s.n .terminalOnuIdAssigned t) ts

/-- Whether frame `m` is a keep-alive frame of a terminal that saves power (R124, R167). -/
def aliveFrame (s : State) (t m : Nat) : Bool :=
  2 ≤ s.n .terminalPowerState t && (m - (s.term t).aliveFrom) % max 1 (s.n .terminalKeepAliveFrames t) == 0 &&
  (s.term t).aliveFrom < m

/-- A burst of one PLOAM message at the lowest free position; without room its words are overbooked (R518). -/
def layPloam (s : State) (ch t : Nat) (kind : GKind) (o : LayOut) : Bool × LayOut :=
  let b := s.burstAt ch t (s.leadFor ch t) true
  match o.lay.find b.stop with
  | some r =>
    let c := s.burstAt ch t (r.1 + b.lead) true
    (true, { o with lay := o.lay.add { c with grants := [⟨dflt t, 0, false, kind, []⟩] } })
  | none => (false, { o with excess := o.excess + (s.bwords ch).ploam })

/-- Steps 1 to 3: windows, gap and keep-alive bursts. -/
def layAlive (s : State) (ch m : Nat) : LayOut :=
  let l : Lay := ⟨s.frameWords ch - s.gapWords ch, s.windowWords ch m, []⟩
  (s.byOnu ((s.terminalsOn ch).filter fun t => s.inService t ch && s.n .terminalSnuffPhase t == 0 && s.aliveFrame t m)).foldl
    (fun o t => (s.layPloam ch t .keepAlive o).2) ⟨l, 0, 0, []⟩

/-- Whether a terminal's ranging grant falls in map `m`: the second frame after Assign_ONU-ID, or a retry in the first frame
of an epoch (R112). -/
def ranges (s : State) (ch m t k : Nat) : Bool :=
  let r := s.sd t k
  match s.tstate t k with
  | 1 => r.rangeAt == some m
  | 2 => r.window.isNone && (r.rangeAt == some m || (r.retry && s.epochIndex ch m == 0))
  | _ => false

/-- The grant that a terminal outside Snuff (R133) needs at step 4 for map `m`: a recovery grant or a PLOAM grant. -/
def needs (s : State) (ch t : Nat) : Option GKind :=
  match s.sideOn t ch with
  | some k =>
    let r := s.sd t k
    match s.tstate t k with
    | 3 => if r.ploam then some .ploam else none
    | 4 => if r.ploam then some .ploam else none
    | 5 => some .recovery
    | _ => none
  | none => none

/-- A ranging grant of map `m` at the lowest StartTime free of windows and gap, with its window, which is reserved before
any burst is placed (R112, R153); where a fixed window covers part of it, the attempt fails; where no free run has room,
its words are overbooked and it is granted in the next map that has (R518). -/
def layRanging (s : State) (ch m t k : Nat) : State :=
  let r := s.sd t k
  let lay : Lay := ⟨s.frameWords ch - s.gapWords ch, s.windowWords ch m, []⟩
  let lead := s.leadFor ch t
  let failed (u : State) : State :=
    if 2 ≤ r.attempts then u.activationFails t ch
    else (u.putT t k 2).setSd t k { r with rangeAt := none, window := none, attempts := r.attempts + 1, retry := true }
  match lay.find (lead + 1) with
  | none =>
    let s := (s.bump .grantOverbooked ch (s.bwords ch).ploam).setBit (Reg.grantChStatus ch) 10 true
    s.setSd t k { r with rangeAt := some (m + 1) }
  | some f =>
    let start := f.1 + lead
    let lo := m * Tm.frame + upDelay + s.wordSpan ch start + (r.offset - 48 * Tm.us)
    let hi := lo + 52 * Tm.us + s.responseSpan ch
    let clash := ((s.act ch).wins.any fun w => w.start < hi && lo < w.start + w.len) ||
      (s.terminalsOn ch).any fun u => match (s.sideOn u ch).bind fun j => (s.sd u j).window with
        | some x => x.lo < hi && lo < x.hi
        | none => false
    if clash then failed s
    else
      let w : RangeWin := ⟨m, start, lo, hi, s.profileOf ch 0, s.n (presetObj k) t, (s.act ch).ePre, 0⟩
      (s.putT t k 2).setSd t k { r with rangeAt := none, retry := false, window := some w }

/-- Step 1: the windows of the ranging grants of map `m`, in rising ONU-ID order. -/
def layWindows (s : State) (ch m : Nat) : State :=
  (s.byOnu ((s.terminalsOn ch).filter fun t => s.n .terminalSnuffPhase t == 0)).foldl (fun u t =>
    match u.sideOn t ch with
    | some k => if u.ranges ch m t k then u.layRanging ch m t k else u
    | none => u) s

/-- Step 4: recovery and PLOAM grants in rising ONU-ID order. -/
def layNeeds (s : State) (ch : Nat) (o : LayOut) : LayOut × State :=
  (s.byOnu ((s.terminalsOn ch).filter fun t => s.n .terminalSnuffPhase t == 0 && (s.needs ch t).isSome)).foldl (fun a t =>
    match s.needs ch t, s.sideOn t ch with
    | some .ploam, some k =>
      let (ok, l) := a.2.layPloam ch t .ploam a.1
      (l, if ok then a.2.setSd t k { a.2.sd t k with ploam := false } else a.2)
    | some kind, some _ => ((a.2.layPloam ch t kind a.1).2, a.2)
    | _, _ => a) (o, s)

/-! ### Step 5: cooperative grants (R160) -/

/-- The first of reasons 4 to 8 that an order meets against what is placed. -/
def orderReason (s : State) (ch : Nat) (l : Lay) (coop : List Burst) (o : Order) (b : Burst) : Option Nat :=
  let t := s.n .allocTerminal o.alloc
  let covers (x : Nat × Nat) : Bool := x.1 < b.stop && b.start - b.lead < x.2
  if s.n .allocCoopWords o.alloc = 0 ∨ s.n .allocSnuffPhase o.alloc ≠ 0 ∨ ¬ (s.dem o.alloc).ready then some 4
  else if ¬ s.inService t ch ∨ s.laneState ch ≠ 2 ∨ 1 < s.n .terminalPowerState t then some 5
  else if l.limit < b.stop ∨ (l.blocks.any covers) ∨
      ((l.bursts.filter fun x => !coop.contains x).any fun x => covers (x.start - x.lead, x.stop)) then some 6
  else if coop.any fun x => covers (x.start - x.lead, x.stop) then some 7
  else if o.start < b.lead then some 8
  else none

/-- The orders of map `m` placed or rejected, in the order of their acceptance. -/
def layOrders (s : State) (ch m : Nat) (o : LayOut) : LayOut × State :=
  let g := s.gch ch
  let mine := g.orders.filter fun x => x.frame == m
  let s := s.setGch ch { g with orders := g.orders.filter fun x => x.frame != m }
  let r := mine.foldl (fun (a : LayOut × List Burst × State) x =>
    let (l, coop, s) := a
    let words := min x.words (s.n .allocCoopWords x.alloc)
    let t := s.n .allocTerminal x.alloc
    let b := s.refit ch { s.burstAt ch t x.start false with grants := [⟨x.alloc, words, s.reports x.alloc, .coop, []⟩] }
    match s.orderReason ch l.lay coop x b with
    | some reason => (l, coop, s.coopReject ch reason x.alloc m)
    | none =>
      let s := s.bump .coopOrdersAccepted ch 1
      let s := if words < x.words then s.bump .coopWordsClipped ch (x.words - words) else s
      ({ l with lay := l.lay.add b }, coop ++ [b], s)) (o, [], s)
  (r.1, r.2.2)

/-! ### Shares (R149 to R151) -/

/-- The cooperative words placed for an allocation. -/
def coopOf (l : Lay) (a : Nat) : Nat :=
  ((l.bursts.flatMap fun b => b.grants).filter fun g => g.kind == .coop && g.alloc == a).foldl (fun n g => n + g.words) 0

/-- Rotation order from a pointer (R155): allocation instances, then default allocations. -/
def rotKey (rot a : Nat) : Nat := (a + 24576 - rot) % 24576

/-- The allocations that a map may grant by local policy: those assigned to awake terminals in Operation (R145), and the
default allocations of those terminals (R138). -/
def eligibleAllocs (s : State) (ch : Nat) : List Nat :=
  let awake (t : Nat) : Bool := s.inService t ch && s.n .terminalPowerState t ≤ 1
  ((s.withNum .allocEnable 1).filter fun a =>
    s.allocChan a == ch && s.n .allocSnuffPhase a == 0 && (s.dem a).ready && awake (s.n .allocTerminal a) &&
      !s.skips 1 a) ++
  (((s.terminalsOn ch).filter fun t => awake t && s.n .terminalSnuffPhase t == 0).map dflt)

/-- Fixed, assured and non-assured shares, with what remains of D as the best-effort want. -/
def share0 (s : State) (ch m : Nat) (l : Lay) (a : Nat) : Share :=
  let c := coopOf l a
  if isDflt a then
    let d := min (s.demand a ch m) 256
    ⟨a, a - 16384, 0, 0, 0, d, d, s.n .channelDefaultWeight ch⟩
  else
    let due := s.epochIndex ch m % max 1 (s.n .allocFixedPeriod a) == s.n .allocFixedPhase a
    let f := if due then s.n .allocFixedWords a else 0
    let d := min (s.demand a ch m - f - c) (s.maxWords a ch - f - c)
    let x := min d (s.n .allocAssuredWords a)
    let n := min (d - x) (s.n .allocNonAssuredWords a)
    let ty := s.n .allocType a
    ⟨a, s.n .allocTerminal a, f, x, n, if ty = 4 ∨ ty = 5 then d - x - n else 0, d,
      if ty = 4 ∨ ty = 5 then s.n .allocBestEffortWeight a else 0⟩

/-- `k` words given one at a time, in the order of the list, to the entries below their limit. -/
def dribble : List (Nat × Nat × Nat) → Nat → List (Nat × Nat × Nat)
  | [], _ => []
  | (a, got, lim) :: t, k => if 0 < k ∧ got < lim then (a, got + 1, lim) :: dribble t (k - 1) else (a, got, lim) :: dribble t k

/-- Words of `total` shared by weight among (allocation, weight, limit), water-filling; the rest of the rounding goes one
word at a time in rotation order. -/
def waterFill (rot : Nat) : Nat → List (Nat × Nat × Nat) → Nat → List (Nat × Nat)
  | 0, _, _ => []
  | fuel + 1, xs, total =>
    let w := max 1 ((xs.map fun x => x.2.1).foldl (· + ·) 0)
    let full := xs.filter fun x => x.2.2 ≤ total * x.2.1 / w
    if full.isEmpty then
      let part := (sortBy (fun x => rotKey rot x.1) xs).map fun x => (x.1, total * x.2.1 / w, x.2.2)
      let used := (part.map fun x => x.2.1).foldl (· + ·) 0
      (dribble part (total - used)).map fun x => (x.1, x.2.1)
    else
      let rest := xs.filter fun x => !(x.2.2 ≤ total * x.2.1 / w)
      let used := (full.map fun x => x.2.2).foldl (· + ·) 0
      (full.map fun x => (x.1, x.2.2)) ++ waterFill rot fuel rest (total - used)

/-- A number of a list of pairs. -/
def lookupNat (l : List (Nat × Nat)) (a : Nat) : Nat :=
  match l.find? fun p => p.1 == a with
  | some p => p.2
  | none => 0

/-- The words that remain free after reservations and committed grants, with the overheads of the bursts that fixed and
assured words need (R150). -/
def freeEstimate (s : State) (ch : Nat) (l : Lay) (xs : List Share) : Nat :=
  let w := s.bwords ch
  let used := (l.taken.map fun x => min x.2 l.limit - x.1).foldl (· + ·) 0
  let ts := (xs.filter fun x => 0 < x.fixed + x.assured).map fun x => x.term
  let need (t : Nat) : Nat :=
    let mine := xs.filter fun x => x.term == t && 0 < x.fixed + x.assured
    s.leadFor ch t + withParity w (s.fecFor ch t) (w.header + w.trailer +
      (mine.map fun x => x.fixed + x.assured + if s.reports x.alloc then w.report else 0).foldl (· + ·) 0)
  l.limit - used - (ts.eraseDups.map need).foldl (· + ·) 0

/-- The shares of a map: N scaled, B shared by weight and trimmed (R150, R151). -/
def shares (s : State) (ch m : Nat) (l : Lay) (trim : Bool) : List Share :=
  let rot := (s.gch ch).rot
  let xs := (s.eligibleAllocs ch).map fun a => s.share0 ch m l a
  let free := s.freeEstimate ch l xs
  let sum := (xs.map fun x => x.non).foldl (· + ·) 0
  let xs := if sum ≤ free then xs
    else
      let part := (sortBy (fun x => rotKey rot x.1) (xs.map fun x => (x.alloc, x.non * free / sum, x.non)))
      let used := (part.map fun x => x.2.1).foldl (· + ·) 0
      let got := (dribble part (free - used)).map fun x => (x.1, x.2.1)
      xs.map fun x => { x with non := lookupNat got x.alloc }
  let sum := (xs.map fun x => x.non).foldl (· + ·) 0
  let bs := (xs.filter fun x => 0 < x.best).map fun x => (x.alloc, x.weight, x.best)
  let got := waterFill rot (bs.length + 1) bs (free - sum)
  xs.map fun x =>
    let b := lookupNat got x.alloc
    { x with best := if trim then b * s.n .channelTrimPercent ch / 100 else b }

/-! ### Step 6 and best-effort words (R153, R154) -/

/-- The report that an allocation's next grant asks for: its first grant of the frame does. -/
def wantsReport (s : State) (l : Lay) (b : Burst) (a : Nat) : Bool :=
  s.reports a && !(l.bursts.any fun x => x.grants.any fun g => g.alloc == a) && !(b.grants.any fun g => g.alloc == a)

/-- Words added to a burst for an allocation: its last grant there grows, else a new one follows. -/
def addWords (s : State) (ch : Nat) (l : Lay) (b : Burst) (a words : Nat) (kind : GKind) (parts : List Nat) : Burst :=
  if words = 0 then b
  else if b.grants.any fun g => g.alloc == a then
    s.refit ch { b with grants := b.grants.map fun g => if g.alloc = a then { g with
      words := g.words + words, parts := if g.parts.isEmpty then parts else List.zipWith (· + ·) g.parts parts } else g }
  else s.refit ch { b with grants := b.grants ++ [⟨a, words, s.wantsReport l b a, kind, parts⟩] }

/-- The most words that a burst may still take for an allocation up to word `hi`. -/
def roomFor (s : State) (ch : Nat) (l : Lay) (b : Burst) (a hi : Nat) : Nat :=
  fitContent (s.bwords ch) (s.fecFor ch b.term) (hi - b.start) - s.content ch b -
    (if s.wantsReport l b a then (s.bwords ch).report else 0)

/-- `k` words taken from a class of the shares, the last first. -/
def dropClass (get : Share → Nat) (put : Share → Nat → Share) : List Share → Nat → List Share
  | [], _ => []
  | x :: t, k =>
    let later := (t.map get).foldl (· + ·) 0
    put x (get x - min (get x) (k - later)) :: dropClass get put t (min k later)

/-- Committed words lost until a burst fits: non-assured, then assured, then fixed. -/
def dropWords (xs : List Share) (k : Nat) : List Share :=
  let n := (xs.map fun x => x.non).foldl (· + ·) 0
  let a := (xs.map fun x => x.assured).foldl (· + ·) 0
  let xs := dropClass (fun x => x.non) (fun x v => { x with non := v }) xs (min k n)
  let xs := dropClass (fun x => x.assured) (fun x v => { x with assured := v }) xs (min (k - n) a)
  dropClass (fun x => x.fixed) (fun x v => { x with fixed := v }) xs (k - n - a)

/-- The burst with the committed words of its terminal's shares. -/
def commitWords (s : State) (ch : Nat) (l : Lay) (b : Burst) (xs : List Share) : Burst :=
  xs.foldl (fun b x => s.addWords ch l b x.alloc x.committed .local_ [x.fixed, x.assured, x.non, 0]) b

/-- Best-effort words added up to word `hi`; what each allocation is still short of its share follows. -/
def bestWords (s : State) (ch : Nat) (l : Lay) (b : Burst) (hi : Nat) (xs : List (Nat × Nat)) : Burst × List (Nat × Nat) :=
  xs.foldl (fun (r : Burst × List (Nat × Nat)) x =>
    let give := min x.2 (s.roomFor ch l r.1 x.1 hi)
    (s.addWords ch l r.1 x.1 give .local_ [0, 0, 0, give], if give < x.2 then r.2 ++ [(x.1, x.2 - give)] else r.2)) (b, [])

/-- The remainder of cut best-effort words: one burst more, in the next free run that has room. -/
def layRest (s : State) (ch t : Nat) (o : LayOut) (after : Nat) (rest : List (Nat × Nat)) : LayOut :=
  if rest.isEmpty then o
  else
    let o := { o with cut := o.cut ++ rest.map fun (x : Nat × Nat) => x.1 }
    let b := s.burstAt ch t (s.leadFor ch t) false
    let least := match rest with
      | x :: _ => (s.addWords ch o.lay b x.1 1 .local_ []).stop
      | [] => b.stop
    match o.lay.runs.find? fun (r : Nat × Nat) => after ≤ r.1 && r.1 + least ≤ r.2 with
    | some r =>
      let c := (s.bestWords ch o.lay (s.burstAt ch t (r.1 + b.lead) false) r.2 rest).1
      if c.grants.isEmpty then o else { o with lay := o.lay.add c }
    | none => o

/-- The grants of a burst in rising order of their allocations, after a cooperative grant (R153). -/
def inOrder (s : State) (ch : Nat) (b : Burst) : Burst :=
  let own := sortBy (fun g => g.alloc) (b.grants.filter fun g => g.kind != .coop)
  s.refit ch { b with grants := (b.grants.filter fun g => g.kind == .coop) ++ own }

/-- A terminal's local grants where a burst of it can start: committed words, best-effort words, and the remainder. -/
def layBurst (s : State) (ch t : Nat) (o : LayOut) (b : Burst) (old : Bool) (hi : Nat) (xs : List Share) : LayOut :=
  let rest := if old then { o.lay with bursts := o.lay.bursts.filter fun x => x.start != b.start } else o.lay
  let b := s.commitWords ch rest b xs
  let (b, left) := s.bestWords ch rest b hi ((xs.filter fun x => 0 < x.best).map fun x => (x.alloc, x.best))
  let b := s.inOrder ch b
  let o := if b.grants.isEmpty then o else { o with lay := if old then o.lay.replace b else o.lay.add b }
  s.layRest ch t o b.stop left

/-- Step 6 for one terminal: after its cooperative burst where the committed words fit there, else at the lowest free
position; words that fit nowhere are lost (R154). -/
def layTerminal (s : State) (ch t : Nat) (o : LayOut) (xs : List Share) : LayOut :=
  let fec := s.fecFor ch t
  let l := o.lay
  let empty := s.burstAt ch t (s.leadFor ch t) false
  let whole := s.commitWords ch l empty xs
  let coop := l.bursts.find? fun b => b.term == t && b.grants.any fun g => g.kind == .coop
  let appended := coop.bind fun b =>
    let others := { l with bursts := l.bursts.filter fun x => x.start != b.start }
    let c := s.commitWords ch others b xs
    if others.free (b.start - b.lead) c.stop then
      (others.runs.find? fun r => r.1 ≤ b.start - b.lead && c.stop ≤ r.2).map fun r => (b, r.2)
    else none
  match appended with
  | some (b, hi) => s.layBurst ch t o b true hi xs
  | none =>
    let least := match whole.grants, xs.find? fun x => 0 < x.best with
      | [], some x => (s.addWords ch l empty x.alloc 1 .local_ []).stop
      | _, _ => whole.stop
    match l.find least with
    | some r => s.layBurst ch t o (s.burstAt ch t (r.1 + empty.lead) false) false r.2 xs
    | none =>
      let best := l.runs.foldl (fun (a : Nat × Nat) r => if a.2 - a.1 < r.2 - r.1 then r else a) (0, 0)
      let cap := fitContent (s.bwords ch) fec (best.2 - best.1 - empty.lead)
      let kept := dropWords xs (s.content ch whole - cap)
      let sum (ys : List Share) (f : Share → Nat) : Nat := (ys.map f).foldl (· + ·) 0
      let lost := (sum xs fun x => x.fixed + x.assured) - sum kept fun x => x.fixed + x.assured
      let lostN := (sum xs fun x => x.non) - sum kept fun x => x.non
      let windowed := ({ l with blocks := [] } : Lay).find whole.stop
      let o := if windowed.isSome then { o with skips := o.skips + lost, excess := o.excess + lostN }
        else { o with excess := o.excess + lost + lostN }
      if (sum kept fun x => x.committed) = 0 then o
      else s.layBurst ch t o (s.burstAt ch t (best.1 + empty.lead) false) false best.2 (kept.map fun x => { x with best := 0 })

/-- Step 6: every terminal with local words, in rising ONU-ID order; allocations follow in rising order. -/
def layLocal (s : State) (ch : Nat) (xs : List Share) (o : LayOut) : LayOut :=
  let active := xs.filter fun x => 0 < x.committed + x.best
  (s.byOnu (active.map fun x => x.term).eraseDups).foldl (fun o t =>
    s.layTerminal ch t o (sortBy (fun x => x.alloc) (active.filter fun x => x.term == t))) o

/-! ### The fill pass (R154) and the entries of a map (R156) -/

/-- The local words given to an allocation beyond its fixed words. -/
def givenLocal (l : Lay) (a : Nat) : Nat :=
  ((l.bursts.flatMap fun b => b.grants).filter fun g => g.alloc == a).foldl
    (fun n g => n + (g.parts.drop 1).foldl (· + ·) 0) 0

/-- The fill words of one allocation, in one place. -/
def fillOne (s : State) (ch : Nat) (l : Lay) (x : Share) : Lay :=
  let short := x.want - givenLocal l x.alloc
  if short = 0 ∨ x.weight = 0 then l
  else
    let runs := l.runs
    let border := runs.findSome? fun r => (l.bursts.find? fun b => b.stop == r.1 && b.term == x.term &&
      (match b.grants.getLast? with | some g => g.alloc == x.alloc || !(b.grants.any fun h => h.alloc == x.alloc) | none => false)).map
        fun b => (b, r.2)
    let grown := border.bind fun p =>
      let others := { l with bursts := l.bursts.filter fun y => y.start != p.1.start }
      let give := min short (s.roomFor ch others p.1 x.alloc p.2)
      if give = 0 then none
      else some (l.replace (s.addWords ch others p.1 x.alloc give .fill [0, 0, 0, give]))
    match grown with
    | some l => l
    | none =>
      let b := s.burstAt ch x.term (s.leadFor ch x.term) false
      match runs.find? fun r => 0 < s.roomFor ch l (s.burstAt ch x.term (r.1 + b.lead) false) x.alloc r.2 with
      | some r =>
        let c := s.burstAt ch x.term (r.1 + b.lead) false
        let give := min short (s.roomFor ch l c x.alloc r.2)
        l.add (s.addWords ch l c x.alloc give .fill [0, 0, 0, give])
      | none => l

/-- The fill pass, in rotation order; a trimmed map is not filled. -/
def layFill (s : State) (ch : Nat) (xs : List Share) (trim : Bool) (o : LayOut) : LayOut :=
  if trim then o
  else { o with lay := (sortBy (fun x => rotKey (s.gch ch).rot x.alloc) xs).foldl (fun l x => s.fillOne ch l x) o.lay }

/-- The class of a grant in the order of R156. -/
def grantClass (g : Grant) : Nat :=
  match g.kind with
  | .ranging => 1
  | .keepAlive => 2
  | .coop => 3
  | .recovery => 4
  | .ploam => 4
  | .fill => 8
  | .local_ =>
    match g.parts with
    | [f, a, n, _] => if 0 < f then 5 else if 0 < a then 6 else if 0 < n then 7 else 8
    | _ => 8

/-- The entries beyond the limit, the last in the order of R156, dropped from the map; the grants dropped, in order. -/
def dropEntries (s : State) (ch limit : Nat) (l : Lay) : Lay × List Grant :=
  let all := l.bursts.flatMap fun b => b.grants.map fun g => (b.start, g)
  if all.length ≤ limit then (l, [])
  else
    let rot := (s.gch ch).rot
    let order := sortBy (fun (p : Nat × Grant) => grantClass p.2 * 32768 + rotKey rot p.2.alloc) all
    let gone := order.drop limit
    let keep (b : Burst) : Burst := { b with grants := b.grants.filter fun g => !gone.contains (b.start, g) }
    ({ l with bursts := ((l.bursts.map keep).filter fun b => !b.grants.isEmpty).map (s.refit ch) }, gone.map fun p => p.2)

end State
end Sys2Proof.Machine
end

