-- ==== Sys2Proof/Machine/Maps.lean ====
section
/-!
DEFINITION. The grant engine, third part: the computation of maps (R146 to R156), the voted lanes, their copies, reloads
and tests (R166 to R173), and the maps sent and awaited (R49, R79).
-/

namespace Sys2Proof.Machine

namespace State

/-! ### Lanes (R168) -/

/-- GrantLaneState of a lane. -/
def laneObj (l : Nat) : Obj := if l = 0 then .grantLaneState0 else if l = 1 then .grantLaneState1 else .grantLaneState2

/-- GrantLaneDisagreements of a lane. -/
def oddObj (l : Nat) : Obj :=
  if l = 0 then .grantLaneDisagreements0 else if l = 1 then .grantLaneDisagreements1 else .grantLaneDisagreements2

/-- A lane's state: 0 Off, 1 Loading, 2 Shadow, 3 Voting, 4 Out, 5 Held. -/
def gl (s : State) (l : Nat) : Nat := s.n (laneObj l) 0

/-- A lane's state written: LANE_OUT as it leaves Voting, REJOINED as it enters Voting (R177). -/
def putGl (s : State) (l v : Nat) : State :=
  let old := s.gl l
  let s := s.put (laneObj l) 0 v
  if old = 3 ∧ v ≠ 3 then s.setBit Reg.grantLaneStatus 16 true
  else if old ≠ 3 ∧ v = 3 then s.setBit Reg.grantLaneStatus 17 true else s

/-- A lane's record. -/
def glane (s : State) (l : Nat) : GLaneSt := s.grants.lanes.getD l .idle

/-- A lane's record replaced. -/
def setGlane (s : State) (l : Nat) (r : GLaneSt) : State :=
  s.setGr fun g => { g with lanes := g.lanes.setIfInBounds l r }

/-- The Voting lanes. -/
def voters (s : State) : List Nat := [0, 1, 2].filter fun l => s.gl l == 3

/-- Out, at once: counted and shown; the third copy within 1 s that ends so leaves the lane Held. -/
def laneOut (s : State) (l : Nat) : State :=
  let r := s.glane l
  let outs := if r.copied then (r.outs.filter fun t => s.now ≤ t + Tm.s) ++ [s.now] else r.outs
  let s := (s.bump (oddObj l) 0 1).count 0x504 l 1
  let s := s.setGr fun g => { g with test := g.test.map fun t => if t.1 = l then (t.1, t.2.1, t.2.2.1, true) else t }
  if 3 ≤ outs.length then (s.putGl l 5).setGlane l .idle else (s.putGl l 4).setGlane l { GLaneSt.idle with outs := outs }

/-- A copy into a lane begins, from the lowest Voting lane: at a Frame boundary each of them has agreed with the voted
value (R169). -/
def laneLoad (s : State) (l : Nat) (released : Bool) : State :=
  (s.putGl l 1).setGlane l { s.glane l with
    shadow := 0, source := s.voters.head?, copied := false, released := released }

/-- The lanes that vote when the engine runs as it is set (R171). -/
def votingSet (s : State) : List Nat := if s.on .grantVoteEnable 0 then [0, 1, 2] else [0]

/-- What the number of Voting lanes ends: GL[0] driving alone, and the start of the engine (R171, R172). -/
def votersNote (s : State) : State :=
  s.setGr fun g => { g with
    joining := g.joining && s.voters.length < 2
    started := g.started || s.voters == s.votingSet }

/-- Voting entered. -/
def laneVote (s : State) (l : Nat) : State := ((s.putGl l 3).raiseChange (laneObj l) 0 2 3).votersNote

/-- GL[0] alone drives the framers (R171). -/
def soleLane (s : State) : Bool := !s.on .grantVoteEnable 0 || s.grants.joining

/-- The value that a lane gives for a word, among the lanes that give another than the engine's: none is the engine's. -/
def laneValue (odd : List (Nat × Nat)) (l : Nat) : Option Nat := (odd.find? fun x => x.1 == l).map fun x => x.2

/-- The value that at least two Voting lanes give. -/
def majority (s : State) (odd : List (Nat × Nat)) : Option (Option Nat) :=
  let vs := s.voters.map (laneValue odd)
  vs.find? fun v => 2 ≤ (vs.filter fun u => u == v).length

/-- The lanes of a list that give another value than `v` go Out. -/
def oddOut (s : State) (odd : List (Nat × Nat)) (v : Option Nat) (lanes : List Nat) : State :=
  (lanes.filter fun l => laneValue odd l != v).foldl (fun u l => u.laneOut l) s

/-- The pairs of lanes in Shadow that differ in a word during a reload (R170). -/
def noteDiffer (s : State) (odd : List (Nat × Nat)) : State :=
  let lanes := [0, 1, 2].filter fun l => s.gl l == 2
  let pairs := (lanes.flatMap fun a => lanes.map fun b => (a, b)).filter fun p => laneValue odd p.1 != laneValue odd p.2
  if pairs.isEmpty then s else s.setGr fun g => { g with differ := (g.differ ++ pairs).eraseDups }

/-- One word of a channel's map, with the lanes that give another value there than the engine's: the value that the
framer gets, if any (R166, R168), and the lanes voted out. -/
def voteWord (s : State) (odd : List (Nat × Nat)) : Option (Option Nat) × State :=
  let lanes := [0, 1, 2].filter fun l => s.gl l == 2 || s.gl l == 3
  if s.grants.reload.isSome then (none, s.noteDiffer odd)
  else if s.soleLane then
    if s.gl 0 = 3 then (some (laneValue odd 0), s.oddOut odd (laneValue odd 0) (lanes.filter fun l => l != 0)) else (none, s)
  else match s.majority odd with
    | some v => (some v, s.oddOut odd v lanes)
    | none => (none, s)

/-- The words of a channel's map in which a lane errs, by their places, then the rest: the words in which the voted value
is not the engine's, or none where some word has no voted value. -/
def voteMap (s : State) (words : List (Nat × List (Nat × Nat))) : Option (List (Nat × Nat)) × State :=
  (words ++ [(0, [])]).foldl (fun (r : Option (List (Nat × Nat)) × State) (w : Nat × List (Nat × Nat)) =>
    let (v, u) := r.2.voteWord w.2
    (match r.1, v with
      | some l, some (some x) => some (l ++ [(w.1, x)])
      | some l, some none => some l
      | _, _ => none, u)) (some [], s)

/-- A map without a voted value (R168): counted; without a majority while no reload runs, an event and a reload. -/
def noMajority (s : State) (ch m : Nat) : State :=
  let s := (s.bump .grantQuietMaps ch 1).setBit (Reg.grantChStatus ch) 8 true
  if s.grants.reload.isSome then s
  else
    let s := (s.setBit Reg.grantLaneStatus 18 true).raiseFault .grantQuietMaps ch (beBytes 8 m)
    s.setGr fun g => { g with reloadDue := true, affected := (ch :: g.affected).eraseDups }

/-- A channel goes on with quiet maps until the reload that is due for it has ended (R170). -/
def heldQuiet (s : State) (ch : Nat) : Bool :=
  s.grants.reload.isSome || (s.grants.reloadDue && s.grants.affected.contains ch)

/-- A reload begins (R170): the lanes are loaded, demand, histories and rotation pointers are cleared, orders stay. -/
def reloadStart (s : State) : State :=
  let s := s.votingSet.foldl (fun u l => (u.putGl l 1).setGlane l .idle) s
  let s := s.setGr fun g => { g with
    reload := some (s.now, 0), reloadDue := false, affected := [], differ := [], joining := false
    demand := (g.demand.map fun p => (p.1, { DemandSt.idle with ready := p.2.ready, partial_ := p.2.partial_ })).filter
      fun p => p.2 != DemandSt.idle
    chans := (g.chans.map fun c => (c.1, { c.2 with rot := 0 })).filter fun c => c.2 != GrantCh.idle }
  (s.bump .grantReloads 0 1).raiseFault .grantReloads 0

/-- The source of a lane's copy still votes. -/
def sourceVotes (s : State) (l : Nat) : Bool :=
  match (s.glane l).source with
  | some k => s.gl k == 3
  | none => false

/-- The lanes' work at a Frame boundary: a reload that is due begins while Lantern is available; its lanes go on to
Shadow; else Out becomes Loading while a lane votes, and Loading with its copy ended becomes Shadow, or starts again where
the source of its copy no longer votes. -/
def laneFrame (s : State) : State :=
  if s.grants.reloadDue ∧ s.avail then s.reloadStart
  else if s.grants.reload.isSome then
    [0, 1, 2].foldl (fun u l => if u.gl l = 1 then (u.putGl l 2).setGlane l .idle else u) s
  else
    [0, 1, 2].foldl (fun u l =>
      if u.gl l = 4 ∧ ¬ u.voters.isEmpty then u.laneLoad l false
      else if u.gl l = 1 ∧ (u.glane l).copied then (u.putGl l 2).setGlane l { u.glane l with released := false }
      else if u.gl l = 1 ∧ ¬ u.sourceVotes l ∧ ¬ u.voters.isEmpty then u.laneLoad l (u.glane l).released
      else u) s

/-- GL[1] and GL[2] loaded by copy from GL[0], which drives alone until a second lane votes (R171, R172). -/
def copyFromFirst (s : State) : State :=
  ((s.laneLoad 1 false).laneLoad 2 false).setGr fun g => { g with joining := true }

/-- GrantVoteEnable in force (R171); during a reload it waits for the end. -/
def voteEnable (s : State) : State :=
  if s.grants.reload.isSome ∨ s.grants.reloadDue then s
  else if s.on .grantVoteEnable 0 then
    if s.gl 1 = 0 ∧ s.gl 2 = 0 ∧ s.gl 0 ≠ 0 then s.copyFromFirst else s
  else (((s.putGl 1 0).putGl 2 0).setGlane 1 .idle).setGlane 2 .idle

/-- GRANT_LANE_LOAD (R172): GL[0] is loaded and votes, and the other lanes are copied from it. -/
def laneStartUp (s : State) : State :=
  let s := ((s.setBit Reg.grantCtrl 0 true).putGl 0 3).setGlane 0 .idle
  (if s.on .grantVoteEnable 0 then s.copyFromFirst else s).votersNote

/-- A write of ENGINE_EN: at 0 every lane is Off, and what a reload had begun ends; at 1 the lanes start (R168, R177). -/
def engineEnable (s : State) : State :=
  if s.bit Reg.grantCtrl 0 then (if s.gl 0 = 0 ∧ s.gl 1 = 0 ∧ s.gl 2 = 0 then s.laneStartUp else s)
  else
    let s := [0, 1, 2].foldl (fun u l => (u.putGl l 0).setGlane l .idle) s
    s.setGr fun g => { g with
      reload := none, reloadDue := false, affected := [], differ := [], joining := false, started := false, test := none }

/-- A lane test ordered (R173), where it may run. -/
def laneTestArm (s : State) (l : Nat) : Option State :=
  if l ≤ 2 ∧ s.voters = [0, 1, 2] ∧ s.grants.test.isNone then
    some (s.setGr fun g => { g with test := some (l, s.wick, false, false) })
  else none

/-- The test's inversion falls in the map now computed: the first after the Frame boundary that follows the order. -/
def testDue (s : State) : Option Nat :=
  match s.grants.test with
  | some (l, at_, false, _) => if at_ ≤ s.frameNo * Tm.frame then some l else none
  | _ => none

/-- A Held lane released: a copy into it begins. -/
def laneFree (s : State) (l : Nat) : Option State :=
  if l ≤ 2 ∧ s.gl l = 5 then some (s.laneLoad l true) else none

/-! ### One map -/

/-- The channel is in service for maps in this frame: the frames whose maps are now computed (R162). -/
def mapFrames (s : State) (ch : Nat) : List Nat :=
  let k := s.frameNo
  let l := s.lane ch
  let c := if s.laneState ch = 1 then
      (if l.fromFault ∧ k + 1 < l.runFrame then [] else [k + 1, k + 2].filter fun m => l.runFrame ≤ m)
    else if s.sending ch then [k + 2] else []
  c.filter fun m => (s.gch ch).upTo < m

/-- The words and grants of an allocation in a map. -/
def grantedTo (bursts : List Burst) (a : Nat) : List Grant :=
  (bursts.flatMap fun b => b.grants).filter fun g => g.alloc == a

/-- What a map leaves in its allocations' records and counters. -/
def noteMap (s : State) (ch m : Nat) (bursts : List Burst) (a : Nat) : State :=
  let d := s.demand a ch m
  let gs := grantedTo bursts a
  let words := (gs.map fun g => g.words).foldl (· + ·) 0
  let coop := ((gs.filter fun g => g.kind == .coop).map fun g => g.words - (g.parts.foldl (· + ·) 0)).foldl (· + ·) 0
  let s := s.noteGranted a m words gs.length
  if isDflt a then s
  else ((s.put .allocDemandWords a d).bump .allocGrantedWords a words).bump .allocCoopGrantedWords a coop

/-- The allocations of a channel, and the default allocations of its terminals, that a record shows granted or in demand. -/
def shownAllocs (s : State) (ch : Nat) : List Nat :=
  ((s.grants.demand.filter fun p => p.2.grants ≠ 0 ∨ p.2.last ≠ 0).map fun p => p.1).filter (fun a =>
    if isDflt a then (s.terminalsOn ch).contains (a - 16384) else s.allocChan a == ch) ++
  (s.listed .allocDemandWords).filter fun a => s.allocChan a == ch

/-- The map of frame `m`, the allocations that it considers, and what its computation changes (R149 to R156). -/
def computeMap (s : State) (ch m : Nat) : GMap × List Nat × State :=
  let trim := s.pressed ch
  let (o, s) := s.layNeeds ch (s.layAlive ch m)
  let (o, s) := s.layOrders ch m o
  let xs := s.shares ch m o.lay trim
  let o := s.layFill ch xs trim (s.layLocal ch xs o)
  let windows := (s.activeOn ch).filter fun t => match (s.sideOn t ch).bind fun k => (s.sd t k).window with
    | some w => w.frame == m
    | none => false
  let fixed := windows.length + ((s.act ch).wins.filter fun w => w.frame == m).length
  let (lay, gone) := s.dropEntries ch (1024 - fixed) o.lay
  let s := gone.foldl (fun u g => match g.kind, u.sideOn (u.allocTerm g.alloc) ch with
    | .ploam, some k => let t := u.allocTerm g.alloc; u.setSd t k { u.sd t k with ploam := true }
    | _, _ => u) s
  let add (u : State) (obj : Obj) (k bit : Nat) : State :=
    if k = 0 then u else (u.bump obj ch k).setBit (Reg.grantChStatus ch) bit true
  let s := add (add (add s .grantWindowSkips o.skips 12) .grantOverbooked o.excess 10) .grantEntryDeferrals gone.length 11
  let s := if trim then s.bump .trimmedFrames ch 1 else s
  let moved := match (o.cut ++ gone.map fun g => g.alloc) with
    | a :: _ => a
    | [] => (s.gch ch).rot
  let as_ := ((xs.map fun x => x.alloc) ++ lay.bursts.flatMap fun b => b.grants.map fun g => g.alloc).eraseDups
  let unmet := as_.any fun a => s.reports a && (s.dem a).report.isSome &&
    ((grantedTo lay.bursts a).map fun g => g.words).foldl (· + ·) 0 < s.demand a ch m
  let used := (lay.taken.map fun x => x.2 - x.1).foldl (· + ·) 0
  let entries := fixed + (lay.bursts.map fun b => b.grants.length).foldl (· + ·) 0
  let gs := lay.bursts.flatMap fun b => b.grants
  let words := (gs.map fun g => g.words).foldl (· + ·) 0
  let coop := ((gs.filter fun g => g.kind == .coop).map fun g => g.words - g.parts.foldl (· + ·) 0).foldl (· + ·) 0
  let s := ((s.count 0x500 ch entries).count 0x501 ch words).count 0x502 ch coop
  let s := s.putReg (Reg.grantChEntries ch)
    (putBits 26 16 (putBits 10 0 (s.reg (Reg.grantChEntries ch)) entries) (max entries (bitsOf 26 16 (s.reg (Reg.grantChEntries ch)))))
  let idle := s.frameWords ch - used
  let s := s.putReg (Reg.grantChIdleWords ch) (idle % 262144)
  let s := s.setGch ch { s.gch ch with rot := moved, trimmed := trim }
  (⟨m, sortBy (fun b => b.start) lay.bursts, trim, unmet, idle, false, []⟩, as_, s)

/-- QUIET_MAP_BUILDER_FAULT (R167). -/
def builderFault (s : State) (ch : Nat) : State :=
  (s.setBit Reg.grantLaneStatus 19 true).raiseFault .grantQuietMaps ch

/-- The quiet map of a frame (R167). -/
def quietMap (s : State) (ch m : Nat) : GMap :=
  let o := s.layAlive ch m
  let used := (o.lay.taken.map fun x => x.2 - x.1).foldl (· + ·) 0
  let unmet := (s.eligibleAllocs ch).any fun a => s.reports a && (s.dem a).report.isSome && 0 < s.demand a ch m
  ⟨m, sortBy (fun b => b.start) o.lay.bursts, false, unmet, s.frameWords ch - used, true, []⟩

/-- One channel's map for frame `m`: computed, voted, and held for its frame. What it grants is noted of the map that
goes out (R143, R176). -/
def mapFor (s : State) (ch m : Nat) (words : List (Nat × List (Nat × Nat))) (builder : Bool) : State :=
  let s := (s.coverEpoch ch m).layWindows ch m
  let quiet := s.quietMap ch m
  let held := s.heldQuiet ch
  let (g, as_, s) := s.computeMap ch m
  let (alt, s) := s.voteMap words
  let (g, s) := match alt with
    | some l =>
      if held then (quiet, (s.bump .grantQuietMaps ch 1).setBit (Reg.grantChStatus ch) 8 true)
      else ({ g with alt := l }, if builder then s.builderFault ch else s)
    | none => (quiet, s.noMajority ch m)
  let s := ((as_ ++ s.shownAllocs ch).eraseDups).foldl (fun u a => u.noteMap ch m g.bursts a) s
  let c := s.gch ch
  s.setGch ch { c with maps := c.maps ++ [g], upTo := m }

/-- GRANT_COMPUTE_MAX: the spec gives a computation no length, so the fabric cycles it took are a free value. -/
def computeTime (s : State) : State :=
  let (k, s) := s.draw
  s.putReg Reg.grantComputeMax (max (s.reg Reg.grantComputeMax) (Config.freeValue 16 k).toNat)

/-- A lane's frames in Shadow without disagreement, one more in a frame; the lanes compute whether or not a channel runs. -/
def shadowFrame (s : State) : State :=
  if s.grants.mapAt = some s.frameNo then s
  else [0, 1, 2].foldl (fun u l => if u.gl l = 2 then u.setGlane l { u.glane l with shadow := (u.glane l).shadow + 1 } else u)
    (s.setGr fun g => { g with mapAt := some s.frameNo })

/-! ### Maps sent (R49, R79) -/

/-- The Alloc-ID of an allocation in a map; a default allocation's is the terminal's ONU-ID (R138). -/
def allocIdOf (s : State) (a : Nat) : Nat :=
  if isDflt a then s.n .terminalOnuIdAssigned (a - 16384) else s.n .allocIdAssigned a

/-- The entries of a map as they leave: discovery and ranging grants, which the quiet map lacks (R167), then the bursts. -/
def mapWords (s : State) (ch : Nat) (g : GMap) : List Nat :=
  let disc := ((s.act ch).wins.filter fun w => w.frame == g.frame).flatMap fun _ => [s.broadcastOnu ch, 0]
  let ranging := (s.activeOn ch).flatMap fun t => match (s.sideOn t ch).bind fun k => (s.sd t k).window with
    | some w => if w.frame = g.frame then [s.n .terminalOnuIdAssigned t, w.start] else []
    | none => []
  let words := (if g.quiet then [] else disc ++ ranging) ++ g.bursts.flatMap fun b =>
    [s.n .terminalOnuIdAssigned b.term, b.start, b.profile, if b.ploam then 1 else 0] ++
      b.grants.flatMap fun x => [s.allocIdOf x.alloc, x.words, if x.report then 1 else 0]
  g.alt.foldl (fun l w => l.set w.1 w.2) words

/-- A burst of a map awaited: the profile's content is the one in force as it was granted, profile 0's where the map names a
disabled profile (R76), and the preset the one at the boundary that carries the grant (R26, R79); that of a burst of no
terminal that is on the channel is ChannelEqDefault. -/
def expectOf (s : State) (ch : Nat) (b : Burst) : Expect :=
  let preset := match s.sideOn b.term ch with
    | some k => if s.tstate b.term k = 0 then s.n .channelEqDefault ch else s.n (presetObj k) b.term
    | none => s.n .channelEqDefault ch
  ⟨b, if b.bad then s.profileOf ch 0 else b.prof, preset, b.bad⟩

/-- A map in flight. -/
def flightOf (s : State) (ch : Nat) (g : GMap) : Flight :=
  { frame := g.frame, quiet := g.quiet, trimmed := g.trimmed, unmet := g.unmet,
    window := s.n .channelUpSearchWindow ch, drift := s.n .channelUpDriftThreshold ch,
    decrypt := s.on .channelUpDecrypt ch, idle := g.idle,
    expected := g.bursts.map (s.expectOf ch), carried := 0, due := List.range g.bursts.length, lit := false, strays := [] }

/-- The windows whose grants the frame carries take the parameters of its boundary (R26, R79, R110). -/
def windowsSent (s : State) (ch f : Nat) : State :=
  let a := s.act ch
  let s := s.setAct ch { a with wins := a.wins.map fun w =>
    if w.frame = f then { w with prof := s.profileOf ch 0, code := s.n .channelEqDefault ch } else w }
  (s.activeOn ch).foldl (fun u t => match u.sideOn t ch with
    | some k => match (u.sd t k).window with
      | some w => if w.frame = f then u.setSd t k { u.sd t k with window := some { w with
          prof := u.profileOf ch 0, code := u.n (presetObj k) t, ePre := (u.act ch).ePre } } else u
      | none => u
    | none => u) s

/-- The frame that now starts on a channel takes its map; where the words are not complete, the quiet map (R49), which
the engine counts as a quiet map (R147). -/
def sendMap (s : State) (ch : Nat) : State :=
  if s.sending ch ∧ ¬ s.framing ch then
    s.setGch ch { s.gch ch with maps := (s.gch ch).maps.filter fun g => s.frameNo < g.frame }
  else if s.sending ch then
    let c := s.gch ch
    let f := s.frameNo
    let (g, late) := match c.maps.find? fun g => g.frame == f with
      | some g => (g, false)
      | none => (s.quietMap ch f, true)
    let s := s.setGch ch { c with maps := c.maps.filter fun g => f < g.frame, flight := c.flight ++ [s.flightOf ch g] }
    let s := s.windowsSent ch f
    let s := if late then (s.bump .grantQuietMaps ch 1).setBit (Reg.grantChStatus ch) 8 true else s
    let s := if g.quiet then s.count 0x503 ch 1 else s
    let w := s.mapWords ch g
    (s.sendFrame ch (if late then none else some w) w).put .channelEpochIndex ch (s.epochIndex ch f)
  else s

/-- A channel that neither sends frames nor is about to: its maps and epochs go, and held orders are rejected with reason
5 (R160 note 4). -/
def mapsEnd (s : State) (ch : Nat) : State :=
  if s.sending ch ∨ s.laneState ch = 1 then s
  else
    let c := s.gch ch
    if c.maps.isEmpty ∧ c.epochs.isEmpty ∧ c.orders.isEmpty then s
    else
      let s := s.setGch ch { c with maps := [], epochs := [], upTo := 0, trimmed := false }
      (s.dropOrders ch 5 fun _ => true).put .channelEpochIndex ch 0

/-- Lanes in Shadow that have agreed with another one in the reload, or GL[0] where it runs alone (R170). -/
def agreeing (s : State) (lanes : List Nat) : List Nat :=
  lanes.filter fun l => !s.on .grantVoteEnable 0 ||
    lanes.any fun k => k != l && !s.grants.differ.contains (l, k)

/-- The effect of GrantLaneTest. -/
def laneTestEff : Eff := fun s _ _ bs =>
  match s.laneTestArm (beNat bs) with
  | some u => (u, Abort.ok)
  | none => (s, Abort.range)

/-- The effect of GrantLaneRelease. -/
def laneReleaseEff : Eff := fun s _ _ bs =>
  match s.laneFree (beNat bs) with
  | some u => (u, Abort.ok)
  | none => (s, Abort.range)

end State

open State

/-- R146: the maps of this frame for every channel. `wrong` lists, in streaming order, words by their place in a channel's
map with the lanes that give a value of their own; `builder` lists the channels for which the quiet-map builder disagrees. -/
def execMapComputation (wrong : List (Chan × Nat × List (GrantLane × Nat))) (builder : List Chan) (s : State) :
    Host.Outcome State Fault Refusal :=
  if ¬ s.bit Reg.grantCtrl 0 ∨ s.boot.glim then .next s
  else
    let work := (List.range 32).flatMap fun ch => (s.mapFrames ch).map fun m => (ch, m)
    match work with
    | [] => .next s.shadowFrame
    | first :: _ =>
      let due := s.testDue
      let s := match s.grants.test with
        | some (l, at_, false, out) =>
          if due.isSome then s.setGr fun g => { g with test := some (l, s.now, true, out) } else
            s.setGr fun g => { g with test := some (l, at_, false, out) }
        | _ => s
      let s := work.foldl (fun u (p : Nat × Nat) =>
        let mine := (wrong.filter fun w => w.1.val == p.1).map fun w => (w.2.1, w.2.2.map fun x => (x.1.val, x.2))
        let words := if p = first then due.toList.map (fun l => (0, [(l, 4294967295)])) ++ mine else mine
        u.mapFor p.1 p.2 words (builder.any fun c => c.val == p.1)) s
      .next s.shadowFrame.computeTime

/-- R169: a lane's copy ends. -/
def execGrantLaneCopyComplete (l : GrantLane) (s : State) : Host.Outcome State Fault Refusal :=
  if s.gl l = 1 ∧ s.grants.reload.isNone ∧ s.sourceVotes l then .next (s.setGlane l { s.glane l with copied := true })
  else .next s

/-- R168: at a Frame boundary, after two consecutive frames in Shadow without disagreement. -/
def execGrantLaneRejoin (l : GrantLane) (s : State) : Host.Outcome State Fault Refusal :=
  if s.gl l = 2 ∧ 2 ≤ (s.glane l).shadow ∧ s.grants.reload.isNone ∧ s.atFrame then .next (s.laneVote l)
  else .next s

/-- R177: GRANT_CTRL.RELOAD. -/
def execGrantReload (s : State) : Host.Outcome State Fault Refusal :=
  if s.grants.reload.isNone then .next (s.setGr fun g => { g with reloadDue := true }) else .next s

/-- R170: the reload's two frames in Shadow have passed: every lane that agrees with another enters Voting. -/
def execReloadComplete (s : State) : Host.Outcome State Fault Refusal :=
  let lanes := [0, 1, 2].filter fun l => s.gl l == 2
  if s.grants.reload.isSome ∧ ¬ lanes.isEmpty ∧ lanes.all (fun l => 2 ≤ (s.glane l).shadow) ∧ s.atFrame then
    let good := s.agreeing lanes
    let s := s.setGr fun g => { g with reload := none, differ := [] }
    if good.isEmpty then
      .next (s.setGr fun g => { g with reloadDue := true })
    else
      let s := (lanes.filter fun l => !good.contains l).foldl (fun u l => u.laneOut l) s
      let s := match s.grants.voteLater with
        | some b => (s.put .grantVoteEnable 0 (if b then 1 else 0)).setGr fun g => { g with voteLater := none }
        | none => s
      .next (good.foldl (fun u l => u.laneVote l) s).voteEnable
  else .next s

/-- R173: a host write of GrantLaneTest. -/
def execGrantLaneTest (m : Master) (value : Nat) (s : State) : Host.Outcome State Fault Refusal :=
  .next (s.hostWrite m .grantLaneTest 0 (beBytes 1 value) laneTestEff)

/-- R173: the test ends: 0 back in Voting within 10 ms, 1 not voted out, 2 not back within 10 ms and then Held. -/
def execGrantLaneTestEnd (s : State) : Host.Outcome State Fault Refusal :=
  let done (u : State) (r : Nat) : State :=
    ((u.setGr fun g => { g with test := none }).put .grantLaneTestResult 0 r).setBit Reg.grantLaneStatus 23 true
  match s.grants.test with
  | some (l, at_, true, out) =>
    if ¬ out then .next (done s 1)
    else if s.gl l = 3 ∧ s.now ≤ at_ + 10 * Tm.ms then .next (done s 0)
    else if at_ + 10 * Tm.ms ≤ s.now then .next ((done s 2).putGl l 5)
    else .next s
  | _ => .next s

/-- R173: a host write of GrantLaneRelease. -/
def execGrantLaneRelease (m : Master) (value : Nat) (s : State) : Host.Outcome State Fault Refusal :=
  .next (s.hostWrite m .grantLaneRelease 0 (beBytes 1 value) laneReleaseEff)

/-- R38 note 4: in Trim, at a Frame boundary, once the idle time has reached ChannelTrimIdleDwell seconds. The orders that
the channel holds are rejected as it leaves Run (R160 note 4). -/
def execLaneSleepEntry (ch : Chan) (s : State) : Host.Outcome State Fault Refusal :=
  let dwell := s.n .channelTrimIdleDwell ch
  if s.laneState ch = 2 ∧ s.atFrame ∧ s.n .devicePowerStateActual 0 = 1 ∧ dwell ≠ 0 ∧ (s.activeOn ch).isEmpty ∧
      max s.boot.trimSince (s.lane ch).lastActive + dwell * Tm.s ≤ s.now then
    .next (((s.put .channelLaneState ch 3).setBit (Reg.ponLaneStatus ch) 1 false).dropOrders ch 5 fun _ => true)
  else .next s

end Sys2Proof.Machine
end

