-- ==== Sys2Proof/Machine/Upstream.lean ====
section
/-!
DEFINITION. Upstream bursts (R26 to R33, R77 to R91, R96 to R98): the search for a burst, its outcome, delineation,
reports and measurements, decryption, the bonding receiver (R64 to R69), and the classing of an upstream frame's words.
-/

namespace Sys2Proof.Machine

/-! ### The bonding group header (R64) -/

/-- The CRC of R64: polynomial x^4 + x + 1 over bits 31 to 4 of a header word, bit 31 first. -/
def bondCrc (w : Nat) : Nat → Nat
  | 0 => 0
  | k + 1 =>
    let c := bondCrc w k
    let b := w / 2 ^ (31 - k) % 2
    let x := c * 2 % 16
    if c / 8 = b then x else (x / 4 * 4) + (if x / 2 % 2 = 1 then 0 else 2) + (if x % 2 = 1 then 0 else 1)

/-- The check value of a header word. -/
def bondHck (w : Nat) : Nat := bondCrc w 28

/-- Comparison of sequence numbers (R67). -/
def bondLater (a b : Nat) : Bool := 1 ≤ (a + 1048576 - b % 1048576) % 1048576 && (a + 1048576 - b % 1048576) % 1048576 ≤ 524287

namespace State

/-! ### The bonding receiver (R65, R67 to R69) -/

/-- The receiver of a flow. -/
def bondRx (s : State) (f : Nat) : Option BondRx := tabGet (fun _ => none) s.tm.bondRx f

/-- The receiver of a flow replaced. -/
def setBondRx (s : State) (f : Nat) (r : Option BondRx) : State :=
  s.setTm fun m => { m with bondRx := tabPut (fun _ => none) m.bondRx f r }

/-- Sump cells of fragments released. -/
def bondFree (s : State) (cells : List Nat) : State := cells.foldl (fun u c => u.releaseFrame c (u.n .sumpBondRequester 0)) s

/-- The open frame discarded, if there is one (R68). -/
def bondDiscard (s : State) (f : Nat) (r : BondRx) : BondRx × State :=
  match r.open_ with
  | some (_, _, cells) => ({ r with open_ := none }, (s.bump .bondFramesDiscarded f 1).bondFree cells)
  | none => (r, s)

/-- A frame of a flow that has been received whole. -/
def upFrame (s : State) (f : Nat) (pipe : Pipeline) (h : FrameHdr) : State :=
  s.pipeline ⟨.flow f, h, none, true, 0, pipe, 1⟩

/-- A fragment taken in order and joined (R68). -/
def bondTake (s : State) (f : Nat) (pipe : Pipeline) (r : BondRx) (x : BondFrag) : BondRx × State :=
  let r := { r with taken := s.now }
  let cells := x.cell.toList
  let (r, s) := if x.f then s.bondDiscard f r else (r, s)
  let start : Option (Option FrameHdr × Nat × List Nat) := if x.f then some (x.hdr, 0, []) else r.open_
  match start with
  | none => (r, s.bondFree cells)
  | some (h, n, held) =>
    let n := n + x.len
    if 12288 < n then s.bondDiscard f { r with open_ := some (h, n, held ++ cells) }
    else if x.l then
      let s := s.bondFree (held ++ cells)
      ({ r with open_ := none }, match h with | some h => s.upFrame f pipe { h with len := n } | none => s)
    else ({ r with open_ := some (h, n, held ++ cells) }, s)

/-- Whether a channel's last sequence number is later than `next`. -/
def bondPast (r : BondRx) (k : Nat) : Bool :=
  match if k = 0 then r.lastA else r.lastB with
  | some v => bondLater v r.next
  | none => false

/-- Whether both channels of the flow's terminal have shown a sequence number later than `next` (R67): one on which the
terminal is not in service counts as having shown it, while the other has. -/
def bondShown (s : State) (f : Nat) (r : BondRx) : Bool :=
  let t := s.n .flowTerminal f
  let shown (k : Nat) : Bool := bondPast r k || !s.inService t (s.chanOf t k)
  (bondPast r 0 || bondPast r 1) && shown 0 && shown 1

/-- The loop of R67. -/
def bondLoop (s : State) (f : Nat) (pipe : Pipeline) (r : BondRx) : Nat → BondRx × State
  | 0 => (r, s)
  | fuel + 1 =>
    let on_ (r : BondRx) : BondRx := { r with next := (r.next + 1) % 1048576 }
    match r.held.find? fun x => x.seq == r.next with
    | some x =>
      let (r, s) := s.bondTake f pipe { r with held := r.held.filter fun y => y.seq != x.seq } x
      s.bondLoop f pipe (on_ r) fuel
    | none =>
      let shown := s.bondShown f r
      if shown ∨ r.held.any fun x => x.since + s.n .flowBondUpTimeout f * Tm.us ≤ s.now then
        let s := s.bump .bondFragmentsLost f 1
        let s := if shown then s else s.bump .bondTimeouts f 1
        let (r, s) := s.bondDiscard f r
        s.bondLoop f pipe (on_ r) fuel
      else (r, s)

/-- The receiver run until it waits. -/
def bondRun (s : State) (f : Nat) (pipe : Pipeline) (r : BondRx) : State :=
  let (r, s) := s.bondLoop f pipe r 1048576
  s.setBondRx f (some r)

/-- BONDING_FRAGMENT_RECEIVED. -/
def bondFragment (s : State) (ch f : Nat) (pipe : Pipeline) (w len : Nat) (h : Option FrameHdr) : State :=
  let k := (s.sideOn (s.n .flowTerminal f) ch).getD 0
  if bondHck w ≠ w % 16 ∨ w / 128 % 4 ≠ 1 ∨ w / 512 % 2 ≠ k ∨ len = 0 then s.bump .bondHeaderErrors f 1
  else
    let seq := w / 4096 % 1048576
    let first := w / 2048 % 2 == 1
    let last := w / 1024 % 2 == 1
    let go (r : BondRx) : State :=
      let r := if k = 0 then { r with lastA := some seq } else { r with lastB := some seq }
      if bondLater r.next seq ∨ (r.held.any fun x => x.seq == seq) then
        (s.bump .bondDuplicates f 1).bondRun f pipe r
      else if seq = r.next ∧ first ∧ last then
        let (r, s) := s.bondTake f pipe r ⟨seq, true, true, len, h, none, s.now⟩
        s.bondRun f pipe { r with next := (r.next + 1) % 1048576 }
      else
        match s.store (s.n .sumpBondRequester 0) 0 len 1 1 with
        | (none, s) => s.bondRun f pipe r
        | (some c, s) => s.bondRun f pipe { r with held := r.held ++ [⟨seq, first, last, len, h, some c, s.now⟩] }
    match s.bondRx f with
    | some r => go r
    | none => if first then go ⟨seq, none, none, [], none, s.now⟩ else s

/-- A receiver's state dropped, with the cells that it holds. -/
def bondReset (s : State) (f : Nat) : State :=
  match s.bondRx f with
  | some r =>
    let cells := (r.held.filterMap fun x => x.cell) ++ (match r.open_ with | some x => x.2.2 | none => [])
    (s.bondFree cells).setBondRx f none
  | none => s

/-! ### Frames of a burst (R87, R96, R420) -/

/-- Whether a flow's port-IDs are served upstream: until 875 µs after Closing (R488). -/
def flowServed (s : State) (f : Nat) : Bool :=
  match s.n .flowSnuffPhase f with
  | 0 => s.on .flowEnable f
  | 3 => false
  | _ => match s.snuffOf .flow f with
    | some r => decide (s.now < r.closing + 875 * Tm.us)
    | none => false

/-- A frame discarded for its key index (R96). -/
def keyDiscard (s : State) (ch : Nat) : State := (s.bump .upKeyDiscards ch 1).setBit (Reg.tcUsStatus ch) 7 true

/-- UPSTREAM_DECRYPTION: whether a frame of a terminal may pass with its key index. -/
def keyPasses (s : State) (ch t key : Nat) (decrypt required : Bool) : Bool :=
  if s.gen ch = 1 then true
  else if key = 0 then !required
  else
    let st := s.slotState false (2 * t + (key - 1))
    s.coresRun && decrypt && key ≤ 2 && st != 0 && st != 4

/-- A frame received whole in a Good burst of terminal `t`: whether it is delivered. -/
def upDeliver (s : State) (ch t : Nat) (pipe : Pipeline) (decrypt : Bool) (x : UpFrag) : Bool × State :=
  let aes (u : State) (len : Nat) : State := if x.key = 0 ∨ u.gen ch = 1 then u else u.count 0xC00 0 (ceilDiv len 16)
  if x.port = s.n .terminalOnuIdAssigned t then
    if ¬ s.keyPasses ch t x.key decrypt false then (false, s.keyDiscard ch)
    else
      match x.data with
      | .omci bytes ok =>
        let s := aes s bytes.length
        (true, if ok then s.raise 8 .omciSend t (beBytes 2 t ++ bytes) else s.bump .omciRxDiscards t 1)
      | _ => (true, s)
  else
    match (s.flowAt ch x.port).filter fun f => s.flowServed f with
    | none => (false, s.bump .upUnknownPortId ch 1)
    | some f =>
      if s.n .flowTerminal f ≠ t then
        (false, ((s.bump .upForeignPortId ch 1).setBit (Reg.tcUsStatus ch) 6 true).raiseRefusal .upForeignPortId ch 0
          (beBytes 2 t ++ beBytes 2 x.port))
      else if ¬ s.keyPasses ch t x.key decrypt (s.on .flowUpEncryptRequired f) then (false, s.keyDiscard ch)
      else
        match x.data, s.flowBonded f with
        | .ethernet h, false => (true, (aes s h.len).upFrame f pipe h)
        | .bond w len h, true => (true, (aes s (len + 4)).bondFragment ch f pipe w.toNat len h)
        | _, true => (true, s.bump .bondHeaderErrors f 1)
        | _, false => (true, s)

/-- A partial frame lost (R87). -/
def partialDrop (s : State) (ch a : Nat) : State :=
  if (s.dem a).partial_ then (s.setDem a { s.dem a with partial_ := false }).bump .upPartialFrameDrops ch 1 else s

/-- DELINEATION of one allocation's payload in a burst: the payload words delivered. A fragment's words count in the frame
that carries them, those of a frame's last fragment where the frame is delivered (log entry 126). -/
def delineate (s : State) (ch t a : Nat) (pipe : Pipeline) (decrypt : Bool) (g : UpGrant) : Nat × State :=
  let go (r : Nat × State) (x : UpFrag) : Nat × State :=
    let (n, s) := r
    let s := if x.first then (s.partialDrop ch a).setDem a { (s.partialDrop ch a).dem a with partial_ := true } else s
    if ¬ (s.dem a).partial_ then (n, s)
    else if x.last then
      let (ok, s) := (s.setDem a { s.dem a with partial_ := false }).upDeliver ch t pipe decrypt x
      (if ok then n + x.words else n, s)
    else (n + x.words, s)
  let s := if g.frags.isEmpty then s.partialDrop ch a else s
  let (n, s) := g.frags.foldl go (0, s)
  (n, if g.lost then (s.bump .upDelineationLosses ch 1).partialDrop ch a else s)

/-! ### Reports and measurements (R89, R90, R144) -/

/-- A lost report: the previous one is kept. -/
def reportLost (s : State) (ch a : Nat) : State :=
  (s.setDem a { s.dem a with lost := true }).bump .upReportsLost ch 1

/-- STATUS_REPORT_DELIVERY: a report of the map of frame `m`; reports of an allocation in Snuff are ignored (R174). -/
def reportDelivered (s : State) (ch a m bytes : Nat) : State :=
  if ¬ isDflt a ∧ s.n .allocSnuffPhase a ≠ 0 then s
  else s.setDem a { s.dem a with report := some (m, ceilDiv bytes (wordBits (s.gen ch) / 8)), lost := false }

/-- The estimate of R144 from an idle measurement; none asks for a probe. -/
def estimate (granted idle maxWords : Nat) : Option Nat :=
  if granted = 0 then none
  else if idle * 16 ≤ granted then some (min (2 * granted) maxWords)
  else if granted ≤ idle then none
  else some (ceilDiv ((granted - idle) * 9) 8)

/-- IDLE_MEASUREMENT. -/
def measured (s : State) (ch a granted idle : Nat) : State :=
  s.setDem a { s.dem a with est := estimate granted idle (s.maxWords a ch) }

/-- One grant of a Good burst: the payload words that it delivers. -/
def goodGrant (s : State) (ch t m : Nat) (pipe : Pipeline) (decrypt : Bool) (g : Grant) (r : UpGrant) : Nat × State :=
  let s := if g.report then
      match r.report with
      | some b => s.reportDelivered ch g.alloc m b
      | none => s.reportLost ch g.alloc
    else s
  let s := s.measured ch g.alloc g.words r.idle
  if g.words = 0 then (0, s) else s.delineate ch t g.alloc pipe decrypt r

/-- One grant of a burst that is not Good. -/
def lostGrant (s : State) (ch : Nat) (g : Grant) : State :=
  let s := if g.report then s.reportLost ch g.alloc else s
  if g.words = 0 then s else s.partialDrop ch g.alloc

/-! ### The burst (R27, R33, R78 to R85) -/

/-- The expected start and end of a burst in bits of its upstream frame. -/
def burstBits (s : State) (ch : Nat) (e : Expect) : Int × Int :=
  let wb := wordBits (s.gen ch)
  ((e.burst.start * wb : Nat) - (e.prof.preamble + e.prof.dbits : Nat), (e.burst.stop * wb : Nat))

/-- The expected start and end of a burst in Wick time (R78). -/
def burstTimes (s : State) (ch : Nat) (f : Flight) (e : Expect) : Time × Time :=
  let (b0, b1) := s.burstBits ch e
  let bit (n : Int) : Time := ((f.frame * Tm.frame + upDelay : Nat) + s.unitSpan ch n).toNat
  (bit b0, bit b1)

/-- The maps whose bursts bound a channel's upstream light: those in flight, and the one accounted last. -/
def flights (s : State) (ch : Nat) : List Flight := (s.gch ch).past.toList ++ (s.gch ch).flight

/-- The bursts expected on a channel: start, end and terminal. -/
def awaited (s : State) (ch : Nat) : List (Time × Time × Nat) :=
  (s.flights ch).flatMap fun f => f.expected.map fun e => ((s.burstTimes ch f e).1, (s.burstTimes ch f e).2, e.burst.term)

/-- The least of a list of numbers. -/
def least (l : List Nat) : Option Nat :=
  l.foldl (fun (a : Option Nat) x => match a with
    | some y => if x < y then some x else a
    | none => some x) none

/-- The next expected burst start from an instant on. -/
def nextStart (s : State) (ch : Nat) (t : Time) : Option Time :=
  least (((s.awaited ch).map fun x => x.1).filter fun x => decide (t ≤ x))

/-- Bits of an upstream frame. -/
def frameBits (s : State) (ch : Nat) : Nat := s.upRate ch * 5 / 4

/-- DELIMITER_SEARCH: the chosen offset, in the window clipped by the previous and the next burst on the channel (R80,
R81). -/
def searched (s : State) (ch : Nat) (f : Flight) (e : Expect) (hits : List (Int × Nat)) : Option Int :=
  let mine := (s.burstBits ch e).1
  let at_ := mine + (e.prof.preamble : Nat)
  let w : Int := (f.window : Nat)
  let others : List (Int × Int) := (s.flights ch).flatMap fun g => g.expected.map fun x =>
    let d : Int := ((g.frame : Int) - f.frame) * (s.frameBits ch : Nat)
    ((s.burstBits ch x).1 + d, (s.burstBits ch x).2 + d)
  let lo := (others.filter fun x => decide (x.1 < mine)).foldl
    (fun a x => max a (x.2 + (acquisition (s.upRate ch) : Nat) - at_)) (-w)
  let hi := (others.filter fun x => decide (mine < x.1)).foldl (fun a x => min a (x.1 - at_)) w
  let near := hits.filter fun h => decide (lo ≤ h.1) && decide (h.1 ≤ hi) && h.2 ≤ e.prof.threshold
  let best := near.foldl (fun (b : Option (Int × Nat)) h =>
    match b with
    | some x => if h.2 < x.2 ∨ (h.2 = x.2 ∧ h.1 < x.1) then some h else b
    | none => some h) none
  best.map fun x => x.1

/-- Tenths of a nanosecond as a span. -/
def tenths (k : Nat) : Time := k * Tm.ns / 10

/-- BURST_RESET_PULSE after an expected end (R33): ended 0.4 ns before the next expected burst start, where it would pass
that instant. -/
def brstPulse (s : State) (ch : Nat) (stop : Time) : State :=
  let rise := stop + tenths (4 * s.n .channelBrstOffset ch)
  let fall := rise + tenths (4 * s.n .channelBrstWidth ch)
  let pulse (u : State) (fall : Time) : State :=
    if rise < fall then u.emit (.pulse 1 ch rise fall (u.on .channelBrstPolarity ch)) else u
  match s.nextStart ch stop with
  | some q =>
    if q < fall + tenths 4 then
      let s := ((s.bumpReg (Reg.ponLaneBrstTruncCnt ch) 1).setBit (Reg.ponLaneStatus ch) 10 true).count 0x301 ch 1
      pulse s (q - tenths 4)
    else pulse s fall
  | none => pulse s fall

/-- EQUALISER_SWITCH before a burst that is expected from `start` to `stop` (R27), and the pulse after it (R33). -/
def burstLead (s : State) (ch : Nat) (e : Expect) (start stop : Time) : State :=
  let l := s.lane ch
  let s := if start < l.lastEnd + 2 * Tm.ns then
      if e.preset = l.code then s
      else ((s.bumpReg (Reg.ponLanePresetSkipCnt ch) 1).setBit (Reg.ponLaneStatus ch) 11 true).count 0x300 ch 1
    else s.setLane ch { l with code := e.preset }
  (s.setLane ch { s.lane ch with lastEnd := stop }).brstPulse ch stop

/-- A burst that is absent (R91, R121): a keep-alive burst is not counted against the terminal. -/
def absent (s : State) (ch t : Nat) (keepAlive : Bool) : State :=
  let s := (s.bump .terminalUpAbsent t 1).count 0x211 ch 1
  match s.sideOn t ch with
  | some k => if keepAlive then s else s.setSd t k { s.sd t k with absent := (s.sd t k).absent + 1 }
  | none => s

/-- FEC counts of a burst (R84). -/
def fecBurst (s : State) (ch t : Nat) (r : BurstRx) : State :=
  let errs := if s.gen ch = 1 then r.bip else r.corrected
  let s := if errs = 0 then s else (s.bump .terminalUpBitErrors t errs).lineAdd ch 2 errs
  let s := if r.corrected = 0 then s else s.count 0x213 ch r.corrected
  if r.uncorrectable = 0 then s
  else
    let u := r.uncorrectable
    ((((s.bump .upCodewordsUncorrectable ch u).bump .terminalUpFecUncorrectable t u).setBit (Reg.tcUsStatus ch) 3
      true).count 0x212 ch u).lineAdd ch 3 u

/-- What the lane reports of FEC for a burst: nothing where no code protects it, and no more uncorrectable codewords than
the burst has (R84). -/
def fecSeen (s : State) (ch : Nat) (e : Expect) (r : BurstRx) : BurstRx :=
  let b := s.bwords ch
  if s.fecOf ch e.prof then
    { r with uncorrectable := min r.uncorrectable (ceilDiv (e.burst.stop - e.burst.start) (b.data + b.parity)) }
  else { r with corrected := 0, uncorrectable := 0 }

/-- A burst found: its arrival offset in 1/64 bit (R83), and, where its FEC decode passes, the recommended code with the
first seeding of the preset (R29, R31). -/
def foundBurst (s : State) (ch t : Nat) (x : Int) (r : BurstRx) : State :=
  match s.sideOn t ch with
  | none => s
  | some k =>
    let s := s.puti (side .terminalArrivalOffsetA .terminalArrivalOffsetB k) t x
    if r.uncorrectable ≠ 0 then s
    else
      let s := if (s.sd t k).seeded then s else s.put (presetObj k) t r.code
      (s.setSd t k { s.sd t k with seeded := true }).eqCount ch t k r.code

/-- DRIFT_REPORT: an offset beyond the threshold goes to the activation engine (R83). -/
def driftReport (s : State) (ch t : Nat) (f : Flight) (x : Int) (recent : List Int) : State :=
  match s.sideOn t ch with
  | some k => if (f.drift * 64 : Nat) < x.natAbs then s.driftCorrection t k ch recent else s
  | none => s

/-- The offsets of a terminal's last four Good bursts with one more. -/
def recentWith (s : State) (ch t : Nat) (x : Int) : List Int :=
  match s.sideOn t ch with
  | some k => (x :: (s.sd t k).recent).take 4
  | none => []

/-- The records of a Good burst: counters, offsets, recovery and awareness. -/
def goodBurst (s : State) (ch t : Nat) (off : Int) (x : Int) (r : BurstRx) : State :=
  let s := (((s.bump .upBurstsGood ch 1).bump .terminalUpBursts t 1).count 0x210 ch 1).lineAdd ch 1 1
  let s := s.putReg (Reg.tcUsLastOffset ch) (twos 10 off + r.phase % 64 * 1024 + t % 8192 * 65536)
  match s.sideOn t ch with
  | none => s
  | some k =>
    let d := s.sd t k
    let s := s.setSd t k { d with
      absent := 0, recent := s.recentWith ch t x, sum := d.sum + x, number := d.number + 1
      recovered := d.recovered || s.tstate t k == 5 }
    s.setTerm t { s.term t with lastGood := s.now, aware := (s.term t).aware || s.n .terminalPowerState t == 3 }

/-- A Good burst of at least 10,000 bits lets its lane measure its margin in this minute (R510). -/
def noteBright (s : State) (ch : Nat) (bits : Int) : State :=
  if 10000 ≤ bits then { s with life := { s.life with bright := tabPut (fun _ => 0) s.life.bright ch s.minute } } else s

/-- UPSTREAM_PLOAM (R88). -/
def upPloam (s : State) (ch t : Nat) (p : Option UpPloam) : State :=
  match p with
  | some .bad | some .unknown => s.bump .upPloamDiscarded ch 1
  | some .ack =>
    match s.sideOn t ch with
    | some k => if s.gen ch = 1 then s else s.setSd t k { s.sd t k with correction := none }
    | none => s
  | _ => s

/-- A Good burst's grants, in order. -/
def goodGrants (s : State) (ch t : Nat) (f : Flight) (pipe : Pipeline) (gs : List Grant) (rs : List UpGrant) :
    Nat × State :=
  (gs.zip (rs ++ List.replicate gs.length ⟨none, 0, [], true⟩)).foldl (fun (a : Nat × State) p =>
    let (n, s) := a.2.goodGrant ch t f.frame pipe f.decrypt p.1 p.2
    (a.1 + n, s)) (0, s)

/-- BURST_RECEIVED: the outcome of R91, with the payload words carried. -/
def burst (s : State) (ch : Nat) (pipe : Pipeline) (f : Flight) (e : Expect) (r : BurstRx) : Nat × State :=
  let t := e.burst.term
  let at_ := s.burstTimes ch f e
  let s := s.burstLead ch e at_.1 at_.2
  let s := if e.badProfile then (s.bump .upProfileFaults ch 1).setBit (Reg.tcUsStatus ch) 9 true else s
  let keep := e.burst.grants.all fun g => g.kind == .keepAlive
  let fails (u : State) : State := e.burst.grants.foldl (fun v g => v.lostGrant ch g) u
  if ¬ s.bit (Reg.ponLaneStatus ch) 1 then (0, fails (s.bump .upLaneUnlocked ch 1))
  else
    match s.searched ch f e r.hits with
    | none =>
      (0, fails (((s.bump .upBurstsMissing ch 1).setBit (Reg.tcUsStatus ch) 1 true).absent ch t keep))
    | some off =>
      let r := s.fecSeen ch e r
      let x : Int := off * 64 + (r.phase % 64 : Nat)
      let recent := s.recentWith ch t x
      let s := (s.fecBurst ch t r).foundBurst ch t x r
      let bad (u : State) : State :=
        let u := (u.setBit (Reg.tcUsStatus ch) 2 true).bumpReg (Reg.tcUsHdrErrCnt ch) 1
        (fails (u.absent ch t keep)).driftReport ch t f x recent
      let onu := s.n .terminalOnuIdAssigned t
      if ¬ r.headerOk then (0, bad (s.bump .upHeaderErrors ch 1))
      else if s.gen ch ≠ 1 ∧ r.onu ≠ onu then
        (0, bad ((s.bump .upMisdirected ch 1).raiseRefusal .upMisdirected ch 0 (beBytes 2 onu ++ beBytes 2 r.onu)))
      else
        let s := (s.goodBurst ch t off x r).noteBright ch ((s.burstBits ch e).2 - (s.burstBits ch e).1)
        let s := s.driftReport ch t f x recent
        let s := if e.burst.ploam then s.upPloam ch t r.ploam else s
        s.goodGrants ch t f pipe e.burst.grants r.grants

/-- What the lane finds where nothing is received: no delimiter. -/
def nothing : BurstRx := ⟨[], 0, 0, 0, 0, false, 0, 0, none, []⟩

/-- The words of an upstream frame classed (R98, R505), while UP_ACCT_EN is 1. -/
def account (s : State) (ch : Nat) (f : Flight) : State :=
  if ¬ s.bit Reg.cntGlobalCtrl 2 then s else
  let total := s.frameWords ch
  let carried := min f.carried total
  let idle := min f.idle (total - carried)
  let blocked := if f.unmet ∧ f.trimmed then idle else 0
  let starved := if f.unmet ∧ ¬ f.trimmed then idle else 0
  let rest := total - carried - blocked - starved
  let s := (((s.bump .upWordsCarried ch carried).bump .upWordsBlocked ch blocked).bump .upWordsStarved ch starved).bump
    .upWordsIdle ch rest
  ((((s.bump .upFramesAccounted ch 1).count 0xE10 ch carried).count 0xE11 ch blocked).count 0xE12 ch starved).count
    0xE13 ch rest

/-! ### Light in the gaps (R92 to R94) -/

/-- What bounds the gaps on a channel: expected bursts with their terminals, and windows, the ranging ones among them. -/
def spans (s : State) (ch : Nat) : List (Time × Time × Option Nat) :=
  let a := s.act ch
  let ranging := (s.terminalsOn ch).filterMap fun t => (s.sideOn t ch).bind fun k => (s.sd t k).window.map fun w => (w.lo, w.hi)
  ((s.awaited ch).map fun x => (x.1, x.2.1, some x.2.2)) ++
    ((a.wins.map fun w => (w.start, w.start + w.len)) ++ a.pastWins ++ ranging).map fun x => (x.1, x.2, none)

/-- A bound of a gap: the instant, and the terminal of the burst there, none for a window. -/
abbrev Bound := Time × Option Nat

/-- The gaps between spans in rising order, after what has ended last; the first and the last gap are open. -/
def gapsOf : Option Bound → List (Time × Time × Option Nat) → List (Option Bound × Option Bound)
  | cur, [] => [(cur, none)]
  | none, x :: xs => (none, some (x.1, x.2.2)) :: gapsOf (some (x.2.1, x.2.2)) xs
  | some c, x :: xs =>
    if c.1 < x.1 then (some c, some (x.1, x.2.2)) :: gapsOf (some (x.2.1, x.2.2)) xs
    else gapsOf (some (if c.1 < x.2.1 then (x.2.1, x.2.2) else c)) xs

/-- The gaps of a channel. -/
def gaps (s : State) (ch : Nat) : List (Option Bound × Option Bound) := gapsOf none (sortBy (fun x => x.1) (s.spans ch))

/-- The interval of a gap that the monitor observes: 50 ns within its bounds; none where it is shorter than
ChannelGapMinLen. An open gap has no end yet. -/
def monitored (s : State) (ch : Nat) (g : Option Bound × Option Bound) : Option (Time × Option Time) :=
  let lo : Time := match g.1 with | some b => b.1 + 50 * Tm.ns | none => 0
  match g.2 with
  | some b => if lo + 50 * Tm.ns + s.n .channelGapMinLen ch * Tm.ns ≤ b.1 then some (lo, some (b.1 - 50 * Tm.ns)) else none
  | none => some (lo, none)

/-- A flight in an upstream frame that has not been accounted changed. -/
def withFlight (s : State) (ch m : Nat) (f : Flight → Flight) : State :=
  let c := s.gch ch
  s.setGch ch { c with flight := c.flight.map fun x => if x.frame = m then f x else x }

/-- Light attributed to a terminal in the upstream frame of map `m`: overlong, or early. -/
def stray (s : State) (t ch m : Nat) (early : Bool) : State :=
  let s := match s.sideOn t ch with
    | some k => s.setSd t k { s.sd t k with strayAt := ((s.sd t k).strayAt.filter fun x => s.now < x + 60 * Tm.s) ++ [s.now] }
    | none => s
  let s := (s.bump .terminalUpOverlong t 1).bump (if early then .upEarlyLight else .upOverlong) ch 1
  (s.withFlight ch m fun f => { f with strays := t :: f.strays.filter fun x => x != t }).setBit (Reg.tcUsStatus ch) 5 true

/-- Unattributed light makes the upstream frame of map `m` a lit frame, which counts once; also next to a quiet window
(log entry 127). -/
def litFrame (s : State) (ch m : Nat) : State :=
  let new_ := (s.gch ch).flight.any fun f => f.frame == m && !f.lit
  let s := if new_ then (s.bump .upLitFrames ch 1).count 0x214 ch 1 else s
  (s.withFlight ch m fun f => { f with lit := true }).setBit (Reg.tcUsStatus ch) 4 true

/-- Light from `a` to `b` in one gap (R92, R93): 16 ns of it in the monitored interval are found. What touches the
interval's ends belongs to the bursts there, unless a window bounds the gap; all other light is unattributed. -/
def lightGap (s : State) (ch : Nat) (a b : Time) (g : Option Bound × Option Bound) : State :=
  match s.monitored ch g with
  | none => s
  | some (lo, hi) =>
    let x := max a lo
    let y := match hi with | some h => min b h | none => b
    if y < x + 16 * Tm.ns then s
    else
      let m := (x - upDelay) / Tm.frame
      let s := s.lightSeen ch
      let quiet : Bool := g.1.any (fun p => p.2.isNone) || g.2.any fun p => p.2.isNone
      let first := if a ≤ lo then g.1.bind fun p => p.2 else none
      let last := if hi.any fun h => decide (h ≤ b) then g.2.bind fun p => p.2 else none
      if quiet ∨ (first.isNone ∧ last.isNone) then s.litFrame ch m
      else
        let s := match first with | some t => s.stray t ch m false | none => s
        match last with | some t => s.stray t ch m true | none => s

/-- Whether an upstream frame has a monitored interval (R94). -/
def frameMonitored (s : State) (ch : Nat) (f : Flight) : Bool :=
  let u := f.frame * Tm.frame + upDelay
  s.on .channelGapMonitor ch && (s.gaps ch).any fun g => match s.monitored ch g with
    | some (lo, hi) => decide (lo < u + Tm.frame) && (match hi with | some h => decide (u < h) | none => true)
    | none => false

/-- The runs of R94 at the end of an upstream frame that had a monitored interval. -/
def lightRuns (s : State) (ch : Nat) (f : Flight) : State :=
  let s := s.setAct ch { s.act ch with litRun := if f.lit then (s.act ch).litRun + 1 else 0 }
  (s.terminalsOn ch).foldl (fun u t => match u.sideOn t ch with
    | some k =>
      let n := if f.strays.contains t then (u.sd t k).strayRun + 1 else 0
      if (u.sd t k).strayRun = n then u else u.setSd t k { u.sd t k with strayRun := n }
    | none => u) s

end State

open State

/-- R91: the expected burst `i` of the map of frame `frame` is received; `r` is what the lane finds. -/
def execBurstReceived (ch : Chan) (frame i : Nat) (pipe : Pipeline) (r : BurstRx) (s : State) :
    Host.Outcome State Fault Refusal :=
  match (s.gch ch).flight.find? fun f => f.frame == frame with
  | some f =>
    match f.expected[i]? with
    | some e =>
      if f.due.contains i then
        let (n, s) := s.burst ch pipe f e (if s.bit (Reg.tcUsCtrl ch) 0 then r else nothing)
        .next (s.withFlight ch frame fun f => { f with due := f.due.erase i, carried := f.carried + n })
      else .next s
    | none => .next s
  | none => .next s

/-- R67: a held fragment reaches FlowBondUpTimeout. -/
def execBondingTimeout (f : Flow) (pipe : Pipeline) (s : State) : Host.Outcome State Fault Refusal :=
  match s.bondRx f with
  | some r => .next (s.bondRun f pipe r)
  | none => .next s

/-- R69: no fragment taken for 1 s. -/
def execBondingResync (f : Flow) (s : State) : Host.Outcome State Fault Refusal :=
  match s.bondRx f with
  | some r => if r.taken + Tm.s ≤ s.now then .next (s.bondReset f) else .next s
  | none => .next s

/-- R98, R505: the oldest upstream frame in flight has ended: bursts that have not come are Missing (R91), its words are
classed, and the runs of R94 go on. -/
def execUpstreamFrameAccounted (ch : Chan) (s : State) : Host.Outcome State Fault Refusal :=
  match (s.gch ch).flight with
  | f :: _ =>
    if f.frame * Tm.frame + 750 * Tm.us ≤ s.wick then
      let s := (f.due.filterMap fun i => f.expected[i]?).foldl (fun u e => (u.burst ch 0 f e nothing).2) s
      let s := if s.frameMonitored ch f then s.lightRuns ch f else s
      let g := s.gch ch
      .next ((s.setGch ch { g with flight := g.flight.tail, past := some f }).account ch f)
    else .next s
  | [] => .next s

/-- R34: OPT_RSSI_TRIG on the first granted burst of the armed terminal that starts at least one frame after the request,
and within its 16 frames. The pulse ends early at the burst's expected end, and the completion event says so. -/
def execRssiTrigger (ch : Chan) (t : Term) (s : State) : Host.Outcome State Fault Refusal :=
  let l := s.lane ch
  match l.rssi with
  | some (armed, at_) =>
    let mine := (s.awaited ch).filter fun x => x.2.2 == t.val && decide (at_ + Tm.frame ≤ x.1) && decide (x.1 < at_ + 16 * Tm.frame)
    match sortBy (fun x => x.1) mine with
    | x :: _ =>
      if armed = t.val then
        let rise := x.1 + s.n .channelRssiDelay ch * (10 * Tm.ns)
        let fall := rise + s.n .channelRssiWidth ch * (10 * Tm.ns)
        let s := s.setLane ch { l with rssi := none }
        let s := if rise < min fall x.2.1 then s.emit (.pulse 0 ch rise (min fall x.2.1) true) else s
        .next (s.raiseDone .channelRssiRequest ch (beBytes 12 rise ++ beBytes 1 (if x.2.1 < fall then 1 else 0)))
      else .next s
    | [] => .next s
  | none => .next s

/-- R111: the window that is open closes; `light` says whether the energy detector found light in it. OPT_BRST pulses after
it (R33), and in Sleep the receive PLL stops (R41). -/
def execQuietWindowEnd (ch : Chan) (light : Bool) (s : State) : Host.Outcome State Fault Refusal :=
  let a := s.act ch
  match a.wins with
  | w :: rest =>
    let stop := w.start + w.len
    if stop ≤ s.wick then
      let hit := light && a.decoded == 0
      let s := (s.setAct ch { a with wins := rest, decoded := 0, serials := [] }).quietNext ch
      let s := s.windowPast ch w.start stop
      let s := if hit then (s.bumpReg (Reg.actCollisionCnt ch) 1).setBit (Reg.actStatus ch) 6 true else s
      let s := if s.laneState ch = 3 then s.setBit (Reg.ponLaneStatus ch) 1 false else s
      .next ((s.setLane ch { s.lane ch with code := w.code, lastEnd := stop }).brstPulse ch stop)
    else .next s
  | [] => .next s

/-- R92, R93: light at the receive lane input from `a` to `b` in Wick time, at a level in detector units. -/
def execLightFound (ch : Chan) (a b : Time) (level : Nat) (s : State) : Host.Outcome State Fault Refusal :=
  if ¬ s.on .channelGapMonitor ch ∨ ¬ s.sending ch ∨ level ≤ s.n .channelGapEnergyThreshold ch then .next s
  else .next ((s.gaps ch).foldl (fun u g => u.lightGap ch a b g) s)

end Sys2Proof.Machine
end

