-- ==== Sys2Proof/Machine/Egress.lean ====
section
/-!
DEFINITION. Downstream frames from the queues to the lanes (R57 to R66, R70, R263 to R275): heads that are discarded or
held, the answer to a framer's request, encapsulation and fragmentation, and the bonding sender.
-/

namespace Sys2Proof.Machine

namespace State

/-! ### Queue heads (R56, R63, R304) -/

/-- Whether every port-ID that a flow uses is one and is valid for its channel (R56). -/
def flowSendable (s : State) (f : Nat) : Bool :=
  !(s.flowChans f).isEmpty && (s.flowChans f).all fun ch => match s.flowPort f ch with
    | some p => p != 0xFFFF && portInRange (s.gen ch) p
    | none => false

/-- What discards a queue's head frame at dequeue. -/
def headDrop (s : State) (ch : Nat) (d : QDesc) : Option State :=
  if s.verdict d.cell = 2 then some s.verdictDrop
  else if d.flow ≠ noFlow ∧ ¬ s.flowSendable d.flow then some (s.portInvalidDrop ch)
  else none

/-- A downstream queue with its bad heads discarded. -/
def dropHeads (s : State) (ch q : Nat) : Nat → State
  | 0 => s
  | fuel + 1 =>
    match s.queue q with
    | [] => s
    | d :: rest =>
      match s.headDrop ch d with
      | some t => ((t.setQueue q rest).releaseFrame d.cell d.owner).dropHeads ch q fuel
      | none => s

/-- A head frame of an encrypted flow held for want of a usable key (R63), with an exchange asked for. -/
def holdForKey (s : State) (ch q : Nat) : State :=
  match s.queue q with
  | d :: rest =>
    let t := s.n .queueTerminal q
    if d.held.isNone ∧ s.keyBlocked d.flow d.bcast then
      let s := s.setQueue q ({ d with held := some s.now } :: rest)
      ((s.setBit (Reg.tcDsStatus ch) 3 true).bumpReg (Reg.tcDsKeyHeldCnt ch) 1).exchAsk t
    else s
  | [] => s

/-- The heads of the queues of a channel's terminals made ready for a request. -/
def headWork (s : State) (ch : Nat) : State :=
  ((s.tm.queues.map fun p => p.1).filter fun q => q < 65536 && (s.chansOf (s.n .queueTerminal q)).contains ch).foldl
    (fun u q => (u.dropHeads ch q 4096).holdForKey ch q) s

/-! ### Encapsulation (R58) -/

/-- Bytes of a GEM or XGEM header. -/
def gemHeader (gen : Nat) : Nat := if gen = 1 then 5 else 8

/-- Room below which the framer fills with idle. -/
def gemRoom (gen : Nat) : Nat := if gen = 1 then 13 else 16

/-- Payload bytes as encapsulation carries them: padded to four on the generations of XGEM. -/
def gemPad (gen len : Nat) : Nat := if gen = 1 then len else (len + 3) / 4 * 4

/-- The part of `left` bytes that fits in `room`. -/
def gemPart (gen room left : Nat) : Nat :=
  let space := room - gemHeader gen
  if gen = 1 then min (min space 4095) left
  else if gemPad gen left ≤ space then left else space / 4 * 4

/-- Whether something is placed in `room`: it fits whole, or there is room to fragment it; else the framer idles. -/
def gemGo (gen room left : Nat) : Bool :=
  gemRoom gen ≤ room || (gemHeader gen ≤ room && decide (gemPart gen room left = left))

/-- The port-ID of a flow on a channel; the OMCI path's is the ONU-ID. -/
def sendPort (s : State) (ch flow t : Nat) : Nat :=
  if flow = noFlow then s.n .terminalOnuIdAssigned t else (s.flowPort flow ch).getD 0xFFFF

/-- The switches that waited for the last fragment under an old key are made once it is gone (R61, R359). -/
def restDone (s : State) (ch t : Nat) : State :=
  let s := if (s.exch t).used ∧ ¬ s.restOld t then s.switchNow t else s
  if (s.ciph.bcastDue.any fun p => p.1 == ch && p.2 == 0) ∧ ¬ s.restBcast ch then s.bcastSwitch ch else s

/-- A frame, or what is left of it, placed in a frame's payload. The last fragment under an old key lets the next slot
become Current (R61). -/
def gemSend (s : State) (ch room : Nat) (r : RestSt) : State :=
  let k := gemPart (s.gen ch) room r.left
  let done := decide (k = r.left)
  let s := (s.emit (.gem ch r.port r.key k r.head done)).count 0x201 ch k
  let s := if r.key = 0 then s else s.count 0xC00 0 (ceilDiv k 16)
  let s := s.setTm fun m => { m with
    rest := tabPut (fun _ => none) m.rest ch (if done then none else some { r with left := r.left - k, head := none }) }
  if done then s.restDone ch r.term else s

/-- The key under which the rest of a frame goes on: the one it began under, on GPON that of the frame (R61, R62); none
where its slot has been retired (R356) or no key is usable. -/
def restKey (s : State) (ch : Nat) (r : RestSt) : Option Nat :=
  if r.key = 0 then some 0
  else if s.gen ch = 1 then s.frameKey ch r.flow r.bcast
  else
    let st := if r.key < 3 then s.slotState false (2 * r.term + (r.key - 1)) else s.slotState true (2 * ch + (r.key - 3))
    if st = 0 ∨ st = 4 then none else some r.key

/-- A frame of a flow lost for want of a key (R63). -/
def keyLost (s : State) (f : Nat) : State :=
  s.setTm fun m => { m with keyDrops := tabPut (fun _ => 0) m.keyDrops f (tabGet (fun _ => 0) m.keyDrops f + 1) }

/-- The rest of a frame goes on, where it goes into the room; one whose key has been retired is discarded, since its slot
has no use any more (log entry 129). -/
def restSend (s : State) (ch room : Nat) (r : RestSt) : State :=
  match s.restKey ch r with
  | some k => if gemGo (s.gen ch) room r.left then s.gemSend ch room { r with key := k } else s
  | none =>
    ((s.setTm fun m => { m with rest := tabPut (fun _ => none) m.rest ch none }).keyLost r.flow).restDone ch r.term

/-! ### The bonding sender (R66) -/

/-- What waits on a channel. -/
def bondWait (s : State) (ch : Nat) : List BondOut := tabGet (fun _ => []) s.tm.bondWait ch

/-- What waits on a channel, replaced. -/
def setBondWait (s : State) (ch : Nat) (q : List BondOut) : State :=
  s.setTm fun m => { m with bondWait := tabPut (fun _ => []) m.bondWait ch q }

/-- Bytes that wait on a pair. -/
def pairWaiting (s : State) (ch : Nat) : Nat :=
  ((s.bondWait (ch / 2 * 2) ++ s.bondWait (ch / 2 * 2 + 1)).map fun x => x.len).foldl (· + ·) 0

/-- Queued bonded bytes of a flow on a channel. -/
def flowWaiting (s : State) (ch f : Nat) : Nat :=
  (((s.bondWait ch).filter fun x => x.flow == f && x.seq.isSome).map fun x => x.len).foldl (· + ·) 0

/-- Whether a terminal's side takes no fragments since the latest Frame boundary. -/
def solo (s : State) (t k : Nat) : Bool := s.tm.solo.contains (t, k)

/-- The flows of a terminal that are cut for both channels. -/
def bondedFlows (s : State) (t : Nat) : List Nat :=
  (s.listed .flowTerminal).filter fun f => s.n .flowTerminal f == t && s.flowBonded f

/-- What a side's channel holds of a terminal's bonded flows is lost (R66). -/
def bondLose (s : State) (t k : Nat) : State :=
  let ch := s.chanOf t k
  let mine (f : Nat) : Bool := s.n .flowTerminal f == t
  let s := s.setBondWait ch ((s.bondWait ch).filter fun x => !(x.seq.isSome && mine x.flow))
  match s.restOf ch with
  | some r =>
    if r.bonded ∧ mine r.flow then s.setTm fun m => { m with rest := tabPut (fun _ => none) m.rest ch none } else s
  | none => s

/-- The sides of bonded terminals that take no fragments from this Frame boundary on: their channel is not in Run, or the
terminal is not in service there. What such a side holds is lost, and BOND_SOLO is set on the channel to which a bonded flow
then goes alone (log entry 130). -/
def soloFrame (s : State) : State :=
  let ts := s.withNum .terminalBonded 1
  let out (t k : Nat) : Bool :=
    let ch := s.chanOf t k
    !(s.laneState ch = 2 ∧ s.n .channelSnuffPhase ch = 0 ∧ s.inService t ch)
  let sides := ts.flatMap fun t => ([0, 1] : List Nat).filterMap fun k => if out t k then some (t, k) else none
  let fresh := sides.filter fun x => !s.solo x.1 x.2
  let s := fresh.foldl (fun u x => u.bondLose x.1 x.2) s
  let s := (fresh.filter fun x => !sides.contains (x.1, 1 - x.2) && !(s.bondedFlows x.1).isEmpty).foldl (fun u x =>
    u.setBit (Reg.tcDsStatus (u.chanOf x.1 (1 - x.2))) 5 true) s
  s.setTm fun m => { m with solo := sides }

/-- One fragment assigned to a side. -/
def bondPut (s : State) (t f k len : Nat) (first last bcast : Bool) : State :=
  let seq := tabGet (fun _ => 0) s.tm.bondSeq f
  let s := s.setTm fun m => { m with bondSeq := tabPut (fun _ => 0) m.bondSeq f ((seq + 1) % 1048576) }
  let ch := s.chanOf t k
  s.setBondWait ch (s.bondWait ch ++ [⟨f, some seq, first, last, len, bcast, none⟩])

/-- A frame of a bonded flow cut and assigned. -/
def bondAssign (s : State) (t f len : Nat) (bcast : Bool) : State :=
  let a := s.chanOf t 0
  let lost0 := s.solo t 0
  let alone := lost0 != s.solo t 1
  let pick : Nat :=
    if alone then (if lost0 then 1 else 0)
    else if s.flowWaiting (a + 1) f < s.flowWaiting a f then 1 else 0
  let other : Nat := if alone then pick else 1 - pick
  let first := min len (((len + 1) / 2 + 3) / 4 * 4)
  if len ≤ s.n .flowBondFragThreshold f ∨ first = len then s.bondPut t f pick len true true bcast
  else (s.bondPut t f pick first true false bcast).bondPut t f other (len - first) false true bcast

/-- The group header of a fragment on a channel (R64). -/
def bondWord (ch seq : Nat) (first last : Bool) : Nat :=
  let w := seq * 4096 + (if first then 2048 else 0) + (if last then 1024 else 0) + ch % 2 * 512 + 128
  w + bondHck w

/-- The first of what waits on a channel that a key lets through, with what is passed over before it: nothing of a flow goes
before what waits of the same flow. -/
def waitPick (s : State) (ch : Nat) : List BondOut → List BondOut → Option (List BondOut × BondOut × Nat × List BondOut)
  | [], _ => none
  | x :: rest, over_ =>
    match (if over_.any fun y => y.flow == x.flow then none else s.frameKey ch x.flow x.bcast) with
    | some k => some (over_.reverse, x, k, rest)
    | none => s.waitPick ch rest (x :: over_)

/-- What no key lets through is held: counted and noted once, an exchange asked for, and discarded after 100 ms, as a
queue's head frame is (R63). -/
def waitHold (s : State) (ch : Nat) : State :=
  let blocked (x : BondOut) : Bool := (s.frameKey ch x.flow x.bcast).isNone
  let late (x : BondOut) : Bool := match x.held with
    | some t => blocked x && decide (t + 100 * Tm.ms ≤ s.now)
    | none => false
  let q := s.bondWait ch
  let new_ := q.filter fun x => blocked x && x.held.isNone
  let s := (q.filter late).foldl (fun u x => u.keyLost x.flow) s
  let s := s.setBondWait ch ((q.filter fun x => !late x).map fun x =>
    { x with held := if blocked x then some (x.held.getD s.now) else none })
  new_.foldl (fun u x =>
    ((u.setBit (Reg.tcDsStatus ch) 3 true).bumpReg (Reg.tcDsKeyHeldCnt ch) 1).exchAsk (u.n .flowTerminal x.flow)) s

/-- What waits on a channel sent: the first that may go, where it goes into the room; none where nothing may go. -/
def waitSend (s : State) (ch room : Nat) : Option State :=
  match s.waitPick ch (s.bondWait ch) [] with
  | some (over_, x, k, rest) =>
    let t := s.n .flowTerminal x.flow
    let head := x.seq.map fun q => bondWord ch q x.f x.l
    let len := if head.isSome then x.len + 4 else x.len
    if gemGo (s.gen ch) room len then
      some ((s.setBondWait ch (over_ ++ rest)).gemSend ch room
        ⟨len, x.flow, t, s.sendPort ch x.flow t, k, head, head.isSome, x.bcast⟩)
    else some s
  | none => none

/-- What a channel holds is lost as it leaves Run and Sleep. -/
def framerEmpty (s : State) (ch : Nat) : State :=
  if s.sending ch then s
  else (s.setBondWait ch []).setTm fun m => { m with rest := tabPut (fun _ => none) m.rest ch none }

/-! ### A request answered (R274, R275) -/

/-- Nodes of a path that are no longer ready lose a positive deficit (R270). -/
def settlePath (s : State) (ch t cg : Nat) (q : Option Nat) : State :=
  let s := match q with
    | some q => s.settle .queue q (s.queueReady q)
    | none => s
  let s := s.settle .terminal t (s.terminalReady t)
  s.settle .cg cg (s.cgReady cg ch (s.pairWaiting ch))

/-- Whether the first OMCI message of a terminal goes into the room. -/
def omciRoom (s : State) (ch room t : Nat) : Bool :=
  match s.omci t with
  | m :: _ => gemGo (s.gen ch) room (omciLen m)
  | [] => false

/-- A frame goes out on the requesting channel: it is not cut for two, and its flow uses that channel. -/
def ownFrame (s : State) (ch f : Nat) : Bool := !s.flowBonded f && (s.flowPort f ch).isSome

/-- Whether a queue's head frame goes into the room, or, where it is assigned to channels first, a fragment may. -/
def frameRoom (s : State) (ch room q : Nat) : Bool :=
  match s.queue q with
  | d :: _ => if s.ownFrame ch d.flow then gemGo (s.gen ch) room d.len else decide (gemRoom (s.gen ch) ≤ room)
  | [] => false

/-- An OMCI message sent, with the Completion event of its tag (R420). -/
def omciPick (s : State) (ch room t cg : Nat) (p : Pick) : State :=
  match s.omci t with
  | m :: rest =>
    let len := omciLen m
    let s := (s.chargePath p ch len).setOmci t rest
    let s := (s.count 0x800 (s.treeOf ch) 1).count 0x801 (s.treeOf ch) len
    let s := (s.settlePath ch t cg none).raiseDone .omciSend t (beBytes 1 m.tag)
    (s.gemSend ch room ⟨len, noFlow, t, s.sendPort ch noFlow t, 0, none, false, false⟩).noteEmpty t
  | [] => s

/-- A queue's head frame sent on the requesting channel, or assigned to the channels of its flow. -/
def framePick (s : State) (ch room q t cg : Nat) (p : Pick) : State :=
  match s.queue q with
  | d :: rest =>
    let s := ((s.chargePath p ch d.len).setQueue q rest).releaseFrame d.cell d.owner
    let s := (s.count 0x800 (s.treeOf ch) 1).count 0x801 (s.treeOf ch) d.len
    let s := (s.settlePath ch t cg (some q)).noteEmpty t
    if s.flowBonded d.flow then
      let s := s.bondAssign t d.flow d.len d.bcast
      (s.waitSend ch room).getD s
    else if s.ownFrame ch d.flow then
      match s.frameKey ch d.flow d.bcast with
      | some k => s.gemSend ch room ⟨d.len, d.flow, t, s.sendPort ch d.flow t, k, none, false, d.bcast⟩
      | none => s.keyLost d.flow
    else
      match s.flowChans d.flow with
      | c :: _ => s.setBondWait c (s.bondWait c ++ [⟨d.flow, none, true, true, d.len, d.bcast, none⟩])
      | [] => s
  | [] => s

/-- FRAMER_REQUEST: the rest of a frame first, then what waits on the channel, then what the scheduler selects. -/
def framerRequest (s : State) (ch room : Nat) : State :=
  if ¬ s.framing ch ∨ s.boot.glim ∨ s.skips 2 ch then s
  else
    match s.restOf ch with
    | some r => s.restSend ch room r
    | none =>
      let s := s.waitHold ch
      match s.waitSend ch room with
      | some s => s
      | none =>
        let s := (s.headWork ch).settleIdle
        match s.select ch (s.pairWaiting ch) with
        | some (.omci t cg a b, u) => if s.omciRoom ch room t then u.omciPick ch room t cg (.omci t cg a b) else s
        | some (.frame q t cg a b c d, u) =>
          if s.frameRoom ch room q then u.framePick ch room q t cg (.frame q t cg a b c d) else s
        | none => s

end State

open State

/-- R274: the framer of a channel has `room` bytes of payload left and asks for a frame. -/
def execFramerRequest (ch : Chan) (room : Nat) (s : State) : Host.Outcome State Fault Refusal :=
  .next (s.framerRequest ch room)

/-- R63: a frame held 100 ms for want of a key is discarded; the next frame is treated in the same way. -/
def execKeyHeldDiscard (q : Queue) (s : State) : Host.Outcome State Fault Refusal :=
  match s.queue q with
  | d :: rest =>
    match d.held with
    | some t =>
      if t + 100 * Tm.ms ≤ s.now then
        let s := ((s.setQueue q rest).releaseFrame d.cell d.owner).keyLost d.flow
        match s.chansOf (s.n .queueTerminal q) with
        | ch :: _ => .next (s.holdForKey ch q)
        | [] => .next s
      else .next s
    | none => .next s
  | [] => .next s

end Sys2Proof.Machine
end

