-- ==== Sys2Proof/Machine/Phase.lean ====
section
/-!
DEFINITION. The passing of time: ticks of the 40 MHz reference, fabric cycles and pipeline slots (R178, R493, R503), and
the step of Wick with its effects on what is held in Wick time (R184, R186, R48, R62).
-/

namespace Sys2Proof.Machine

namespace State

/-! ### Time that passes -/

/-- The always-on rails are in their window: the reference and Wick run (R468, R483). -/
def wickRuns (s : State) : Bool :=
  match s.boot.rails[0] with
  | .inWindow | .faulted _ => true
  | _ => false

/-- Fabric cycles of 0.8 ns begun at an elapsed time. -/
def fabricCycles (t : Time) : Nat := t * 5 / (4 * Tm.ns)

/-- Ticks of the 40 MHz reference at an elapsed time. -/
def refTicks (t : Time) : Nat := t / (25 * Tm.ns)

/-- The slots of a pipeline in which no frame waited: the cycles that frames have not taken (R503). -/
def frontStarved (s : State) (cycles : Nat) (k : Pipeline) : State :=
  let debt := s.tm.slotDebt[k]
  let free := cycles - debt
  let s := s.setTm fun m => { m with slotDebt := m.slotDebt.set k (debt - cycles) }
  (s.bump .slotsFrontStarved k free).count 0xE02 k free

/-- What is counted of the cycles and ticks since an earlier elapsed time. -/
def countTime (s : State) (old : Time) : State :=
  if ¬ s.fabricRuns then s
  else
    let cycles := fabricCycles s.now - fabricCycles old
    let s := (s.count 0x000 0 cycles).count 0x100 0 (refTicks s.now - refTicks old)
    if s.bit Reg.cntGlobalCtrl 1 then
      (List.finRange 6).foldl (fun u k => u.frontStarved cycles k) s
    else s

/-- One tick of the 40 MHz reference: 25 ns, in which Wick grows by its increment (R178, R179). -/
def tick (s : State) : State :=
  let old := s.now
  let s := if s.wickRuns then s.putWick (s.wick + s.inc) else s
  (s.setClk fun c => { c with elapsed := c.elapsed + 25 * Tm.ns }).countTime old

/-- Wick runs on to a later time at its increment. -/
def runTo (s : State) (w : Time) : State :=
  let old := s.now
  let d := (w - s.wick) * nominalInc / (max 1 s.inc)
  ((s.putWick w).setClk fun c => { c with elapsed := c.elapsed + d }).countTime old

/-- The Frame boundary that comes now or next: the present instant where it is one that has not been served. -/
def nextBoundary (s : State) : Time :=
  if s.wick % Tm.frame = 0 ∧ s.clk.frameAt ≠ some s.wick then s.wick else (s.frameNo + 1) * Tm.frame

/-! ### A step (R184, R186) -/

/-- A number moved by a signed distance. -/
def shift (d : Int) (x : Nat) : Nat := ((x : Int) + d).toNat

/-- What a channel's lanes hold in Wick time. -/
def LaneSt.move (d f : Int) (l : LaneSt) : LaneSt :=
  { l with
    runFrame := shift f l.runFrame
    rssi := l.rssi.map fun r => (r.1, shift d r.2)
    napUntil := l.napUntil.map (shift d)
    lastEnd := shift d l.lastEnd }

/-- What a terminal's side holds in Wick time: windows keep their instants. -/
def SideSt.move (d f : Int) (r : SideSt) : SideSt :=
  { r with
    rangeAt := r.rangeAt.map (shift f)
    window := r.window.map fun w => { w with frame := shift f w.frame, lo := shift d w.lo, hi := shift d w.hi }
    correction := r.correction.map (shift f) }

/-- What a terminal holds in Wick time. -/
def TermSt.move (d f : Int) (r : TermSt) : TermSt :=
  { r with
    a := SideSt.move d f r.a
    b := SideSt.move d f r.b
    wakeFrame := r.wakeFrame.map (shift f)
    reqFrom := r.reqFrom.map fun x => (shift f x.1, x.2)
    aliveFrom := shift f r.aliveFrom }

/-- What the activation engine holds of a channel in Wick time; the periodic windows follow R109 on the new time. -/
def ActSt.move (d f : Int) (a : ActSt) : ActSt :=
  { a with
    wins := a.wins.map fun w => { w with frame := shift f w.frame, start := shift d w.start }
    pastWins := a.pastWins.map fun w => (shift d w.1, shift d w.2)
    served := 0
    watch := a.watch.map fun w => (w.1, shift f w.2.1, w.2.2)
    hunt := a.hunt.map fun h => { h with from_ := shift f h.from_ } }

/-- What the grant engine holds of a channel: maps and flights go on, the epoch in progress ends, and FSYNC confirmation
restarts. -/
def GrantCh.move (f : Int) (c : GrantCh) : GrantCh :=
  { c with
    epochs := []
    maps := c.maps.map fun g => { g with frame := shift f g.frame }
    flight := c.flight.map fun x => { x with frame := shift f x.frame }
    past := c.past.map fun x => { x with frame := shift f x.frame }
    upTo := shift f c.upTo
    phase := none }

/-- What is held of an allocation by the numbers of maps. -/
def DemandSt.move (f : Int) (x : DemandSt) : DemandSt :=
  { x with
    report := x.report.map fun r => (shift f r.1, r.2)
    history := x.history.map fun r => (shift f r.1, r.2) }

/-- The entries of a table changed, those at rest dropped. -/
def remap {α : Type} [DecidableEq α] (idle : α) (g : α → α) (t : Tab α) : Tab α :=
  (t.map fun p => (p.1, g p.2)).filter fun p => p.2 != idle

/-- What a domain holds in Wick time: its latest edge and the stamp of its latest Sync. -/
def DomSt.move (d : Int) (r : DomSt) : DomSt :=
  { r with edge := r.edge.map (shift d), sync := r.sync.map fun x => (x.1, ((x.2 : Int) + d / 65536).toNat) }

/-- What a Passage port holds in Wick time: the times of its latest SYNC and DELAY_REQ. -/
def PsgSt.move (d : Int) (r : PsgSt) : PsgSt :=
  { r with sync := r.sync.map fun x => (x.1, x.2.1, shift d x.2.2.1, shift d x.2.2.2) }

/-- Everything held in Wick time or by frame number moved with a step, so that it keeps its instant. -/
def moveAll (s : State) (d f : Int) : State :=
  { s with
    lanes := remap LaneSt.idle (LaneSt.move d f) s.lanes
    acts := remap ActSt.idle (ActSt.move d f) s.acts
    terms := remap TermSt.idle (TermSt.move d f) s.terms
    psgs := remap PsgSt.idle (PsgSt.move d) s.psgs
    clk := { s.clk with doms := s.clk.doms.map (DomSt.move d), lastEdge := s.clk.lastEdge.map fun x => (x.1, shift d x.2) }
    tm := { s.tm with queues := s.tm.queues.map fun q => (q.1, q.2.map fun x => { x with at_ := shift d x.at_ }) }
    grants := { s.grants with
      chans := remap GrantCh.idle (GrantCh.move f) s.grants.chans
      demand := remap DemandSt.idle (DemandSt.move f) s.grants.demand
      fsyncAt := s.grants.fsyncAt.map (shift d)
      fsyncP := none
      fsyncOk := false
      mapAt := s.grants.mapAt.map (shift f)
      test := s.grants.test.map fun t => if t.2.2.1 then t else (t.1, shift d t.2.1, t.2.2) } }

/-- The key switches of a channel at a step (R61, R62): outside GPON they keep their instant; on GPON a switch whose value
the counter passes over is announced anew, and the value stays announced, for a later step back. -/
def stepSwitches (s : State) (ch : Nat) (old new_ : Nat) (f : Int) : State :=
  let m := 2 ^ sfcWidth (s.gen ch)
  let r := s.framer ch
  if s.gen ch ≠ 1 then
    s.setFramer ch { r with switches := r.switches.map fun x => (x.1, (((x.2 : Int) + f) % (m : Nat)).toNat) }
  else
    let span := (new_ + m - old) % m
    let passed (x : Nat × Nat) : Bool := 0 < f && (x.2 + m - old) % m < span
    if s.avail then
      (r.switches.filter passed).foldl (fun u x =>
        u.ploamLan ch .keySwitchingTime x.1 (u.n .terminalOnuIdAssigned x.1) [] 3) s
    else s

/-- The effects of a step on one channel, given the frame in progress before it (R48, R186). -/
def stepChannel (s : State) (ch oldFrame : Nat) (f : Int) : State :=
  let m := 2 ^ sfcWidth (s.gen ch)
  let s := if s.laneState ch = 2 then
      s.raiseChange .channelSuperframe ch 2 2 (beBytes 8 (oldFrame % m) ++ beBytes 8 (s.frameNo % m))
    else s
  let s := if s.sending ch ∨ s.laneState ch = 1 then s.stepSwitches ch (oldFrame % m) (s.frameNo % m) f else s
  let s := (s.lateOrders ch).quietNext ch
  if s.sending ch then s.coverEpoch ch s.frameNo else s

/-- The phase moved by a step that is not zero. -/
def stepMove (s : State) (step : Int) : State :=
  let old := s.wick
  let oldFrame := s.frameNo
  let s := s.wickMove step
  let d : Int := (s.wick : Int) - (old : Int)
  let f : Int := (s.frameNo : Int) - (oldFrame : Int)
  let s := (s.setClk fun c => { c with secondAt := none, frameAt := none }).moveAll d f
  let s := (List.finRange 8).foldl (fun u k => u.trigStep k old) s
  let s := (List.range 32).foldl (fun u ch => u.stepChannel ch oldFrame f) s
  s.count 0x102 0 1

/-- WICK_STEP: the step that waits is applied at the present instant, a Frame boundary. -/
def stepNow (s : State) : State :=
  match s.clk.step with
  | none => s
  | some (g, _) =>
    let x := s.stepOf g
    let s := s.setClk fun c => { c with
      step := none
      residual := (match g with | .domain _ => 0 | _ => x.1 - x.2) }
    if x.2 = 0 then s else s.stepMove x.2

/-- Time runs on to the next Frame boundary, and a step that waits is applied there. -/
def toBoundary (s : State) : State := (s.runTo s.nextBoundary).stepNow

end State

open State

/-- R184: the step that waits is applied at the first Frame boundary after its decision. -/
def execWickStep (s : State) : Host.Outcome State Fault Refusal :=
  if s.clk.step.isSome ∧ s.wickRuns then .next s.toBoundary else .next s

end Sys2Proof.Machine
end

