-- ==== Sys2Proof/Machine/Passage.lean ====
section
/-!
DEFINITION. The Passage ports (R326 to R350): lanes and the lane group, frames with their sequence windows and
forwarding, reachability, credit and time messages; and the verdicts that end cut-through (R303, R318, R337).
-/

namespace Sys2Proof.Machine

namespace State

/-! ### The state of a port -/

/-- How many bits of a lane mask are set. -/
def laneCount (m : Nat) : Nat := ((List.range 4).filter fun l => m / 2 ^ l % 2 == 1).length

/-- The cascade's record replaced. -/
def setCasc (s : State) (f : CascadeSt → CascadeSt) : State := { s with casc := f s.casc }

/-- A port receives: up, in service, and not in Glim. -/
def psgReceives (s : State) (q : Nat) : Bool := s.psgUp q && !s.boot.glim

/-- A port's link carries credit and time frames: up, and not yet Dark (R348). -/
def psgLink (s : State) (q : Nat) : Bool :=
  (s.n .passagePortState q == 2 || s.n .passagePortState q == 3) && s.n .passageSnuffPhase q != 3 && !s.boot.glim

/-- PassagePortState changed, with its event; entry to three-quarter rate is counted. -/
def putPsg (s : State) (q v : Nat) : State :=
  let old := s.n .passagePortState q
  if old = v then s
  else
    let s := (s.put .passagePortState q v).setBit (Reg.psgStatus q) 16 true
    let s := if v = 3 then s.bump .passageDegradedEntries q 1 else s
    s.raiseChange .passagePortState q old v

/-- The enabled lanes of a port, which go on while the port drains (R348). -/
def lanesEnabled (s : State) (q : Nat) : Nat :=
  ((List.range 4).filter fun l => s.n .passageLaneEnable q / 2 ^ l % 2 == 1 &&
    (s.n .passageLaneSnuffPhase (4 * q + l) != 3)).foldl (fun a l => a + 2 ^ l) 0

/-- TX_MAP: the lanes enabled here that the far end announces in RX_OK (R333). -/
def txMap (s : State) (q : Nat) : State := s.put .passageTxLanes q (s.lanesEnabled q &&& (s.psg q).farOk)

/-- The lanes in use where the port can be up (R333): three or more each way; none where it cannot. -/
def lanesInUse (s : State) (q : Nat) : Option Nat :=
  let here (l : Nat) : Bool := s.n .passageLaneState (4 * q + l) == 3
  let rx := (s.psg q).farMap
  let rxOk := (List.range 4).all fun l => rx / 2 ^ l % 2 == 0 || here l
  let tx := laneCount (s.lanesEnabled q &&& (s.psg q).farOk)
  if 3 ≤ laneCount rx ∧ rxOk ∧ 3 ≤ tx then some (min (laneCount rx) tx) else none

/-- A lane enters or leaves RX_OK. -/
def rxOkPut (s : State) (lane : Nat) (b : Bool) : State :=
  let q := lane / 4
  s.put .passageRxLanes q (putBits (lane % 4) (lane % 4) (s.n .passageRxLanes q) (if b then 1 else 0))

/-- A lane's loss counted. -/
def laneLoss (s : State) (lane : Nat) : State :=
  let q := lane / 4
  (((s.bump .passageLaneLosses q 1).setBit (Reg.psgStatus q) 17 true).lineAdd (48 + lane) 3 1).rxOkPut lane false

/-! ### Sequence windows (R340) -/

/-- The outcome of the window check. -/
inductive SeqCheck where
  | accept | duplicate | stale | untracked
  deriving DecidableEq

/-- Sources for which windows are kept. -/
def windowSources (s : State) : List Nat := (s.casc.windows.map fun w => w.src).eraseDups

/-- DUPLICATE_CHECK. -/
def seqCheck (s : State) (src cls seq : Nat) : SeqCheck × State :=
  match s.casc.windows.find? fun w => w.src == src && w.cls == cls with
  | none =>
    if ¬ s.windowSources.contains src ∧ 256 ≤ s.windowSources.length then (.untracked, s)
    else (.accept, s.setCasc fun c => { c with windows := c.windows ++ [⟨src, cls, seq, [seq]⟩] })
  | some w =>
    let back := (w.high + 65536 - seq) % 65536
    let upd (v : SeqWindow) : State :=
      s.setCasc fun c => { c with windows := c.windows.map fun x => if x.src = src ∧ x.cls = cls then v else x }
    if 32768 ≤ back then
      let keep := (seq :: w.marks).filter fun m => (seq + 65536 - m) % 65536 ≤ 1023
      (.accept, upd { w with high := seq, marks := keep })
    else if 1023 < back then (.stale, s)
    else if w.marks.contains seq then (.duplicate, s)
    else (.accept, upd { w with marks := seq :: w.marks })

/-- The mark of a frame whose CRC fails removed. -/
def seqUnmark (s : State) (src cls seq : Nat) : State :=
  s.setCasc fun c => { c with windows := c.windows.map fun w =>
    if w.src = src ∧ w.cls = cls then { w with marks := w.marks.filter fun m => m != seq } else w }

/-- The check with its counts, on a port: whether the frame goes on. -/
def seqTake (s : State) (q src cls seq : Nat) : Bool × State :=
  match s.seqCheck src cls seq with
  | (.accept, s) => (true, s)
  | (.duplicate, s) => (false, (s.bump .passageDuplicates q 1).count 0xB02 q 1)
  | (.stale, s) => (false, (s.bump .passageStale q 1).setBit (Reg.psgStatus q) 20 true)
  | (.untracked, s) =>
    (true, ((s.bump .passageUntracked q 1).setBit Reg.psgGlobalStatus 1 true).raise 2 .passageUntracked q (beBytes 2 256))

/-! ### Reachability (R341) -/

/-- A device heard on a port. -/
def hear (s : State) (d q : Nat) : State :=
  let k := 4 * d + q
  let s := s.setCasc fun c => { c with heard := tabPlace (tabErase c.heard k) k s.now }
  s.put .passageReachable d (putBits q q (s.n .passageReachable d) 1)

/-- A device silent on a port: unreachable there, and out of the cascade once unreachable on every port. -/
def unreach (s : State) (d q : Nat) : State :=
  let old := s.n .passageReachable d
  let new_ := putBits q q old 0
  let s := (s.setCasc fun c => { c with heard := tabErase c.heard (4 * d + q) }).put .passageReachable d new_
  if new_ = 0 ∧ old ≠ 0 then
    let s := s.setCasc fun c => { c with windows := c.windows.filter fun w => w.src != d }
    (s.raiseChange .passageReachable d old 0).autoFlush 2 d none
  else s

/-- The presence frame's nonce: a free value drawn at power-up. -/
def nonce (s : State) : Nat := (Config.freeValue 32 s.casc.nonce).toNat

/-- PRESENCE_SEND: a presence frame flooded on every up port. -/
def presence (s : State) : State :=
  let ports := (List.range 4).filter fun q => s.psgUp q
  let ring := if s.n .passageRingPorts 0 = 0 then 0 else 1
  let s := s.setCasc fun c => { c with presentAt := s.now }
  if s.n .passageDeviceId 0 = 0xFFFF then s
  else s.cascadeFrame 5 0xFFF 0 8 Config.presenceClass ports true [s.nonce, ring]

/-! ### Forwarding (R339) -/

/-- The ports of a transit frame: its egress ports, or the object that counts why there is none. -/
def transitPorts (s : State) (q : Nat) (f : PsgFrame) : List Nat ⊕ Obj :=
  let ringIn := s.onRing q && f.dir.val != 0
  let otherRing := (maskPorts (s.n .passageRingPorts 0)).filter fun p => p != q && s.psgUp p
  if f.dest.val = 0xFFF then
    .inl ((List.range 4).filter fun p => p != q && s.psgUp p)
  else
    let route := s.routeUp f.dest
    let ports := if ringIn then otherRing ++ route.filter fun p => !s.onRing p && p != q
      else route.filter fun p => p != q
    if ¬ ports.isEmpty then .inl ports
    else if ¬ ringIn ∧ route.contains q then .inr .passageLoopDrops
    else .inr .passageNoRoute

/-- DIR of a transit copy on its egress port. -/
def transitDir (s : State) (q p : Nat) (f : PsgFrame) : Nat :=
  if ¬ s.onRing p then 0
  else if s.onRing q ∧ f.dir.val ≠ 0 then f.dir
  else if f.dest.val = 0xFFF ∨ s.ringRoute (s.n .passageRoute f.dest) then s.dirOf p
  else 0

/-- The header of a frame as received. -/
def headerIn (f : PsgFrame) : List Byte :=
  psgHeader f.dest f.type f.src f.cls (if f.tree then 1 else 0) f.seq f.hops f.dir f.colour f.len f.domain

/-- The CRC of a transit copy, stitched over its new header (R336, R380). -/
def transitCrc (f : PsgFrame) (header : List Byte) : Nat :=
  stitch crcByte 0xFFFFFFFF (headerIn f) header (f.len + (4 - f.len % 4) % 4) f.crc

/-- PASSAGE_FORWARD: a transit frame held in Sump under PassageTransitRequester for its ports. -/
def forwardTransit (s : State) (q : Nat) (f : PsgFrame) (verdict : Nat) (ports : List Nat) : State :=
  let r := s.n .passageTransitRequester 0
  let colour := min 2 f.colour.val
  match s.store r colour f.len ports.length verdict with
  | (none, s) => s
  | (some cell, s) =>
    ports.foldl (fun t p =>
      let key := transitKey p f.cls
      let d : QDesc := ⟨cell, f.len, noFlow, f.cls, colour, t.wick, r, none,
        [f.type.val, f.dest.val, f.src.val, if f.tree then 1 else 0, f.seq.val, f.hops.val + 1, t.transitDir q p f,
          f.domain.val] ++ f.body, false, false, .passage q, 0, [], []⟩
      t.setQueue key (t.queue key ++ [{ d with check := transitCrc f (headerOf d) }])) s

/-- The transit part of a frame. -/
def transit (s : State) (q : Nat) (f : PsgFrame) (verdict : Nat) : State :=
  if f.dest.val = s.n .passageDeviceId 0 then s
  else if s.n .passageHopLimit 0 ≤ f.hops.val then
    (s.bump .passageHopDrops q 1).setBit (Reg.psgStatus q) 21 true
  else match s.transitPorts q f with
    | .inl [] => s
    | .inl ports => s.forwardTransit q f verdict ports
    | .inr o => s.bump o q 1

/-- The local part of a frame: a data frame for this device enters classification. -/
def deliver (s : State) (q : Nat) (pipe : Pipeline) (f : PsgFrame) (verdict : Nat) : State :=
  if f.type.val = 0 ∧ (f.dest.val = s.n .passageDeviceId 0 ∨ f.dest.val = 0xFFF) then
    match f.eth with
    | some h => s.pipeline ⟨.passage q, h, some f.domain.val, f.tree, f.src, pipe, verdict⟩
    | none => s
  else s

/-- A frame that fails its CRC on arrival. -/
def crcFail (s : State) (q : Nat) : State :=
  ((s.bump .passageCrcErrors q 1).setBit (Reg.psgStatus q) 18 true).lineAdd (48 + 4 * q) 2 1

/-- The verdict of an arriving frame: 0 pending, 1 pass, 2 fail, with what the failure counts. -/
def psgVerdict (s : State) (q : Nat) (f : PsgFrame) : Nat × State :=
  if s.on .macsecPortEnable (16 + q) then
    match f.sec with
    | none => (2, s.bump .macsecRxNoSa (16 + q) 1)
    | some g =>
      match s.macsecRx (16 + q) g f.pending with
      | (none, s) => (2, s)
      | (some v, s) => if v = 1 ∧ ¬ f.crcOk then (2, s.crcFail q) else (v, s)
  else if f.pending then (0, s)
  else if f.crcOk then (1, s)
  else (2, s.crcFail q)

/-- A frame of TYPE 0, 1, 2 or 5 that has been delimited. -/
def psgFrame (s : State) (q : Nat) (pipe : Pipeline) (f : PsgFrame) : State :=
  if f.dest.val = 0xFFF ∧ f.src.val = s.n .passageDeviceId 0 then s
  else
    let s := s.hear f.src q
    match s.seqTake q f.src f.cls f.seq with
    | (false, s) => s
    | (true, s) =>
      match s.psgVerdict q f with
      | (2, s) => (s.seqUnmark f.src f.cls f.seq).verdictDrop
      | (v, s) => (s.deliver q pipe f v).transit q f v

/-- Misses since lock, in PSG_LANE_STATUS. -/
def missed (s : State) (q l k : Nat) : State :=
  let a := Reg.psgLaneStatus q l
  s.putReg a (putBits 15 8 (s.reg a) (min 255 (s.reg a / 256 % 256 + k)))

/-- The lanes' own counts since the frame before (R328, R331, R506). -/
def laneCounts (s : State) (q : Nat) (f : PsgFrame) : State :=
  (List.finRange 4).foldl (fun t l =>
    let t := if f.stuff[l] = 0 then t
      else (t.bump .passageStuffViolations q f.stuff[l]).lineAdd (48 + 4 * q + l.val) 0 f.stuff[l]
    if f.misses[l] = 0 then t else (t.lineAdd (48 + 4 * q + l.val) 1 f.misses[l]).missed q l.val f.misses[l]) s

/-! ### Time (R345) -/

/-- The domain in whose slave set a Passage port is. -/
def psgDomain (s : State) (q : Nat) : Option TimeDomain :=
  let in_ (d : TimeDomain) : Bool := s.n .timeDomainSource d == 2 && s.n .timeDomainPorts d / 2 ^ (16 + q) % 2 == 1
  if in_ 0 then some 0 else if in_ 1 then some 1 else none

/-- The class and steps removed that this device announces: its selected domain's; a free class while it has none. -/
def announced (s : State) : Nat × Nat × State :=
  match s.selected with
  | some d =>
    let p := s.n .timeDomainSlavePort d
    let own := if s.n .timeDomainSource d = 2 ∧ 16 ≤ p ∧ p < 20 then (s.psg (p - 16)).steps else 0
    (s.domClass d, own + 1, s)
  | none =>
    let (k, s) := s.draw
    ((Config.freeValue 8 k).toNat, 1, s)

/-- A serving port: up, PassageTimeServe 1 and not slave-capable; none without Lantern (R196). -/
def serving (s : State) (q : Nat) : Bool := s.avail && s.psgLink q && s.on .passageTimeServe q && (s.psgDomain q).isNone

/-- The header of a link-local frame (R336). -/
def localHeader (s : State) (type len : Nat) : List Byte :=
  psgHeader 0xFFF type (s.n .passageDeviceId 0) Config.presenceClass 0 0 1 0 0 len 0

/-- A time message sent. -/
def timeSend (s : State) (q sub seq stamp : Nat) : State :=
  let (c, k, s) := s.announced
  s.emit (.passage q 3 [sub, c, min 255 k, s.n .wickStepCount 0, seq, stamp] (s.localHeader 3 20) none none)

/-- The domain's slave port: the lowest class, then the fewest steps, then the lowest number, among its ports that are up
and have had a SYNC. -/
def bestSlave (s : State) (d : TimeDomain) : Option Nat :=
  let ok := (List.range 4).filter fun q => s.psgUp q && s.psgDomain q == some d && (s.psg q).sync.isSome
  ok.foldl (fun b q => match b with
    | none => some q
    | some p => if (s.psg q).cls * 256 + (s.psg q).steps < (s.psg p).cls * 256 + (s.psg p).steps then some q else b) none

/-- TimeDomainSlavePort brought up to the best port; a change is slewed out at TimeSwitchSlew. -/
def slaveUpdate (s : State) (d : TimeDomain) : State :=
  match s.bestSlave d with
  | none => s
  | some q =>
    let old := s.n .timeDomainSlavePort d
    if old = 16 + q then s
    else
      let s := s.putSlave d (16 + q)
      if old = 0xFF then s else s.setClk fun c => { c with switched := true }

/-- A SYNC at a slave-capable port: noted, and answered with DELAY_REQ. -/
def syncTaken (s : State) (q : Nat) (d : TimeDomain) (m : PsgTime) : State :=
  let s := s.setPsg q { s.psg q with
    sync := some (m.seq, m.stamp, m.arrival, m.reply), cls := m.cls, steps := m.steps }
  let s := s.slaveUpdate d
  let s := if s.n .timeDomainSlavePort d = 16 + q then
      (s.setDom d { s.dom d with lastSync := s.now }).domClassSet d (some m.cls)
    else s
  s.timeSend q 1 m.seq 0

/-- A DELAY_RESP that answers the latest SYNC's DELAY_REQ: half the difference of the two ways, with half the link's
asymmetry. -/
def delayTaken (s : State) (q : Nat) (d : TimeDomain) (m : PsgTime) : State :=
  match (s.psg q).sync with
  | some (seq, t1, t2, t3) =>
    if seq = m.seq.val ∧ s.n .timeDomainSlavePort d = 16 + q then
      let x : Int := ((t1 : Int) - t2 + ((m.stamp : Int) - t3)) / 2 + psTime (s.num .passagePortAsymmetry q) / 2
      s.domSample d x m.freq
    else s
  | none => s

/-! ### Verdicts (R303, R304, R318, R337) -/

/-- The queued descriptors of a stored frame. -/
def holders (s : State) (cell : Nat) : List QDesc :=
  (s.tm.queues.flatMap fun q => q.2.filter fun d => d.cell == cell) ++
  (s.tm.cutting.filter fun x => x.2.cell == cell).map fun x => x.2

/-- What the verdict of a frame's last byte counts at its ingress; `icv` says that a MACsec tag was checked. -/
def ingressVerdict (s : State) (d : QDesc) (ok icv : Bool) : State :=
  match d.ingress with
  | .uplink p =>
    if ok then (if icv then s.bump .macsecRxOk p 1 else s)
    else if icv then (s.bump .macsecRxBadTag p 1).count 0xC01 p 1
    else s.bump .uplinkDropFcs p 1
  | .passage q =>
    if d.psg.isEmpty then s
    else if ok then (if icv then s.bump .macsecRxOk (16 + q) 1 else s)
    else
      let s := if icv then (s.bump .macsecRxBadTag (16 + q) 1).count 0xC01 (16 + q) 1 else s.crcFail q
      s.seqUnmark (d.psg.getD 2 0) d.cls (d.psg.getD 4 0)
  | .flow _ => s

/-- CUT_THROUGH_ABORT: a frame in transmission whose verdict fails is ended with an inverted FCS or CRC. -/
def cutAbort (s : State) (port : Nat) (d : QDesc) : State :=
  let s := s.verdictDrop
  let inverse := (s.sentCheck port (if isPsg port ∧ ¬ d.psg.isEmpty then 131072 else 0) d).map fun c => Nat.xor c 0xFFFFFFFF
  if isPsg port then ((s.emit (.passage (port - 16) 16 [] [] inverse none)).bump .passageTxAborted (port - 16) 1).setBit (Reg.psgStatus (port - 16)) 19 true
  else ((s.emit (.ethernet port 3 [] [] inverse none)).bump .uplinkTxAborted port 1).setBit (Reg.uplStatus port) 11 true

/-! ### The rules of writes (R327, R339, R347, R348, R353) -/

/-- A port mask that is empty or holds exactly two ports. -/
def ringOk (m : Nat) : Bool := laneCount m == 0 || laneCount m == 2

/-- The checks of Passage writes at their boundary. -/
def psgCheck (s t : State) (o : Obj) (i : Nat) : Nat :=
  match o with
  | .passageDeviceId => if (List.range 4).all fun q => s.n .passageSnuffPhase q == 3 then Abort.ok else Abort.notDark
  | .passageRingPorts => if ringOk (t.n .passageRingPorts 0) then Abort.ok else Abort.range
  | .passageHopLimit | .passageLatencyBudget =>
    if t.n .passageLatencyBudget 0 < t.n .passageHopLimit 0 * 450 then Abort.range else Abort.ok
  | .passageRoute =>
    let m := t.n .passageRoute i
    if laneCount m ≤ 1 ∨ m = t.n .passageRingPorts 0 then Abort.ok else Abort.range
  | .passagePortEnable =>
    if ¬ t.on .passagePortEnable i then Abort.ok
    else if t.n .passageDeviceId 0 = 0xFFFF then Abort.range
    else if s.n .passageSnuffPhase i = 1 ∨ s.n .passageSnuffPhase i = 2 then Abort.inSnuff
    else if laneCount (t.n .passageLaneEnable i) < 3 then Abort.range
    else coresCheck s t
  | .passageLaneEnable =>
    let new_ := t.n .passageLaneEnable i
    let again (l : Nat) : Bool :=
      let ph := s.n .passageLaneSnuffPhase (4 * i + l)
      s.n .passageLaneEnable i / 2 ^ l % 2 == 0 && new_ / 2 ^ l % 2 == 1 && (ph == 1 || ph == 2)
    if t.on .passagePortEnable i ∧ laneCount new_ < 3 then Abort.range
    else if (List.range 4).any again then Abort.inSnuff
    else Abort.ok
  | _ => Abort.ok

/-- A port that leaves Dark: down until its lanes are in use. -/
def psgStart (s : State) (q : Nat) : State :=
  (s.setPsg q PsgSt.idle).put .passagePortState q 1

/-- A lane powered down. -/
def laneDown (s : State) (lane : Nat) : State :=
  let q := lane / 4
  let l := lane % 4
  let r := s.psg q
  let s := s.setPsg q { r with
    pll := putBits l l r.pll 0, lost := putBits l l r.lost 0, back := tabErase r.back l }
  (((s.put .passageLaneState lane 0).put .passageLaneSkew lane 0).rxOkPut lane false).txMap q

/-- A port that becomes Dark: its lanes stop transmitting. -/
def psgStop (s : State) (q : Nat) : State :=
  let s := (List.range 4).foldl (fun t l => t.laneDown (4 * q + l)) s
  let s := (s.setPsg q PsgSt.idle).put .passageNeighbour q 0xFFFF
  (s.put .passageTxLanes q 0).putPsg q 0

end State

open State

/-- R303, R366: the verdict of a stored frame whose last byte has been checked; `icv` says that a MACsec tag was checked. -/
def execVerdictWritten (cell : Nat) (ok icv : Bool) (s : State) : Host.Outcome State Fault Refusal :=
  match s.cellTag cell with
  | some g =>
    if g.first ∧ g.verdict = 0 then
      let s := match s.holders cell with
        | d :: _ => s.ingressVerdict d ok icv
        | [] => s
      let s := s.setCell cell (some { g with verdict := if ok then 1 else 2 })
      let mine := s.tm.cutting.filter fun x => x.2.cell == cell
      let s := s.setTm fun m => { m with cutting := m.cutting.filter fun x => x.2.cell != cell }
      .next (mine.foldl (fun t x => (if ok then t else t.cutAbort x.1 x.2).releaseFrame cell x.2.owner) s)
    else .next s
  | none => .next s

/-- R333, R335 to R340: a Passage frame, or words that are neither idle nor a frame start. -/
def execPassageFrameReceived (q : Psg) (pipe : Pipeline) (f : PsgFrame) (s : State) : Host.Outcome State Fault Refusal :=
  if ¬ s.psgReceives q then .next s
  else
    let s := (s.laneCounts q f).ingressStamp (16 + q)
    if 5 < f.type.val ∨ hckOf ((headerIn f).take 15) ≠ f.hck.val then .next (s.bump .passageHeaderErrors q 1)
    else
      let s := (s.bump .passageRxFrames q 1).count 0xB00 q 1
      if (s.psg q).mixed then
        let s := s.crcFail q
        .next (if f.type.val = 3 ∨ f.type.val = 4 then s else s.giveCredit q f.cls (s.creditCells q f.len))
      else if f.type.val = 3 ∨ f.type.val = 4 then .next s
      else .next ((s.psgFrame q pipe f).giveCredit q f.cls (s.creditCells q f.len))

/-- R227: a learn notice that has been taken: a request towards the sender. -/
def execLearnNoticeReceived (q : Psg) (src : Fin 4095) (domain : BridgeDomain) (mac : BitVec 48) (s : State) :
    Host.Outcome State Fault Refusal :=
  if s.psgReceives q ∧ s.on .domainEnable domain ∧ s.on .domainLearn domain then
    .next (s.learnQueue ⟨domain, mac.toNat, 2, src, 0xFFFF⟩)
  else .next s

/-- R342: the far end's cumulative counts. -/
def execCreditFrameReceived (q : Psg) (counts : Vector (Fin 65536) 8) (s : State) : Host.Outcome State Fault Refusal :=
  if s.psgLink q then
    .next (s.setPsg q { s.psg q with granted := counts.map Fin.val })
  else .next s

/-- R342: a credit frame is due by a move of 16 cells, 1 µs after a smaller move, or 100 µs after the last one. -/
def execCreditFrameSend (q : Psg) (s : State) : Host.Outcome State Fault Refusal :=
  let r := s.psg q
  let moved := (List.finRange 8).any fun c => 16 ≤ (r.given[c] + 65536 - r.told[c]) % 65536
  let later : Bool := match r.movedAt with | some t => decide (t + Tm.us ≤ s.now) | none => false
  if s.portSends (16 + q) ∧ (moved ∨ later ∨ r.toldAt + 100 * Tm.us ≤ s.now) then
    .next ((s.setPsg q { r with told := r.given, toldAt := s.now, movedAt := none }).emit
      (.passage q 4 r.given.toList (s.localHeader 4 16) none none))
  else .next s

/-- R341: a presence frame: the neighbour's device-ID, reachability, and a duplicate device-ID. -/
def execPresenceFrameReceived (q : Psg) (src : Fin 4095) (nonce : BitVec 32) (s : State) :
    Host.Outcome State Fault Refusal :=
  if ¬ s.psgReceives q then .next s
  else
    let s := (s.put .passageNeighbour q src).hear src q
    if src.val = s.n .passageDeviceId 0 ∧ nonce.toNat ≠ s.nonce ∧ ¬ s.on .passageIdConflict 0 then
      .next (((s.put .passageIdConflict 0 1).setBit Reg.psgGlobalStatus 0 true).raiseChange .passageIdConflict 0 0 1)
    else .next s

/-- R341: every 1 ms. -/
def execPresenceSend (s : State) : Host.Outcome State Fault Refusal :=
  if s.casc.presentAt + Tm.ms ≤ s.now ∧ ¬ s.boot.glim then .next s.presence else .next s

/-- R341: a device that has been silent on a port for PassageReachTimeout. -/
def execReachTimeout (q : Psg) (d : Fin 4095) (s : State) : Host.Outcome State Fault Refusal :=
  match tabFind s.casc.heard (4 * d.val + q.val) with
  | some t => if t + s.n .passageReachTimeout 0 * Tm.ms ≤ s.now then .next (s.unreach d q) else .next s
  | none => .next s

/-- R345: SYNC, DELAY_REQ and DELAY_RESP. -/
def execTimeMessageReceived (q : Psg) (msg : PsgTime) (s : State) : Host.Outcome State Fault Refusal :=
  if ¬ s.psgLink q ∨ ¬ s.avail then .next s
  else if msg.sub = 1 then (if s.serving q then .next (s.timeSend q 2 msg.seq msg.arrival) else .next s)
  else match s.psgDomain q with
    | some d => .next (if msg.sub = 0 then s.syncTaken q d msg else s.delayTaken q d msg)
    | none => .next s

/-- R345: a serving port sends SYNC 16 times per second, with its egress stamp. -/
def execTimeSyncSend (q : Psg) (stamp : Time) (s : State) : Host.Outcome State Fault Refusal :=
  let due : Bool := match tabFind s.casc.syncAt q with | some t => decide (t + 62500 * Tm.us ≤ s.now) | none => true
  if s.serving q ∧ ¬ s.boot.glim ∧ due then
    let n := s.casc.syncSeq
    let s := s.setCasc fun c => { c with
      syncAt := tabPlace (tabErase c.syncAt q.val) q.val s.now
      syncSeq := (n + 1) % 65536 }
    .next (s.timeSend q 0 n stamp)
  else .next s

/-- R329, R331: a hunting lane's candidate and the word 16,384 bits later. It is confirmed where both match, as received or
both inverted, with MFC one greater; otherwise the hunt goes on. -/
def execPassageLaneLocked (lane : Fin 16) (first second : BitVec 32) (s : State) : Host.Outcome State Fault Refusal :=
  let l := lane.val % 4
  let pair (a b : Nat) : Bool := markerOk l a && markerOk l b && markerMfc b == (markerMfc a + 1) % 64
  let plain := pair first.toNat second.toNat
  if s.n .passageLaneState lane = 1 ∧ (plain || pair (~~~first).toNat (~~~second).toNat) then
    .next ((s.put .passageLaneState lane 2).putReg (Reg.psgLaneStatus (lane.val / 4) l) (if plain then 0 else 4))
  else .next s

/-- R331, R334: four consecutive misses. -/
def execPassageLaneLockLoss (lane : Fin 16) (s : State) : Host.Outcome State Fault Refusal :=
  let v := s.n .passageLaneState lane
  if v = 2 ∨ v = 3 then
    let q := lane.val / 4
    let l := lane.val % 4
    let r := s.psg q
    let s := s.setPsg q { r with lost := putBits l l r.lost 1, back := tabErase r.back l }
    .next (((s.put .passageLaneState lane 1).laneLoss lane).lineAdd (48 + lane) 1 4)
  else .next s

/-- R332, R334: a locked lane is deskewed where its skew is at most 200 ns, and announced in RX_OK unless it had been
lost. -/
def execPassageLaneDeskewed (lane : Fin 16) (skew : Nat) (s : State) : Host.Outcome State Fault Refusal :=
  let v := s.n .passageLaneState lane
  let q := lane.val / 4
  let l := lane.val % 4
  if v ≠ 2 ∧ v ≠ 3 then .next s
  else if 200000 < skew then
    let r := s.psg q
    let s := if v = 3 then s.setPsg q { r with lost := putBits l l r.lost 1, back := tabErase r.back l } else s
    .next ((s.put .passageLaneState lane 2).laneLoss lane)
  else if v = 3 then .next (s.put .passageLaneSkew lane skew)
  else
    let s := (s.put .passageLaneState lane 3).put .passageLaneSkew lane skew
    let r := s.psg q
    if r.lost / 2 ^ l % 2 = 1 then .next (s.setPsg q { r with back := tabPlace (tabErase r.back l) l s.now })
    else .next (s.rxOkPut lane true)

/-- R334: 1 ms locked and deskewed after a loss. -/
def execPassageLaneReturn (lane : Fin 16) (s : State) : Host.Outcome State Fault Refusal :=
  let q := lane.val / 4
  let l := lane.val % 4
  let r := s.psg q
  match tabFind r.back l with
  | some t =>
    if s.n .passageLaneState lane = 3 ∧ t + Tm.ms ≤ s.now then
      .next ((s.setPsg q { r with lost := putBits l l r.lost 0, back := tabErase r.back l }).rxOkPut lane true)
    else .next s
  | none => .next s

/-- R333: TX_MAP and RX_OK as the cycle-opening markers of the locked lanes carry them; where they disagree, neither is
taken and the frames of the cycle are discarded. -/
def execTxMapChange (q : Psg) (markers : Vector (Option (BitVec 32)) 4) (s : State) : Host.Outcome State Fault Refusal :=
  let seen := (List.finRange 4).filterMap fun l =>
    match markers[l] with
    | some w => if 2 ≤ s.n .passageLaneState (4 * q + l) ∧ markerOk l w.toNat ∧ markerMfc w.toNat % 8 = 0 then
        some (markerMap w.toNat, markerRxOk w.toNat) else none
    | none => none
  match seen with
  | [] => .next s
  | m :: rest =>
    if rest.all (· == m) then
      .next ((s.setPsg q { s.psg q with farMap := m.1, farOk := m.2, mixed := false }).txMap q)
    else .next (s.setPsg q { s.psg q with mixed := true })

/-- R333, R341, R342: the port comes up, or changes between full and three-quarter rate. -/
def execPassagePortUp (q : Psg) (s : State) : Host.Outcome State Fault Refusal :=
  match s.lanesInUse q with
  | some k =>
    let v := if k = 4 then 2 else 3
    let old := s.n .passagePortState q
    if old = v ∨ old = 0 ∨ s.boot.glim ∨ (old = 1 ∧ s.n .passageSnuffPhase q ≠ 0) then .next s
    else if old = 1 then
      let c := s.n .passageCreditCells 0
      let s := s.setPsg q { s.psg q with
        granted := .replicate 8 0, sent := .replicate 8 0, given := .replicate 8 c, withheld := .replicate 8 0
        told := .replicate 8 0, toldAt := s.now, movedAt := some s.now }
      .next (s.putPsg q v).presence
    else .next (s.putPsg q v)
  | none => .next s

/-- R333: the conditions of an up port have failed. -/
def execPassagePortDown (q : Psg) (s : State) : Host.Outcome State Fault Refusal :=
  let v := s.n .passagePortState q
  if (v = 2 ∨ v = 3) ∧ (s.lanesInUse q).isNone then .next (s.putPsg q 1) else .next s

end Sys2Proof.Machine
end

