-- ==== Sys2Proof/Machine/Snuff.lean ====
section
/-!
DEFINITION. Snuff (R133, R174, R286, R287, R321, R348, R360, R484 to R490): Closing, Draining, purges, the drain limit
and Dark of every resource and of what it contains, and the return from Dark.
-/

namespace Sys2Proof.Machine

namespace State

/-! ### Resources and containers (R486, R489) -/

/-- The phase of a resource. -/
def phase (s : State) (k : ResKind) (i : Nat) : Nat := s.n (phaseObj k) i

/-- Whether a resource's own enable object enables it. -/
def enableOn (s : State) (k : ResKind) (i : Nat) : Bool :=
  match k with
  | .channel => !s.on .channelSnuff i
  | .terminal => s.on .terminalEnable i
  | .alloc => s.on .allocEnable i
  | .flow => s.on .flowEnable i
  | .queue => s.on .queueEnable i
  | .sa => s.on .saEnable i
  | .uplink => s.on .uplinkEnable i
  | .psgPort => s.on .passagePortEnable i
  | .psgLane => s.n .passageLaneEnable (i / 4) / 2 ^ (i % 4) % 2 == 1

/-- Whether a resource's own mode purges. -/
def purges (s : State) (k : ResKind) (i : Nat) : Bool :=
  match k with
  | .channel => s.on .channelSnuffMode i
  | .terminal => s.on .terminalSnuffMode i
  | .flow => s.on .flowSnuffMode i
  | .queue => s.on .queueSnuffMode i
  | .uplink => s.on .uplinkSnuffMode i
  | .psgPort => s.on .passageSnuffMode i
  | _ => false

/-- Terminals that live on one channel alone. -/
def lonely (s : State) (ch : Nat) : List Nat := (s.terminalsOn ch).filter fun t => !s.bonded t

/-- Terminals of a bonded pair that are not Idle on a channel. -/
def pairedOn (s : State) (ch : Nat) : List Nat := (s.terminalsOn ch).filter fun t => s.bonded t && s.stateOn t ch != 0

/-- What a resource contains, one level down. -/
def contents (s : State) (k : ResKind) (i : Nat) : List (ResKind × Nat) :=
  match k with
  | .channel => (s.lonely i).map fun t => (.terminal, t)
  | .terminal => (s.flowsOf i).map (fun f => (.flow, f)) ++ (s.allocsOf i).map (fun a => (.alloc, a)) ++
      (s.queuesOf i).map fun q => (.queue, q)
  | .psgPort => (List.range 4).map fun l => (.psgLane, 4 * i + l)
  | _ => []

/-- Whether the container of a resource, where it has one, is in service. -/
def containerUp (s : State) (k : ResKind) (i : Nat) : Bool :=
  let term (t : Nat) : Bool := t == 0xFFFF || s.phase .terminal t == 0
  match k with
  | .terminal => (s.chansOf i).isEmpty || (s.chansOf i).any fun ch => s.phase .channel ch == 0
  | .alloc => term (s.n .allocTerminal i)
  | .flow => term (s.n .flowTerminal i)
  | .queue => term (s.n .queueTerminal i)
  | .psgLane => s.phase .psgPort (i / 4) == 0
  | _ => true

/-- A resource's Snuff record replaced. -/
def setSnuff (s : State) (k : ResKind) (i : Nat) (r : SnuffRec) : State :=
  { s with snuffs := tabPlace (tabErase s.snuffs (snuffKey k i)) (snuffKey k i) r }

/-! ### Purges (R286, R485) -/

/-- A queue emptied: its frames released, and counted in SnuffPurged where the drain limit purges them. -/
def purgeQueue (s : State) (counted : Bool) (key : Nat) : State :=
  s.purgeTx key fun u => if counted then u.bump .snuffPurged 0 1 else u

/-- The keys of the queues that a resource holds. -/
def queueKeys (s : State) (k : ResKind) (i : Nat) : List Nat :=
  match k with
  | .queue => [i]
  | .uplink => (List.range 8).map fun c => txKey (8 * i + c)
  | .psgPort => (List.range 8).flatMap fun c => [transitKey i c, txKey (8 * (16 + i) + c)]
  | .terminal => s.queuesOf i
  | _ => []

/-- A flow's frames taken out of its terminal's queues, and its fragments that wait dropped. -/
def purgeFlow (s : State) (counted : Bool) (f : Nat) : State :=
  let t := s.n .flowTerminal f
  let s := (s.queuesOf t).foldl (fun u q =>
    let gone := (u.queue q).filter fun d => d.flow == f
    gone.foldl (fun v d => (if counted then v.bump .snuffPurged 0 1 else v).releaseFrame d.cell d.owner)
      (u.setQueue q ((u.queue q).filter fun d => d.flow != f))) s
  (s.chansOf t).foldl (fun u ch => u.setBondWait ch ((u.bondWait ch).filter fun x => x.flow != f)) s

/-- What a resource still holds, discarded. -/
def purgeRes (s : State) (counted : Bool) (k : ResKind) (i : Nat) : State :=
  match k with
  | .flow => s.purgeFlow counted i
  | .terminal => ((s.queueKeys k i).foldl (fun u q => u.purgeQueue counted q) s).setOmci i []
  | k => (s.queueKeys k i).foldl (fun u q => u.purgeQueue counted q) s

/-! ### Closing (R485, R487 to R489) -/

/-- What Closing does beyond the phase. -/
def closingActs (s : State) (k : ResKind) (i : Nat) (purge : Bool) : State :=
  match k with
  | .channel => s.discardHost i none
  | .terminal =>
    let s := (s.chansOf i).foldl (fun u ch => u.discardHost ch (some i)) s
    if purge then s else s.wake i
  | .alloc => if s.allocChan i = 255 then s else s.dropOrders (s.allocChan i) 10 fun o => o.alloc == i
  | .psgLane => if s.enableOn .psgLane i then s else (s.txMap (i / 4)).rxOkPut i false
  | _ => s

/-- One resource enters Closing; one already in Snuff goes on, but a container's purge overrides its drain. -/
def closeOne (s : State) (k : ResKind) (i : Nat) (purge byContainer : Bool) : State :=
  match s.snuffOf k i with
  | some r =>
    if byContainer ∧ purge ∧ ¬ r.purge then
      let s := s.setSnuff k i { r with purge := true }
      if r.draining.isSome then s.purgeRes false k i else s
    else s
  | none =>
    if s.phase k i ≠ 0 then s
    else
      ((s.put (phaseObj k) i 1).setSnuff k i ⟨s.now, none, purge, byContainer, false, false⟩).closingActs k i purge

/-- SNUFF_CLOSING: a resource and everything it contains enter Closing. -/
def close (s : State) (k : ResKind) (i : Nat) (purge byContainer : Bool) : State :=
  let s := s.closeOne k i purge byContainer
  if (s.snuffOf k i).isNone then s
  else
    let inner := s.contents k i
    let s := inner.foldl (fun u x => u.closeOne x.1 x.2 purge true) s
    inner.foldl (fun u x => (u.contents x.1 x.2).foldl (fun v y => v.closeOne y.1 y.2 purge true) u) s

/-- A disabling write has taken effect. -/
def snuffStart (s : State) (k : ResKind) (i : Nat) : State := s.close k i (s.purges k i) false

/-! ### Draining -/

/-- Resources whose Draining begins at a Frame boundary. -/
def frameKind : ResKind → Bool
  | .channel | .terminal | .alloc | .flow => true
  | _ => false

/-- One resource enters Draining. -/
def drainOne (s : State) (k : ResKind) (i : Nat) : State :=
  match s.snuffOf k i with
  | some r =>
    if r.draining.isSome then s
    else
      let s := (s.put (phaseObj k) i 2).setSnuff k i { r with draining := some s.now }
      if r.purge then s.purgeRes false k i else s
  | none => s

/-- A resource and what it contains enter Draining. -/
def drain (s : State) (k : ResKind) (i : Nat) : State :=
  let inner := s.contents k i
  let s := inner.foldl (fun u x => u.drainOne x.1 x.2) (s.drainOne k i)
  inner.foldl (fun u x => (u.contents x.1 x.2).foldl (fun v y => v.drainOne y.1 y.2) u) s

/-! ### Dark -/

/-- Upstream work is received until 875 µs after Closing (R485). -/
def upstreamOver (s : State) (r : SnuffRec) : Bool := decide (r.closing + 875 * Tm.us ≤ s.now)

/-- Whether a resource still has frames that wait. -/
def holdsFrames (s : State) (k : ResKind) (i : Nat) : Bool :=
  match k with
  | .flow =>
    let t := s.n .flowTerminal i
    (s.queuesOf t).any (fun q => (s.queue q).any fun d => d.flow == i) ||
    (s.chansOf t).any fun ch => (s.bondWait ch).any fun x => x.flow == i
  | .terminal => !(s.omci i).isEmpty
  | k => (s.queueKeys k i).any fun q => !(s.queue q).isEmpty

/-- Whether everything that a resource contains is Dark. -/
def insideDark (s : State) (k : ResKind) (i : Nat) : Bool :=
  k == .psgPort || (s.contents k i).all fun x => s.phase x.1 x.2 == 3

/-- Whether a terminal's last messages are all sent on a channel. -/
def farewellOver (s : State) (t ch : Nat) : Bool :=
  (s.framer ch).running.all (fun p => p.term != t || p.kind != .deactivate && p.kind != .disableSerial) &&
  (s.framer ch).act.all fun p => p.term != t || p.kind != .deactivate && p.kind != .disableSerial

/-- A terminal's last messages queued on a channel that sends frames: Deactivate_ONU-ID, and Disable_Serial_Number where
TerminalDisableSnOnDark asks for it. -/
def farewell (s : State) (t ch : Nat) : State :=
  if s.sending ch ∧ s.stateOn t ch ≠ 0 then
    let s := s.deactivate t ch
    if s.on .terminalDisableSnOnDark t then s.disableSerial ch t (s.oct .terminalSerial t) true else s
  else s

/-- At a Frame boundary, the last messages of terminals and of bonded terminals on closing channels: queued once their
work has ended, and noted once they have all been sent (R133, R487). -/
def snuffFrame (s : State) : State :=
  let ts := s.snuffs.filterMap fun p => if p.1 / 1048576 = 1 then some (p.1 % 1048576) else none
  let s := ts.foldl (fun u t => match u.snuffOf .terminal t with
    | some r =>
      if r.draining.isNone ∨ r.sent then u
      else if r.told then
        (if (u.chansOf t).all fun ch => u.farewellOver t ch then u.setSnuff .terminal t { r with sent := true } else u)
      else if u.upstreamOver r ∧ ¬ u.holdsFrames .terminal t ∧ u.insideDark .terminal t then
        let v := (u.chansOf t).foldl (fun v ch => v.farewell t ch) u
        v.setSnuff .terminal t { r with told := true, sent := (u.chansOf t).all fun ch => v.farewellOver t ch }
      else u
    | none => u) s
  (List.range 32).foldl (fun u ch => match u.snuffOf .channel ch with
    | some r =>
      if r.draining.isNone ∨ r.sent then u
      else
        let ts := u.pairedOn ch
        if r.told then
          (if ts.all fun t => u.farewellOver t ch then u.setSnuff .channel ch { r with sent := true } else u)
        else if u.upstreamOver r then
          let v := ts.foldl (fun v t => if v.sending ch then v.deactivate t ch else v) u
          v.setSnuff .channel ch { r with told := true, sent := ts.all fun t => v.farewellOver t ch }
        else u
    | none => u) s

/-- Whether an allocation's deallocation can be sent: it has no Alloc-ID, or Lantern is there (R490). -/
def allocFree (s : State) (a : Nat) : Bool := s.n .allocIdAssigned a == 0xFFFF || s.avail

/-- Whether a resource in Draining may become Dark now. -/
def mayDarken (s : State) (k : ResKind) (i : Nat) (r : SnuffRec) : Bool :=
  let boundary := decide (s.wick % Tm.frame = 0)
  match k with
  | .channel => boundary && s.upstreamOver r && r.sent && s.insideDark k i
  | .terminal => boundary && r.sent && s.insideDark k i
  | .alloc => boundary && s.upstreamOver r && s.allocFree i
  | .flow => s.upstreamOver r && !s.holdsFrames k i
  | .psgLane => s.phase .psgPort (i / 4) == 0 &&
      (match r.draining with | some t => decide (t + 2330 * Tm.ns ≤ s.now) | none => false)
  | k => !s.holdsFrames k i

/-- A hunt's step is done where the terminal that it silences becomes Dark (R132). -/
def huntSnuffed (s : State) (ch : Nat) (serial : List Byte) : State :=
  match (s.act ch).hunt with
  | some h => if h.cur = serial then s.setAct ch { s.act ch with hunt := some { h with snuffed := true } } else s
  | none => s

/-- What Dark releases. -/
def darkActs (s : State) (k : ResKind) (i : Nat) : State :=
  match k with
  | .channel =>
    let s := (s.pairedOn i).foldl (fun u t => u.goIdle t i) s
    let s := (s.laneOff i).discardAllPloam i
    (s.slotErase true (2 * i)).slotErase true (2 * i + 1)
  | .terminal =>
    let s := (s.chansOf i).foldl (fun u ch => u.huntSnuffed ch (u.oct .terminalSerial i)) s
    let s := (s.chansOf i).foldl (fun u ch => if u.stateOn i ch = 0 then u else u.goIdle i ch) s
    (s.keysDiscard i).autoFlush 0 i none
  | .alloc =>
    let id := s.n .allocIdAssigned i
    let t := s.n .allocTerminal i
    let ch := s.allocChan i
    let s := if id ≠ 0xFFFF ∧ ch ≠ 255 ∧ s.sending ch then
        s.ploamLan ch .assignAllocId t (s.n .terminalOnuIdAssigned t) [id, i, 0]
      else s
    (s.setDem i DemandSt.idle).put .allocIdAssigned i 0xFFFF
  | .flow =>
    let s := (s.bondReset i).setTm fun m => { m with bondSeq := tabErase m.bondSeq i }
    s.autoFlush 0 (s.n .flowTerminal i) (some i)
  | .queue => s.setBit Reg.tmStatus 5 true
  | .sa => s.saErase i
  | .uplink =>
    let s := (s.saErasePort i).setUpl i UplinkSt.idle
    (s.putLink i 0).autoFlush 1 i none
  | .psgPort => (s.saErasePort (16 + i)).psgStop i
  | .psgLane => s.laneDown i

/-- A resource becomes Dark: released, its counters frozen, with the completion event. -/
def darken (s : State) (k : ResKind) (i : Nat) : State :=
  let s := (s.darkActs k i).put (phaseObj k) i 3
  let s := { s with snuffs := tabErase s.snuffs (snuffKey k i) }
  s.raiseDone (phaseObj k) i

/-- A resource that is not Dark becomes Dark at once, with what it holds discarded. -/
def darkNow (s : State) (k : ResKind) (i : Nat) : State :=
  if s.phase k i = 3 then s else (s.purgeRes false k i).darken k i

/-- A channel that is no longer available becomes Dark at once with everything it contains (R19, log entry 122). -/
def darkAll (s : State) (ch : Nat) : State :=
  let inner := s.contents .channel ch
  let s := inner.foldl (fun u x => (u.contents x.1 x.2).foldl (fun v y => v.darkNow y.1 y.2) u) s
  (inner.foldl (fun u x => u.darkNow x.1 x.2) s).darkNow .channel ch

/-! ### The return from Dark (R485, R489) -/

/-- A Dark resource that is enabled and whose container is in service leaves Dark; its counters restart from zero, but on a
return from Glim, which keeps them (R479). -/
def leaveDark (s : State) (k : ResKind) (i : Nat) : State :=
  if s.boot.configured ∧ s.phase k i = 3 ∧ s.enableOn k i ∧ s.containerUp k i then
    let s := (if s.boot.returning.isSome then s else s.zeroCounters k i).put (phaseObj k) i 0
    match k with
    | .psgPort => s.psgStart i
    | .uplink => s.putLink i (if s.n .uplinkLoop i = 1 then 3 else 1)
    | .sa => s.saUpdate i
    | _ => s
  else s

/-- At a Frame boundary, terminals and what they contain leave Dark with their containers. -/
def leaveAll (s : State) : State :=
  let s := (s.withNum .terminalEnable 1).foldl (fun u t => u.leaveDark .terminal t) s
  let s := (s.withNum .flowEnable 1).foldl (fun u f => u.leaveDark .flow f) s
  let s := (s.withNum .allocEnable 1).foldl (fun u a => u.leaveDark .alloc a) s
  (s.withNum .queueEnable 1).foldl (fun u q => u.leaveDark .queue q) s

/-! ### The rules of writes (R485, R487, R488) -/

/-- The checks of writes that start or end a Snuff, or rebind a flow. -/
def snuffCheck (s t : State) (o : Obj) (i : Nat) : Nat :=
  let busy (k : ResKind) : Bool := s.phase k i == 1 || s.phase k i == 2
  match o with
  | .channelSnuff => if ¬ t.on .channelSnuff i ∧ busy .channel then Abort.inSnuff else Abort.ok
  | .flowEnable => if t.on .flowEnable i ∧ busy .flow then Abort.inSnuff else Abort.ok
  | .flowTerminal | .flowPortId | .flowPortIdB | .flowBondMode =>
    if s.phase .flow i ≠ 3 then Abort.notDark else if t.portsOk i then Abort.ok else Abort.range
  | _ => Abort.ok

/-- The Snuff that a write starts, or the return from Dark. -/
def enableApply (s : State) (k : ResKind) (i : Nat) : State :=
  if s.enableOn k i then s.leaveDark k i else s.snuffStart k i

/-- What writes of enables do. -/
def snuffApply (s : State) (o : Obj) (i : Nat) : State :=
  match o with
  | .channelSnuff => if s.on .channelSnuff i then s.snuffStart .channel i else s
  | .terminalEnable => s.enableApply .terminal i
  | .allocEnable => s.enableApply .alloc i
  | .flowEnable => s.enableApply .flow i
  | .queueEnable => s.enableApply .queue i
  | .saEnable => s.enableApply .sa i
  | .uplinkEnable => s.enableApply .uplink i
  | .passagePortEnable => s.enableApply .psgPort i
  | .passageLaneEnable =>
    (List.range 4).foldl (fun u l =>
      if u.enableOn .psgLane (4 * i + l) then u else u.snuffStart .psgLane (4 * i + l)) s
  | _ => s

end State

open State

/-- R485: a Closing resource enters Draining, at a Frame boundary after its Closing where it is of the Frame class or in a
container of that class, else at once. -/
def execSnuffDraining (k : ResKind) (i : Nat) (s : State) : Host.Outcome State Fault Refusal :=
  match s.snuffOf k i with
  | some r =>
    let byFrame := frameKind k || (k == .queue && r.byContainer)
    if r.draining.isNone ∧ (¬ byFrame ∨ (s.wick % Tm.frame = 0 ∧ r.closing < s.now)) then .next (s.drain k i)
    else .next s
  | none => .next s

/-- R485: after 100 ms of draining, what remains is purged and counted. -/
def execSnuffDrainLimit (k : ResKind) (i : Nat) (s : State) : Host.Outcome State Fault Refusal :=
  match s.snuffOf k i with
  | some r =>
    match r.draining with
    | some d =>
      if d + 100 * Tm.ms ≤ s.now ∧ s.holdsFrames k i then
        .next ((s.purgeRes true k i).setBit Reg.tmStatus 6 true)
      else .next s
    | none => .next s
  | none => .next s

/-- R485: a resource in Draining whose work has ended becomes Dark. -/
def execSnuffDark (k : ResKind) (i : Nat) (s : State) : Host.Outcome State Fault Refusal :=
  match s.snuffOf k i with
  | some r => if r.draining.isSome ∧ s.mayDarken k i r then .next (s.darken k i) else .next s
  | none => .next s

end Sys2Proof.Machine
end

