-- ==== Sys2Proof/Machine/Headless.lean ====
section
/-!
DEFINITION. The Lantern link (R436 to R440), headless running (R396 to R398), what Lantern loses when it stops, and
reattachment (R399).
-/

namespace Sys2Proof.Machine

namespace State

/-- The link's record replaced. -/
def setUcie (s : State) (f : UcieSt → UcieSt) : State := { s with ucie := f s.ucie }

/-- The start-up record replaced. -/
def setBoot (s : State) (f : BootSt → BootSt) : State := { s with boot := f s.boot }

/-- Lantern's record replaced. -/
def setLan (s : State) (f : LanternSt → LanternSt) : State := { s with lan := f s.lan }

/-- The link carries traffic: active at x16 or x8 (R440). -/
def linkActive (s : State) : Bool := s.n .ucieLinkState 0 == 2 || s.n .ucieLinkState 0 == 3

/-! ### Headless running -/

/-- The die's queued events passed to the masters in the order in which they arose. -/
def flushHead (s : State) : State :=
  let es := s.ucie.headEvents
  es.foldl (fun u e => u.queueAll e) (s.setUcie fun u => { u with headEvents := [] })

/-- Headless running begins while the die is out of reset: the open set is discarded (R397), Lantern's PLOAM messages that
have not started are discarded, and the cause is shown (R396, R398). `kept` says that Lantern keeps running. -/
def goHeadless (s : State) (kept : Bool) : State :=
  if s.boot.dieReset then s
  else if s.ucie.headless then (if kept then s else s.setUcie fun u => { u with kept := false })
  else
    let s := s.setUcie fun u => { u with headless := true, since := s.now, kept := kept, lostEvents := 0 }
    let s := { s with stage := { s.stage with openSet := none } }
    ((List.range 32).foldl (fun u ch => u.discardLantern ch) s).setCause 0

/-- Terminals whose activation Lantern can no longer serve return to Idle at the next Frame boundary (R398). -/
def headlessAborts (s : State) : State :=
  if s.ucie.headless ∧ ¬ s.boot.glim then
    let one (u : State) (t k : Nat) : State :=
      if 1 ≤ u.tstate t k ∧ u.tstate t k ≤ 3 then u.activationFails t (u.chanOf t k) else u
    (s.terms.map fun p => p.1).foldl (fun u t => one (one u t 0) t 1) s
  else s

/-! ### The link (R437 to R440) -/

/-- The link is lost: latched and counted, and the head-end die runs headless. Training is tried every 100 ms. -/
def linkLost (s : State) : State :=
  if s.n .ucieLinkState 0 = 5 then s else
  let s := (((s.put .ucieLinkState 0 5).setBit Reg.integStatus 1 true).setBit Reg.ucieStatus 10 true).bump
    .ucieLinkLosses 0 1
  (s.setUcie fun u => { u with
    trainStart := s.now, lostAt := s.now, attempts := 0, failWindow := [], upBytes := 0, widening := false }).goHeadless
    (s.boot.lanternUp && !s.boot.recovery)

/-- A retrain starts; one that runs already takes over a widening (R438, R442). -/
def retrain (s : State) (widen : Bool) : State :=
  if s.n .ucieLinkState 0 = 4 then s.setUcie fun u => { u with widening := u.widening || widen }
  else if s.linkActive then
    ((s.put .ucieLinkState 0 4).bump .ucieRetrains 0 1).setUcie fun u =>
      { u with trainStart := s.now, attempts := 0, failWindow := [], widening := widen }
  else s

/-- Whether the half of the lanes passed: 0 for lanes 0 to 7, 1 for lanes 8 to 15. -/
def halfOk (failed : BitVec 16) (k : Nat) : Bool := failed.toNat / 256 ^ k % 256 == 0

/-- The width at which lanes have passed: 16, or 8 on a half; a link at x8 stays there unless it is being widened. -/
def trainedWidth (s : State) (failed : BitVec 16) (mayWiden : Bool) : Option (Nat × Nat) :=
  if failed = 0 ∧ (mayWiden ∨ s.n .ucieWidth 0 = 16) then some (16, 0)
  else
    let held := s.reg Reg.ucieStatus / 16 % 2
    if s.n .ucieWidth 0 = 8 ∧ ¬ mayWiden ∧ halfOk failed held then some (8, held)
    else if halfOk failed 0 then some (8, 0)
    else if halfOk failed 1 then some (8, 1)
    else none

/-- Lane tests pass: the link is active at a width. An entry to x8 is counted and reported, and after a loss UCIE_DOWN_TIME
takes its duration. -/
def linkUp (s : State) (w half : Nat) : State :=
  let old := s.n .ucieLinkState 0
  let from16 : Bool := s.n .ucieWidth 0 == 16
  let s := ((s.put .ucieWidth 0 w).put .ucieLinkState 0 (if w = 16 then 2 else 3)).setBit Reg.ucieStatus 4 (half = 1)
  let s := s.setUcie fun u => { u with widening := false, upBytes := 0, attempts := 0, failWindow := [] }
  let s := if old = 1 ∧ s.ucie.headless then
      s.putReg Reg.ucieDownTime (min 4294967295 ((s.now - s.ucie.lostAt) / Tm.ms))
    else s
  if w = 8 ∧ from16 then
    ((s.bump .ucieDegrades 0 1).setBit Reg.ucieStatus 8 true).raiseChange .ucieLinkState 0 old 3
  else s

/-- UCIE_WIDEN. -/
def widenEff : Eff := fun s _ _ bs => if beNat bs = 1 then (s.retrain true, Abort.ok) else (s, Abort.ok)

/-! ### Lantern stops (R399, R406, R413, R416) -/

/-- A master's record as a start of Lantern finds it: the series resume at their stored marks, and event sequences start
again at 1. -/
def masterFresh (s : State) (m : Nat) : MasterSt :=
  ⟨s.nvm.reqMarks.getD m 0 - 1, s.nvm.outMarks.getD m 0 - 1, none, s.now, none, 1, false, [], 0, 0⟩

/-- Objects that Lantern holds in its own memory. -/
def lanternObj (o : Obj) : Bool :=
  o.info.acc == .ro && ([.sconceRequests, .sconceAuthFailures, .sconceReplays, .sconceMalformed, .sconceEventsLost,
    .sconceSuperseded, .imageStatus, .imageReceived, .channelPloamRelayResult, .cageI2cResult, .discoveredSerial,
    .discoveredChannel, .discoveredTime, .discoveredReason, .discoveredCount, .galleryResult, .attestStatus,
    .attestReport] : List Obj).contains o

/-- The objects that a test names return to their defaults. -/
def dropObjs (s : State) (p : Obj → Bool) : State :=
  { s with objs := s.objs.filter fun e => match Obj.find (e.1 / 16777216) with
      | some o => !p o
      | none => false }

/-- Lantern stops: what its memory held is gone. -/
def lanternStop (s : State) : State :=
  let s := s.dropObjs lanternObj
  let s := s.setLan fun l =>
    { masters := #v[s.masterFresh 0, s.masterFresh 1, s.masterFresh 2]
      msgs := [], nextMsg := l.nextMsg, writes := [], claims := [], snaps := [], uploads := .replicate 2 ⟨none, []⟩
      commission := l.commission, commissionOutcome := l.commissionOutcome, attest := [], reports := .replicate 3 []
      sigNext := s.nvm.sigLimit, written := l.written, lockRecord := none, rogueExtra := [], asymHost := l.asymHost, signedAt := l.signedAt }
  let s := s.setLife fun l => { l with saving := none, queued := false }
  s.setBoot fun b => { b with lanternUp := false, recovery := false }

/-- Lantern alone is reset with the head-end die kept running: the link is lost while it is held in reset (R440). -/
def lanternReset (s : State) (cause : Nat) : State :=
  let s := s.lanternStop
  let s := s.setBoot fun b => { b with cause := cause }
  if s.boot.dieReset then s else s.linkLost.goHeadless false

/-! ### Reattachment -/

/-- Exchanges that the discard of R398 cut short start afresh: key exchanges and Alloc-ID assignments. -/
def restartExchanges (s : State) : State :=
  let cut := s.ciph.exch.filter fun p => p.2.running
  let s := cut.foldl (fun u p => u.setExch p.1 { p.2 with running := false, wanted := true }) s
  (s.withNum .allocEnable 1).foldl (fun u a =>
    let ch := u.allocChan a
    let t := u.n .allocTerminal a
    if u.n .allocIdAssigned a ≠ 0xFFFF ∧ ¬ (u.dem a).ready ∧ ch ≠ 255 ∧ u.inService t ch then
      u.ploamLan ch .assignAllocId t (u.n .terminalOnuIdAssigned t) [u.n .allocIdAssigned a, a, 1]
    else u) s

/-- The start event of kind 0x0B: slot, rollback version and commissioning outcome (R417). -/
def startEvent (s : State) : State :=
  s.raiseL 11 .startCause 0 (beBytes 1 s.boot.slot ++ beBytes 4 (s.n .firmwareVersion 0) ++
    beBytes 1 s.lan.commissionOutcome)

/-- REATTACHMENT: HEADLESS cleared, the start event where Lantern restarted, the queued events, and the reattach event
with the duration and the events lost. -/
def reattach (s : State) : State :=
  let ms := (s.now - s.ucie.since) / Tm.ms
  let lost := s.ucie.lostEvents
  let s := (s.setUcie fun u => { u with headless := false, lostEvents := 0 }).putCause 0 false
  let s := (s.bump .headlessEpisodes 0 1).put .headlessLastDuration 0 (min 4294967295 ms)
  let s := if s.boot.startDue then (s.setBoot fun b => { b with startDue := false }).startEvent else s
  let s := s.flushHead
  let s := if lost = 0 then s else s.setLan fun l =>
    { l with masters := l.masters.map fun r => { r with lostPending := true } }
  ((s.raiseL 10 .headlessEpisodes 0 (beBytes 4 ms ++ beBytes 4 lost)).restartExchanges.domReturn 0).domReturn 1

end State

open State

/-- R437: a flit fails its CRC; `again` says that it is the flit that failed before. -/
def execFlitCrcFailure (again : Bool) (s : State) : Host.Outcome State Fault Refusal :=
  if ¬ s.linkActive then .next s
  else
    let t := (s.bump .ucieCrcErrors 0 1).bump .ucieRetries 0 1
    let window := s.now :: s.ucie.failWindow.filter fun x => decide (s.now < x + Tm.ms)
    let tries := if again then s.ucie.attempts + 1 else 1
    let t := t.setUcie fun u => { u with attempts := tries, failWindow := window }
    if s.reg Reg.ucieCtrl / 16 % 16 ≤ tries ∨ 16 < window.length then .next (t.retrain false) else .next t

/-- R442: UCIE_CTRL.RETRAIN. -/
def execUcieRetrain (s : State) : Host.Outcome State Fault Refusal := .next (s.retrain false)

/-- R438: a host write of UcieWiden. -/
def execUcieWiden (m : Master) (value : Nat) (s : State) : Host.Outcome State Fault Refusal :=
  .next (s.hostWrite m .ucieWiden 0 (beBytes 1 value) widenEff)

/-- R438, R439: the retrain ends within its 10 ms; what waited goes on. With neither half good the link is lost. -/
def execRetrainComplete (failed : BitVec 16) (s : State) : Host.Outcome State Fault Refusal :=
  if s.n .ucieLinkState 0 ≠ 4 then .next s
  else
    let t := s.putReg Reg.ucieLaneFail failed.toNat
    match t.trainedWidth failed t.ucie.widening with
    | some (w, half) =>
      let t := (t.linkUp w half).setBit Reg.ucieStatus 9 true
      .next (if t.ucie.headless then t else t.flushHead)
    | none => .next t.linkLost

/-- R440: a retrain that has not completed within 10 ms. -/
def execUcieLinkLost (s : State) : Host.Outcome State Fault Refusal :=
  if s.n .ucieLinkState 0 = 4 ∧ s.ucie.trainStart + 10 * Tm.ms ≤ s.now then .next s.linkLost else .next s

/-- R440: the adapter attempts training every 100 ms while the link is lost and Lantern is out of reset. -/
def execUcieTrainingRetry (s : State) : Host.Outcome State Fault Refusal :=
  if s.n .ucieLinkState 0 = 5 ∧ s.ucie.trainStart + 100 * Tm.ms ≤ s.now ∧ s.boot.rails[2] = .inWindow ∧
      ¬ s.boot.resetLow then
    .next ((s.put .ucieLinkState 0 1).setUcie fun u => { u with trainStart := s.now })
  else .next s

/-- R399: Lantern, running again or still, reattaches over the active link. -/
def execReattachment (s : State) : Host.Outcome State Fault Refusal :=
  if s.ucie.headless ∧ s.boot.lanternUp ∧ ¬ s.boot.recovery ∧ s.linkActive then .next s.reattach else .next s

end Sys2Proof.Machine
end

