-- ==== Sys2Proof/Machine/Power.lean ====
section
/-!
DEFINITION. The power states Run, Trim and Glim (R477 to R482), the wake detectors (R323, R480), and block clocks (R483).
-/

namespace Sys2Proof.Machine

namespace State

/-! ### Wake sources -/

/-- A wake port (R323). -/
def wakePort (s : State) (p : Nat) : Bool := s.on .uplinkEnable p && s.n .uplinkWakeMode p != 0

/-- Some wake source exists (R477). -/
def wakeSource (s : State) : Bool := s.n .glimWakeAt 0 != 0 || (List.range 16).any s.wakePort

/-- The check of a write of DevicePowerState (R477). -/
def powerCheck (s t : State) (o : Obj) : Nat :=
  match o with
  | .devicePowerState =>
    if s.boot.glimEntry.isSome then Abort.inSnuff
    else if t.n .devicePowerState 0 = 2 ∧ ¬ t.wakeSource then Abort.range
    else Abort.ok
  | _ => Abort.ok

/-! ### Entry to Trim and to Glim -/

/-- Everything that Glim entry takes out of service: channels, Passage ports, SAs and uplink ports but wake ports. -/
def glimResources (s : State) : List (ResKind × Nat) :=
  ((List.range 32).map fun ch => (ResKind.channel, ch)) ++ ((List.range 4).map fun q => (ResKind.psgPort, q)) ++
  ((s.withNum .saEnable 1).map fun a => (ResKind.sa, a)) ++
  (((List.range 16).filter fun p => !s.wakePort p).map fun p => (ResKind.uplink, p))

/-- Glim entry begins at the Frame boundary F (R479). -/
def glimEnter (s : State) : State :=
  let s := (s.setBoot fun b => { b with glimEntry := some s.now, matched := none }).put .devicePowerStateActual 0 2
  s.glimResources.foldl (fun u x => u.close x.1 x.2 false true) s

/-- Trim takes effect (R478). -/
def trimEnter (s : State) : State :=
  let s := if s.n .devicePowerStateActual 0 = 1 then s else s.setBoot fun b => { b with trimSince := s.now }
  (s.put .devicePowerStateActual 0 1).setBit Reg.glbPowerCtrl 0 true

/-- Leaving Trim returns every sleeping channel to Run (R41). -/
def wakeAll (s : State) : State := (List.range 32).foldl (fun u ch => u.laneWake ch) s

/-- What writes of DevicePowerState and GlimWakeAt do at their boundary; Lantern maps them onto GLB_POWER_CTRL (R492). A
write of DevicePowerState during the return from Glim changes nothing, since the return ends with 0 (R481). -/
def powerApply (s : State) (o : Obj) : State :=
  match o with
  | .devicePowerState =>
    if s.boot.returning.isSome then s else
    match s.n .devicePowerState 0 with
    | 0 => (s.wakeAll.put .devicePowerStateActual 0 0).setBit Reg.glbPowerCtrl 0 false
    | 1 => s.trimEnter
    | _ => (s.wakeAll.setBit Reg.glbPowerCtrl 0 false).glimEnter
  | .glimWakeAt => s.setBit Reg.glbPowerCtrl 16 (s.n .glimWakeAt 0 != 0)
  | _ => s

/-- The wake ports' transmit queues purged, with what all resources still hold (R479). -/
def glimPurge (s : State) : State :=
  let s := s.snuffs.foldl (fun u p =>
    match ([.channel, .terminal, .alloc, .flow, .queue, .sa, .uplink, .psgPort, .psgLane] : List ResKind).find? fun k =>
      snuffKey k 0 / 1048576 = p.1 / 1048576 with
    | some k => u.purgeRes true k (p.1 % 1048576)
    | none => u) s
  ((List.range 16).filter s.wakePort).foldl (fun u p => u.purgeRes true .uplink p) s

/-- Every resource but the wake ports is Dark, and the wake ports' queues are empty. -/
def glimDark (s : State) : Bool :=
  s.snuffs.isEmpty && ((List.range 16).filter s.wakePort).all fun p => !s.holdsFrames .uplink p

/-- What Glim loses (R479): Sump and queues, fragment-follow records, learn queues, cooperative orders, timestamp and
capture queues, terminal states with their records, and key slots; PTP domains become Lost. -/
def glimLose (s : State) : State :=
  let s := { s.sumpLose with frags := [], terms := [], acts := [], framers := [] }
  let s := s.setGal fun g => { g with queues := #v[[], [], [], []] }
  let s := (s.setClk fun c => { c with ts := [], captures := [] }).setCiph fun c =>
    { c with termKeys := [], exch := [], bcastDue := [], prev := [] }
  let s := (s.listed .keySlotState).foldl (fun u i => u.slotErase false i) s
  let s := s.setGr fun g => { g with
    demand := []
    chans := (g.chans.map fun c => (c.1, { c.2 with orders := [], maps := [], flight := [], epochs := [] })).filter
      fun c => c.2 != GrantCh.idle }
  let one (u : State) (d : TimeDomain) : State := if u.n .timeDomainSource d = 1 then u.putDomState d 3 else u
  one (one s 0) 1

/-! ### Wakes (R480, R481) -/

/-- The return from Glim starts: rails, Lantern from retention, the fabric clock, Sump's rebuild, ports, and the grant
lanes' reload follow by their own commands. -/
def wake_ (s : State) (cause : Nat) : State :=
  let s := s.setBoot fun b => { b with glim := false, returning := some s.now, heldWake := none }
  let s := ((s.put .devicePowerStateActual 0 4).put .glimWakeCause 0 cause).setBit Reg.glbPowerStatus 10 true
  let s := s.setTm fun m => { m with rebuilding := true }
  let s := s.setGr fun g => { g with reloadDue := true }
  let s := (s.withNum .saEnable 1).foldl (fun u a => u.leaveDark .sa a) s
  let s := (List.range 16).foldl (fun u p => u.leaveDark .uplink p) s
  (List.range 4).foldl (fun u q => u.leaveDark .psgPort q) s

/-- Whether an instant lies within 1 ms of the first match (R323). -/
def nearMatch (s : State) : Bool := match s.boot.matched with | some m => decide (s.now ≤ m.1 + Tm.ms) | none => true

/-- The wake detectors run: in Glim, on the way to it, and until all that match with the first are known. -/
def detects (s : State) : Bool :=
  s.boot.glim || s.boot.glimEntry.isSome || (s.boot.returning.isSome && s.boot.matched.isSome && s.nearMatch)

/-- A port that matched noted for the wake event. -/
def noteMatch (s : State) (p : Nat) : State :=
  let m := s.boot.matched.getD (s.now, [])
  if s.nearMatch then s.setBoot fun b => { b with matched := some (m.1, m.2.filter (· != p) ++ [p]) } else s

/-- Whether what a wake port's detector sees matches (R323). -/
def wakeMatch (s : State) (p : Nat) : WakeSignal → Bool
  | .frame bytes =>
    let at_ (o : Obj) (k : Nat) : Byte := (s.oct o p).getD k 0
    (List.finRange 64).all fun k =>
      bytes[k] &&& at_ .uplinkWakeMask k == at_ .uplinkWakePattern k &&& at_ .uplinkWakeMask k
  | .energy dark lit => decide (10 * Tm.ms ≤ dark) && decide (Tm.ms ≤ lit)

/-- A wake detected: acted on in Glim, held while Glim is being entered; the first one counts (R482). -/
def wakeSeen (s : State) (cause : Nat) : State :=
  if s.boot.glim then s.wake_ cause
  else if s.boot.glimEntry.isSome ∧ s.boot.heldWake.isNone then s.setBoot fun b => { b with heldWake := some cause }
  else s

/-- Glim is reached: Wick goes into Holdover where it is Locked, and the dies enter retention (R479). -/
def glimReached (s : State) : State :=
  let s := s.glimLose
  let s := if s.n .wickState 0 = 3 then s.enterWick 4 else s
  let s := (s.setBoot fun b => { b with
    glimEntry := none, glim := true, glimAt := s.now
    glimBins := (tempBin (s.num .caseTemperature 0), supplyBin (s.n .supplyVoltage 0)) }).setBit Reg.glbPowerCtrl 8 false
  match s.boot.heldWake with
  | some c => s.wake_ c
  | none => s

/-! ### Block clocks (R483) -/

/-- Whether a block has an enabled resource. -/
def blockBusy (s : State) (b : Nat) : Bool :=
  let chans : Bool := (List.range 32).any fun ch => s.n .channelSnuffPhase ch != 3 || s.laneState ch == 4
  let upls : Bool := (List.range 16).any fun p => s.n .uplinkSnuffPhase p != 3
  let psgs : Bool := (List.range 4).any fun q => s.n .passageSnuffPhase q != 3
  if b = 0 ∨ b = 1 ∨ b = 13 ∨ b = 15 then true
  else if b ≤ 5 then chans
  else if b ≤ 9 then chans || upls || psgs
  else if b = 10 then upls
  else if b = 11 then psgs
  else if b = 12 then chans || upls || psgs
  else !(s.withNum .counterEnable 1).isEmpty

/-- GLB_CLK_RUN: the blocks whose clock runs. -/
def clkRunning (s : State) : Nat :=
  if ¬ s.fabricRuns then 0
  else ((List.range 16).map fun b => if s.boot.clkStop / 2 ^ b % 2 = 0 ∨ s.blockBusy b then 2 ^ b else 0).foldl (· + ·) 0

/-- A register access starts its block's clock and its 1 ms anew. -/
def touchBlock (s : State) (b : Nat) : State :=
  s.setBoot fun r => { r with
    clkStop := putBits b b r.clkStop 0
    clkLast := tabPut (fun _ => 0) r.clkLast b s.now }

end State

open State

/-- R323: a wake port's detector sees a frame (mode 1) or energy (mode 2); a match starts the return from Glim where
WAKE_UPLINK_EN lets it. -/
def execUplinkWakeMatch (p : Uplink) (seen : WakeSignal) (s : State) : Host.Outcome State Fault Refusal :=
  let mode := match seen with | .frame _ => 1 | .energy _ _ => 2
  if s.detects ∧ s.wakePort p ∧ s.n .uplinkWakeMode p = mode ∧ s.wakeMatch p seen then
    let s := (s.bump .uplinkWakeMatches p 1).setBit (Reg.uplStatus p) 12 true
    .next (if s.bit Reg.glbPowerCtrl 17 then (s.noteMatch p).wakeSeen mode else s)
  else .next s

/-- R479, R492: all resources Dark, Lantern saves and orders the die to reach Glim; `wake` is a match in the same cycle. -/
def execGlimGo (wake : Option (Fin 4)) (s : State) : Host.Outcome State Fault Refusal :=
  if s.boot.glimEntry.isSome ∧ s.glimDark ∧ s.avail then
    let t := (s.saveFirst 3).setBit Reg.glbPowerCtrl 8 true
    match wake with
    | some c => .next ((if t.boot.heldWake.isNone then t.setBoot fun b => { b with heldWake := some c.val } else t).glimReached)
    | none => .next t
  else .next s

/-- R479: GlimDrainTime after F, frames still queued are purged and counted. -/
def execGlimDrainExpiry (s : State) : Host.Outcome State Fault Refusal :=
  match s.boot.glimEntry with
  | some f => if f + s.n .glimDrainTime 0 * Tm.ms ≤ s.now then .next s.glimPurge else .next s
  | none => .next s

/-- R479: the dies enter retention once Lantern has ordered it. -/
def execGlimReached (s : State) : Host.Outcome State Fault Refusal :=
  if s.boot.glimEntry.isSome ∧ s.bit Reg.glbPowerCtrl 8 then .next s.glimReached else .next s

/-- R480: Wick reaches GlimWakeAt in Glim, or it is past when Glim is reached. -/
def execGlimWakeTime (s : State) : Host.Outcome State Fault Refusal :=
  let t := s.n .glimWakeAt 0
  if s.boot.glim ∧ t ≠ 0 ∧ t ≤ s.wick ∧ s.bit Reg.glbPowerCtrl 16 then .next (s.wakeSeen 3) else .next s

/-- R481: the return ends once Sump has been rebuilt, the grant lanes vote, and no wanted channel is still on its way to
Run; the seconds of Glim are added to the lifetime record, in the bins of its entry (R508). -/
def execGlimReturnComplete (s : State) : Host.Outcome State Fault Refusal :=
  let done : Bool := !s.tm.rebuilding && s.grants.reload.isNone && !s.grants.reloadDue &&
    (List.range 32).all fun ch => !s.laneWanted ch || s.laneState ch == 2 || s.laneState ch == 5
  match s.boot.returning with
  | some at_ =>
    if done then
      let t := (s.setBoot fun b => { b with returning := none }).put .devicePowerStateActual 0 0
      let t := ((t.put .devicePowerState 0 0).bump .glimEpisodes 0 1).lifeCount 5 1
      let r := lifeSeconds t.life.rec_ ((at_ - t.boot.glimAt) / Tm.s) t.boot.glimBins.1 t.boot.glimBins.2
      let t := t.setLife fun l => { l with rec_ := r }
      let t := t.raiseChange .devicePowerStateActual 0 4 0
        (beBytes 1 (t.n .glimWakeCause 0) ++ ((t.boot.matched.map Prod.snd).getD []).flatMap fun p => beBytes 1 p)
      let t := t.setBoot fun b => { b with matched := none }
      .next (if t.bit Reg.glbPowerCtrl 0 then (t.put .devicePowerState 0 1).trimEnter else t)
    else .next s
  | none => .next s

/-- R483: a block's clock stops after 1 ms without an enabled resource or a register access. -/
def execBlockClockStop (b : Fin 16) (s : State) : Host.Outcome State Fault Refusal :=
  if s.fabricRuns ∧ ¬ s.blockBusy b ∧ tabGet (fun _ => 0) s.boot.clkLast b + Tm.ms ≤ s.now then
    .next (s.setBoot fun r => { r with clkStop := putBits b b r.clkStop 1 })
  else .next s

end Sys2Proof.Machine
end

