-- ==== Sys2Proof/Machine/Writes.lean ====
section
/-!
DEFINITION. Writes at their boundary (R14 to R17, R410 to R414): precedence between them, the checks that the chapters
place there, and what the surviving ones do. A set of writes that comes from the commissioning image (R422) or as a
Packet-class write takes the same way.
-/

namespace Sys2Proof.Machine

/-- An object's instance with the value that a write gives it. -/
structure Setting where
  obj : Obj
  inst : Nat
  value : List Byte
  deriving DecidableEq

namespace State

/-! ### What a write means at its boundary -/

/-- The checks of trees and channels (R18, R19, R22, R353): `t` has all the writes of the boundary. -/
def laneCheck (s t : State) (o : Obj) (i : Nat) : Nat :=
  let dark (ch : Nat) : Bool := s.dark? .channelSnuffPhase ch
  match o with
  | .treePairMode =>
    if i % 2 = 1 ∨ (t.n .treePairMode i ≠ 0 ∧ ¬ t.on .treeCagePlan i) then Abort.range
    else if t.n .treePairMode i ≠ s.n .treePairMode i ∧ ¬ (dark i && dark (i + 1)) then Abort.notDark
    else coresCheck s t
  | .treeCagePlan => if i % 2 = 1 then Abort.range else Abort.ok
  | .treeEnable =>
    if t.on .treeEnable i then
      if i % 2 = 1 ∧ (t.pairMode i ≠ 0 ∨ t.dualCage i) then Abort.range else coresCheck s t
    else if s.on .treeEnable i ∧ ¬ (dark i && (s.pairMode i = 0 || i % 2 == 1 || dark (i + 1))) then Abort.notDark
    else Abort.ok
  | .channelGeneration | .channelUpRate | .channelUpBand =>
    if t.n o i ≠ s.n o i ∧ ¬ dark i then Abort.notDark else coresCheck s t
  | _ => Abort.ok

/-- The checks that the chapters place at the boundary of an object's write (R410 step 3). -/
def boundaryCheck (s t : State) (o : Obj) (i : Nat) : Nat :=
  firstRefusal [s.laneCheck t o i, s.powerCheck t o, s.sumpCheck t o i, s.galCheck t o i, s.classCheck t o i,
    s.trafficCheck t o i, t.wickCheck o i, s.ciphCheck t o i, s.uplinkCheck t o i, s.upCheck t o i, s.actCheck t o i,
    s.grantCheck t o i, s.psgCheck t o i, s.snuffCheck t o i]

/-- What a write that has been taken does beyond the value itself. -/
def boundaryApply (s : State) (o : Obj) (i : Nat) : State :=
  let s := ((((s.sumpApply o i).galApply o i).trafficApply o i).wickApply o i).ciphApply o i
  let s := (((s.uplinkApply o i).actApply o i).snuffApply o i).powerApply o
  match o with
  | .terminalEqPresetA => s.presetWritten i 0
  | .terminalEqPresetB => s.presetWritten i 1
  | .grantVoteEnable => s.voteEnable
  | .treeCagePlan => if s.dualCage i ∧ s.laneState (i + 1) ≠ 0 then s.darkAll (i + 1) else s
  | _ => s

/-- A setting's value stored; the first write of a write-once object marks it (R10). -/
def putSetting (s : State) (w : Setting) : State :=
  (s.putVal w.obj w.inst (w.obj.info.ty.parse w.value)).markOnce w.obj w.inst

/-- A refused write of a write-once object does not count as its first (R19). -/
def unmarkOnce (s : State) (w : PendingWrite) : State :=
  match Obj.find w.code with
  | some o =>
    if o.info.acc = .wo1 then s.setLan fun l => { l with written := l.written.filter fun k => k != o.key w.inst } else s
  | none => s

/-- A write that a lock has met before its boundary is recorded as one refused at its acceptance is (R11). -/
def refusedLate (s : State) (w : PendingWrite) (code : Nat) : State :=
  match Obj.find w.code with
  | some o => s.recordOnce o w.inst code
  | none => s

/-- The channels whose generation or upstream rate, or whose band too, differs between two states. -/
def rateChanged (s t : State) (ch : Nat) : Bool := s.gen ch != t.gen ch || s.n .channelUpRate ch != t.n .channelUpRate ch
def planChanged (s t : State) (ch : Nat) : Bool :=
  s.gen ch != t.gen ch || s.n .channelUpBand ch != t.n .channelUpBand ch

/-- The five counters of R505 cleared. -/
def wordsClear (s : State) (ch : Nat) : State :=
  ([.upWordsCarried, .upWordsBlocked, .upWordsStarved, .upWordsIdle, .upFramesAccounted] : List Obj).foldl
    (fun t o => t.put o ch 0) s

/-- UplinkFec of a quad's ports back at its mode's default (R308). -/
def fecDefaults (s : State) (q : Nat) : State := (List.range 4).foldl (fun t k => t.putVal .uplinkFec (4 * q + k) .unset) s

/-- The values after settings taken together: what a change of generation, rate or quad mode resets (R75, R308, R505), then
the values. -/
def withSettings (s : State) (ws : List Setting) : State :=
  let t := ws.foldl putSetting s
  let u := (List.range 32).foldl (fun x ch => if s.rateChanged t ch then (x.profileDefaults ch).wordsClear ch else x) s
  let u := (List.range 4).foldl (fun x q => if s.quadMode (4 * q) = t.quadMode (4 * q) then x else x.fecDefaults q) u
  ws.foldl putSetting u

/-- Settings taken together at a boundary: their values, then what each write does. A change of generation or band makes
ChannelAsymmetry the default's again when the channel leaves Off (R117). -/
def takeSettings (s : State) (ws : List Setting) : State :=
  let u := s.withSettings ws
  let u := u.setLan fun l => { l with asymHost := l.asymHost.filter fun ch => !s.planChanged u ch }
  ws.foldl (fun x w => x.boundaryApply w.obj w.inst) u

/-! ### Pending writes -/

/-- A pending write as a setting. -/
def settingOf (w : PendingWrite) : Option Setting := (Obj.find w.code).map fun o => ⟨o, w.inst, w.value⟩

/-- Whether a due write loses to another (R414): to a lower master's, or to a later one of its own master. -/
def beaten (ws : List (Nat × PendingWrite)) (x : Nat × PendingWrite) : Bool :=
  ws.any fun y => y.2.code == x.2.code && y.2.inst == x.2.inst &&
    (decide (y.2.master < x.2.master) || (y.2.master == x.2.master && decide (x.1 < y.1)))

/-- Whether another write of the same transaction has been refused. -/
def txnLost (ws : List (PendingWrite × Nat)) (w : PendingWrite) : Bool :=
  w.txn && ws.any fun y => y.1.msg == w.msg && y.1.txn && y.2 != Abort.ok

/-- The rest of a transaction that has lost a write is not applied. -/
def txnRule (ws : List (PendingWrite × Nat)) : List (PendingWrite × Nat) :=
  ws.map fun y => if y.2 = Abort.ok ∧ txnLost ws y.1 then (y.1, Abort.notApplied) else y

/-- Precedence between the due writes, each with its code so far. -/
def precedence (ws : List PendingWrite) : List (PendingWrite × Nat) :=
  let ixs := ws.zipIdx.map fun p => (p.2, p.1)
  txnRule (ixs.map fun x => (x.2, if beaten ixs x then Abort.superseded else Abort.ok))

/-- One round of the checks: every write still standing is checked with all those that stand. -/
def checkRound (s : State) (ws : List (PendingWrite × Nat)) : List (PendingWrite × Nat) :=
  let t := s.withSettings (ws.filterMap fun y => if y.2 = Abort.ok then settingOf y.1 else none)
  txnRule (ws.map fun y =>
    if y.2 = Abort.ok then
      match Obj.find y.1.code with
      | some o => (y.1, s.boundaryCheck t o y.1.inst)
      | none => (y.1, Abort.noSuch)
    else y)

/-- Rounds of checks until none falls. -/
def checkAll (s : State) : Nat → List (PendingWrite × Nat) → List (PendingWrite × Nat)
  | 0, ws => ws
  | k + 1, ws =>
    let next := s.checkRound ws
    if next.map Prod.snd = ws.map Prod.snd then ws else s.checkAll k next

/-- The outcome of every due write. -/
def judge (s : State) (ws : List PendingWrite) : List (PendingWrite × Nat) := s.checkAll ws.length (precedence ws)

/-- The code of a record: the first refusal among its writes stands. -/
def settled (r : OpRes) (code : Nat) : OpRes :=
  match r.code with
  | none => { r with code := some code }
  | some 0 => { r with code := some code }
  | some _ => r

/-- The answer of a write put into its message. -/
def answer (s : State) (w : PendingWrite) (code : Nat) : State :=
  s.setLan fun l => { l with msgs := l.msgs.map fun m =>
    if m.id = w.msg then { m with results := m.results.modify w.pos fun r => settled r code } else m }

/-- The due writes decided, answered and taken; those that are superseded are counted. -/
def boundaryWrites (s : State) (due : PendingWrite → Bool) : State :=
  let ws := s.lan.writes.filter due
  if ws.isEmpty then s
  else
    let out := s.judge ws
    let s := s.setLan fun l => { l with writes := l.writes.filter fun w => !due w }
    let s := s.takeSettings (out.filterMap fun y => if y.2 = Abort.ok then settingOf y.1 else none)
    let s := out.foldl (fun u y => (if y.2 = Abort.ok then u else (u.unmarkOnce y.1).refusedLate y.1 y.2).answer y.1 y.2) s
    s.bump .sconceSuperseded 0 (out.filter fun y => y.2 == Abort.superseded).length

/-- A Packet-class write or transaction takes effect at once (R14). -/
def packetWrites (s : State) : State :=
  if s.avail ∧ s.n .ucieLinkState 0 ≠ 4 then s.boundaryWrites fun w => w.cls == 1 else s

/-- Whether a pending write's boundary is the present Frame boundary (R15, R412): the Epoch class where its channel
starts an epoch or is not in Run, the Second class at an integer second. A write accepted at this very instant waits for
the next boundary of its class (R16). -/
def dueNow (s : State) (starts : Nat → Bool) (w : PendingWrite) : Bool :=
  if w.cls = 1 then true
  else if s.now ≤ w.at_ then false
  else if w.cls = 2 then true
  else if w.cls = 3 then
    match w.chan with
    | some ch => s.laneState ch != 2 || starts ch
    | none => true
  else if w.cls = 4 then s.wick % Tm.s == 0
  else false

/-! ### The commissioning image (R422) -/

/-- A record's own checks: the object exists, may be set by an image, and the value has its type and range. -/
def commRecordOk (r : CommRec) : Bool :=
  match Obj.find r.code with
  | none => false
  | some o =>
    r.inst < o.info.count && r.value.length < 65536 && State.valueCode o r.value == Abort.ok &&
    (match o.info.acc with
      | .ro | .const => false
      | .wo => o.info.cls != .immediate || o == .masterKey
      | _ => true) &&
    !(0xF00000 ≤ o.code && o.code < 0xF10000) && o != .commissionKey &&
    !(o == .masterKey && beNat r.value == 0)

/-- The records stand in rising order of index, subindex and instance. -/
def commSorted : List CommRec → Bool
  | a :: b :: rest => (a.code < b.code || (a.code == b.code && a.inst < b.inst)) && commSorted (b :: rest)
  | _ => true

/-- The records as settings. -/
def commSettings (rs : List CommRec) : List Setting :=
  rs.filterMap fun r => (Obj.find r.code).map fun o => ⟨o, r.inst, r.value⟩

/-- The machine at its built-in defaults, with nothing in service. -/
def builtIn (s : State) : State :=
  { s with objs := [], ciph := { s.ciph with locked := [] } }

/-- The Immediate settings of an image taken one after another, with the first refusal. -/
def settingsNow (s : State) (ws : List Setting) : State × Nat :=
  ws.foldl (fun r w =>
    let u := settingEff w.obj r.1 0 w.inst w.value
    (u.1, if r.2 = Abort.ok then u.2 else r.2)) (s, Abort.ok)

/-- Whether a setting is of the Immediate class. -/
def settingNow (w : Setting) : Bool := w.obj.info.cls == .immediate

/-- Whether the chapters' rules admit the records as one set over the built-in defaults. -/
def commJoint (s : State) (rs : List CommRec) : Bool :=
  let ws := (commSettings rs).filter fun w => w.obj != .masterKey
  let base := s.builtIn
  let later := ws.filter fun w => !settingNow w
  let t := base.withSettings later
  later.all (fun w => base.boundaryCheck t w.obj w.inst == Abort.ok) &&
    (base.settingsNow (ws.filter fun w => settingNow w)).2 == Abort.ok

/-- The records of an image's body, laid out as those of R373; none where the body does not parse. -/
def commParse : Nat → List Byte → Option (List CommRec)
  | _, [] => some []
  | 0, _ => none
  | k + 1, bs =>
    if bs.length < 8 then none
    else
      let len := beNat ((bs.drop 6).take 2)
      if bs.length < 8 + len then none
      else
        match commParse k (bs.drop (8 + len)) with
        | some rest => some (⟨beNat (bs.take 3), beNat ((bs.drop 3).take 3), (bs.drop 8).take len⟩ :: rest)
        | none => none

/-- The records of an image's body where every rule of R422 admits them. -/
def commRecords (s : State) (body : List Byte) : Option (List CommRec) :=
  match commParse body.length body with
  | some rs => if commSorted rs ∧ rs.all commRecordOk ∧ s.commJoint rs then some rs else none
  | none => none

/-- The default in force of an object's instance: the commissioned one, else that of the table (R422). -/
def defaultOf (s : State) (o : Obj) (i : Nat) : Val :=
  match s.lan.commission.find? fun r => r.code == o.code && r.inst == i with
  | some r => o.info.ty.parse r.value
  | none => o.info.dflt i

end State
end Sys2Proof.Machine
end

