-- ==== Sys2Proof/Machine/Boot.lean ====
section
/-!
DEFINITION. Images (R367 to R369), firmware slots (R471 to R473), what resets do (R474, R475), and the configuration of the
head-end die at a start (R422, R468).
-/

namespace Sys2Proof.Machine

namespace State

/-! ### Images (R367 to R369) -/

/-- A byte of an image as a number. -/
def byteAt (bs : List Byte) (k : Nat) : Nat := (bs.getD k 0).toNat

/-- The length of an image's signature, by its parameter set. -/
def sigLen (bs : List Byte) : Nat := if byteAt bs 7 = 0 then 2692 else 2820

/-- An image's body. -/
def imgBody (bs : List Byte) : List Byte := bs.drop (64 + sigLen bs)

/-- An image's rollback version. -/
def imgRollback (bs : List Byte) : Nat := beNat ((bs.drop 8).take 4)

/-- Header, lengths, digest and signature of an image of a kind under a public key. -/
def imgOk (key : List Byte) (kind : Nat) (bs : List Byte) : Bool :=
  let body := imgBody bs
  beNat (bs.take 4) == 0x4F594657 && byteAt bs 4 == 1 && byteAt bs 5 == kind && decide (byteAt bs 7 ≤ 1) &&
  decide (beNat ((bs.drop 12).take 4) ≤ 33554432) && bs.length == 64 + sigLen bs + beNat ((bs.drop 12).take 4) &&
  (bs.drop 16).take 32 == (Config.shake256 body).toList && beNat ((bs.drop 48).take 16) == 0 &&
  Config.xmssVerify key (bs.take 64) ((bs.drop 64).take (sigLen bs))

/-- A firmware image is accepted (R368). -/
def firmwareOk (s : State) (bs : List Byte) : Bool :=
  let k := byteAt bs 6
  decide (k ≤ 1) && !(k == 0 && Config.root0Revoked) && imgOk (Config.rootKey k) 0 bs &&
    decide (s.nvm.rollbackFloor ≤ imgRollback bs)

/-- A commissioning image's signature and digest hold under the integrator's key (R369). -/
def commissionOk (s : State) (bs : List Byte) : Bool :=
  !s.nvm.commissionKey.isEmpty && byteAt bs 6 == 0 && imgOk s.nvm.commissionKey 1 bs

/-- A firmware slot's image. -/
def slotImage (s : State) (k : Nat) : List Byte := s.nvm.slots.getD k []

/-- FirmwareSlotValid and FirmwareSlotVersion as the slots stand. -/
def firmwareSlots (s : State) : State :=
  [0, 1].foldl (fun u k => (u.put .firmwareSlotValid k (if u.firmwareOk (u.slotImage k) then 1 else 0)).put
    .firmwareSlotVersion k (if (u.slotImage k).isEmpty then 0 else imgRollback (u.slotImage k))) s

/-! ### Orderly stops (R371, R474) -/

/-- Signing stops, and the next unissued signature index becomes the limit (R371). -/
def signStop (s : State) : State :=
  if s.boot.lanternUp ∧ ¬ s.boot.recovery ∧ s.nvmUp then s.setNvm fun n => { n with sigLimit := s.lan.sigNext } else s

/-- What is saved before a reset marked "Save first". -/
def orderly (s : State) : State := (s.saveFirst 2).signStop

/-- A master's key stored; a series that has stopped starts again at 1 (R406, R421). -/
def storeKey (s : State) (m : Master) (key : List Byte) : State :=
  let s := s.setNvm fun n => { n with keys := n.keys.set m (some key) }
  let r := s.lan.masters[m]
  let s := if r.highest < lastCounter then s
    else (s.setMaster m { r with highest := 0 }).setNvm fun n => { n with reqMarks := n.reqMarks.set m 1 }
  let r := s.lan.masters[m]
  if r.issued < lastCounter then s
  else (s.setMaster m { r with issued := 0 }).setNvm fun n => { n with outMarks := n.outMarks.set m 1 }

/-! ### The selection of a slot (R471) -/

/-- A trial image that has failed twice is reverted; else a trial counts a try. The second value says that it was
reverted. -/
def bootTry (n : Nvm) : Nvm × Bool :=
  let back : Bool := n.trial && decide (2 ≤ n.tries)
  let n := if back then { n with pref := 1 - n.pref, trial := false } else n
  (if n.trial then { n with tries := n.tries + 1 } else n, back)

/-- The slot that boots, after what R471 writes to the selection fields; none enters recovery. -/
def bootSelect (s : State) : State × Option Nat :=
  let (n, back) := bootTry s.nvm
  let s := s.setNvm fun _ => n
  let pick := if s.firmwareOk (s.slotImage n.pref) then some n.pref
    else if s.firmwareOk (s.slotImage (1 - n.pref)) then some (1 - n.pref) else none
  let s := match pick with
    | some k => if k = n.pref then s else s.setNvm fun x => { x with pref := k, trial := false }
    | none => s
  (s.put .firmwareTrialState 0 (if back then 2 else if s.nvm.trial then 1 else 0), pick)

/-- TRIAL cleared: the running image is confirmed (R472). -/
def confirm (s : State) : State :=
  if s.nvm.trial then (s.setNvm fun n => { n with trial := false }).put .firmwareTrialState 0 0 else s

/-- A trial with FirmwareTrialTime 0 is confirmed once the device is ready. -/
def autoConfirm (s : State) : State := if s.n .firmwareTrialTime 0 = 0 then s.confirm else s

/-! ### Lantern starts (R399, R422, R469) -/

/-- The stored commissioning image tested, and its values taken as defaults (R422). -/
def commissionLoad (s : State) : State :=
  if s.nvm.commission.isEmpty then s.setLan fun l => { l with commission := [], commissionOutcome := 1 }
  else
    match (if s.commissionOk s.nvm.commission then s.commRecords (imgBody s.nvm.commission) else none) with
    | some rs => s.setLan fun l => { l with commission := rs, commissionOutcome := 0 }
    | none => s.setLan fun l => { l with commission := [], commissionOutcome := 2 }

/-- StartPhase of a start with the die as it stands. -/
def phaseNow (s : State) : Nat :=
  if s.boot.dieReset then 0
  else if s.faultWord / 128 % 2 = 1 then 6
  else if ¬ s.boot.configured then 1
  else if s.boot.readyAt.isSome then 4 else 3

/-- Lantern serves Sconce: the records of its masters from the NVM's marks, and the signature index. -/
def lanternServe (s : State) : State :=
  let s := s.setLan fun l => { l with
    masters := #v[s.masterFresh 0, s.masterFresh 1, s.masterFresh 2], sigNext := s.nvm.sigLimit }
  s.setBoot fun b => { b with lanternUp := true, lanternStart := s.now, kick := s.now }

/-- Lantern's firmware from a slot runs. -/
def firmwareStart (s : State) (k : Nat) (failed : Option Nat) : State :=
  let img := s.slotImage k
  let s := (s.setBoot fun b => { b with slot := k, recovery := false }).lanternServe
  let s := ((s.put .firmwareSlotActive 0 k).putOct .firmwareDigest 0 (Config.shake256 img).toList).put
    .firmwareVersion 0 (imgRollback img)
  let s := ((s.put .startCause 0 s.boot.cause).put .startPhase 0 s.phaseNow).commissionLoad
  let s := if s.ucie.headless then s.setBoot fun b => { b with startDue := true } else s.startEvent
  let s := if s.boot.configured then s.quarantineRestore else s
  let s := match failed with
    | some f => s.raiseConfig .firmwareSlotValid f
    | none => s
  let s := s.lifeRestore.lifeCount (if s.boot.cause = 0 then 0 else if s.boot.cause = 4 then 2 else 1) 1
  if s.boot.readyAt.isSome then s.autoConfirm else s

/-- FIRMWARE_LOADED: the boot code's selection, and firmware or recovery (R471, R473). -/
def firmwareLoaded (s : State) : State :=
  let (t, pick) := s.bootSelect
  let t := (t.firmwareSlots).put .firmwareRollbackFloor 0 t.nvm.rollbackFloor
  match pick with
  | some k =>
    let first := (bootTry s.nvm).1.pref
    t.firmwareStart k (if k = first then none else some first)
  | none => ((t.setBoot fun b => { b with recovery := true }).lanternServe).put .startPhase 0 5

/-! ### A reset of the head-end die (R474, R475) -/

/-- Objects that the head-end die's reset leaves: those of the always-on logic, and those that Lantern or the NVM
holds. -/
def keptObj (o : Obj) : Bool :=
  o.info.acc == .ro && ((0x100000 ≤ o.code && o.code < 0x202000) || (0x240000 ≤ o.code && o.code < 0x242000) ||
    (0x382000 ≤ o.code && o.code < 0x383000) || (0x790000 ≤ o.code && o.code < 0x7C0000) ||
    (0x880000 ≤ o.code && o.code < 0x890000) ||
    ([.glimWakeCause, .glimEpisodes, .wickState, .wickIncrement, .wickStepCount, .wickCounterMismatches,
      .timeHoldoverEstimate, .timeHoldoverElapsed, .timeModelLearnedHours, .timeModelBinsLearned, .timeSelectedDomain,
      .ovenState, .oscCaseTemperature, .watchdogExpiries, .regulatorFaults, .oscillatorLosses, .headlessEpisodes,
      .headlessLastDuration] : List Obj).contains o)

/-- Objects of Lantern's configuration shadow, which stands while Lantern keeps running. -/
def shadowObj (o : Obj) : Bool :=
  (o.info.acc == .rw || o.info.acc == .rwl || o.info.acc == .wo1) && o != .counterValue && o != .counterSnapshot

/-- Registers of the always-on logic: WICK_HOLD_EXPIRY and the oscillator model. -/
def keptReg (a : Nat) : Bool :=
  a == Reg.wickHoldExpiry || a == Reg.wickModelBase || a == Reg.wickModelAge ||
    (Reg.wickModelBin 0 ≤ a && a ≤ Reg.wickModelBin 67)

/-- The Wick block through a reset of the die: counter, increment, oven and model go on. -/
def clkKept (c : ClockSt) : ClockSt :=
  { c with
    step := none, residual := 0, qualify := 0, outliers := 0, switched := false
    doms := .replicate 2 DomSt.idle
    ts := [], trigs := .replicate 8 ⟨none, none⟩, captures := [], lastEdge := [] }

/-- The Gallery after a reset of the die: empty, or the static entries that Lantern rewrites (R475). -/
def galKept (g : GallerySt) (shadow : Bool) : GallerySt :=
  if shadow then
    { GallerySt.empty with
      entries := g.entries.filter fun e => match e.2 with | some x => x.static | none => false
      stash := g.stash.filter fun p => match tabFind g.entries p with | some (some x) => x.static | _ => false
      shadow := g.shadow, lost := g.lost }
  else .empty

/-- The head-end die is reset: `why` is the cause that GLB_RESET_CAUSE shows, and `shadow` says that Lantern keeps
running. -/
def dieReset (s : State) (why : Nat) (shadow : Bool) : State :=
  let s := s.dropObjs fun o => !(keptObj o || (shadow && shadowObj o))
  let (j, s) := s.draw
  let t : State := { s with
    regs := s.regs.filter fun r => keptReg r.1
    latched := [], clk := clkKept s.clk, stage := ⟨none, [], []⟩, ucie := .idle, snuffs := [], limits := [], lanes := []
    cages := [], eqRuns := [], framers := [], lineRun := [], gal := galKept s.gal shadow, frags := [], tm := .empty
    terms := [], acts := [], logEvents := [], grants := .idle, ciph := .idle
    uplinks := [], psgs := [], casc := { CascadeSt.idle with nonce := j } }
  let t := t.setLife fun l => { l with base := t.headBase, measured := [], bright := [] }
  let t := t.setBoot fun b => { b with
    dieReset := true, configured := false, imageChans := [], readyAt := none, glimEntry := none, glim := false
    heldWake := none, matched := none, returning := none, clkStop := 0, clkLast := [], skipped := [] }
  let t := if t.n .devicePowerState 0 = 2 then t.put .devicePowerState 0 0 else t
  let t := if shadow then t else t.setLan fun l => { l with written := l.written.filter fun w => w == Obj.commissionKey.key 0, asymHost := [] }
  ((t.put .startPhase 0 0).putReg Reg.glbResetCause why).put .ucieLinkState 0 0

/-- Lantern and the head-end die reset together; Wick, oven and model go on (R474). -/
def fullReset (s : State) (cause why : Nat) : State :=
  let s := s.lanternStop.dieReset why false
  (s.setBoot fun b => { b with cause := cause }).put .startCause 0 cause

/-! ### The configuration of the head-end die -/

/-- The blocks enabled by Lantern as it configures the die. -/
def enableBlocks (s : State) : State :=
  let s := (List.range 32).foldl (fun u ch =>
    ((u.setBit (Reg.tcDsCtrl ch) 0 true).setBit (Reg.tcUsCtrl ch) 0 true).setBit (Reg.actCtrl ch) 0 true) s
  ([Reg.grantCtrl, Reg.galCtrl, Reg.clsCtrl, Reg.tmCtrl, Reg.sumpCtrl, 0x1100000, Reg.ciphCtrl, Reg.cntGlobalCtrl]
    : List Nat).foldl (fun u a => u.setBit a 0 true) s

/-- The commissioning image applied as one set (R422). -/
def imageApply (s : State) : State :=
  let ws := commSettings s.lan.commission
  let s := s.takeSettings (ws.filter fun w => !settingNow w)
  let s := (s.settingsNow (ws.filter fun w => settingNow w && w.obj != .masterKey)).1
  (ws.filter fun w => w.obj == .masterKey).foldl (fun u w => u.storeKey (Fin.ofNat 3 w.inst) w.value) s

/-- The shadow rewritten (R475): loops, time domains and power state, and what the shadow enables leaves Dark. -/
def shadowApply (s : State) : State :=
  let s := (s.listed .channelLoopMode).foldl (fun u ch => (loopEff u 0 ch (beBytes 1 (u.n .channelLoopMode ch))).1) s
  let s := (((s.domRestart 0).domRestart 1).domReturn 0).domReturn 1
  let s := (s.powerApply .glimWakeAt)
  let s := if s.n .devicePowerState 0 = 1 then s.trimEnter else s
  let s := (List.range 16).foldl (fun u p => u.leaveDark .uplink p) s
  let s := (List.range 4).foldl (fun u q => u.leaveDark .psgPort q) s
  ((s.withNum .saEnable 1).foldl (fun u a => u.leaveDark .sa a) s).leaveAll

/-- Lantern configures the die: the image or the shadow, then the grant lanes (R172), until Warming ends and channels
start. -/
def configure (s : State) : State :=
  let s := ((s.put .startPhase 0 2).setBoot fun b => { b with configured := true }).enableBlocks
  let s := if s.boot.cause = 6 then s.shadowApply else s.imageApply
  let s := s.laneStartUp.quarantineRestore
  let s := s.setBoot fun b => { b with imageChans := (List.range 32).filter s.laneWanted }
  s.put .startPhase 0 3

/-- The head-end die released from reset over the trained link: a cold start tests its memories first (R390), any other
configures at once. -/
def dieRelease (s : State) : State :=
  let s := s.setBoot fun b => { b with dieReset := false }
  if s.boot.cause ≤ 1 then s.put .startPhase 0 1 else s.configure

/-! ### Pins (R24, R395, R419, R454) -/

/-- FAULT_N is low. -/
def faultLow (s : State) : Bool :=
  !s.boot.vinUp || s.boot.resetLow || s.boot.dieReset ||
    (s.faultWord &&& (s.n .faultMask 0 ||| 0x81)) != 0

/-- ALERT_N is low. -/
def alertLow (s : State) : Bool :=
  s.boot.vinUp && !s.boot.resetLow && !s.boot.dieReset && !s.boot.glim &&
    (if s.ucie.headless then !s.ucie.headEvents.isEmpty
     else (List.finRange 3).any fun m => s.lan.masters[m].events.any fun e =>
       s.n .sconceAlertMask 0 / 2 ^ e.kind % 2 == 1)

/-- The output and sideband pins, and the serial transmit lanes, of R454. -/
inductive Pin where
  | optTxdis (n : Fin 32) | optBrst (n : Fin 32) | optRssiTrig (n : Fin 32) | optScl (n : Fin 32) | optSda (n : Fin 32)
  | alertN | faultN
  | ppsOut (k : Fin 2) | trig (k : Fin 8) | freqOut (k : Fin 2) | todOut
  | transmitLane
  deriving DecidableEq, Repr

/-- What the device does to a pin: high impedance, released to its pull-up, driven or held low, driven high, a lane in
electrical idle, or driven by its function. -/
inductive PinLevel where
  | highZ | released | low | high | electricalIdle | function
  deriving DecidableEq, Repr

/-- A pin as the device leaves it (R454, R476): unpowered, in reset, and in service; Glim leaves the time outputs as
unpowered. -/
def pinLevel (s : State) (p : Pin) : PinLevel :=
  if ¬ s.boot.vinUp then
    match p with
    | .faultN | .ppsOut _ | .trig _ | .freqOut _ => .low
    | _ => .highZ
  else if s.boot.resetLow ∨ s.boot.dieReset then
    match p with
    | .optTxdis _ | .alertN | .optScl _ | .optSda _ => .released
    | .todOut => .high
    | .transmitLane => .electricalIdle
    | _ => .low
  else
    match p with
    | .faultN => if s.faultLow then .low else .released
    | .alertN => if s.alertLow then .low else .released
    | .optTxdis n => if s.txEnabled n then .low else .released
    | .ppsOut _ | .trig _ | .freqOut _ => if s.boot.glim then .low else .function
    | .todOut => if s.boot.glim then .highZ else .function
    | _ => .function

/-! ### Off and the rails (R449, R468) -/

/-- A machine with its NVM, as a cold start from Off finds it: the model's bin table is restored (R178). -/
def coldFrom (s : State) : State :=
  let t : State := { State.reset with
    nvm := s.nvm, pending := s.pending, sent := s.sent, fresh := s.fresh + 1
    casc := { CascadeSt.idle with nonce := s.fresh } }
  let t := t.setLan fun l => { l with
    masters := #v[t.masterFresh 0, t.masterFresh 1, t.masterFresh 2]
    written := if t.nvm.commissionKey.isEmpty then [] else [Obj.commissionKey.key 0] }
  let t := t.nvm.learnedModel.zipIdx.foldl (fun u p => u.putReg (Reg.wickModelBin p.2) (twos 32 p.1)) t
  if t.nvm.learnedBins = 0 then t else t.putOct .timeModelBinsLearned 0 (beBytes 9 t.nvm.learnedBins)

/-- The slot that a committed firmware image goes to (R423, R473). -/
def storeSlot (s : State) : Nat :=
  if s.boot.recovery then (if s.firmwareOk (s.slotImage 0) then 1 else 0) else 1 - s.boot.slot

/-- A store in progress is abandoned: the target slot is left empty (R452). -/
def abandonStore (s : State) : State :=
  let s := if s.n .imageStatus 0 = 2 then
      let k := s.storeSlot
      ({ s with nvm := { s.nvm with slots := s.nvm.slots.set k [] } }.put .imageStatus 0 4).firmwareSlots
    else s
  if s.n .imageStatus 1 = 2 then s.put .imageStatus 1 4 else s

/-- Off: a save or a store cut off leaves its copy invalid or its slot empty (R511, R452). -/
def powerOff (s : State) : State :=
  let s := s.abandonStore
  let s := if s.life.saving.isSome then
      { s with nvm := { s.nvm with copies := s.nvm.copies.set s.life.nextCopy ⟨.new, false⟩ } }
    else s
  s.coldFrom.setBoot fun b => { b with vinUp := false, rails := .replicate 4 .off }

/-- A rail's state written. -/
def putRail (s : State) (r : Fin 4) (v : RailState) : State := s.setBoot fun b => { b with rails := b.rails.set r v }

/-- A cold start stopped by a rail: all rails are off, and the sequence restarts from the always-on rails after 100 ms;
RegulatorFaults counts on (R468). -/
def startStopped (s : State) : State :=
  let t := (s.coldFrom.puti .oscCaseTemperature 0 (s.num .oscCaseTemperature 0)).setClk fun c =>
    { c with startTemp := s.clk.startTemp, elapsed := s.clk.elapsed, since := s.clk.elapsed }
  ((t.put .regulatorFaults 0 (s.n .regulatorFaults 0)).bump .regulatorFaults 0 1).setBoot fun b => { b with
    rails := .replicate 4 .off, restartAt := some (s.now + 100 * Tm.ms) }

/-- A rail reaches its window: the next one starts; with the head-end die's rail up and Lantern out of reset the adapter
trains (R440, R468). -/
def railUp (s : State) (r : Fin 4) : State :=
  let s := s.putRail r .inWindow
  match r with
  | 0 => if s.boot.rails[1] = .off then s.putRail 1 (.starting s.now) else s
  | 1 => if s.boot.rails[2] = .off then s.putRail 2 (.starting s.now) else s
  | 2 => if s.boot.rails[3] = .off then s.putRail 3 (.starting s.now) else s
  | 3 => if s.boot.dieReset then (s.put .ucieLinkState 0 1).setUcie fun u => { u with trainStart := s.now } else s

end State

open State

/-- R467: VIN rises through 10.8 V after Off (`vin`), with the oscillator's case at some temperature in milli-degrees, or
RESET_N is released after being recognised low. -/
def execColdStart (vin : Bool) (osc : Int) (s : State) : Host.Outcome State Fault Refusal :=
  if vin then
    (if s.boot.vinUp then .next s
     else .next ((s.coldFrom.puti .oscCaseTemperature 0 osc).setClk fun c => { c with startTemp := osc }))
  else if s.boot.vinUp ∧ s.boot.resetLow then
    let t := (s.setBoot fun b => { b with resetLow := false }).put .startPhase 0 0
    .next (if t.boot.rails[3] = .inWindow then t.railUp 3 else t)
  else .next s

/-- R457: 400 consecutive low samples of RESET_N. -/
def execResetNRecognised (s : State) : Host.Outcome State Fault Refusal :=
  if s.boot.vinUp ∧ s.wickRuns ∧ ¬ s.boot.resetLow then
    .next ((s.fullReset 1 1).setBoot fun b => { b with resetLow := true })
  else .next s

/-- R449: VIN falls below the undervoltage threshold. -/
def execUndervoltageReset (s : State) : Host.Outcome State Fault Refusal :=
  if s.boot.vinUp then .next s.powerOff else .next s

/-- R450, R452: a power-fail warning starts; `pin` says that PWRFAIL_N started it. -/
def execPowerFailWarning (pin : Bool) (s : State) : Host.Outcome State Fault Refusal :=
  if ¬ s.boot.vinUp ∨ s.n .powerFailState 0 ≠ 0 then .next s
  else
    let t := (s.put .powerFailState 0 1).put .powerFailWarnings 0 ((s.n .powerFailWarnings 0 + 1) % 4294967296)
    let t := (t.setField Reg.glbPfw 2 0 (if pin then 3 else 1)).setBit Reg.glbPfw 8 true
    let t := ((t.lifeCount 4 1).raiseChange .powerFailState 0 0 1).abandonStore
    if t.boot.glim then .next t
    else
      let soon : Bool := match t.life.lastSave with
        | some at_ => decide (t.now < at_ + Tm.s)
        | none => false
      .next ((if soon ∧ t.life.saving.isNone then t else t.saveStart 1).signStop)

/-- R450: VIN above the clear threshold for 10 ms with PWRFAIL_N high. -/
def execPowerFailWarningEnd (s : State) : Host.Outcome State Fault Refusal :=
  let old := s.n .powerFailState 0
  if old = 0 then .next s
  else .next (((s.put .powerFailState 0 0).setField Reg.glbPfw 2 0 0).raiseChange .powerFailState 0 old 0)

/-- R468: a rail that has started has stayed in its window for 100 µs. -/
def execRailInWindow (rail : Fin 4) (s : State) : Host.Outcome State Fault Refusal :=
  match s.boot.rails[rail] with
  | .starting _ => if s.boot.vinUp then .next (s.railUp rail) else .next s
  | _ => .next s

/-- R468: a rail that has not reached its window within 2 ms stops the cold start. -/
def execRailStartTimeout (s : State) : Host.Outcome State Fault Refusal :=
  let late : Bool := s.boot.rails.toList.any fun r => match r with
    | .starting t => decide (t + 2 * Tm.ms ≤ s.now)
    | _ => false
  if late then
    .next s.startStopped
  else .next s

/-- R468: 100 ms later the sequence restarts. -/
def execRegulationRestart (s : State) : Host.Outcome State Fault Refusal :=
  match s.boot.restartAt with
  | some at_ =>
    if s.boot.vinUp ∧ at_ ≤ s.now then
      .next (((s.setBoot fun b => { b with restartAt := none }).putRail 0 (.starting s.now)).setClk fun c =>
        { c with since := s.now })
    else .next s
  | none => .next s

/-- R471: the boot code has selected, verified and loaded an image, or entered recovery. -/
def execFirmwareLoaded (s : State) : Host.Outcome State Fault Refusal :=
  if s.boot.vinUp ∧ s.boot.rails[2] = .inWindow ∧ ¬ s.boot.resetLow ∧ ¬ s.boot.lanternUp then .next s.firmwareLoaded
  else .next s

/-- R440, R468: link training ends; `failed` are the lanes that failed their tests. A die in reset is released. -/
def execUcieTrained (failed : BitVec 16) (s : State) : Host.Outcome State Fault Refusal :=
  if s.n .ucieLinkState 0 = 1 ∧ s.boot.rails[3] = .inWindow ∧ s.boot.lanternUp ∧ ¬ (s.boot.recovery && s.boot.dieReset) then
    let t := s.putReg Reg.ucieLaneFail failed.toNat
    match t.trainedWidth failed true with
    | some (w, half) => .next (let u := t.linkUp w half; if u.boot.dieReset then u.dieRelease else u)
    | none => .next (if t.boot.dieReset then t else t.put .ucieLinkState 0 5)
  else .next s

/-- R390: the march test of a cold start ends, with the result of each memory. -/
def execMarchTestComplete (results : Vector (Fin 3) 15) (s : State) : Host.Outcome State Fault Refusal :=
  if s.n .startPhase 0 = 1 ∧ ¬ s.boot.dieReset ∧ ¬ s.boot.configured ∧ s.boot.lanternUp then
    let t := results.toList.zipIdx.foldl (fun u r => u.put .memTestResult r.2 r.1.val) s
    if results.toList.any fun r => r == 2 then .next ((t.setCause 7).put .startPhase 0 6) else .next t.configure
  else .next s

/-- R469: the ready event. -/
def execReadyEvent (s : State) : Host.Outcome State Fault Refusal :=
  if s.n .startPhase 0 = 3 ∧ s.boot.configured ∧ s.n .wickState 0 ≠ 0 ∧ ¬ s.voters.isEmpty ∧
      s.boot.imageChans.all (fun ch => s.laneState ch == 2 || s.laneState ch == 5) then
    let t := (s.put .startPhase 0 4).setBoot fun b => { b with readyAt := some s.now }
    .next (t.raiseChange .startPhase 0 3 4).autoConfirm
  else .next s

end Sys2Proof.Machine
end

