-- ==== Sys2Proof/Machine/Faults.lean ====
section
/-!
DEFINITION. Integrity (R377 to R395, R464): bus parity, memory errors, the scrubber, the reclaim sweep and Lantern's
rewrites, the watchdog, regulators, the oscillator, temperatures and the fault causes.
-/

namespace Sys2Proof.Machine

/-- The memory ID of R383. -/
def MemHit.mem : MemHit → Nat
  | .cellData _ => 0
  | .cellTag _ _ => 1
  | .queue _ => 2
  | .node _ _ | .policer _ => 3
  | .lane _ => 4
  | .record _ _ => 5
  | .entry _ _ => 6
  | .slot _ _ => 7
  | .gallery _ => 8
  | .rule _ => 9
  | .fragment _ => 10
  | .indirection _ => 11
  | .cache _ _ => 12
  | .stamp _ | .capture _ => 13
  | .buffer _ _ => 14

/-- Whether SECDED protects a memory; the others carry parity (R383). -/
def secded (mem : Nat) : Bool := mem < 8 || 12 ≤ mem

namespace State

/-! ### Frames -/

/-- The first cell of the frame that a cell belongs to. -/
def firstCell (s : State) (c : Nat) : Nat → Nat
  | 0 => c
  | k + 1 =>
    match s.tm.cells.find? fun p => match p.2 with | some t => t.next == some c | none => false with
    | some p => s.firstCell p.1 k
    | none => c

/-- A frame's verdict becomes fail (R303, R378): a transmission of it is ended with an inverted FCS or CRC. -/
def frameFail (s : State) (cell : Nat) : State :=
  match s.cellTag cell with
  | some g =>
    let mine := s.tm.cutting.filter fun x => x.2.cell == cell
    let s := s.setCell cell (some { g with verdict := 2 })
    let s := s.setTm fun m => { m with cutting := m.cutting.filter fun x => x.2.cell != cell }
    mine.foldl (fun t x => (t.cutAbort x.1 x.2).releaseFrame cell x.2.owner) s
  | none => s

/-- A frame discarded wherever it is queued. -/
def frameDrop (s : State) (cell : Nat) : State :=
  let s := s.frameFail cell
  let mine := s.holders cell
  let s := s.setTm fun m => { m with
    queues := (m.queues.map fun q => (q.1, q.2.filter fun d => d.cell != cell)).filter fun q => !q.2.isEmpty }
  mine.foldl (fun t d => t.releaseFrame cell d.owner) s

/-- BUS_PARITY_ERROR: the frame's verdict fails, or the framer inverts its FCS; a control access is retried once and has
its effect then. -/
def busParity (s : State) (bus : Nat) (use : BusUse) : State :=
  let s := ((s.bump .busParityErrors 0 1).putReg Reg.integBusParityLast (2147483648 + bus)).setBit Reg.integStatus 4 true
  let s := match use with
    | .frame cell => s.frameFail cell
    | .tree ch =>
      match tabGet (fun _ => none) s.tm.rest ch with
      | some r => s.emit (.inverted ch r.port)
      | none => s
    | .control | .idle => s
  s.raiseFault .busParityErrors 0

/-! ### Memory errors (R383, R384) -/

/-- A level of the scheduling tree by number. -/
def levelAt (k : Fin 7) : Level :=
  match k with
  | 0 => .queue | 1 => .terminal | 2 => .cg | 3 => .tree | 4 => .aggregate | 5 => .tx | 6 => .port

/-- A rule lost to parity (R247). -/
def ruleParity (s : State) (r : Nat) : State :=
  let s := ((s.bump .classParityErrors 0 1).putReg Reg.clsParityPos (2147483648 + r)).setBit Reg.clsStatus 8 true
  let s := s.raiseFault .classParityErrors 0
  if s.isSet .classRuleKey r ∧ ¬ s.gal.lostRules.contains r then
    s.setGal fun g => { g with lostRules := g.lostRules ++ [r] }
  else s

/-- A slot or an SA erased by an error and treated as Retired (R383); an empty one stays Empty. -/
def slotLost (s : State) (k : Fin 3) (i : Nat) : State :=
  if k = 2 then (if s.n .saState i = 0 then s.saErase i else (s.saErase i).put .saState i 3)
  else
    let bcast : Bool := k == 1
    if s.slotState bcast i = 0 then s.slotErase bcast i else (s.slotErase bcast i).put (slotObjs bcast).1 i 4

/-- A memory's action on an uncorrectable error or a parity failure. -/
def memAction (s : State) (hit : MemHit) : State :=
  match hit with
  | .cellData c => s.frameFail (s.firstCell c 64)
  | .cellTag c p =>
    let pool := match s.cellTag c with | some t => t.pool | none => p
    let s := if (s.cellTag c).isSome then s.frameDrop (s.firstCell c 64) else s
    s.setTm fun m => { m with withdrawn := m.withdrawn ++ [(c, pool)] }
  | .queue key =>
    let ds := s.queue key
    (s.setQueue key []).setTm fun m => { m with orphans := m.orphans ++ ds }
  | .node l i =>
    let n := s.node (levelAt l) i
    s.setNode (levelAt l) i { n with committed := 0, peak := 0, defC := 0, defE := 0 }
  | .policer i => s.setPolicer i { s.policer i with c := 0, p := 0 }
  | .lane l => if s.gl l = 3 ∨ s.gl l = 2 then s.laneOut l else s
  | .record t ch => if s.stateOn t ch = 0 then s else s.lostActions t ch
  | .entry k i => s.setBoot fun b => { b with skipped := b.skipped ++ [(k.val, i)] }
  | .slot k i => s.slotLost k i
  | .gallery p => s.galParity p
  | .rule r => s.ruleParity r
  | .fragment k => { s with frags := s.frags.eraseIdx k }
  | .indirection k => s.setGal fun g => { g with badIndir := g.badIndir ++ [k] }
  | .cache p k => s.setTm fun m => { m with emptied := m.emptied ++ [(p, min k (s.sharedFree p))] }
  | .stamp p =>
    match tabGet (fun _ => []) s.clk.ts p with
    | e :: rest => (s.setTsQueue p rest).tsLost p e
    | [] => s
  | .capture k =>
    if (s.captures k).isEmpty then s
    else
      let s := s.setClk fun c => { c with captures := tabPut (fun _ => []) c.captures k ((tabGet (fun _ => []) c.captures k).drop 1) }
      (s.bump .captOverflows k 1).setBit Reg.wickStatus 12 true
  | .buffer bus use => s.busParity bus use

/-- UNCORRECTABLE_ERROR: counted, latched and reported, with the memory's action. -/
def uncorrectable (s : State) (hit : MemHit) (row : Nat) : State :=
  let m := hit.mem
  let s := (s.bump .memUncorrectable m 1).put .memLastAddress m row
  let s := (s.putReg Reg.integEccLast (2147483648 + (if secded m then 256 else 0) + m)).putReg Reg.integEccLastAddr
    (row % 16777216)
  let s := s.setBit Reg.integStatus 3 true
  let s := if secded m then s.setCause 5 else s
  (s.memAction hit).raiseFault .memUncorrectable m

/-- SINGLE_BIT_ERROR: corrected on access, and written back. -/
def corrected (s : State) (m row : Nat) : State :=
  (((s.bump .memCorrected m 1).put .memLastAddress m row).setBit Reg.integStatus 2 true).count 0xD00 m 1

/-- RECLAIM_SWEEP: the cells of purged queues released, and emptied caches filled again. -/
def reclaim (s : State) : State :=
  let ds := s.tm.orphans
  let s := s.setTm fun m => { m with orphans := [], emptied := [] }
  ds.foldl (fun t d => t.releaseFrame d.cell d.owner) s

/-- SHADOW_REWRITE: Lantern rewrites what has been skipped. -/
def rewrite (s : State) : State :=
  (s.setBoot fun b => { b with skipped := [] }).setGal fun g => { g with badIndir := [] }

/-! ### Supply and oscillator (R393, R394) -/

/-- A rail out of its window for 1 µs. -/
def railFault (s : State) (r : Fin 4) : State :=
  let s := ((s.putRail r (.faulted s.now)).bump .regulatorFaults 0 1).lifeCount 8 1
  match r with
  | 0 => ((s.setCause 2).setCause 3).bump .oscillatorLosses 0 1 |>.lifeCount 9 1 |>.enterWick 5
  | 1 => (s.setCause 2).raiseFault .regulatorFaults 0
  | 2 =>
    let (k, s) := (s.setCause 2).draw
    s.lanternReset (Config.freeValue 3 k).toNat
  | 3 =>
    let s := (s.dieReset 3 true).setCause 2
    let s := (s.setBoot fun b => { b with cause := 6 }).put .startCause 0 6
    (s.lifeCount 1 1).raiseL 4 .regulatorFaults 0 (beBytes 4 s.faultWord)

/-- The die that a rail feeds stands tripped at 125 °C (R464). -/
def tripped (s : State) (r : Fin 4) : Bool := (r == 2 && s.boot.tripLantern) || (r == 3 && s.boot.tripDie)

/-- FAULT_CAUSE_CLEAR: latched causes that are written 1 are cleared, but those that the hardware sets in the same cycle
stay; HEADLESS and SELFTEST cannot be cleared. -/
def causeClear (s : State) (mask hw : Nat) : State :=
  s.put .faultCause 0 ((List.range 8).foldl (fun w k =>
    if 1 ≤ k ∧ k ≤ 6 ∧ mask / 2 ^ k % 2 = 1 ∧ hw / 2 ^ k % 2 = 0 then putBits k k w 0 else w) (s.faultWord ||| hw))

/-- The effect of a write of FaultCauseClear. -/
def causeClearEff (hw : Nat) : Eff := fun s _ _ bs => (s.causeClear (beNat bs) hw, Abort.ok)

end State

open State

/-- R378: a parity error on an internal bus. -/
def execBusParityError (bus : Fin 256) (carried : BusUse) (s : State) : Host.Outcome State Fault Refusal :=
  if s.fabricRuns then .next (s.busParity bus carried) else .next s

/-- R383: an uncorrectable error or a parity failure. -/
def execUncorrectableError (hit : MemHit) (row : Fin 16777216) (s : State) : Host.Outcome State Fault Refusal :=
  if s.fabricRuns then .next (s.uncorrectable hit row) else .next s

/-- R384: a single-bit error in a memory that SECDED protects. -/
def execSingleBitError (mem : Fin 15) (row : Fin 16777216) (s : State) : Host.Outcome State Fault Refusal :=
  if s.fabricRuns ∧ secded mem then .next (s.corrected mem row) else .next s

/-- R385: a pass of the scrubber ends. -/
def execScrubPass (s : State) : Host.Outcome State Fault Refusal :=
  if s.fabricRuns ∧ s.on .integrityScrubEnable 0 then .next ((s.bump .scrubPasses 0 1).setBit Reg.integStatus 5 true)
  else .next s

/-- R383: the reclaim sweep. -/
def execReclaimSweep (s : State) : Host.Outcome State Fault Refusal := .next s.reclaim

/-- R383: Lantern, while it is available, rewrites what memory errors have taken. -/
def execShadowRewrite (s : State) : Host.Outcome State Fault Refusal := if s.avail then .next s.rewrite else .next s

/-- R392: INTEG_CTRL.KICK. -/
def execWatchdogKick (s : State) : Host.Outcome State Fault Refusal :=
  .next (s.setBoot fun b => { b with kick := s.now })

/-- R392: no kick for 200 ms, while Lantern's firmware runs and WDOG_EN is 1. -/
def execWatchdogExpiry (s : State) : Host.Outcome State Fault Refusal :=
  if s.boot.lanternUp ∧ ¬ s.boot.recovery ∧ ¬ s.boot.glim ∧ ¬ s.boot.dieReset ∧ s.bit Reg.integCtrl 3 ∧
      s.boot.kick + 200 * Tm.ms ≤ s.now then
    .next ((((s.setCause 1).bump .watchdogExpiries 0 1).setBit Reg.integStatus 0 true).lanternReset 4)
  else .next s

/-- R393: a rail leaves its window for 1 µs. -/
def execRegulatorFault (rail : Fin 4) (s : State) : Host.Outcome State Fault Refusal :=
  if s.boot.rails[rail] = .inWindow then .next (s.railFault rail) else .next s

/-- R393: a faulted rail has been back in its window for 10 ms. -/
def execRailRecovery (rail : Fin 4) (s : State) : Host.Outcome State Fault Refusal :=
  match s.boot.rails[rail] with
  | .faulted t => if t + 10 * Tm.ms ≤ s.now ∧ ¬ s.tripped rail then .next (s.railUp rail) else .next s
  | _ => .next s

/-- R394: the 40 MHz reference is lost. -/
def execOscillatorLoss (s : State) : Host.Outcome State Fault Refusal :=
  if s.wickRuns then .next ((((s.setCause 3).bump .oscillatorLosses 0 1).lifeCount 9 1).enterWick 5) else .next s

/-- R395: a host write of FaultCauseClear; `hw` are the causes that the hardware sets in the same cycle. -/
def execFaultCauseClear (m : Master) (mask : Nat) (hw : BitVec 8) (s : State) : Host.Outcome State Fault Refusal :=
  .next (s.hostWrite m .faultCauseClear 0 (beBytes 4 mask) (causeClearEff hw.toNat))

/-- R464: a die's junction at 125 °C turns its rail off, which R393 detects. -/
def execThermalTrip (lantern : Bool) (s : State) : Host.Outcome State Fault Refusal :=
  let r : Fin 4 := if lantern then 2 else 3
  if s.boot.rails[r] = .inWindow then
    .next ((s.setBoot fun b => if lantern then { b with tripLantern := true } else { b with tripDie := true }).railFault r)
  else .next s

/-- R464: the junction falls below 115 °C: the rail comes back, and its 10 ms run. -/
def execThermalRecovery (lantern : Bool) (s : State) : Host.Outcome State Fault Refusal :=
  let r : Fin 4 := if lantern then 2 else 3
  if s.tripped r then
    .next ((s.setBoot fun b => if lantern then { b with tripLantern := false } else { b with tripDie := false }).putRail r
      (.faulted s.now))
  else .next s

/-- R464: the case rises above CaseTempWarn. -/
def execCaseTempWarn (milli : Int) (s : State) : Host.Outcome State Fault Refusal :=
  if s.num .caseTempWarn 0 < milli ∧ ¬ s.boot.caseWarned ∧ s.wickRuns then
    let t := ((s.puti .caseTemperature 0 milli).setBit Reg.glbPfw 9 true).setBoot fun b => { b with caseWarned := true }
    .next (t.raise 2 .caseTempWarn 0 (beBytes 4 (twos 32 (t.num .caseTempWarn 0))))
  else .next s

/-- R464: the case has fallen 2 °C below CaseTempWarn. -/
def execCaseTempRearm (milli : Int) (s : State) : Host.Outcome State Fault Refusal :=
  if s.boot.caseWarned ∧ milli ≤ s.num .caseTempWarn 0 - 2000 then
    .next ((s.puti .caseTemperature 0 milli).setBoot fun b => { b with caseWarned := false })
  else .next s

end Sys2Proof.Machine
end

