-- ==== Sys2Proof/Machine/ObjRead.lean ====
section
/-!
DEFINITION. What a read of an object shows (R408): the stored value, the value that an unset default resolves to, or what
an object that reports the machine's state shows at the read; ConfigDigest (R373); and the objects that a register
carries (R516).
-/

namespace Sys2Proof.Machine

namespace State

/-! ### Defaults that depend on other objects or on the part -/

/-- A bool as a number. -/
def flagNum (b : Bool) : Val := .num (if b then 1 else 0)

/-- What a default that the store marks as unset resolves to (R75, R82, R117, R308, R309, R363, R374). -/
def resolve (s : State) (o : Obj) (i : Nat) : Val :=
  match o with
  | .deviceBaseMac => .num Config.baseMac.toNat
  | .channelUpGuard => .num (s.guardOf i)
  | .burstProfilePreambleBits => .num (s.profileOf (i / 4) (i % 4)).preamble
  | .burstProfilePreamblePattern => .oct (s.profileOf (i / 4) (i % 4)).pattern
  | .burstProfileDelimiterBits => .num (s.profileOf (i / 4) (i % 4)).dbits
  | .burstProfileDelimiter => .num (s.profileOf (i / 4) (i % 4)).delimiter
  | .burstProfileThreshold => .num (s.profileOf (i / 4) (i % 4)).threshold
  | .burstProfileFec => flagNum (s.profileOf (i / 4) (i % 4)).fec
  | .channelDevTxDelay => .num (Config.devTxDelay i)
  | .channelDevRxDelay => .num (Config.devRxDelay i)
  | .uplinkFec => .num (s.uplinkFecOf i)
  | .uplinkMacAddress => .num (s.uplinkMacOf i)
  | .saPnSoft => .num (s.saSoft i)
  | .saPnHard => .num (s.saHard i)
  | .attestPublicKey => .oct Config.attestKey.toList
  | .attestCertificate => .oct (Config.attestCertificate.take 8192)
  | .dieIdentity => .oct (Config.dieIdentity i).toList
  | .packageSerial => .oct Config.packageSerial.toList
  | _ => .unset

/-- A value, with an unset default resolved. -/
def settledVal (s : State) (o : Obj) (i : Nat) (v : Val) : Val := if v = .unset then s.resolve o i else v

/-- The default that the manual states for an object's instance. -/
def tableDefault (s : State) (o : Obj) (i : Nat) : Val :=
  if o = .channelAsymmetry then .num (asymDefault (s.gen i) (s.n .channelUpBand i))
  else (s.putVal o i .unset).settledVal o i (o.info.dflt i)

/-- The default in force, resolved (R422). -/
def defaultNow (s : State) (o : Obj) (i : Nat) : Val :=
  if s.lan.commission.any fun r => r.code == o.code && r.inst == i then s.defaultOf o i else s.tableDefault o i

/-! ### Objects that report the machine's state -/

/-- IntegrityGuarantee: every condition of R391 that the device can observe holds. -/
def guarantee (s : State) : Bool :=
  s.on .integrityScrubEnable 0 && s.on .integrityMonitorEnable 0 && s.on .grantVoteEnable 0 &&
  s.bit Reg.integCtrl 3 && s.boot.lanternUp && !s.boot.recovery && !s.ucie.headless

/-- The four classes of slots, and those pending: SlotsTotal (R504). -/
def slotSum (s : State) (k : Nat) : Nat :=
  s.n .slotsRetired k + s.n .slotsWasted k + s.n .slotsFrontStarved k + s.n .slotsBackStarved k + s.n .slotsPending k

/-- The level of the scheduling node that a token object belongs to, and whether it shows the peak bucket. -/
def tokenObj (o : Obj) : Option (Level × Bool) :=
  match o with
  | .queueNodeCommittedTokens => some (.queue, false)
  | .queueNodePeakTokens => some (.queue, true)
  | .terminalNodeCommittedTokens => some (.terminal, false)
  | .terminalNodePeakTokens => some (.terminal, true)
  | .cgNodeCommittedTokens => some (.cg, false)
  | .cgNodePeakTokens => some (.cg, true)
  | .treeNodeCommittedTokens => some (.tree, false)
  | .treeNodePeakTokens => some (.tree, true)
  | .aggregateNodeCommittedTokens => some (.aggregate, false)
  | .aggregateNodePeakTokens => some (.aggregate, true)
  | .txQueueNodeCommittedTokens => some (.tx, false)
  | .txQueueNodePeakTokens => some (.tx, true)
  | .portNodeCommittedTokens => some (.port, false)
  | .portNodePeakTokens => some (.port, true)
  | _ => none

/-- Counters of the counter block, which a held snapshot freezes for reads (R501). -/
def blockCounter (o : Obj) : Bool :=
  ([.counterValue, .counterSecondValue, .slotsRetired, .slotsWasted, .slotsFrontStarved, .slotsBackStarved, .upWordsCarried,
    .upWordsBlocked, .upWordsStarved, .upWordsIdle] : List Obj).contains o

/-- What an object shows that is not kept in the store; none for a stored one. -/
def live (s : State) (o : Obj) (i : Nat) : Option Val :=
  match o with
  | .deviceUptime => some (.num ((s.now - s.boot.lanternStart) / Tm.s : Nat))
  | .masterKeySet => some (flagNum (s.nvm.keys.getD i none).isSome)
  | .masterCounterFloor => some (.num (s.counterFloor (Fin.ofNat 3 i)))
  | .masterClaims => some (.num (s.lan.claims.filter fun c => c.master.val == i).length)
  | .masterEventMask => some (.num (s.n .masterEventMask i / 2 * 2 : Nat))
  | .sconceAlertMask => some (.num (s.n .sconceAlertMask i / 2 * 2 : Nat))
  | .imageReceived => some (.num (s.lan.uploads[Fin.ofNat 2 i]).bytes.length)
  | .treeEnable => if i % 2 = 1 ∧ (s.pairMode i ≠ 0 ∨ s.dualCage i) then some (.num 0) else none
  | .snuffActive => some (.num s.snuffs.length)
  | .channelTerminalsActive => some (.num (s.activeOn i).length)
  | .channelCommittedWords => some (.num (s.committedWords i))
  | .channelSuperframe => some (.num (s.superframe i))
  | .galleryEntries => some (.num s.galAll.length)
  | .galleryStashUsed => some (.num s.gal.stash.length)
  | .galleryStaticEntries => some (.num s.gal.shadow.length)
  | .galleryFlushQueue => some (.num s.gal.flushes.length)
  | .domainEntries => some (.num (s.galCount fun e => e.domain == i))
  | .domainFloodFlows => some (.num (s.withNum .flowFloodDomain i).length)
  | .terminalLearnedEntries => some (.num (s.learnedEntries i))
  | .classRulesUsed => some (.num s.rulesUsed)
  | .classFragUsed => some (.num (s.frags.filter s.fragLive).length)
  | .classProfileRules => some (.num (s.profileRules i))
  | .sumpCellsUnassigned => some (.num s.unassigned)
  | .poolSharedFree => some (.num (s.sharedFree i))
  | .wickTime => some (.num s.wick)
  | .cipherCoresAllotted => some (.num s.coresAllotted)
  | .cipherCoresFree => some (.num (576 - s.coresAllotted : Nat))
  | .commissionKey => if s.nvm.commissionKey.isEmpty then none else some (.oct s.nvm.commissionKey)
  | .attestReport =>
    let r := s.lan.reports[Fin.ofNat 3 i]
    if r.isEmpty then none else some (.oct r)
  | .attestIndexNext => some (.num s.lan.sigNext)
  | .attestIndexRemaining => some (.num (1048576 - s.lan.sigNext : Nat))
  | .integrityGuarantee => some (flagNum s.guarantee)
  | .memSparesUsed => some (.num (Config.sparesUsed i).toNat)
  | .slotsTotal => some (.num ((s.counterView 14).slotSum i))
  | .lifetimeRecord => some (.oct s.lifeBytes)
  | o =>
    match tokenObj o with
    | some (l, peak) => some (.num (s.tokens l i peak))
    | none => if blockCounter o then some ((s.counterView 14).val o i) else none

/-! ### The bytes of a read -/

/-- The value that a read shows, before ConfigDigest and RawRegister, which the bytes of other objects determine. -/
def shownVal (s : State) (o : Obj) (i : Nat) : Val :=
  match s.live o i with
  | some v => v
  | none => s.settledVal o i (s.val o i)

/-- A record of ConfigDigest: index, subindex, instance, length and value. -/
def digestRecord (o : Obj) (i : Nat) (bs : List Byte) : List Byte :=
  beBytes 3 o.code ++ beBytes 3 i ++ beBytes 2 bs.length ++ bs

/-- Whether an object's value enters ConfigDigest. -/
def digested (o : Obj) : Bool := o.info.acc == .rw || o.info.acc == .rwl || o.info.acc == .wo1

/-- The records of ConfigDigest, in the order of the keys. -/
def digestBody (s : State) : List Byte :=
  s.objs.flatMap fun p =>
    match Obj.find (p.1 / 16777216) with
    | some o =>
      let i := p.1 % 16777216
      let bs := o.info.ty.encode (s.shownVal o i)
      if digested o ∧ bs ≠ o.info.ty.encode (s.tableDefault o i) then digestRecord o i bs else []
    | none => []

/-- ConfigDigest (R373). -/
def configDigest (s : State) : List Byte := (Config.shake256 s.digestBody).toList

end State

/-! ### The objects of a register (R516) -/

/-- The object whose value a field holds. -/
def RHome.carries : RHome → Option (Obj × Nat)
  | .obj o i _ | .sat o i | .octw o i _ | .temp o i | .nulVal o i _ | .nulFlag o i _ _ _ _ => some (o, i)
  | _ => none

/-- The objects that a computed field shows, for register `k` of a row. -/
def RegView.carries (v : RegView) (a k : Nat) : List (Obj × Nat) :=
  match v with
  | .powerState => [(.devicePowerStateActual, 0)]
  | .snuffActive => [(.snuffActive, 0)]
  | .wickNsLo => [(.wickTime, 0)]
  | .wickOvenReady => [(.ovenState, 0)]
  | .holdElapsed => [(.timeHoldoverElapsed, 0)]
  | .lostLog 0 => [(.lostStampSequenceId, k), (.lostStampMessageType, k), (.lostStampDomain, k)]
  | .lostLog _ => [(.lostStampTime, k)]
  | .captNs _ | .captInfo => [(.captNext, k)]
  | .galEntries => [(.galleryEntries, 0)]
  | .paramDepth => [(if a < 0xC80000 then .txQueueHeadDelay else .queueHeadDelay, k)]
  | .uplLinkUp => [(.uplinkLinkState, k)]
  | .psgUp | .psgDegraded => [(.passagePortState, k)]
  | .ucieWidthX8 => [(.ucieWidth, 0)]
  | _ => []

/-- The objects held by a register whose bits are its own. -/
def ownCarries (a k : Nat) : List (Obj × Nat) :=
  if a = Reg.glbPowerCtrl then [(.devicePowerState, 0)]
  else if a = Reg.wickNsHi ∨ a = Reg.wickFrac then [(.wickTime, 0)]
  else if a = Reg.tcDsSfcHi k then [(.channelSuperframe, k)]
  else if a = Reg.tcDsSfcHi k - 4 then [(.channelSuperframe, k)]
  else if a = Reg.tcUsHdrErrCnt k then [(.upHeaderErrors, k), (.upMisdirected, k)]
  else if 0x1401000 ≤ a ∧ a < 0x1405000 ∧ a % 0x400 / 0x200 = 1 then
    let c := (a - 0x1401000) / 0x400 * 16 + a % 0x200 / 0x20
    if a % 0x20 = 8 then [(.counterValue, c)] else if a % 0x20 = 0x18 then [(.counterSecondValue, c)] else []
  else if 0x1408000 ≤ a ∧ a < 0x1408180 then
    (match a % 0x40 with
      | 0x04 => [(.slotsRetired, k)]
      | 0x0C => [(.slotsWasted, k)]
      | 0x14 => [(.slotsFrontStarved, k)]
      | 0x1C => [(.slotsBackStarved, k)]
      | _ => [])
  else []

/-- The keys of the objects that the register at an address carries, rising. -/
def carriedKeys (a : Nat) : List Nat :=
  match regAt a with
  | some (d, k) =>
    let one (f : RegField) : List (Obj × Nat) :=
      match f.home with
      | .view v => v.carries a k
      | .own => ownCarries a k
      | h => h.carries.toList
    let ks := ((d.fields k).flatMap one).map fun x => x.1.key x.2
    (ks.foldl (fun (t : Tab Unit) x => tabPlace (tabErase t x) x ()) []).map fun p => p.1
  | none => []

namespace State

/-- The records of RawRegisterObjects. -/
def carriedBytes (a : Nat) : List Byte := (carriedKeys a).flatMap fun k => beBytes 6 k

/-- The bytes that a read of an object shows. -/
def shown (s : State) (o : Obj) (i : Nat) : List Byte :=
  match o with
  | .configDigest => s.configDigest
  | .rawRegisterObjects => carriedBytes (4 * i)
  | o => if o.info.acc = .wo then List.replicate o.info.ty.minLen 0 else o.info.ty.encode (s.shownVal o i)

end State
end Sys2Proof.Machine
end

