-- ==== Sys2Proof/Machine/RegRead.lean ====
section
/-!
DEFINITION. Reads of the head-end die's registers (R12, R13, R425, R426): the value of every field of the register tables,
the snapshot that a block's counters show (R442), and the side effects of a read.
-/

namespace Sys2Proof.Machine

namespace State

/-! ### Addresses with a side effect -/

/-- The counter whose registers hold the address, and the offset within them. -/
def counterAt (a : Nat) : Option (Nat × Nat) :=
  if 0x1401000 ≤ a ∧ a < 0x1405000 ∧ 0x200 ≤ a % 0x400 then
    some ((a - 0x1401000) / 0x400 * 16 + a % 0x200 / 0x20, a % 0x20)
  else none

/-- Whether the address is the low half of a slot count, whose high half a read latches. -/
def slotLow (a : Nat) : Bool := 0x1408000 ≤ a && a < 0x1408180 && a % 0x40 < 0x20 && a % 8 == 0

/-! ### Computed fields (R72, R100, R136, R177, R212, R239, R289, R306, R325, R350, R376, R401, R442, R492, R515) -/

/-- A word of a timestamp entry in the layout of ENTRY0 to ENTRY3; the stamp counts 2^-16 ns. -/
def stampWord (j seq type dom stamp : Nat) (valid : Bool) : Nat :=
  match j with
  | 0 => seq + type * 65536 + dom * 1048576 + (if valid then 2147483648 else 0)
  | 1 => stamp % 65536 + stamp / 65536 % 65536 * 65536
  | 2 => stamp / 4294967296 % 4294967296
  | _ => stamp / 18446744073709551616 % 65536

/-- A word of the oldest entry of a port's timestamp queue. -/
def tsWord (s : State) (p j : Nat) : Nat :=
  match s.tsQueue p with
  | e :: _ => stampWord j e.seq e.type e.dom e.stamp true
  | [] => 0

/-- A word of a lost-stamp log entry. -/
def lostWord (s : State) (i j : Nat) : Nat :=
  stampWord j (s.n .lostStampSequenceId i) (s.n .lostStampMessageType i) (s.n .lostStampDomain i)
    (s.n .lostStampTime i / 65536) (decide (i < s.n .lostStampTotal 0))

/-- Nanoseconds low and high, and fraction, of a time. -/
def timeWord (t j : Nat) : Nat :=
  match j with
  | 0 => t / 4294967296 % 4294967296
  | 1 => t / 18446744073709551616 % 4294967296
  | _ => t % 4294967296

/-- The oldest capture of an input. -/
def captHead (s : State) (k : Nat) : Nat × Nat := (s.captures k).head?.getD (0, 0)

/-- The classes of a port that a test selects, as a mask. -/
def classMask (p : Nat → Bool) : Nat := ((List.range 8).map fun c => if p c then 2 ^ c else 0).foldl (· + ·) 0

/-- Units with an overflow flag set. -/
def overflowUnits (s : State) : Nat :=
  ((List.range 16).map fun u => if (s.withNum .counterOverflow 1).any fun c => c / 16 == u then 2 ^ u else 0).foldl (· + ·) 0

/-- A word of the result of the latest Gallery command. -/
def galWord4 (s : State) (k : Nat) : Nat :=
  let bs := (s.oct .galleryResult s.gal.lastBy).drop (4 * k) |>.take 4
  beNat (bs ++ List.replicate (4 - bs.length) 0)

/-- A bool as a bit. -/
def bitOf (b : Bool) : Nat := if b then 1 else 0

/-- The value of a computed field of register `k` of a row, at address `a`. -/
def viewVal (s : State) (a k : Nat) (v : RegView) : Nat :=
  match v with
  | .stageWrites => (s.stage.openSet.map List.length).getD 0
  | .stageOpen => bitOf s.stage.openSet.isSome
  | .stageWaiting => s.stage.waiting.length
  | .powerState => s.n .devicePowerStateActual 0
  | .clkRun => s.clkRunning
  | .snuffActive => s.snuffs.length
  | .wickNsLo => timeWord s.wick 0
  | .wickQualified => bitOf s.qualified
  | .wickOvenReady => bitOf (s.n .ovenState 0 == 1)
  | .holdElapsed => s.n .timeHoldoverElapsed 0
  | .tsEntry j => s.tsWord k j
  | .lostLog j => s.lostWord k j
  | .captNs j => timeWord (s.captHead k).1 j
  | .captInfo => (s.captHead k).2
  | .framerRunning => bitOf (s.framing k)
  | .receiverRunning => bitOf (s.laneState k == 2 && s.bit (Reg.tcUsCtrl k) 0)
  | .actSuspended => bitOf (s.sending k && !s.windowsRun k)
  | .actRunning => bitOf (s.bit (Reg.actCtrl k) 0 && s.sending k)
  | .reloadActive => bitOf s.grants.reload.isSome
  | .fsyncConfirmed => bitOf s.grants.fsyncOk
  | .allocCount => (s.dem k).grants
  | .allocLast => (s.dem k).last
  | .allocCoop => bitOf (s.grants.chans.any fun c => c.2.orders.any fun x => x.alloc == k)
  | .trimming => bitOf (s.gch k).trimmed
  | .galEntries => s.galAll.length - s.gal.stash.length
  | .galStashFull => bitOf (s.gal.stash.length == 64)
  | .galFlushActive => bitOf s.gal.flushing
  | .galLearnDepth => (s.gal.queues.toList.map List.length).foldl max 0
  | .galLearnPeak => s.gal.learnPeak
  | .galRsp j => s.galWord4 j
  | .galAbort => s.gal.abort
  | .blockRunning => bitOf (s.bit (a - 4) 0 && s.fabricRuns)
  | .paramDepth => min 4294967295 (s.n (if a < 0xC80000 then .txQueueHeadDelay else .queueHeadDelay) k / 100)
  | .sumpRebuilding => bitOf s.tm.rebuilding
  | .uplPeerPaused => bitOf ((List.range 8).any fun c => s.stopped k c)
  | .uplPauseSent => bitOf ((s.upl k).announced != 0)
  | .uplStopped => classMask fun c => s.stopped k c
  | .uplAnnounced => (s.upl k).announced
  | .uplFecLock => bitOf (s.n .uplinkLinkState k == 2 && s.uplinkFecOf k != 0)
  | .uplLinkUp => bitOf (s.n .uplinkLinkState k == 2)
  | .psgUp => bitOf (s.n .passagePortState k == 2 || s.n .passagePortState k == 3)
  | .psgDegraded => bitOf (s.n .passagePortState k == 3)
  | .psgRunning => bitOf (s.bit 0x1100000 0 && s.fabricRuns)
  | .keyState => s.selState
  | .keyLocked => bitOf s.selLocked
  | .keyUsageLo => s.selUsage % 4294967296
  | .selftestFail => s.faultWord / 128 % 2
  | .headless => bitOf s.ucie.headless
  | .ucieWidthX8 => bitOf (s.n .ucieLinkState 0 == 3)
  | .unitOvf => s.overflowUnits

/-- An SC bit reads 1 until its command has completed (R12). -/
def cmdVal (s : State) (k : Nat) (c : RegCmd) : Nat :=
  match c with
  | .glimGo => bitOf (s.bit Reg.glbPowerCtrl 8)
  | .wickStep => bitOf (match s.clk.step with | some (.offset _, _) => true | _ => false)
  | .rxCal => bitOf (s.lane k).cal
  | .huntAbort => bitOf (match (s.act k).hunt with | some h => h.abort | none => false)
  | .grantReload => bitOf (s.grants.reloadDue || s.grants.reload.isSome)
  | .grantTest => bitOf s.grants.test.isSome
  | .grantRelease => bitOf (s.grants.lanes.toList.any fun r => r.released)
  | .ucieRetrain => bitOf (s.n .ucieLinkState 0 == 4 && !s.ucie.widening)
  | .ucieWiden => bitOf (s.n .ucieLinkState 0 == 4 && s.ucie.widening)
  | .recordClr _ | .stageOpen | .stageDiscard | .commitGo | .captClr | .trigArm | .prbsClr | .quietNow
  | .galGo | .paramRead | .paramWriteC | .paramWriteP | .keyLoad | .keyLock | .keyErase | .wdogKick => 0

/-! ### Fields and words -/

/-- Whether a field shows a counter of its block, which a snapshot of the block freezes (R442). -/
def counterField (a : Nat) (f : RegField) : Bool :=
  match f.home with
  | .sat _ _ => true
  | .obj o _ _ => blockCounter o || (o.info.acc == .ro && o.info.ty == .u64 &&
      !([.channelSuperframe, .saNextPn, .wickIncrement] : List Obj).contains o)
  | .own => f.acc == .ro && f.hi == 31 && f.lo == 0 &&
      (blockOf a == 2 || blockOf a == 3 || blockOf a == 4 || a == Reg.tmMismatchCnt)
  | _ => false

/-- The value of a field's bits. -/
def fieldVal (s : State) (a k : Nat) (f : RegField) : Nat :=
  let w := f.hi - f.lo + 1
  let s := if counterField a f then s.counterView (blockOf a) else s
  match f.home with
  | .own => s.reg a / 2 ^ f.lo % 2 ^ w
  | .obj o i sh => beNat (s.shown o i) / 2 ^ sh % 2 ^ w
  | .sat o i => min (2 ^ w - 1) (beNat (s.shown o i))
  | .octw o i j => beNat (((s.shown o i).drop j).take 4) % 2 ^ w
  | .temp o i => twos w (s.num o i * 64 / 1000)
  | .nulVal o i null => if s.n o i = null then 0 else s.n o i % 2 ^ w
  | .nulFlag o i null _ _ pol => bitOf ((s.n o i == null) == pol)
  | .view v => s.viewVal a k v % 2 ^ w
  | .cmd c => s.cmdVal k c

/-- The word that a register shows; no register reads as zero (R13). -/
def regWord (s : State) (a : Nat) : Nat :=
  match regAt a with
  | some (d, k) => (d.fields k).foldl (fun w f => putBits f.hi f.lo w (s.fieldVal a k f)) 0
  | none => 0

/-- What a read does beside returning a value: latches and the removal of queue entries. -/
def readEffect (s : State) (a : Nat) : State :=
  if a = 0x100008 then (s.putReg Reg.wickNsHi (timeWord s.wick 1)).putReg Reg.wickFrac (timeWord s.wick 2)
  else if a = 0x1200048 then s.putReg Reg.ciphKeyUsageHi (s.selUsage / 4294967296)
  else if a = Reg.galLearnQ then s.setGal fun g => { g with learnPeak := (g.queues.toList.map List.length).foldl max 0 }
  else if slotLow a then
    let o : Obj := [Obj.slotsRetired, .slotsWasted, .slotsFrontStarved, .slotsBackStarved].getD (a % 0x40 / 8) .slotsRetired
    s.putReg (a + 4) ((s.counterView 14).n o ((a - 0x1408000) / 0x40) / 4294967296)
  else
    match counterAt a with
    | some (c, 4) => (s.cntValLoRead c).1
    | some (c, 0x14) => s.putReg (a + 4) ((s.counterView 14).n .counterSecondValue c / 4294967296)
    | _ =>
      if 0x101000 ≤ a ∧ a < 0x101280 ∧ a % 0x20 = 0x10 then
        let p := (a - 0x101000) / 0x20
        s.setTsQueue p (s.tsQueue p).tail
      else if 0x104000 ≤ a ∧ a < 0x104100 ∧ a % 0x20 = 0x10 then (s.captNext ((a - 0x104000) / 0x20)).1
      else if blockOf a = 2 ∧ a % 0x10000 = 8 then
        let ch := (a - 0x200000) / 0x10000
        s.putReg (Reg.tcDsSfcHi ch) (s.superframe ch / 4294967296 % 524288)
      else s

/-- A read of a register: the word shown, then the side effects (R426). -/
def regRead (s : State) (a : Nat) : State × Nat :=
  let s := s.touchBlock (blockOf a)
  (s.readEffect a, s.regWord a)

/-- Lantern reaches the head-end die's registers over the link (R436). -/
def reach (s : State) : Bool := s.fabricRuns && s.boot.lanternUp && s.linkActive

/-- A register access of Lantern's own, where it reaches the die. -/
def readAt (s : State) (a : Nat) : State := if s.reach then (s.regRead a).1 else s

end State

open State

/-- R212: a read of WICK_NS_LO latches WICK_NS_HI and WICK_FRAC. -/
def execWickNsLoRead (s : State) : Host.Outcome State Fault Refusal := .next (s.readAt 0x100008)

/-- R72: a read of TC_DS_SFC_LO latches bits 50 to 32 of the superframe counter, zero on GPON. -/
def execTcDsSfcLoRead (ch : Chan) (s : State) : Host.Outcome State Fault Refusal :=
  .next (s.readAt (0x200008 + ch.val * 0x10000))

/-- R376: a read of CIPH_KEY_USAGE_LO latches CIPH_KEY_USAGE_HI. -/
def execCiphKeyUsageLoRead (s : State) : Host.Outcome State Fault Refusal := .next (s.readAt 0x1200048)

/-- R500: a read of CNT_VAL_LO latches CNT_VAL_HI. -/
def execCntValLoRead (c : Fin 256) (s : State) : Host.Outcome State Fault Refusal :=
  .next (s.readAt (Reg.cntValHi c - 4))

/-- R212: a read of TS_TX_ENTRY3 removes the oldest entry. -/
def execTsTxEntry3Read (p : Port) (s : State) : Host.Outcome State Fault Refusal :=
  .next (s.readAt (0x101010 + p.val * 0x20))

/-- R212: a read of CAPT_INFO removes the oldest entry. -/
def execCaptInfoRead (k : Trig) (s : State) : Host.Outcome State Fault Refusal :=
  .next (s.readAt (0x104010 + k.val * 0x20))

end Sys2Proof.Machine
end

