-- ==== Sys2Proof/Machine/RegWrite.lean ====
section
/-!
DEFINITION. Writes of the head-end die's registers (R12, R13, R426 to R431): each field by the row of its kind where a
hardware update falls in the same cycle, the limits that the register tables state, locks and write-once registers, the
records of R430, the commands of SC bits, and the stage buffer.
-/

namespace Sys2Proof.Machine

/-- The acknowledgement of a register write (R426). -/
inductive RegStatus where
  | done | lock | once | lost
  deriving DecidableEq, Repr

/-- What a register write carries beside address and value: the hardware update of the same cycle, and the master on whose
behalf Lantern makes it through the raw register window. -/
structure RegOrigin where
  hw : HwUpdate
  raw : Option Master
  deriving DecidableEq

/-- A write of Lantern's own with no hardware update. -/
def RegOrigin.plain : RegOrigin := ⟨⟨0, 0⟩, none⟩

/-- Bits of `x` that are not set in `m`. -/
def clearBits (x m : Nat) : Nat := x ^^^ (x &&& m)

/-- The bits of a field, in place. -/
def RegField.mask (f : RegField) : Nat := 2 ^ (f.hi + 1) - 2 ^ f.lo

/-- A field's value in a word. -/
def RegField.of (f : RegField) (v : Nat) : Nat := v / 2 ^ f.lo % 2 ^ (f.hi - f.lo + 1)

/-- The bits of a register that hardware clears or sets although software may write them (R427). -/
def hwBits (a : Nat) : Nat :=
  if blockOf a = 3 ∧ a % 0x4000 = 0 then 1 else if a = Reg.grantComputeMax then 0xFFFF else 0

namespace State

/-! ### Records (R11, R430) -/

/-- The word of a record: address, VALID, and OVERRUN where it already held a valid address. -/
def recordWord (old a : Nat) : Nat :=
  a % 33554432 + 2147483648 + (if old / 2147483648 % 2 = 1 then 1073741824 else 0)

/-- A lock or write-once violation. -/
def violation (s : State) (a : Nat) : State :=
  ((s.put .regLockViolation 0 (recordWord (s.n .regLockViolation 0) a)).bump .regLockViolations 0 1).raise 9
    .regLockViolation 0 (beBytes 4 a)

/-- A write lost to a hardware change. -/
def writeLost (s : State) (a : Nat) : State :=
  let s := (s.put .regWriteLost 0 (recordWord (s.n .regWriteLost 0) a)).bump .regWritesLost 0 1
  let s := if blockOf a = 3 ∧ a % 0x4000 = 0 then s.setBit (a + 4) 13 true else s
  s.raiseRefusal .regWriteLost 0 Abort.superseded (beBytes 4 a)

/-! ### A register's own bits (R427) -/

/-- TX_EN is not set while the lane is in Fault (R44). -/
def faultBits (s : State) (a v : Nat) : Nat :=
  if blockOf a = 3 ∧ a % 0x4000 = 0 ∧ s.laneState ((a - 0x400000) / 0x4000) = 5 ∧ v % 2 = 1 ∧ s.reg a % 2 = 0 then 1 else 0

/-- The new bits of an own field. -/
def ownBits (s : State) (a v : Nat) (hw : HwUpdate) (f : RegField) : Nat :=
  let m := f.mask
  let old := s.reg a &&& m
  let hm := hw.mask.toNat &&& m
  let hv := hw.value.toNat &&& hm
  match f.acc with
  | .ro => clearBits old hm ||| hv
  | .w1c => clearBits old v ||| hv
  | .w1s => old ||| (v &&& m)
  | .sc => old
  | .rw | .wo1 | .lk =>
    let new := if f.ok (f.of v) then v &&& m else old
    let keep := s.faultBits a v &&& m
    let held := hm &&& hwBits a
    clearBits (clearBits new keep ||| (old &&& keep)) held ||| (hv &&& held)

/-- The own fields of a register written. -/
def ownFields (s : State) (a v : Nat) (hw : HwUpdate) (fs : List RegField) : State :=
  let own := fs.filter fun f => decide (f.home = .own)
  if own.isEmpty then s
  else s.putReg a (own.foldl (fun w f => clearBits w f.mask ||| s.ownBits a v hw f) (s.reg a))

/-! ### Fields that hold objects -/

/-- What a written field makes of its object's bytes; none where it leaves them. -/
def objField (fs : List RegField) (v : Nat) (f : RegField) : Option (Obj × Nat × (List Byte → List Byte)) :=
  let x := f.of v
  if f.acc ≠ .rw ∨ ¬ f.ok x then none
  else
    match f.home with
    | .obj o i sh =>
      some (o, i, fun bs =>
        if o.info.ty.isSigned then beBytes bs.length (twos (8 * bs.length) (signed (f.hi - f.lo + 1) x))
        else beBytes bs.length (putBits (sh + (f.hi - f.lo)) sh (beNat bs) x))
    | .octw o i k => some (o, i, fun bs => bs.take k ++ beBytes 4 x ++ bs.drop (k + 4))
    | .temp o i => some (o, i, fun bs => beBytes bs.length (twos (8 * bs.length) (-((-(signed 16 x) * 1000) / 64))))
    | .nulFlag o i null vh vl pol =>
      let y := v / 2 ^ vl % 2 ^ (vh - vl + 1)
      let fits : Bool := fs.all fun g => match g.home with | .nulVal _ _ _ => g.ok y | _ => true
      if (x == 1) == pol then some (o, i, fun bs => beBytes bs.length null)
      else if fits then some (o, i, fun bs => beBytes bs.length y)
      else none
    | _ => none

/-- The objects of a written register with the bytes that the write gives them; those that it does not change are left
out, but for a counter that is loaded. -/
def objWrites (s : State) (v : Nat) (fs : List RegField) : List Setting :=
  let add (ws : List Setting) (x : Obj × Nat × (List Byte → List Byte)) : List Setting :=
    let (o, i, f) := x
    if ws.any fun w => w.obj == o && w.inst == i then
      ws.map fun w => if w.obj == o && w.inst == i then { w with value := f w.value } else w
    else ws ++ [⟨o, i, f (s.shown o i)⟩]
  ((fs.filterMap (objField fs v)).foldl add []).filter fun w => w.obj == .counterValue || w.value != s.shown w.obj w.inst

/-- The objects whose registers keep their values where a value is outside the object's range. -/
def limited : List Obj :=
  [.channelPloamPerFrame, .channelGeneration, .channelUpSearchWindow, .channelPrbsPattern, .channelLoopMode,
   .channelLossBursts, .channelRogueAction, .channelTrimPercent, .channelEpochFrames, .overheadBytes, .uplinkQuadMode,
   .uplinkWakeMode, .uplinkMacsecValidate, .uplinkLoop, .uplinkFlowControl, .uplinkMaxFrame, .caseTempWarn]

/-- The limits that a block's own tables state for an object's field; `t` has every value of the write. -/
def blockLimit (s t : State) (w : Setting) : Bool :=
  let i := w.inst
  let val := w.obj.info.ty.parse w.value
  (!limited.contains w.obj || w.obj.info.inRange val) &&
  match w.obj with
  | .channelReachMin | .channelReachMax | .channelQuietLength => geometryOk t i
  | .uplinkFec => fecOk (t.quadMode i) (beNat w.value)
  | .wickIncrement =>
    let d : Int := (beNat w.value : Int) - nominalInc
    decide (-incSpan ≤ d ∧ d ≤ incSpan)
  | o =>
    (blockOfObj o != 9 || s.sumpCheck t o i == Abort.ok) && (blockOfObj o != 11 || s.psgCheck t o i == Abort.ok)
where
  /-- The block whose limits bind an object: Sump 9, Passage 11, another 0. -/
  blockOfObj (o : Obj) : Nat :=
    if ([.poolEnable, .poolFallback, .poolCells, .poolNoticeCells, .poolPressureCells, .poolShedCells, .poolHysteresisCells,
        .requesterPool, .requesterMinCells, .requesterMaxCells] : List Obj).contains o then 9
    else if ([.passageDeviceId, .passageHopLimit, .passageRingPorts, .passagePortEnable, .passageLaneEnable, .passageRoute]
        : List Obj).contains o then 11
    else 0

/-- The effect of an Immediate-class object's register; the selection of a disabled counter is stored as written, and LOOP
leaves PRBS_EN as it stands. -/
def rawEff (o : Obj) : Eff :=
  match o with
  | .counterEvent | .counterInstance | .counterMode => storeEff o
  | .channelLoopMode => loopSet
  | o => settingEff o

/-- One object of a written register taken, but for those that `takeSettings` takes together. -/
def takeOne (s : State) (a : Nat) (hw : HwUpdate) (w : Setting) : State :=
  match w.obj with
  | .wickIncrement => (s.putInc (beNat w.value)).setClk fun c => { c with slewed := 0 }
  | .counterValue =>
    let inc := if hw.mask = 0 then 0 else hw.value.toNat
    (loadEff inc s 0 w.inst (beBytes 8 (s.reg (a + 4) / 65536 * 4294967296 + beNat w.value % 4294967296))).1
  | .grantVoteEnable => s.setGr fun g => { g with voteLater := some (beNat w.value == 1) }
  | o => (rawEff o s 0 w.inst w.value).1

/-- Whether a setting of a register is taken by itself. -/
def takenAlone (hw : HwUpdate) (w : Setting) : Bool :=
  settingNow w || w.obj == .wickIncrement || (w.obj == .grantVoteEnable && hw.mask.getLsbD 1)

/-- The objects of a written register taken, within the block's limits. -/
def objFields (s : State) (a v : Nat) (hw : HwUpdate) (fs : List RegField) : State :=
  let ws := s.objWrites v fs
  let t := ws.foldl putSetting s
  let ws := ws.filter fun w => s.blockLimit t w
  let s := s.takeSettings (ws.filter fun w => !takenAlone hw w)
  (ws.filter fun w => takenAlone hw w).foldl (fun u w => u.takeOne a hw w) s

/-- W1C bits that are an object's: FAULT_CAUSE, and the overflow flags of a unit. -/
def objClears (s : State) (v : Nat) (hw : HwUpdate) (fs : List RegField) : State :=
  fs.foldl (fun u f =>
    match f.home, f.acc with
    | .obj .faultCause _ _, .w1c => u.causeClear (v &&& f.mask) (hw.value.toNat &&& hw.mask.toNat &&& f.mask)
    | .obj o i _, .w1c =>
      if hw.mask.getLsbD f.lo ∧ hw.value.getLsbD f.lo then u.put o i 1 else if f.of v = 1 then u.put o i 0 else u
    | _, _ => u) s

/-! ### TM_PARAM (R289) -/

/-- The rate and burst objects of the record that TM_PARAM_SEL selects, with its instance and, for a node, its level. -/
def paramObjs (sel : Nat) : Option ((Obj × Obj) × (Obj × Obj) × Nat × Option Level) :=
  let i := sel % 65536
  let node (l : Level) (j : Nat) : Option ((Obj × Obj) × (Obj × Obj) × Nat × Option Level) :=
    some ((Node.cRate l, Node.cBurst l), (Node.pRate l, Node.pBurst l), j, some l)
  match sel / 1048576 % 8 with
  | 0 => if i < 32768 then node .queue i else none
  | 1 => if i < 8192 then node .terminal i else none
  | 2 =>
    if i < 96 then node .cg i else if i < 128 then node .tree (i - 96) else if i = 128 then node .aggregate 0
    else if i < 149 then node .port (i - 129) else none
  | 3 => if i < 160 then node .tx i else none
  | 4 => some ((.policerCir, .policerCbs), (.policerPir, .policerPbs), i, none)
  | _ => none

/-- TM_PARAM_CMD.READ. -/
def paramRead (s : State) : State :=
  match paramObjs (s.reg Reg.tmParamSel) with
  | some (c, p, i, _) =>
    [c.1, c.2, p.1, p.2].zipIdx.foldl (fun u x => u.putReg (Reg.tmParamData x.2) (s.n x.1 i)) s
  | none => s

/-- TM_PARAM_CMD.WRITE_C and WRITE_P: rate and burst within the checks of R276 and R281, and the bucket reset as ZERO
says. -/
def paramWrite (s : State) (peak : Bool) : State :=
  let sel := s.reg Reg.tmParamSel
  let zero : Bool := sel / 16777216 % 2 == 1
  match paramObjs sel with
  | some (c, p, i, l) =>
    let (rate, burst) := if peak then p else c
    let at_ := if peak then 2 else 0
    let ws : List (Obj × Nat) := [(rate, s.reg (Reg.tmParamData at_)), (burst, s.reg (Reg.tmParamData (at_ + 1)))]
    let t := ws.foldl (fun u w => u.put w.1 i w.2) s
    let ok := ws.filter fun w => w.1.info.inRange (.num w.2) && s.trafficCheck t w.1 i == Abort.ok
    if ok.isEmpty then s
    else
      let s := ok.foldl (fun u w => u.put w.1 i w.2) s
      match l with
      | some l => s.tokenReset l i peak zero
      | none =>
        let v : Int := if zero then 0 else s.num burst i * byteUnits
        s.setPolicer i (if peak then { s.policer i with p := v } else { s.policer i with c := v })
  | none => s

/-! ### Commands (R12, R427) -/

/-- The state that an effect answers. -/
def resultOf (s : State) (r : Host.Outcome State Fault Refusal) : State :=
  match r with
  | .next t => t
  | _ => s

/-- GLB_COMMIT.GO: the open set is committed, while fewer than four wait (R431). -/
def commitOpen (s : State) (cls chan : Nat) : State :=
  match s.stage.openSet with
  | some ws =>
    if s.stage.waiting.length < 4 then
      { s with stage := { s.stage with openSet := none, waiting := s.stage.waiting ++ [⟨cls, chan, ws, s.now⟩] } }
    else s
  | none => s

/-- The Gallery command in GAL_CMD_W0 to W5, run for a master (R239). -/
def galGo (s : State) (m : Master) : State :=
  let bs := (List.range 6).flatMap fun k => beBytes 4 (s.reg (0x800020 + 4 * k))
  (galleryEff s m m.val bs).1

/-- A command bit written as 1; `hw` says that hardware updates the bit in the same cycle. -/
def runCmd (s : State) (k : Nat) (hw : Bool) (raw : Option Master) (c : RegCmd) : State :=
  let ch : Chan := Fin.ofNat 32 k
  match c with
  | .recordClr j =>
    if hw then s else if j = 0 then s.put .regLockViolation 0 0 else s.put .regWriteLost 0 0
  | .stageOpen => if s.stage.openSet.isSome then s else { s with stage := { s.stage with openSet := some [] } }
  | .stageDiscard => { s with stage := { s.stage with openSet := s.stage.openSet.map fun _ => [] } }
  | .commitGo => s.commitOpen (s.reg Reg.glbCommit / 2 % 4) (s.reg Reg.glbCommit / 256 % 32)
  | .glimGo => if raw.isSome then s else s.resultOf (execGlimGo none s)
  | .captClr => s.resultOf (execCaptClr s)
  | .wickStep => if hw then s else s.wickStepCmd
  | .trigArm => s.trigArmSet k 1
  | .prbsClr => s.resultOf (execPrbsClr ch s)
  | .rxCal => s.resultOf (execRxCal ch s)
  | .huntAbort => s.resultOf (execHuntAbort ch s)
  | .quietNow => s.resultOf (execQuietNow ch s)
  | .grantRelease => (s.laneFree (s.reg Reg.grantCtrl / 16 % 4)).getD s
  | .grantTest => (s.laneTestArm (s.reg Reg.grantCtrl / 16 % 4)).getD s
  | .grantReload => s.resultOf (execGrantReload s)
  | .galGo => s.galGo (raw.getD 0)
  | .paramRead => s.paramRead
  | .paramWriteC => s.paramWrite false
  | .paramWriteP => s.paramWrite true
  | .keyLoad => if hw ∨ (raw.isSome ∧ s.selSlot.1 = 0) then s else s.keyLoadCmd
  | .keyLock => s.keyLockCmd
  | .keyErase => s.keyEraseCmd
  | .wdogKick => if raw.isSome then s else s.resultOf (execWatchdogKick s)
  | .ucieRetrain => s.retrain false
  | .ucieWiden => s.retrain true

/-- The command bits of a write, in order of their bits. -/
def cmdFields (s : State) (k v : Nat) (x : RegOrigin) (fs : List RegField) : State :=
  fs.foldl (fun u f =>
    match f.home with
    | .cmd c => if f.of v = 1 then u.runCmd k (x.hw.mask.getLsbD f.lo) x.raw c else u
    | _ => u) s

/-- TRIM of GLB_POWER_CTRL is DevicePowerState's Run and Trim: it acts while the device is in one of them, and is only
stored otherwise (R492). -/
def trimField (s : State) (v : Nat) : State :=
  let old := s.reg Reg.glbPowerCtrl % 2
  if v % 2 ≠ old ∧ s.n .devicePowerStateActual 0 ≤ 1 then s.takeSettings [⟨.devicePowerState, 0, beBytes 1 (v % 2)⟩] else s

/-! ### The write -/

/-- Whether a write meets a hardware update that it loses to (R427, R44, R376). -/
def losesTo (s : State) (a v : Nat) (x : RegOrigin) (fs : List RegField) : Bool :=
  (x.hw.mask.toNat &&& hwBits a) != 0 || s.faultBits a v != 0 ||
    fs.any fun f => match f.home with
      | .cmd .keyLoad => f.of v == 1 && x.hw.mask.getLsbD f.lo
      | _ => false

/-- The fields of an unlocked register written. -/
def writeFields (s : State) (a k v : Nat) (x : RegOrigin) (fs : List RegField) : State :=
  let s := if a = Reg.glbPowerCtrl then s.trimField v else s
  let s := ((s.ownFields a v x.hw fs).objFields a v x.hw fs).objClears v x.hw fs
  let s := if a = Reg.grantCtrl then s.engineEnable else if a = Reg.sumpCtrl then s.pressureSeen else s
  s.cmdFields k v x fs

/-- A masked write merges the bits that its upper half selects. -/
def mergeMasked (old v : Nat) : Nat :=
  let sel := v / 65536 % 65536
  clearBits old sel ||| (v &&& sel)

/-- A register write with its acknowledgement (R426 to R430). -/
def regWrite (s : State) (a v : Nat) (x : RegOrigin) : State × RegStatus :=
  let s := s.touchBlock (blockOf a)
  match regAt a with
  | none => (s, .done)
  | some (d, k) =>
    let fs := d.fields k
    let has (c : RegAcc) : Bool := fs.any fun f => f.acc == c
    if has .lk ∧ s.bit Reg.glbLock (blockOf a) then (s.violation a, .lock)
    else if has .wo1 ∧ s.stage.once.contains a then (s.violation a, .once)
    else if d.mw ∧ v / 65536 % 65536 = 0 then (s, .done)
    else
      let v := if d.mw then mergeMasked (s.regWord a) v else v
      let lost := s.losesTo a v x fs
      let s := if has .wo1 then { s with stage := { s.stage with once := a :: s.stage.once } } else s
      if a = Reg.glbSnapshot then (s.putSnap v, .done)
      else if 0x1200020 ≤ a ∧ a < 0x1200040 then (s.putReg a v, .done)
      else
        let s := match counterAt a with
          | some (c, 0) => if s.on .counterEnable c then s else s.writeFields a k v x fs
          | some (_, 8) => s.setField a 31 16 (v % 65536)
          | _ => s.writeFields a k v x fs
        if lost then (s.writeLost a, .lost) else (s, .done)

/-! ### Staged sets (R431) -/

/-- A staged write held in the open set, which holds 4,096. -/
def stageWrite (s : State) (a v : Nat) : State :=
  match s.stage.openSet with
  | some ws =>
    if ws.length < 4096 then { s with stage := { s.stage with openSet := some (ws ++ [(a, v)]) } } else s
  | none => s

/-- The writes of a committed set, in the order written, as one act. -/
def applySet (s : State) (c : CommitSet) : State :=
  c.writes.foldl (fun u w => (u.regWrite w.1 w.2 .plain).1) s

/-- The committed sets whose boundary this is, in commit order. -/
def applySets (s : State) (due : CommitSet → Bool) : State :=
  let ready := s.stage.waiting.filter due
  let s := { s with stage := { s.stage with waiting := s.stage.waiting.filter fun c => !due c } }
  ready.foldl applySet s

/-- A register write by Lantern itself, where it reaches the die; a committed set of the Packet class takes effect at
once. -/
def writeAt (s : State) (a v : Nat) (x : RegOrigin) : State :=
  if s.reach then ((s.regWrite a v x).1).applySets fun c => c.cls == 0 else s

end State

open State

/-- R426, R427, R431: a register write, at once or with the staged attribute. -/
def execRegisterWrite (addr value : Nat) (staged : Bool) (hw : HwUpdate) (s : State) :
    Host.Outcome State Fault Refusal :=
  if staged then (if s.reach then .next (s.stageWrite addr (value % 4294967296)) else .next s)
  else .next (s.writeAt addr (value % 4294967296) ⟨hw, none⟩)

/-- R431: GLB_STAGE_CTRL.OPEN. -/
def execStageOpen (s : State) : Host.Outcome State Fault Refusal := .next (s.writeAt Reg.glbStageCtrl 1 .plain)

/-- R431: GLB_STAGE_CTRL.DISCARD. -/
def execStageDiscard (s : State) : Host.Outcome State Fault Refusal := .next (s.writeAt Reg.glbStageCtrl 2 .plain)

/-- R431: GLB_COMMIT with CLASS, CHANNEL and GO. -/
def execCommitGo (cls : Fin 4) (ch : Chan) (s : State) : Host.Outcome State Fault Refusal :=
  .next (s.writeAt Reg.glbCommit (1 + 2 * cls.val + 256 * ch.val) .plain)

/-- R442: GLB_RECORD_CLR; bit 0 clears GLB_LOCKVIOL and bit 1 GLB_WRITE_LOST. -/
def execRecordClear (which : Fin 4) (s : State) : Host.Outcome State Fault Refusal :=
  .next (s.writeAt 0x20 which.val .plain)

/-- R429: lock bits set in GLB_LOCK. -/
def execGlbLockSet (bits : BitVec 16) (s : State) : Host.Outcome State Fault Refusal :=
  .next (s.writeAt Reg.glbLock bits.toNat .plain)

/-- R442, R428: a masked write of GLB_SNAPSHOT. -/
def execGlbSnapshotWrite (word : BitVec 32) (s : State) : Host.Outcome State Fault Refusal :=
  .next (s.writeAt Reg.glbSnapshot word.toNat .plain)

end Sys2Proof.Machine
end

