-- ==== Sys2Proof/Machine/Commands.lean ====
section
/-!
DEFINITION. The effects of the Immediate-class commands that Lantern carries out itself (R420 to R423, R432 to R434, R368,
R372, R413, R472, R474), and the effect of every Immediate-class object.
-/

namespace Sys2Proof.Machine

namespace State

/-! ### Claims and keys -/

/-- CLAIM_BREAK (R413): every claim of a master ends. -/
def claimBreakEff : Eff := fun s _ _ bs =>
  (s.setLan fun l => { l with claims := l.claims.filter fun c => c.master.val != beNat bs }, Abort.ok)

/-- MasterKey (R421): the key is stored once the response has been sent; zeros are refused, and a power-fail warning
refuses it (R452). -/
def masterKeyEff : Eff := fun s _ _ bs =>
  (s, if beNat bs = 0 ∨ s.n .powerFailState 0 ≠ 0 then Abort.range else Abort.ok)

/-- CommissionKey (R369): written once in the part's life. -/
def commissionKeyEff : Eff := fun s _ i bs =>
  if s.n .powerFailState 0 ≠ 0 then (s, Abort.range)
  else ((s.setNvm fun n => { n with commissionKey := bs }).markOnce .commissionKey i, Abort.ok)

/-! ### Images (R423) -/

/-- The longest image: header, the longer signature and the longest body (R367). -/
def imageMax : Nat := 64 + 2820 + 33554432

/-- The upload of an image kind. -/
def upload (s : State) (kind : Nat) : Upload := s.lan.uploads[Fin.ofNat 2 kind]

/-- An upload replaced. -/
def setUpload (s : State) (kind : Nat) (u : Upload) : State :=
  s.setLan fun l => { l with uploads := l.uploads.set (Fin.ofNat 2 kind) u }

/-- A segment of an image at its offset. -/
def uploadEff (off : Nat) : Eff := fun s m kind bs =>
  let u := s.upload kind
  if u.owner.isSome ∧ u.owner ≠ some m then (s, Abort.claimed)
  else if s.n .imageStatus kind = 2 then (s, Abort.range)
  else if off = 0 then ((s.setUpload kind ⟨some m, bs⟩).put .imageStatus kind 1, Abort.ok)
  else if u.owner.isNone ∨ off ≠ u.bytes.length then (s, Abort.malformed)
  else if imageMax < off + bs.length then (s, Abort.full)
  else (s.setUpload kind { u with bytes := u.bytes ++ bs }, Abort.ok)

/-- ImageCommit: the image is verified and stored, as ImageStatus reports. -/
def imageCommitEff : Eff := fun s m kind bs =>
  let u := s.upload kind
  if beNat bs ≠ 1 ∨ s.n .powerFailState 0 ≠ 0 then (s, Abort.range)
  else if u.owner.isSome ∧ u.owner ≠ some m then (s, Abort.claimed)
  else if s.n .imageStatus kind = 2 then (s, Abort.range)
  else (s.put .imageStatus kind 2, Abort.ok)

/-- The verification of a committed image ends: it is stored, or refused. -/
def imageStore (s : State) (kind : Nat) : State :=
  let bs := (s.upload kind).bytes
  let s := s.setUpload kind ⟨none, bs⟩
  if kind = 0 then
    if s.firmwareOk bs then
      let k := s.storeSlot
      ((s.setNvm fun n => { n with slots := n.slots.set k bs }).firmwareSlots).put .imageStatus 0 3
    else s.put .imageStatus 0 4
  else if s.commissionOk bs ∧ (s.nvm.commission.isEmpty ∨ imgRollback s.nvm.commission ≤ imgRollback bs) then
    (s.setNvm fun n => { n with commission := bs }).put .imageStatus 1 3
  else s.put .imageStatus 1 4

/-! ### Firmware and resets (R368, R472, R474) -/

/-- FirmwareRollbackCommit: the floor is raised to the running image's rollback version. -/
def rollbackCommitEff : Eff := fun s _ _ bs =>
  if beNat bs = 1 then
    let v := max s.nvm.rollbackFloor (s.n .firmwareVersion 0)
    (((s.setNvm fun n => { n with rollbackFloor := v }).put .firmwareRollbackFloor 0 v).firmwareSlots, Abort.ok)
  else (s, Abort.ok)

/-- WarmReset: 1 Lantern, 2 the device; what it does follows the response. -/
def warmResetEff : Eff := fun s _ _ bs =>
  (s, if (beNat bs = 1 ∨ beNat bs = 2) ∧ s.n .powerFailState 0 = 0 then Abort.ok else Abort.range)

/-- FirmwareActivate: the other slot is preferred on trial; Lantern restarts once the response has been sent. -/
def firmwareActivateEff : Eff := fun s _ _ bs =>
  if beNat bs ≠ 1 ∨ s.n .powerFailState 0 ≠ 0 ∨ ¬ s.firmwareOk (s.slotImage (1 - s.boot.slot)) then (s, Abort.range)
  else (s.setNvm fun n => { n with pref := 1 - s.boot.slot, trial := true, tries := 0 }, Abort.ok)

/-- FirmwareConfirm. -/
def firmwareConfirmEff : Eff := fun s _ _ bs => (if beNat bs = 1 then s.confirm else s, Abort.ok)

/-! ### The OMCI relay (R420) -/

/-- Whether the bytes after the tag are a baseline or an extended OMCI message without its trailer. -/
def omciFormed (bs : List Byte) : Bool :=
  let dev := byteAt bs 3
  (bs.length == 44 && dev == 0x0A) ||
    (10 ≤ bs.length && bs.length ≤ 1976 && dev == 0x0B && beNat ((bs.drop 8).take 2) + 10 == bs.length)

/-- OmciSend of a terminal. -/
def omciSendEff : Eff := fun s m t bs =>
  let msg := bs.drop 1
  let phase := s.n .terminalSnuffPhase t
  if ¬ omciFormed msg ∨ ¬ s.inServiceAny t then (s, Abort.range)
  else if phase = 1 ∨ phase = 2 then (s, Abort.inSnuff)
  else if 4 ≤ (s.omci t).length then (s, Abort.full)
  else (s.setOmci t (s.omci t ++ [⟨byteAt bs 0, m.val, msg⟩]), Abort.ok)

/-! ### Attestation (R371, R372) -/

/-- The number of signatures that the key can make. -/
def sigCount : Nat := 1048576

/-- Bytes 0 to 199 of a report. -/
def reportBody (s : State) (nonce : List Byte) (index : Nat) : List Byte :=
  beBytes 4 0x4F594154 ++ beBytes 1 1 ++ beBytes 1 s.boot.slot ++ beBytes 2 0 ++ nonce ++ Config.packageSerial.toList ++
  ((List.range 4).flatMap fun d => (Config.dieIdentity d).toList) ++ s.oct .firmwareDigest 0 ++ s.configDigest ++
  beBytes 12 s.wick ++ beBytes 4 s.nvm.rollbackFloor ++ beBytes 4 index

/-- A finished report put in its instance. -/
def putReport (s : State) (i : Fin 3) (bs : List Byte) (status : Nat) : State :=
  (s.setLan fun l => { l with reports := l.reports.set i bs }).put .attestStatus i status

/-- AttestRequest: a new request replaces the master's pending one; without an index left the report is unsigned. -/
def attestRequestEff : Eff := fun s m i bs =>
  if i ≠ m.val then (s, Abort.claimed)
  else
    let s := s.setLan fun l => { l with attest := l.attest.filter fun q => q.inst != m }
    if sigCount ≤ s.lan.sigNext then (s.putReport m (s.reportBody bs s.lan.sigNext) 3, Abort.ok)
    else ((s.setLan fun l => { l with attest := l.attest ++ [⟨m, bs⟩] }).put .attestStatus m 1, Abort.ok)

/-- The report at the head of the queue is signed: an index at the limit first moves the limit in the NVM. -/
def reportSign (s : State) (q : AttestReq) : State :=
  let i := s.lan.sigNext
  let body := s.reportBody q.nonce i
  let s := s.setLan fun l => { l with attest := l.attest.filter fun x => x.inst != q.inst }
  if sigCount ≤ i then s.putReport q.inst body 3
  else
    let s := if s.nvm.sigLimit ≤ i then s.setNvm fun n => { n with sigLimit := n.sigLimit + 1024 } else s
    let s := s.setLan fun l => { l with sigNext := i + 1, signedAt := some s.now }
    s.putReport q.inst (body ++ (Config.xmssSign i body).toList) 2

/-! ### The raw register window (R432 to R434) -/

/-- Registers of the stage and commit mechanism, and UCIE_CTRL. -/
def rawRefused (a : Nat) : Bool := a == 0x40 || a == 0x44 || a == 0x48 || a == 0x1500000

/-- What the raw window writes: KICK and GLIM_GO as zero. -/
def rawMasked (a v : Nat) : Nat :=
  if a = Reg.integCtrl then clearBits v 1 else if a = Reg.glbPowerCtrl then clearBits v 256 else v

/-- The abort code of an acknowledgement (R432). -/
def RegStatus.code : RegStatus → Nat
  | .done => Abort.ok
  | .lock => Abort.locked
  | .once => Abort.writtenOnce
  | .lost => Abort.superseded

/-- A write of RawRegister; a register that carries an object claimed by another master is refused. -/
def rawWriteEff (hw : HwUpdate) : Eff := fun s m i bs =>
  let a := 4 * i
  if rawRefused a then (s, Abort.readOnly)
  else if (carriedKeys a).any fun k => s.claimedBy m (k / 16777216) (k % 16777216) then (s, Abort.claimed)
  else if ¬ s.fabricRuns then (s, Abort.ok)
  else
    let r := s.regWrite a (rawMasked a (beNat bs)) ⟨hw, some m⟩
    (r.1, RegStatus.code r.2)

/-! ### Every Immediate-class object -/

/-- The effect of an accepted write of an Immediate-class object; `off` is the record's Offset, which only ImageUpload
has. -/
def immediateEff (o : Obj) (off : Nat) : Eff :=
  match o with
  | .sconceClaimBreak => claimBreakEff
  | .masterKey => masterKeyEff
  | .commissionKey => commissionKeyEff
  | .imageUpload => uploadEff off
  | .imageCommit => imageCommitEff
  | .warmReset => warmResetEff
  | .firmwareActivate => firmwareActivateEff
  | .firmwareConfirm => firmwareConfirmEff
  | .firmwareRollbackCommit => rollbackCommitEff
  | .channelRssiRequest => rssiRequestEff
  | .cageI2cRequest => i2cRequestEff
  | .channelPloamRelay => ploamRelayEff
  | .channelQuietAt => quietAtEff
  | .terminalRogueRelease => rogueReleaseEff
  | .grantLaneTest => laneTestEff
  | .grantLaneRelease => laneReleaseEff
  | .omciSend => omciSendEff
  | .galleryCommand => galleryEff
  | .wickSetTime => wickSetEff
  | .timeModelReset => modelResetEff
  | .trigArm => trigArmEff
  | .bcastKeyLock => bcastLockEff
  | .channelBcastKeySwitch => bcastSwitchEff
  | .saLock => saLockEff
  | .attestRequest => attestRequestEff
  | .faultCauseClear => causeClearEff 0
  | .ucieWiden => widenEff
  | .counterOverflowClear => overflowClearEff
  | .unitStart => unitEff 1
  | .unitStop => unitEff 0
  | .lifetimeSave => lifetimeSaveEff
  | .rawRegister => rawWriteEff ⟨0, 0⟩
  | o => settingEff o

/-- What follows the response of an accepted write. -/
def afterWrite (o : Obj) (i : Nat) (bs : List Byte) : List AfterSend :=
  match o with
  | .masterKey => [.storeKey i bs]
  | .warmReset => [if beNat bs = 2 then .resetDevice else .restartLantern 3]
  | .firmwareActivate => [.restartLantern 5]
  | _ => []

end State
end Sys2Proof.Machine
end

