-- ==== Sys2Proof/Machine/Sconce.lean ====
section
/-!
DEFINITION. Sconce (R402 to R418): operation records read, performed and answered, transactions, claims, responses and
what follows them, and events sent, acknowledged and sent again.
-/

namespace Sys2Proof.Machine

/-- What the writes of one record ask for: single writes of an object's instances, or the code that refuses the record. -/
abbrev Asked := Nat ⊕ List (Obj × Nat × List Byte)

namespace State

/-! ### Reads (R407, R408) -/

/-- A read of an object's whole value, with the side effects that the read has. -/
def objRead (s : State) (o : Obj) (i : Nat) : State × List Byte :=
  match o with
  | .captNext => s.captNext i
  | .queueDepthMax | .queueDelayMax | .txQueueDepthMax | .txQueueDelayMax | .requesterHighWater =>
    (s.put o i 0, s.shown o i)
  | .tsQueueHighWater => (s.put o i (s.n .tsQueueLevel i), s.shown o i)
  | .counterValue => ((s.cntValLoRead i).1, s.shown o i)
  | .rawRegister =>
    if s.fabricRuns then
      let r := s.regRead (4 * i)
      (r.1, beBytes 4 r.2)
    else (s, beBytes 4 0)
  | o => (s, s.shown o i)

/-- The longest value that is not read by segments. -/
def segment : Nat := 4096

/-- The value that serves a read: a value longer than 4,096 bytes leaves a snapshot at Offset 0, which serves that
master's later segments for 10 s. -/
def servedValue (s : State) (m : Master) (o : Obj) (i off : Nat) (bs : List Byte) : State × List Byte :=
  let mine (p : Snap) : Bool := p.master == m && p.code == o.code && p.inst == i
  if bs.length ≤ segment then (s, bs)
  else if off = 0 then
    (s.setLan fun l => { l with snaps := (l.snaps.filter fun p => !mine p) ++ [⟨m, o.code, i, bs, s.now⟩] }, bs)
  else
    match s.lan.snaps.find? fun p => mine p && decide (s.now ≤ p.taken + 10 * Tm.s) with
    | some p => (s, p.bytes)
    | none => (s, bs)

/-- A Read record. -/
def readOp (s : State) (m : Master) (o : Obj) (i off len : Nat) : State × Nat × List Byte :=
  if ¬ s.exists? o i then (s, Abort.noSuch, [])
  else
    let (t, bs) := s.objRead o i
    let (t, bs) := t.servedValue m o i off bs
    if bs.length < off ∨ bs.length < off + len then (s, Abort.malformed, [])
    else (t, Abort.ok, if len = 0 then bs.drop off else (bs.drop off).take len)

/-- A Next record: the first instance from `i` upward whose value differs from its default. -/
def nextOp (s : State) (o : Obj) (i : Nat) : Nat × List Byte :=
  match ((List.range o.info.count).drop i).find? fun j =>
    s.shown o j != o.info.ty.encode (s.defaultNow o j) with
  | some j => (j, s.shown o j)
  | none => (0xFFFFFF, [])

/-! ### Claims (R413) -/

/-- Every instance. -/
def allInst : Nat := 0xFFFFFF

/-- A Claim record. -/
def claimOp (s : State) (m : Master) (o : Obj) (i : Nat) : State × Nat :=
  let c : ClaimRec := ⟨m, o.code, i⟩
  let covers (x : ClaimRec) : Bool := x.code == o.code && (x.inst == i || x.inst == allInst || i == allInst)
  if ¬ s.exists? o (if i = allInst then 0 else i) then (s, Abort.noSuch)
  else if o.info.acc = .ro ∨ o.info.acc = .const then (s, Abort.readOnly)
  else if s.lan.claims.any fun x => x.master != m && covers x then (s, Abort.claimed)
  else if s.lan.claims.contains c then (s, Abort.ok)
  else if 256 ≤ (s.lan.claims.filter fun x => x.master == m).length then (s, Abort.full)
  else (s.setLan fun l => { l with claims := l.claims ++ [c] }, Abort.ok)

/-- A Release record: the master's own claim. -/
def releaseOp (s : State) (m : Master) (o : Obj) (i : Nat) : State × Nat :=
  (s.setLan fun l => { l with claims := l.claims.filter fun x => x != ⟨m, o.code, i⟩ }, Abort.ok)

/-! ### Writes (R410, R412) -/

/-- The single writes of a Write or Default record. -/
def asked (s : State) (r : OpRec) : Asked :=
  let i := r.ref.inst.val
  match (if 256 ≤ r.opcode then none else Obj.find (r.ref.index.val * 256 + r.ref.sub.val)) with
  | none => .inl (if 256 ≤ r.opcode then Abort.malformed else Abort.noSuch)
  | some o =>
    if r.opcode = 2 then
      if r.off ≠ 0 ∧ o ≠ .imageUpload then .inl Abort.malformed else .inr [(o, i, r.value)]
    else if o = .rawRegister then .inl Abort.readOnly
    else if r.off < 1 ∨ 65536 < r.off then .inl Abort.malformed
    else .inr ((List.range r.off).map fun k => (o, i + k, o.info.ty.encode (s.defaultNow o (i + k))))

/-- The checks of acceptance on a single write of a record; a default needs no check of its value. -/
def askedCode (s : State) (m : Master) (r : OpRec) (w : Obj × Nat × List Byte) : Nat :=
  if r.opcode = 2 then s.acceptCode m w.1 w.2.1 w.2.2 else s.accessCode m w.1 w.2.1

/-- The channel that an Epoch-class write affects (R412). -/
def epochChan (s : State) (o : Obj) (i : Nat) : Option Nat :=
  if o.info.cls ≠ .epoch then none
  else
    match o with
    | .channelEpochFrames | .channelEpochSync | .channelEpochFsyncOffset => some i
    | _ => if s.allocChan i < 32 then some (s.allocChan i) else none

/-- The first write of a record that acceptance refuses, with its code. -/
def refusedAt (s : State) (m : Master) (r : OpRec) (ws : List (Obj × Nat × List Byte)) :
    Option ((Obj × Nat × List Byte) × Nat) :=
  (ws.map fun w => (w, s.askedCode m r w)).find? fun x => x.2 != Abort.ok

/-- The writes of an accepted record performed: at once, or pending until their boundary under class `cls` and channel
`chan`. The code is none while they wait. -/
def doWrites (s : State) (m : Master) (pos : Nat) (txn : Bool) (r : OpRec) (cls : Option Nat) (chan : Option Nat)
    (ws : List (Obj × Nat × List Byte)) : State × Option Nat :=
  ws.foldl (fun (acc : State × Option Nat) w =>
    let (o, i, bs) := w
    if o.info.cls = .immediate then
      let e := immediateEff o r.off acc.1 m i bs
      (e.1, some (match acc.2 with | some c => if c = Abort.ok then e.2 else c | none => e.2))
    else
      let ch := match chan with | some c => some c | none => acc.1.epochChan o i
      let p : PendingWrite := ⟨acc.1.lan.nextMsg, pos, m, txn, o.code, i, bs, cls.getD (clsCode o.info.cls), ch, acc.1.now⟩
      ((acc.1.setLan fun l => { l with writes := l.writes ++ [p] }).markOnce o i, acc.2)) (s, none)

/-- A Write or Default record that stands alone. -/
def writeOp (s : State) (m : Master) (pos : Nat) (r : OpRec) : State × Option Nat :=
  match s.asked r with
  | .inl c => (s, some c)
  | .inr ws =>
    match s.refusedAt m r ws with
    | some (w, c) => (s.recordOnce w.1 w.2.1 c, some c)
    | none => s.doWrites m pos false r none none ws

/-! ### Records -/

/-- The answer to a record. -/
def answerTo (r : OpRec) (code : Option Nat) (v : List Byte := []) : OpRes := ⟨r.opcode % 256, r.ref, code, v⟩

/-- A record that is no write: Read, Claim, Release or Next; any other opcode is malformed. -/
def plainOp (s : State) (m : Master) (r : OpRec) : State × OpRes :=
  let i := r.ref.inst.val
  if r.opcode = 0 ∨ 5 < r.opcode ∨ r.opcode = 2 then (s, answerTo r (some Abort.malformed))
  else
    match Obj.find (r.ref.index.val * 256 + r.ref.sub.val) with
    | none => (s, answerTo r (some Abort.noSuch))
    | some o =>
      if r.opcode = 1 then
        let x := s.readOp m o i r.off r.len
        (x.1, answerTo r (some x.2.1) x.2.2)
      else if r.opcode = 3 then
        let x := s.claimOp m o i
        (x.1, answerTo r (some x.2))
      else if r.opcode = 4 then
        let x := s.releaseOp m o i
        (x.1, answerTo r (some x.2))
      else if ¬ s.exists? o 0 then (s, answerTo r (some Abort.noSuch))
      else if o = .rawRegister then (s, answerTo r (some Abort.readOnly))
      else
        let x := s.nextOp o i
        (s, ⟨r.opcode, { r.ref with inst := Fin.ofNat 16777216 x.1 }, some Abort.ok, x.2⟩)

/-- Whether a record writes. -/
def isWrite (r : OpRec) : Bool := r.opcode % 256 == 2 || r.opcode % 256 == 6

/-- The records of a request in order. In a transaction the writes are left for `txnWrites`, whose answers replace the
ones given here. -/
def takeRecords (s : State) (m : Master) (txn : Bool) : Nat → List OpRec → State × List OpRes
  | _, [] => (s, [])
  | pos, r :: rest =>
    let (t, a) :=
      if isWrite r then
        if txn then (s, answerTo r none)
        else
          let x := s.writeOp m pos r
          (x.1, answerTo r x.2)
      else s.plainOp m r
    let (u, as) := t.takeRecords m txn (pos + 1) rest
    (u, a :: as)

/-! ### Transactions (R412, R431) -/

/-- The codes of a transaction's records, before any of it is applied: acceptance, an Immediate-class write, Epoch and
Second together, more than one channel, and more than 4,096 register writes. -/
def txnCodes (s : State) (m : Master) (ws : List (Nat × OpRec)) : List (Nat × Nat) :=
  let asks := ws.map fun w => (w, s.asked w.2)
  let all := asks.flatMap fun a => match a.2 with | .inr l => l | .inl _ => []
  let epoch : Bool := all.any fun w => w.1.info.cls == .epoch
  let second : Bool := all.any fun w => w.1.info.cls == .second
  let chans := (all.filterMap fun w => s.epochChan w.1 w.2.1).eraseDups
  let words : Nat := (all.map fun w => ceilDiv w.2.2.length 4).foldl (· + ·) 0
  let big : Bool := decide (4096 < words)
  asks.map fun a =>
    (a.1.1, match a.2 with
      | .inl c => c
      | .inr l =>
        match s.refusedAt m a.1.2 l with
        | some (_, c) => c
        | none =>
          let has (c : BClass) : Bool := l.any fun w => w.1.info.cls == c
          if has .immediate then Abort.range
          else if epoch && second && (has .epoch || has .second) then Abort.range
          else if 1 < chans.length ∧ has .epoch then Abort.range
          else if big then Abort.full
          else Abort.ok)

/-- The writes of a transaction: all pending under the governing class, or none (R412). -/
def txnWrites (s : State) (m : Master) (recs : List OpRec) : State × List (Nat × Option Nat) :=
  let ws := (recs.zipIdx.map fun p => (p.2, p.1)).filter fun w => isWrite w.2
  let codes := s.txnCodes m ws
  if codes.all fun c => c.2 == Abort.ok then
    let all := ws.flatMap fun w => match s.asked w.2 with | .inr l => l | .inl _ => []
    let cls := (all.map fun w => clsCode w.1.info.cls).foldl max 1
    let chan := if cls = 3 then (all.filterMap fun w => s.epochChan w.1 w.2.1).head? else none
    (ws.foldl (fun u w =>
      match s.asked w.2 with
      | .inr l => (u.doWrites m w.1 true w.2 (some cls) chan l).1
      | .inl _ => u) s, ws.map fun w => (w.1, none))
  else
    let t := ws.foldl (fun u w =>
      match s.asked w.2 with
      | .inr l => match s.refusedAt m w.2 l with | some (x, c) => u.recordOnce x.1 x.2.1 c | none => u
      | .inl _ => u) s
    (t, codes.map fun c => (c.1, some (if c.2 = Abort.ok then Abort.notApplied else c.2)))

/-! ### Requests (R403, R406) -/

/-- What follows the response of a request's accepted commands. -/
def aftersOf (recs : List OpRec) (rs : List OpRes) : List AfterSend :=
  (recs.zip rs).flatMap fun p =>
    if p.1.opcode = 2 ∧ p.2.code = some Abort.ok then
      match Obj.find (p.1.ref.index.val * 256 + p.1.ref.sub.val) with
      | some o => afterWrite o p.1.ref.inst.val p.1.value
      | none => []
    else []

/-- The records of an accepted request performed, and the message left outstanding; Packet-class writes take effect at
once (R14). -/
def perform (s : State) (m : Master) (txn : Bool) (recs : List OpRec) : State :=
  let (t, rs) := s.takeRecords m txn 0 recs
  let (t, cs) := if txn then t.txnWrites m recs else (t, [])
  let rs := cs.foldl (fun l c => l.modify c.1 fun r => { r with code := c.2 }) rs
  (t.addMsg m txn rs (aftersOf recs rs)).packetWrites

/-- A request of one record from a master with its next counter. -/
def hostRequest (s : State) (m : Master) (r : OpRec) : State :=
  if ¬ s.serves m ∨ lastCounter ≤ s.lan.masters[m].highest then s
  else if 16 ≤ s.outstanding m then s.abortMsg m Abort.full
  else (s.acceptCounter m (s.lan.masters[m].highest + 1)).perform m false [r]

/-- A Write record of an object. -/
def writeRec (o : Obj) (i : Nat) (off : Nat) (bs : List Byte) : OpRec :=
  ⟨2, ⟨Fin.ofNat 65536 (o.code / 256), Fin.ofNat 256 o.code, Fin.ofNat 16777216 i⟩, off, bs.length, bs⟩

/-! ### Datagrams (R404, R405) -/

/-- The records of a request's body; a record whose lengths overrun the body, and what comes after it, carries 256 above
its opcode. -/
def parseRecs : Nat → List Byte → List OpRec
  | 0, _ => []
  | k + 1, bs =>
    let f (a n : Nat) : Nat := beNat ((bs.drop a).take n)
    let ref : ObjRef := ⟨Fin.ofNat 65536 (f 2 2), Fin.ofNat 256 (f 1 1), Fin.ofNat 16777216 (f 4 3)⟩
    let len := f 12 2
    let body := if f 0 1 = 2 then len else 0
    if bs.length < 14 ∨ bs.length < 14 + body then ⟨256 + f 0 1, ref, 0, 0, []⟩ :: parseRecs k []
    else ⟨f 0 1, ref, f 8 4, len, (bs.drop 14).take body⟩ :: parseRecs k (bs.drop (14 + body))

/-- The key of a master's messages: the stored one, or master 0's factory key (R421). -/
def keyOf (s : State) (m : Master) : Option (List Byte) :=
  match s.nvm.keys.getD m none with
  | some k => some k
  | none => if m = 0 then some (List.replicate 32 0) else none

/-- Magic, version, length and tag of a datagram. -/
def authentic (s : State) (m : Master) (bs : List Byte) : Bool :=
  match s.keyOf m with
  | some k =>
    decide (56 ≤ bs.length) && beNat (bs.take 2) == 0x53CE && byteAt bs 2 == 1 && beNat ((bs.drop 6).take 2) == bs.length &&
    bs.drop (bs.length - 32) == (Config.kmac256 k (bs.take (bs.length - 32))).toList
  | none => false

/-- An unauthentic datagram: counted, and answered at most once a second on its interface. -/
def authFail (s : State) (m : Master) : State :=
  let s := s.bump .sconceAuthFailures 0 1
  let r := s.lan.masters[m]
  let soon : Bool := match r.lastAuthAnswer with
    | some t => decide (s.now < t + Tm.s)
    | none => false
  if soon ∨ (s.keyOf m).isNone then s else (s.setMaster m { r with lastAuthAnswer := some s.now }).abortMsg m Abort.auth

/-- An event acknowledgement (R418): every event up to the sequence is dropped. -/
def ackEvents (s : State) (m : Master) (ref : Nat) : State :=
  let r := s.lan.masters[m]
  s.setMaster m { r with events := r.events.filter fun e => ref < e.seq }

/-- A datagram of at most 8,192 bytes on a master's interface. -/
def datagram (s : State) (m : Master) (addr : Nat) (bs : List Byte) : State :=
  if 8192 < bs.length then s.bump .sconceMalformed 0 1
  else if ¬ s.authentic m bs then s.authFail m
  else
    let counter := beNat ((bs.drop 8).take 8)
    let count := byteAt bs 5
    if byteAt bs 3 = 4 then s.ackEvents m (beNat ((bs.drop 16).take 8))
    else if byteAt bs 3 ≠ 1 then s.bump .sconceMalformed 0 1
    else if counter ≤ s.lan.masters[m].highest then (s.bump .sconceReplays 0 1).abortMsg m Abort.replayed
    else if 16 ≤ s.outstanding m then s.abortMsg m Abort.full
    else if 64 < count then (s.bump .sconceMalformed 0 1).abortMsg m Abort.malformed
    else
      let s := s.setMaster m { s.lan.masters[m] with addr := some addr }
      (s.acceptCounter m counter).perform m (byteAt bs 4 % 2 == 1)
        (parseRecs count ((bs.drop 24).take (bs.length - 56)))

/-! ### Responses and events (R410, R418) -/

/-- Whether every operation of a message has taken effect or has been refused. -/
def complete (s : State) (q : Message) : Bool :=
  q.results.all (fun r => r.code.isSome) && !s.lan.writes.any fun w => w.msg == q.id

/-- What follows a response. -/
def doAfter (s : State) : AfterSend → State
  | .storeKey i k => s.storeKey (Fin.ofNat 3 i) k
  | .restartLantern cause => s.orderly.lanternReset cause
  | .resetDevice => s.orderly.fullReset 2 2

/-- The oldest complete message of a master is answered. -/
def respond (s : State) (m : Master) : State :=
  match s.lan.msgs.find? fun q => q.master == m && s.complete q with
  | some q =>
    if lastCounter ≤ s.lan.masters[m].issued then s
    else
      let (c, t) := s.issueCounter m
      let t := (t.setLan fun l => { l with msgs := l.msgs.filter fun x => x.id != q.id }).emit
        (.response m q.addr c q.ref q.txn q.results)
      q.after.foldl doAfter t
  | none => s

/-- As many events, from the first, as one message holds: 255 records, and 8,192 bytes with header and tag. -/
def fitEvents : Nat → Nat → List EventRec → List EventRec
  | 0, _, _ => []
  | _, _, [] => []
  | k + 1, room, e :: rest =>
    if 28 + e.detail.length ≤ room then e :: fitEvents k (room - 28 - e.detail.length) rest else []

/-- Events of a master sent in one message. -/
def sendEvents (s : State) (m : Master) (es : List EventRec) : State :=
  let es := fitEvents 255 8136 es
  match s.lan.masters[m].addr, es.getLast? with
  | some a, some e =>
    if lastCounter ≤ s.lan.masters[m].issued then s
    else
      let (c, t) := s.issueCounter m
      let r := t.lan.masters[m]
      (t.setMaster m { r with sentUpTo := max r.sentUpTo e.seq, lastSend := t.now }).emit (.events m a c es)
  | _, _ => s

/-- Whether Lantern's firmware sends events: it runs, and the device is not in Glim. -/
def sendsEvents (s : State) (m : Master) : Bool := s.serves m && !s.boot.recovery

end State

open State

/-- R404 to R406: a datagram on a master's interface. -/
def execSconceRequest (m : Master) (addr : Nat) (datagram : List Byte) (s : State) : Host.Outcome State Fault Refusal :=
  if s.listens m then .next (s.datagram m addr datagram) else .next s

/-- R408: a Read record. -/
def execRead (m : Master) (ref : ObjRef) (off len : Nat) (s : State) : Host.Outcome State Fault Refusal :=
  .next (s.hostRequest m ⟨1, ref, off, len, []⟩)

/-- R410: a Write record. -/
def execWrite (m : Master) (ref : ObjRef) (off : Nat) (value : List Byte) (s : State) :
    Host.Outcome State Fault Refusal :=
  .next (s.hostRequest m ⟨2, ref, off, value.length, value⟩)

/-- R413: a Claim record. -/
def execClaim (m : Master) (ref : ObjRef) (s : State) : Host.Outcome State Fault Refusal :=
  .next (s.hostRequest m ⟨3, ref, 0, 0, []⟩)

/-- R413: a Release record. -/
def execRelease (m : Master) (ref : ObjRef) (s : State) : Host.Outcome State Fault Refusal :=
  .next (s.hostRequest m ⟨4, ref, 0, 0, []⟩)

/-- R407: a Next record. -/
def execNext (m : Master) (ref : ObjRef) (s : State) : Host.Outcome State Fault Refusal :=
  .next (s.hostRequest m ⟨5, ref, 0, 0, []⟩)

/-- R407: a Default record. -/
def execDefault (m : Master) (ref : ObjRef) (count : Nat) (s : State) : Host.Outcome State Fault Refusal :=
  .next (s.hostRequest m ⟨6, ref, count, 0, []⟩)

/-- R410: the response of a message whose operations have all been decided. -/
def execResponseSent (m : Master) (s : State) : Host.Outcome State Fault Refusal :=
  if s.serves m then .next (s.respond m) else .next s

/-- R413: a master that has sent no accepted request for SconceClaimTimeout loses its claims. -/
def execClaimTimeout (m : Master) (s : State) : Host.Outcome State Fault Refusal :=
  if s.boot.lanternUp ∧ s.lan.masters[m].lastAccepted + s.n .sconceClaimTimeout 0 * Tm.s ≤ s.now then
    .next (s.setLan fun l => { l with claims := l.claims.filter fun c => c.master != m })
  else .next s

/-- R413: a write of SconceClaimBreak. -/
def execClaimBreak (m : Master) (target : Nat) (s : State) : Host.Outcome State Fault Refusal :=
  .next (s.hostWrite m .sconceClaimBreak 0 (beBytes 1 target) claimBreakEff)

/-- R418: an event acknowledgement. -/
def execEventAcknowledgement (m : Master) (ref : Nat) (s : State) : Host.Outcome State Fault Refusal :=
  if s.serves m then .next (s.ackEvents m ref) else .next s

/-- R418: the events queued for a master are sent in order. -/
def execEventSend (m : Master) (s : State) : Host.Outcome State Fault Refusal :=
  let r := s.lan.masters[m]
  if s.sendsEvents m then .next (s.sendEvents m (r.events.filter fun e => r.sentUpTo < e.seq)) else .next s

/-- R418: unacknowledged events are sent again after 500 ms. -/
def execEventResend (m : Master) (s : State) : Host.Outcome State Fault Refusal :=
  let r := s.lan.masters[m]
  if s.sendsEvents m ∧ r.lastSend + 500 * Tm.ms ≤ s.now then
    .next (s.sendEvents m (r.events.filter fun e => e.seq ≤ r.sentUpTo))
  else .next s

/-- R421: a write of MasterKey. -/
def execMasterKeyWrite (m target : Master) (key : List Byte) (s : State) : Host.Outcome State Fault Refusal :=
  .next (s.hostRequest m (writeRec .masterKey target 0 key))

/-- R369: a write of CommissionKey. -/
def execCommissionKeyWrite (m : Master) (key : List Byte) (s : State) : Host.Outcome State Fault Refusal :=
  .next (s.hostRequest m (writeRec .commissionKey 0 0 key))

/-- R423: a segment of an image. -/
def execImageUpload (m : Master) (kind : Fin 2) (off : Nat) (segment : List Byte) (s : State) :
    Host.Outcome State Fault Refusal :=
  .next (s.hostRequest m (writeRec .imageUpload kind off segment))

/-- R423: a write of ImageCommit. -/
def execImageCommit (m : Master) (kind : Fin 2) (value : Nat) (s : State) : Host.Outcome State Fault Refusal :=
  .next (s.hostRequest m (writeRec .imageCommit kind 0 (beBytes 1 value)))

/-- R423: a committed image has been verified, and stored or refused. -/
def execImageStored (kind : Fin 2) (s : State) : Host.Outcome State Fault Refusal :=
  if s.boot.lanternUp ∧ s.nvmUp ∧ s.n .imageStatus kind = 2 then .next (s.imageStore kind) else .next s

/-- R420: a write of OmciSend. -/
def execOmciSend (m : Master) (t : Term) (value : List Byte) (s : State) : Host.Outcome State Fault Refusal :=
  .next (s.hostRequest m (writeRec .omciSend t 0 value))

/-- R372: a write of AttestRequest. -/
def execAttestRequest (m : Master) (slot : Fin 3) (nonce : List Byte) (s : State) :
    Host.Outcome State Fault Refusal :=
  .next (s.hostRequest m (writeRec .attestRequest slot 0 nonce))

/-- R372: the report at the head of the queue is signed, at most one every 10 s and none during a power-fail warning. -/
def execAttestReportSigned (slot : Fin 3) (s : State) : Host.Outcome State Fault Refusal :=
  let rested : Bool := match s.lan.signedAt with
    | some t => decide (t + 10 * Tm.s ≤ s.now)
    | none => true
  match s.lan.attest with
  | q :: _ =>
    if s.boot.lanternUp ∧ s.nvmUp ∧ rested ∧ q.inst = slot ∧ s.n .powerFailState 0 = 0 then .next (s.reportSign q)
    else .next s
  | [] => .next s

/-- R368: a write of FirmwareRollbackCommit. -/
def execFirmwareRollbackCommit (m : Master) (value : Nat) (s : State) : Host.Outcome State Fault Refusal :=
  .next (s.hostRequest m (writeRec .firmwareRollbackCommit 0 0 (beBytes 1 value)))

/-- R474: a write of 1 to WarmReset. -/
def execWarmResetLantern (m : Master) (s : State) : Host.Outcome State Fault Refusal :=
  .next (s.hostRequest m (writeRec .warmReset 0 0 (beBytes 1 1)))

/-- R474: a write of 2 to WarmReset. -/
def execWarmResetDevice (m : Master) (s : State) : Host.Outcome State Fault Refusal :=
  .next (s.hostRequest m (writeRec .warmReset 0 0 (beBytes 1 2)))

/-- R472: a write of FirmwareActivate. -/
def execFirmwareActivate (m : Master) (value : Nat) (s : State) : Host.Outcome State Fault Refusal :=
  .next (s.hostRequest m (writeRec .firmwareActivate 0 0 (beBytes 1 value)))

/-- R472: a write of FirmwareConfirm. -/
def execFirmwareConfirm (m : Master) (value : Nat) (s : State) : Host.Outcome State Fault Refusal :=
  .next (s.hostRequest m (writeRec .firmwareConfirm 0 0 (beBytes 1 value)))

/-- R472: FirmwareTrialTime seconds after Ready without confirmation, Lantern sets TRIES to 2 and restarts alone. -/
def execFirmwareTrialExpiry (s : State) : Host.Outcome State Fault Refusal :=
  let limit := s.n .firmwareTrialTime 0
  match s.boot.readyAt with
  | some at_ =>
    if s.boot.lanternUp ∧ ¬ s.boot.recovery ∧ s.nvm.trial ∧ limit ≠ 0 ∧
        max at_ s.boot.lanternStart + limit * Tm.s ≤ s.now then
      .next ((s.orderly.setNvm fun n => { n with tries := 2 }).lanternReset 7)
    else .next s
  | none => .next s

/-- R432: a Read of RawRegister. -/
def execRawRegisterRead (m : Master) (reg : Fin 16777216) (s : State) : Host.Outcome State Fault Refusal :=
  .next (s.hostRequest m ⟨1, ⟨0xF000, 1, reg⟩, 0, 0, []⟩)

/-- R432, R427: a Write of RawRegister; `hw` is a hardware update in the same cycle. -/
def execRawRegisterWrite (m : Master) (reg : Fin 16777216) (value : Nat) (hw : HwUpdate) (s : State) :
    Host.Outcome State Fault Refusal :=
  .next (s.hostWrite m .rawRegister reg (beBytes 4 value) (rawWriteEff hw))

end Sys2Proof.Machine
end

