-- ==== Sys2Proof/Machine/Boundary.lean ====
section
/-!
DEFINITION. The boundaries of Wick time (R14, R15): the Frame boundary with the work every part of the device does there,
the Second boundary, the start of a channel's epoch, and the entry of a channel's lanes to Run.
-/

namespace Sys2Proof.Machine

namespace State

/-- The present instant is a Frame boundary whose work has been done. -/
def frameServed (s : State) : Bool := s.atFrame && s.clk.frameAt == some s.wick

/-! ### Writes and staged sets due (R14, R412, R431) -/

/-- The frame in progress is the first of one of the channel's epochs. -/
def startsEpoch (s : State) (ch : Nat) : Bool :=
  match s.epochOf ch s.frameNo with
  | some e => e.1 == s.frameNo
  | none => false

/-- The epochs of a channel that sends frames carried on to the frame in progress, and those that have ended dropped. -/
def epochFrame (s : State) (ch : Nat) : State :=
  if s.sending ch then
    let s := s.coverEpoch ch s.frameNo
    s.setGch ch { s.gch ch with epochs := (s.gch ch).epochs.filter fun e => s.frameNo < e.1 + e.2 }
  else s

/-- Whether Lantern gives pending writes their effect: it is available, the die is configured or its start has failed,
and the link is not being retrained (R396, R439, R467). -/
def takesWrites (s : State) : Bool :=
  s.avail && s.n .ucieLinkState 0 != 4 && (s.boot.configured || s.n .startPhase 0 == 6)

/-- Whether a committed set's boundary is the present Frame boundary; never that of the instant of its commitment (R16). -/
def setDue (s : State) (c : CommitSet) : Bool :=
  match c.cls with
  | 0 => true
  | 2 => decide (c.at_ < s.now) && (s.laneState c.chan != 2 || s.startsEpoch c.chan)
  | 3 => decide (c.at_ < s.now) && s.wick % Tm.s == 0
  | _ => decide (c.at_ < s.now)

/-- Pending writes, then committed sets, that are due. -/
def dueWrites (s : State) : State :=
  let t := if s.takesWrites then s.boundaryWrites (s.dueNow s.startsEpoch) else s
  s.activationAborts (t.applySets t.setDue)

/-! ### Lanes (R22, R38, R39) -/

/-- Whether channels may leave Off: after Warming (R182), with the die configured, once the grant lanes have voted (R172),
and not around Glim. -/
def lanesMayStart (s : State) : Bool :=
  s.n .wickState 0 != 0 && s.boot.configured && s.grants.started && s.n .startPhase 0 != 6 && s.boot.glimEntry.isNone &&
    !(s.boot.returning.isSome && (s.grants.reload.isSome || s.grants.reloadDue))

/-- A channel that is wanted leaves Off (LANE_STARTING), with its asymmetry set (R117). -/
def startLane (s : State) (ch : Nat) : State :=
  if s.laneWanted ch then
    if s.lanesMayStart then
      let t := s.laneStart ch
      if s.laneState ch = 0 ∧ t.laneState ch = 1 then t.asymLoad ch else t
    else s
  else if (s.lane ch).badPair then s.setLane ch { s.lane ch with badPair := false }
  else s

/-! ### The Frame boundary -/

/-- A channel's frame leaves, and what its messages announce is noted. -/
def startFrame (s : State) (ch : Nat) : State := ((((s.discardUnserved ch).sendMap ch).noteSent ch).noteAlloc ch).mapsEnd ch

/-- The head-end die's work at a Frame boundary. -/
def fabricFrame (s : State) : State :=
  let s := (List.range 32).foldl epochFrame s
  let s := s.dueWrites.headlessAborts.snuffFrame.ciphFrame
  let s := s.frameSelect.steer.actFrame.allocFrame.laneFrame
  let s := ((List.range 32).foldl startLane ((List.range 32).foldl pllFrame s)).leaveAll
  let s := ((List.range 32).foldl startFrame s).soloFrame
  (List.range 32).foldl framerEmpty s

/-- The work of the present Frame boundary: in Glim or with the die in reset, Wick's alone. -/
def frameWork (s : State) : State :=
  (if s.fabricRuns then s.fabricFrame else s.frameSelect.steer).setClk fun c => { c with frameAt := some s.wick }

/-! ### The Second boundary -/

/-- PPS_OUT[k] for the second that begins: its edge lies PpsOutAdvance before it, and it stays high for PpsOutWidth
(R203, R208). -/
def ppsOut (s : State) (k : Nat) : State :=
  if s.on .ppsOutEnable k ∧ ¬ s.squelched (s.on .ppsOutSquelch k) then
    let rise := ((s.wick : Int) - psTime (s.num .ppsOutAdvance k)).toNat
    s.emit (.pulse 3 k rise (rise + s.n .ppsOutWidth k * Tm.us) true)
  else s

/-- TOD_OUT's time event and time announce messages for the edge of PPS_OUT[0] of the second that begins, between 1 ms
and 500 ms after it (R203). -/
def todOut (s : State) : State :=
  if s.on .todOutEnable 0 ∧ s.on .ppsOutEnable 0 ∧ ¬ s.squelched (s.on .ppsOutSquelch 0) then
    let edge := ((s.wick : Int) - psTime (s.num .ppsOutAdvance 0)).toNat
    let send (t : State) (kind : Nat) (body : List Nat) : State :=
      t.emit (.serial kind (t.n .todOutBaud 0) (edge + Tm.ms) (edge + 500 * Tm.ms) body)
    send (send s 0 [s.second]) 1 [s.second, s.n .wickState 0]
  else s

/-- FREQ_OUT[k] for the second that begins, with a rising edge at its boundary (R204, R208). -/
def freqOut (s : State) (k : Nat) : State :=
  if s.on .freqOutEnable k ∧ ¬ s.squelched (s.on .freqOutSquelch k) then s.emit (.square k (s.n .freqOutHz k) s.wick) else s

/-- COUNTER_SECOND_LATCH: a unit's counters copied, with the second and WickStepCount (R502). -/
def unitSecond (s : State) (u : Nat) : State :=
  if s.on .unitSecondLatch u then
    let t := (List.range 16).foldl (fun t k => t.put .counterSecondValue (16 * u + k) (t.n .counterValue (16 * u + k))) s
    t.putReg (Reg.cntUnitSec u) (s.second % 16777216 + s.n .wickStepCount 0 % 256 * 16777216)
  else s

/-- One of the four counts of a line instance in this second. -/
def lineCount (s : State) (line k : Nat) : Nat := min 4294967295 (tabGet (fun _ => 0) s.lineRun (4 * line + k))

/-- LINE_SECOND_LATCH: a line instance's counts, and whether the second was errored (R506, R507). -/
def lineSecond (s : State) (line : Nat) : State :=
  let s := s.putOct .lineSecond line (beBytes 8 (s.second - 1) ++ beBytes 1 (s.n .wickStepCount 0) ++ beBytes 3 0 ++
    (List.range 4).flatMap fun k => beBytes 4 (s.lineCount line k))
  if s.lineCount line 3 ≠ 0 ∨ (48 ≤ line ∧ (s.lineCount line 1 ≠ 0 ∨ s.lineCount line 2 ≠ 0)) then
    s.bump .lineErroredSeconds line 1
  else s

/-- What the sensors read (R465): supply voltage, current and power, the case, the four dies, the oscillator's case. -/
def sensed (s : State) (x : Vector Int 9) : State :=
  let s := ((s.put .supplyVoltage 0 x[0].toNat).put .supplyCurrent 0 x[1].toNat).put .supplyPower 0 x[2].toNat
  let s := (s.puti .caseTemperature 0 x[3]).puti .oscCaseTemperature 0 x[8]
  (((s.puti .dieTemperature 0 x[4]).puti .dieTemperature 1 x[5]).puti .dieTemperature 2 x[6]).puti .dieTemperature 3 x[7]

/-- The head-end die's work at a Second boundary: the writes due, where the Frame boundary of this instant has not taken
them, then latches and references. -/
def fabricSecond (s : State) : State :=
  let s := (((s.ppsOut 0).todOut.ppsOut 1).freqOut 0).freqOut 1
  let s := if s.frameServed then s else s.dueWrites
  let s := (s.count 0x101 0 1).rtdUpdate
  let s := (List.range 32).foldl channelTod s
  let s := (List.range 64).foldl lineSecond ((List.range 16).foldl unitSecond s)
  { s with lineRun := [] }

/-- The work of the present Second boundary. -/
def secondWork (s : State) (x : Vector Int 9) : State :=
  let s := ((s.sensed x).wickSecond).setClk fun c => { c with secondAt := some s.wick }
  let s := if s.boot.glim then s else s.lifeSecond
  if s.fabricRuns then s.fabricSecond else s

/-! ### Idle -/

/-- What the sensors read last. -/
def readings (s : State) : Vector Int 9 :=
  #v[s.n .supplyVoltage 0, s.n .supplyCurrent 0, s.n .supplyPower 0, s.num .caseTemperature 0, s.num .dieTemperature 0,
    s.num .dieTemperature 1, s.num .dieTemperature 2, s.num .dieTemperature 3, s.num .oscCaseTemperature 0]

/-- No command waits: one tick of the reference, or, where it would pass a Frame boundary, the boundary with its work and
that of a Second boundary, with the sensors as they stand. -/
def idle (s : State) : State :=
  if s.wickRuns ∧ s.nextBoundary ≤ s.wick + s.inc then
    let t := s.toBoundary.frameWork
    if t.wick % Tm.s = 0 ∧ t.clk.secondAt ≠ some t.wick then t.secondWork t.readings else t
  else s.tick

/-! ### Run -/

/-- Run entered, with what goes out as it is: burst profiles, quarantine, and the first frame where this instant's frames
have left. -/
def runEntry (s : State) (ch : Nat) : State :=
  let s := ((((s.laneRun ch).announceAll ch).quarantineReplay ch).portEvents ch).epochFrame ch
  if s.frameServed then s.startFrame ch else s

end State

open State

/-- R15: the next Frame boundary of Wick time, with the writes and sets due there (R14, R412, R431) and the work of every
part at it (R39, R47, R52, R106, R122, R162, R169, R189, R485). -/
def execFrameBoundary (s : State) : Host.Outcome State Fault Refusal :=
  if s.wickRuns then .next s.toBoundary.frameWork else .next s

/-- R14: an integer second of Wick time, served once (R118, R188, R194, R203, R209, R502, R506, R508). -/
def execSecondBoundary (sensors : Vector Int 9) (s : State) : Host.Outcome State Fault Refusal :=
  if s.wickRuns ∧ s.wick % Tm.s = 0 ∧ s.clk.secondAt ≠ some s.wick then .next (s.secondWork sensors) else .next s

/-- R163: the channel's epoch has run its frames and the next one is fixed; where it starts at the present Frame boundary
the channel's Epoch writes and sets take effect. -/
def execEpochStart (ch : Chan) (s : State) : Host.Outcome State Fault Refusal :=
  if s.fabricRuns ∧ s.atFrame ∧ s.sending ch then
    let t := s.epochFrame ch
    if t.startsEpoch ch then
      let u := if t.takesWrites then t.boundaryWrites fun w => w.cls == 3 && w.chan == some ch.val && decide (w.at_ < t.now) else t
      let v := u.applySets fun c => c.cls == 2 && c.chan == ch.val && decide (c.at_ < u.now)
      .next (v.put .channelEpochIndex ch 0)
    else .next t
  else .next s

/-- R39: the Frame boundary fixed for the channel's entry to Run. -/
def execLaneRunEntry (ch : Chan) (s : State) : Host.Outcome State Fault Refusal :=
  if s.fabricRuns ∧ s.laneState ch = 1 ∧ s.atFrame ∧ (s.lane ch).runFrame ≤ s.frameNo then .next (s.runEntry ch)
  else .next s

end Sys2Proof.Machine
end

