-- ==== Sys2Proof/Machine/Dispatch.lean ====
section
/-!
DEFINITION. What each command does: one arm for each constructor of Instr, each a direct call of the command's meaning.
-/

namespace Sys2Proof.Machine

/-- The effect of a command on everything but the queue. -/
def exec (i : Instr) (s : State) : Host.Outcome State Fault Refusal :=
  match i with
  | .frameBoundary => Sys2Proof.Machine.execFrameBoundary s
  | .secondBoundary sensors => Sys2Proof.Machine.execSecondBoundary sensors s
  | .epochStart ch => Sys2Proof.Machine.execEpochStart ch s
  | .sconceRequest m addr datagram => Sys2Proof.Machine.execSconceRequest m addr datagram s
  | .read m ref off len => Sys2Proof.Machine.execRead m ref off len s
  | .write m ref off value => Sys2Proof.Machine.execWrite m ref off value s
  | .claim m ref => Sys2Proof.Machine.execClaim m ref s
  | .release m ref => Sys2Proof.Machine.execRelease m ref s
  | .next m ref => Sys2Proof.Machine.execNext m ref s
  | .default m ref count => Sys2Proof.Machine.execDefault m ref count s
  | .responseSent m => Sys2Proof.Machine.execResponseSent m s
  | .claimTimeout m => Sys2Proof.Machine.execClaimTimeout m s
  | .claimBreak m target => Sys2Proof.Machine.execClaimBreak m target s
  | .eventAcknowledgement m ref => Sys2Proof.Machine.execEventAcknowledgement m ref s
  | .eventSend m => Sys2Proof.Machine.execEventSend m s
  | .eventResend m => Sys2Proof.Machine.execEventResend m s
  | .masterKeyWrite m target key => Sys2Proof.Machine.execMasterKeyWrite m target key s
  | .commissionKeyWrite m key => Sys2Proof.Machine.execCommissionKeyWrite m key s
  | .imageUpload m kind off segment => Sys2Proof.Machine.execImageUpload m kind off segment s
  | .imageCommit m kind value => Sys2Proof.Machine.execImageCommit m kind value s
  | .imageStored kind => Sys2Proof.Machine.execImageStored kind s
  | .omciSend m t value => Sys2Proof.Machine.execOmciSend m t value s
  | .attestRequest m slot nonce => Sys2Proof.Machine.execAttestRequest m slot nonce s
  | .attestReportSigned slot => Sys2Proof.Machine.execAttestReportSigned slot s
  | .firmwareRollbackCommit m value => Sys2Proof.Machine.execFirmwareRollbackCommit m value s
  | .warmResetLantern m => Sys2Proof.Machine.execWarmResetLantern m s
  | .warmResetDevice m => Sys2Proof.Machine.execWarmResetDevice m s
  | .firmwareActivate m value => Sys2Proof.Machine.execFirmwareActivate m value s
  | .firmwareConfirm m value => Sys2Proof.Machine.execFirmwareConfirm m value s
  | .firmwareTrialExpiry => Sys2Proof.Machine.execFirmwareTrialExpiry s
  | .lifetimeSave m value => Sys2Proof.Machine.execLifetimeSave m value s
  | .periodicSave => Sys2Proof.Machine.execPeriodicSave s
  | .lifetimeRecordSaved => Sys2Proof.Machine.execLifetimeRecordSaved s
  | .rawRegisterRead m reg => Sys2Proof.Machine.execRawRegisterRead m reg s
  | .rawRegisterWrite m reg value hw => Sys2Proof.Machine.execRawRegisterWrite m reg value hw s
  | .registerWrite addr value staged hw => Sys2Proof.Machine.execRegisterWrite addr value staged hw s
  | .stageOpen => Sys2Proof.Machine.execStageOpen s
  | .stageDiscard => Sys2Proof.Machine.execStageDiscard s
  | .commitGo cls ch => Sys2Proof.Machine.execCommitGo cls ch s
  | .recordClear which => Sys2Proof.Machine.execRecordClear which s
  | .glbLockSet bits => Sys2Proof.Machine.execGlbLockSet bits s
  | .glbSnapshotWrite word => Sys2Proof.Machine.execGlbSnapshotWrite word s
  | .wickNsLoRead => Sys2Proof.Machine.execWickNsLoRead s
  | .tcDsSfcLoRead ch => Sys2Proof.Machine.execTcDsSfcLoRead ch s
  | .ciphKeyUsageLoRead => Sys2Proof.Machine.execCiphKeyUsageLoRead s
  | .cntValLoRead c => Sys2Proof.Machine.execCntValLoRead c s
  | .tsTxEntry3Read p => Sys2Proof.Machine.execTsTxEntry3Read p s
  | .captInfoRead k => Sys2Proof.Machine.execCaptInfoRead k s
  | .captNextRead m k => Sys2Proof.Machine.execCaptNextRead m k s
  | .queueMaxRead m delay q => Sys2Proof.Machine.execQueueMaxRead m delay q s
  | .highWaterRead m ts q => Sys2Proof.Machine.execHighWaterRead m ts q s
  | .unitStart m unit mask => Sys2Proof.Machine.execUnitStart m unit mask s
  | .unitStop m unit mask => Sys2Proof.Machine.execUnitStop m unit mask s
  | .counterSnapshot m value => Sys2Proof.Machine.execCounterSnapshot m value s
  | .counterOverflowClear m c value => Sys2Proof.Machine.execCounterOverflowClear m c value s
  | .counterValueLoad m c value inc => Sys2Proof.Machine.execCounterValueLoad m c value inc s
  | .counterOverflow c amount => Sys2Proof.Machine.execCounterOverflow c amount s
  | .upstreamFrameAccounted ch => Sys2Proof.Machine.execUpstreamFrameAccounted ch s
  | .laneMarginMeasurement lane eye => Sys2Proof.Machine.execLaneMarginMeasurement lane eye s
  | .channelRssiRequest m ch t => Sys2Proof.Machine.execChannelRssiRequest m ch t s
  | .rssiTrigger ch t => Sys2Proof.Machine.execRssiTrigger ch t s
  | .rssiRequestLapse ch => Sys2Proof.Machine.execRssiRequestLapse ch s
  | .cageI2cRequest m c request => Sys2Proof.Machine.execCageI2cRequest m c request s
  | .i2cRequestComplete c sda status data => Sys2Proof.Machine.execI2cRequestComplete c sda status data s
  | .i2cClockStretchTimeout c sda => Sys2Proof.Machine.execI2cClockStretchTimeout c sda s
  | .moduleInsertion c => Sys2Proof.Machine.execModuleInsertion c s
  | .identityReadComplete c bytes => Sys2Proof.Machine.execIdentityReadComplete c bytes s
  | .moduleRemoval c => Sys2Proof.Machine.execModuleRemoval c s
  | .laneRunEntry ch => Sys2Proof.Machine.execLaneRunEntry ch s
  | .txPllLossOfLock ch => Sys2Proof.Machine.execTxPllLossOfLock ch s
  | .faultRecovery ch => Sys2Proof.Machine.execFaultRecovery ch s
  | .rxPllLossOfLock ch => Sys2Proof.Machine.execRxPllLossOfLock ch s
  | .laneSleepEntry ch => Sys2Proof.Machine.execLaneSleepEntry ch s
  | .sleepRxPllStart ch => Sys2Proof.Machine.execSleepRxPllStart ch s
  | .laneNap ch gapStart gapEnd => Sys2Proof.Machine.execLaneNap ch gapStart gapEnd s
  | .laneNapWake ch => Sys2Proof.Machine.execLaneNapWake ch s
  | .loopModeSet m ch mode => Sys2Proof.Machine.execLoopModeSet m ch mode s
  | .prbsClr ch => Sys2Proof.Machine.execPrbsClr ch s
  | .rxCal ch => Sys2Proof.Machine.execRxCal ch s
  | .presetTrackingStep ch t => Sys2Proof.Machine.execPresetTrackingStep ch t s
  | .burstReceived ch frame alloc pipe r => Sys2Proof.Machine.execBurstReceived ch frame alloc pipe r s
  | .bondingTimeout f pipe => Sys2Proof.Machine.execBondingTimeout f pipe s
  | .bondingResync f => Sys2Proof.Machine.execBondingResync f s
  | .lightFound ch a b level => Sys2Proof.Machine.execLightFound ch a b level s
  | .rogueSuspicion ch named => Sys2Proof.Machine.execRogueSuspicion ch named s
  | .rogueObservationEnd ch => Sys2Proof.Machine.execRogueObservationEnd ch s
  | .huntStepEnd ch => Sys2Proof.Machine.execHuntStepEnd ch s
  | .huntRetry ch => Sys2Proof.Machine.execHuntRetry ch s
  | .huntAbort ch => Sys2Proof.Machine.execHuntAbort ch s
  | .rogueRelease m t value => Sys2Proof.Machine.execRogueRelease m t value s
  | .quietWindowFixed ch => Sys2Proof.Machine.execQuietWindowFixed ch s
  | .quietAt m ch time => Sys2Proof.Machine.execQuietAt m ch time s
  | .quietNow ch => Sys2Proof.Machine.execQuietNow ch s
  | .serialNumberResponse ch hits phase good serial code => Sys2Proof.Machine.execSerialNumberResponse ch hits phase good serial code s
  | .quietWindowEnd ch light => Sys2Proof.Machine.execQuietWindowEnd ch light s
  | .rangingResponse ch t hits phase good code => Sys2Proof.Machine.execRangingResponse ch t hits phase good code s
  | .rangingWindowEnd ch t => Sys2Proof.Machine.execRangingWindowEnd ch t s
  | .registrationRequest ch t => Sys2Proof.Machine.execRegistrationRequest ch t s
  | .registrationReply ch t id => Sys2Proof.Machine.execRegistrationReply ch t id s
  | .registrationTimeout ch t => Sys2Proof.Machine.execRegistrationTimeout ch t s
  | .authLockoutExpiry ch serial => Sys2Proof.Machine.execAuthLockoutExpiry ch serial s
  | .driftCorrectionTimeout ch t => Sys2Proof.Machine.execDriftCorrectionTimeout ch t s
  | .terminalLost ch t => Sys2Proof.Machine.execTerminalLost ch t s
  | .lostHoldExpiry ch t => Sys2Proof.Machine.execLostHoldExpiry ch t s
  | .sleepRequest t mode => Sys2Proof.Machine.execSleepRequest t mode s
  | .sleepAllow t => Sys2Proof.Machine.execSleepAllow t s
  | .awarePeriodEnd t => Sys2Proof.Machine.execAwarePeriodEnd t s
  | .sleepLoss ch t => Sys2Proof.Machine.execSleepLoss ch t s
  | .mapComputation wrong builder => Sys2Proof.Machine.execMapComputation wrong builder s
  | .grantLaneCopyComplete l => Sys2Proof.Machine.execGrantLaneCopyComplete l s
  | .grantLaneRejoin l => Sys2Proof.Machine.execGrantLaneRejoin l s
  | .grantReload => Sys2Proof.Machine.execGrantReload s
  | .reloadComplete => Sys2Proof.Machine.execReloadComplete s
  | .grantLaneTest m value => Sys2Proof.Machine.execGrantLaneTest m value s
  | .grantLaneTestEnd => Sys2Proof.Machine.execGrantLaneTestEnd s
  | .grantLaneRelease m value => Sys2Proof.Machine.execGrantLaneRelease m value s
  | .ctiReport p ether entries => Sys2Proof.Machine.execCtiReport p ether entries s
  | .passageCooperativeOrder q alloc start volume => Sys2Proof.Machine.execPassageCooperativeOrder q alloc start volume s
  | .fsyncEdge rising stamp => Sys2Proof.Machine.execFsyncEdge rising stamp s
  | .fsyncLost => Sys2Proof.Machine.execFsyncLost s
  | .wickSetTime m time => Sys2Proof.Machine.execWickSetTime m time s
  | .wickStep => Sys2Proof.Machine.execWickStep s
  | .wickCopyMismatch copy increment value => Sys2Proof.Machine.execWickCopyMismatch copy increment value s
  | .wickNoMajority increment a b => Sys2Proof.Machine.execWickNoMajority increment a b s
  | .ovenReady => Sys2Proof.Machine.execOvenReady s
  | .warmingTimeout => Sys2Proof.Machine.execWarmingTimeout s
  | .ovenFault => Sys2Proof.Machine.execOvenFault s
  | .ptpMessageReceived d p msg => Sys2Proof.Machine.execPtpMessageReceived d p msg s
  | .ptpMessageSend p type seq h => Sys2Proof.Machine.execPtpMessageSend p type seq h s
  | .todMessageReceived msg => Sys2Proof.Machine.execTodMessageReceived msg s
  | .ppsInEdge k stamp => Sys2Proof.Machine.execPpsInEdge k stamp s
  | .domainLocked d => Sys2Proof.Machine.execDomainLocked d s
  | .domainLost d announce => Sys2Proof.Machine.execDomainLost d announce s
  | .wickLocked => Sys2Proof.Machine.execWickLocked s
  | .domainRevert d => Sys2Proof.Machine.execDomainRevert d s
  | .domainInconsistent => Sys2Proof.Machine.execDomainInconsistent s
  | .domainConsistent d => Sys2Proof.Machine.execDomainConsistent d s
  | .headlessHoldover => Sys2Proof.Machine.execHeadlessHoldover s
  | .holdoverExpiry => Sys2Proof.Machine.execHoldoverExpiry s
  | .holdExpiryRecompute => Sys2Proof.Machine.execHoldExpiryRecompute s
  | .binLearned b f => Sys2Proof.Machine.execBinLearned b f s
  | .ageingRefit rate => Sys2Proof.Machine.execAgeingRefit rate s
  | .timeModelReset m value => Sys2Proof.Machine.execTimeModelReset m value s
  | .trigArm m k => Sys2Proof.Machine.execTrigArm m k s
  | .trigDisarm m k => Sys2Proof.Machine.execTrigDisarm m k s
  | .triggerPulse k => Sys2Proof.Machine.execTriggerPulse k s
  | .captureEdge k rising stamp => Sys2Proof.Machine.execCaptureEdge k rising stamp s
  | .captClr => Sys2Proof.Machine.execCaptClr s
  | .uplinkFrameReceived p pipe f => Sys2Proof.Machine.execUplinkFrameReceived p pipe f s
  | .learnRequestProcessed engine => Sys2Proof.Machine.execLearnRequestProcessed engine s
  | .stashMigration pos => Sys2Proof.Machine.execStashMigration pos s
  | .agerVisit pos => Sys2Proof.Machine.execAgerVisit pos s
  | .staticRestore domain mac => Sys2Proof.Machine.execStaticRestore domain mac s
  | .ruleRestore rule => Sys2Proof.Machine.execRuleRestore rule s
  | .gallerySearch m c => Sys2Proof.Machine.execGallerySearch m c s
  | .galleryInsert m c => Sys2Proof.Machine.execGalleryInsert m c s
  | .galleryDelete m c => Sys2Proof.Machine.execGalleryDelete m c s
  | .galleryWalkOpen m c => Sys2Proof.Machine.execGalleryWalkOpen m c s
  | .galleryNext m c => Sys2Proof.Machine.execGalleryNext m c s
  | .galleryWalkClose m c => Sys2Proof.Machine.execGalleryWalkClose m c s
  | .galleryFlush m c => Sys2Proof.Machine.execGalleryFlush m c s
  | .walkTimeout cursor => Sys2Proof.Machine.execWalkTimeout cursor s
  | .flushStart => Sys2Proof.Machine.execFlushStart s
  | .flushComplete => Sys2Proof.Machine.execFlushComplete s
  | .fragmentRecordExpiry => Sys2Proof.Machine.execFragmentRecordExpiry s
  | .framerRequest ch room => Sys2Proof.Machine.execFramerRequest ch room s
  | .keyHeldDiscard q => Sys2Proof.Machine.execKeyHeldDiscard q s
  | .sampleSweep => Sys2Proof.Machine.execSampleSweep s
  | .pressureSignal pool => Sys2Proof.Machine.execPressureSignal pool s
  | .verdictWritten cell ok icv => Sys2Proof.Machine.execVerdictWritten cell ok icv s
  | .sumpRebuildDone => Sys2Proof.Machine.execSumpRebuildDone s
  | .pauseFrameReceived p time => Sys2Proof.Machine.execPauseFrameReceived p time s
  | .pfcFrameReceived p enable times => Sys2Proof.Machine.execPfcFrameReceived p enable times s
  | .pauseStopExpiry p c => Sys2Proof.Machine.execPauseStopExpiry p c s
  | .flowControlRefresh p => Sys2Proof.Machine.execFlowControlRefresh p s
  | .uplinkLinkUp p => Sys2Proof.Machine.execUplinkLinkUp p s
  | .uplinkLinkDown p lost locks => Sys2Proof.Machine.execUplinkLinkDown p lost locks s
  | .uplinkTransmitFrame port at_ => Sys2Proof.Machine.execUplinkTransmitFrame port at_ s
  | .macsecHeldDiscard port c => Sys2Proof.Machine.execMacsecHeldDiscard port c s
  | .uplinkLoop m p value => Sys2Proof.Machine.execUplinkLoop m p value s
  | .uplinkWakeMatch p seen => Sys2Proof.Machine.execUplinkWakeMatch p seen s
  | .passageFrameReceived q pipe f => Sys2Proof.Machine.execPassageFrameReceived q pipe f s
  | .learnNoticeReceived q src domain mac => Sys2Proof.Machine.execLearnNoticeReceived q src domain mac s
  | .creditFrameReceived q counts => Sys2Proof.Machine.execCreditFrameReceived q counts s
  | .creditFrameSend q => Sys2Proof.Machine.execCreditFrameSend q s
  | .presenceFrameReceived q src nonce => Sys2Proof.Machine.execPresenceFrameReceived q src nonce s
  | .presenceSend => Sys2Proof.Machine.execPresenceSend s
  | .reachTimeout q d => Sys2Proof.Machine.execReachTimeout q d s
  | .timeMessageReceived q msg => Sys2Proof.Machine.execTimeMessageReceived q msg s
  | .timeSyncSend q stamp => Sys2Proof.Machine.execTimeSyncSend q stamp s
  | .passageLaneLocked lane first second => Sys2Proof.Machine.execPassageLaneLocked lane first second s
  | .passageLaneLockLoss lane => Sys2Proof.Machine.execPassageLaneLockLoss lane s
  | .passageLaneDeskewed lane skew => Sys2Proof.Machine.execPassageLaneDeskewed lane skew s
  | .passageLaneReturn lane => Sys2Proof.Machine.execPassageLaneReturn lane s
  | .txMapChange q markers => Sys2Proof.Machine.execTxMapChange q markers s
  | .passagePortUp q => Sys2Proof.Machine.execPassagePortUp q s
  | .passagePortDown q => Sys2Proof.Machine.execPassagePortDown q s
  | .keyExchangeComplete t key => Sys2Proof.Machine.execKeyExchangeComplete t key s
  | .keySwitch t => Sys2Proof.Machine.execKeySwitch t s
  | .ponKeySoftLimit bcast slot => Sys2Proof.Machine.execPonKeySoftLimit bcast slot s
  | .ponKeyHardLimit bcast slot => Sys2Proof.Machine.execPonKeyHardLimit bcast slot s
  | .previousSlotExpiry bcast slot => Sys2Proof.Machine.execPreviousSlotExpiry bcast slot s
  | .bcastKeyWrite m slot key => Sys2Proof.Machine.execBcastKeyWrite m slot key s
  | .bcastKeySwitch m ch value => Sys2Proof.Machine.execBcastKeySwitch m ch value s
  | .bcastKeyLock m slot value => Sys2Proof.Machine.execBcastKeyLock m slot value s
  | .saLock m sa value => Sys2Proof.Machine.execSaLock m sa value s
  | .ciphKeyErase => Sys2Proof.Machine.execCiphKeyErase s
  | .maskRekey => Sys2Proof.Machine.execMaskRekey s
  | .entropyTestFailure => Sys2Proof.Machine.execEntropyTestFailure s
  | .entropyRecovery => Sys2Proof.Machine.execEntropyRecovery s
  | .busParityError bus carried => Sys2Proof.Machine.execBusParityError bus carried s
  | .uncorrectableError hit row => Sys2Proof.Machine.execUncorrectableError hit row s
  | .singleBitError mem row => Sys2Proof.Machine.execSingleBitError mem row s
  | .scrubPass => Sys2Proof.Machine.execScrubPass s
  | .reclaimSweep => Sys2Proof.Machine.execReclaimSweep s
  | .shadowRewrite => Sys2Proof.Machine.execShadowRewrite s
  | .watchdogKick => Sys2Proof.Machine.execWatchdogKick s
  | .watchdogExpiry => Sys2Proof.Machine.execWatchdogExpiry s
  | .regulatorFault rail => Sys2Proof.Machine.execRegulatorFault rail s
  | .railRecovery rail => Sys2Proof.Machine.execRailRecovery rail s
  | .oscillatorLoss => Sys2Proof.Machine.execOscillatorLoss s
  | .faultCauseClear m mask hw => Sys2Proof.Machine.execFaultCauseClear m mask hw s
  | .reattachment => Sys2Proof.Machine.execReattachment s
  | .thermalTrip lantern => Sys2Proof.Machine.execThermalTrip lantern s
  | .thermalRecovery lantern => Sys2Proof.Machine.execThermalRecovery lantern s
  | .caseTempWarn milli => Sys2Proof.Machine.execCaseTempWarn milli s
  | .flitCrcFailure again => Sys2Proof.Machine.execFlitCrcFailure again s
  | .ucieRetrain => Sys2Proof.Machine.execUcieRetrain s
  | .ucieWiden m value => Sys2Proof.Machine.execUcieWiden m value s
  | .retrainComplete failed => Sys2Proof.Machine.execRetrainComplete failed s
  | .ucieLinkLost => Sys2Proof.Machine.execUcieLinkLost s
  | .ucieTrainingRetry => Sys2Proof.Machine.execUcieTrainingRetry s
  | .ucieTrained failed => Sys2Proof.Machine.execUcieTrained failed s
  | .coldStart vin osc => Sys2Proof.Machine.execColdStart vin osc s
  | .resetNRecognised => Sys2Proof.Machine.execResetNRecognised s
  | .undervoltageReset => Sys2Proof.Machine.execUndervoltageReset s
  | .powerFailWarning pin => Sys2Proof.Machine.execPowerFailWarning pin s
  | .powerFailWarningEnd => Sys2Proof.Machine.execPowerFailWarningEnd s
  | .railInWindow rail => Sys2Proof.Machine.execRailInWindow rail s
  | .railStartTimeout => Sys2Proof.Machine.execRailStartTimeout s
  | .regulationRestart => Sys2Proof.Machine.execRegulationRestart s
  | .firmwareLoaded => Sys2Proof.Machine.execFirmwareLoaded s
  | .marchTestComplete results => Sys2Proof.Machine.execMarchTestComplete results s
  | .readyEvent => Sys2Proof.Machine.execReadyEvent s
  | .glimGo wake => Sys2Proof.Machine.execGlimGo wake s
  | .glimDrainExpiry => Sys2Proof.Machine.execGlimDrainExpiry s
  | .glimReached => Sys2Proof.Machine.execGlimReached s
  | .glimWakeTime => Sys2Proof.Machine.execGlimWakeTime s
  | .glimReturnComplete => Sys2Proof.Machine.execGlimReturnComplete s
  | .blockClockStop b => Sys2Proof.Machine.execBlockClockStop b s
  | .snuffDraining k n => Sys2Proof.Machine.execSnuffDraining k n s
  | .snuffDrainLimit k n => Sys2Proof.Machine.execSnuffDrainLimit k n s
  | .snuffDark k n => Sys2Proof.Machine.execSnuffDark k n s
  | .rxPllRelock ch => Sys2Proof.Machine.execRxPllRelock ch s
  | .prbsCheckerLock ch errors => Sys2Proof.Machine.execPrbsCheckerLock ch errors s
  | .rxCalComplete ch => Sys2Proof.Machine.execRxCalComplete ch s
  | .portLanePllLocked passage lane => Sys2Proof.Machine.execPortLanePllLocked passage lane s
  | .caseTempRearm milli => Sys2Proof.Machine.execCaseTempRearm milli s

end Sys2Proof.Machine
end

