-- ==== Sys2Proof/WellFormed.lean ====
section
/-!
DEFINITION. Well-formed commands: the operands that are plain numbers or lists lie in the widths that their messages,
registers, frames and clocks give them (R409, R425, R178). Operands of a bounded type need no check.
-/

namespace Sys2Proof

open Machine

/-- A number within 64 bits, the widest number that a Sconce value holds (R409). -/
def okWord (n : Nat) : Bool := n < 18446744073709551616
/-- A 32-bit register word (R425). -/
def okReg (n : Nat) : Bool := n < 4294967296
/-- A byte address of the register space, on a word (R425). -/
def okAddr (a : Nat) : Bool := a < 4294967296 && a % 4 == 0
/-- A time of Wick within TIME96 (R178). -/
def okTime (t : Time) : Bool := t < 79228162514264337593543950336
/-- A signed number within 64 bits. -/
def okInt (x : Int) : Bool := -9223372036854775808 ≤ x && x ≤ 9223372036854775807
/-- Bytes within the 16-bit length of a record (R407). -/
def okBytes (bs : List Byte) : Bool := bs.length < 65536
/-- The IP header's fields within their widths. -/
def okIp (i : IpHdr) : Bool :=
  let a := if i.v6 then 340282366920938463463374607431768211456 else 4294967296
  i.src < a && i.dst < a && i.proto < 256 && i.dscp < 64 && i.offset < 8192 && i.ident < 4294967296 &&
    (match i.ports with | some (x, y) => x < 65536 && y < 65536 | none => true)
/-- An Ethernet frame's fields within their widths. -/
def okHdr (h : FrameHdr) : Bool :=
  h.dmac < 281474976710656 && h.smac < 281474976710656 && h.etype < 65536 && h.len < 65536 && h.bytes.length ≤ 2048 && okReg h.fcs &&
    (match h.outer with | some (v, p) => v < 4096 && p < 16 | none => true) &&
    (match h.inner with | some v => v < 4096 | none => true) && (match h.ip with | some i => okIp i | none => true)
/-- A SecTAG's fields within their widths. -/
def okSec (g : SecTag) : Bool := g.pn < 4294967296 && g.sci < 18446744073709551616
/-- A frame received on an uplink. -/
def okRx (f : RxFrame) : Bool :=
  okHdr f.hdr && (match f.control with | some c => c < 65536 | none => true) &&
    (match f.sec with | some g => okSec g | none => true)
/-- A Passage frame. -/
def okPsg (f : PsgFrame) : Bool :=
  f.len < 65536 && okReg f.crc && (match f.eth with | some h => okHdr h | none => true) &&
    (match f.sec with | some g => okSec g | none => true)
/-- A Passage time message. -/
def okPsgTime (x : PsgTime) : Bool := okTime x.stamp && okTime x.arrival && okTime x.reply && okInt x.freq
/-- The fields of a Gallery command within their widths (R233). -/
def okGal (c : GalCmd) : Bool :=
  c.tag < 65536 && c.domain < 65536 && c.mac < 281474976710656 && c.flags < 256 && c.kind < 256 && c.dest < 65536 &&
    c.flow < 65536 && c.cursor < 4294967296 && c.count < 65536
/-- A PTP message. -/
def okPtp (x : PtpMsg) : Bool :=
  okTime x.origin && okTime x.arrival && okTime x.asked && okInt x.freq && x.client < 65536 &&
    (match x.cls with | some c => c < 256 | none => true)
/-- A ToD message. -/
def okTod (x : TodMsg) : Bool := okWord x.seconds && (match x.cls with | some c => c < 256 | none => true)
/-- A CTI report's entries. -/
def okCti (es : List CtiEntry) : Bool :=
  es.all fun e => [e.path, e.start, e.volume].all fun f => match f with | some n => okWord n | none => true
/-- A burst as received. -/
def okBurst (r : BurstRx) : Bool := r.onu < 65536 && r.phase < 64 && r.hits.all fun h => h.2 ≤ 64
/-- The sensors' readings. -/
def okReadings (x : Vector Int 9) : Bool := x.toList.all fun v => -2147483648 ≤ v && v ≤ 4294967295
/-- The times of a PFC frame. -/
def okTimes (x : Vector Nat 8) : Bool := x.toList.all fun v => v < 65536
/-- What a wake detector sees. -/
def okWake : WakeSignal → Bool
  | .frame _ => true
  | .energy a b => okTime a && okTime b
/-- What a bus carries. -/
def okBus : BusUse → Bool
  | .frame c => okWord c
  | .tree _ | .control | .idle => true
/-- Where an error lies. -/
def okHit : MemHit → Bool
  | .cellData n | .queue n | .node _ n | .policer n | .entry _ n | .slot _ n | .gallery n | .rule n | .fragment n
  | .indirection n | .stamp n => okWord n
  | .cellTag a b | .cache a b => okWord a && okWord b
  | .buffer _ u => okBus u
  | .lane _ | .record _ _ | .capture _ => true

/-- A command whose operands have their widths. -/
def Instr.wf : Instr → Bool
  | .secondBoundary sensors => okReadings sensors
  | .sconceRequest _ addr datagram => okWord addr && okBytes datagram
  | .read _ _ off len => okWord off && okWord len
  | .write _ _ off value => okWord off && okBytes value
  | .default _ _ count => okWord count
  | .claimBreak _ target => okWord target
  | .eventAcknowledgement _ ref => okWord ref
  | .masterKeyWrite _ _ key => okBytes key
  | .commissionKeyWrite _ key => okBytes key
  | .imageUpload _ _ off segment => okWord off && okBytes segment
  | .imageCommit _ _ value => okWord value
  | .omciSend _ _ value => okBytes value
  | .attestRequest _ _ nonce => okBytes nonce
  | .firmwareRollbackCommit _ value => okWord value
  | .firmwareActivate _ value => okWord value
  | .firmwareConfirm _ value => okWord value
  | .lifetimeSave _ value => okWord value
  | .rawRegisterWrite _ _ value _ => okReg value
  | .registerWrite addr value _ _ => okAddr addr && okReg value
  | .counterSnapshot _ value => okWord value
  | .counterOverflowClear _ _ value => okWord value
  | .counterValueLoad _ _ value inc => okWord value && okWord inc
  | .counterOverflow _ amount => okWord amount
  | .laneMarginMeasurement _ eye => okWord eye
  | .channelRssiRequest _ _ t => okWord t
  | .cageI2cRequest _ _ request => okBytes request
  | .i2cRequestComplete _ _ _ data => okBytes data
  | .identityReadComplete _ bytes => okBytes bytes
  | .laneNap _ gapStart gapEnd => okTime gapStart && okTime gapEnd
  | .loopModeSet _ _ mode => okWord mode
  | .burstReceived _ frame alloc _ r => okWord frame && okWord alloc && okBurst r
  | .lightFound _ a b level => okTime a && okTime b && okWord level
  | .rogueRelease _ _ value => okWord value
  | .quietAt _ _ time => okWord time
  | .registrationReply _ _ id => okBytes id
  | .grantLaneTest _ value => okWord value
  | .grantLaneRelease _ value => okWord value
  | .ctiReport _ _ entries => okCti entries
  | .passageCooperativeOrder _ _ start volume => okWord start && okWord volume
  | .fsyncEdge _ stamp => okTime stamp
  | .wickSetTime _ time => okWord time
  | .wickCopyMismatch _ _ value => okTime value
  | .wickNoMajority _ a b => okTime a && okTime b
  | .ptpMessageReceived _ _ msg => okPtp msg
  | .ptpMessageSend _ _ _ h => okHdr h
  | .todMessageReceived msg => okTod msg
  | .ppsInEdge _ stamp => okWord stamp
  | .binLearned _ f => okInt f
  | .ageingRefit rate => okInt rate
  | .timeModelReset _ value => okWord value
  | .captureEdge _ _ stamp => okWord stamp
  | .uplinkFrameReceived _ _ f => okRx f
  | .agerVisit pos => okWord pos
  | .staticRestore _ mac => okWord mac
  | .gallerySearch _ c => okGal c
  | .galleryInsert _ c => okGal c
  | .galleryDelete _ c => okGal c
  | .galleryWalkOpen _ c => okGal c
  | .galleryNext _ c => okGal c
  | .galleryWalkClose _ c => okGal c
  | .galleryFlush _ c => okGal c
  | .walkTimeout cursor => okWord cursor
  | .framerRequest _ room => okWord room
  | .verdictWritten cell _ _ => okWord cell
  | .pfcFrameReceived _ _ times => okTimes times
  | .uplinkLinkDown _ lost _ => okWord lost
  | .uplinkTransmitFrame _ at_ => okTime at_
  | .uplinkLoop _ _ value => okWord value
  | .uplinkWakeMatch _ seen => okWake seen
  | .passageFrameReceived _ _ f => okPsg f
  | .timeMessageReceived _ msg => okPsgTime msg
  | .timeSyncSend _ stamp => okTime stamp
  | .passageLaneDeskewed _ skew => okWord skew
  | .bcastKeyWrite _ _ key => okBytes key
  | .bcastKeySwitch _ _ value => okWord value
  | .bcastKeyLock _ _ value => okWord value
  | .saLock _ _ value => okWord value
  | .busParityError _ carried => okBus carried
  | .uncorrectableError hit _ => okHit hit
  | .faultCauseClear _ mask _ => okWord mask
  | .caseTempWarn milli => okInt milli
  | .ucieWiden _ value => okWord value
  | .coldStart _ osc => okInt osc
  | .snuffDraining _ n => okWord n
  | .snuffDrainLimit _ n => okWord n
  | .snuffDark _ n => okWord n
  | .prbsCheckerLock _ errors => okWord errors
  | .caseTempRearm milli => okInt milli
  | .frameBoundary | .epochStart _ | .claim _ _ | .release _ _ | .next _ _ | .responseSent _ | .claimTimeout _
  | .eventSend _ | .eventResend _ | .imageStored _ | .attestReportSigned _ | .warmResetLantern _
  | .warmResetDevice _ | .firmwareTrialExpiry | .periodicSave | .lifetimeRecordSaved | .rawRegisterRead _ _
  | .stageOpen | .stageDiscard | .commitGo _ _ | .recordClear _ | .glbLockSet _ | .glbSnapshotWrite _
  | .wickNsLoRead | .tcDsSfcLoRead _ | .ciphKeyUsageLoRead | .cntValLoRead _ | .tsTxEntry3Read _ | .captInfoRead _
  | .captNextRead _ _ | .queueMaxRead _ _ _ | .highWaterRead _ _ _ | .unitStart _ _ _ | .unitStop _ _ _
  | .upstreamFrameAccounted _ | .rssiTrigger _ _ | .rssiRequestLapse _ | .i2cClockStretchTimeout _ _
  | .moduleInsertion _ | .moduleRemoval _ | .laneRunEntry _ | .txPllLossOfLock _ | .faultRecovery _
  | .rxPllLossOfLock _ | .laneSleepEntry _ | .sleepRxPllStart _ | .laneNapWake _ | .prbsClr _ | .rxCal _
  | .presetTrackingStep _ _ | .bondingTimeout _ _ | .bondingResync _ | .rogueSuspicion _ _ | .rogueObservationEnd _
  | .huntStepEnd _ | .huntRetry _ | .huntAbort _ | .quietWindowFixed _ | .quietNow _
  | .serialNumberResponse _ _ _ _ _ _ | .quietWindowEnd _ _ | .rangingResponse _ _ _ _ _ _ | .rangingWindowEnd _ _
  | .registrationRequest _ _ | .registrationTimeout _ _ | .authLockoutExpiry _ _ | .driftCorrectionTimeout _ _
  | .terminalLost _ _ | .lostHoldExpiry _ _ | .sleepRequest _ _ | .sleepAllow _ | .awarePeriodEnd _ | .sleepLoss _ _
  | .mapComputation _ _ | .grantLaneCopyComplete _ | .grantLaneRejoin _ | .grantReload | .reloadComplete
  | .grantLaneTestEnd | .fsyncLost | .wickStep | .ovenReady | .warmingTimeout | .ovenFault | .domainLocked _
  | .domainLost _ _ | .wickLocked | .domainRevert _ | .domainInconsistent | .domainConsistent _ | .headlessHoldover
  | .holdoverExpiry | .holdExpiryRecompute | .trigArm _ _ | .trigDisarm _ _ | .triggerPulse _ | .captClr
  | .learnRequestProcessed _ | .stashMigration _ | .ruleRestore _ | .flushStart | .flushComplete
  | .fragmentRecordExpiry | .keyHeldDiscard _ | .sampleSweep | .pressureSignal _ | .sumpRebuildDone
  | .pauseFrameReceived _ _ | .pauseStopExpiry _ _ | .flowControlRefresh _ | .uplinkLinkUp _
  | .macsecHeldDiscard _ _ | .learnNoticeReceived _ _ _ _ | .creditFrameReceived _ _ | .creditFrameSend _
  | .presenceFrameReceived _ _ _ | .presenceSend | .reachTimeout _ _ | .passageLaneLocked _ _ _
  | .passageLaneLockLoss _ | .passageLaneReturn _ | .txMapChange _ _ | .passagePortUp _ | .passagePortDown _
  | .keyExchangeComplete _ _ | .keySwitch _ | .ponKeySoftLimit _ _ | .ponKeyHardLimit _ _ | .previousSlotExpiry _ _
  | .ciphKeyErase | .maskRekey | .entropyTestFailure | .entropyRecovery | .singleBitError _ _ | .scrubPass
  | .reclaimSweep | .shadowRewrite | .watchdogKick | .watchdogExpiry | .regulatorFault _ | .railRecovery _
  | .oscillatorLoss | .reattachment | .thermalTrip _ | .thermalRecovery _ | .flitCrcFailure _ | .ucieRetrain
  | .retrainComplete _ | .ucieLinkLost | .ucieTrainingRetry | .ucieTrained _ | .resetNRecognised
  | .undervoltageReset | .powerFailWarning _ | .powerFailWarningEnd | .railInWindow _ | .railStartTimeout
  | .regulationRestart | .firmwareLoaded | .marchTestComplete _ | .readyEvent | .glimGo _ | .glimDrainExpiry
  | .glimReached | .glimWakeTime | .glimReturnComplete | .blockClockStop _ | .rxPllRelock _ | .rxCalComplete _
  | .portLanePllLocked _ _ => true

end Sys2Proof
end

