-- ==== Sys2Proof/Safety.lean ====
section
/-!
DEFINITION. What a sound state is, and what a safe run is. The invariant of the model is State.Sound; a run is safe where
no step stops.
-/

namespace Sys2Proof.Machine

/-- A store of objects and registers in canonical form: keys strictly rising, and no register listed at its reset word. -/
def soundStore (objs : Tab Val) (regs : Tab Nat) : Prop := tabSorted objs = true ∧ tabWf State.regDflt regs = true

/-- Wick's counter and increment agree in all three copies (R180). -/
def soundClock (c : ClockSt) : Prop := c.c0 = c.c1 ∧ c.c0 = c.c2 ∧ c.i0 = c.i1 ∧ c.i0 = c.i2

/-- A sound state: the object and register stores, and every snapshot of a block's counters, are canonical, and Wick's
copies agree. -/
def State.Sound (s : State) : Prop :=
  soundStore s.objs s.regs ∧ (∀ l ∈ s.latched, soundStore l.2.objs l.2.regs) ∧ soundClock s.clk

/-- The parts of the state: its fields, by their names. -/
inductive Part where
  | pending | objs | regs | latched | clk | lan | nvm | stage | ucie | boot | life | snuffs | limits | lanes | cages
  | eqRuns | framers | lineRun | gal | frags | tm | terms | acts | logEvents | grants | ciph | uplinks | psgs | casc
  | sent | fresh
  deriving DecidableEq, Repr

/-- A part is the same in two states. -/
def State.Same (p : Part) (s t : State) : Prop :=
  match p with
  | .pending => t.pending = s.pending
  | .objs => t.objs = s.objs
  | .regs => t.regs = s.regs
  | .latched => t.latched = s.latched
  | .clk => t.clk = s.clk
  | .lan => t.lan = s.lan
  | .nvm => t.nvm = s.nvm
  | .stage => t.stage = s.stage
  | .ucie => t.ucie = s.ucie
  | .boot => t.boot = s.boot
  | .life => t.life = s.life
  | .snuffs => t.snuffs = s.snuffs
  | .limits => t.limits = s.limits
  | .lanes => t.lanes = s.lanes
  | .cages => t.cages = s.cages
  | .eqRuns => t.eqRuns = s.eqRuns
  | .framers => t.framers = s.framers
  | .lineRun => t.lineRun = s.lineRun
  | .gal => t.gal = s.gal
  | .frags => t.frags = s.frags
  | .tm => t.tm = s.tm
  | .terms => t.terms = s.terms
  | .acts => t.acts = s.acts
  | .logEvents => t.logEvents = s.logEvents
  | .grants => t.grants = s.grants
  | .ciph => t.ciph = s.ciph
  | .uplinks => t.uplinks = s.uplinks
  | .psgs => t.psgs = s.psgs
  | .casc => t.casc = s.casc
  | .sent => t.sent = s.sent
  | .fresh => t.fresh = s.fresh

/-- Nothing but these parts of the state has changed. -/
def State.Only (ps : List Part) (s t : State) : Prop := ∀ p, p ∉ ps → State.Same p s t

/-- Every part but these. -/
def Part.allBut (ps : List Part) : List Part :=
  [.pending, .objs, .regs, .latched, .clk, .lan, .nvm, .stage, .ucie, .boot, .life, .snuffs, .limits, .lanes,
   .cages, .eqRuns, .framers, .lineRun, .gal, .frags, .tm, .terms, .acts, .logEvents, .grants, .ciph, .uplinks,
   .psgs, .casc, .sent, .fresh].filter fun p => !ps.contains p

/-- The parts of the state that a command may change; every other part it leaves as it was. The queue of commands is in
none of them. -/
def partsOf : Instr → List Part
  | .frameBoundary | .secondBoundary _ => Part.allBut [.pending, .cages, .logEvents, .casc]
  | .epochStart _ => Part.allBut [.pending, .cages, .lineRun, .logEvents, .casc]
  | .sconceRequest _ _ _ | .read _ _ _ _ | .write _ _ _ _ | .claim _ _ | .release _ _ | .next _ _ | .default _ _ _
    => Part.allBut [.pending, .lineRun, .logEvents, .casc]
  | .responseSent _ => Part.allBut [.pending]
  | .claimTimeout _ => [.lan]
  | .claimBreak _ _ => [.objs, .regs, .lan, .nvm, .sent]
  | .eventAcknowledgement _ _ => [.lan]
  | .eventSend _ | .eventResend _ => [.lan, .nvm, .sent]
  | .masterKeyWrite _ _ _ | .commissionKeyWrite _ _ | .imageUpload _ _ _ _ | .imageCommit _ _ _ => Part.allBut
    [.pending, .lineRun, .logEvents, .casc]
  | .imageStored _ => [.objs, .lan, .nvm]
  | .omciSend _ _ _ | .attestRequest _ _ _ => Part.allBut [.pending, .lineRun, .logEvents, .casc]
  | .attestReportSigned _ => [.objs, .regs, .lan, .nvm]
  | .firmwareRollbackCommit _ _ | .warmResetLantern _ | .warmResetDevice _ | .firmwareActivate _ _ |
    .firmwareConfirm _ _ => Part.allBut [.pending, .lineRun, .logEvents, .casc]
  | .firmwareTrialExpiry => [.objs, .regs, .lan, .nvm, .stage, .ucie, .boot, .life, .framers]
  | .lifetimeSave _ _ => [.objs, .regs, .lan, .nvm, .life, .sent]
  | .periodicSave => [.life]
  | .lifetimeRecordSaved => [.objs, .regs, .nvm, .life]
  | .rawRegisterRead _ _ => Part.allBut [.pending, .lineRun, .logEvents, .casc]
  | .rawRegisterWrite _ _ _ _ | .registerWrite _ _ _ _ | .stageOpen | .stageDiscard | .commitGo _ _ | .recordClear _
    | .glbLockSet _ | .glbSnapshotWrite _ => Part.allBut [.pending, .cages, .lineRun, .logEvents, .casc]
  | .wickNsLoRead | .tcDsSfcLoRead _ | .ciphKeyUsageLoRead | .cntValLoRead _ | .tsTxEntry3Read _ | .captInfoRead _
    => [.objs, .regs, .clk, .boot, .gal]
  | .captNextRead _ _ => [.objs, .clk, .lan, .nvm, .sent]
  | .queueMaxRead _ _ _ | .highWaterRead _ _ _ => [.objs, .lan, .nvm, .sent]
  | .unitStart _ _ _ | .unitStop _ _ _ => [.objs, .regs, .lan, .nvm, .sent]
  | .counterSnapshot _ _ => [.objs, .regs, .latched, .lan, .nvm, .sent]
  | .counterOverflowClear _ _ _ => [.objs, .regs, .lan, .nvm, .sent]
  | .counterValueLoad _ _ _ _ => [.objs, .regs, .lan, .nvm, .ucie, .limits, .sent]
  | .counterOverflow _ _ => [.objs, .regs, .lan, .ucie, .limits]
  | .upstreamFrameAccounted _ => Part.allBut [.pending, .latched, .clk, .nvm, .stage, .boot, .snuffs, .cages,
    .logEvents, .ciph, .uplinks, .psgs, .fresh]
  | .laneMarginMeasurement _ _ => [.life]
  | .channelRssiRequest _ _ _ => [.objs, .regs, .lan, .nvm, .lanes, .sent]
  | .rssiTrigger _ _ => [.objs, .lan, .ucie, .lanes, .sent]
  | .rssiRequestLapse _ => [.objs, .lan, .ucie, .lanes]
  | .cageI2cRequest _ _ _ => [.objs, .regs, .lan, .nvm, .cages, .sent]
  | .i2cRequestComplete _ _ _ _ | .i2cClockStretchTimeout _ _ => [.objs, .cages, .sent]
  | .moduleInsertion _ => [.objs, .regs, .lan, .ucie, .cages]
  | .identityReadComplete _ _ => [.objs, .cages]
  | .moduleRemoval _ => [.objs, .regs, .lan, .ucie, .cages]
  | .laneRunEntry _ => [.objs, .regs, .lan, .ucie, .limits, .lanes, .framers, .lineRun, .terms, .acts, .grants,
    .sent]
  | .txPllLossOfLock _ => [.objs, .regs, .lan, .ucie]
  | .faultRecovery _ => [.objs, .regs, .lan, .ucie, .lanes]
  | .rxPllLossOfLock _ => [.objs, .regs, .lan, .ucie]
  | .laneSleepEntry _ => [.objs, .regs, .lan, .ucie, .limits, .grants]
  | .sleepRxPllStart _ => [.regs]
  | .laneNap _ _ _ | .laneNapWake _ => [.lanes]
  | .loopModeSet _ _ _ => [.objs, .regs, .lan, .nvm, .lanes, .framers, .sent]
  | .prbsClr _ => [.objs]
  | .rxCal _ => [.lanes]
  | .presetTrackingStep _ _ => [.objs, .eqRuns]
  | .burstReceived _ _ _ _ _ => Part.allBut [.pending, .latched, .clk, .nvm, .stage, .boot, .snuffs, .cages,
    .logEvents, .ciph, .uplinks, .psgs, .fresh]
  | .bondingTimeout _ _ => [.objs, .regs, .lan, .ucie, .limits, .framers, .gal, .frags, .tm, .terms, .casc]
  | .bondingResync _ => [.objs, .regs, .lan, .ucie, .limits, .tm]
  | .lightFound _ _ _ _ => [.objs, .regs, .lan, .ucie, .limits, .terms, .acts, .grants]
  | .rogueSuspicion _ _ => [.objs, .regs, .lan, .ucie, .framers, .terms, .acts]
  | .rogueObservationEnd _ | .huntStepEnd _ => [.objs, .regs, .lan, .nvm, .ucie, .life, .lanes, .framers, .terms,
    .acts]
  | .huntRetry _ => [.objs, .regs, .lan, .ucie, .framers, .terms, .acts]
  | .huntAbort _ => [.acts]
  | .rogueRelease _ _ _ => [.objs, .regs, .lan, .nvm, .lanes, .framers, .terms, .sent]
  | .quietWindowFixed _ => [.objs, .framers, .acts]
  | .quietAt _ _ _ => [.objs, .regs, .lan, .nvm, .acts, .sent]
  | .quietNow _ => [.acts]
  | .serialNumberResponse _ _ _ _ _ _ => [.objs, .regs, .lan, .ucie, .limits, .lanes, .eqRuns, .framers, .tm,
    .terms, .acts, .logEvents, .ciph]
  | .quietWindowEnd _ _ => [.objs, .regs, .lan, .ucie, .limits, .lanes, .acts, .sent]
  | .rangingResponse _ _ _ _ _ _ => [.objs, .lan, .ucie, .lanes, .eqRuns, .framers, .terms, .acts]
  | .rangingWindowEnd _ _ => [.objs, .lanes, .framers, .terms, .acts]
  | .registrationRequest _ _ => [.framers, .terms]
  | .registrationReply _ _ _ => [.objs, .regs, .lanes, .framers, .terms, .acts, .fresh]
  | .registrationTimeout _ _ => [.objs, .lanes, .framers, .terms]
  | .authLockoutExpiry _ _ => [.acts]
  | .driftCorrectionTimeout _ _ => [.terms]
  | .terminalLost _ _ => [.objs, .regs, .lan, .ucie, .limits, .terms]
  | .lostHoldExpiry _ _ => [.objs, .regs, .lan, .ucie, .limits, .lanes, .framers, .tm, .terms, .ciph]
  | .sleepRequest _ _ => [.objs, .framers, .terms]
  | .sleepAllow _ => [.objs, .framers]
  | .awarePeriodEnd _ => [.terms]
  | .sleepLoss _ _ => [.objs, .regs, .lan, .ucie, .limits, .terms]
  | .mapComputation _ _ => [.objs, .regs, .lan, .ucie, .limits, .lanes, .framers, .terms, .grants, .fresh]
  | .grantLaneCopyComplete _ => [.grants]
  | .grantLaneRejoin _ => [.objs, .regs, .lan, .ucie, .grants]
  | .grantReload => [.grants]
  | .reloadComplete => [.objs, .regs, .lan, .ucie, .limits, .grants]
  | .grantLaneTest _ _ => [.objs, .regs, .lan, .nvm, .grants, .sent]
  | .grantLaneTestEnd => [.objs, .regs, .grants]
  | .grantLaneRelease _ _ => [.objs, .regs, .lan, .nvm, .grants, .sent]
  | .ctiReport _ _ _ => [.objs, .regs, .lan, .ucie, .limits, .framers, .tm, .terms, .grants, .casc]
  | .passageCooperativeOrder _ _ _ _ => [.objs, .regs, .lan, .ucie, .limits, .grants]
  | .fsyncEdge _ _ => [.grants]
  | .fsyncLost => [.objs, .regs, .lan, .ucie, .grants]
  | .wickSetTime _ _ => [.objs, .regs, .clk, .lan, .nvm, .sent]
  | .wickStep => [.objs, .regs, .clk, .lan, .ucie, .limits, .lanes, .framers, .tm, .terms, .acts, .grants, .psgs,
    .sent]
  | .wickCopyMismatch _ _ _ => [.objs, .regs, .clk]
  | .wickNoMajority _ _ _ | .ovenReady | .warmingTimeout | .ovenFault | .ptpMessageReceived _ _ _ => [.objs, .regs,
    .clk, .lan, .ucie, .life, .fresh]
  | .ptpMessageSend _ _ _ _ => [.objs, .regs, .clk, .lan, .ucie, .limits, .framers, .tm, .terms]
  | .todMessageReceived _ => [.objs, .regs, .clk, .lan, .ucie, .life, .fresh]
  | .ppsInEdge _ _ => [.objs, .clk, .lan, .ucie]
  | .domainLocked _ | .domainLost _ _ | .wickLocked => [.objs, .regs, .clk, .lan, .ucie, .life, .fresh]
  | .domainRevert _ | .domainInconsistent => [.objs, .clk, .lan, .ucie]
  | .domainConsistent _ | .headlessHoldover | .holdoverExpiry => [.objs, .regs, .clk, .lan, .ucie, .life, .fresh]
  | .holdExpiryRecompute => [.regs, .clk, .fresh]
  | .binLearned _ _ => [.objs, .regs, .nvm]
  | .ageingRefit _ => [.regs, .clk]
  | .timeModelReset _ _ | .trigArm _ _ | .trigDisarm _ _ => [.objs, .regs, .clk, .lan, .nvm, .sent]
  | .triggerPulse _ => [.objs, .clk, .sent]
  | .captureEdge _ _ _ => [.objs, .regs, .clk]
  | .captClr => [.objs, .clk]
  | .uplinkFrameReceived _ _ _ => Part.allBut [.pending, .latched, .nvm, .stage, .boot, .life, .snuffs, .lanes,
    .cages, .eqRuns, .acts, .logEvents, .grants, .psgs, .fresh]
  | .learnRequestProcessed _ => [.objs, .regs, .lan, .ucie, .limits, .framers, .gal, .tm, .terms, .casc]
  | .stashMigration _ => [.objs, .regs, .lan, .ucie, .limits, .gal]
  | .agerVisit _ => [.objs, .gal]
  | .staticRestore _ _ => [.objs, .regs, .lan, .ucie, .limits, .gal]
  | .ruleRestore _ => [.objs, .regs, .gal]
  | .gallerySearch _ _ | .galleryInsert _ _ | .galleryDelete _ _ | .galleryWalkOpen _ _ | .galleryNext _ _ |
    .galleryWalkClose _ _ | .galleryFlush _ _ => [.objs, .regs, .lan, .nvm, .ucie, .limits, .gal, .sent]
  | .walkTimeout _ | .flushStart => [.gal]
  | .flushComplete => [.objs, .lan, .ucie, .gal]
  | .fragmentRecordExpiry => [.frags]
  | .framerRequest _ _ => [.objs, .regs, .lan, .ucie, .limits, .framers, .tm, .terms, .ciph, .sent]
  | .keyHeldDiscard _ => [.objs, .regs, .lan, .ucie, .limits, .framers, .tm, .ciph]
  | .sampleSweep => [.objs, .regs, .lan, .ucie, .limits, .tm]
  | .pressureSignal _ => [.objs, .tm, .uplinks, .psgs, .sent]
  | .verdictWritten _ _ _ => [.objs, .regs, .lan, .ucie, .limits, .lineRun, .tm, .casc, .sent]
  | .sumpRebuildDone => [.tm]
  | .pauseFrameReceived _ _ | .pfcFrameReceived _ _ _ => [.objs, .regs, .lan, .ucie, .limits, .uplinks]
  | .pauseStopExpiry _ _ => [.uplinks]
  | .flowControlRefresh _ => [.objs, .uplinks, .sent]
  | .uplinkLinkUp _ => [.objs, .regs, .lan, .ucie, .uplinks, .sent]
  | .uplinkLinkDown _ _ _ => [.objs, .regs, .lan, .ucie, .limits, .lineRun, .gal, .tm, .uplinks]
  | .uplinkTransmitFrame _ _ => [.objs, .regs, .clk, .lan, .ucie, .limits, .tm, .psgs, .sent]
  | .macsecHeldDiscard _ _ => [.objs, .regs, .lan, .ucie, .limits, .tm]
  | .uplinkLoop _ _ _ => [.objs, .regs, .lan, .nvm, .ucie, .limits, .gal, .tm, .uplinks, .sent]
  | .uplinkWakeMatch _ _ => [.objs, .regs, .lan, .ucie, .boot, .tm, .grants, .psgs]
  | .passageFrameReceived _ _ _ => Part.allBut [.pending, .latched, .nvm, .stage, .boot, .life, .snuffs, .lanes,
    .cages, .eqRuns, .acts, .logEvents, .grants, .uplinks, .sent, .fresh]
  | .learnNoticeReceived _ _ _ _ => [.objs, .regs, .gal]
  | .creditFrameReceived _ _ => [.psgs]
  | .creditFrameSend _ => [.psgs, .sent]
  | .presenceFrameReceived _ _ _ => [.objs, .regs, .lan, .ucie, .casc]
  | .presenceSend => [.objs, .regs, .lan, .ucie, .limits, .framers, .tm, .terms, .casc]
  | .reachTimeout _ _ => [.objs, .lan, .ucie, .gal, .casc]
  | .timeMessageReceived _ _ => [.objs, .regs, .clk, .lan, .ucie, .life, .psgs, .sent, .fresh]
  | .timeSyncSend _ _ => [.casc, .sent, .fresh]
  | .passageLaneLocked _ _ _ => [.objs, .regs]
  | .passageLaneLockLoss _ | .passageLaneDeskewed _ _ => [.objs, .regs, .lineRun, .psgs]
  | .passageLaneReturn _ | .txMapChange _ _ => [.objs, .psgs]
  | .passagePortUp _ => [.objs, .regs, .lan, .ucie, .limits, .framers, .tm, .terms, .psgs, .casc]
  | .passagePortDown _ => [.objs, .regs, .lan, .ucie]
  | .keyExchangeComplete _ _ | .keySwitch _ => [.objs, .framers, .ciph]
  | .ponKeySoftLimit _ _ => [.objs, .regs, .lan, .ucie, .framers, .ciph]
  | .ponKeyHardLimit _ _ => [.objs, .regs, .lan, .ucie]
  | .previousSlotExpiry _ _ => [.objs, .ciph]
  | .bcastKeyWrite _ _ _ => [.objs, .regs, .lan, .nvm, .sent]
  | .bcastKeySwitch _ _ _ | .bcastKeyLock _ _ _ | .saLock _ _ _ => [.objs, .regs, .lan, .nvm, .ciph, .sent]
  | .ciphKeyErase => [.objs, .ciph]
  | .maskRekey => [.ciph, .fresh]
  | .entropyTestFailure => [.objs, .regs, .lan, .ucie]
  | .entropyRecovery => [.objs]
  | .busParityError _ _ => [.objs, .regs, .lan, .ucie, .limits, .tm, .sent]
  | .uncorrectableError _ _ => Part.allBut [.pending, .latched, .nvm, .stage, .life, .snuffs, .cages, .eqRuns,
    .lineRun, .acts, .logEvents, .uplinks, .psgs, .casc, .fresh]
  | .singleBitError _ _ => [.objs, .regs, .lan, .ucie, .limits]
  | .scrubPass => [.objs, .regs]
  | .reclaimSweep => [.objs, .regs, .lan, .ucie, .limits, .tm]
  | .shadowRewrite => [.boot, .gal]
  | .watchdogKick => [.boot]
  | .watchdogExpiry => [.objs, .regs, .lan, .stage, .ucie, .boot, .life, .framers]
  | .regulatorFault _ => Part.allBut [.pending, .nvm, .sent]
  | .railRecovery _ => [.objs, .ucie, .boot]
  | .oscillatorLoss => [.objs, .regs, .clk, .lan, .ucie, .life, .fresh]
  | .faultCauseClear _ _ _ => [.objs, .regs, .lan, .nvm, .sent]
  | .reattachment => [.objs, .clk, .lan, .ucie, .boot, .framers, .ciph]
  | .thermalTrip _ => Part.allBut [.pending, .nvm, .sent]
  | .thermalRecovery _ => [.boot]
  | .caseTempWarn _ => [.objs, .regs, .lan, .ucie, .boot]
  | .flitCrcFailure _ | .ucieRetrain => [.objs, .ucie]
  | .ucieWiden _ _ => [.objs, .regs, .lan, .nvm, .ucie, .sent]
  | .retrainComplete _ => [.objs, .regs, .lan, .stage, .ucie, .framers]
  | .ucieLinkLost => [.objs, .regs, .stage, .ucie, .framers]
  | .ucieTrainingRetry => [.objs, .ucie]
  | .ucieTrained _ => Part.allBut [.pending, .stage, .cages, .lineRun, .frags, .logEvents, .casc]
  | .coldStart _ _ | .resetNRecognised => Part.allBut [.pending, .nvm, .sent]
  | .undervoltageReset => Part.allBut [.pending, .sent]
  | .powerFailWarning _ => [.objs, .regs, .lan, .nvm, .ucie, .life]
  | .powerFailWarningEnd => [.objs, .regs, .lan, .ucie]
  | .railInWindow _ => [.objs, .ucie, .boot]
  | .railStartTimeout => Part.allBut [.pending, .nvm, .sent]
  | .regulationRestart => [.clk, .boot]
  | .firmwareLoaded => Part.allBut [.pending, .clk, .stage, .snuffs, .cages, .eqRuns, .lineRun, .frags, .terms,
    .acts, .logEvents, .grants, .psgs, .casc, .sent, .fresh]
  | .marchTestComplete _ => Part.allBut [.pending, .stage, .cages, .lineRun, .frags, .logEvents, .casc]
  | .readyEvent => [.objs, .lan, .nvm, .ucie, .boot]
  | .glimGo _ => Part.allBut [.pending, .latched, .stage, .snuffs, .limits, .lanes, .cages, .eqRuns, .lineRun,
    .logEvents, .uplinks, .casc, .sent]
  | .glimDrainExpiry => [.objs, .regs, .lan, .ucie, .limits, .tm]
  | .glimReached => Part.allBut [.pending, .latched, .nvm, .stage, .snuffs, .limits, .lanes, .cages, .eqRuns,
    .lineRun, .logEvents, .uplinks, .casc, .sent]
  | .glimWakeTime => [.objs, .regs, .lan, .ucie, .boot, .tm, .grants, .psgs]
  | .glimReturnComplete => [.objs, .regs, .lan, .ucie, .boot, .life]
  | .blockClockStop _ => [.boot]
  | .snuffDraining _ _ => [.objs, .regs, .lan, .ucie, .snuffs, .limits, .tm]
  | .snuffDrainLimit _ _ => [.objs, .regs, .lan, .ucie, .limits, .tm]
  | .snuffDark _ _ => Part.allBut [.pending, .latched, .clk, .nvm, .stage, .boot, .life, .cages, .eqRuns, .lineRun,
    .frags, .logEvents, .casc, .sent, .fresh]
  | .rxPllRelock _ => [.regs]
  | .prbsCheckerLock _ _ => [.objs, .regs]
  | .rxCalComplete _ => [.lanes]
  | .portLanePllLocked _ _ => [.objs, .uplinks, .psgs]
  | .caseTempRearm _ => [.objs, .boot]

/-- Of all objects only these instances may differ. -/
def State.ObjsBut (s : State) (ws : List (Obj × Nat)) (t : State) : Prop :=
  ∀ o i, i < 16777216 → (o, i) ∉ ws → t.val o i = s.val o i

/-- Of all registers' own bits only those of these addresses may differ. -/
def State.RegsBut (s : State) (ws : List Nat) (t : State) : Prop := ∀ a, a ∉ ws → t.reg a = s.reg a

/-- A request of one record from the master is taken: Lantern serves the master, its counter series has not ended, and
fewer than 16 of its messages are outstanding (R402, R403, R406). -/
def State.Takes (s : State) (m : Master) : Prop :=
  s.serves m = true ∧ s.lan.masters[m].highest < State.lastCounter ∧ s.outstanding m < 16

/-- The state in which the record of a taken request is performed: its counter accepted. -/
def State.taken (s : State) (m : Master) : State := s.acceptCounter m (s.lan.masters[m].highest + 1)

/-- One message more is outstanding: the master's, of one record with this code, none while the record waits. -/
def State.Answered (s t : State) (m : Master) (code : Option Nat) : Prop :=
  ∃ q, t.lan.msgs = s.lan.msgs ++ [q] ∧ q.master = m ∧ q.results.map (fun r => r.code) = [code]

/-- One message more is outstanding: the master's, of one record with no error and this value. -/
def State.Returned (s t : State) (m : Master) (v : List Byte) : Prop :=
  ∃ q, t.lan.msgs = s.lan.msgs ++ [q] ∧ q.master = m ∧ q.results.map (fun r => (r.code, r.value)) = [(some Abort.ok, v)]

/-- A host write of the object that acceptance admits (R410 step 1), in a request that is taken. -/
def State.Admits (s : State) (m : Master) (o : Obj) (i : Nat) (bs : List Byte) : Prop :=
  s.Takes m ∧ s.acceptCode m o i bs = Abort.ok

/-- The one event raised on the way from `s` to `t`: what the masters are to be told, and what the die holds for them, is
what raising it in `s` gives (R398, R413, R439). -/
def State.Raised (s t : State) (kind : Nat) (o : Obj) (i : Nat) (detail : List Byte) : Prop :=
  t.lan.masters = (s.raise kind o i detail).lan.masters ∧ t.ucie.headEvents = (s.raise kind o i detail).ucie.headEvents

/-- Light from `a` to `b` lies for 16 ns and more in a gap's monitored interval (R92). -/
def State.lightIn (s : State) (ch : Nat) (a b : Time) (g : Option Bound × Option Bound) : Bool :=
  match s.monitored ch g with
  | some (lo, some hi) => max a lo + 16 * Tm.ns ≤ min b hi
  | some (lo, none) => max a lo + 16 * Tm.ns ≤ b
  | none => false

/-- A Passage frame of TYPE 0, 1, 2 or 5 is taken on a port: the port receives, its lanes agree, the header passes its
check, and it is no flood of this device that has gone round the ring (R333, R335, R339). -/
def State.FrameIn (s : State) (q : Psg) (f : PsgFrame) : Prop :=
  s.psgReceives q = true ∧ (s.psg q).mixed = false ∧ hckOf ((State.headerIn f).take 15) = f.hck.val ∧
    f.type.val ∈ [0, 1, 2, 5] ∧ ¬ (f.dest.val = 0xFFF ∧ f.src.val = s.n .passageDeviceId 0)

/-- The window of a frame's source and class takes its number (R340): there is none, or the number is ahead of it, or lies
within its last 1,024 and is not marked. -/
def State.SeqNew (s : State) (f : PsgFrame) : Prop :=
  ∀ w ∈ s.casc.windows.find? (fun w => w.src == f.src.val && w.cls == f.cls.val),
    32768 ≤ (w.high + 65536 - f.seq.val) % 65536 ∨
      ((w.high + 65536 - f.seq.val) % 65536 ≤ 1023 ∧ f.seq.val ∉ w.marks)

/-- A frame's number is marked in the window of its source and class. -/
def State.SeqMarked (s : State) (f : PsgFrame) : Prop :=
  ∃ w ∈ s.casc.windows, w.src = f.src.val ∧ w.cls = f.cls.val ∧ f.seq.val ∈ w.marks

/-- A word is the marker that opens a cycle on a locked lane of a port (R330, R332). -/
def State.Opens (s : State) (q : Psg) (l : Fin 4) (w : Nat) : Prop :=
  2 ≤ s.n .passageLaneState (4 * q + l) ∧ markerOk l w = true ∧ markerMfc w % 8 = 0

/-- One time message more has left on a port, with its header, subtype, sequence number and stamp (R345). -/
def State.TimeSent (s t : State) (q : Psg) (sub seq stamp : Nat) : Prop :=
  ∃ c k, t.sent = s.sent ++ [.passage q 3 [sub, c, k, s.n .wickStepCount 0, seq, stamp] (s.localHeader 3 20) none none]

/-- The objects whose Read does more than show the value (R207, R202, R285, R305, R432, R500). -/
def readActs : List Obj :=
  [.captNext, .queueDepthMax, .queueDelayMax, .txQueueDepthMax, .txQueueDelayMax, .requesterHighWater, .tsQueueHighWater,
   .counterValue, .rawRegister]

/-- The interface of a master is listened to (R402, R473). -/
def State.Hears (s : State) (m : Master) : Prop := s.listens m = true

/-- No write of class Packet waits: such a write is taken as its request is, except while the head-end die is out of
reach (R14, R397). -/
def State.NoPacket (s : State) : Prop := ∀ w ∈ s.lan.writes, w.cls ≠ 1

/-- A run of `k` steps that none stops. -/
def Runs (k : Nat) (s t : State) : Prop := core.run k s = .next t

end Sys2Proof.Machine
end

