-- ==== Sys2Proof/Certificates/Slice0/Obligations.lean ====
section
/-!
DEFINITION. The statements about the model, for the provers.
-/

open Sys2Proof
open Sys2Proof.Machine

/-- A step runs the command at the front of the queue (00_scope.md, 95_what_each_step_holds.md). -/
def Obligations.StepTakesTheFrontCommand : Prop :=
  (∀ (c : Instr) (s : State) (rest : List Instr), s.pending = c :: rest → step s = exec c { s with pending := rest }) ∧
  (∀ s : State, s.pending = [] → ∃ t, step s = .next t ∧ t.pending = [])

/-- What reset leaves in objects, registers and queues (18_startup_reset_and_power_states.md R467,
16_register_interface_and_ucie.md R516, 16_register_interface_and_ucie.md R425). -/
def Obligations.ResetLeavesDefaults : Prop :=
  State.reset.Sound ∧ State.reset.pending = [] ∧ State.reset.sent = [] ∧ State.reset.gal = .empty ∧
  State.reset.tm = .empty ∧ State.reset.terms = [] ∧ State.reset.boot.vinUp = true ∧ State.reset.boot.dieReset = true ∧
  (∀ (o : Obj) (i : Nat), State.reset.val o i = o.info.dflt i) ∧
  (∀ a : Nat, State.reset.reg a = State.regDflt a) ∧
  State.reset.reg 0x0 = 0x3250 ∧ State.reset.n .startPhase 0 = 0 ∧ State.reset.laneState 0 = 0 ∧
  State.reset.n .inbandVlan 0 = 0xFFFF ∧ State.reset.n .counterInstance 0 = 0xFFFF ∧ State.reset.wickRuns = false

/-- Every command completes, and changes only its own parts of the state (00_scope.md, 95_what_each_step_holds.md). -/
def Obligations.CommandsCompleteWithinTheirParts : Prop :=
  (∀ (c : Instr) (s : State), ∃ t, exec c s = .next t ∧ s.Only (partsOf c) t) ∧
  (∀ (c : Instr) (s t : State), exec c s = .next t → t.pending = s.pending)

/-- Every step keeps the state sound (00_scope.md R13, 06_time_and_holdover.md R180, 16_register_interface_and_ucie.md
R425, 16_register_interface_and_ucie.md R442). -/
def Obligations.SoundnessKept : Prop :=
  ∀ s t : State, s.Sound → step s = .next t → t.Sound

/-- Reserved and unimplemented locations and fields of the registers (00_scope.md R13). -/
def Obligations.ReservedLocationsAndFields : Prop :=
  (∀ (s : State) (a : Nat), regAt a = none → (s.regRead a).2 = 0) ∧
  (∀ (s : State) (a v : Nat) (hw : HwUpdate), regAt a = none → s.reach = true → s.stage.waiting = [] →
    ∃ t, exec (.registerWrite a v false hw) s = .next t ∧ s.ObjsBut [] t ∧ s.RegsBut [] t ∧ s.Only [.boot] t) ∧
  (∀ (s : State) (a k j : Nat) (d : RegDesc), regAt a = some (d, k) → (∀ f ∈ d.fields k, ¬ (f.lo ≤ j ∧ j ≤ f.hi)) →
    (s.regRead a).2.testBit j = false) ∧
  (∀ (s : State) (a k v w : Nat) (d : RegDesc) (x : RegOrigin), regAt a = some (d, k) → v < 2 ^ 32 → w < 2 ^ 32 →
    (a < 0x1200020 ∨ 0x1200040 ≤ a) →
    (∀ j, j < 32 → (d.mw = true ∧ 16 ≤ j) ∨ (∃ f ∈ d.fields k, f.lo ≤ j ∧ j ≤ f.hi) → v.testBit j = w.testBit j) →
    s.regWrite a v x = s.regWrite a w x)

/-- A refused write to a locked or write-once object (00_scope.md R11). -/
def Obligations.RefusedLockedWriteRecorded : Prop :=
  (∀ (s : State) (m k : Master) (ref : ObjRef) (value : List Byte) (o : Obj) (c : Nat), s.Takes m → s.NoPacket →
    Obj.find (ref.index.val * 256 + ref.sub.val) = some o → s.acceptCode m o ref.inst value = c →
    c = 0x06010003 ∨ c = 0x06010004 → k ≠ 2 ∨ s.n .inbandVlan 0 ≠ 0xFFFF → s.n .masterEventMask k / 2 ^ 9 % 2 = 1 →
    s.lan.masters[k].events.length < 1024 →
    ∃ t e, exec (.write m ref 0 value) s = .next t ∧ s.Answered t m (some c) ∧ t.lan.writes = s.lan.writes ∧
      s.ObjsBut [(.sconceRequests, 0), (.sconceEventsLost, 0)] t ∧
      s.RegsBut [Reg.ciphStatus, Reg.ciphLockviolSlot] t ∧
      t.lan.lockRecord = some (o.code, ref.inst.val) ∧ t.lan.masters[k].events = s.lan.masters[k].events ++ [e] ∧
      e.kind = 9 ∧ e.code = o.code ∧ e.inst = ref.inst.val) ∧
  (∀ (s : State) (m : Master) (ref : ObjRef) (value : List Byte) (o : Obj) (c : Nat), s.Takes m → s.NoPacket →
    Obj.find (ref.index.val * 256 + ref.sub.val) = some o → s.acceptCode m o ref.inst value = c →
    c = 0x06010003 ∨ c = 0x06010004 →
    ∃ t, exec (.write m ref 0 value) s = .next t ∧ s.Answered t m (some c) ∧ t.lan.writes = s.lan.writes ∧
      s.ObjsBut [(.sconceRequests, 0), (.sconceEventsLost, 0)] t ∧
      s.RegsBut [Reg.ciphStatus, Reg.ciphLockviolSlot] t ∧ t.lan.lockRecord = some (o.code, ref.inst.val))

/-- CounterInstance: what a counter counts, and what it may be set to (19_counters_and_lifetime_records.md R495). -/
def Obligations.CounterInstancesCounted : Prop :=
  (∀ (s : State) (c ev inst k : Nat), s.Sound → c < 256 → s.val .counterEnable c = .num 1 →
    s.bit Reg.cntGlobalCtrl 0 = true → s.boot.glim = false → s.n .counterEvent c = ev →
    s.n .counterValue c + k ≤ State.counterMax →
    (s.count ev inst k).n .counterValue c =
      if s.n .counterInstance c = 0xFFFF ∨ s.n .counterInstance c = inst then s.n .counterValue c + k
      else s.n .counterValue c) ∧
  (∀ (s : State) (m : Master) (ref : ObjRef) (bs : List Byte) (o : Obj) (ev inst : Nat), s.Takes m → s.NoPacket →
    Obj.find (ref.index.val * 256 + ref.sub.val) = some o → s.acceptCode m o ref.inst bs = Abort.ok →
    s.on .counterEnable ref.inst = false →
    (o = .counterInstance ∧ ev = s.n .counterEvent ref.inst ∧ inst = beNat bs) ∨
      (o = .counterEvent ∧ ev = beNat bs ∧ inst = s.n .counterInstance ref.inst) →
    ((∃ k, catalogue ev = some k ∧ (inst = 0xFFFF ∨ inst < k)) →
      ∃ t, exec (.write m ref 0 bs) s = .next t ∧ s.Answered t m (some Abort.ok) ∧ t.n o ref.inst = beNat bs ∧
        s.ObjsBut [(o, ref.inst.val), (.sconceRequests, 0)] t ∧ s.RegsBut [] t) ∧
    ((∀ k, catalogue ev = some k → inst ≠ 0xFFFF ∧ k ≤ inst) →
      ∃ t, exec (.write m ref 0 bs) s = .next t ∧ s.Answered t m (some 0x06010005) ∧
        s.ObjsBut [(.sconceRequests, 0)] t ∧ s.RegsBut [] t))

/-- Loss of a transmit or receive PLL, and what ends it (01_trees_channels_and_lanes.md R38 notes 2 and 3,
01_trees_channels_and_lanes.md R44). -/
def Obligations.LanePllFaults : Prop :=
  (∀ (s : State) (ch : Chan), s.sending ch = true → ∃ t, exec (.txPllLossOfLock ch) s = .next t ∧
    t.n .channelLaneState ch = 5 ∧ t.bit (Reg.ponLaneCtrl ch) 0 = false ∧ t.bit (Reg.ponLaneStatus ch) 8 = true ∧
    t.bit (Reg.ponLaneStatus ch) 0 = false ∧ s.ObjsBut [(.channelLaneState, ch.val), (.sconceEventsLost, 0)] t ∧
    s.RegsBut [Reg.ponLaneCtrl ch, Reg.ponLaneStatus ch] t) ∧
  (∀ (s : State) (ch : Chan), s.laneState ch = 5 → ∃ t, exec (.faultRecovery ch) s = .next t ∧
    t.n .channelLaneState ch = 1 ∧ t.bit (Reg.ponLaneStatus ch) 0 = true ∧ (t.lane ch).runFrame = s.frameNo + 2 ∧
    (t.lane ch).fromFault = true ∧ s.ObjsBut [(.channelLaneState, ch.val), (.sconceEventsLost, 0)] t ∧
    s.RegsBut [Reg.ponLaneStatus ch] t) ∧
  (∀ (s : State) (ch : Chan), s.laneState ch = 2 → ∃ t, exec (.rxPllLossOfLock ch) s = .next t ∧
    t.bit (Reg.ponLaneStatus ch) 9 = true ∧ t.bit (Reg.ponLaneStatus ch) 1 = false ∧
    s.ObjsBut [(.sconceEventsLost, 0)] t ∧ s.RegsBut [Reg.ponLaneStatus ch] t) ∧
  (∀ (s : State) (ch : Chan), s.laneState ch = 2 → ∃ t, exec (.rxPllRelock ch) s = .next t ∧
    t.bit (Reg.ponLaneStatus ch) 1 = true ∧ s.ObjsBut [] t ∧ s.RegsBut [Reg.ponLaneStatus ch] t)

/-- Sleep, naps and the receive PLL around quiet windows (01_trees_channels_and_lanes.md R38 note 4,
01_trees_channels_and_lanes.md R40, 01_trees_channels_and_lanes.md R41). -/
def Obligations.LaneSleepAndNaps : Prop :=
  (∀ (s : State) (ch : Chan), s.laneState ch = 2 → s.atFrame = true → s.n .devicePowerStateActual 0 = 1 →
    s.n .channelTrimIdleDwell ch ≠ 0 → s.activeOn ch = [] →
    max s.boot.trimSince (s.lane ch).lastActive + s.n .channelTrimIdleDwell ch * Tm.s ≤ s.now →
    ∃ t, exec (.laneSleepEntry ch) s = .next t ∧ t.n .channelLaneState ch = 3 ∧
      t.bit (Reg.ponLaneStatus ch) 1 = false ∧ s.ObjsBut [(.channelLaneState, ch.val)] t ∧
      s.RegsBut [Reg.ponLaneStatus ch] t) ∧
  (∀ (s : State) (ch : Chan), s.laneState ch = 3 → s.n .channelQuietNext ch ≠ 0 →
    s.n .channelQuietNext ch ≤ s.wick + 250 * Tm.us →
    ∃ t, exec (.sleepRxPllStart ch) s = .next t ∧ t.bit (Reg.ponLaneStatus ch) 1 = true ∧ s.ObjsBut [] t ∧
      s.RegsBut [Reg.ponLaneStatus ch] t) ∧
  (∀ (s : State) (ch : Chan) (a b : Time), s.laneState ch = 2 → s.n .devicePowerStateActual 0 = 1 →
    a + 10 * Tm.us ≤ b →
    ∃ t, exec (.laneNap ch a b) s = .next t ∧ (t.lane ch).napUntil = some (b - 2 * Tm.us)) ∧
  (∀ (s : State) (ch : Chan) (b : Time), (s.lane ch).napUntil = some b → b ≤ s.wick →
    ∃ t, exec (.laneNapWake ch) s = .next t ∧ (t.lane ch).napUntil = none)

/-- Pattern checker, receive calibration and preset tracking (01_trees_channels_and_lanes.md R29,
01_trees_channels_and_lanes.md R42, 01_trees_channels_and_lanes.md R44). -/
def Obligations.LaneLoopsAndCalibration : Prop :=
  (∀ (s : State) (ch : Chan) (e : Nat), s.laneState ch = 4 → s.bit (Reg.ponLaneCtrl ch) 11 = true →
    s.bit (Reg.ponLaneStatus ch) 3 = false →
    ∃ t, exec (.prbsCheckerLock ch e) s = .next t ∧ t.bit (Reg.ponLaneStatus ch) 3 = true ∧ s.ObjsBut [] t ∧
      s.RegsBut [Reg.ponLaneStatus ch] t) ∧
  (∀ (s : State) (ch : Chan) (e : Nat), s.laneState ch = 4 → s.bit (Reg.ponLaneCtrl ch) 11 = true →
    s.bit (Reg.ponLaneStatus ch) 3 = true →
    ∃ t, exec (.prbsCheckerLock ch e) s = .next t ∧
      t.n .channelPrbsErrors ch = min 0xFFFFFFFFFFFFFFFF (s.n .channelPrbsErrors ch + e) ∧
      s.ObjsBut [(.channelPrbsErrors, ch.val)] t) ∧
  (∀ (s : State) (ch : Chan), ∃ t, exec (.prbsClr ch) s = .next t ∧ t.n .channelPrbsErrors ch = 0 ∧
    s.ObjsBut [(.channelPrbsErrors, ch.val)] t) ∧
  (∀ (s : State) (ch : Chan), s.laneState ch = 1 ∨ s.laneState ch = 4 →
    ∃ t, exec (.rxCal ch) s = .next t ∧ (t.lane ch).cal = true) ∧
  (∀ (s : State) (ch : Chan), ∃ t, exec (.rxCalComplete ch) s = .next t ∧ (t.lane ch).cal = false) ∧
  (∀ (s : State) (ch : Chan) (x : Term) (k : Nat), s.atFrame = true → s.sideOn x ch = some k → s.eqRun x k = 16 →
    s.on .channelEqTrack ch = true → s.on .terminalEqPinned x = false →
    ∃ t, exec (.presetTrackingStep ch x) s = .next t ∧ t.eqRun x k = 0 ∧
      t.n (State.presetObj k) x = (if s.n (State.presetObj k) x < s.n (State.recommendedObj k) x
        then s.n (State.presetObj k) x + 1 else s.n (State.presetObj k) x - 1) ∧
      s.ObjsBut [(State.presetObj k, x.val)] t)

/-- Module presence, the identity read and the I2C relay (01_trees_channels_and_lanes.md R20,
01_trees_channels_and_lanes.md R35, 01_trees_channels_and_lanes.md R36, 01_trees_channels_and_lanes.md R37). -/
def Obligations.ModulesAndRelay : Prop :=
  (∀ (s : State) (c : Cage), s.on .cageModulePresent c = false → ¬ (c.val % 2 = 1 ∧ s.dualCage c = true) →
    ∃ t, exec (.moduleInsertion c) s = .next t ∧ t.on .cageModulePresent c = true ∧
      t.bit (Reg.ponLaneStatus c) 12 = true ∧ (t.cage c).reading = true ∧
      s.ObjsBut [(.cageModulePresent, c.val), (.sconceEventsLost, 0)] t) ∧
  (∀ (s : State) (c : Cage) (bs : List Byte), (s.cage c).reading = true → s.on .cageModulePresent c = true →
    bs.length = 128 → s.boot.lanternUp = true →
    ∃ t, exec (.identityReadComplete c bs) s = .next t ∧ t.oct .cageModuleIdentity c = bs ∧
      (t.cage c).reading = false ∧ s.ObjsBut [(.cageModuleIdentity, c.val)] t) ∧
  (∀ (s : State) (c : Cage), s.on .cageModulePresent c = true →
    ∃ t, exec (.moduleRemoval c) s = .next t ∧ t.on .cageModulePresent c = false ∧
      t.bit (Reg.ponLaneStatus c) 12 = true ∧ t.oct .cageModuleIdentity c = List.replicate 128 0 ∧
      s.ObjsBut [(.cageModulePresent, c.val), (.cageModuleIdentity, c.val), (.sconceEventsLost, 0)] t) ∧
  (∀ (s : State) (c : Cage) (r : List Byte) (rest : List (List Byte)) (bs : List Byte),
    (s.cage c).queue = r :: rest → (s.cage c).reading = false → s.boot.lanternUp = true → s.cageServes c = true →
    (∀ sda : Fin 3, sda ≠ 2 → ∃ t, exec (.i2cRequestComplete c sda 0 bs) s = .next t ∧ (t.cage c).queue = rest ∧
      t.oct .cageI2cResult c = [r.getD 0 0, 0, BitVec.ofNat 8 (bs.take (r.getD 3 0).toNat).length] ++
        bs.take (r.getD 3 0).toNat ∧
      t.sent = s.sent ++ (if sda = 0 then [.i2c c r] else [.i2cRecover c, .i2c c r]) ∧
      s.ObjsBut [(.cageI2cResult, c.val)] t) ∧
    (∀ sda status : Fin 3, sda ≠ 2 → status ≠ 0 → ∃ t, exec (.i2cRequestComplete c sda status bs) s = .next t ∧
      (t.cage c).queue = rest ∧ t.oct .cageI2cResult c = [r.getD 0 0, BitVec.ofNat 8 status, 0] ∧
      s.ObjsBut [(.cageI2cResult, c.val)] t) ∧
    (∀ status : Fin 3, ∃ t, exec (.i2cRequestComplete c 2 status bs) s = .next t ∧ (t.cage c).queue = rest ∧
      t.oct .cageI2cResult c = [r.getD 0 0, 3, 0] ∧ t.sent = s.sent ++ [.i2cRecover c] ∧
      s.ObjsBut [(.cageI2cResult, c.val)] t)) ∧
  (∀ (s : State) (c : Cage) (r : List Byte) (rest : List (List Byte)) (sda k : Fin 3) (bs : List Byte),
    (s.cage c).queue = r :: rest → (s.cage c).reading = false → s.boot.lanternUp = true → s.cageServes c = false →
    ∃ t, exec (.i2cRequestComplete c sda k bs) s = .next t ∧ (t.cage c).queue = rest ∧
      t.oct .cageI2cResult c = [r.getD 0 0, 4, 0] ∧ t.sent = s.sent) ∧
  (∀ (s : State) (c : Cage) (r : List Byte) (rest : List (List Byte)) (sda : Bool),
    (s.cage c).queue = r :: rest → (s.cage c).reading = false → s.boot.lanternUp = true → s.cageServes c = true →
    ∃ t, exec (.i2cClockStretchTimeout c sda) s = .next t ∧ (t.cage c).queue = rest ∧
      t.oct .cageI2cResult c = [r.getD 0 0, 5, 0] ∧
      t.sent = s.sent ++ (if sda then [.i2cRecover c, .i2c c r] else [.i2c c r]))

/-- The trigger of a received-power measurement (01_trees_channels_and_lanes.md R34). -/
def Obligations.ReceivedPowerTrigger : Prop :=
  (∀ (s : State) (ch : Chan) (x : Term) (start stop armed : Time), (s.lane ch).rssi = some (x.val, armed) →
    (start, stop, x.val) ∈ s.awaited ch → armed + Tm.frame ≤ start → start < armed + 16 * Tm.frame →
    (∀ y ∈ s.awaited ch, y.2.2 = x.val → armed + Tm.frame ≤ y.1 → y ≠ (start, stop, x.val) → start < y.1) →
    let rise := start + s.n .channelRssiDelay ch * (10 * Tm.ns)
    let fall := min (rise + s.n .channelRssiWidth ch * (10 * Tm.ns)) stop
    ∃ t, exec (.rssiTrigger ch x) s = .next t ∧ (t.lane ch).rssi = none ∧
      t.sent = (if rise < fall then s.sent ++ [.pulse 0 ch rise fall true] else s.sent) ∧
      s.ObjsBut [(.sconceEventsLost, 0)] t ∧ s.RegsBut [] t) ∧
  (∀ (s : State) (ch : Chan) (x armed : Nat), (s.lane ch).rssi = some (x, armed) → armed + 16 * Tm.frame ≤ s.wick →
    ∃ t, exec (.rssiRequestLapse ch) s = .next t ∧ (t.lane ch).rssi = none ∧ t.sent = s.sent ∧
      s.ObjsBut [(.sconceEventsLost, 0)] t ∧ s.RegsBut [] t)

/-- Host writes of the received-power request, the I2C relay and the loop mode (01_trees_channels_and_lanes.md R34,
01_trees_channels_and_lanes.md R36, 01_trees_channels_and_lanes.md R37, 01_trees_channels_and_lanes.md R42). -/
def Obligations.LaneSettingsTaken : Prop :=
  (∀ (s : State) (m : Master) (ch : Chan) (x : Nat), s.Admits m .channelRssiRequest ch (beBytes 2 x) →
    ∃ t, exec (.channelRssiRequest m ch x) s = .next t ∧ s.Answered t m (some Abort.ok) ∧
      (t.lane ch).rssi = some (beNat (beBytes 2 x), s.wick)) ∧
  (∀ (s : State) (m : Master) (c : Cage) (r : List Byte), s.Admits m .cageI2cRequest c r → State.i2cBad r = false →
    (s.cage c).queue.length < 4 →
    ∃ t, exec (.cageI2cRequest m c r) s = .next t ∧ s.Answered t m (some Abort.ok) ∧
      (t.cage c).queue = (s.cage c).queue ++ [r]) ∧
  (∀ (s : State) (m : Master) (c : Cage) (r : List Byte), s.Admits m .cageI2cRequest c r →
    State.i2cBad r = true ∨ 4 ≤ (s.cage c).queue.length →
    ∃ t, exec (.cageI2cRequest m c r) s = .next t ∧
      s.Answered t m (some (if State.i2cBad r then Abort.range else Abort.full)) ∧ t.cages = s.cages) ∧
  (∀ (s : State) (m : Master) (ch : Chan) (v : Nat), s.Admits m .channelLoopMode ch (beBytes 1 v) →
    v % 256 ≠ 0 → s.laneState ch = 0 →
    ∃ t, exec (.loopModeSet m ch v) s = .next t ∧ s.Answered t m (some Abort.ok) ∧ t.laneState ch = 4 ∧
      t.n .channelLoopMode ch = v % 256 ∧ t.bit (Reg.ponLaneCtrl ch) 11 = true) ∧
  (∀ (s : State) (m : Master) (ch : Chan), s.Admits m .channelLoopMode ch (beBytes 1 0) → s.laneState ch = 4 →
    ∃ t, exec (.loopModeSet m ch 0) s = .next t ∧ s.Answered t m (some Abort.ok) ∧ t.laneState ch = 0 ∧
      t.n .channelLoopMode ch = 0)

/-- A copy of Wick that departs is outvoted; with no majority the middle is taken (06_time_and_holdover.md R180). -/
def Obligations.WickCopiesVoted : Prop :=
  (∀ (s : State) (k : Fin 3) (inc : Bool) (v : Nat), soundClock s.clk → v ≠ (if inc then s.inc else s.wick) →
    ∃ t, exec (.wickCopyMismatch k inc v) s = .next t ∧ t.wick = s.wick ∧ t.inc = s.inc ∧ soundClock t.clk ∧
      t.bit Reg.wickStatus 8 = true ∧ t.n .wickCounterMismatches 0 = (s.n .wickCounterMismatches 0 + 1) % 2 ^ 64 ∧
      s.ObjsBut [(.wickCounterMismatches, 0), (.wickIncrement, 0)] t ∧ s.RegsBut [Reg.wickStatus] t) ∧
  (∀ (s : State) (inc : Bool) (own a b : Nat), soundClock s.clk → own = (if inc then s.inc else s.wick) →
    own ≠ a → own ≠ b → a ≠ b → (inc = true → s.clk.slewed = 0) →
    ∃ t, exec (.wickNoMajority inc a b) s = .next t ∧
      (if inc then t.inc else t.wick) ∈ [own, a, b] ∧
      (if inc then t.inc else t.wick) / Tm.ns =
        max (min (own / Tm.ns) (a / Tm.ns)) (min (max (own / Tm.ns) (a / Tm.ns)) (b / Tm.ns)) ∧
      soundClock t.clk ∧ t.n .wickState 0 = 5 ∧ t.clk.step = none ∧ t.bit Reg.wickStatus 9 = true)

/-- The transitions of WickState that commands bring about (06_time_and_holdover.md R181, 06_time_and_holdover.md
R182, 06_time_and_holdover.md R185, 06_time_and_holdover.md R196, 06_time_and_holdover.md R198,
06_time_and_holdover.md R199). -/
def Obligations.WickStatesEntered : Prop :=
  (∀ (s : State),
    ∃ t, exec .ovenReady s = .next t ∧ t.n .ovenState 0 = 1 ∧
      t.n .wickState 0 = (if s.n .wickState 0 ≠ 0 then s.n .wickState 0
        else if s.avail = true ∧ (s.eligible 0 = true ∨ s.eligible 1 = true) then 2 else 1)) ∧
  (∀ (s : State), s.n .wickState 0 = 0 → s.clk.since + State.warmBound s.clk.startTemp + 60 * Tm.s ≤ s.now →
    ∃ t, exec .warmingTimeout s = .next t ∧ t.n .ovenState 0 = 2 ∧
      t.n .wickState 0 = (if s.avail = true ∧ (s.eligible 0 = true ∨ s.eligible 1 = true) then 2 else 1)) ∧
  (∀ (s : State),
    ∃ t, exec .ovenFault s = .next t ∧ t.n .ovenState 0 = 2 ∧
      (s.n .ovenState 0 = 1 → t.bit Reg.wickStatus 14 = true) ∧
      t.n .wickState 0 = (if s.n .wickState 0 = 4 then 5 else if s.n .wickState 0 ≠ 0 then s.n .wickState 0
        else if s.avail = true ∧ (s.eligible 0 = true ∨ s.eligible 1 = true) then 2 else 1)) ∧
  (∀ (s : State), s.avail = true → s.n .wickState 0 = 2 → 16 ≤ s.clk.qualify → s.wick % Tm.frame = 0 →
    ∃ t, exec .wickLocked s = .next t ∧ t.n .wickState 0 = 3 ∧ t.wick = s.wick ∧ t.clk.outliers = 0) ∧
  (∀ (s : State), s.avail = false → s.n .wickState 0 = 3 → s.clk.lastUpdate + Tm.s ≤ s.now →
    ∃ t, exec .headlessHoldover s = .next t ∧ t.n .wickState 0 = 4 ∧ t.bit Reg.wickStatus 5 = true ∧
      t.n .timeHoldoverElapsed 0 = 0 ∧ t.n .timeSelectedDomain 0 = 0xFF) ∧
  (∀ (s : State), s.n .wickState 0 = 4 → s.reg Reg.wickHoldExpiry ≤ s.n .timeHoldoverElapsed 0 →
    ∃ t, exec .holdoverExpiry s = .next t ∧ t.n .wickState 0 = 5 ∧ t.wick = s.wick)

/-- The transitions of TimeDomainState that commands bring about (06_time_and_holdover.md R188,
06_time_and_holdover.md R189). -/
def Obligations.DomainStatesEntered : Prop :=
  (∀ (s : State) (d : TimeDomain), s.avail = true → s.domState d = 1 → (s.dom d).since + 16 * Tm.s ≤ s.now →
    s.domClass d ≤ 248 → ∃ t, exec (.domainLocked d) s = .next t ∧ t.domState d = 2) ∧
  (∀ (s : State) (d : TimeDomain) (a : Bool), s.avail = true → s.domState d = 1 ∨ s.domState d = 2 ∨ s.domState d = 4 →
    s.domSilent d a = true →
    ∃ t, exec (.domainLost d a) s = .next t ∧ t.domState d = 3 ∧ t.n .timeDomainSlavePort d = 0xFF) ∧
  (∀ (s : State) (d : TimeDomain), s.avail = true → s.domState d = 4 → 60 ≤ (s.dom d).consistent →
    ∃ t, exec (.domainConsistent d) s = .next t ∧ t.domState d = 2) ∧
  (∀ (s : State) (d : TimeDomain), s.selected = some d → s.avail = true → s.n .wickState 0 = 3 → 16 ≤ s.clk.outliers →
    ∃ t, exec .domainInconsistent s = .next t ∧ t.domState d = 4 ∧ t.clk.outliers = 0 ∧
      s.ObjsBut [(.timeDomainState, d.val), (.sconceEventsLost, 0)] t) ∧
  (∀ (s : State) (d e : TimeDomain), s.selected = some e → s.avail = true → s.n .wickState 0 = 3 → d ≠ e →
    s.domState d = 2 → s.domBetter d e = true → s.on .timeDomainRevertive d = true →
    s.n .timeDomainWtr d ≤ (s.dom d).better → State.within (s.domOffset d) (s.n .timeSwitchMaxOffset 0) = true →
    ∃ t, exec (.domainRevert d) s = .next t ∧ t.selected = some d ∧ t.clk.switched = true ∧
      s.ObjsBut [(.timeSelectedDomain, 0)] t) ∧
  (∀ (s : State) (d e : TimeDomain), s.selected = some e → s.avail = true → s.n .wickState 0 = 3 → d ≠ e →
    s.domState d = 2 → s.domBetter d e = true → s.on .timeDomainRevertive d = true →
    s.n .timeDomainWtr d ≤ (s.dom d).better → State.within (s.domOffset d) (s.n .timeSwitchMaxOffset 0) = false →
    ∃ t, exec (.domainRevert d) s = .next t ∧ t.selected = some e ∧ t.domState d = 4 ∧
      s.ObjsBut [(.timeDomainState, d.val), (.sconceEventsLost, 0)] t)

/-- What a PTP message, a ToD message and a pulse edge give a time domain (06_time_and_holdover.md R188,
06_time_and_holdover.md R191, 06_time_and_holdover.md R193). -/
def Obligations.DomainInputsTaken : Prop :=
  (∀ (s : State) (d : TimeDomain) (p : Uplink) (msg : PtpMsg), s.domTakes d 1 = true → s.slaveCapable d p = true →
    msg.slave = true → msg.kind = 1 →
    ∃ t, exec (.ptpMessageReceived d p msg) s = .next t ∧ t.n .timeDomainSlavePort d = p.val ∧
      (t.dom d).lastSync = s.now ∧
      (t.dom d).sync = some (msg.origin, State.stampOf msg.arrival (- s.num .ptpPortIngressDelay p))) ∧
  (∀ (s : State) (d : TimeDomain) (p : Uplink) (msg : PtpMsg) (t1 t2 : Nat), s.domTakes d 1 = true →
    s.slaveCapable d p = true → msg.slave = true → msg.kind = 2 → (s.dom d).sync = some (t1, t2) →
    ∃ t, exec (.ptpMessageReceived d p msg) s = .next t ∧ t.n .timeDomainSlavePort d = p.val ∧
      (t.dom d).off = ((t1 : Int) - State.stampTime t2 + ((msg.origin : Int) -
        State.stampTime (State.stampOf msg.asked (s.num .ptpPortEgressDelay p)))) / 2 +
        State.psTime (s.num .ptpPortAsymmetry p) + (s.wick : Int) - (s.now : Int) ∧ (t.dom d).freq = msg.freq ∧
      (s.domState d = 3 → t.domState d = 1)) ∧
  (∀ (s : State) (msg : TodMsg), s.domTakes 0 3 = true → msg.ok = true → msg.cls = none → (s.dom 0).lastTod = none →
    s.n .timeDomainTodFormat 0 = 1 → s.n .timeDomainTodConvention 0 = 1 →
    ∃ t, exec (.todMessageReceived msg) s = .next t ∧ (t.dom 0).lastAnnounce = s.now ∧
      (t.dom 0).todNext = some ((msg.seconds : Int) + s.num .timeDomainUtcOffset 0).toNat ∧ s.ObjsBut [] t) ∧
  (∀ (s : State) (msg : TodMsg), s.domTakes 0 3 = true ∨ s.domTakes 1 3 = true → msg.ok = false →
    ∃ t, exec (.todMessageReceived msg) s = .next t ∧ t.clk = { s.clk with todDiscards := s.clk.todDiscards + 1 } ∧
      s.ObjsBut [] t) ∧
  (∀ (s : State) (d : TimeDomain) (k : Fin 2) (x : Nat), s.pulseDomain k = some d → s.n .timeDomainSource d = 4 →
    s.domState d ≠ 2 →
    ∃ t, exec (.ppsInEdge k x) s = .next t ∧ (t.dom d).lastSync = s.now ∧
      (t.dom d).edge = some ((x : Int) - State.psTime (s.num .timeDomainPpsDelay d)).toNat)

/-- What the oscillator model learns, and its reset (06_time_and_holdover.md R194, 06_time_and_holdover.md R195,
06_time_and_holdover.md R198, 06_time_and_holdover.md R199). -/
def Obligations.OscillatorModelKept : Prop :=
  (∀ (s : State) (b : Fin 68) (f : Int), s.avail = true → s.n .wickState 0 = 3 →
    1800 ≤ tabGet (fun _ => 0) s.clk.dwell b →
    ∃ t, exec (.binLearned b f) s = .next t ∧ t.reg (Reg.wickModelBin b) = twos 32 f ∧
      (s.nvmUp = true → t.nvm.learnedModel[b.val]? = some f) ∧ s.ObjsBut [(.timeModelBinsLearned, 0)] t ∧
      s.RegsBut [Reg.wickModelBin b] t) ∧
  (∀ (s : State) (r : Int), s.avail = true → s.n .wickState 0 = 3 → s.clk.lastRefit + 3600 * Tm.s ≤ s.now →
    ∃ t, exec (.ageingRefit r) s = .next t ∧ t.reg Reg.wickModelAge = twos 32 r ∧ t.clk.lastRefit = s.now ∧
      s.ObjsBut [] t ∧ s.RegsBut [Reg.wickModelAge] t) ∧
  (∀ (s : State), s.avail = true → s.n .wickState 0 = 3 → s.clk.lastExpiry + 60 * Tm.s ≤ s.now →
    ∃ t fit, exec .holdExpiryRecompute s = .next t ∧
      (∀ x, x < t.reg Reg.wickHoldExpiry → State.holdBudget fit x ≤ s.n .timeHoldoverLimit 0 * 1000) ∧
      (t.reg Reg.wickHoldExpiry < 4194304 →
        s.n .timeHoldoverLimit 0 * 1000 < State.holdBudget fit (t.reg Reg.wickHoldExpiry)) ∧
      t.reg Reg.wickHoldExpiry ≤ 4194304 ∧ t.clk.lastExpiry = s.now ∧ s.ObjsBut [] t ∧
      s.RegsBut [Reg.wickHoldExpiry] t) ∧
  (∀ (s : State) (m : Master), s.Admits m .timeModelReset 0 (beBytes 1 1) →
    ∃ t, exec (.timeModelReset m 1) s = .next t ∧ s.Answered t m (some Abort.ok) ∧
      (s.nvmUp = true → t.nvm.learnedModel = [] ∧ t.nvm.learnedBins = 0) ∧ t.clk.dwell = [] ∧
      t.n .timeModelLearnedHours 0 = 0 ∧ t.reg Reg.wickModelAge = 0 ∧ t.reg Reg.wickModelBase = 0 ∧
      ∀ b : Fin 68, t.reg (Reg.wickModelBin b) = 0) ∧
  (∀ (s : State), s.n .wickState 0 = 3 → s.n .ovenState 0 = 2 →
    ∃ t, exec .ovenFault s = .next t ∧ t.n .wickState 0 = 3 ∧ t.clk.dwell = tabErase s.clk.dwell s.oscBin ∧
      s.ObjsBut [] t)

/-- Trigger programs armed, stopped and pulsed, and captured edges (06_time_and_holdover.md R202,
06_time_and_holdover.md R205, 06_time_and_holdover.md R207, 06_time_and_holdover.md R208, 06_time_and_holdover.md
R212). -/
def Obligations.TriggersAndCaptures : Prop :=
  (∀ (s : State) (m : Master) (k : Trig), s.Admits m .trigArm k (beBytes 1 1) → s.trigArmBad k = false →
    ∃ t, exec (.trigArm m k) s = .next t ∧ s.Answered t m (some Abort.ok) ∧ (t.trig k).armed = some (s.stagedProg k) ∧
      (t.trig k).running = (s.trig k).running) ∧
  (∀ (s : State) (m : Master) (k : Trig), s.Admits m .trigArm k (beBytes 1 0) →
    ∃ t, exec (.trigDisarm m k) s = .next t ∧ s.Answered t m (some Abort.ok) ∧ t.trig k = ⟨none, none⟩ ∧
      t.n .trigState k = 0) ∧
  (∀ (s : State) (k : Trig) (p : TrigProg) (e : Nat), s.trig k = ⟨some (p, e), none⟩ →
    p.start + e * p.period * Tm.ns ≤ s.wick → s.squelched (s.on .trigSquelch k) = false →
    let at_ := p.start + e * p.period * Tm.ns
    ∃ t, exec (.triggerPulse k) s = .next t ∧
      t.sent = s.sent ++ [.pulse 2 k at_ (at_ + p.width * Tm.ns) p.polarity] ∧
      (if p.period = 0 ∨ (p.count ≠ 0 ∧ p.count ≤ e + 1) then t.trig k = ⟨none, none⟩ ∧ t.n .trigState k = 3
        else t.trig k = ⟨some (p, e + 1), none⟩ ∧ t.n .trigState k = 2)) ∧
  (∀ (s : State) (k : Trig) (up : Bool) (x : Nat), s.on .captEnable k = true → s.n .captEdge k = 2 →
    tabFind s.clk.lastEdge k = none → (s.captures k).length < 16 →
    ∃ t, exec (.captureEdge k up x) s = .next t ∧
      t.captures k = s.captures k ++ [(((x : Int) - State.psTime (s.num .captDelay k)).toNat, s.n .wickStepCount 0)] ∧
      t.n .captPending k = (s.captures k).length + 1 ∧ s.ObjsBut [(.captPending, k.val)] t) ∧
  (∀ (s : State), ∃ t, exec .captClr s = .next t ∧ ∀ k : Trig, t.captures k = [] ∧ t.n .captPending k = 0) ∧
  (∀ (s : State) (m : Master) (k : Trig) (x c : Nat) (q : List (Nat × Nat)), s.Takes m → s.boot.recovery = false →
    s.captures k = (x, c) :: q →
    ∃ t, exec (.captNextRead m k) s = .next t ∧ s.Returned t m (beBytes 12 x ++ beBytes 1 c) ∧ t.captures k = q) ∧
  (∀ (s : State) (m : Master) (i : Fin 1024), s.Takes m → s.boot.recovery = false → i.val < 20 →
    ∃ t, exec (.highWaterRead m true i) s = .next t ∧ s.Returned t m (beBytes 1 (s.n .tsQueueHighWater i)) ∧
      t.n .tsQueueHighWater i = s.n .tsQueueLevel i) ∧
  (∀ (s : State) (m : Master) (i : Fin 1024), s.Takes m → s.boot.recovery = false →
    s.exists? .requesterHighWater i = true →
    ∃ t, exec (.highWaterRead m false i) s = .next t ∧ s.Returned t m (beBytes 4 (s.n .requesterHighWater i)) ∧
      t.n .requesterHighWater i = 0)

/-- A written Wick time waits for its boundary (06_time_and_holdover.md R183). -/
def Obligations.WickSetAndSteps : Prop :=
  (∀ (s : State) (m : Master) (w : Nat), s.Admits m .wickSetTime 0 (beBytes 12 w) →
    s.n .wickState 0 = 0 ∨ s.n .wickState 0 = 1 →
    ∃ t, exec (.wickSetTime m w) s = .next t ∧ s.Answered t m (some Abort.ok) ∧
      t.clk.step = some (.time (beNat (beBytes 12 w)), s.now)) ∧
  (∀ (s : State) (m : Master) (w : Nat), s.Admits m .wickSetTime 0 (beBytes 12 w) →
    s.n .wickState 0 ≠ 0 → s.n .wickState 0 ≠ 1 →
    ∃ t, exec (.wickSetTime m w) s = .next t ∧ s.Answered t m (some Abort.locked) ∧ t.clk = s.clk)

/-- What Lantern does with a datagram (15_sconce_dictionary.md R402, 15_sconce_dictionary.md R403,
15_sconce_dictionary.md R405, 15_sconce_dictionary.md R406, 15_sconce_dictionary.md R418). -/
def Obligations.DatagramsJudged : Prop :=
  (∀ (s : State) (m : Master) (a : Nat) (bs : List Byte), s.Hears m → 8192 < bs.length →
    ∃ t, exec (.sconceRequest m a bs) s = .next t ∧ t = s.bump .sconceMalformed 0 1) ∧
  (∀ (s : State) (m : Master) (a : Nat) (bs : List Byte), s.Hears m → bs.length ≤ 8192 → s.authentic m bs = false →
    ∃ t, exec (.sconceRequest m a bs) s = .next t ∧ t.n .sconceAuthFailures 0 = (s.n .sconceAuthFailures 0 + 1) % 2 ^ 64 ∧
      t.lan.msgs = s.lan.msgs ∧ s.ObjsBut [(.sconceAuthFailures, 0)] t) ∧
  (∀ (s : State) (m : Master) (a : Nat) (bs : List Byte), s.Hears m → bs.length ≤ 8192 → s.authentic m bs = true →
    State.byteAt bs 3 = 1 → beNat ((bs.drop 8).take 8) ≤ s.lan.masters[m].highest →
    ∃ t, exec (.sconceRequest m a bs) s = .next t ∧ t.n .sconceReplays 0 = (s.n .sconceReplays 0 + 1) % 2 ^ 64 ∧
      t.lan.msgs = s.lan.msgs ∧ t.lan.masters[m].highest = s.lan.masters[m].highest ∧ s.ObjsBut [(.sconceReplays, 0)] t) ∧
  (∀ (s : State) (m : Master) (a : Nat) (bs : List Byte), s.Hears m → bs.length ≤ 8192 → s.authentic m bs = true →
    s.NoPacket → State.byteAt bs 3 = 1 → State.byteAt bs 5 = 0 → s.lan.masters[m].highest < beNat ((bs.drop 8).take 8) →
    s.outstanding m < 16 →
    ∃ t q, exec (.sconceRequest m a bs) s = .next t ∧ t.lan.masters[m].highest = beNat ((bs.drop 8).take 8) ∧
      t.lan.msgs = s.lan.msgs ++ [q] ∧ q.master = m ∧ q.addr = a ∧ q.results = []) ∧
  (∀ (s : State) (m : Master) (a : Nat) (bs : List Byte), s.Hears m → bs.length ≤ 8192 → s.authentic m bs = true →
    State.byteAt bs 3 = 4 →
    ∃ t, exec (.sconceRequest m a bs) s = .next t ∧ t.lan.masters[m].events =
      s.lan.masters[m].events.filter (fun e => beNat ((bs.drop 16).take 8) < e.seq) ∧ s.ObjsBut [] t ∧ s.RegsBut [] t)

/-- Read, Write, Claim, Release, Next and Default records (15_sconce_dictionary.md R407, 15_sconce_dictionary.md R408,
15_sconce_dictionary.md R410, 15_sconce_dictionary.md R413). -/
def Obligations.RecordsPerformed : Prop :=
  (∀ (s : State) (m : Master) (ref : ObjRef) (off len : Nat) (o : Obj) (bs : List Byte), s.Takes m → s.NoPacket →
    Obj.find (ref.index.val * 256 + ref.sub.val) = some o → s.exists? o ref.inst = true → o ∉ readActs →
    bs = (s.taken m).shown o ref.inst → bs.length ≤ 4096 → off + len ≤ bs.length →
    ∃ t, exec (.read m ref off len) s = .next t ∧
      s.Returned t m (if len = 0 then bs.drop off else (bs.drop off).take len) ∧
      s.ObjsBut [(.sconceRequests, 0)] t ∧ s.RegsBut [] t) ∧
  (∀ (s : State) (m : Master) (ref : ObjRef) (off len : Nat) (o : Obj) (bs : List Byte), s.Takes m → s.NoPacket →
    Obj.find (ref.index.val * 256 + ref.sub.val) = some o → s.exists? o ref.inst = true →
    ((s.taken m).objRead o ref.inst).2 = bs → bs.length ≤ 4096 → off + len ≤ bs.length →
    ∃ t, exec (.read m ref off len) s = .next t ∧
      s.Returned t m (if len = 0 then bs.drop off else (bs.drop off).take len) ∧
      t.objs = ((s.taken m).objRead o ref.inst).1.objs) ∧
  (∀ (s : State) (m : Master) (ref : ObjRef) (off len : Nat) (o : Obj), s.Takes m → s.NoPacket →
    Obj.find (ref.index.val * 256 + ref.sub.val) = some o →
    (s.exists? o ref.inst = false → ∃ t, exec (.read m ref off len) s = .next t ∧ s.Answered t m (some Abort.noSuch) ∧
      s.ObjsBut [(.sconceRequests, 0)] t ∧ s.RegsBut [] t) ∧
    (s.exists? o ref.inst = true → ((s.taken m).objRead o ref.inst).2.length ≤ 4096 →
      ((s.taken m).objRead o ref.inst).2.length < off + len →
      ∃ t, exec (.read m ref off len) s = .next t ∧ s.Answered t m (some Abort.malformed) ∧
        s.ObjsBut [(.sconceRequests, 0)] t ∧ s.RegsBut [] t)) ∧
  (∀ (s : State) (m : Master) (ref : ObjRef) (value : List Byte) (o : Obj), s.Takes m → s.NoPacket →
    Obj.find (ref.index.val * 256 + ref.sub.val) = some o → o.info.cls ≠ .immediate → o.info.cls ≠ .packet →
    s.acceptCode m o ref.inst value = Abort.ok →
    ∃ t w, exec (.write m ref 0 value) s = .next t ∧ s.Answered t m none ∧ t.lan.writes = s.lan.writes ++ [w] ∧
      w.msg = s.lan.nextMsg ∧ w.master = m ∧ w.code = o.code ∧ w.inst = ref.inst.val ∧ w.value = value ∧
      w.cls = State.clsCode o.info.cls ∧ s.ObjsBut [(.sconceRequests, 0)] t ∧ s.RegsBut [] t) ∧
  (∀ (s : State) (m : Master) (ref : ObjRef) (value : List Byte) (o : Obj) (c : Nat), s.Takes m → s.NoPacket →
    Obj.find (ref.index.val * 256 + ref.sub.val) = some o → s.acceptCode m o ref.inst value = c → c ≠ Abort.ok →
    c ≠ Abort.writtenOnce → c ≠ Abort.locked →
    ∃ t, exec (.write m ref 0 value) s = .next t ∧ s.Answered t m (some c) ∧ t.lan.writes = s.lan.writes ∧
      s.ObjsBut [(.sconceRequests, 0)] t ∧ s.RegsBut [] t) ∧
  (∀ (s : State) (m : Master) (ref : ObjRef) (o : Obj), s.Takes m → s.NoPacket →
    Obj.find (ref.index.val * 256 + ref.sub.val) = some o →
    s.exists? o (if ref.inst.val = 0xFFFFFF then 0 else ref.inst) = true → o.info.acc ≠ .ro → o.info.acc ≠ .const →
    (∀ c ∈ s.lan.claims, c.master ≠ m → c.code = o.code →
      c.inst ≠ ref.inst.val ∧ c.inst ≠ 0xFFFFFF ∧ ref.inst.val ≠ 0xFFFFFF) →
    (s.lan.claims.filter fun c => c.master == m).length < 256 →
    ∃ t, exec (.claim m ref) s = .next t ∧ s.Answered t m (some Abort.ok) ∧
      t.lan.claims = (if (⟨m, o.code, ref.inst⟩ : ClaimRec) ∈ s.lan.claims then s.lan.claims
        else s.lan.claims ++ [⟨m, o.code, ref.inst⟩]) ∧ s.ObjsBut [(.sconceRequests, 0)] t ∧ s.RegsBut [] t) ∧
  (∀ (s : State) (m : Master) (ref : ObjRef) (o : Obj) (c : ClaimRec), s.Takes m → s.NoPacket →
    Obj.find (ref.index.val * 256 + ref.sub.val) = some o →
    s.exists? o (if ref.inst.val = 0xFFFFFF then 0 else ref.inst) = true → o.info.acc ≠ .ro → o.info.acc ≠ .const →
    c ∈ s.lan.claims → c.master ≠ m → c.code = o.code →
    c.inst = ref.inst.val ∨ c.inst = 0xFFFFFF ∨ ref.inst.val = 0xFFFFFF →
    ∃ t, exec (.claim m ref) s = .next t ∧ s.Answered t m (some Abort.claimed) ∧ t.lan.claims = s.lan.claims) ∧
  (∀ (s : State) (m : Master) (ref : ObjRef) (o : Obj), s.Takes m → s.NoPacket →
    Obj.find (ref.index.val * 256 + ref.sub.val) = some o →
    ∃ t, exec (.release m ref) s = .next t ∧ s.Answered t m (some Abort.ok) ∧
      t.lan.claims = (s.lan.claims.filter fun c => c != ⟨m, o.code, ref.inst⟩) ∧
      s.ObjsBut [(.sconceRequests, 0)] t ∧ s.RegsBut [] t) ∧
  (∀ (s : State) (m : Master) (ref : ObjRef) (o : Obj) (j : Nat), s.Takes m → s.NoPacket →
    Obj.find (ref.index.val * 256 + ref.sub.val) = some o → s.exists? o 0 = true → o ≠ .rawRegister →
    ref.inst.val ≤ j → j < o.info.count → j < 16777216 →
    (s.taken m).shown o j ≠ o.info.ty.encode ((s.taken m).defaultNow o j) →
    (∀ k ∈ List.range j, ref.inst.val ≤ k →
      (s.taken m).shown o k = o.info.ty.encode ((s.taken m).defaultNow o k)) →
    ∃ t q, exec (.next m ref) s = .next t ∧ t.lan.msgs = s.lan.msgs ++ [q] ∧ q.master = m ∧
      q.results.map (fun r => (r.ref.inst.val, r.code, r.value)) = [(j, some Abort.ok, (s.taken m).shown o j)] ∧
      s.ObjsBut [(.sconceRequests, 0)] t ∧ s.RegsBut [] t) ∧
  (∀ (s : State) (m : Master) (ref : ObjRef) (o : Obj), s.Takes m → s.NoPacket →
    Obj.find (ref.index.val * 256 + ref.sub.val) = some o → s.exists? o 0 = true → o ≠ .rawRegister →
    (∀ k ∈ List.range o.info.count, ref.inst.val ≤ k →
      (s.taken m).shown o k = o.info.ty.encode ((s.taken m).defaultNow o k)) →
    ∃ t q, exec (.next m ref) s = .next t ∧ t.lan.msgs = s.lan.msgs ++ [q] ∧ q.master = m ∧
      q.results.map (fun r => (r.ref.inst.val, r.code, r.value)) = [(0xFFFFFF, some Abort.ok, [])]) ∧
  (∀ (s : State) (m : Master) (ref : ObjRef) (o : Obj) (count : Nat), s.Takes m → s.NoPacket →
    Obj.find (ref.index.val * 256 + ref.sub.val) = some o → o ≠ .rawRegister → o.info.cls ≠ .immediate →
    o.info.cls ≠ .packet → 1 ≤ count → count ≤ 65536 →
    (∀ k ∈ List.range count, s.accessCode m o (ref.inst.val + k) = Abort.ok) →
    ∃ t, exec (.default m ref count) s = .next t ∧ s.Answered t m none ∧
      t.lan.writes.take s.lan.writes.length = s.lan.writes ∧
      (t.lan.writes.drop s.lan.writes.length).map (fun w => (w.master, w.code, w.inst, w.value, w.cls)) =
        ((List.range count).map fun k => (m, o.code, ref.inst.val + k,
          o.info.ty.encode ((s.taken m).defaultNow o (ref.inst.val + k)), State.clsCode o.info.cls)) ∧
      s.ObjsBut [(.sconceRequests, 0)] t ∧ s.RegsBut [] t)

/-- Responses, events, acknowledgements and the end of claims (15_sconce_dictionary.md R410, 15_sconce_dictionary.md
R413, 15_sconce_dictionary.md R418). -/
def Obligations.MastersServed : Prop :=
  (∀ (s : State) (m : Master) (q : Message), s.serves m = true →
    s.lan.msgs.find? (fun q => q.master == m && s.complete q) = some q → q.after = [] →
    s.lan.masters[m].issued < State.lastCounter →
    ∃ t, exec (.responseSent m) s = .next t ∧
      t.sent = s.sent ++ [.response m q.addr (s.lan.masters[m].issued + 1) q.ref q.txn q.results] ∧
      t.lan.msgs = s.lan.msgs.filter (fun x => x.id != q.id) ∧ t.lan.masters[m].issued = s.lan.masters[m].issued + 1 ∧
      s.ObjsBut [] t ∧ s.RegsBut [] t) ∧
  (∀ (s : State) (m : Master) (q : Message) (k : Master) (key : List Byte), s.serves m = true →
    s.lan.msgs.find? (fun q => q.master == m && s.complete q) = some q → q.after = [.storeKey k key] →
    s.lan.masters[m].issued < State.lastCounter → s.nvmUp = true →
    s.nvm.keys.length = 3 →
    ∃ t, exec (.responseSent m) s = .next t ∧
      t.sent = s.sent ++ [.response m q.addr (s.lan.masters[m].issued + 1) q.ref q.txn q.results] ∧
      t.nvm.keys[k.val]? = some (some key)) ∧
  (∀ (s : State) (m : Master) (q : Message) (c : Nat), s.serves m = true →
    s.lan.msgs.find? (fun q => q.master == m && s.complete q) = some q → q.after = [.restartLantern c] →
    s.lan.masters[m].issued < State.lastCounter →
    ∃ t, exec (.responseSent m) s = .next t ∧
      t.sent = s.sent ++ [.response m q.addr (s.lan.masters[m].issued + 1) q.ref q.txn q.results] ∧
      t.boot.lanternUp = false ∧ t.boot.cause = c ∧ t.boot.dieReset = s.boot.dieReset) ∧
  (∀ (s : State) (m : Master) (q : Message), s.serves m = true →
    s.lan.msgs.find? (fun q => q.master == m && s.complete q) = some q → q.after = [.resetDevice] →
    s.lan.masters[m].issued < State.lastCounter →
    ∃ t, exec (.responseSent m) s = .next t ∧
      t.sent = s.sent ++ [.response m q.addr (s.lan.masters[m].issued + 1) q.ref q.txn q.results] ∧
      t.boot.lanternUp = false ∧ t.boot.dieReset = true ∧ t.boot.cause = 2 ∧ t.wick = s.wick) ∧
  (∀ (s : State) (m : Master) (a : Nat) (es : List EventRec) (e : EventRec), s.sendsEvents m = true →
    s.lan.masters[m].addr = some a → s.lan.masters[m].issued < State.lastCounter →
    State.fitEvents 255 8136 (s.lan.masters[m].events.filter fun e => s.lan.masters[m].sentUpTo < e.seq) = es →
    es.getLast? = some e →
    ∃ t, exec (.eventSend m) s = .next t ∧ t.sent = s.sent ++ [.events m a (s.lan.masters[m].issued + 1) es] ∧
      t.lan.masters[m].sentUpTo = max s.lan.masters[m].sentUpTo e.seq ∧ t.lan.masters[m].lastSend = s.now) ∧
  (∀ (s : State) (m : Master) (a : Nat) (es : List EventRec) (e : EventRec), s.sendsEvents m = true →
    s.lan.masters[m].lastSend + 500 * Tm.ms ≤ s.now →
    s.lan.masters[m].addr = some a → s.lan.masters[m].issued < State.lastCounter →
    State.fitEvents 255 8136 (s.lan.masters[m].events.filter fun e => e.seq ≤ s.lan.masters[m].sentUpTo) = es →
    es.getLast? = some e →
    ∃ t, exec (.eventResend m) s = .next t ∧ t.sent = s.sent ++ [.events m a (s.lan.masters[m].issued + 1) es] ∧
      t.lan.masters[m].events = s.lan.masters[m].events ∧ t.lan.masters[m].lastSend = s.now) ∧
  (∀ (s : State) (m : Master) (r : Nat), s.serves m = true →
    ∃ t, exec (.eventAcknowledgement m r) s = .next t ∧
      t.lan.masters[m].events = s.lan.masters[m].events.filter (fun e => r < e.seq)) ∧
  (∀ (s : State) (m : Master), s.boot.lanternUp = true →
    s.lan.masters[m].lastAccepted + s.n .sconceClaimTimeout 0 * Tm.s ≤ s.now →
    ∃ t, exec (.claimTimeout m) s = .next t ∧ t.lan.claims = s.lan.claims.filter (fun c => c.master != m)) ∧
  (∀ (s : State) (m : Master) (x : Nat), s.Admits m .sconceClaimBreak 0 (beBytes 1 x) →
    ∃ t, exec (.claimBreak m x) s = .next t ∧ m = 0 ∧ s.Answered t m (some Abort.ok) ∧
      t.lan.claims = s.lan.claims.filter (fun c => c.master.val != x % 256))

/-- Keys, images, firmware, resets, attestation and the OMCI relay (15_sconce_dictionary.md R420,
15_sconce_dictionary.md R421, 15_sconce_dictionary.md R423, 13_ciphers_keys_and_attestation.md R368,
13_ciphers_keys_and_attestation.md R369). -/
def Obligations.KeysImagesAndResets : Prop :=
  (∀ (s : State) (m k : Master) (key : List Byte), s.NoPacket → s.Admits m .masterKey k key → beNat key ≠ 0 →
    s.n .powerFailState 0 = 0 →
    ∃ t q, exec (.masterKeyWrite m k key) s = .next t ∧ s.Answered t m (some Abort.ok) ∧ t.lan.msgs = s.lan.msgs ++ [q] ∧
      q.after = [.storeKey k key] ∧ t.nvm.keys = s.nvm.keys) ∧
  (∀ (s : State) (m : Master) (key : List Byte), s.NoPacket → s.Admits m .commissionKey 0 key → s.n .powerFailState 0 = 0 →
    ∃ t, exec (.commissionKeyWrite m key) s = .next t ∧ s.Answered t m (some Abort.ok) ∧
      (s.nvmUp = true → t.nvm.commissionKey = key)) ∧
  (∀ (s : State) (m : Master) (k : Fin 2) (bs : List Byte), s.NoPacket → s.Admits m .imageUpload k bs →
    (s.upload k).owner = none → s.n .imageStatus k ≠ 2 →
    ∃ t, exec (.imageUpload m k 0 bs) s = .next t ∧ s.Answered t m (some Abort.ok) ∧ t.upload k = ⟨some m, bs⟩ ∧
      t.n .imageStatus k = 1) ∧
  (∀ (s : State) (m : Master) (k : Fin 2) (bs : List Byte), s.NoPacket → s.Admits m .imageUpload k bs →
    (s.upload k).owner = some m → s.n .imageStatus k ≠ 2 → (s.upload k).bytes ≠ [] →
    (s.upload k).bytes.length + bs.length ≤ State.imageMax →
    ∃ t, exec (.imageUpload m k (s.upload k).bytes.length bs) s = .next t ∧ s.Answered t m (some Abort.ok) ∧
      t.upload k = ⟨some m, (s.upload k).bytes ++ bs⟩) ∧
  (∀ (s : State) (m : Master) (k : Fin 2), s.NoPacket → s.Admits m .imageCommit k (beBytes 1 1) →
    s.n .powerFailState 0 = 0 → (s.upload k).owner = some m → s.n .imageStatus k ≠ 2 →
    ∃ t, exec (.imageCommit m k 1) s = .next t ∧ s.Answered t m (some Abort.ok) ∧ t.n .imageStatus k = 2) ∧
  (∀ (s : State), s.boot.lanternUp = true → s.nvmUp = true → s.n .imageStatus 0 = 2 →
    ∃ t, exec (.imageStored 0) s = .next t ∧
      (s.firmwareOk (s.upload 0).bytes = true → t.n .imageStatus 0 = 3 ∧
        t.nvm.slots = s.nvm.slots.set s.storeSlot (s.upload 0).bytes ∧ (t.upload 0).owner = none) ∧
      (s.firmwareOk (s.upload 0).bytes = false → t.n .imageStatus 0 = 4 ∧ t.nvm = s.nvm)) ∧
  (∀ (s : State), s.boot.lanternUp = true → s.nvmUp = true → s.n .imageStatus 1 = 2 →
    let bs := (s.upload 1).bytes
    let good := s.commissionOk bs && (s.nvm.commission.isEmpty ||
      decide (State.imgRollback s.nvm.commission ≤ State.imgRollback bs))
    ∃ t, exec (.imageStored 1) s = .next t ∧ (t.upload 1).owner = none ∧
      (good = true → t.n .imageStatus 1 = 3 ∧ t.nvm = { s.nvm with commission := bs }) ∧
      (good = false → t.n .imageStatus 1 = 4 ∧ t.nvm = s.nvm)) ∧
  (∀ (s : State) (m : Master) (t0 : Term) (bs : List Byte), s.NoPacket → s.Admits m .omciSend t0 bs →
    State.omciFormed (bs.drop 1) = true → (s.taken m).inServiceAny t0 = true → s.n .terminalSnuffPhase t0 = 0 →
    (s.omci t0).length < 4 →
    ∃ t, exec (.omciSend m t0 bs) s = .next t ∧ s.Answered t m (some Abort.ok) ∧
      t.omci t0 = s.omci t0 ++ [⟨State.byteAt bs 0, m.val, bs.drop 1⟩]) ∧
  (∀ (s : State) (m : Master) (nonce : List Byte), s.NoPacket → s.Admits m .attestRequest m.val nonce →
    s.lan.sigNext < State.sigCount →
    ∃ t, exec (.attestRequest m m nonce) s = .next t ∧ s.Answered t m (some Abort.ok) ∧ t.n .attestStatus m = 1 ∧
      t.lan.attest = s.lan.attest.filter (fun q => q.inst != m) ++ [⟨m, nonce⟩]) ∧
  (∀ (s : State) (m : Master) (k : Fin 3) (nonce : List Byte), s.NoPacket → s.Admits m .attestRequest k.val nonce →
    k ≠ m → ∃ t, exec (.attestRequest m k nonce) s = .next t ∧ s.Answered t m (some Abort.claimed) ∧
      t.lan.attest = s.lan.attest) ∧
  (∀ (s : State) (q : AttestReq) (l : List AttestReq), s.lan.attest = q :: l → s.boot.lanternUp = true →
    s.nvmUp = true → s.lan.signedAt = none → s.n .powerFailState 0 = 0 → s.lan.sigNext < State.sigCount → s.lan.sigNext ≤ s.nvm.sigLimit →
    ∃ t, exec (.attestReportSigned q.inst) s = .next t ∧ t.n .attestStatus q.inst = 2 ∧
      t.lan.sigNext = s.lan.sigNext + 1 ∧ t.lan.signedAt = some s.now ∧ t.lan.sigNext ≤ t.nvm.sigLimit) ∧
  (∀ (s : State) (m : Master), s.NoPacket → s.Admits m .firmwareRollbackCommit 0 (beBytes 1 1) →
    ∃ t, exec (.firmwareRollbackCommit m 1) s = .next t ∧ s.Answered t m (some Abort.ok) ∧
      (s.nvmUp = true → t.nvm.rollbackFloor = max s.nvm.rollbackFloor (s.n .firmwareVersion 0))) ∧
  (∀ (s : State) (m : Master), s.NoPacket → s.Admits m .warmReset 0 (beBytes 1 1) → s.n .powerFailState 0 = 0 →
    ∃ t q, exec (.warmResetLantern m) s = .next t ∧ s.Answered t m (some Abort.ok) ∧ t.lan.msgs = s.lan.msgs ++ [q] ∧
      q.after = [.restartLantern 3]) ∧
  (∀ (s : State) (m : Master), s.NoPacket → s.Admits m .warmReset 0 (beBytes 1 2) → s.n .powerFailState 0 = 0 →
    ∃ t q, exec (.warmResetDevice m) s = .next t ∧ s.Answered t m (some Abort.ok) ∧ t.lan.msgs = s.lan.msgs ++ [q] ∧
      q.after = [.resetDevice]) ∧
  (∀ (s : State) (m : Master), s.NoPacket → s.Admits m .firmwareActivate 0 (beBytes 1 1) → s.n .powerFailState 0 = 0 →
    ∃ t q, exec (.firmwareActivate m 1) s = .next t ∧ t.lan.msgs = s.lan.msgs ++ [q] ∧
      (s.firmwareOk (s.slotImage (1 - s.boot.slot)) = true → s.Answered t m (some Abort.ok) ∧
        q.after = [.restartLantern 5] ∧
        (s.nvmUp = true → t.nvm.pref = 1 - s.boot.slot ∧ t.nvm.trial = true ∧ t.nvm.tries = 0)) ∧
      (s.firmwareOk (s.slotImage (1 - s.boot.slot)) = false → s.Answered t m (some Abort.range) ∧ q.after = [])) ∧
  (∀ (s : State) (m : Master), s.NoPacket → s.Admits m .firmwareConfirm 0 (beBytes 1 1) →
    ∃ t, exec (.firmwareConfirm m 1) s = .next t ∧ s.Answered t m (some Abort.ok) ∧
      (s.nvmUp = true → t.nvm.trial = false))

/-- The end of a trial, and the raw register window (16_register_interface_and_ucie.md R432,
16_register_interface_and_ucie.md R434, 18_startup_reset_and_power_states.md R472). -/
def Obligations.TrialsAndRawWindow : Prop :=
  (∀ (s : State) (at_ : Time), s.boot.readyAt = some at_ → s.boot.lanternUp = true → s.boot.recovery = false →
    s.nvm.trial = true → s.n .firmwareTrialTime 0 ≠ 0 →
    max at_ s.boot.lanternStart + s.n .firmwareTrialTime 0 * Tm.s ≤ s.now →
    ∃ t, exec .firmwareTrialExpiry s = .next t ∧ (s.nvmUp = true → t.nvm.tries = 2) ∧ t.nvm.trial = true ∧
      t.boot.lanternUp = false ∧ t.boot.cause = 7) ∧
  (∀ (s : State) (m : Master) (r : Fin 16777216), s.Takes m → s.NoPacket → s.exists? .rawRegister r = true →
    (s.fabricRuns = true → ∃ t, exec (.rawRegisterRead m r) s = .next t ∧
      s.Returned t m (beBytes 4 ((s.taken m).regRead (4 * r)).2) ∧ t.objs = ((s.taken m).regRead (4 * r)).1.objs ∧
      t.regs = ((s.taken m).regRead (4 * r)).1.regs) ∧
    (s.fabricRuns = false → ∃ t, exec (.rawRegisterRead m r) s = .next t ∧ s.Returned t m (beBytes 4 0) ∧
      s.ObjsBut [(.sconceRequests, 0)] t ∧ s.RegsBut [] t)) ∧
  (∀ (s u : State) (m : Master) (r : Fin 16777216) (v : Nat) (hw : HwUpdate) (a : RegStatus),
    s.Admits m .rawRegister r (beBytes 4 v) → State.rawRefused (4 * r) = false →
    ((carriedKeys (4 * r)).any fun k => s.claimedBy m (k / 16777216) (k % 16777216)) = false → s.fabricRuns = true →
    (s.taken m).regWrite (4 * r) (State.rawMasked (4 * r) (beNat (beBytes 4 v))) ⟨hw, some m⟩ = (u, a) →
    u.lan.msgs = s.lan.msgs →
    ∃ t, exec (.rawRegisterWrite m r v hw) s = .next t ∧ s.Answered t m (some (State.RegStatus.code a)) ∧
      t.objs = u.objs ∧ t.regs = u.regs) ∧
  (∀ (s : State) (m : Master) (r : Fin 16777216) (v : Nat) (hw : HwUpdate), s.Admits m .rawRegister r (beBytes 4 v) →
    (State.rawRefused (4 * r) = true → ∃ t, exec (.rawRegisterWrite m r v hw) s = .next t ∧
      s.Answered t m (some Abort.readOnly) ∧ s.ObjsBut [(.sconceRequests, 0)] t ∧ s.RegsBut [] t) ∧
    (State.rawRefused (4 * r) = false →
      ((carriedKeys (4 * r)).any fun k => s.claimedBy m (k / 16777216) (k % 16777216)) = true →
      ∃ t, exec (.rawRegisterWrite m r v hw) s = .next t ∧ s.Answered t m (some Abort.claimed) ∧
        s.ObjsBut [(.sconceRequests, 0)] t ∧ s.RegsBut [] t))

/-- Frame, Second and Epoch boundaries, and entry to Run (00_scope.md R14, 00_scope.md R15, 00_scope.md R16,
01_trees_channels_and_lanes.md R39, 05_grant_engine.md R163, 06_time_and_holdover.md R203,
17_package_pins_and_electrical.md R465, 19_counters_and_lifetime_records.md R502, 19_counters_and_lifetime_records.md
R506). -/
def Obligations.BoundariesServed : Prop :=
  (∀ (s : State), s.wickRuns = true → s.clk.step = none →
    ∃ t, exec .frameBoundary s = .next t ∧ t.clk.frameAt = some s.nextBoundary ∧
      t.casc = s.casc ∧ t.cages = s.cages ∧ t.pending = s.pending ∧
      (s.fabricRuns = false → t.wick = s.nextBoundary ∧ t.stage = s.stage ∧ t.lan.writes = s.lan.writes) ∧
      (s.fabricRuns = true → ∀ c ∈ t.stage.waiting, c.cls ≤ 1 → s.now ≤ c.at_) ∧
      (s.fabricRuns = true → s.takesWrites = true →
        ∀ w ∈ t.lan.writes, w ∈ s.lan.writes ∧ w.cls ≠ 1 ∧ (w.cls = 2 → s.now ≤ w.at_))) ∧
  (∀ (s : State) (x : Vector Int 9), s.wickRuns = true → s.wick % Tm.s = 0 → s.clk.secondAt ≠ some s.wick →
    s.fabricRuns = true → s.frameServed = true →
    ∃ t, exec (.secondBoundary x) s = .next t ∧ t.lineRun = [] ∧ t.casc = s.casc ∧ t.lan.writes = s.lan.writes ∧
      (t.n .supplyVoltage 0 = x[0].toNat ∧ t.n .supplyCurrent 0 = x[1].toNat ∧ t.n .supplyPower 0 = x[2].toNat ∧
        t.num .caseTemperature 0 = x[3] ∧ t.num .oscCaseTemperature 0 = x[8] ∧
        ∀ k : Fin 4, t.num .dieTemperature k = x[4 + k.val]) ∧
      (∀ k : Fin 2, s.on .ppsOutEnable k = true → s.on .ppsOutSquelch k = false → s.bit Reg.wickCtrl 2 = false →
        .pulse 3 k ((s.wick : Int) - State.psTime (s.num .ppsOutAdvance k)).toNat
          (((s.wick : Int) - State.psTime (s.num .ppsOutAdvance k)).toNat + s.n .ppsOutWidth k * Tm.us) true ∈ t.sent) ∧
      (∀ c : Fin 256, s.on .unitSecondLatch (c.val / 16) = true → t.n .counterSecondValue c = t.n .counterValue c) ∧
      (∀ l : Fin 64, t.oct .lineSecond l = beBytes 8 (s.second - 1) ++ beBytes 1 (s.n .wickStepCount 0) ++ beBytes 3 0 ++
        (List.range 4).flatMap fun k => beBytes 4 (s.lineCount l k))) ∧
  (∀ (s : State) (x : Vector Int 9), s.wickRuns = true → s.wick % Tm.s = 0 → s.clk.secondAt ≠ some s.wick →
    (s.fabricRuns = true → s.frameServed = false →
      ∃ t, exec (.secondBoundary x) s = .next t ∧ t.lineRun = [] ∧ t.casc = s.casc) ∧
    (s.fabricRuns = false → ∃ t, exec (.secondBoundary x) s = .next t ∧ t.clk.secondAt = some s.wick ∧
      t.wick = s.wick ∧ t.sent = s.sent ∧ t.stage = s.stage ∧ t.lan.writes = s.lan.writes ∧
      t.n .supplyVoltage 0 = x[0].toNat ∧ t.n .supplyCurrent 0 = x[1].toNat ∧ t.n .supplyPower 0 = x[2].toNat ∧
      t.num .caseTemperature 0 = x[3] ∧ t.num .oscCaseTemperature 0 = x[8] ∧
      ∀ k : Fin 4, t.num .dieTemperature k = x[4 + k.val])) ∧
  (∀ (s : State) (ch : Chan) (e : Nat × Nat) (a n : Nat), s.fabricRuns = true → s.atFrame = true → s.sending ch = true →
    s.epochOf ch s.frameNo = some e ∨
      (s.epochOf ch s.frameNo = none ∧ (s.gch ch).epochs.getLast? = some (a, n) ∧ a + n = e.1 ∧
        s.n .channelEpochFrames ch = e.2 ∧ s.on .channelEpochSync ch = false) →
    (e.1 = s.frameNo → 0 < e.2 → ∃ t, exec (.epochStart ch) s = .next t ∧ t.n .channelEpochIndex ch = 0 ∧
      (s.takesWrites = true → ∀ w ∈ t.lan.writes, w ∈ s.lan.writes ∧
        (w.cls = 3 → w.chan = some ch.val → s.now ≤ w.at_)) ∧
      ∀ c ∈ t.stage.waiting, c.cls = 2 → c.chan = ch.val → s.now ≤ c.at_) ∧
    (e.1 < s.frameNo → s.frameNo < e.1 + e.2 → ∃ t, exec (.epochStart ch) s = .next t ∧ t.lan = s.lan ∧
      t.stage = s.stage ∧ s.ObjsBut [(.epochAdjustments, ch.val)] t)) ∧
  (∀ (s : State) (ch : Chan), s.fabricRuns = true → s.laneState ch = 1 → s.atFrame = true →
    (s.lane ch).runFrame ≤ s.frameNo →
    ∃ t, exec (.laneRunEntry ch) s = .next t ∧ t.laneState ch = 2 ∧ t.bit (Reg.ponLaneStatus ch) 0 = true ∧
      t.bit (Reg.ponLaneStatus ch) 1 = true ∧ (t.lane ch).fromFault = false) ∧
  (∀ (s : State) (x : Vector Int 9) (ch : Chan),
    (s.wickRuns = false → exec .frameBoundary s = .next s) ∧
    (s.wick % Tm.s ≠ 0 ∨ s.clk.secondAt = some s.wick → exec (.secondBoundary x) s = .next s) ∧
    (s.atFrame = false ∨ s.sending ch = false → exec (.epochStart ch) s = .next s) ∧
    (s.laneState ch ≠ 1 ∨ s.frameNo < (s.lane ch).runFrame → exec (.laneRunEntry ch) s = .next s))

/-- Register writes, at once and staged, lock bits and records (16_register_interface_and_ucie.md R426,
16_register_interface_and_ucie.md R427, 16_register_interface_and_ucie.md R428, 16_register_interface_and_ucie.md
R429, 16_register_interface_and_ucie.md R430, 16_register_interface_and_ucie.md R431,
16_register_interface_and_ucie.md R442). -/
def Obligations.RegisterWrites : Prop :=
  (∀ (s : State) (v : Nat) (hw : HwUpdate) (a : Nat), s.reach = true → (∀ c ∈ s.stage.waiting, c.cls ≠ 0) →
    a = Reg.wickStepLo ∨ a = 4 →
    ∃ t, exec (.registerWrite a v false hw) s = .next t ∧ t.reg a = v % 4294967296 ∧ s.ObjsBut [] t ∧ s.RegsBut [a] t) ∧
  (∀ (s : State) (v : Nat) (hw : HwUpdate), s.reach = true → (∀ c ∈ s.stage.waiting, c.cls ≠ 0) →
    ∃ t, exec (.registerWrite Reg.ucieStatus v false hw) s = .next t ∧ s.ObjsBut [] t ∧ s.RegsBut [Reg.ucieStatus] t ∧
      ∀ j ∈ [8, 9, 10], t.bit Reg.ucieStatus j = ((s.bit Reg.ucieStatus j && !v.testBit j) ||
        (hw.mask.getLsbD j && hw.value.getLsbD j))) ∧
  (∀ (s : State) (v : Nat) (b : BitVec 32) (ch : Chan), s.reach = true → (∀ c ∈ s.stage.waiting, c.cls ≠ 0) →
    v / 16 % 4 = s.n .channelLoopMode ch →
    ∃ t, exec (.registerWrite (Reg.ponLaneCtrl ch) v false ⟨1, b⟩) s = .next t ∧
      t.bit (Reg.ponLaneCtrl ch) 0 = b.getLsbD 0 ∧ t.bit (Reg.ponLaneCtrl ch) 1 = v.testBit 1 ∧
      t.n .regWriteLost 0 = Reg.ponLaneCtrl ch + 2147483648 +
        (if s.n .regWriteLost 0 / 2147483648 % 2 = 1 then 1073741824 else 0) ∧
      s.Raised t 3 .regWriteLost 0 (beBytes 4 Abort.superseded ++ beBytes 4 (Reg.ponLaneCtrl ch))) ∧
  (∀ (s : State) (v a : Nat) (hw : HwUpdate), s.reach = true → (∀ c ∈ s.stage.waiting, c.cls ≠ 0) →
    a = 0 ∨ regAt a = none →
    ∃ t, exec (.registerWrite a v false hw) s = .next t ∧ s.ObjsBut [] t ∧ s.RegsBut [] t) ∧
  (∀ (s : State) (a v : Nat) (hw : HwUpdate), s.reach = true →
    ∃ t, exec (.registerWrite a v true hw) s = .next t ∧ s.ObjsBut [] t ∧ s.RegsBut [] t ∧
      t.stage = { s.stage with openSet := s.stage.openSet.map fun ws =>
        if ws.length < 4096 then ws ++ [(a, v % 4294967296)] else ws }) ∧
  (∀ (s : State), s.reach = true → (∀ c ∈ s.stage.waiting, c.cls ≠ 0) →
    ∃ t, exec .stageOpen s = .next t ∧ t.stage = { s.stage with openSet := some (s.stage.openSet.getD []) } ∧
      s.ObjsBut [] t ∧ s.RegsBut [] t) ∧
  (∀ (s : State), s.reach = true → (∀ c ∈ s.stage.waiting, c.cls ≠ 0) →
    ∃ t, exec .stageDiscard s = .next t ∧ t.stage = { s.stage with openSet := s.stage.openSet.map fun _ => [] } ∧
      s.ObjsBut [] t ∧ s.RegsBut [] t) ∧
  (∀ (s : State) (c : Fin 4) (ch : Chan) (ws : List (Nat × Nat)), s.reach = true → s.stage.openSet = some ws →
    (∀ c ∈ s.stage.waiting, c.cls ≠ 0) →
    (s.stage.waiting.length < 4 → c ≠ 0 → ∃ t, exec (.commitGo c ch) s = .next t ∧ t.stage.openSet = none ∧
      t.stage.waiting = s.stage.waiting ++ [⟨c, ch, ws, s.now⟩] ∧ s.ObjsBut [] t ∧ s.RegsBut [Reg.glbCommit] t) ∧
    (s.stage.waiting.length < 4 → c = 0 → (∀ w ∈ ws, w.1 = 4) → ∃ t, exec (.commitGo c ch) s = .next t ∧
      t.stage.openSet = none ∧ t.stage.waiting = s.stage.waiting ∧ s.ObjsBut [] t ∧ s.RegsBut [Reg.glbCommit, 4] t ∧
      ∀ w, ws.getLast? = some w → t.reg 4 = w.2 % 4294967296) ∧
    (4 ≤ s.stage.waiting.length → ∃ t, exec (.commitGo c ch) s = .next t ∧ t.stage = s.stage ∧ s.ObjsBut [] t)) ∧
  (∀ (s : State) (k : Fin 4), s.reach = true → (∀ c ∈ s.stage.waiting, c.cls ≠ 0) →
    ∃ t, exec (.recordClear k) s = .next t ∧
      t.n .regLockViolation 0 = (if k.val % 2 = 1 then 0 else s.n .regLockViolation 0) ∧
      t.n .regWriteLost 0 = (if 2 ≤ k.val then 0 else s.n .regWriteLost 0) ∧
      s.ObjsBut [(.regLockViolation, 0), (.regWriteLost, 0)] t ∧ s.RegsBut [] t) ∧
  (∀ (s : State) (b : BitVec 16) (j : Nat), s.reach = true → (∀ c ∈ s.stage.waiting, c.cls ≠ 0) → j < 16 →
    ∃ t, exec (.glbLockSet b) s = .next t ∧ t.bit Reg.glbLock j = (b.getLsbD j || s.bit Reg.glbLock j) ∧
      s.ObjsBut [] t ∧ s.RegsBut [Reg.glbLock] t) ∧
  (∀ (s : State) (w : BitVec 32) (b : Fin 16), s.reach = true → (∀ c ∈ s.stage.waiting, c.cls ≠ 0) →
    ∃ t, exec (.glbSnapshotWrite w) s = .next t ∧ s.ObjsBut [(.counterSnapshot, 0)] t ∧ s.RegsBut [Reg.glbSnapshot] t ∧
      (w.getLsbD (16 + b.val) = true → tabFind t.latched b.val =
        if w.getLsbD b.val = false then none
        else if s.snapWord / 2 ^ b.val % 2 = 1 then tabFind s.latched b.val else some ⟨s.objs, s.regs⟩) ∧
      (w.getLsbD (16 + b.val) = false → s.snapWord / 2 ^ b.val % 2 = 1 →
        tabFind t.latched b.val = tabFind s.latched b.val)) ∧
  (∀ (s : State) (a v : Nat) (st : Bool) (hw : HwUpdate) (c k : Fin 4) (ch : Chan) (b : BitVec 16) (w : BitVec 32),
    s.reach = false →
    exec (.registerWrite a v st hw) s = .next s ∧ exec .stageOpen s = .next s ∧ exec .stageDiscard s = .next s ∧
      exec (.commitGo c ch) s = .next s ∧ exec (.recordClear k) s = .next s ∧ exec (.glbLockSet b) s = .next s ∧
      exec (.glbSnapshotWrite w) s = .next s)

/-- Register reads that latch a second word or take a queue entry (02_downstream_framing_and_bonding.md R72,
06_time_and_holdover.md R212, 13_ciphers_keys_and_attestation.md R376, 19_counters_and_lifetime_records.md R500). -/
def Obligations.RegisterReadLatches : Prop :=
  (∀ (s : State), s.reach = true →
    ∃ t, exec .wickNsLoRead s = .next t ∧ t.reg Reg.wickNsHi = s.wick / 18446744073709551616 % 4294967296 ∧
      t.reg Reg.wickFrac = s.wick % 4294967296 ∧ s.ObjsBut [] t ∧ s.RegsBut [Reg.wickNsHi, Reg.wickFrac] t) ∧
  (∀ (s : State) (ch : Chan), s.reach = true →
    ∃ t, exec (.tcDsSfcLoRead ch) s = .next t ∧
      t.reg (Reg.tcDsSfcHi ch) = s.superframe ch / 4294967296 % 524288 ∧ s.ObjsBut [] t ∧
      s.RegsBut [Reg.tcDsSfcHi ch] t) ∧
  (∀ (s : State), s.reach = true →
    ∃ t, exec .ciphKeyUsageLoRead s = .next t ∧ t.reg Reg.ciphKeyUsageHi = s.selUsage / 4294967296 % 4294967296 ∧
      s.ObjsBut [] t ∧ s.RegsBut [Reg.ciphKeyUsageHi] t) ∧
  (∀ (s : State) (c : Fin 256), s.reach = true →
    ∃ t, exec (.cntValLoRead c) s = .next t ∧
      t.reg (Reg.cntValHi c) % 65536 = (s.counterView 14).n .counterValue c / 4294967296 % 65536 ∧
      s.ObjsBut [] t ∧ s.RegsBut [Reg.cntValHi c] t) ∧
  (∀ (s : State) (p : Port), s.reach = true →
    ∃ t, exec (.tsTxEntry3Read p) s = .next t ∧ t.tsQueue p = (s.tsQueue p).tail ∧
      t.n .tsQueueLevel p = (s.tsQueue p).tail.length ∧ (∀ q : Port, q ≠ p → t.tsQueue q = s.tsQueue q) ∧
      s.ObjsBut [(.tsQueueLevel, p.val)] t ∧ s.RegsBut [] t) ∧
  (∀ (s : State) (k : Trig), s.reach = true →
    ∃ t, exec (.captInfoRead k) s = .next t ∧ t.captures k = (s.captures k).tail ∧
      (∀ j : Trig, j ≠ k → t.captures j = s.captures j) ∧ s.RegsBut [] t) ∧
  (∀ (s : State) (ch : Chan) (c : Fin 256) (p : Port) (k : Trig), s.reach = false →
    exec .wickNsLoRead s = .next s ∧ exec (.tcDsSfcLoRead ch) s = .next s ∧ exec .ciphKeyUsageLoRead s = .next s ∧
      exec (.cntValLoRead c) s = .next s ∧ exec (.tsTxEntry3Read p) s = .next s ∧ exec (.captInfoRead k) s = .next s)

/-- Counters started, stopped, loaded and snapshot, and their overflow (19_counters_and_lifetime_records.md R496,
19_counters_and_lifetime_records.md R497, 19_counters_and_lifetime_records.md R498,
19_counters_and_lifetime_records.md R501, 19_counters_and_lifetime_records.md R514). -/
def Obligations.CountersStartedAndRead : Prop :=
  (∀ (s : State) (m : Master) (u : Fin 16) (w : BitVec 16), s.Admits m .unitStart u (beBytes 2 w.toNat) →
    ∃ t, exec (.unitStart m u w) s = .next t ∧ s.Answered t m (some Abort.ok) ∧
      ∀ c : Fin 256, t.n .counterEnable c =
        if c.val / 16 = u.val ∧ w.getLsbD (c.val % 16) then 1 else s.n .counterEnable c) ∧
  (∀ (s : State) (m : Master) (u : Fin 16) (w : BitVec 16), s.Admits m .unitStop u (beBytes 2 w.toNat) →
    ∃ t, exec (.unitStop m u w) s = .next t ∧ s.Answered t m (some Abort.ok) ∧
      ∀ c : Fin 256, t.n .counterEnable c =
        if c.val / 16 = u.val ∧ w.getLsbD (c.val % 16) then 0 else s.n .counterEnable c) ∧
  (∀ (s : State) (m : Master) (c : Fin 256) (v inc : Nat), v + inc < 2 ^ 48 → s.Admits m .counterValue c (beBytes 8 v) →
    ∃ t, exec (.counterValueLoad m c v inc) s = .next t ∧ s.Answered t m (some Abort.ok) ∧
      t.n .counterValue c = (if s.on .counterEnable c then v + inc else v) ∧
      s.ObjsBut [(.counterValue, c.val), (.sconceRequests, 0)] t) ∧
  (∀ (s : State) (m : Master) (c : Fin 256) (v inc : Nat), v < 2 ^ 48 → 2 ^ 48 ≤ v + inc → v + inc < 2 ^ 49 →
    s.Admits m .counterValue c (beBytes 8 v) → s.on .counterEnable c = true → s.on .counterMode c = true →
    ∃ t, exec (.counterValueLoad m c v inc) s = .next t ∧ s.Answered t m (some Abort.ok) ∧
      t.n .counterValue c = v + inc - 2 ^ 48 ∧ t.n .counterOverflow c = 1) ∧
  (∀ (s : State) (c : Fin 256) (k : Nat), s.on .counterEnable c = true → s.bit Reg.cntGlobalCtrl 0 = true →
    s.boot.glim = false → 2 ^ 48 ≤ s.n .counterValue c + k → s.on .counterMode c = true →
    ∃ t, exec (.counterOverflow c k) s = .next t ∧ t.n .counterValue c = (s.n .counterValue c + k - 2 ^ 48) % 2 ^ 48 ∧
      t.n .counterOverflow c = 1 ∧ s.ObjsBut [(.counterValue, c.val), (.counterOverflow, c.val)] t ∧ s.RegsBut [] t ∧
      t.lan = s.lan ∧ t.ucie = s.ucie) ∧
  (∀ (s : State) (c : Fin 256) (k : Nat), s.on .counterEnable c = true → s.bit Reg.cntGlobalCtrl 0 = true →
    s.boot.glim = false → 2 ^ 48 ≤ s.n .counterValue c + k → s.on .counterMode c = false →
    ∃ t, exec (.counterOverflow c k) s = .next t ∧
      t.n .counterValue c = (s.n .counterPreload c + (s.n .counterValue c + k - 2 ^ 48)) % 2 ^ 48 ∧
      t.n .counterOverflow c = 1 ∧
      (s.limitFree (0x1000 + c.val / 16) (s.n .counterEventLimit 0) = true →
        s.Raised t 2 .counterValue c (beBytes 8 (2 ^ 48 - 1)) ∧ s.RegsBut [] t) ∧
      (s.limitFree (0x1000 + c.val / 16) (s.n .counterEventLimit 0) = false → t.lan = s.lan ∧ t.ucie = s.ucie ∧
        t.n .counterOverflowsSuppressed 0 = (s.n .counterOverflowsSuppressed 0 + 1) % 2 ^ 64 ∧
        s.ObjsBut [(.counterValue, c.val), (.counterOverflow, c.val), (.counterOverflowsSuppressed, 0)] t)) ∧
  (∀ (s : State) (c : Fin 256) (k : Nat), s.on .counterEnable c = false ∨ s.bit Reg.cntGlobalCtrl 0 = false ∨
    s.boot.glim = true ∨ s.n .counterValue c + k < 2 ^ 48 → exec (.counterOverflow c k) s = .next s) ∧
  (∀ (s : State) (m : Master) (c : Fin 256) (v : Fin 2), s.Admits m .counterOverflowClear c (beBytes 1 v) →
    ∃ t, exec (.counterOverflowClear m c v) s = .next t ∧ s.Answered t m (some Abort.ok) ∧
      t.n .counterOverflow c = (if v = 1 then 0 else s.n .counterOverflow c) ∧
      s.ObjsBut [(.counterOverflow, c.val), (.sconceRequests, 0)] t ∧ s.RegsBut [] t) ∧
  (∀ (s : State) (m : Master) (v : Fin 2), s.Admits m .counterSnapshot 0 (beBytes 1 v) →
    ∃ t, exec (.counterSnapshot m v) s = .next t ∧ s.Answered t m (some Abort.ok) ∧ t.n .counterSnapshot 0 = v ∧
      tabFind t.latched 14 = (if v = 0 then none else if s.n .counterSnapshot 0 % 2 = 1 then tabFind s.latched 14
        else some ⟨(s.taken m).objs, s.regs⟩))

/-- Saves of the lifetime record, and lane margins (17_package_pins_and_electrical.md R452,
19_counters_and_lifetime_records.md R510, 19_counters_and_lifetime_records.md R511). -/
def Obligations.LifetimeRecordSaved : Prop :=
  (∀ (s : State) (m : Master), s.Admits m .lifetimeSave 0 (beBytes 1 1) →
    (s.n .powerFailState 0 = 0 → (∀ x ∈ s.life.lastSave, x + 60 * Tm.s ≤ s.now) → s.recording = true →
      ∃ t, exec (.lifetimeSave m 1) s = .next t ∧ s.Answered t m (some Abort.ok) ∧
        t.life = { s.life with saving := some (s.life.saving.getD 4) }) ∧
    (s.n .powerFailState 0 ≠ 0 ∨ (∃ x ∈ s.life.lastSave, s.now < x + 60 * Tm.s) →
      ∃ t, exec (.lifetimeSave m 1) s = .next t ∧ s.Answered t m (some Abort.range) ∧ t.life = s.life) ∧
    (s.n .powerFailState 0 = 0 → (∀ x ∈ s.life.lastSave, x + 60 * Tm.s ≤ s.now) → s.recording = false →
      ∃ t, exec (.lifetimeSave m 1) s = .next t ∧ s.Answered t m (some Abort.ok) ∧ t.life = s.life)) ∧
  (∀ (s : State), s.wick % (900 * Tm.s) = 0 → (∀ x ∈ s.life.lastSave, x + 60 * Tm.s ≤ s.now) →
    (s.recording = true →
      ∃ t, exec .periodicSave s = .next t ∧ t.life = { s.life with saving := some (s.life.saving.getD 0) } ∧
        s.ObjsBut [] t ∧ s.RegsBut [] t) ∧
    (s.recording = false → exec .periodicSave s = .next s)) ∧
  (∀ (s : State), s.wick % (900 * Tm.s) ≠ 0 ∨ (∃ x ∈ s.life.lastSave, s.now < x + 60 * Tm.s) →
    exec .periodicSave s = .next s) ∧
  (∀ (s : State) (r : Nat), s.recording = true → s.nvmUp = true → s.life.saving = some r →
    s.nvm.copies.length = 2 → s.life.nextCopy < 2 →
    ∃ t c, exec .lifetimeRecordSaved s = .next t ∧ t.nvm.copies[s.life.nextCopy]? = some c ∧ c.2 = true ∧
      c.1.seq = s.life.rec_.seq + 1 ∧ c.1.reason = r ∧ c.1.written = s.wick ∧
      t.nvm.copies[1 - s.life.nextCopy]? = s.nvm.copies[1 - s.life.nextCopy]? ∧
      t.life.nextCopy = 1 - s.life.nextCopy ∧ t.life.saving = (if s.life.queued then some 1 else none) ∧
      t.life.lastSave = some s.now ∧
      t.n .powerFailState 0 = (if r = 1 ∧ s.n .powerFailState 0 = 1 then 2 else s.n .powerFailState 0)) ∧
  (∀ (s : State), s.recording = false ∨ s.nvmUp = false ∨ s.life.saving = none →
    exec .lifetimeRecordSaved s = .next s) ∧
  (∀ (s : State) (l : Fin 64) (e : Nat), s.recording = true → s.marginLane l = true →
    tabGet (fun _ => 0) s.life.measured l ≠ s.minute → 32 ≤ l.val ∨ tabGet (fun _ => 0) s.life.bright l = s.minute →
    ∃ t, exec (.laneMarginMeasurement l e) s = .next t ∧
      t.life.rec_.margin = State.binAdd s.life.rec_.margin (16 * l + min 15 (e * 16 / 65536)) 1 ∧
      tabGet (fun _ => 0) t.life.measured l = s.minute ∧ s.ObjsBut [] t ∧ s.RegsBut [] t) ∧
  (∀ (s : State) (l : Fin 64) (e : Nat), s.recording = false ∨ s.marginLane l = false ∨
    tabGet (fun _ => 0) s.life.measured l = s.minute ∨
    (l.val < 32 ∧ tabGet (fun _ => 0) s.life.bright l ≠ s.minute) →
    exec (.laneMarginMeasurement l e) s = .next s)

/-- The outcome of an expected burst, and the words of an upstream frame (03_upstream_bursts.md R80,
03_upstream_bursts.md R81, 03_upstream_bursts.md R85, 03_upstream_bursts.md R89, 03_upstream_bursts.md R91,
03_upstream_bursts.md R98, 19_counters_and_lifetime_records.md R505). -/
def Obligations.BurstsReceived : Prop :=
  (∀ (s : State) (ch : Chan) (k i : Nat) (p : Pipeline) (r : BurstRx) (f : Flight) (e : Expect),
    (s.gch ch).flight.find? (fun f => f.frame == k) = some f → f.expected[i]? = some e → i ∈ f.due →
    ∃ t n, exec (.burstReceived ch k i p r) s = .next t ∧
      (t.gch ch).flight.find? (fun f => f.frame == k) = some { f with due := f.due.erase i, carried := f.carried + n } ∧
      t.latched = s.latched ∧ t.clk = s.clk ∧ t.stage = s.stage) ∧
  (∀ (s : State) (ch : Chan) (k i : Nat) (p : Pipeline) (r : BurstRx) (f : Flight) (e : Expect),
    (s.gch ch).flight.find? (fun f => f.frame == k) = some f → f.expected[i]? = some e → i ∈ f.due →
    s.bit (Reg.ponLaneStatus ch) 1 = false →
    ∃ t, exec (.burstReceived ch k i p r) s = .next t ∧ t.n .upLaneUnlocked ch = (s.n .upLaneUnlocked ch + 1) % 2 ^ 64 ∧
      t.n .upBurstsGood ch = s.n .upBurstsGood ch ∧ t.n .upBurstsMissing ch = s.n .upBurstsMissing ch ∧
      t.n .terminalUpAbsent e.burst.term = s.n .terminalUpAbsent e.burst.term ∧
      (∀ g ∈ e.burst.grants, g.report = true → (t.dem g.alloc).lost = true) ∧ t.terms = s.terms) ∧
  (∀ (s : State) (ch : Chan) (k i : Nat) (p : Pipeline) (r : BurstRx) (f : Flight) (e : Expect),
    (s.gch ch).flight.find? (fun f => f.frame == k) = some f → f.expected[i]? = some e → i ∈ f.due →
    s.bit (Reg.ponLaneStatus ch) 1 = true →
    s.bit (Reg.tcUsCtrl ch) 0 = false ∨ (∀ h ∈ r.hits, e.prof.threshold < h.2 ∨ f.window < h.1.natAbs) →
    ∃ t, exec (.burstReceived ch k i p r) s = .next t ∧ t.n .upBurstsMissing ch = (s.n .upBurstsMissing ch + 1) % 2 ^ 64 ∧
      t.n .terminalUpAbsent e.burst.term = (s.n .terminalUpAbsent e.burst.term + 1) % 2 ^ 64 ∧
      t.n .upBurstsGood ch = s.n .upBurstsGood ch ∧ t.bit (Reg.tcUsStatus ch) 1 = true ∧
      (∀ g ∈ e.burst.grants, g.report = true → (t.dem g.alloc).lost = true)) ∧
  (∀ (s : State) (ch : Chan) (k i : Nat) (p : Pipeline) (r : BurstRx) (f : Flight) (e : Expect) (x : Int),
    (s.gch ch).flight.find? (fun f => f.frame == k) = some f → f.expected[i]? = some e → i ∈ f.due →
    s.bit (Reg.ponLaneStatus ch) 1 = true → s.bit (Reg.tcUsCtrl ch) 0 = true → s.searched ch f e r.hits = some x →
    (r.headerOk = false →
      ∃ t, exec (.burstReceived ch k i p r) s = .next t ∧ t.n .upHeaderErrors ch = (s.n .upHeaderErrors ch + 1) % 2 ^ 64 ∧
        t.n .terminalUpAbsent e.burst.term = (s.n .terminalUpAbsent e.burst.term + 1) % 2 ^ 64 ∧
        t.n .upBurstsGood ch = s.n .upBurstsGood ch ∧ t.bit (Reg.tcUsStatus ch) 2 = true ∧
        (∀ g ∈ e.burst.grants, g.report = true → (t.dem g.alloc).lost = true)) ∧
    (r.headerOk = true → s.gen ch ≠ 1 → r.onu ≠ s.n .terminalOnuIdAssigned e.burst.term →
      ∃ t, exec (.burstReceived ch k i p r) s = .next t ∧ t.n .upMisdirected ch = (s.n .upMisdirected ch + 1) % 2 ^ 64 ∧
        t.n .terminalUpAbsent e.burst.term = (s.n .terminalUpAbsent e.burst.term + 1) % 2 ^ 64 ∧
        t.n .upBurstsGood ch = s.n .upBurstsGood ch ∧ t.bit (Reg.tcUsStatus ch) 2 = true ∧
        (∀ g ∈ e.burst.grants, g.report = true → (t.dem g.alloc).lost = true)) ∧
    (r.headerOk = true → s.gen ch = 1 ∨ r.onu = s.n .terminalOnuIdAssigned e.burst.term →
      (∀ g ∈ r.grants, ∀ y ∈ g.frags, y.last = false) →
      ∃ t, exec (.burstReceived ch k i p r) s = .next t ∧ t.n .upBurstsGood ch = (s.n .upBurstsGood ch + 1) % 2 ^ 64 ∧
        t.n .terminalUpBursts e.burst.term = (s.n .terminalUpBursts e.burst.term + 1) % 2 ^ 64 ∧
        t.n .upBurstsMissing ch = s.n .upBurstsMissing ch ∧
        t.n .terminalUpAbsent e.burst.term = s.n .terminalUpAbsent e.burst.term ∧
        (∀ j, s.sideOn e.burst.term ch = some j →
          (t.term e.burst.term).lastGood = s.now ∧ (t.sd e.burst.term j).absent = 0))) ∧
  (∀ (s : State) (ch : Chan) (k : Nat) (p : Pipeline) (r : BurstRx) (f : Flight) (e : Expect) (g : Grant) (u : UpGrant)
      (x : Int) (b : Nat), (s.gch ch).flight.find? (fun f => f.frame == k) = some f → f.expected[0]? = some e →
    0 ∈ f.due → s.bit (Reg.ponLaneStatus ch) 1 = true → s.bit (Reg.tcUsCtrl ch) 0 = true →
    s.searched ch f e r.hits = some x → r.headerOk = true → s.gen ch = 1 ∨ r.onu = s.n .terminalOnuIdAssigned e.burst.term →
    e.burst.grants = [g] → r.grants = [u] → u.frags = [] → u.report = some b → g.report = true →
    State.isDflt g.alloc = true ∨ s.n .allocSnuffPhase g.alloc = 0 →
    ∃ t, exec (.burstReceived ch k 0 p r) s = .next t ∧ (t.dem g.alloc).lost = false ∧
      (t.dem g.alloc).report = some (f.frame, ceilDiv b (wordBits (s.gen ch) / 8)) ∧
      (t.dem g.alloc).est = State.estimate g.words u.idle (s.maxWords g.alloc ch)) ∧
  (∀ (s : State) (ch : Chan) (k i : Nat) (p : Pipeline) (r : BurstRx),
    (∀ f ∈ (s.gch ch).flight.find? (fun f => f.frame == k), i ∉ f.due ∨ f.expected[i]? = none) →
    exec (.burstReceived ch k i p r) s = .next s) ∧
  (∀ (s : State) (ch : Chan) (f : Flight) (l : List Flight), (s.gch ch).flight = f :: l →
    f.frame * Tm.frame + 750 * Tm.us ≤ s.wick →
    ∃ t, exec (.upstreamFrameAccounted ch) s = .next t ∧ (t.gch ch).flight = l ∧ (t.gch ch).past = some f ∧
      (s.bit Reg.cntGlobalCtrl 2 = false → t.n .upFramesAccounted ch = s.n .upFramesAccounted ch ∧
        t.n .upWordsCarried ch = s.n .upWordsCarried ch ∧ t.n .upWordsIdle ch = s.n .upWordsIdle ch) ∧
      (s.bit Reg.cntGlobalCtrl 2 = true → t.n .upFramesAccounted ch = (s.n .upFramesAccounted ch + 1) % 2 ^ 64 ∧
        t.n .upWordsCarried ch = (s.n .upWordsCarried ch + min f.carried (s.frameWords ch)) % 2 ^ 64 ∧
        t.n .upWordsBlocked ch = (s.n .upWordsBlocked ch +
          if f.unmet && f.trimmed then min f.idle (s.frameWords ch - f.carried) else 0) % 2 ^ 64 ∧
        t.n .upWordsStarved ch = (s.n .upWordsStarved ch +
          if f.unmet && !f.trimmed then min f.idle (s.frameWords ch - f.carried) else 0) % 2 ^ 64 ∧
        t.n .upWordsIdle ch = (s.n .upWordsIdle ch + (s.frameWords ch - f.carried -
          if f.unmet then min f.idle (s.frameWords ch - f.carried) else 0)) % 2 ^ 64)) ∧
  (∀ (s : State) (ch : Chan), (∀ f ∈ (s.gch ch).flight.head?, s.wick < f.frame * Tm.frame + 750 * Tm.us) →
    exec (.upstreamFrameAccounted ch) s = .next s)

/-- The bonding receiver's timeout and its reset (02_downstream_framing_and_bonding.md R67,
02_downstream_framing_and_bonding.md R68, 02_downstream_framing_and_bonding.md R69). -/
def Obligations.BondingReceiverGoesOn : Prop :=
  (∀ (s : State) (f : Flow) (p : Pipeline) (r : BondRx) (x : BondFrag), s.bondRx f = some r → r.held = [x] →
    x.seq = (r.next + 1) % 1048576 → r.next < 1048576 → x.f = true → x.l = true →
    x.len ≤ 12288 → x.since + s.n .flowBondUpTimeout f * Tm.us ≤ s.now →
    (∀ v ∈ r.lastA.toList ++ r.lastB.toList, bondLater v ((r.next + 2) % 1048576) = false) →
    ∃ t r', exec (.bondingTimeout f p) s = .next t ∧ t.bondRx f = some r' ∧ r'.held = [] ∧ r'.open_ = none ∧
      r'.next = (r.next + 2) % 1048576 ∧ r'.taken = s.now ∧
      (x.hdr = none → t.n .bondFragmentsLost f = (s.n .bondFragmentsLost f + 1) % 2 ^ 64 ∧
        t.n .bondTimeouts f = (s.n .bondTimeouts f + if s.bondShown f r then 0 else 1) % 2 ^ 64 ∧
        t.n .bondFramesDiscarded f = (s.n .bondFramesDiscarded f + if r.open_.isSome then 1 else 0) % 2 ^ 64)) ∧
  (∀ (s : State) (f : Flow) (p : Pipeline) (r : BondRx), s.bondRx f = some r → r.held = [] →
    (∀ v ∈ r.lastA.toList ++ r.lastB.toList, bondLater v r.next = false) →
    ∃ t, exec (.bondingTimeout f p) s = .next t ∧ t.bondRx f = some r ∧ s.ObjsBut [] t ∧ s.RegsBut [] t) ∧
  (∀ (s : State) (f : Flow) (r : BondRx), s.bondRx f = some r → r.taken + Tm.s ≤ s.now →
    ∃ t, exec (.bondingResync f) s = .next t ∧ t.bondRx f = none) ∧
  (∀ (s : State) (f : Flow) (p : Pipeline), s.bondRx f = none →
    exec (.bondingTimeout f p) s = .next s ∧ exec (.bondingResync f) s = .next s) ∧
  (∀ (s : State) (f : Flow) (r : BondRx), s.bondRx f = some r → s.now < r.taken + Tm.s →
    exec (.bondingResync f) s = .next s)

/-- Light out of place, suspicion, observation, hunts and release (03_upstream_bursts.md R92, 03_upstream_bursts.md
R93, 03_upstream_bursts.md R94, 04_activation_and_ranging.md R128, 04_activation_and_ranging.md R129,
04_activation_and_ranging.md R130, 04_activation_and_ranging.md R131). -/
def Obligations.StrayLightAndHunts : Prop :=
  (∀ (s : State) (ch : Chan) (a b : Time) (l x y : Nat) (p q : Time), s.on .channelGapMonitor ch = true →
    s.sending ch = true → s.n .channelGapEnergyThreshold ch < l →
    (s.gaps ch).filter (s.lightIn ch a b) = [(some (p, some x), some (q, some y))] →
    (a ≤ p + 50 * Tm.ns ∨ q - 50 * Tm.ns ≤ b →
      ∃ t, exec (.lightFound ch a b l) s = .next t ∧
        t.n .upOverlong ch = (s.n .upOverlong ch + if a ≤ p + 50 * Tm.ns then 1 else 0) % 2 ^ 64 ∧
        t.n .upEarlyLight ch = (s.n .upEarlyLight ch + if q - 50 * Tm.ns ≤ b then 1 else 0) % 2 ^ 64 ∧
        t.bit (Reg.tcUsStatus ch) 5 = true ∧ t.n .upLitFrames ch = s.n .upLitFrames ch ∧
        ∀ f ∈ (t.gch ch).flight, f.frame = (max a (p + 50 * Tm.ns) - upDelay) / Tm.frame →
          (a ≤ p + 50 * Tm.ns → x ∈ f.strays) ∧ (q - 50 * Tm.ns ≤ b → y ∈ f.strays)) ∧
    (p + 50 * Tm.ns < a → b < q - 50 * Tm.ns →
      ∃ t, exec (.lightFound ch a b l) s = .next t ∧ t.bit (Reg.tcUsStatus ch) 4 = true ∧
        t.n .upOverlong ch = s.n .upOverlong ch ∧ t.n .upEarlyLight ch = s.n .upEarlyLight ch ∧
        ∀ f ∈ (t.gch ch).flight, f.frame = (a - upDelay) / Tm.frame → f.lit = true)) ∧
  (∀ (s : State) (ch : Chan) (a b : Time) (l : Nat) (p : Time) (g : Option State.Bound × Option State.Bound),
    s.on .channelGapMonitor ch = true → s.sending ch = true → s.n .channelGapEnergyThreshold ch < l →
    (s.gaps ch).filter (s.lightIn ch a b) = [g] → g.1 = some (p, none) ∨ g.2 = some (p, none) →
    ∃ t, exec (.lightFound ch a b l) s = .next t ∧ t.bit (Reg.tcUsStatus ch) 4 = true ∧
      t.n .upOverlong ch = s.n .upOverlong ch ∧ t.n .upEarlyLight ch = s.n .upEarlyLight ch) ∧
  (∀ (s : State) (ch : Chan) (a b : Time) (l : Nat), s.on .channelGapMonitor ch = false ∨ s.sending ch = false ∨
    l ≤ s.n .channelGapEnergyThreshold ch ∨ (∀ g ∈ s.gaps ch, s.lightIn ch a b g = false) →
    exec (.lightFound ch a b l) s = .next s) ∧
  (∀ (s : State) (ch : Chan), s.n .channelRogueFrames ch ≤ (s.act ch).litRun →
    (s.n .channelRogueAction ch ≠ 2 ∨ (s.act ch).retryAt ≠ none ∨ s.avail = false ∨ (s.act ch).watch ≠ none ∨
        (s.act ch).hunt ≠ none →
      ∃ t, exec (.rogueSuspicion ch none) s = .next t ∧ t.bit (Reg.tcUsStatus ch) 8 = true ∧
        s.Raised t 2 .channelRogueState ch (beBytes 1 (s.n .channelRogueFrames ch) ++ beBytes 2 0xFFFF) ∧
        t.n .channelRogueState ch = s.n .channelRogueState ch ∧ (t.act ch).hunt = (s.act ch).hunt) ∧
    (s.n .channelRogueAction ch = 2 → (s.act ch).retryAt = none → s.avail = true → (s.act ch).watch = none →
        (s.act ch).hunt = none →
      ∃ t, exec (.rogueSuspicion ch none) s = .next t ∧ t.bit (Reg.tcUsStatus ch) 8 = true ∧
        (s.huntList ch = [] → t.n .channelRogueState ch = 3 ∧ (t.act ch).hunt = none ∧
          (t.act ch).retryAt = some (s.now + s.n .channelRogueRetry ch * Tm.s)) ∧
        ∀ x xs, s.huntList ch = x :: xs → t.n .channelRogueState ch = 2 ∧
          (t.act ch).hunt = some ⟨xs, x, s.frameNo + 7, false, false, false⟩)) ∧
  (∀ (s : State) (ch : Chan) (x : Term) (k : Nat), s.sideOn x ch = some k →
    s.n .channelRogueFrames ch ≤ (s.sd x k).strayRun →
    (s.n .channelRogueAction ch = 0 ∨ (s.act ch).watch ≠ none ∨ (s.act ch).hunt ≠ none →
      ∃ t, exec (.rogueSuspicion ch (some x)) s = .next t ∧ t.bit (Reg.tcUsStatus ch) 8 = true ∧
        s.Raised t 2 .channelRogueState ch (beBytes 1 (s.n .channelRogueFrames ch) ++ beBytes 2 x.val) ∧
        (t.sd x k).strayRun = 0 ∧ t.tstate x k = s.tstate x k ∧ t.acts = s.acts) ∧
    (s.n .channelRogueAction ch ≠ 0 → (s.act ch).watch = none → (s.act ch).hunt = none →
      ∃ t, exec (.rogueSuspicion ch (some x)) s = .next t ∧ t.bit (Reg.tcUsStatus ch) 8 = true ∧
        s.Raised t 2 .channelRogueState ch (beBytes 1 (s.n .channelRogueFrames ch) ++ beBytes 2 x.val) ∧
        t.tstate x k = 6 ∧ t.n .channelRogueState ch = 1 ∧ (t.act ch).watch = some (x.val, s.frameNo + 7, false))) ∧
  (∀ (s : State) (ch : Chan) (x : Term),
    ((s.act ch).litRun < s.n .channelRogueFrames ch → exec (.rogueSuspicion ch none) s = .next s) ∧
    ((∀ k ∈ s.sideOn x ch, (s.sd x k).strayRun < s.n .channelRogueFrames ch) →
      exec (.rogueSuspicion ch (some x)) s = .next s)) ∧
  (∀ (s : State) (ch : Chan) (x f : Nat) (lit : Bool), (s.act ch).watch = some (x, f, lit) →
    (s.frameNo < f + s.n .channelRogueFrames ch → exec (.rogueObservationEnd ch) s = .next s) ∧
    (f + s.n .channelRogueFrames ch ≤ s.frameNo → lit = false → s.quarantined (s.oct .terminalSerial x) = false →
      s.nvm.quarantined.length < 256 → s.nvmUp = true →
      ∃ t, exec (.rogueObservationEnd ch) s = .next t ∧ (t.act ch).watch = none ∧ t.n .channelRogueState ch = 0 ∧
        t.nvm.quarantined.map (fun q => (q.1, q.2.2)) =
          s.nvm.quarantined.map (fun q => (q.1, q.2.2)) ++ [(ch.val, s.oct .terminalSerial x)] ∧
        t.bit (Reg.actStatus ch) 8 = true) ∧
    (f + s.n .channelRogueFrames ch ≤ s.frameNo → lit = true → x < 8192 →
      s.n .channelRogueAction ch ≠ 2 ∨ (s.act ch).retryAt ≠ none →
      ∃ t, exec (.rogueObservationEnd ch) s = .next t ∧ (t.act ch).watch = none ∧ t.n .channelRogueState ch = 0 ∧
        t.stateOn x ch = (if s.stateOn x ch = 6 then 0 else s.stateOn x ch) ∧ t.nvm = s.nvm)) ∧
  (∀ (s : State) (ch : Chan) (h : HuntSt), (s.act ch).hunt = some h →
    (s.frameNo < h.from_ + s.n .channelRogueFrames ch → h.snuffed = false → exec (.huntStepEnd ch) s = .next s) ∧
    (h.from_ + s.n .channelRogueFrames ch ≤ s.frameNo ∨ h.snuffed = true →
      (h.lit = false → h.abort = false → h.snuffed = false → s.quarantined h.cur = false →
        s.nvm.quarantined.length < 256 → s.nvmUp = true →
        ∃ t, exec (.huntStepEnd ch) s = .next t ∧ (t.act ch).hunt = none ∧ t.n .channelRogueState ch = 0 ∧
          t.nvm.quarantined.map (fun q => (q.1, q.2.2)) =
            s.nvm.quarantined.map (fun q => (q.1, q.2.2)) ++ [(ch.val, h.cur)] ∧ t.bit (Reg.actStatus ch) 9 = true) ∧
      (h.lit = true ∨ h.snuffed = true → h.abort = false → ∀ x xs, h.todo = x :: xs →
        ∃ t, exec (.huntStepEnd ch) s = .next t ∧
          (t.act ch).hunt = some ⟨xs, x, s.frameNo + 7, false, false, false⟩) ∧
      (h.abort = true ∨ (h.todo = [] ∧ (h.lit = true ∨ h.snuffed = true)) →
        ∃ t, exec (.huntStepEnd ch) s = .next t ∧ (t.act ch).hunt = none ∧ t.n .channelRogueState ch = 3 ∧
          (t.act ch).retryAt = some (s.now + s.n .channelRogueRetry ch * Tm.s) ∧ t.bit (Reg.actStatus ch) 9 = true))) ∧
  (∀ (s : State) (ch : Chan) (x : Time), (s.act ch).retryAt = some x →
    (s.now < x → exec (.huntRetry ch) s = .next s) ∧
    (x ≤ s.now → s.n .channelRogueFrames ch ≤ (s.act ch).litRun → s.n .channelRogueAction ch = 2 → s.avail = true →
      ∃ t, exec (.huntRetry ch) s = .next t ∧
        (s.huntList ch = [] → t.n .channelRogueState ch = 3 ∧
          (t.act ch).retryAt = some (s.now + s.n .channelRogueRetry ch * Tm.s)) ∧
        ∀ y ys, s.huntList ch = y :: ys → t.n .channelRogueState ch = 2 ∧ (t.act ch).retryAt = none ∧
          (t.act ch).hunt = some ⟨ys, y, s.frameNo + 7, false, false, false⟩) ∧
    (x ≤ s.now → (s.act ch).litRun < s.n .channelRogueFrames ch →
      ∃ t, exec (.huntRetry ch) s = .next t ∧ t.act ch = { s.act ch with retryAt := none } ∧ s.ObjsBut [] t ∧
        s.RegsBut [] t)) ∧
  (∀ (s : State) (ch : Chan) (h : HuntSt), (s.act ch).hunt = some h →
    ∃ t, exec (.huntAbort ch) s = .next t ∧ (t.act ch).hunt = some { h with abort := true } ∧ s.ObjsBut [] t ∧
      s.RegsBut [] t) ∧
  (∀ (s : State) (ch : Chan),
    ((s.act ch).watch = none → exec (.rogueObservationEnd ch) s = .next s) ∧
    ((s.act ch).hunt = none → exec (.huntStepEnd ch) s = .next s ∧ exec (.huntAbort ch) s = .next s) ∧
    ((s.act ch).retryAt = none → exec (.huntRetry ch) s = .next s)) ∧
  (∀ (s : State) (m : Master) (x : Term) (v : Fin 2), s.Admits m .terminalRogueRelease x (beBytes 1 v) →
    (v = 1 → s.on .terminalRogue x = true →
      ∃ t, exec (.rogueRelease m x v) s = .next t ∧ s.Answered t m (some Abort.ok) ∧ t.n .terminalRogue x = 0 ∧
        (∀ ch ∈ s.chansOf x, t.stateOn x ch = if s.stateOn x ch = 6 then 0 else s.stateOn x ch) ∧
        t.nvm.quarantined = (if s.nvmUp = true then s.nvm.quarantined.filter fun q => q.2.2 != s.oct .terminalSerial x
          else s.nvm.quarantined)) ∧
    (v = 0 ∨ s.on .terminalRogue x = false →
      ∃ t, exec (.rogueRelease m x v) s = .next t ∧ s.Answered t m (some Abort.ok) ∧
        t.nvm.quarantined = s.nvm.quarantined ∧ s.ObjsBut [(.sconceRequests, 0)] t))

/-- Quiet windows, serial-number responses and admission (01_trees_channels_and_lanes.md R33,
01_trees_channels_and_lanes.md R41, 03_upstream_bursts.md R82, 04_activation_and_ranging.md R103,
04_activation_and_ranging.md R105, 04_activation_and_ranging.md R108, 04_activation_and_ranging.md R109,
04_activation_and_ranging.md R111, 04_activation_and_ranging.md R132, 04_activation_and_ranging.md R136). -/
def Obligations.WindowsAndAdmission : Prop :=
  (∀ (s : State) (ch : Chan), s.atFrame = true → s.windowsRun ch = true →
    s.periodic ch (s.frameNo + 3) = true ∨ s.frameNo + 3 ∈ (s.act ch).extra →
    ((s.act ch).wins.any fun w => w.frame == s.frameNo + 3) = false →
    ∃ t, exec (.quietWindowFixed ch) s = .next t ∧ (t.act ch).wins = (s.act ch).wins ++
      [⟨s.frameNo + 3, (s.frameNo + 3) * Tm.frame + upDelay, s.n .channelQuietLength ch * Tm.us, s.profileOf ch 0,
        s.n .channelEqDefault ch, 0⟩] ∧
      (t.act ch).extra = (s.act ch).extra.filter (fun f => f != s.frameNo + 3) ∧
      s.ObjsBut [(.channelQuietNext, ch.val)] t ∧ s.RegsBut [] t) ∧
  (∀ (s : State) (ch : Chan), s.atFrame = false ∨ s.windowsRun ch = false ∨
    (s.periodic ch (s.frameNo + 3) = false ∧ s.frameNo + 3 ∉ (s.act ch).extra) ∨
    ((s.act ch).wins.any fun w => w.frame == s.frameNo + 3) = true → exec (.quietWindowFixed ch) s = .next s) ∧
  (∀ (s : State) (m : Master) (ch : Chan) (x : Nat), x < 2 ^ 96 → s.Admits m .channelQuietAt ch (beBytes 12 x) →
    (s.wick + Tm.ms ≤ ceilDiv x Tm.frame * Tm.frame →
      ∃ t, exec (.quietAt m ch x) s = .next t ∧ s.Answered t m (some Abort.ok) ∧
        (t.act ch).extra = (s.act ch).extra ++ [ceilDiv x Tm.frame]) ∧
    (ceilDiv x Tm.frame * Tm.frame < s.wick + Tm.ms →
      ∃ t, exec (.quietAt m ch x) s = .next t ∧ s.Answered t m (some Abort.range) ∧ t.acts = s.acts)) ∧
  (∀ (s : State) (ch : Chan), ∃ t, exec (.quietNow ch) s = .next t ∧
      (t.act ch).extra = (s.act ch).extra ++ [ceilDiv (s.wick + Tm.ms) Tm.frame] ∧ s.ObjsBut [] t ∧ s.RegsBut [] t) ∧
  (∀ (s : State) (ch : Chan) (hits : List (Nat × Nat)) (ph : Fin 64) (sn : Vector Byte 8) (c : Fin 16) (w : QuietWin)
      (ws : List QuietWin) (pos r : Nat), (s.act ch).wins = w :: ws → s.sending ch = true → w.start ≤ s.wick →
    State.findResponse w.prof hits w.next = some pos → s.bitTime ch pos ph < w.len → (s.act ch).decoded < 32 →
    s.n .channelSnuffPhase ch = 0 → (s.act ch).hunt = none → s.admission ch sn.toList = some r →
    ∃ t i, exec (.serialNumberResponse ch hits ph true sn c) s = .next t ∧ i < 256 ∧ t.oct .discoveredSerial i = sn.toList ∧
      t.n .discoveredReason i = r ∧ t.n .discoveredTime i = s.wick ∧ t.bit (Reg.actStatus ch) 4 = true ∧
      (t.act ch).serials = (s.act ch).serials ++ [sn.toList] ∧ (t.act ch).decoded = (s.act ch).decoded + 1 ∧
      t.terms = s.terms ∧ (t.act ch).wins = { w with next := pos + s.responseBits ch w.prof } :: ws) ∧
  (∀ (s : State) (ch : Chan) (hits : List (Nat × Nat)) (ph : Fin 64) (sn : Vector Byte 8) (c : Fin 16) (w : QuietWin)
      (ws : List QuietWin) (pos i k id : Nat), (s.act ch).wins = w :: ws → s.sending ch = true → w.start ≤ s.wick →
    State.findResponse w.prof hits w.next = some pos → s.bitTime ch pos ph < w.len → (s.act ch).decoded < 32 →
    s.n .channelSnuffPhase ch = 0 → (s.act ch).hunt = none → s.admission ch sn.toList = none →
    s.boundAs ch sn.toList = none → s.admitEntry sn.toList = some i → s.n .admitTerminal i < 8192 →
    s.sideOn (s.n .admitTerminal i) ch = some k → s.onuFor (s.n .admitTerminal i) = some id →
    ∃ t, exec (.serialNumberResponse ch hits ph true sn c) s = .next t ∧ t.tstate (s.n .admitTerminal i) k = 1 ∧
      t.oct .terminalSerial (s.n .admitTerminal i) = sn.toList ∧
      t.n .terminalOnuIdAssigned (s.n .admitTerminal i) = id ∧
      (t.framer ch).act = (s.framer ch).act ++
        [⟨.assignOnuId, s.n .admitTerminal i, s.broadcastOnu ch, id :: sn.toList.map BitVec.toNat, 1, 0⟩]) ∧
  (∀ (s : State) (ch : Chan) (hits : List (Nat × Nat)) (ph : Fin 64) (sn : Vector Byte 8) (c : Fin 16) (w : QuietWin)
      (ws : List QuietWin) (pos : Nat), (s.act ch).wins = w :: ws → s.sending ch = true → w.start ≤ s.wick →
    State.findResponse w.prof hits w.next = some pos → s.bitTime ch pos ph < w.len →
    (32 ≤ (s.act ch).decoded → ∃ t, exec (.serialNumberResponse ch hits ph true sn c) s = .next t ∧ t.terms = s.terms ∧
      t.n .channelSnResponsesExcess ch = (s.n .channelSnResponsesExcess ch + 1) % 2 ^ 64 ∧ t.logEvents = s.logEvents) ∧
    ((s.act ch).decoded < 32 → s.n .channelSnuffPhase ch ≠ 0 ∨ (s.act ch).hunt ≠ none →
      ∃ t, exec (.serialNumberResponse ch hits ph true sn c) s = .next t ∧ t.terms = s.terms ∧
        (t.act ch).serials = (s.act ch).serials ∧ (t.act ch).decoded = (s.act ch).decoded + 1) ∧
    ((s.act ch).decoded < 32 → s.n .channelSnuffPhase ch = 0 → (s.act ch).hunt = none →
      s.admission ch sn.toList = none → ∀ x, s.boundAs ch sn.toList = some x →
      ∃ t, exec (.serialNumberResponse ch hits ph true sn c) s = .next t ∧ (t.act ch).resets = (s.act ch).resets + 1 ∧
        (t.act ch).decoded = (s.act ch).decoded + 1) ∧
    (∃ t, exec (.serialNumberResponse ch hits ph false sn c) s = .next t ∧ s.ObjsBut [] t ∧ s.RegsBut [] t ∧
      t.terms = s.terms ∧ t.act ch = { s.act ch with wins := { w with next := pos + s.responseBits ch w.prof } :: ws })) ∧
  (∀ (s : State) (ch : Chan) (hits : List (Nat × Nat)) (ph : Fin 64) (g : Bool) (sn : Vector Byte 8) (c : Fin 16),
    s.sending ch = false ∨ (∀ w ∈ (s.act ch).wins.head?, s.wick < w.start ∨
      State.findResponse w.prof hits w.next = none ∨
      (∀ pos ∈ State.findResponse w.prof hits w.next, w.len ≤ s.bitTime ch pos ph)) →
    exec (.serialNumberResponse ch hits ph g sn c) s = .next s) ∧
  (∀ (s : State) (ch : Chan) (light : Bool) (w : QuietWin) (ws : List QuietWin), (s.act ch).wins = w :: ws →
    w.start + w.len ≤ s.wick →
    ∃ t, exec (.quietWindowEnd ch light) s = .next t ∧ (t.act ch).wins = ws ∧ (t.act ch).serials = [] ∧
      (t.act ch).decoded = 0 ∧ (t.lane ch).code = w.code ∧
      t.bit (Reg.actStatus ch) 6 = (s.bit (Reg.actStatus ch) 6 || (light && (s.act ch).decoded == 0)) ∧
      (s.laneState ch = 3 → t.bit (Reg.ponLaneStatus ch) 1 = false) ∧
      (s.n .channelBrstWidth ch ≠ 0 →
        (∀ q ∈ s.nextStart ch (w.start + w.len), w.start + w.len + State.tenths (4 * s.n .channelBrstOffset ch) +
          State.tenths (4 * s.n .channelBrstWidth ch) + State.tenths 4 ≤ q) →
        t.sent = s.sent ++ [.pulse 1 ch (w.start + w.len + State.tenths (4 * s.n .channelBrstOffset ch))
          (w.start + w.len + State.tenths (4 * s.n .channelBrstOffset ch) + State.tenths (4 * s.n .channelBrstWidth ch))
          (s.on .channelBrstPolarity ch)])) ∧
  (∀ (s : State) (ch : Chan) (light : Bool), (∀ w ∈ (s.act ch).wins.head?, s.wick < w.start + w.len) →
    exec (.quietWindowEnd ch light) s = .next s)

/-- Ranging, registration and lockouts (03_upstream_bursts.md R82, 04_activation_and_ranging.md R106,
04_activation_and_ranging.md R112, 04_activation_and_ranging.md R113, 04_activation_and_ranging.md R114). -/
def Obligations.RangingAndRegistration : Prop :=
  (∀ (s : State) (ch : Chan) (x : Term) (hits : List (Nat × Nat)) (ph : Fin 64) (c : Fin 16) (k : Nat) (w : RangeWin)
      (pos : Nat), s.sideOn x ch = some k → (s.sd x k).window = some w → s.tstate x k = 2 →
    State.findResponse w.prof hits w.next = some pos → w.lo + s.bitTime ch pos ph < w.hi →
    let d : Int := (w.lo + s.bitTime ch pos ph : Nat)
    let rtd : Int := d - (w.frame * Tm.frame : Nat) - s.wordSpan ch w.start +
      bitSpan (s.upRate ch) w.prof.dbits - s.unitSpan ch w.ePre
    let eqd := s.spanUnits ch ((upDelay : Int) - rtd)
    (s.outOfReach ch eqd rtd = false →
      ∃ t, exec (.rangingResponse ch x hits ph true c) s = .next t ∧ t.tstate x k = 3 ∧ (t.sd x k).rtd = rtd ∧
        (t.sd x k).eqd = eqd ∧ (t.sd x k).window = none ∧ (t.framer ch).act = (s.framer ch).act ++
          [⟨.rangingTime, x, s.n .terminalOnuIdAssigned x, [eqd.toNat], 1, 0⟩]) ∧
    (s.outOfReach ch eqd rtd = true →
      ∃ t, exec (.rangingResponse ch x hits ph true c) s = .next t ∧ t.tstate x k = 0 ∧ t.sd x k = SideSt.idle) ∧
    ∃ t, exec (.rangingResponse ch x hits ph false c) s = .next t ∧ s.ObjsBut [] t ∧ s.RegsBut [] t ∧
      t.sd x k = { s.sd x k with window := some { w with next := pos + s.responseBits ch w.prof } }) ∧
  (∀ (s : State) (ch : Chan) (x : Term) (hits : List (Nat × Nat)) (ph : Fin 64) (g : Bool) (c : Fin 16),
    (∀ k ∈ s.sideOn x ch, ∀ w ∈ (s.sd x k).window, s.tstate x k ≠ 2 ∨
      State.findResponse w.prof hits w.next = none ∨
      (∀ pos ∈ State.findResponse w.prof hits w.next, w.hi ≤ w.lo + s.bitTime ch pos ph)) →
    exec (.rangingResponse ch x hits ph g c) s = .next s) ∧
  (∀ (s : State) (ch : Chan) (x : Term) (k : Nat) (w : RangeWin), s.sideOn x ch = some k →
    (s.sd x k).window = some w → s.tstate x k = 2 → w.hi ≤ s.wick →
    ((s.sd x k).attempts < 2 → ∃ t, exec (.rangingWindowEnd ch x) s = .next t ∧
      t.sd x k = { s.sd x k with window := none, attempts := (s.sd x k).attempts + 1, retry := true } ∧
      s.ObjsBut [] t ∧ s.RegsBut [] t) ∧
    (2 ≤ (s.sd x k).attempts → ∃ t, exec (.rangingWindowEnd ch x) s = .next t ∧ t.tstate x k = 0 ∧
      t.sd x k = SideSt.idle)) ∧
  (∀ (s : State) (ch : Chan) (x : Term), (∀ k ∈ s.sideOn x ch, ∀ w ∈ (s.sd x k).window, s.tstate x k ≠ 2 ∨ s.wick < w.hi) → exec (.rangingWindowEnd ch x) s = .next s) ∧
  (∀ (s : State) (ch : Chan) (x : Term) (k : Nat), s.sideOn x ch = some k → s.avail = true → s.tstate x k = 3 →
    (s.sd x k).accepted = false → (s.sd x k).asked < 3 →
    (s.sd x k).asked = 0 ∨ (s.sd x k).askedAt + 20 * Tm.ms ≤ s.now →
    ∃ t, exec (.registrationRequest ch x) s = .next t ∧
      t.sd x k = { s.sd x k with asked := (s.sd x k).asked + 1, askedAt := s.now, ploam := true } ∧
      (t.framer ch).lan = (s.framer ch).lan ++ [⟨.requestRegistration, x, s.n .terminalOnuIdAssigned x, [], 1, 0⟩] ∧
      s.ObjsBut [] t ∧ s.RegsBut [] t) ∧
  (∀ (s : State) (ch : Chan) (x : Term) (k : Nat) (id : List Byte), s.sideOn x ch = some k →
    s.avail = true → s.tstate x k = 3 → (s.sd x k).accepted = false → (s.sd x k).asked ≠ 0 →
    (∀ i ∈ s.admitEntry (s.oct .terminalSerial x), i < 16777216 ∧
      (s.oct .admitRegistrationId i = [] ∨ s.oct .admitRegistrationId i = id)) →
    ∃ t, exec (.registrationReply ch x id) s = .next t ∧ (t.sd x k).accepted = true ∧ (t.sd x k).mik.isSome = true ∧
      t.oct .terminalRegistrationId x = id ∧ t.tstate x k = 3 ∧ s.ObjsBut [(.terminalRegistrationId, x.val)] t) ∧
  (∀ (s : State) (ch : Chan) (x : Term) (k i : Nat) (id : List Byte), s.sideOn x ch = some k →
    s.avail = true → s.tstate x k = 3 → (s.sd x k).accepted = false → (s.sd x k).asked ≠ 0 →
    s.admitEntry (s.oct .terminalSerial x) = some i → i < 16777216 → s.oct .admitRegistrationId i ≠ id →
    s.oct .admitRegistrationId i ≠ [] →
    ∃ t, exec (.registrationReply ch x id) s = .next t ∧ t.tstate x k = 0 ∧ t.bit (Reg.actStatus ch) 7 = true ∧
      t.oct .terminalRegistrationId x = id ∧
      (s.oct .terminalSerial x, s.now + s.n .channelAuthLockout ch * Tm.s) ∈ (t.act ch).lockouts) ∧
  (∀ (s : State) (ch : Chan) (x : Term) (k : Nat), s.sideOn x ch = some k → s.tstate x k = 3 →
    (s.sd x k).accepted = false → (s.sd x k).asked = 3 → (s.sd x k).askedAt + 20 * Tm.ms ≤ s.now →
    ∃ t, exec (.registrationTimeout ch x) s = .next t ∧ t.tstate x k = 0 ∧ t.sd x k = SideSt.idle) ∧
  (∀ (s : State) (ch : Chan) (x : Term) (id : List Byte),
    (∀ k ∈ s.sideOn x ch, s.tstate x k ≠ 3 ∨ (s.sd x k).accepted = true) →
    exec (.registrationRequest ch x) s = .next s ∧ exec (.registrationReply ch x id) s = .next s ∧
      exec (.registrationTimeout ch x) s = .next s) ∧
  (∀ (s : State) (ch : Chan) (sn : Vector Byte 8),
    ∃ t, exec (.authLockoutExpiry ch sn) s = .next t ∧ s.ObjsBut [] t ∧ s.RegsBut [] t ∧
      (t.act ch).lockouts = (s.act ch).lockouts.filter fun x => !(x.1 == sn.toList && decide (x.2 ≤ s.now)))

/-- Loss of a terminal, and its power saving (04_activation_and_ranging.md R119, 04_activation_and_ranging.md R121,
04_activation_and_ranging.md R122, 04_activation_and_ranging.md R123, 04_activation_and_ranging.md R125,
04_activation_and_ranging.md R126, 04_activation_and_ranging.md R127). -/
def Obligations.LossAndPowerSaving : Prop :=
  (∀ (s : State) (ch : Chan) (x : Term) (k f : Nat), s.sideOn x ch = some k → (s.sd x k).correction = some f →
    (s.gen ch = 1 → f + 8 ≤ s.frameNo →
      ∃ t, exec (.driftCorrectionTimeout ch x) s = .next t ∧ t.sd x k = { s.sd x k with correction := none } ∧
        s.ObjsBut [] t ∧ s.RegsBut [] t) ∧
    (s.gen ch ≠ 1 ∨ s.frameNo < f + 8 → exec (.driftCorrectionTimeout ch x) s = .next s)) ∧
  (∀ (s : State) (ch : Chan) (x : Term) (k : Nat), s.sideOn x ch = some k → s.tstate x k = 4 →
    s.n .terminalPowerState x ≤ 1 → s.n .channelLossBursts ch ≤ (s.sd x k).absent → s.wick % Tm.frame = 0 →
    ∃ t, exec (.terminalLost ch x) s = .next t ∧ t.tstate x k = 5 ∧ (t.sd x k).lostAt = s.now ∧
      (t.sd x k).absent = 0 ∧ t.bit (Reg.actStatus ch) 3 = true ∧ t.n .terminalPowerState x = 0) ∧
  (∀ (s : State) (ch : Chan) (x : Term), (∀ k ∈ s.sideOn x ch, s.tstate x k ≠ 4 ∨
      2 ≤ s.n .terminalPowerState x ∨ (s.sd x k).absent < s.n .channelLossBursts ch ∨ s.wick % Tm.frame ≠ 0) →
    exec (.terminalLost ch x) s = .next s) ∧
  (∀ (s : State) (ch : Chan) (x : Term) (k : Nat), s.sideOn x ch = some k → s.inService x ch = true →
    2 ≤ s.n .terminalPowerState x →
    ((s.term x).lastGood + (s.n .terminalSleepInterval x + s.n .terminalAwareInterval x + 2) * Tm.ms ≤ s.now →
      ∃ t, exec (.sleepLoss ch x) s = .next t ∧ t.tstate x k = 5 ∧ t.n .terminalPowerState x = 0 ∧
        t.bit (Reg.actStatus ch) 3 = true) ∧
    (s.now < (s.term x).lastGood + (s.n .terminalSleepInterval x + s.n .terminalAwareInterval x + 2) * Tm.ms →
      exec (.sleepLoss ch x) s = .next s)) ∧
  (∀ (s : State) (ch : Chan) (x : Term) (k : Nat), s.sideOn x ch = some k → s.tstate x k = 5 →
    (s.sd x k).recovered = false →
    ((s.sd x k).lostAt + s.n .channelLostHold ch * Tm.ms ≤ s.now →
      ∃ t, exec (.lostHoldExpiry ch x) s = .next t ∧ t.tstate x k = 0 ∧ t.sd x k = SideSt.idle) ∧
    (s.now < (s.sd x k).lostAt + s.n .channelLostHold ch * Tm.ms → exec (.lostHoldExpiry ch x) s = .next s)) ∧
  (∀ (s : State) (x : Term) (m : Fin 4), s.inServiceAny x = true → m ≠ 0 →
    (s.n .terminalPowerModes x / 2 ^ (m.val - 1) % 2 = 1 → s.n .terminalPowerState x ≠ 0 → s.n .terminalPowerState x ≠ 5 →
      (s.term x).wakeFrame ≠ some s.frameNo →
      ∃ t, exec (.sleepRequest x m) s = .next t ∧ t.n .terminalPowerState x = m.val + 1 ∧ (t.term x).aware = false ∧
        (t.term x).lastGood = s.now ∧ s.ObjsBut [(.terminalPowerState, x.val)] t ∧ s.RegsBut [] t) ∧
    (s.n .terminalPowerModes x / 2 ^ (m.val - 1) % 2 = 1 → s.n .terminalPowerState x ≠ 0 → s.n .terminalPowerState x ≠ 5 →
      (s.term x).wakeFrame = some s.frameNo → s.avail = true →
      ∃ t, exec (.sleepRequest x m) s = .next t ∧ t.n .terminalPowerState x = 5) ∧
    (s.n .terminalPowerModes x / 2 ^ (m.val - 1) % 2 = 0 → s.n .terminalPowerState x ≠ 5 ∨
        (s.term x).wakeFrame ≠ some s.frameNo →
      ∃ t, exec (.sleepRequest x m) s = .next t ∧ t.n .terminalPowerState x = 0 ∧
        s.ObjsBut [(.terminalPowerState, x.val)] t ∧ s.RegsBut [] t) ∧
    (s.n .terminalPowerModes x / 2 ^ (m.val - 1) % 2 = 1 → s.n .terminalPowerState x = 0 ∨ s.n .terminalPowerState x = 5 →
      ∃ t, exec (.sleepRequest x m) s = .next t ∧ t.framers = s.framers ∧ s.ObjsBut [] t ∧ s.RegsBut [] t)) ∧
  (∀ (s : State) (x : Term), s.inServiceAny x = true → 2 ≤ s.n .terminalPowerState x →
    s.n .terminalPowerState x ≠ 5 ∨ (s.term x).wakeFrame ≠ some s.frameNo →
    ∃ t, exec (.sleepRequest x 0) s = .next t ∧ t.n .terminalPowerState x = 0 ∧ (t.term x).aware = false ∧
      s.ObjsBut [(.terminalPowerState, x.val)] t ∧
      (s.n .terminalPowerState x ≠ 5 → s.avail = true → ∀ ch ∈ s.chansOf x, ch < 32 → s.inService x ch = true →
        ⟨.sleepAllow, x.val, s.n .terminalOnuIdAssigned x, [0], 1, 0⟩ ∈ (t.framer ch).lan)) ∧
  (∀ (s : State) (x : Term) (m : Fin 4), s.inServiceAny x = false → exec (.sleepRequest x m) s = .next s) ∧
  (∀ (s : State) (x : Term) (e : Time), (s.term x).emptySince = some e → s.avail = true → s.inServiceAny x = true →
    s.n .terminalPowerState x = 0 → s.n .terminalPowerModes x ≠ 0 → s.on .terminalForceAwake x = false →
    s.n .terminalSnuffPhase x = 0 →
    (e + s.n .terminalAwakeHold x * Tm.ms ≤ s.now →
      ∃ t, exec (.sleepAllow x) s = .next t ∧ t.n .terminalPowerState x = 1 ∧
        s.ObjsBut [(.terminalPowerState, x.val)] t ∧ s.RegsBut [] t ∧
        ∀ ch ∈ s.chansOf x, ch < 32 → s.inService x ch = true →
          ⟨.sleepAllow, x.val, s.n .terminalOnuIdAssigned x, [1], 1, 0⟩ ∈ (t.framer ch).lan) ∧
    (s.now < e + s.n .terminalAwakeHold x * Tm.ms → exec (.sleepAllow x) s = .next s)) ∧
  (∀ (s : State) (x : Term), (s.term x).emptySince = none ∨ s.n .terminalPowerState x ≠ 0 ∨
    s.n .terminalPowerModes x = 0 ∨ s.on .terminalForceAwake x = true → exec (.sleepAllow x) s = .next s) ∧
  (∀ (s : State) (x : Term),
    ((s.term x).aware = true → (s.term x).lastGood + s.n .terminalAwareInterval x * Tm.ms ≤ s.now →
      ∃ t, exec (.awarePeriodEnd x) s = .next t ∧ t.term x = { s.term x with aware := false } ∧ s.ObjsBut [] t ∧
        s.RegsBut [] t) ∧
    ((s.term x).aware = false ∨ s.now < (s.term x).lastGood + s.n .terminalAwareInterval x * Tm.ms →
      exec (.awarePeriodEnd x) s = .next s))

/-- Maps computed, voted lanes, reloads and lane tests (05_grant_engine.md R146, 05_grant_engine.md R147,
05_grant_engine.md R166, 05_grant_engine.md R167, 05_grant_engine.md R168, 05_grant_engine.md R169, 05_grant_engine.md
R170, 05_grant_engine.md R171, 05_grant_engine.md R173, 05_grant_engine.md R177). -/
def Obligations.MapsComputedAndLanesVoted : Prop :=
  (∀ (s : State) (wrong : List (Chan × Nat × List (GrantLane × Nat))) (bs : List Chan) (ch : Chan) (m : Nat),
    s.bit Reg.grantCtrl 0 = true → s.boot.glim = false → m ∈ s.mapFrames ch →
    ∃ t, exec (.mapComputation wrong bs) s = .next t ∧ (∃ g ∈ (t.gch ch).maps, g.frame = m) ∧ (t.gch ch).upTo = m) ∧
  (∀ (s : State) (ch : Chan) (m w x y : Nat), s.bit Reg.grantCtrl 0 = true → s.boot.glim = false →
    (∀ c : Chan, s.mapFrames c = if c = ch then [m] else []) → s.voters = [0, 1, 2] → s.soleLane = false →
    s.grants.reload = none → s.grants.test = none → x ≠ y →
    ∃ t, exec (.mapComputation [(ch, w, [(0, x), (1, y)])] []) s = .next t ∧
      t.n .grantQuietMaps ch = (s.n .grantQuietMaps ch + 1) % 2 ^ 64 ∧ t.bit Reg.grantLaneStatus 18 = true ∧
      t.bit (Reg.grantChStatus ch) 8 = true ∧ t.voters = [0, 1, 2] ∧
      t.grants.reloadDue = true ∧ ch.val ∈ t.grants.affected ∧ ∃ g ∈ (t.gch ch).maps, g.frame = m ∧ g.quiet = true) ∧
  (∀ (s : State) (ch : Chan) (m w x : Nat) (l : GrantLane), s.bit Reg.grantCtrl 0 = true → s.boot.glim = false →
    (∀ c : Chan, s.mapFrames c = if c = ch then [m] else []) → s.voters = [0, 1, 2] → s.soleLane = false →
    s.grants.reload = none → s.grants.reloadDue = false → s.grants.test = none →
    ∃ t, exec (.mapComputation [(ch, w, [(l, x)])] []) s = .next t ∧ (t.gl l = 4 ∨ t.gl l = 5) ∧
      t.voters = [0, 1, 2].filter (fun k => k != l.val) ∧ t.bit Reg.grantLaneStatus 16 = true ∧
      t.n (State.oddObj l) 0 = (s.n (State.oddObj l) 0 + 1) % 2 ^ 64 ∧
      t.n .grantQuietMaps ch = s.n .grantQuietMaps ch ∧ t.grants.reloadDue = false ∧
      ∃ g ∈ (t.gch ch).maps, g.frame = m ∧ g.quiet = false ∧ g.alt = []) ∧
  (∀ (s : State) (ch : Chan) (m : Nat), s.bit Reg.grantCtrl 0 = true → s.boot.glim = false →
    (∀ c : Chan, s.mapFrames c = if c = ch then [m] else []) → s.voters = [0, 1, 2] →
    s.grants.reload = none → s.grants.reloadDue = false → s.grants.test = none →
    ∃ t, exec (.mapComputation [] [ch]) s = .next t ∧ t.bit Reg.grantLaneStatus 19 = true ∧
      t.voters = [0, 1, 2] ∧ ∃ g ∈ (t.gch ch).maps, g.frame = m ∧ g.quiet = false) ∧
  (∀ (s : State) (wrong : List (Chan × Nat × List (GrantLane × Nat))) (bs : List Chan),
    (s.bit Reg.grantCtrl 0 = false ∨ s.boot.glim = true → exec (.mapComputation wrong bs) s = .next s) ∧
    (s.bit Reg.grantCtrl 0 = true → s.boot.glim = false → (∀ c : Chan, s.mapFrames c = []) →
      ∃ t, exec (.mapComputation wrong bs) s = .next t ∧ s.ObjsBut [] t ∧ s.RegsBut [] t ∧
        t.grants.mapAt = some s.frameNo ∧ ∀ l : GrantLane, t.glane l =
          if s.gl l = 2 ∧ s.grants.mapAt ≠ some s.frameNo then { s.glane l with shadow := (s.glane l).shadow + 1 }
          else s.glane l)) ∧
  (∀ (s : State) (l : GrantLane),
    (s.gl l = 1 → s.grants.reload = none → (∃ k ∈ (s.glane l).source, s.gl k = 3) →
      ∃ t, exec (.grantLaneCopyComplete l) s = .next t ∧ t.glane l = { s.glane l with copied := true } ∧
        s.ObjsBut [] t ∧ s.RegsBut [] t) ∧
    (s.gl l ≠ 1 ∨ s.grants.reload.isSome = true ∨ (∀ k ∈ (s.glane l).source, s.gl k ≠ 3) →
      exec (.grantLaneCopyComplete l) s = .next s)) ∧
  (∀ (s : State) (l : GrantLane),
    (s.gl l = 2 → 2 ≤ (s.glane l).shadow → s.grants.reload = none → s.wick % Tm.frame = 0 →
      ∃ t, exec (.grantLaneRejoin l) s = .next t ∧ t.gl l = 3 ∧ t.bit Reg.grantLaneStatus 17 = true ∧
        s.ObjsBut [(State.laneObj l, 0), (.sconceEventsLost, 0)] t ∧ s.RegsBut [Reg.grantLaneStatus] t) ∧
    (s.gl l ≠ 2 ∨ (s.glane l).shadow < 2 ∨ s.grants.reload.isSome = true ∨ s.wick % Tm.frame ≠ 0 →
      exec (.grantLaneRejoin l) s = .next s)) ∧
  (∀ (s : State),
    (s.grants.reload = none →
      ∃ t, exec .grantReload s = .next t ∧ t.grants = { s.grants with reloadDue := true } ∧ s.ObjsBut [] t ∧
        s.RegsBut [] t) ∧
    (s.grants.reload.isSome = true → exec .grantReload s = .next s)) ∧
  (∀ (s : State), s.grants.reload.isSome = true → s.wick % Tm.frame = 0 →
    (∀ l : GrantLane, s.gl l = 2 ∧ 2 ≤ (s.glane l).shadow) → s.grants.voteLater = none → s.grants.reloadDue = false →
    (s.grants.differ = [] → ∃ t, exec .reloadComplete s = .next t ∧ t.grants.reload = none ∧
      (∀ l : GrantLane, t.gl l = if l = 0 ∨ s.on .grantVoteEnable 0 = true then 3 else 0) ∧
      t.bit Reg.grantLaneStatus 17 = true) ∧
    (s.on .grantVoteEnable 0 = true → (∀ a b : GrantLane, a ≠ b → (a.val, b.val) ∈ s.grants.differ) →
      ∃ t, exec .reloadComplete s = .next t ∧ t.grants.reload = none ∧ t.grants.reloadDue = true ∧
        s.ObjsBut [] t ∧ s.RegsBut [] t)) ∧
  (∀ (s : State), s.grants.reload = none ∨ s.wick % Tm.frame ≠ 0 ∨ (∃ l : GrantLane, s.gl l = 2 ∧ (s.glane l).shadow < 2) ∨
    (∀ l : GrantLane, s.gl l ≠ 2) → exec .reloadComplete s = .next s) ∧
  (∀ (s : State) (m : Master) (v : Nat), s.Admits m .grantLaneTest 0 (beBytes 1 v) → v ≤ 2 →
    (s.voters = [0, 1, 2] → s.grants.test = none →
      ∃ t, exec (.grantLaneTest m v) s = .next t ∧ s.Answered t m (some Abort.ok) ∧
        t.grants.test = some (v, s.wick, false, false)) ∧
    (s.voters ≠ [0, 1, 2] ∨ s.grants.test.isSome = true →
      ∃ t, exec (.grantLaneTest m v) s = .next t ∧ s.Answered t m (some Abort.range) ∧ t.grants = s.grants)) ∧
  (∀ (s : State) (l : Nat) (a : Time) (given out : Bool), s.grants.test = some (l, a, given, out) →
    (given = true → out = false → ∃ t, exec .grantLaneTestEnd s = .next t ∧ t.n .grantLaneTestResult 0 = 1 ∧
      t.grants.test = none ∧ t.bit Reg.grantLaneStatus 23 = true ∧ s.ObjsBut [(.grantLaneTestResult, 0)] t) ∧
    (given = true → out = true → s.gl l = 3 → s.now ≤ a + 10 * Tm.ms → ∃ t, exec .grantLaneTestEnd s = .next t ∧
      t.n .grantLaneTestResult 0 = 0 ∧ t.grants.test = none ∧ t.bit Reg.grantLaneStatus 23 = true ∧
      s.ObjsBut [(.grantLaneTestResult, 0)] t) ∧
    (given = true → out = true → a + 10 * Tm.ms < s.now → ∃ t, exec .grantLaneTestEnd s = .next t ∧
      t.n .grantLaneTestResult 0 = 2 ∧ t.grants.test = none ∧ t.gl l = 5 ∧ t.bit Reg.grantLaneStatus 23 = true ∧
      s.ObjsBut [(.grantLaneTestResult, 0), (State.laneObj l, 0)] t) ∧
    (given = false ∨ (out = true ∧ s.gl l ≠ 3 ∧ s.now < a + 10 * Tm.ms) → exec .grantLaneTestEnd s = .next s)) ∧
  (∀ (s : State) (m : Master) (v : Nat), s.Admits m .grantLaneRelease 0 (beBytes 1 v) → v ≤ 2 →
    (s.gl v = 5 → ∃ t, exec (.grantLaneRelease m v) s = .next t ∧ s.Answered t m (some Abort.ok) ∧ t.gl v = 1 ∧
      (t.glane v).source = s.voters.head? ∧ (t.glane v).copied = false) ∧
    (s.gl v ≠ 5 → ∃ t, exec (.grantLaneRelease m v) s = .next t ∧ s.Answered t m (some Abort.range) ∧
      t.grants = s.grants)) ∧
  (∀ (s : State), s.grants.test = none → exec .grantLaneTestEnd s = .next s)

/-- Cooperative orders, FSYNC edges and the largest queue samples (05_grant_engine.md R157, 05_grant_engine.md R158,
05_grant_engine.md R159, 05_grant_engine.md R160, 05_grant_engine.md R163, 05_grant_engine.md R164,
09_queues_shapers_policers.md R285, 12_passage_cascade.md R344). -/
def Obligations.OrdersEdgesAndLargestSamples : Prop :=
  (∀ (s : State) (c : Instr) (a : Fin 65536) (start volume ch t0 m st words : Nat) (rest : List Order),
    (∃ q, c = .passageCooperativeOrder q a start volume ∧ s.psgUp q = true) ∨
    (∃ p e path i, c = .ctiReport p e [⟨some path, some start, some volume⟩] ∧ s.receives p = true ∧
      s.n (if e then .coopEtherType else .coopUdpPort) 0 ≠ 0 ∧ s.coopBinding path = some i ∧
      s.n .coopDevice i = 0xFFFF ∧ s.n .coopAllocation i = a.val) →
    a.val < 16384 → s.allocChan a = ch → ch < 32 → s.gen ch ≠ 0 →
    t0 = ((start : Int) + s.num .channelCoopTimeOffset ch * (Tm.ns : Nat)).toNat → m = (t0 - upDelay) / Tm.frame →
    st = ceilDiv (t0 - upDelay - m * Tm.frame) (max 1 (s.wordSpan ch 1)) →
    words = ceilDiv (volume * (100 + s.n .allocCoopMargin a)) (100 * (wordBits (s.gen ch) / 8)) →
    rest = (s.gch ch).orders.filter (fun x => !(x.alloc == a.val && x.frame == m)) →
    (words ≤ s.orderRoom ch a st → 2 ≤ m → s.wick + 40 * Tm.us ≤ (m - 2) * Tm.frame →
      m ≤ s.frameNo + s.n .channelCoopHorizon ch → rest.length < 256 →
      ∃ t, exec c s = .next t ∧ t.gch ch = { s.gch ch with orders := rest ++ [⟨a, m, st, words, s.now, false⟩] } ∧
        s.ObjsBut [] t ∧ s.RegsBut [] t) ∧
    (s.orderRoom ch a st < words → 2 ≤ m → s.wick + 40 * Tm.us ≤ (m - 2) * Tm.frame →
      m + 1 ≤ s.frameNo + s.n .channelCoopHorizon ch → rest.length < 255 →
      (∀ x ∈ rest, x.alloc = a.val → x.frame ≠ m + 1) →
      ∃ t, exec c s = .next t ∧ s.ObjsBut [] t ∧ s.RegsBut [] t ∧
        t.gch ch = { s.gch ch with orders := rest ++ [⟨a, m, st, s.orderRoom ch a st, s.now, false⟩,
          ⟨a, m + 1, s.leadOf ch (s.profileOf ch (s.profileFor (s.n .allocTerminal a) ch)), words - s.orderRoom ch a st,
            s.now, false⟩] }) ∧
    (words ≤ s.orderRoom ch a st → m < 2 ∨ (m - 2) * Tm.frame < s.wick + 40 * Tm.us →
      ∃ t, exec c s = .next t ∧ t.grants = s.grants ∧
        t.n .coopOrdersRejected ch = (s.n .coopOrdersRejected ch + 1) % 2 ^ 64 ∧
        t.n .coopOrdersLate ch = (s.n .coopOrdersLate ch + 1) % 2 ^ 64 ∧ t.bit (Reg.grantChStatus ch) 13 = true) ∧
    (words ≤ s.orderRoom ch a st → 2 ≤ m → s.wick + 40 * Tm.us ≤ (m - 2) * Tm.frame →
      s.frameNo + s.n .channelCoopHorizon ch < m →
      ∃ t, exec c s = .next t ∧ t.grants = s.grants ∧
        t.n .coopOrdersRejected ch = (s.n .coopOrdersRejected ch + 1) % 2 ^ 64 ∧
        t.n .coopOrdersLate ch = s.n .coopOrdersLate ch ∧ t.bit (Reg.grantChStatus ch) 13 = true)) ∧
  (∀ (s : State) (p : Uplink) (e : Bool) (path st v : Option Nat), s.receives p = true →
    s.n (if e then .coopEtherType else .coopUdpPort) 0 ≠ 0 →
    path = none ∨ st = none ∨ v = none ∨ (∃ x ∈ path, s.coopBinding x = none) →
    ∃ t, exec (.ctiReport p e [⟨path, st, v⟩]) s = .next t ∧ t.grants = s.grants ∧
      t.n .coopOrdersUnattributed 0 = (s.n .coopOrdersUnattributed 0 + 1) % 2 ^ 64) ∧
  (∀ (s : State) (q : Psg) (a : Fin 65536) (start volume : Nat), s.psgUp q = true →
    16384 ≤ a.val ∨ s.allocChan a = 255 ∨ s.gen (s.allocChan a) = 0 →
    ∃ t, exec (.passageCooperativeOrder q a start volume) s = .next t ∧ t.grants = s.grants ∧
      t.n .coopOrdersUnattributed 0 = (s.n .coopOrdersUnattributed 0 + 1) % 2 ^ 64) ∧
  (∀ (s : State) (p : Uplink) (e : Bool) (es : List CtiEntry) (q : Psg) (a : Fin 65536) (x y : Nat),
    (s.receives p = false ∨ s.n (if e then .coopEtherType else .coopUdpPort) 0 = 0 →
      exec (.ctiReport p e es) s = .next s) ∧
    (s.psgUp q = false → exec (.passageCooperativeOrder q a x y) s = .next s)) ∧
  (∀ (s : State) (stamp : Time), (∀ a ∈ s.grants.fsyncAt, a + 500 * Tm.us ≤ stamp) →
    ∃ t, exec (.fsyncEdge (s.n .fsyncEdge 0 == 0) stamp) s = .next t ∧ t.grants.fsyncAt = some stamp ∧
      t.grants.fsyncP = some ((stamp + Tm.frame / 2) / Tm.frame) ∧ t.grants.fsyncLost = false ∧
      (∀ (ch : Chan) (q : Nat), s.grants.fsyncP = some q →
        (((stamp + Tm.frame / 2) / Tm.frame : Nat) : Int) % (s.n .channelEpochFrames ch : Nat) =
          (q : Int) % (s.n .channelEpochFrames ch : Nat) →
        (t.gch ch).phase = some ((stamp + Tm.frame / 2) / Tm.frame)) ∧
      (∀ ch : Chan, s.grants.fsyncP = none → (t.gch ch).phase = (s.gch ch).phase) ∧ s.ObjsBut [] t ∧ s.RegsBut [] t) ∧
  (∀ (s : State) (stamp a : Time), s.grants.fsyncAt = some a → stamp < a + 500 * Tm.us →
    ∃ t, exec (.fsyncEdge (s.n .fsyncEdge 0 == 0) stamp) s = .next t ∧
      t.grants.fsyncIgnored = s.grants.fsyncIgnored + 1 ∧ t.grants.fsyncP = s.grants.fsyncP ∧
      t.grants.chans = s.grants.chans ∧ s.ObjsBut [] t ∧ s.RegsBut [] t) ∧
  (∀ (s : State) (stamp : Time), exec (.fsyncEdge (s.n .fsyncEdge 0 != 0) stamp) s = .next s) ∧
  (∀ (s : State) (a : Time), s.grants.fsyncAt = some a →
    (a + s.n .fsyncLostTimeout 0 * Tm.ms ≤ s.wick → s.grants.fsyncLost = false →
      ∃ t, exec .fsyncLost s = .next t ∧ t.bit Reg.grantFsync 3 = true ∧ t.grants = { s.grants with fsyncLost := true } ∧
        s.Raised t 3 .fsyncLostTimeout 0 (beBytes 4 0) ∧
        s.ObjsBut [(.sconceEventsLost, 0)] t ∧ s.RegsBut [Reg.grantFsync] t) ∧
    (a ≤ s.wick → s.wick < a + s.n .fsyncLostTimeout 0 * Tm.ms → exec .fsyncLost s = .next s)) ∧
  (∀ (s : State), s.grants.fsyncLost = true → exec .fsyncLost s = .next s) ∧
  (∀ (s : State) (m : Master) (delay : Bool) (q : Queue), s.Takes m → s.boot.recovery = false →
    let o : Obj := if delay then .queueDelayMax else .queueDepthMax
    ∃ t, exec (.queueMaxRead m delay q) s = .next t ∧ s.Returned t m (beBytes 4 (s.n o q)) ∧ t.n o q = 0 ∧
      s.ObjsBut [(o, q.val), (.sconceRequests, 0)] t)

/-- A step of Wick applied at its boundary, and PTP messages sent (06_time_and_holdover.md R184,
06_time_and_holdover.md R186, 06_time_and_holdover.md R191, 11_uplink_ports.md R317). -/
def Obligations.StepsAndTimeMessages : Prop :=
  (∀ (s : State), s.wickRuns = false ∨ s.clk.step = none → exec .wickStep s = .next s) ∧
  (∀ (s : State) (g : StepTarget) (a : Time) (theta : Int), s.wickRuns = true → s.clk.step = some (g, a) →
    theta = (match g with
      | .domain d => (s.runTo s.nextBoundary).domOffset (if d = 0 then 0 else 1)
      | .time b => (b : Int) - (s.nextBoundary : Int)
      | .offset x => x) →
    (∀ ch : Chan, s.laneState ch = 0) → 0 ≤ (s.nextBoundary : Int) + theta →
    ∃ t, exec .wickStep s = .next t ∧ (t.wick : Int) = s.nextBoundary + theta ∧ t.clk.step = none ∧
      t.clk.residual = 0 ∧
      t.n .wickStepCount 0 = (if theta = 0 then s.n .wickStepCount 0 else (s.n .wickStepCount 0 + 1) % 256) ∧
      (theta ≠ 0 → t.bit Reg.wickStatus 10 = true ∧ t.grants.fsyncP = none ∧ t.grants.fsyncOk = false)) ∧
  (∀ (s : State) (g : StepTarget) (a : Time) (j r : Int) (ch : Chan), s.wickRuns = true → s.clk.step = some (g, a) →
    j * (Tm.frame : Nat) + r = (match g with
      | .domain d => (s.runTo s.nextBoundary).domOffset (if d = 0 then 0 else 1)
      | .time b => (b : Int) - (s.nextBoundary : Int)
      | .offset x => x) →
    (2 * r.natAbs < Tm.frame ∨ (2 * r.natAbs = Tm.frame ∧ 0 ≤ (j * (Tm.frame : Nat) + r) * r)) → s.laneState ch ≠ 0 →
    0 ≤ (s.nextBoundary : Int) + j * (Tm.frame : Nat) →
    ∃ t, exec .wickStep s = .next t ∧ (t.wick : Int) = s.nextBoundary + j * (Tm.frame : Nat) ∧ t.clk.step = none ∧
      t.clk.residual = (match g with | .domain _ => 0 | _ => r) ∧
      t.n .wickStepCount 0 = (if j = 0 then s.n .wickStepCount 0 else (s.n .wickStepCount 0 + 1) % 256) ∧
      (j ≠ 0 → t.bit Reg.wickStatus 10 = true ∧ t.grants.fsyncP = none ∧ t.grants.fsyncOk = false)) ∧
  (∀ (s : State) (p : Uplink) (type : Fin 16) (seq : Fin 65536) (h : FrameHdr) (pool : Nat), s.avail = true →
    s.on .ptpPortEnable p = true → s.uplinkUp p = true → s.ptpSends p type = true → h.len ≤ 256 →
    s.tailDrops (txKey (8 * p + 7)) 0 h.len = false → s.grant (s.requester (txKey (8 * p + 7))) 0 = .inr pool →
    ∃ t d, exec (.ptpMessageSend p type seq h) s = .next t ∧
      t.queue (txKey (8 * p + 7)) = s.queue (txKey (8 * p + 7)) ++ [d] ∧ d.len = h.len ∧ d.ptp = true ∧ d.cls = 7 ∧
      d.psg.take 3 = [type.val, seq.val, s.ptpDomain p] ∧ d.check = h.fcs ∧ t.verdict d.cell = 1 ∧
      t.ptpRecent p type = s.now :: s.ptpRecent p type) ∧
  (∀ (s : State) (p : Uplink) (type : Fin 16) (seq : Fin 65536) (h : FrameHdr), s.avail = true →
    s.on .ptpPortEnable p = true → s.uplinkUp p = true → s.ptpSends p type = true →
    ∃ t d, exec (.ptpMessageSend p type seq h) s = .next t ∧ t.ptpRecent p type = s.now :: s.ptpRecent p type ∧
      (t.queue (txKey (8 * p + 7)) = s.queue (txKey (8 * p + 7)) ∨
        t.queue (txKey (8 * p + 7)) = s.queue (txKey (8 * p + 7)) ++ [d] ∧ d.len = h.len ∧ d.ptp = true)) ∧
  (∀ (s : State) (p : Uplink) (type : Fin 16) (seq : Fin 65536) (h : FrameHdr), s.avail = false ∨
    s.on .ptpPortEnable p = false ∨ s.uplinkUp p = false ∨
    (type.val = 0 ∨ type.val = 9) ∧ (128 ≤ (s.ptpRecent p type).length ∨ s.n .ptpPortState p ≠ 6) ∨
    type.val = 11 ∧ (8 ≤ (s.ptpRecent p type).length ∨ s.n .ptpPortState p ≠ 6) ∨
    type.val = 1 ∧ s.n .ptpPortState p ≠ 9 ∨ type.val = 8 ∧ s.n .ptpPortState p ≠ 6 ∨
    type.val ∉ [0, 1, 8, 9, 11, 12] →
    exec (.ptpMessageSend p type seq h) s = .next s)

/-- Frames received on an uplink port, accepted, counted or dropped (08_classification.md R241, 11_uplink_ports.md
R312, 11_uplink_ports.md R313, 11_uplink_ports.md R314, 11_uplink_ports.md R320, 11_uplink_ports.md R322,
13_ciphers_keys_and_attestation.md R362). -/
def Obligations.UplinkFramesReceived : Prop :=
  (∀ (s : State) (p : Uplink) (pipe : Pipeline) (f : RxFrame), s.receives p = false →
    (s.n .uplinkLinkState p ≠ 3 ∨ s.boot.glim = true → exec (.uplinkFrameReceived p pipe f) s = .next s) ∧
    (s.n .uplinkLinkState p = 3 → s.boot.glim = false →
      exec (.uplinkFrameReceived p pipe f) s = .next { s with
        sent := s.sent ++ [.ethernet p 2 [f.hdr.len] (f.hdr.bytes.take editSpan) (some f.hdr.fcs) none] })) ∧
  (∀ (s : State) (p : Uplink) (pipe : Pipeline) (f : RxFrame) (o : Obj), s.receives p = true →
    ((f.codeError = true ∨ 0 < f.uncorrectable) ∧ o = .uplinkDropCode ∨
     (f.codeError = false ∧ f.uncorrectable = 0) ∧ (f.hdr.len < 64 ∧ o = .uplinkDropRunt ∨
      64 ≤ f.hdr.len ∧ s.n .uplinkMaxFrame p < f.hdr.len ∧ o = .uplinkDropOversize ∨
      64 ≤ f.hdr.len ∧ f.hdr.len ≤ s.n .uplinkMaxFrame p ∧ (f.fcsOk = false ∧ f.pending = false ∧ o = .uplinkDropFcs ∨
       (f.fcsOk = true ∨ f.pending = true) ∧ f.hdr.etype = 0x8808 ∧ f.control ≠ some 1 ∧ f.control ≠ some 0x101 ∧
         o = .uplinkDropMacControl))) →
    ∃ t, exec (.uplinkFrameReceived p pipe f) s = .next t ∧ t.n o p = (s.n o p + 1) % 2 ^ 64 ∧
      t.n .uplinkFecCorrected p = (s.n .uplinkFecCorrected p + f.corrected) % 2 ^ 64 ∧
      t.n .uplinkFecUncorrectable p = (s.n .uplinkFecUncorrectable p + f.uncorrectable) % 2 ^ 64 ∧
      (0 < f.uncorrectable → t.bit (Reg.uplStatus p) 8 = true) ∧
      s.ObjsBut [(o, p.val), (.uplinkFecCorrected, p.val), (.uplinkFecUncorrectable, p.val)] t ∧
      s.RegsBut [Reg.uplStatus p] t ∧ t.tm = s.tm ∧ t.gal = s.gal ∧ t.clk = s.clk ∧ t.sent = s.sent) ∧
  (∀ (s : State) (p : Uplink) (pipe : Pipeline) (f : RxFrame), s.receives p = true → f.codeError = false →
    f.uncorrectable = 0 → 64 ≤ f.hdr.len → f.hdr.len ≤ s.n .uplinkMaxFrame p → f.fcsOk = true ∨ f.pending = true →
    (f.hdr.etype = 0x8808 → f.control = some 1 ∨ f.control = some 0x101) →
    ∃ t, exec (.uplinkFrameReceived p pipe f) s = .next t ∧
      t.n .uplinkRxFrames p = (s.n .uplinkRxFrames p + 1) % 2 ^ 64 ∧
      t.n .uplinkRxBytes p = (s.n .uplinkRxBytes p + f.hdr.len) % 2 ^ 64 ∧
      tabGet (fun _ => 0) t.clk.stamps (32 + p.val) = State.stampOf s.wick (- s.num .ptpPortIngressDelay p) ∧
      (f.hdr.etype = 0x8808 → t.tm = s.tm ∧ t.gal = s.gal ∧ t.sent = s.sent ∧
        let o := if s.honours p (if f.control = some 1 then 1 else 2) then Obj.uplinkPauseHonoured else .uplinkPauseIgnored
        t.n o p = (s.n o p + 1) % 2 ^ 64) ∧
      (f.hdr.etype ≠ 0x8808 → s.on .uplinkMacsecEnable p = false → s.on .ptpPortEnable p = true → f.hdr.ptp = true →
        t.tm.queues = s.tm.queues ∧ t.tm.cells = s.tm.cells ∧ t.gal = s.gal)) ∧
  (∀ (s : State) (p : Uplink) (pipe : Pipeline) (f : RxFrame) (o : Obj), s.receives p = true → f.codeError = false →
    f.uncorrectable = 0 → 64 ≤ f.hdr.len → f.hdr.len ≤ s.n .uplinkMaxFrame p → f.fcsOk = true ∨ f.pending = true →
    s.on .uplinkMacsecEnable p = true → f.hdr.etype ≠ 0x8808 → f.hdr.etype ≠ 0x888E →
    f.hdr.ptp = false ∨ s.on .uplinkMacsecPtpClear p = false → s.n .uplinkMacsecValidate p ≠ 0 →
    (f.sec = none ∧ s.n .uplinkMacsecValidate p = 2 ∧ o = .uplinkMacsecUntagged) ∨
    (∃ g ∈ f.sec, s.rxSa p g.an g.sci = none ∧ o = .macsecRxNoSa) ∨
    (∃ g ∈ f.sec, ∃ i ∈ s.rxSa p g.an g.sci, s.pnCheck i (s.recoverPn i g.pn) = .late ∧ o = .macsecRxLate) ∨
    (∃ g ∈ f.sec, ∃ i ∈ s.rxSa p g.an g.sci, s.pnCheck i (s.recoverPn i g.pn) = .replay ∧ o = .macsecRxBadTag) →
    ∃ t, exec (.uplinkFrameReceived p pipe f) s = .next t ∧ t.n o p = (s.n o p + 1) % 2 ^ 64 ∧
      t.n .uplinkRxFrames p = (s.n .uplinkRxFrames p + 1) % 2 ^ 64 ∧ t.tm = s.tm ∧ t.gal = s.gal ∧ t.sent = s.sent)

/-- Pause and PFC received and sent, and pressure signalled (10_sump_buffer_pools.md R298, 11_uplink_ports.md R314,
11_uplink_ports.md R315, 11_uplink_ports.md R316). -/
def Obligations.FlowControlBothWays : Prop :=
  (∀ (s : State) (p : Uplink) (time : Fin 65536) (e : BitVec 8) (times : Vector Nat 8),
    s.n .uplinkLinkState p ≠ 2 ∨ s.n .uplinkSnuffPhase p = 3 ∨ s.boot.glim = true →
    exec (.pauseFrameReceived p time) s = .next s ∧ exec (.pfcFrameReceived p e times) s = .next s) ∧
  (∀ (s : State) (p : Uplink) (time : Fin 65536), s.n .uplinkLinkState p = 2 → s.n .uplinkSnuffPhase p ≠ 3 →
    s.boot.glim = false →
    ∃ t, exec (.pauseFrameReceived p time) s = .next t ∧ t.n .uplinkRxFrames p = (s.n .uplinkRxFrames p + 1) % 2 ^ 64 ∧
      t.tm = s.tm ∧ t.gal = s.gal ∧ t.sent = s.sent ∧
      (s.on .uplinkPauseHonour p = true → s.n .uplinkFlowControl p = 1 →
        (∀ c : Fin 8, tabFind (t.upl p).stops c =
          if time = 0 then none else some (s.now + time * 512000 * Tm.ns / s.portRate p)) ∧
        t.n .uplinkPauseHonoured p = (s.n .uplinkPauseHonoured p + 1) % 2 ^ 64) ∧
      (s.on .uplinkPauseHonour p = false ∨ s.n .uplinkFlowControl p ≠ 1 → t.uplinks = s.uplinks ∧
        t.n .uplinkPauseIgnored p = (s.n .uplinkPauseIgnored p + 1) % 2 ^ 64 ∧ t.bit (Reg.uplStatus p) 10 = true)) ∧
  (∀ (s : State) (p : Uplink) (e : BitVec 8) (times : Vector Nat 8), s.n .uplinkLinkState p = 2 →
    s.n .uplinkSnuffPhase p ≠ 3 → s.boot.glim = false →
    ∃ t, exec (.pfcFrameReceived p e times) s = .next t ∧ t.n .uplinkRxFrames p = (s.n .uplinkRxFrames p + 1) % 2 ^ 64 ∧
      t.tm = s.tm ∧ t.gal = s.gal ∧ t.sent = s.sent ∧
      (s.on .uplinkPauseHonour p = true → s.n .uplinkFlowControl p = 2 →
        t.n .uplinkPauseHonoured p = (s.n .uplinkPauseHonoured p + 1) % 2 ^ 64 ∧
        ∀ c : Fin 8, tabFind (t.upl p).stops c =
          if e.getLsbD c = true ∧ s.n .uplinkPfcClasses p / 2 ^ c.val % 2 = 1 then
            (if times[c] % 65536 = 0 then none else some (s.now + times[c] % 65536 * 512000 * Tm.ns / s.portRate p))
          else tabFind (s.upl p).stops c) ∧
      (s.on .uplinkPauseHonour p = false ∨ s.n .uplinkFlowControl p ≠ 2 → t.uplinks = s.uplinks ∧
        t.n .uplinkPauseIgnored p = (s.n .uplinkPauseIgnored p + 1) % 2 ^ 64 ∧ t.bit (Reg.uplStatus p) 10 = true)) ∧
  (∀ (s : State) (p : Uplink) (c : Fin 8),
    ((∀ e ∈ tabFind (s.upl p).stops c, e ≤ s.now) →
      ∃ t, exec (.pauseStopExpiry p c) s = .next t ∧ tabFind (t.upl p).stops c = none ∧
        (∀ d : Fin 8, d ≠ c → tabFind (t.upl p).stops d = tabFind (s.upl p).stops d) ∧ s.ObjsBut [] t ∧
        s.RegsBut [] t) ∧
    ((∃ e ∈ tabFind (s.upl p).stops c, s.now < e) → exec (.pauseStopExpiry p c) s = .next s)) ∧
  (∀ (s : State) (p : Uplink), s.n .uplinkLinkState p = 2 → (s.upl p).announced ≠ 0 →
    s.stopWanted p = (s.upl p).announced → (s.upl p).annAt + (s.upl p).annFor / 2 ≤ s.now →
    ∃ t, exec (.flowControlRefresh p) s = .next t ∧ (t.upl p).annAt = s.now ∧
      t.sent = s.sent ++ [.ethernet p 1
        [s.n .uplinkFlowControl p, s.uplinkMacOf p, (s.upl p).announced, s.n .uplinkPauseQuanta p, 0] [] none none] ∧
      t.n .uplinkPauseSent p = (s.n .uplinkPauseSent p + 1) % 2 ^ 64 ∧ s.ObjsBut [(.uplinkPauseSent, p.val)] t ∧
      s.RegsBut [] t) ∧
  (∀ (s : State) (p : Uplink), s.n .uplinkLinkState p ≠ 2 ∨ (s.upl p).announced = 0 ∨
    s.stopWanted p ≠ (s.upl p).announced ∨ s.now < (s.upl p).annAt + (s.upl p).annFor / 2 →
    exec (.flowControlRefresh p) s = .next s) ∧
  (∀ (s : State) (k : Fin 16), (2 ≤ s.n .poolState k ↔ k.val ∉ s.tm.signalled) →
    ∃ t, exec (.pressureSignal k) s = .next t ∧
      t.tm = { s.tm with signalled :=
        (if 2 ≤ s.n .poolState k then s.tm.signalled ++ [k.val] else s.tm.signalled.erase k.val) } ∧
      ∀ p : Uplink, (t.upl p).announced =
        if s.n .uplinkLinkState p = 2 then t.stopWanted p else (s.upl p).announced) ∧
  (∀ (s : State) (k : Fin 16), (2 ≤ s.n .poolState k ↔ k.val ∈ s.tm.signalled) →
    exec (.pressureSignal k) s = .next s)

/-- Links up and down, loops, and the next frame of a port (06_time_and_holdover.md R201,
07_learning_and_forwarding.md R237, 09_queues_shapers_policers.md R284, 11_uplink_ports.md R311, 11_uplink_ports.md
R317, 11_uplink_ports.md R322, 12_passage_cascade.md R342, 13_ciphers_keys_and_attestation.md R362,
13_ciphers_keys_and_attestation.md R364). -/
def Obligations.UplinkLinksAndSending : Prop :=
  (∀ (s : State) (p : Uplink),
    let ready := s.n .uplinkLinkState p = 1 ∧ s.n .uplinkSnuffPhase p = 0 ∧ s.portExists p = true ∧
      (s.upl p).pll % 16 &&& (2 ^ s.portLanes p - 1) = 2 ^ s.portLanes p - 1
    (ready → ∃ t, exec (.uplinkLinkUp p) s = .next t ∧ t.n .uplinkLinkState p = 2 ∧ t.bit (Reg.uplStatus p) 9 = true ∧
      s.Raised t 1 .uplinkLinkState p (beBytes 1 1 ++ beBytes 1 2)) ∧
    (¬ ready → exec (.uplinkLinkUp p) s = .next s)) ∧
  (∀ (s : State) (p : Uplink) (lost : Nat) (locks : Vector Nat 4),
    (s.n .uplinkLinkState p = 2 → s.n .uplinkLinkDownHold p ≤ lost →
      ∃ t, exec (.uplinkLinkDown p lost locks) s = .next t ∧ t.n .uplinkLinkState p = 1 ∧
        t.bit (Reg.uplStatus p) 9 = true ∧ s.Raised t 1 .uplinkLinkState p (beBytes 1 2 ++ beBytes 1 1) ∧
        (∀ c : Fin 8, t.queue (txKey (8 * p + c)) = []) ∧
        t.n .uplinkTxLinkDownDrops p = (s.n .uplinkTxLinkDownDrops p +
          ((List.range 8).map fun c => (s.queue (txKey (8 * p + c))).length).sum) % 2 ^ 64 ∧
        (t.upl p).stops = [] ∧ (t.upl p).announced = 0 ∧
        t.gal.flushes = (if s.on .galleryFlushOnLinkDown 0 = true ∧ s.boot.glimEntry = none then
          s.gal.flushes ++ [⟨0xFFFF, 1, p, none, false, none⟩] else s.gal.flushes)) ∧
    (s.n .uplinkLinkState p ≠ 2 ∨ lost < s.n .uplinkLinkDownHold p →
      ∃ t, exec (.uplinkLinkDown p lost locks) s = .next t ∧ s.ObjsBut [] t ∧ s.RegsBut [] t ∧ t.tm = s.tm ∧
        t.gal = s.gal ∧ t.uplinks = s.uplinks)) ∧
  (∀ (s : State) (m : Master) (p : Uplink) (v : Fin 2), s.Admits m .uplinkLoop p (beBytes 1 v) →
    ∃ t, exec (.uplinkLoop m p v) s = .next t ∧ s.Answered t m (some Abort.ok) ∧ t.n .uplinkLoop p = v ∧
      t.n .uplinkLinkState p = (if v = 1 ∧ s.n .uplinkLinkState p ≠ 0 then 3
        else if v = 0 ∧ s.n .uplinkLinkState p = 3 then 1 else s.n .uplinkLinkState p) ∧
      (v = 1 → s.n .uplinkLinkState p = 2 →
        (∀ c : Fin 8, t.queue (txKey (8 * p + c)) = []) ∧ (t.upl p).stops = [])) ∧
  (∀ (s : State) (p : Port) (c : Fin 8) (stamp : Nat) (d : QDesc) (rest : List QDesc), p.val < 16 →
    s.portSends p = true → s.skips 3 p = false → s.queue (txKey (8 * p + c)) = d :: rest →
    (∀ e : Fin 8, c < e → s.queue (txKey (8 * p + e)) = []) → s.verdict d.cell = 1 → s.controlled p d = false →
    d.len ≤ s.n .uplinkMaxFrame p → s.stopped p c = false → s.peakOk .tx (8 * p + c) = true →
    s.peakOk .port p = true →
    let at_ := State.stampOf stamp (s.num .ptpPortEgressDelay p)
    ∃ t, exec (.uplinkTransmitFrame p stamp) s = .next t ∧ t.queue (txKey (8 * p + c)) = rest ∧
      t.n .uplinkTxFrames p = (s.n .uplinkTxFrames p + 1) % 2 ^ 64 ∧
      t.n .uplinkTxBytes p = (s.n .uplinkTxBytes p + d.len) % 2 ^ 64 ∧
      tabGet (fun _ => 0) t.clk.stamps p = at_ ∧
      (d.ptp = false ∨ s.on .ptpPortOneStep p = false →
        t.sent = s.sent ++ [.ethernet p 0 (d.len :: d.psg) d.head (some d.check) none]) ∧
      (∀ type seq dn off udp, d.psg = [type, seq, dn, off, udp] → d.ptp = true → type < 2 →
        (s.on .ptpPortOneStep p = false → (s.tsQueue p).length < 128 →
          t.tsQueue p = s.tsQueue p ++ [⟨seq, type, dn, at_⟩]) ∧
        (s.on .ptpPortOneStep p = true → type = 0 →
          let e := State.oneStep d (Config.correctionUsed (s.n .ptpPortProfile p)) off udp at_
          t.sent = s.sent ++ [.ethernet p 0 (e.len :: e.psg) e.head (some e.check) none]))) ∧
  (∀ (s : State) (p : Port) (c : Fin 8) (stamp i : Nat) (d : QDesc) (rest : List QDesc), p.val < 16 →
    s.portSends p = true → s.skips 3 p = false → s.queue (txKey (8 * p + c)) = d :: rest →
    (∀ e : Fin 8, c < e → s.queue (txKey (8 * p + e)) = []) → s.verdict d.cell = 1 → s.controlled p d = true →
    s.txSa p = some i → d.ptp = false →
    d.len ≤ s.n .uplinkMaxFrame p → s.stopped p c = false → s.peakOk .tx (8 * p + c) = true →
    s.peakOk .port p = true →
    ∃ t, exec (.uplinkTransmitFrame p stamp) s = .next t ∧ t.queue (txKey (8 * p + c)) = rest ∧
      t.n .macsecTxProtected p = (s.n .macsecTxProtected p + 1) % 2 ^ 64 ∧
      t.sent = s.sent ++ [.ethernet p 0 (d.len :: d.psg) d.head none
        (some ⟨s.n .saAn i, (s.saAssign i).1, s.txSci p⟩)]) ∧
  (∀ (s : State) (q : Psg) (c : Fin 8) (stamp : Nat) (d : QDesc) (rest : List QDesc), s.portSends (16 + q) = true →
    s.skips 3 (16 + q) = false → s.queue (transitKey q c) = d :: rest →
    (∀ e : Fin 8, c < e → s.queue (transitKey q e) = [] ∧ s.queue (txKey (8 * (16 + q) + e)) = []) →
    s.verdict d.cell = 1 → s.on .macsecPortEnable (16 + q) = false → s.creditCells q d.len ≤ s.creditLeft q c →
    ∃ t, exec (.uplinkTransmitFrame (Fin.ofNat 20 (16 + q.val)) stamp) s = .next t ∧ t.queue (transitKey q c) = rest ∧
      t.queue (txKey (8 * (16 + q) + c)) = s.queue (txKey (8 * (16 + q) + c)) ∧
      t.n .passageTxFrames q = (s.n .passageTxFrames q + 1) % 2 ^ 64 ∧
      (t.psg q).sent[c] = ((s.psg q).sent[c] + s.creditCells q d.len) % 65536 ∧
      ∃ crc, t.sent = s.sent ++ [.passage q 0 (d.len :: d.psg) (State.headerOf d) crc none]) ∧
  (∀ (s : State) (p : Port) (stamp : Nat),
    (s.portSends p = false ∨ s.skips 3 p = true → exec (.uplinkTransmitFrame p stamp) s = .next s) ∧
    ((∀ c : Fin 8, ∀ k ∈ State.classQueues p c, s.queue k = []) → exec (.uplinkTransmitFrame p stamp) s = .next s)) ∧
  (∀ (s : State) (p : Port) (c : Fin 8) (key : Nat) (d : QDesc) (rest : List QDesc) (a : Time),
    key = (if 16 ≤ p.val ∧ s.queue (transitKey (p.val - 16) c) ≠ [] then transitKey (p.val - 16) c
      else txKey (8 * p + c)) → s.queue key = d :: rest → d.held = some a → a + 100 * Tm.ms ≤ s.now →
    s.controlled p d = true → s.txSa p = none →
    ∃ t, exec (.macsecHeldDiscard p c) s = .next t ∧ t.queue key = rest ∧ t.sent = s.sent ∧
      t.n .macsecNoSaDrops p = (s.n .macsecNoSaDrops p + 1) % 2 ^ 64) ∧
  (∀ (s : State) (p : Port) (c : Fin 8), s.txSa p ≠ none ∨ (∀ k ∈ State.classQueues p c, ∀ d ∈ (s.queue k).head?,
      s.controlled p d = false ∨ ∀ a ∈ d.held, s.now < a + 100 * Tm.ms) →
    exec (.macsecHeldDiscard p c) s = .next s)

/-- Gallery entries learned, moved, aged, taken from the stash and restored (07_learning_and_forwarding.md R221,
07_learning_and_forwarding.md R223, 07_learning_and_forwarding.md R224, 07_learning_and_forwarding.md R225,
07_learning_and_forwarding.md R226, 07_learning_and_forwarding.md R228, 07_learning_and_forwarding.md R230,
07_learning_and_forwarding.md R231, 07_learning_and_forwarding.md R232, 07_learning_and_forwarding.md R236,
08_classification.md R247, 08_classification.md R257). -/
def Obligations.EntriesLearnedAndKept : Prop :=
  (∀ (s : State) (k : Fin 4) (r : LearnReq) (rest : List LearnReq) (p : Nat), s.gal.queues[k] = r :: rest →
    s.gal.flushing = false → s.bit Reg.galCtrl 0 = true → s.bit Reg.galCtrl 1 = true → s.boot.glim = false →
    s.galFind r.domain r.mac = none → s.atLimit r.kind r.dest = false →
    (s.freeWay 0 (galBucket 0 r.domain r.mac) = some p ∨
      s.freeWay 0 (galBucket 0 r.domain r.mac) = none ∧ (s.freeWay 1 (galBucket 1 r.domain r.mac) = some p ∨
        s.freeWay 1 (galBucket 1 r.domain r.mac) = none ∧ s.findPath 0 (galBucket 0 r.domain r.mac) [] 32 = none ∧
        524288 ≤ p ∧ p < 524352 ∧ s.galAt p = none ∧ ∀ q : Fin 64, 524288 + q.val < p → s.galAt (524288 + q) ≠ none)) →
    ∃ t, exec (.learnRequestProcessed k) s = .next t ∧ t.gal.queues = s.gal.queues.set k rest ∧
      t.galAt p = some ⟨false, false, true, r.kind, r.dest, r.domain, r.mac, r.flow, 0, 0, 0⟩ ∧
      t.n .learnsInserted 0 = (s.n .learnsInserted 0 + 1) % 2 ^ 64 ∧ (∀ q, q ≠ p → t.galAt q = s.galAt q) ∧
      (r.kind ≠ 0 ∨ s.on .domainCascadeLearn r.domain = false → t.tm = s.tm)) ∧
  (∀ (s : State) (k : Fin 4) (r : LearnReq) (rest : List LearnReq) (path : List Nat), s.gal.queues[k] = r :: rest →
    s.gal.flushing = false → s.bit Reg.galCtrl 0 = true → s.bit Reg.galCtrl 1 = true → s.boot.glim = false →
    s.galFind r.domain r.mac = none → s.atLimit r.kind r.dest = false →
    s.freeWay 0 (galBucket 0 r.domain r.mac) = none → s.freeWay 1 (galBucket 1 r.domain r.mac) = none →
    s.findPath 0 (galBucket 0 r.domain r.mac) [] 32 = some path →
    ∃ t, exec (.learnRequestProcessed k) s = .next t ∧ t.gal.queues = s.gal.queues.set k rest ∧
      t.galAt (path.getLast?.getD 0) = some ⟨false, false, true, r.kind, r.dest, r.domain, r.mac, r.flow, 0, 0, 0⟩ ∧
      t.n .learnsInserted 0 = (s.n .learnsInserted 0 + 1) % 2 ^ 64 ∧
      ∀ q, q ∉ path → q ≠ 0 → t.galAt q = s.galAt q) ∧
  (∀ (s : State) (k : Fin 4) (r : LearnReq) (rest : List LearnReq), s.gal.queues[k] = r :: rest →
    s.gal.flushing = false → s.bit Reg.galCtrl 0 = true → s.bit Reg.galCtrl 1 = true → s.boot.glim = false →
    s.galFind r.domain r.mac = none → s.atLimit r.kind r.dest = false →
    s.freeWay 0 (galBucket 0 r.domain r.mac) = none → s.freeWay 1 (galBucket 1 r.domain r.mac) = none →
    s.findPath 0 (galBucket 0 r.domain r.mac) [] 32 = none → (∀ p : Fin 64, s.galAt (524288 + p) ≠ none) →
    ∃ t, exec (.learnRequestProcessed k) s = .next t ∧ t.gal = { s.gal with queues := s.gal.queues.set k rest } ∧
      t.n .tablePressure 0 = (s.n .tablePressure 0 + 1) % 2 ^ 64 ∧ t.bit Reg.galStatus 8 = true ∧
      s.Raised t 3 .tablePressure 0 (beBytes 4 0)) ∧
  (∀ (s : State) (k : Fin 4) (r : LearnReq) (rest : List LearnReq), s.gal.queues[k] = r :: rest →
    s.gal.flushing = false → s.bit Reg.galCtrl 0 = true → s.bit Reg.galCtrl 1 = true → s.boot.glim = false →
    s.galFind r.domain r.mac = none → s.atLimit r.kind r.dest = true →
    ∃ t, exec (.learnRequestProcessed k) s = .next t ∧ t.gal = { s.gal with queues := s.gal.queues.set k rest } ∧
      t.n .learnLimitExcess 0 = (s.n .learnLimitExcess 0 + 1) % 2 ^ 64 ∧ t.bit Reg.galStatus 13 = true) ∧
  (∀ (s : State) (k : Fin 4) (r : LearnReq) (rest : List LearnReq) (p : Nat) (e : GalEntry),
    s.gal.queues[k] = r :: rest → s.gal.flushing = false → s.bit Reg.galCtrl 0 = true → s.bit Reg.galCtrl 1 = true →
    s.boot.glim = false → s.galFind r.domain r.mac = some (p, e) → e.kind = r.kind → e.dest = r.dest →
    ∃ t, exec (.learnRequestProcessed k) s = .next t ∧ t.gal.queues = s.gal.queues.set k rest ∧ t.sent = s.sent ∧
      t.galAt p = some { e with hit := true, flow := if r.kind = 0 then r.flow else e.flow } ∧
      ∀ q, q ≠ p → t.galAt q = s.galAt q) ∧
  (∀ (s : State) (k : Fin 4) (r : LearnReq) (rest : List LearnReq) (p : Nat) (e : GalEntry),
    s.gal.queues[k] = r :: rest → s.gal.flushing = false → s.bit Reg.galCtrl 0 = true → s.bit Reg.galCtrl 1 = true →
    s.boot.glim = false → s.galFind r.domain r.mac = some (p, e) → ¬ (e.kind = r.kind ∧ e.dest = r.dest) →
    let damped := s.n .galleryMoveLimit 0 ≠ 0 ∧ e.moveSec = s.second % 16 ∧ s.n .galleryMoveLimit 0 ≤ e.moves
    ∃ t, exec (.learnRequestProcessed k) s = .next t ∧ t.gal.queues = s.gal.queues.set k rest ∧
      (∀ q, q ≠ p → t.galAt q = s.galAt q) ∧
      (e.pinned = true ∨ e.static = true ∨ damped ∨ s.atLimit r.kind r.dest = true → t.galAt p = some e) ∧
      (e.pinned = false → e.static = true →
        t.n .staticConflicts 0 = (s.n .staticConflicts 0 + 1) % 2 ^ 64) ∧
      (e.pinned = false → e.static = false → damped →
        t.n .movesDamped 0 = (s.n .movesDamped 0 + 1) % 2 ^ 64 ∧ t.bit Reg.galStatus 10 = true) ∧
      (e.pinned = false → e.static = false → ¬ damped → s.atLimit r.kind r.dest = true →
        t.n .learnLimitExcess 0 = (s.n .learnLimitExcess 0 + 1) % 2 ^ 64 ∧ t.bit Reg.galStatus 13 = true) ∧
      (e.pinned = false → e.static = false → ¬ damped → s.atLimit r.kind r.dest = false →
        t.n .stationMoves 0 = (s.n .stationMoves 0 + 1) % 2 ^ 64 ∧
        t.galAt p = some { e with
          kind := r.kind
          dest := r.dest
          flow := r.flow
          hit := true
          moveSec := s.second % 16
          moves := if e.moveSec = s.second % 16 then min 7 (e.moves + 1) else 1 })) ∧
  (∀ (s : State) (k : Fin 4), s.gal.queues[k] = [] ∨ s.gal.flushing = true ∨ s.bit Reg.galCtrl 0 = false ∨
    s.bit Reg.galCtrl 1 = false ∨ s.boot.glim = true → exec (.learnRequestProcessed k) s = .next s) ∧
  (∀ (s : State) (p : Nat) (e : GalEntry), s.galAt p = some e → e.static = false → s.n .galleryAgeTime 0 ≠ 0 →
    s.bit Reg.galCtrl 0 = true → s.bit Reg.galCtrl 2 = true → s.boot.glim = false → s.boot.glimEntry = none →
    ∃ t, exec (.agerVisit p) s = .next t ∧ (∀ q, q ≠ p → t.galAt q = s.galAt q) ∧
      t.galAt p = (if e.hit then some { e with moves := 0, hit := false, age := 0 }
        else if e.age = 3 then none else some { e with moves := 0, age := e.age + 1 }) ∧
      t.n .agedOut 0 = (if e.hit = false ∧ e.age = 3 then (s.n .agedOut 0 + 1) % 2 ^ 64 else s.n .agedOut 0) ∧
      s.ObjsBut [(.agedOut, 0)] t ∧ s.RegsBut [] t) ∧
  (∀ (s : State) (p : Nat), (∀ e ∈ s.galAt p, e.static = true) ∨ s.n .galleryAgeTime 0 = 0 ∨
    s.bit Reg.galCtrl 0 = false ∨ s.bit Reg.galCtrl 2 = false ∨ s.boot.glim = true ∨ s.boot.glimEntry.isSome = true →
    exec (.agerVisit p) s = .next s) ∧
  (∀ (s : State) (pos : Fin 524288) (p : Nat) (e : GalEntry), s.galAt pos = none → s.bit Reg.galCtrl 0 = true →
    s.boot.glim = false → s.gal.stash.find? (fun p => match s.galAt p with
      | some e => galBucket (pos.val / 262144) e.domain e.mac == pos.val % 262144 / 4
      | none => false) = some p →
    s.galAt p = some e → p ≠ pos.val →
    ∃ t, exec (.stashMigration pos) s = .next t ∧ t.galAt p = none ∧
      t.galAt pos = (if s.gal.flushing = true ∧ (∃ f ∈ s.gal.flushes.head?, State.flushHits f e = true) then none
        else some e) ∧
      ∀ q, q ≠ p → q ≠ pos.val → t.galAt q = s.galAt q) ∧
  (∀ (s : State) (pos : Fin 524288), s.galAt pos ≠ none ∨ s.bit Reg.galCtrl 0 = false ∨ s.boot.glim = true ∨
    s.gal.stash.find? (fun p => match s.galAt p with
      | some e => galBucket (pos.val / 262144) e.domain e.mac == pos.val % 262144 / 4
      | none => false) = none →
    exec (.stashMigration pos) s = .next s) ∧
  (∀ (s : State) (d : BridgeDomain) (mac p : Nat) (e : GalEntry), s.boot.lanternUp = true → s.ucie.headless = false →
    (d.val, mac) ∈ s.gal.lost → (s.gal.shadow.find? fun e => e.domain == d.val && e.mac == mac) = some e →
    (∃ x ∈ s.galFind d mac, x.1 = p) ∨ (s.galFind d mac = none ∧ s.freeWay 0 (galBucket 0 d mac) = some p) →
    ∃ t, exec (.staticRestore d mac) s = .next t ∧ t.galAt p = some e ∧ t.gal.lost = s.gal.lost.erase (d.val, mac) ∧
      (s.galFind d mac = none → e.domain = d.val ∧ e.mac = mac) ∧ (∀ q, q ≠ p → t.galAt q = s.galAt q) ∧
      t.n .staticRestores 0 = (s.n .staticRestores 0 + 1) % 2 ^ 64 ∧ t.bit Reg.galStatus 14 = true) ∧
  (∀ (s : State) (d : BridgeDomain) (mac : Nat), s.boot.lanternUp = false ∨ s.ucie.headless = true ∨
    (d.val, mac) ∉ s.gal.lost → exec (.staticRestore d mac) s = .next s) ∧
  (∀ (s : State) (k : Fin 131072),
    (s.boot.lanternUp = true → s.ucie.headless = false → k.val ∈ s.gal.lostRules →
      ∃ t, exec (.ruleRestore k) s = .next t ∧ t.gal = { s.gal with lostRules := s.gal.lostRules.erase k.val } ∧
        t.n .classRuleRestores 0 = (s.n .classRuleRestores 0 + 1) % 2 ^ 64 ∧
        t.bit Reg.clsStatus 14 = true ∧ s.ObjsBut [(.classRuleRestores, 0)] t ∧ s.RegsBut [Reg.clsStatus] t) ∧
    (s.boot.lanternUp = false ∨ s.ucie.headless = true ∨ k.val ∉ s.gal.lostRules →
      exec (.ruleRestore k) s = .next s)) ∧
  (∀ s : State, ∃ t, exec .fragmentRecordExpiry s = .next t ∧
    t.frags = (s.frags.filter fun r => decide (s.now < r.born + s.n .classFragLife 0 * Tm.ms)) ∧
    s.ObjsBut [] t ∧ s.RegsBut [] t)

/-- The host's Gallery commands: search, insert, delete, walks and flushes (07_learning_and_forwarding.md R216,
07_learning_and_forwarding.md R228, 07_learning_and_forwarding.md R233, 07_learning_and_forwarding.md R234,
07_learning_and_forwarding.md R235, 07_learning_and_forwarding.md R236). -/
def Obligations.GalleryCommandsServed : Prop :=
  (∀ (s : State) (m : Master) (c : GalCmd), s.Admits m .galleryCommand m (State.galWord 1 c) → State.galParse (State.galWord 1 c) = c →
    State.galFormed 1 (State.galWord 1 c) c = true →
    ∃ t, exec (.gallerySearch m c) s = .next t ∧ s.Answered t m (some Abort.ok) ∧ t.gal.entries = s.gal.entries ∧
      t.oct .galleryResult m = (match s.galFind c.domain c.mac with
        | some (_, e) => beBytes 1 c.tag ++ beBytes 1 0 ++ beBytes 4 0 ++ beBytes 1 1 ++ State.galBytes e
        | none => beBytes 1 c.tag ++ beBytes 1 1 ++ beBytes 4 0 ++ beBytes 1 0)) ∧
  (∀ (s : State) (m : Master) (c : GalCmd) (p : Nat), s.Admits m .galleryCommand m (State.galWord 2 c) → State.galParse (State.galWord 2 c) = c →
    State.galFormed 2 (State.galWord 2 c) c = true →
    s.galFind c.domain c.mac = none → c.flags % 2 = 0 ∨ s.gal.shadow.length < 65536 →
    s.freeWay 0 (galBucket 0 c.domain c.mac) = some p ∨ (s.freeWay 0 (galBucket 0 c.domain c.mac) = none ∧
      s.freeWay 1 (galBucket 1 c.domain c.mac) = some p) →
    let e : GalEntry := ⟨c.flags % 2 == 1, c.flags / 2 % 2 == 1, false, c.kind, c.dest, c.domain, c.mac,
      if c.kind = 0 then c.flow else 0xFFFF, 0, 0, 0⟩
    ∃ t, exec (.galleryInsert m c) s = .next t ∧ s.Answered t m (some Abort.ok) ∧
      (∀ q, q ≠ p → t.galAt q = s.galAt q) ∧ t.galAt p = some e ∧
      (c.flags % 2 = 1 → e ∈ t.gal.shadow) ∧ (c.flags % 2 = 0 → t.gal.shadow = s.gal.shadow) ∧
      t.oct .galleryResult m = beBytes 1 c.tag ++ beBytes 1 0 ++ beBytes 4 0 ++ beBytes 1 0) ∧
  (∀ (s : State) (m : Master) (c : GalCmd), s.Admits m .galleryCommand m (State.galWord 2 c) → State.galParse (State.galWord 2 c) = c →
    State.galFormed 2 (State.galWord 2 c) c = true →
    s.galFind c.domain c.mac = none → (c.flags % 2 = 1 ∧ 65536 ≤ s.gal.shadow.length) ∨
      (s.freeWay 0 (galBucket 0 c.domain c.mac) = none ∧ s.freeWay 1 (galBucket 1 c.domain c.mac) = none ∧
        s.findPath 0 (galBucket 0 c.domain c.mac) [] 32 = none ∧ ∀ p : Fin 64, s.galAt (524288 + p) ≠ none) →
    ∃ t, exec (.galleryInsert m c) s = .next t ∧ s.Answered t m (some Abort.full) ∧
      t.gal.entries = s.gal.entries ∧ t.gal.shadow = s.gal.shadow) ∧
  (∀ (s : State) (m : Master) (c : GalCmd) (p : Nat) (old : GalEntry), s.Admits m .galleryCommand m (State.galWord 2 c) → State.galParse (State.galWord 2 c) = c →
    State.galFormed 2 (State.galWord 2 c) c = true →
    s.galFind c.domain c.mac = some (p, old) →
    let replace := c.flags / 4 % 2 = 1
    let barred := old.pinned = true ∧ ¬ c.flags / 16 % 2 = 1
    (¬ replace ∨ (¬ barred ∧ old.static = true ∧ ¬ c.flags % 2 = 1) →
      ∃ t, exec (.galleryInsert m c) s = .next t ∧ s.Answered t m (some Abort.ok) ∧ t.gal.entries = s.gal.entries ∧
        t.oct .galleryResult m = beBytes 1 c.tag ++ beBytes 1 6 ++ beBytes 4 0 ++ beBytes 1 0) ∧
    (replace → barred →
      ∃ t, exec (.galleryInsert m c) s = .next t ∧ s.Answered t m (some Abort.pinned) ∧
        t.gal.entries = s.gal.entries) ∧
    (replace → ¬ barred → old.static = false ∨ c.flags % 2 = 1 →
      c.flags % 2 = 0 ∨ old.static = true ∨ s.gal.shadow.length < 65536 →
      ∃ t, exec (.galleryInsert m c) s = .next t ∧ s.Answered t m (some Abort.ok) ∧
        (∀ q, q ≠ p → t.galAt q = s.galAt q) ∧
        t.galAt p = some ⟨c.flags % 2 == 1, c.flags / 2 % 2 == 1, false, c.kind, c.dest, c.domain, c.mac,
          if c.kind = 0 then c.flow else 0xFFFF, 0, 0, 0⟩ ∧
        t.oct .galleryResult m = beBytes 1 c.tag ++ beBytes 1 0 ++ beBytes 4 0 ++ beBytes 1 0)) ∧
  (∀ (s : State) (m : Master) (c : GalCmd), s.Admits m .galleryCommand m (State.galWord 3 c) → State.galParse (State.galWord 3 c) = c →
    State.galFormed 3 (State.galWord 3 c) c = true →
    s.galFind c.domain c.mac = none →
    ∃ t, exec (.galleryDelete m c) s = .next t ∧ s.Answered t m (some Abort.ok) ∧ t.gal.entries = s.gal.entries ∧
      t.oct .galleryResult m = beBytes 1 c.tag ++ beBytes 1 1 ++ beBytes 4 0 ++ beBytes 1 0) ∧
  (∀ (s : State) (m : Master) (c : GalCmd) (p : Nat) (e : GalEntry), s.Admits m .galleryCommand m (State.galWord 3 c) → State.galParse (State.galWord 3 c) = c →
    State.galFormed 3 (State.galWord 3 c) c = true →
    s.galFind c.domain c.mac = some (p, e) →
    (e.pinned = false ∨ c.flags / 16 % 2 = 1 →
      ∃ t, exec (.galleryDelete m c) s = .next t ∧ s.Answered t m (some Abort.ok) ∧ t.galAt p = none ∧
        (∀ q, q ≠ p → t.galAt q = s.galAt q) ∧
        (e.static = true → ∀ x ∈ t.gal.shadow, ¬ (x.domain = c.domain ∧ x.mac = c.mac)) ∧
        t.oct .galleryResult m = beBytes 1 c.tag ++ beBytes 1 0 ++ beBytes 4 0 ++ beBytes 1 0) ∧
    (e.pinned = true → c.flags / 16 % 2 = 0 →
      ∃ t, exec (.galleryDelete m c) s = .next t ∧ s.Answered t m (some Abort.pinned) ∧
        t.gal.entries = s.gal.entries ∧ t.gal.shadow = s.gal.shadow)) ∧
  (∀ (s : State) (m : Master) (c : GalCmd), s.Admits m .galleryCommand m (State.galWord 4 c) → State.galParse (State.galWord 4 c) = c →
    State.galFormed 4 (State.galWord 4 c) c = true →
    (s.gal.walks.length < 4 →
      ∃ t, exec (.galleryWalkOpen m c) s = .next t ∧ s.Answered t m (some Abort.ok) ∧
        t.gal.walks = s.gal.walks ++ [⟨s.gal.nextCursor, 0, c.domain, c.kind, c.dest, c.flags, [], false, false, s.now⟩] ∧
        t.oct .galleryResult m = beBytes 1 c.tag ++ beBytes 1 0 ++ beBytes 4 s.gal.nextCursor ++ beBytes 1 0) ∧
    (4 ≤ s.gal.walks.length →
      ∃ t, exec (.galleryWalkOpen m c) s = .next t ∧ s.Answered t m (some Abort.full) ∧ t.gal.walks = s.gal.walks)) ∧
  (∀ (s : State) (m : Master) (c : GalCmd) (w : Walk), s.Admits m .galleryCommand m (State.galWord 5 c) → State.galParse (State.galWord 5 c) = c →
    State.galFormed 5 (State.galWord 5 c) c = true →
    (s.gal.walks.find? fun w => w.cursor == c.cursor) = some w →
    let caught := w.catchUp.take c.count
    let more := (s.galAll.filter fun x => w.pos ≤ x.1 && State.walkMatch w x.2).take (c.count - caught.length)
    let es := caught ++ more.map fun x => x.2
    let again := (s.galAll.filter fun x => State.walkMatch w x.2).take c.count
    (es ≠ [] →
      ∃ t, exec (.galleryNext m c) s = .next t ∧ s.Answered t m (some Abort.ok) ∧ t.gal.entries = s.gal.entries ∧
        (∀ x ∈ t.gal.walks, x.cursor = c.cursor → x = { w with
          pos := (more.getLast?.map fun y => y.1 + 1).getD w.pos
          catchUp := w.catchUp.drop c.count
          lastNext := s.now }) ∧
        t.oct .galleryResult m = beBytes 1 c.tag ++ beBytes 1 0 ++ beBytes 4 c.cursor ++ beBytes 1 es.length ++
          (es.map State.galBytes).flatten) ∧
    (es = [] → w.rescan = false ∨ again = [] →
      ∃ t, exec (.galleryNext m c) s = .next t ∧ s.Answered t m (some Abort.ok) ∧ t.gal.entries = s.gal.entries ∧
        (∀ x ∈ t.gal.walks, x.cursor ≠ c.cursor) ∧
        t.oct .galleryResult m = beBytes 1 c.tag ++ beBytes 1 4 ++ beBytes 4 c.cursor ++ beBytes 1 0) ∧
    (es = [] → w.rescan = true → again ≠ [] →
      ∃ t, exec (.galleryNext m c) s = .next t ∧ s.Answered t m (some Abort.ok) ∧ t.gal.entries = s.gal.entries ∧
        (∀ x ∈ t.gal.walks, x.cursor = c.cursor → x.rescan = false ∧ x.second = true) ∧
        t.oct .galleryResult m = beBytes 1 c.tag ++ beBytes 1 0 ++ beBytes 4 c.cursor ++ beBytes 1 again.length ++
          (again.map fun x => State.galBytes x.2).flatten)) ∧
  (∀ (s : State) (m : Master) (c : GalCmd), s.Admits m .galleryCommand m (State.galWord 5 c) → State.galParse (State.galWord 5 c) = c →
    State.galFormed 5 (State.galWord 5 c) c = true →
    (∀ w ∈ s.gal.walks, w.cursor ≠ c.cursor) →
    ∃ t, exec (.galleryNext m c) s = .next t ∧ s.Answered t m (some Abort.ok) ∧ t.gal.walks = s.gal.walks ∧
      t.oct .galleryResult m = beBytes 1 c.tag ++ beBytes 1 5 ++ beBytes 4 c.cursor ++ beBytes 1 0) ∧
  (∀ (s : State) (m : Master) (c : GalCmd), s.Admits m .galleryCommand m (State.galWord 6 c) → State.galParse (State.galWord 6 c) = c →
    State.galFormed 6 (State.galWord 6 c) c = true →
    ∃ t, exec (.galleryWalkClose m c) s = .next t ∧ s.Answered t m (some Abort.ok) ∧
      t.gal.walks = (s.gal.walks.filter fun w => w.cursor != c.cursor) ∧
      t.oct .galleryResult m = beBytes 1 c.tag ++
        beBytes 1 (if s.gal.walks.any fun w => w.cursor == c.cursor then 0 else 5) ++ beBytes 4 c.cursor ++ beBytes 1 0) ∧
  (∀ (s : State) (m : Master) (c : GalCmd), s.Admits m .galleryCommand m (State.galWord 7 c) → State.galParse (State.galWord 7 c) = c →
    State.galFormed 7 (State.galWord 7 c) c = true →
    (s.gal.flushes.length < 8 →
      ∃ t, exec (.galleryFlush m c) s = .next t ∧ s.Answered t m (some Abort.ok) ∧ t.gal.entries = s.gal.entries ∧
        t.gal.flushes = s.gal.flushes ++ [⟨c.domain, c.kind, c.dest, none, c.flags / 8 % 2 == 1, some c.tag⟩] ∧
        t.oct .galleryResult m = beBytes 1 c.tag ++ beBytes 1 0 ++ beBytes 4 0 ++ beBytes 1 0) ∧
    (8 ≤ s.gal.flushes.length →
      ∃ t, exec (.galleryFlush m c) s = .next t ∧ s.Answered t m (some Abort.full) ∧
        t.gal.flushes = s.gal.flushes)) ∧
  (∀ (s : State) (m : Master) (c : GalCmd) (op : Nat) (i : Instr),
    (op, i) ∈ [(1, .gallerySearch m c), (2, .galleryInsert m c), (3, .galleryDelete m c), (4, .galleryWalkOpen m c),
      (5, .galleryNext m c), (6, .galleryWalkClose m c), (7, .galleryFlush m c)] →
    s.Admits m .galleryCommand m (State.galWord op c) → State.galParse (State.galWord op c) = c →
    State.galFormed op (State.galWord op c) c = false →
    ∃ t, exec i s = .next t ∧ s.Answered t m (some Abort.range) ∧ t.gal.entries = s.gal.entries ∧
      t.gal.walks = s.gal.walks ∧ t.gal.flushes = s.gal.flushes ∧ t.gal.shadow = s.gal.shadow)

/-- Flushes carried out, and walks that time out (07_learning_and_forwarding.md R235, 07_learning_and_forwarding.md
R236). -/
def Obligations.FlushesAndWalksEnd : Prop :=
  (∀ (s : State) (f : Flush) (rest : List Flush), s.gal.flushes = f :: rest → s.gal.flushing = false →
    ∃ t, exec .flushStart s = .next t ∧ t.gal.flushing = true ∧ t.gal.flushes = s.gal.flushes ∧
      (∀ p e, t.galAt p = some e → s.galAt p = some e ∧ State.flushHits f e = false) ∧
      (∀ p e, s.galAt p = some e → State.flushHits f e = true → e.static = true →
        ∀ x ∈ t.gal.shadow, ¬ (x.domain = e.domain ∧ x.mac = e.mac)) ∧
      (tabSorted s.gal.entries = true →
        ∀ p e, s.galAt p = some e → State.flushHits f e = false → t.galAt p = some e) ∧
      s.ObjsBut [] t ∧ s.RegsBut [] t) ∧
  (∀ (s : State) (f : Flush) (rest : List Flush), s.gal.flushes = f :: rest → s.gal.flushing = true →
    ∃ t, exec .flushComplete s = .next t ∧ t.gal = { s.gal with flushing := false, flushes := rest } ∧
      s.Raised t 5 .galleryFlushQueue 0 (match f.tag with | some k => beBytes 1 k | none => []) ∧
      s.ObjsBut [(.sconceEventsLost, 0)] t ∧ s.RegsBut [] t) ∧
  (∀ (s : State),
    (s.gal.flushes = [] ∨ s.gal.flushing = true → exec .flushStart s = .next s) ∧
    (s.gal.flushes = [] ∨ s.gal.flushing = false → exec .flushComplete s = .next s)) ∧
  (∀ (s : State) (k : Nat), ∃ t, exec (.walkTimeout k) s = .next t ∧
    t.gal = { s.gal with walks := s.gal.walks.filter fun w => !(w.cursor == k && decide (w.lastNext + 10 * Tm.s ≤ s.now)) } ∧
    s.ObjsBut [] t ∧ s.RegsBut [] t)

/-- What a framer that asks for a frame gets, and frames held for a key (02_downstream_framing_and_bonding.md R56,
02_downstream_framing_and_bonding.md R58, 02_downstream_framing_and_bonding.md R61,
02_downstream_framing_and_bonding.md R62, 02_downstream_framing_and_bonding.md R63,
02_downstream_framing_and_bonding.md R64, 02_downstream_framing_and_bonding.md R66,
02_downstream_framing_and_bonding.md R72, 09_queues_shapers_policers.md R274, 09_queues_shapers_policers.md R275). -/
def Obligations.FramesAskedForAndSent : Prop :=
  (∀ (s : State) (ch : Chan) (room : Nat), (s.laneState ch ≠ 2 ∧ s.laneState ch ≠ 3) ∨
    s.bit (Reg.tcDsCtrl ch) 0 = false ∨ s.boot.glim = true ∨ s.skips 2 ch = true →
    exec (.framerRequest ch room) s = .next s) ∧
  (∀ (s : State) (ch : Chan) (room key : Nat) (r : RestSt), s.framing ch = true → s.boot.glim = false → s.skips 2 ch = false → s.restOf ch = some r →
    s.restKey ch r = some key →
    (State.gemGo (s.gen ch) room r.left = true →
      let k := State.gemPart (s.gen ch) room r.left
      ∃ t, exec (.framerRequest ch room) s = .next t ∧ (s.gen ch ≠ 1 → key = r.key) ∧
        t.sent = s.sent ++ [.gem ch r.port key k r.head (decide (k = r.left))] ∧
        t.restOf ch = (if k = r.left then none else some { r with key := key, left := r.left - k, head := none }) ∧
        t.tm.queues = s.tm.queues) ∧
    (State.gemGo (s.gen ch) room r.left = false → exec (.framerRequest ch room) s = .next s)) ∧
  (∀ (s : State) (ch : Chan) (room : Nat) (r : RestSt), s.framing ch = true → s.boot.glim = false → s.skips 2 ch = false → s.restOf ch = some r → s.gen ch ≠ 1 → r.key ≠ 0 →
    (if r.key < 3 then s.slotState false (2 * r.term + (r.key - 1)) else s.slotState true (2 * ch + (r.key - 3))) = 4 →
    ∃ t, exec (.framerRequest ch room) s = .next t ∧ t.restOf ch = none ∧ t.sent = s.sent ∧
      t.tm.queues = s.tm.queues ∧
      tabGet (fun _ => 0) t.tm.keyDrops r.flow = tabGet (fun _ => 0) s.tm.keyDrops r.flow + 1) ∧
  (∀ (s v : State) (ch : Chan) (room key : Nat) (x : BondOut) (w : List BondOut), s.framing ch = true → s.boot.glim = false → s.skips 2 ch = false → s.restOf ch = none →
    v = s.waitHold ch → v.bondWait ch = x :: w → v.frameKey ch x.flow x.bcast = some key →
    let head := x.seq.map fun q => State.bondWord ch q x.f x.l
    let len := if x.seq.isSome then x.len + 4 else x.len
    let k := State.gemPart (s.gen ch) room len
    (State.gemGo (s.gen ch) room len = true →
      ∃ t, exec (.framerRequest ch room) s = .next t ∧ t.bondWait ch = w ∧ t.tm.queues = s.tm.queues ∧
        t.sent = s.sent ++ [.gem ch (s.sendPort ch x.flow (s.n .flowTerminal x.flow)) key k head (decide (k = len))]) ∧
    (State.gemGo (s.gen ch) room len = false → exec (.framerRequest ch room) s = .next v)) ∧
  (∀ (s v u : State) (ch : Chan) (room x cg : Nat) (a b : Bool) (m : OmciMsg) (q : List OmciMsg), s.framing ch = true → s.boot.glim = false → s.skips 2 ch = false →
    s.restOf ch = none → (∀ y ∈ s.bondWait ch, s.frameKey ch y.flow y.bcast = none) →
    v = ((s.waitHold ch).headWork ch).settleIdle → v.select ch (v.pairWaiting ch) = some (.omci x cg a b, u) →
    v.omci x = m :: q →
    let k := State.gemPart (s.gen ch) room (State.omciLen m)
    (State.gemGo (s.gen ch) room (State.omciLen m) = true →
      ∃ t, exec (.framerRequest ch room) s = .next t ∧ t.omci x = q ∧ t.tm.queues = v.tm.queues ∧
        t.sent = s.sent ++ [.gem ch (s.n .terminalOnuIdAssigned x) 0 k none (decide (k = State.omciLen m))]) ∧
    (State.gemGo (s.gen ch) room (State.omciLen m) = false → exec (.framerRequest ch room) s = .next v)) ∧
  (∀ (s v u : State) (ch : Chan) (room q x cg port key : Nat) (a b c e : Bool) (d : QDesc) (rest : List QDesc), s.framing ch = true → s.boot.glim = false → s.skips 2 ch = false →
    s.restOf ch = none → (∀ y ∈ s.bondWait ch, s.frameKey ch y.flow y.bcast = none) →
    v = ((s.waitHold ch).headWork ch).settleIdle → v.select ch (v.pairWaiting ch) = some (.frame q x cg a b c e, u) →
    v.queue q = d :: rest → d.flow ≠ noFlow → s.flowBonded d.flow = false → s.flowPort d.flow ch = some port →
    s.frameKey ch d.flow d.bcast = some key →
    let k := State.gemPart (s.gen ch) room d.len
    (State.gemGo (s.gen ch) room d.len = true →
      ∃ t, exec (.framerRequest ch room) s = .next t ∧ t.queue q = rest ∧
        t.sent = s.sent ++ [.gem ch port key k none (decide (k = d.len))] ∧
        t.restOf ch = (if k = d.len then none else some ⟨d.len - k, d.flow, x, port, key, none, false, d.bcast⟩)) ∧
    (State.gemGo (s.gen ch) room d.len = false → exec (.framerRequest ch room) s = .next v)) ∧
  (∀ (s v u : State) (ch : Chan) (room q x cg : Nat) (a b c e : Bool) (d : QDesc) (rest : List QDesc), s.framing ch = true → s.boot.glim = false → s.skips 2 ch = false →
    s.restOf ch = none → (∀ y ∈ s.bondWait ch, s.frameKey ch y.flow y.bcast = none) →
    v = ((s.waitHold ch).headWork ch).settleIdle → v.select ch (v.pairWaiting ch) = some (.frame q x cg a b c e, u) →
    v.queue q = d :: rest → State.gemRoom (s.gen ch) ≤ room →
    (s.flowBonded d.flow = true →
      let first := min d.len (((d.len + 1) / 2 + 3) / 4 * 4)
      ∃ t, exec (.framerRequest ch room) s = .next t ∧ t.queue q = rest ∧
        tabGet (fun _ => 0) t.tm.bondSeq d.flow = (if d.len ≤ s.n .flowBondFragThreshold d.flow ∨ first = d.len
          then (tabGet (fun _ => 0) s.tm.bondSeq d.flow + 1) % 1048576
          else ((tabGet (fun _ => 0) s.tm.bondSeq d.flow + 1) % 1048576 + 1) % 1048576)) ∧
    (∀ o : Chan, s.flowBonded d.flow = false → s.flowPort d.flow ch = none → (s.flowChans d.flow).head? = some o.val →
      ∃ t, exec (.framerRequest ch room) s = .next t ∧ t.queue q = rest ∧ t.sent = s.sent ∧
        t.bondWait o = v.bondWait o ++ [⟨d.flow, none, true, true, d.len, d.bcast, none⟩])) ∧
  (∀ (s v : State) (ch : Chan) (room : Nat), s.framing ch = true → s.boot.glim = false → s.skips 2 ch = false →
    s.restOf ch = none → (∀ y ∈ s.bondWait ch, s.frameKey ch y.flow y.bcast = none) →
    v = ((s.waitHold ch).headWork ch).settleIdle → v.select ch (v.pairWaiting ch) = none →
    exec (.framerRequest ch room) s = .next v ∧ v.sent = s.sent) ∧
  (∀ (s : State) (q : Queue) (d : QDesc) (rest : List QDesc) (a : Time), s.queue q = d :: rest → d.held = some a →
    a + 100 * Tm.ms ≤ s.now →
    ∃ t, exec (.keyHeldDiscard q) s = .next t ∧ t.sent = s.sent ∧
      t.queue q = (match rest with
        | [] => []
        | x :: r => (if s.chansOf (s.n .queueTerminal q) ≠ [] ∧ x.held = none ∧ s.keyBlocked x.flow x.bcast = true
            then { x with held := some s.now } else x) :: r) ∧
      tabGet (fun _ => 0) t.tm.keyDrops d.flow = tabGet (fun _ => 0) s.tm.keyDrops d.flow + 1) ∧
  (∀ (s : State) (q : Queue), (∀ d ∈ (s.queue q).head?, ∀ a ∈ d.held, s.now < a + 100 * Tm.ms) →
    exec (.keyHeldDiscard q) s = .next s)

/-- Queue samples, verdicts of stored frames and the end of a rebuild (09_queues_shapers_policers.md R285,
10_sump_buffer_pools.md R303, 10_sump_buffer_pools.md R304, 11_uplink_ports.md R318,
13_ciphers_keys_and_attestation.md R366). -/
def Obligations.SamplesVerdictsAndRebuild : Prop :=
  (∀ (s : State), s.bit Reg.tmCtrl 1 = true → s.boot.glim = false → s.boot.dieReset = false →
    s.wick % (10 * Tm.ms) = 0 →
    ∃ t, exec .sampleSweep s = .next t ∧ t.n .sampleSweeps 0 = (s.n .sampleSweeps 0 + 1) % 2 ^ 64 ∧
      t.tm.queues = s.tm.queues ∧
      ∀ q : Queue, s.queue q ≠ [] → s.n .queueSnuffPhase q ≠ 3 →
        let wait := (s.queue q).head?.elim 0 fun d => min 0xFFFFFFFF ((s.wick - d.at_) / (100 * Tm.ns) * 100)
        t.n .queueDepthBytes q = min 0xFFFFFFFF (s.depth q) ∧ t.n .queueHeadDelay q = wait ∧
        t.n .queueDepthMax q = max (min 0xFFFFFFFF (s.depth q)) (s.n .queueDepthMax q) ∧
        t.n .queueDelayMax q = max wait (s.n .queueDelayMax q)) ∧
  (∀ (s : State), s.bit Reg.tmCtrl 1 = false ∨ s.boot.glim = true ∨ s.boot.dieReset = true ∨
    s.wick % (10 * Tm.ms) ≠ 0 → exec .sampleSweep s = .next s) ∧
  (∀ (s : State) (cell : Nat) (ok icv : Bool) (g : CellTag), s.cellTag cell = some g → g.first = true →
    g.verdict = 0 → (∀ x ∈ s.tm.cutting, x.2.cell ≠ cell) →
    ∃ t, exec (.verdictWritten cell ok icv) s = .next t ∧
      t.cellTag cell = some { g with verdict := if ok then 1 else 2 } ∧ t.tm.queues = s.tm.queues ∧
      (∀ c, c ≠ cell → t.cellTag c = s.cellTag c) ∧ t.sent = s.sent ∧
      (∀ (p : Uplink) (d : QDesc), (s.holders cell).head? = some d → d.ingress = .uplink p →
        t.n .macsecRxOk p = (if ok ∧ icv then (s.n .macsecRxOk p + 1) % 2 ^ 64 else s.n .macsecRxOk p) ∧
        t.n .macsecRxBadTag p =
          (if ¬ ok ∧ icv then (s.n .macsecRxBadTag p + 1) % 2 ^ 64 else s.n .macsecRxBadTag p) ∧
        t.n .uplinkDropFcs p = (if ¬ ok ∧ ¬ icv then (s.n .uplinkDropFcs p + 1) % 2 ^ 64 else s.n .uplinkDropFcs p))) ∧
  (∀ (s : State) (p : Uplink) (cell : Nat) (ok icv : Bool) (g : CellTag) (d : QDesc), s.cellTag cell = some g →
    g.first = true → g.verdict = 0 → s.tm.cutting = [(p.val, d)] → d.cell = cell →
    ∃ t, exec (.verdictWritten cell ok icv) s = .next t ∧ t.tm.cutting = [] ∧
      (ok = true → t.sent = s.sent ∧ t.n .uplinkTxAborted p = s.n .uplinkTxAborted p) ∧
      (ok = false → t.n .uplinkTxAborted p = (s.n .uplinkTxAborted p + 1) % 2 ^ 64 ∧
        t.n .verdictDrops 0 = (s.n .verdictDrops 0 + 1) % 2 ^ 64 ∧ t.bit (Reg.uplStatus p) 11 = true ∧
        t.sent = s.sent ++ [.ethernet p 3 [] []
          (if s.controlled p d = true then none else some (Nat.xor d.check 0xFFFFFFFF)) none])) ∧
  (∀ (s : State) (cell : Nat) (ok icv : Bool), (∀ g ∈ s.cellTag cell, g.first = false ∨ g.verdict ≠ 0) →
    exec (.verdictWritten cell ok icv) s = .next s) ∧
  (∀ s : State, ∃ t, exec .sumpRebuildDone s = .next t ∧ t.tm = { s.tm with rebuilding := false } ∧ s.ObjsBut [] t ∧
    s.RegsBut [] t)

/-- Frames, learn notices and credit received on a Passage port (07_learning_and_forwarding.md R223,
07_learning_and_forwarding.md R227, 12_passage_cascade.md R333, 12_passage_cascade.md R335, 12_passage_cascade.md
R336, 12_passage_cascade.md R337, 12_passage_cascade.md R339, 12_passage_cascade.md R340, 12_passage_cascade.md R341,
12_passage_cascade.md R342). -/
def Obligations.PassageFramesReceived : Prop :=
  (∀ (s : State) (q : Psg) (k : Pipeline) (f : PsgFrame), s.psgReceives q = false →
    exec (.passageFrameReceived q k f) s = .next s) ∧
  (∀ (s : State) (q : Psg) (k : Pipeline) (f : PsgFrame), s.psgReceives q = true →
    5 < f.type.val ∨ hckOf ((State.headerIn f).take 15) ≠ f.hck.val →
    ∃ t, exec (.passageFrameReceived q k f) s = .next t ∧
      t.n .passageHeaderErrors q = (s.n .passageHeaderErrors q + 1) % 2 ^ 64 ∧
      s.ObjsBut [(.passageHeaderErrors, q.val), (.passageStuffViolations, q.val)] t ∧ t.tm = s.tm ∧ t.gal = s.gal ∧
      t.psgs = s.psgs ∧ t.casc = s.casc) ∧
  (∀ (s : State) (q : Psg) (k : Pipeline) (f : PsgFrame), s.psgReceives q = true →
    f.type.val ≤ 5 → hckOf ((State.headerIn f).take 15) = f.hck.val →
    ∃ t, exec (.passageFrameReceived q k f) s = .next t ∧
      t.n .passageRxFrames q = (s.n .passageRxFrames q + 1) % 2 ^ 64 ∧
      ((s.psg q).mixed = true → t.n .passageCrcErrors q = (s.n .passageCrcErrors q + 1) % 2 ^ 64 ∧
        t.bit (Reg.psgStatus q) 18 = true ∧ t.tm = s.tm ∧ t.gal = s.gal ∧ t.casc = s.casc) ∧
      (f.dest.val = 0xFFF → f.src.val = s.n .passageDeviceId 0 → t.tm = s.tm ∧ t.gal = s.gal ∧ t.casc = s.casc) ∧
      ((s.psg q).mixed = false → f.type.val = 3 ∨ f.type.val = 4 → t.tm = s.tm ∧ t.gal = s.gal ∧ t.casc = s.casc ∧
        t.psgs = s.psgs)) ∧
  (∀ (s : State) (q : Psg) (k : Pipeline) (f : PsgFrame) (w : SeqWindow), s.FrameIn q f →
    (s.casc.windows.find? fun w => w.src == f.src.val && w.cls == f.cls.val) = some w →
    (w.high + 65536 - f.seq.val) % 65536 < 32768 →
    1023 < (w.high + 65536 - f.seq.val) % 65536 ∨ f.seq.val ∈ w.marks →
    let o := if 1023 < (w.high + 65536 - f.seq.val) % 65536 then Obj.passageStale else .passageDuplicates
    ∃ t, exec (.passageFrameReceived q k f) s = .next t ∧ t.n o q = (s.n o q + 1) % 2 ^ 64 ∧
      t.casc.windows = s.casc.windows ∧ tabFind t.casc.heard (4 * f.src.val + q.val) = some s.now ∧ t.tm = s.tm ∧
      t.gal = s.gal) ∧
  (∀ (s : State) (q : Psg) (k : Pipeline) (f : PsgFrame), s.FrameIn q f →
    (∀ w ∈ s.casc.windows, w.src ≠ f.src.val) → 256 ≤ s.windowSources.length →
    ∃ t, exec (.passageFrameReceived q k f) s = .next t ∧
      t.n .passageUntracked q = (s.n .passageUntracked q + 1) % 2 ^ 64 ∧ t.bit Reg.psgGlobalStatus 1 = true ∧
      t.casc.windows = s.casc.windows) ∧
  (∀ (s : State) (q : Psg) (k : Pipeline) (f : PsgFrame), s.FrameIn q f → s.SeqNew f →
    (s.on .macsecPortEnable (16 + q) = false ∧ f.pending = false ∧ f.crcOk = false) ∨
      (s.on .macsecPortEnable (16 + q) = true ∧ f.sec = none) →
    ∃ t, exec (.passageFrameReceived q k f) s = .next t ∧
      (s.on .macsecPortEnable (16 + q) = false →
        t.n .passageCrcErrors q = (s.n .passageCrcErrors q + 1) % 2 ^ 64 ∧ t.bit (Reg.psgStatus q) 18 = true) ∧
      (s.on .macsecPortEnable (16 + q) = true →
        t.n .macsecRxNoSa (16 + q) = (s.n .macsecRxNoSa (16 + q) + 1) % 2 ^ 64) ∧
      t.n .verdictDrops 0 = (s.n .verdictDrops 0 + 1) % 2 ^ 64 ∧ ¬ t.SeqMarked f ∧ t.tm = s.tm ∧ t.gal = s.gal) ∧
  (∀ (s : State) (q : Psg) (k : Pipeline) (f : PsgFrame), s.FrameIn q f → s.SeqNew f → s.windowSources.length < 256 →
    s.on .macsecPortEnable (16 + q) = false → f.pending = true ∨ f.crcOk = true →
    let cells := s.creditCells q f.len
    ∃ t, exec (.passageFrameReceived q k f) s = .next t ∧ t.SeqMarked f ∧
      tabFind t.casc.heard (4 * f.src.val + q.val) = some s.now ∧
      t.n .passageReachable f.src / 2 ^ q.val % 2 = 1 ∧
      (s.pressed (160 + 8 * q + f.cls) = false →
        (t.psg q).given[f.cls] = ((s.psg q).given[f.cls] + cells) % 65536) ∧
      (s.pressed (160 + 8 * q + f.cls) = true → (t.psg q).given[f.cls] = (s.psg q).given[f.cls] ∧
        (t.psg q).withheld[f.cls] = (s.psg q).withheld[f.cls] + cells)) ∧
  (∀ (s : State) (q : Psg) (k : Pipeline) (f : PsgFrame), s.FrameIn q f → s.SeqNew f → s.windowSources.length < 256 →
    s.on .macsecPortEnable (16 + q) = false → f.pending = true ∨ f.crcOk = true → f.dest.val ≠ 0xFFF →
    (f.dest.val = s.n .passageDeviceId 0 → f.type.val ≠ 0 →
      ∃ t, exec (.passageFrameReceived q k f) s = .next t ∧ t.tm = s.tm ∧ t.gal = s.gal) ∧
    (f.dest.val ≠ s.n .passageDeviceId 0 → s.n .passageHopLimit 0 ≤ f.hops.val →
      ∃ t, exec (.passageFrameReceived q k f) s = .next t ∧
        t.n .passageHopDrops q = (s.n .passageHopDrops q + 1) % 2 ^ 64 ∧ t.bit (Reg.psgStatus q) 21 = true ∧ t.tm = s.tm) ∧
    (f.dest.val ≠ s.n .passageDeviceId 0 → f.hops.val < s.n .passageHopLimit 0 →
      (s.n .passageRoute f.dest = 0 → s.n .passageRingPorts 0 = 0 →
        ∃ t, exec (.passageFrameReceived q k f) s = .next t ∧
          t.n .passageNoRoute q = (s.n .passageNoRoute q + 1) % 2 ^ 64 ∧ t.tm = s.tm) ∧
      (s.n .passageRoute f.dest = 2 ^ q.val → s.n .passageRingPorts 0 = 0 →
        ∃ t, exec (.passageFrameReceived q k f) s = .next t ∧
          t.n .passageLoopDrops q = (s.n .passageLoopDrops q + 1) % 2 ^ 64 ∧ t.tm = s.tm))) ∧
  (∀ (s : State) (q : Psg) (k : Pipeline) (f : PsgFrame) (p : Psg) (pool : Nat), s.FrameIn q f → s.SeqNew f → s.windowSources.length < 256 →
    s.on .macsecPortEnable (16 + q) = false → f.pending = true ∨ f.crcOk = true → f.dest.val ≠ 0xFFF →
    f.dest.val ≠ s.n .passageDeviceId 0 → f.hops.val < s.n .passageHopLimit 0 → f.dest ≠ f.src →
    s.n .passageRoute f.dest = 2 ^ p.val → s.psgUp p = true → p ≠ q → s.n .passageRingPorts 0 = 0 → f.len ≤ 256 →
    s.grant (s.n .passageTransitRequester 0) (min 2 f.colour.val) = .inr pool →
    ∃ t d, exec (.passageFrameReceived q k f) s = .next t ∧
      t.queue (transitKey p f.cls) = s.queue (transitKey p f.cls) ++ [d] ∧ d.len = f.len ∧
      d.psg = [f.type.val, f.dest.val, f.src.val, if f.tree then 1 else 0, f.seq.val, f.hops.val + 1, 0, f.domain.val] ++
        f.body ∧
      d.check = State.transitCrc f (State.headerOf d) ∧ t.verdict d.cell = (if f.pending then 0 else 1)) ∧
  (∀ (s : State) (q : Psg) (src : Fin 4095) (d : BridgeDomain) (mac : BitVec 48), s.psgReceives q = true →
    s.on .domainEnable d = true → s.on .domainLearn d = true →
    let queue := s.gal.queues[State.engineOf d]
    let same := ∃ x ∈ queue, x.domain = d.val ∧ x.mac = mac.toNat ∧ x.kind = 2 ∧ x.dest = src.val
    (¬ same → queue.length < 1024 →
      ∃ t, exec (.learnNoticeReceived q src d mac) s = .next t ∧ t.gal.entries = s.gal.entries ∧
        t.gal.queues[State.engineOf d] = queue ++ [⟨d, mac.toNat, 2, src, 0xFFFF⟩]) ∧
    (¬ same → 1024 ≤ queue.length →
      ∃ t, exec (.learnNoticeReceived q src d mac) s = .next t ∧ t.gal = s.gal ∧
        t.n .learnQueueDrops 0 = (s.n .learnQueueDrops 0 + 1) % 2 ^ 64 ∧ t.bit Reg.galStatus 12 = true) ∧
    (same → exec (.learnNoticeReceived q src d mac) s = .next s)) ∧
  (∀ (s : State) (q : Psg) (src : Fin 4095) (d : BridgeDomain) (mac : BitVec 48), s.psgReceives q = false ∨
    s.on .domainEnable d = false ∨ s.on .domainLearn d = false →
    exec (.learnNoticeReceived q src d mac) s = .next s) ∧
  (∀ (s : State) (q : Psg) (c : Vector (Fin 65536) 8),
    (s.psgLink q = true → ∃ t, exec (.creditFrameReceived q c) s = .next t ∧
      t.psg q = { s.psg q with granted := c.map Fin.val } ∧ s.ObjsBut [] t ∧ s.RegsBut [] t) ∧
    (s.psgLink q = false → exec (.creditFrameReceived q c) s = .next s))

/-- Credit, presence, reachability and time on the Passage ports (06_time_and_holdover.md R196,
07_learning_and_forwarding.md R237, 12_passage_cascade.md R338, 12_passage_cascade.md R341, 12_passage_cascade.md
R342, 12_passage_cascade.md R345). -/
def Obligations.PassageControlAndTime : Prop :=
  (∀ (s : State) (q : Psg),
    let due := s.portSends (16 + q) = true ∧ ((∃ c : Fin 8, 16 ≤ ((s.psg q).given[c] + 65536 - (s.psg q).told[c]) % 65536) ∨
      (∃ a ∈ (s.psg q).movedAt, a + Tm.us ≤ s.now) ∨ (s.psg q).toldAt + 100 * Tm.us ≤ s.now)
    (due → ∃ t, exec (.creditFrameSend q) s = .next t ∧
      t.sent = s.sent ++ [.passage q 4 (s.psg q).given.toList (s.localHeader 4 16) none none] ∧
      t.psg q = { s.psg q with told := (s.psg q).given, toldAt := s.now, movedAt := none } ∧ s.ObjsBut [] t ∧
      s.RegsBut [] t) ∧
    (¬ due → exec (.creditFrameSend q) s = .next s)) ∧
  (∀ (s : State) (q : Psg) (src : Fin 4095) (x : BitVec 32), s.psgReceives q = true →
    let twin := src.val = s.n .passageDeviceId 0 ∧ x.toNat ≠ s.nonce
    ∃ t, exec (.presenceFrameReceived q src x) s = .next t ∧ t.n .passageNeighbour q = src ∧
      t.n .passageReachable src / 2 ^ q.val % 2 = 1 ∧
      tabFind t.casc.heard (4 * src.val + q.val) = some s.now ∧
      (¬ twin → s.ObjsBut [(.passageNeighbour, q.val), (.passageReachable, src.val)] t ∧ s.RegsBut [] t) ∧
      (twin → t.n .passageIdConflict 0 ≠ 0 ∧
        (s.on .passageIdConflict 0 = false → t.bit Reg.psgGlobalStatus 0 = true ∧
          s.Raised t 1 .passageIdConflict 0 (beBytes 1 0 ++ beBytes 1 1)))) ∧
  (∀ (s : State) (q : Psg) (src : Fin 4095) (x : BitVec 32), s.psgReceives q = false →
    exec (.presenceFrameReceived q src x) s = .next s) ∧
  (∀ (s : State),
    (s.casc.presentAt + Tm.ms ≤ s.now → s.boot.glim = false →
      ∃ t, exec .presenceSend s = .next t ∧ t.casc.presentAt = s.now ∧
        (s.n .passageDeviceId 0 ≠ 0xFFFF → (∃ q : Psg, s.psgUp q = true) →
          t.casc.seqs[Config.presenceClass] = (s.casc.seqs[Config.presenceClass] + 1) % 65536) ∧
        (s.n .passageDeviceId 0 = 0xFFFF ∨ (∀ q : Psg, s.psgUp q = false) → t.tm = s.tm)) ∧
    (s.now < s.casc.presentAt + Tm.ms ∨ s.boot.glim = true → exec .presenceSend s = .next s)) ∧
  (∀ (s : State) (q p : Psg) (pool : Nat), s.casc.presentAt + Tm.ms ≤ s.now → s.boot.glim = false →
    s.n .passageDeviceId 0 ≠ 0xFFFF → (∀ r : Psg, s.psgUp r = true ↔ r = p) → q = p →
    (∀ c : Fin 8, s.tailDrops (txKey ((16 + p) * 8 + c)) 0 8 = false ∧
      s.grant (s.requester (txKey ((16 + p) * 8 + c))) 0 = .inr pool) →
    ∃ t d, exec .presenceSend s = .next t ∧
      t.queue (txKey ((16 + p) * 8 + Config.presenceClass)) =
        s.queue (txKey ((16 + p) * 8 + Config.presenceClass)) ++ [d] ∧ d.len = 8 ∧
      d.psg.take 6 = [5, 0xFFF, s.n .passageDeviceId 0, 0, s.casc.seqs[Config.presenceClass], 1] ∧
      d.psg.drop 8 = [s.nonce, if s.n .passageRingPorts 0 = 0 then 0 else 1]) ∧
  (∀ (s : State) (q : Psg) (d : Fin 4095) (a : Time), tabFind s.casc.heard (4 * d.val + q.val) = some a →
    a + s.n .passageReachTimeout 0 * Tm.ms ≤ s.now →
    ∃ t, exec (.reachTimeout q d) s = .next t ∧ t.n .passageReachable d / 2 ^ q.val % 2 = 0 ∧
      tabFind t.casc.heard (4 * d.val + q.val) = none ∧
      s.ObjsBut [(.passageReachable, d.val), (.sconceEventsLost, 0)] t ∧
      (s.n .passageReachable d = 2 ^ q.val → (∀ w ∈ t.casc.windows, w.src ≠ d.val) ∧
        s.Raised t 1 .passageReachable d (beBytes 1 (2 ^ q.val) ++ beBytes 1 0) ∧
        t.gal.flushes = (if s.boot.glimEntry = none then s.gal.flushes ++ [⟨0xFFFF, 2, d, none, false, none⟩]
          else s.gal.flushes)) ∧
      (t.n .passageReachable d ≠ 0 → t.gal = s.gal ∧ t.casc.windows = s.casc.windows)) ∧
  (∀ (s : State) (q : Psg) (d : Fin 4095), (∀ a ∈ tabFind s.casc.heard (4 * d.val + q.val),
    s.now < a + s.n .passageReachTimeout 0 * Tm.ms) → exec (.reachTimeout q d) s = .next s) ∧
  (∀ (s : State) (q : Psg) (m : PsgTime), s.psgLink q = true → s.avail = true → m.sub = 1 → s.serving q = true →
    ∃ t, exec (.timeMessageReceived q m) s = .next t ∧ s.TimeSent t q 2 m.seq m.arrival ∧ s.ObjsBut [] t ∧
      s.RegsBut [] t) ∧
  (∀ (s : State) (q : Psg) (m : PsgTime) (d : TimeDomain), s.psgLink q = true → s.avail = true → m.sub = 0 →
    s.psgDomain q = some d →
    ∃ t, exec (.timeMessageReceived q m) s = .next t ∧
      (t.psg q).sync = some (m.seq.val, m.stamp, m.arrival, m.reply) ∧ (t.psg q).cls = m.cls ∧ (t.psg q).steps = m.steps ∧
      s.TimeSent t q 1 m.seq 0) ∧
  (∀ (s : State) (q : Psg) (m : PsgTime) (d : TimeDomain) (t1 t2 t3 : Time), s.psgLink q = true → s.avail = true →
    m.sub = 2 → s.psgDomain q = some d → (s.psg q).sync = some (m.seq.val, t1, t2, t3) →
    s.n .timeDomainSlavePort d = 16 + q →
    ∃ t, exec (.timeMessageReceived q m) s = .next t ∧ (t.dom d).t0 = s.now ∧ (t.dom d).freq = m.freq ∧
      (t.dom d).off = ((t1 : Int) - t2 + ((m.stamp : Int) - t3)) / 2 + State.psTime (s.num .passagePortAsymmetry q) / 2 +
        (s.wick : Int) - (s.now : Int) ∧ t.sent = s.sent) ∧
  (∀ (s : State) (q : Psg) (m : PsgTime), s.psgLink q = false ∨ s.avail = false ∨ (m.sub = 1 ∧ s.serving q = false) ∨
    (m.sub ≠ 1 ∧ s.psgDomain q = none) ∨ (m.sub = 2 ∧ ((s.psg q).sync = none ∨
      (∃ x ∈ (s.psg q).sync, x.1 ≠ m.seq.val) ∨ ∀ d ∈ s.psgDomain q, s.n .timeDomainSlavePort d ≠ 16 + q)) →
    exec (.timeMessageReceived q m) s = .next s) ∧
  (∀ (s : State) (q : Psg) (stamp : Time), s.serving q = true → s.boot.glim = false →
    (∀ a ∈ tabFind s.casc.syncAt q, a + 62500 * Tm.us ≤ s.now) →
    ∃ t, exec (.timeSyncSend q stamp) s = .next t ∧ tabFind t.casc.syncAt q = some s.now ∧
      t.casc.syncSeq = (s.casc.syncSeq + 1) % 65536 ∧ s.TimeSent t q 0 s.casc.syncSeq stamp) ∧
  (∀ (s : State) (q : Psg) (stamp : Time), s.serving q = false ∨ s.boot.glim = true ∨
    (∃ a ∈ tabFind s.casc.syncAt q, s.now < a + 62500 * Tm.us) → exec (.timeSyncSend q stamp) s = .next s)

/-- The lanes and the state of a Passage port (12_passage_cascade.md R329, 12_passage_cascade.md R330,
12_passage_cascade.md R331, 12_passage_cascade.md R332, 12_passage_cascade.md R333, 12_passage_cascade.md R334,
12_passage_cascade.md R341, 12_passage_cascade.md R342). -/
def Obligations.PassageLanesAndPorts : Prop :=
  (∀ (s : State) (l : Fin 16) (a b : BitVec 32),
    let pair := fun x y : BitVec 32 => markerOk (l.val % 4) x.toNat = true ∧ markerOk (l.val % 4) y.toNat = true ∧
      markerMfc y.toNat = (markerMfc x.toNat + 1) % 64
    (s.n .passageLaneState l = 1 → pair a b ∨ pair (~~~a) (~~~b) →
      ∃ t, exec (.passageLaneLocked l a b) s = .next t ∧ t.n .passageLaneState l = 2 ∧
        t.reg (Reg.psgLaneStatus (l.val / 4) (l.val % 4)) = (if pair a b then 0 else 4) ∧
        s.ObjsBut [(.passageLaneState, l.val)] t ∧ s.RegsBut [Reg.psgLaneStatus (l.val / 4) (l.val % 4)] t) ∧
    (s.n .passageLaneState l ≠ 1 ∨ ¬ (pair a b ∨ pair (~~~a) (~~~b)) →
      exec (.passageLaneLocked l a b) s = .next s)) ∧
  (∀ (s : State) (l : Fin 16),
    (s.n .passageLaneState l = 2 ∨ s.n .passageLaneState l = 3 →
      ∃ t, exec (.passageLaneLockLoss l) s = .next t ∧ t.n .passageLaneState l = 1 ∧
        t.n .passageLaneLosses (l.val / 4) = (s.n .passageLaneLosses (l.val / 4) + 1) % 2 ^ 64 ∧
        t.bit (Reg.psgStatus (l.val / 4)) 17 = true ∧ t.n .passageRxLanes (l.val / 4) / 2 ^ (l.val % 4) % 2 = 0 ∧
        (t.psg (l.val / 4)).lost / 2 ^ (l.val % 4) % 2 = 1 ∧ tabFind (t.psg (l.val / 4)).back (l.val % 4) = none ∧
        s.ObjsBut [(.passageLaneState, l.val), (.passageLaneLosses, l.val / 4), (.passageRxLanes, l.val / 4)] t) ∧
    (s.n .passageLaneState l ≠ 2 ∧ s.n .passageLaneState l ≠ 3 → exec (.passageLaneLockLoss l) s = .next s)) ∧
  (∀ (s : State) (l : Fin 16) (skew : Nat), s.n .passageLaneState l = 2 ∨ s.n .passageLaneState l = 3 →
    let lost := (s.psg (l.val / 4)).lost / 2 ^ (l.val % 4) % 2
    (skew ≤ 200000 →
      ∃ t, exec (.passageLaneDeskewed l skew) s = .next t ∧ t.n .passageLaneState l = 3 ∧
        t.n .passageLaneSkew l = skew ∧ s.RegsBut [] t ∧
        s.ObjsBut [(.passageLaneState, l.val), (.passageLaneSkew, l.val), (.passageRxLanes, l.val / 4)] t ∧
        (s.n .passageLaneState l = 2 → lost = 0 →
          t.n .passageRxLanes (l.val / 4) / 2 ^ (l.val % 4) % 2 = 1) ∧
        (s.n .passageLaneState l = 3 ∨ lost = 1 →
          t.n .passageRxLanes (l.val / 4) = s.n .passageRxLanes (l.val / 4)) ∧
        (s.n .passageLaneState l = 2 → lost = 1 →
          tabFind (t.psg (l.val / 4)).back (l.val % 4) = some s.now)) ∧
    (200000 < skew →
      ∃ t, exec (.passageLaneDeskewed l skew) s = .next t ∧ t.n .passageLaneState l = 2 ∧
        t.n .passageLaneLosses (l.val / 4) = (s.n .passageLaneLosses (l.val / 4) + 1) % 2 ^ 64 ∧
        t.bit (Reg.psgStatus (l.val / 4)) 17 = true ∧ t.n .passageRxLanes (l.val / 4) / 2 ^ (l.val % 4) % 2 = 0)) ∧
  (∀ (s : State) (l : Fin 16) (skew : Nat), s.n .passageLaneState l ≠ 2 → s.n .passageLaneState l ≠ 3 →
    exec (.passageLaneDeskewed l skew) s = .next s) ∧
  (∀ (s : State) (l : Fin 16) (a : Time), tabFind (s.psg (l.val / 4)).back (l.val % 4) = some a →
    s.n .passageLaneState l = 3 → a + Tm.ms ≤ s.now →
    ∃ t, exec (.passageLaneReturn l) s = .next t ∧ t.n .passageRxLanes (l.val / 4) / 2 ^ (l.val % 4) % 2 = 1 ∧
      (t.psg (l.val / 4)).lost / 2 ^ (l.val % 4) % 2 = 0 ∧ s.ObjsBut [(.passageRxLanes, l.val / 4)] t ∧ s.RegsBut [] t) ∧
  (∀ (s : State) (l : Fin 16), s.n .passageLaneState l ≠ 3 ∨
    (∀ a ∈ tabFind (s.psg (l.val / 4)).back (l.val % 4), s.now < a + Tm.ms) →
    exec (.passageLaneReturn l) s = .next s) ∧
  (∀ (s : State) (q : Psg) (ms : Vector (Option (BitVec 32)) 4) (l : Fin 4) (w : BitVec 32), ms[l] = some w →
    s.Opens q l w.toNat → (∀ k : Fin 4, ∀ v ∈ ms[k].map BitVec.toNat, s.Opens q k v →
      markerMap v = markerMap w.toNat ∧ markerRxOk v = markerRxOk w.toNat) →
    ∃ t, exec (.txMapChange q ms) s = .next t ∧ t.psg q = { s.psg q with
        farMap := markerMap w.toNat, farOk := markerRxOk w.toNat, mixed := false } ∧
      t.n .passageTxLanes q = s.lanesEnabled q &&& markerRxOk w.toNat ∧
      s.ObjsBut [(.passageTxLanes, q.val)] t ∧ s.RegsBut [] t) ∧
  (∀ (s : State) (q : Psg) (ms : Vector (Option (BitVec 32)) 4) (l k : Fin 4) (w v : BitVec 32), ms[l] = some w →
    ms[k] = some v → s.Opens q l w.toNat → s.Opens q k v.toNat →
    markerMap v.toNat ≠ markerMap w.toNat ∨ markerRxOk v.toNat ≠ markerRxOk w.toNat →
    ∃ t, exec (.txMapChange q ms) s = .next t ∧ t.psg q = { s.psg q with mixed := true } ∧ s.ObjsBut [] t ∧
      s.RegsBut [] t) ∧
  (∀ (s : State) (q : Psg) (ms : Vector (Option (BitVec 32)) 4), (∀ l : Fin 4, ∀ w ∈ ms[l].map BitVec.toNat, ¬ s.Opens q l w) →
    exec (.txMapChange q ms) s = .next s) ∧
  (∀ (s : State) (q : Psg) (k : Nat), s.lanesInUse q = some k → s.n .passagePortState q = 1 →
    s.n .passageSnuffPhase q = 0 → s.boot.glim = false →
    ∃ t, exec (.passagePortUp q) s = .next t ∧ t.n .passagePortState q = (if k = 4 then 2 else 3) ∧
      t.n .passageDegradedEntries q = (if k = 4 then s.n .passageDegradedEntries q
        else (s.n .passageDegradedEntries q + 1) % 2 ^ 64) ∧
      t.bit (Reg.psgStatus q) 16 = true ∧ (t.psg q).given = .replicate 8 (s.n .passageCreditCells 0) ∧
      (t.psg q).granted = .replicate 8 0 ∧ (t.psg q).sent = .replicate 8 0 ∧ t.casc.presentAt = s.now ∧
      s.Raised t 1 .passagePortState q (beBytes 1 1 ++ beBytes 1 (if k = 4 then 2 else 3))) ∧
  (∀ (s : State) (q : Psg) (k : Nat), s.lanesInUse q = some k → s.boot.glim = false →
    s.n .passagePortState q = (if k = 4 then 3 else 2) →
    ∃ t, exec (.passagePortUp q) s = .next t ∧ t.n .passagePortState q = (if k = 4 then 2 else 3) ∧
      t.bit (Reg.psgStatus q) 16 = true ∧ t.psg q = s.psg q ∧
      s.Raised t 1 .passagePortState q (beBytes 1 (if k = 4 then 3 else 2) ++ beBytes 1 (if k = 4 then 2 else 3)) ∧
      s.ObjsBut [(.passagePortState, q.val), (.passageDegradedEntries, q.val), (.sconceEventsLost, 0)] t) ∧
  (∀ (s : State) (q : Psg), s.lanesInUse q = none ∨ s.boot.glim = true ∨ s.n .passagePortState q = 0 ∨
    (∀ k ∈ s.lanesInUse q, s.n .passagePortState q = if k = 4 then 2 else 3) ∨
    (s.n .passagePortState q = 1 ∧ s.n .passageSnuffPhase q ≠ 0) → exec (.passagePortUp q) s = .next s) ∧
  (∀ (s : State) (q : Psg),
    let fails := (s.n .passagePortState q = 2 ∨ s.n .passagePortState q = 3) ∧ s.lanesInUse q = none
    (fails → ∃ t, exec (.passagePortDown q) s = .next t ∧ t.n .passagePortState q = 1 ∧
      t.bit (Reg.psgStatus q) 16 = true ∧ s.Raised t 1 .passagePortState q (beBytes 1 (s.n .passagePortState q) ++ beBytes 1 1) ∧
      s.ObjsBut [(.passagePortState, q.val), (.sconceEventsLost, 0)] t ∧ s.RegsBut [Reg.psgStatus q] t) ∧
    (¬ fails → exec (.passagePortDown q) s = .next s))

/-- Terminal keys: exchange, switch, usage limits and expiry (02_downstream_framing_and_bonding.md R60,
02_downstream_framing_and_bonding.md R61, 02_downstream_framing_and_bonding.md R62, 13_ciphers_keys_and_attestation.md
R356, 13_ciphers_keys_and_attestation.md R357). -/
def Obligations.TerminalKeysExchangedAndUsed : Prop :=
  (∀ (s : State) (x : Term) (key : Vector Byte 16) (ch : Nat), s.avail = true → (s.exch x).running = true →
    s.exchChannel x = some ch →
    let i := if s.slotState false (2 * x) = 0 ∨ s.slotState false (2 * x) = 1 then 2 * x.val else 2 * x.val + 1
    ∃ t, exec (.keyExchangeComplete x key) s = .next t ∧ t.slotState false i = 1 ∧ t.n .keySlotUsage i = 0 ∧
      tabFind t.ciph.termKeys i = some key.toList ∧ (t.exch x).running = false ∧
      (s.gen ch ≠ 1 → (t.exch x).due = some (if s.wick % Tm.frame = 0 then 2 else 3) ∧ t.framers = s.framers) ∧
      (s.gen ch = 1 → (t.exch x).due = (s.exch x).due ∧ (t.framer ch).lan = (s.framer ch).lan ++
        [⟨.keySwitchingTime, x, s.n .terminalOnuIdAssigned x, [], 3, 0⟩]) ∧
      s.ObjsBut [(.keySlotState, i), (.keySlotUsage, i)] t ∧ s.RegsBut [] t) ∧
  (∀ (s : State) (x : Term) (key : Vector Byte 16), s.avail = false ∨ (s.exch x).running = false →
    exec (.keyExchangeComplete x key) s = .next s) ∧
  (∀ (s : State) (x : Term), s.switchDue x = true → ¬ ((s.exch x).due = some 0 ∧ s.restOld x = true) →
    ∃ t, exec (.keySwitch x) s = .next t ∧ (t.exch x).due = none ∧ (t.exch x).used = false ∧
      (∀ ch ∈ s.chansOf x, ∀ y ∈ (t.framer ch).switches, y.1 ≠ x.val) ∧
      (∀ i ∈ [2 * x.val, 2 * x.val + 1],
        (s.slotState false i = 1 → t.slotState false i = 2 ∧ t.n .keySlotUsage i = 0) ∧
        (s.slotState false i = 2 → t.slotState false i = 3 ∧ tabFind t.ciph.prev i = some 8) ∧
        (s.slotState false i = 4 → t.slotState false i = 0 ∧ tabFind t.ciph.termKeys i = none) ∧
        (s.slotState false i = 0 ∨ s.slotState false i = 3 → t.slotState false i = s.slotState false i)) ∧
      s.ObjsBut [(.keySlotState, 2 * x.val), (.keySlotUsage, 2 * x.val), (.keySlotState, 2 * x.val + 1),
        (.keySlotUsage, 2 * x.val + 1)] t ∧ s.RegsBut [] t) ∧
  (∀ (s : State) (x : Term),
    (s.switchDue x = true → (s.exch x).due = some 0 → s.restOld x = true →
      ∃ t, exec (.keySwitch x) s = .next t ∧ t.exch x = { s.exch x with due := none, used := true } ∧ s.ObjsBut [] t ∧
        s.RegsBut [] t) ∧
    (s.switchDue x = false → exec (.keySwitch x) s = .next s)) ∧
  (∀ (s : State) (b : Bool) (i : Fin 16384), s.slotState b i = 2 →
    s.n .ponKeySoftLimit 0 ≤ s.n (State.slotObjs b).2 i → State.slotNo b i ∉ s.ciph.soft →
    ∃ t, exec (.ponKeySoftLimit b i) s = .next t ∧ t.ciph.soft = s.ciph.soft ++ [State.slotNo b i] ∧
      t.bit Reg.ciphStatus 7 = true ∧ t.slotState b i = 2 ∧ s.RegsBut [Reg.ciphStatus] t ∧
      s.Raised t 2 (State.slotObjs b).2 i (beBytes 8 (s.n .ponKeySoftLimit 0) ++ beBytes 8 (s.n (State.slotObjs b).2 i)) ∧
      (b = true → t.framers = s.framers ∧ t.ciph.exch = s.ciph.exch) ∧
      (b = false → s.exch (i / 2) = .idle → s.pairHas false (i / 2) 1 = false → s.avail = true →
        (∃ ch : Chan, s.exchChannel (i / 2) = some ch.val) →
        (t.exch (i / 2)).running = !(s.pairHas false (i / 2) 3) ∧
        (t.exch (i / 2)).wanted = s.pairHas false (i / 2) 3)) ∧
  (∀ (s : State) (b : Bool) (i : Fin 16384), s.slotState b i ≠ 2 ∨
    s.n (State.slotObjs b).2 i < s.n .ponKeySoftLimit 0 ∨ State.slotNo b i ∈ s.ciph.soft →
    exec (.ponKeySoftLimit b i) s = .next s) ∧
  (∀ (s : State) (b : Bool) (i : Fin 16384),
    let due := s.slotState b i = 2 ∧ s.n .ponKeyHardLimit 0 ≤ s.n (State.slotObjs b).2 i ∧
      (b = true ∨ s.switchDue (i / 2) = false)
    (due → ∃ t, exec (.ponKeyHardLimit b i) s = .next t ∧ t.slotState b i = 4 ∧ t.bit Reg.ciphStatus 8 = true ∧
      s.Raised t 2 (State.slotObjs b).2 i (beBytes 8 (s.n .ponKeyHardLimit 0) ++ beBytes 8 (s.n (State.slotObjs b).2 i)) ∧
      s.ObjsBut [((State.slotObjs b).1, i.val), (.sconceEventsLost, 0)] t ∧ s.RegsBut [Reg.ciphStatus] t) ∧
    (¬ due → exec (.ponKeyHardLimit b i) s = .next s)) ∧
  (∀ (s : State) (b : Bool) (i : Fin 16384),
    let done := s.slotState b i = 3 ∧ tabGet (fun _ => 0) s.ciph.prev (State.slotNo b i) = 0
    (done → ∃ t, exec (.previousSlotExpiry b i) s = .next t ∧ t.slotState b i = 0 ∧ t.n (State.slotObjs b).2 i = 0 ∧
      (b = false → tabFind t.ciph.termKeys i = none) ∧ (b = true → t.val .bcastKey i = Obj.bcastKey.info.dflt i) ∧
      s.RegsBut [] t) ∧
    (¬ done → exec (.previousSlotExpiry b i) s = .next s))

/-- Broadcast keys, locks, erasure, masks and the entropy source (13_ciphers_keys_and_attestation.md R354,
13_ciphers_keys_and_attestation.md R355, 13_ciphers_keys_and_attestation.md R359, 13_ciphers_keys_and_attestation.md
R360, 13_ciphers_keys_and_attestation.md R376). -/
def Obligations.HostKeysLocksAndEntropy : Prop :=
  (∀ (s : State) (m : Master) (i : Fin 64) (key : List Byte), s.Admits m .bcastKey i key →
    ∃ t w, exec (.bcastKeyWrite m i key) s = .next t ∧ s.Answered t m none ∧ t.lan.writes = s.lan.writes ++ [w] ∧
      w.code = Obj.bcastKey.code ∧ w.inst = i.val ∧ w.value = key ∧ t.val .bcastKey i = s.val .bcastKey i) ∧
  (∀ (s : State) (m : Master) (ch : Chan) (v : Fin 2), s.Admits m .channelBcastKeySwitch ch (beBytes 1 v) →
    let may := s.gen ch ≠ 1 ∧ (s.slotState true (2 * ch) = 1 ∨ s.slotState true (2 * ch + 1) = 1)
    ∃ t, exec (.bcastKeySwitch m ch v) s = .next t ∧
      s.Answered t m (some (if v = 1 ∧ ¬ may then Abort.range else Abort.ok)) ∧
      tabFind t.ciph.bcastDue ch =
        (if v = 1 ∧ may then some (if s.wick % Tm.frame = 0 then 2 else 3) else tabFind s.ciph.bcastDue ch)) ∧
  (∀ (s : State) (m : Master) (i : Fin 64) (v : Fin 2), s.Admits m .bcastKeyLock i (beBytes 1 v) →
    ∃ t, exec (.bcastKeyLock m i v) s = .next t ∧
      s.Answered t m (some (if v = 1 ∧ s.slotState true i = 0 then Abort.range else Abort.ok)) ∧
      ∀ k, k ∈ t.ciph.locked ↔ (v = 1 ∧ s.slotState true i ≠ 0 ∧ k = 65536 + i.val) ∨ k ∈ s.ciph.locked) ∧
  (∀ (s : State) (m : Master) (i : Sa) (v : Fin 2), s.Admits m .saLock i (beBytes 1 v) →
    ∃ t, exec (.saLock m i v) s = .next t ∧
      s.Answered t m (some (if v = 1 ∧ s.n .saState i = 0 then Abort.range else Abort.ok)) ∧
      ∀ k, k ∈ t.ciph.locked ↔ (v = 1 ∧ s.n .saState i ≠ 0 ∧ k = 131072 + i.val) ∨ k ∈ s.ciph.locked) ∧
  (∀ (s : State) (k i : Nat), s.selSlot = (k, i) → k ≠ 2 → s.slotState (k != 0) i = 4 →
    ∃ t, exec .ciphKeyErase s = .next t ∧ t.slotState (k != 0) i = 0 ∧ t.n (State.slotObjs (k != 0)).2 i = 0 ∧
      (k = 0 → tabFind t.ciph.termKeys i = none) ∧ (k ≠ 0 → t.val .bcastKey i = Obj.bcastKey.info.dflt i) ∧
      s.RegsBut [] t) ∧
  (∀ (s : State) (i : Nat), s.selSlot = (2, i) → i < 256 → s.n .saSnuffPhase i = 3 →
    ∃ t, exec .ciphKeyErase s = .next t ∧ t.n .saState i = 0 ∧ t.n .saNextPn i = 0 ∧
      t.val .saKey i = Obj.saKey.info.dflt i ∧ t.val .saSalt i = Obj.saSalt.info.dflt i ∧
      s.ObjsBut [(.saState, i), (.saNextPn, i), (.saKey, i), (.saSalt, i)] t ∧ s.RegsBut [] t) ∧
  (∀ (s : State) (k i : Nat), s.selSlot = (k, i) → (k = 2 ∧ (256 ≤ i ∨ s.n .saSnuffPhase i ≠ 3)) ∨
    (k ≠ 2 ∧ s.slotState (k != 0) i ≠ 4) → exec .ciphKeyErase s = .next s) ∧
  (∀ s : State,
    let due := s.n .entropyState 0 = 1 ∧ s.bit Reg.ciphCtrl 1 = true ∧ s.fabricRuns = true ∧
      s.ciph.maskAt + Tm.ms ≤ s.now
    (due → ∃ t, exec .maskRekey s = .next t ∧ t.ciph.maskAt = s.now ∧ t.ciph.maskKey = State.expansion s.fresh ∧
      t.fresh = s.fresh + 1 ∧ s.ObjsBut [] t ∧ s.RegsBut [] t) ∧
    (¬ due → exec .maskRekey s = .next s)) ∧
  (∀ s : State, s.bit Reg.ciphCtrl 1 = true → s.fabricRuns = true →
    ∃ t, exec .entropyTestFailure s = .next t ∧ t.n .entropyState 0 = 2 ∧
      t.n .entropyFailures 0 = (s.n .entropyFailures 0 + 1) % 2 ^ 64 ∧ t.n .faultCause 0 / 16 % 2 = 1 ∧
      t.bit Reg.ciphStatus 6 = true ∧ t.ciph = s.ciph ∧ s.Raised t 4 .entropyState 0 (beBytes 4 t.faultWord) ∧
      s.ObjsBut [(.entropyState, 0), (.entropyFailures, 0), (.faultCause, 0), (.sconceEventsLost, 0)] t ∧
      s.RegsBut [Reg.ciphStatus] t) ∧
  (∀ s : State, s.bit Reg.ciphCtrl 1 = true → s.fabricRuns = true →
    ∃ t, exec .entropyRecovery s = .next t ∧ t.n .entropyState 0 = 1 ∧ s.ObjsBut [(.entropyState, 0)] t ∧
      s.RegsBut [] t) ∧
  (∀ s : State, s.bit Reg.ciphCtrl 1 = false ∨ s.fabricRuns = false →
    exec .entropyTestFailure s = .next s ∧ exec .entropyRecovery s = .next s)

/-- Bus parity, memory errors, the scrubber, the reclaim sweep and Lantern's rewrites
(14_integrity_and_fault_coverage.md R378, 14_integrity_and_fault_coverage.md R383, 14_integrity_and_fault_coverage.md
R384, 14_integrity_and_fault_coverage.md R385). -/
def Obligations.ParityAndMemoryErrors : Prop :=
  (∀ (s : State) (b : Fin 256) (u : BusUse), s.fabricRuns = true →
    ∃ t, exec (.busParityError b u) s = .next t ∧
      t.n .busParityErrors 0 = (s.n .busParityErrors 0 + 1) % 2 ^ 64 ∧ t.bit Reg.integStatus 4 = true ∧
      t.reg Reg.integBusParityLast = 2147483648 + b.val ∧
      ((∀ cell, u = .frame cell → ∀ x ∈ s.tm.cutting, x.2.cell ≠ cell) →
        s.Raised t 4 .busParityErrors 0 (beBytes 4 (s.n .faultCause 0))) ∧
      (∀ cell g, u = .frame cell → s.cellTag cell = some g → (∀ x ∈ s.tm.cutting, x.2.cell ≠ cell) →
        t.cellTag cell = some { g with verdict := 2 } ∧ t.sent = s.sent) ∧
      (∀ cell g, u = .frame cell → s.cellTag cell = some g →
        t.tm.cutting = s.tm.cutting.filter fun x => x.2.cell != cell) ∧
      (∀ ch r, u = .tree ch → tabGet (fun _ => none) s.tm.rest ch = some r → t.sent = s.sent ++ [.inverted ch r.port] ∧
        t.tm = s.tm) ∧
      (u = .control ∨ u = .idle → t.sent = s.sent ∧ t.tm = s.tm ∧
        s.ObjsBut [(.busParityErrors, 0), (.sconceEventsLost, 0)] t ∧
        s.RegsBut [Reg.integStatus, Reg.integBusParityLast] t)) ∧
  (∀ (s : State) (hit : MemHit) (row : Fin 16777216), s.fabricRuns = true →
    ∃ t, exec (.uncorrectableError hit row) s = .next t ∧
      t.n .memUncorrectable hit.mem = (s.n .memUncorrectable hit.mem + 1) % 2 ^ 64 ∧
      t.n .memLastAddress hit.mem = row ∧ t.bit Reg.integStatus 3 = true ∧ t.reg Reg.integEccLastAddr = row ∧
      t.reg Reg.integEccLast = 2147483648 + (if secded hit.mem then 256 else 0) + hit.mem ∧
      t.n .faultCause 0 / 32 % 2 = (if secded hit.mem then 1 else s.n .faultCause 0 / 32 % 2) ∧
      (hit.mem ∉ [0, 1, 5, 8, 9, 13, 14] → s.Raised t 4 .memUncorrectable hit.mem (beBytes 4 (t.n .faultCause 0))) ∧
      (hit.mem = 6 ∨ hit.mem = 3 ∨ hit.mem = 11 ∨ hit.mem = 12 → s.ObjsBut [(.memUncorrectable, hit.mem),
        (.memLastAddress, hit.mem), (.faultCause, 0), (.sconceEventsLost, 0)] t ∧
        s.RegsBut [Reg.integStatus, Reg.integEccLast, Reg.integEccLastAddr] t)) ∧
  (∀ (s : State) (c p : Nat) (g : CellTag) (row : Fin 16777216), s.fabricRuns = true → s.cellTag c = some g →
    (∀ x ∈ s.tm.cells, ∀ y, x.2 = some y → y.next ≠ some c) → (∀ x ∈ s.tm.cutting, x.2.cell ≠ c) →
    (∃ t, exec (.uncorrectableError (.cellData c) row) s = .next t ∧ t.cellTag c = some { g with verdict := 2 } ∧
      t.tm.queues = s.tm.queues ∧ s.Raised t 4 .memUncorrectable 0 (beBytes 4 (t.n .faultCause 0))) ∧
    (∃ t, exec (.uncorrectableError (.cellTag c p) row) s = .next t ∧ t.tm.withdrawn = s.tm.withdrawn ++ [(c, g.pool)] ∧
      ∀ q ∈ t.tm.queues, ∀ d ∈ q.2, d.cell ≠ c)) ∧
  (∀ (s : State) (c p : Nat) (row : Fin 16777216), s.fabricRuns = true → s.cellTag c = none →
    ∃ t, exec (.uncorrectableError (.cellTag c p) row) s = .next t ∧ t.tm.withdrawn = s.tm.withdrawn ++ [(c, p)] ∧
      t.tm.queues = s.tm.queues) ∧
  (∀ (s : State) (key : Nat) (row : Fin 16777216), s.fabricRuns = true →
    ∃ t, exec (.uncorrectableError (.queue key) row) s = .next t ∧ t.queue key = [] ∧
      t.tm.orphans = s.tm.orphans ++ s.queue key ∧ t.tm.cells = s.tm.cells) ∧
  (∀ (s : State) (l : Fin 7) (i : Nat) (row : Fin 16777216), s.fabricRuns = true →
    ∃ t, exec (.uncorrectableError (.node l i) row) s = .next t ∧
      t.node (State.levelAt l) i = { s.node (State.levelAt l) i with committed := 0, peak := 0, defC := 0, defE := 0 }) ∧
  (∀ (s : State) (i : Nat) (row : Fin 16777216), s.fabricRuns = true →
    ∃ t, exec (.uncorrectableError (.policer i) row) s = .next t ∧ t.policer i = { s.policer i with c := 0, p := 0 }) ∧
  (∀ (s : State) (l : Fin 3) (row : Fin 16777216), s.fabricRuns = true →
    ∃ t, exec (.uncorrectableError (.lane l) row) s = .next t ∧
      ((s.gl l = 2 ∨ s.gl l = 3) ∧ (s.glane l).copied = false ∧ (s.glane l).outs.length < 3 → t.gl l = 4) ∧
      (s.gl l = 2 ∨ s.gl l = 3 → t.gl l = 4 ∨ t.gl l = 5) ∧
      (s.gl l ≠ 2 ∧ s.gl l ≠ 3 → t.gl l = s.gl l ∧ t.grants = s.grants)) ∧
  (∀ (s : State) (x : Fin 8192) (ch : Fin 32) (row : Fin 16777216), s.fabricRuns = true →
    ∃ t, exec (.uncorrectableError (.record x ch) row) s = .next t ∧
      (s.stateOn x ch ≠ 0 → t.stateOn x ch = 0 ∧
        (∀ k, s.sideOn x ch = some k → t.sd x k = SideSt.idle) ∧ (t.framer ch).act = (s.framer ch).act ++
          [⟨.deactivate, x, s.n .terminalOnuIdAssigned x, [], 3, 0⟩]) ∧
      (s.stateOn x ch = 0 → t.terms = s.terms ∧ t.framers = s.framers)) ∧
  (∀ (s : State) (k : Fin 4) (i : Nat) (row : Fin 16777216), s.fabricRuns = true →
    ∃ t, exec (.uncorrectableError (.entry k i) row) s = .next t ∧
      t.boot = { s.boot with skipped := s.boot.skipped ++ [(k.val, i)] }) ∧
  (∀ (s : State) (b : Bool) (i : Fin 16384) (row : Fin 16777216), s.fabricRuns = true →
    ∃ t, exec (.uncorrectableError (.slot (if b then 1 else 0) i) row) s = .next t ∧
      t.slotState b i = (if s.slotState b i = 0 then 0 else 4) ∧ t.n (State.slotObjs b).2 i = 0 ∧
      (b = false → tabFind t.ciph.termKeys i = none) ∧ (b = true → t.val .bcastKey i = Obj.bcastKey.info.dflt i)) ∧
  (∀ (s : State) (i : Sa) (row : Fin 16777216), s.fabricRuns = true →
    ∃ t, exec (.uncorrectableError (.slot 2 i) row) s = .next t ∧
      t.n .saState i = (if s.n .saState i = 0 then 0 else 3) ∧ t.n .saNextPn i = 0 ∧
      t.val .saKey i = Obj.saKey.info.dflt i ∧ t.val .saSalt i = Obj.saSalt.info.dflt i) ∧
  (∀ (s : State) (p : Nat) (row : Fin 16777216), s.fabricRuns = true →
    ∃ t, exec (.uncorrectableError (.gallery p) row) s = .next t ∧ t.galAt p = none ∧
      (∀ e, s.galAt p = some e → t.n .galleryParityErrors 0 = (s.n .galleryParityErrors 0 + 1) % 2 ^ 64 ∧
        t.bit Reg.galStatus 9 = true ∧ t.reg Reg.galParityPos = (2147483648 + p) % 2 ^ 32 ∧
        t.gal.lost = s.gal.lost ++ (if e.static then [(e.domain, e.mac)] else []))) ∧
  (∀ (s : State) (r : Nat) (row : Fin 16777216), s.fabricRuns = true →
    ∃ t, exec (.uncorrectableError (.rule r) row) s = .next t ∧
      t.n .classParityErrors 0 = (s.n .classParityErrors 0 + 1) % 2 ^ 64 ∧ t.bit Reg.clsStatus 8 = true ∧
      t.reg Reg.clsParityPos = (2147483648 + r) % 2 ^ 32 ∧
      t.gal.lostRules = s.gal.lostRules ++ (if s.isSet .classRuleKey r && !s.gal.lostRules.contains r then [r] else [])) ∧
  (∀ (s : State) (k : Nat) (row : Fin 16777216), s.fabricRuns = true →
    (∃ t, exec (.uncorrectableError (.fragment k) row) s = .next t ∧ t.frags = s.frags.eraseIdx k) ∧
    (∃ t, exec (.uncorrectableError (.indirection k) row) s = .next t ∧
      t.gal = { s.gal with badIndir := s.gal.badIndir ++ [k] })) ∧
  (∀ (s : State) (p k : Nat) (row : Fin 16777216), s.fabricRuns = true →
    ∃ t, exec (.uncorrectableError (.cache p k) row) s = .next t ∧
      t.tm = { s.tm with emptied := s.tm.emptied ++ [(p, min k (s.sharedFree p))] }) ∧
  (∀ (s : State) (p : Nat) (e : TsEntry) (rest : List TsEntry) (row : Fin 16777216), s.fabricRuns = true →
    tabGet (fun _ => []) s.clk.ts p = e :: rest →
    ∃ t, exec (.uncorrectableError (.stamp p) row) s = .next t ∧ tabGet (fun _ => []) t.clk.ts p = rest ∧
      t.n .tsQueueLost p = (s.n .tsQueueLost p + 1) % 2 ^ 64 ∧ t.bit Reg.wickStatus 11 = true ∧
      t.n .lostStampTotal 0 = (s.n .lostStampTotal 0 + 1) % 2 ^ 64) ∧
  (∀ (s : State) (k : Fin 8) (row : Fin 16777216), s.fabricRuns = true → s.captures k ≠ [] →
    ∃ t, exec (.uncorrectableError (.capture k) row) s = .next t ∧ t.captures k = (s.captures k).drop 1 ∧
      t.n .captOverflows k = min 4294967295 (s.n .captOverflows k + 1) ∧ t.bit Reg.wickStatus 12 = true) ∧
  (∀ (s : State) (b : Fin 256) (u : BusUse) (row : Fin 16777216), s.fabricRuns = true →
    ∃ t, exec (.uncorrectableError (.buffer b u) row) s = .next t ∧
      t.n .busParityErrors 0 = (s.n .busParityErrors 0 + 1) % 2 ^ 64 ∧ t.bit Reg.integStatus 4 = true ∧
      t.reg Reg.integBusParityLast = 2147483648 + b.val) ∧
  (∀ (s : State) (k : Fin 15) (row : Fin 16777216), s.fabricRuns = true → secded k = true →
    ∃ t, exec (.singleBitError k row) s = .next t ∧ t.n .memCorrected k = (s.n .memCorrected k + 1) % 2 ^ 64 ∧
      t.n .memLastAddress k = row ∧ t.bit Reg.integStatus 2 = true ∧ t.tm = s.tm ∧ t.gal = s.gal ∧
      s.ObjsBut [(.memCorrected, k.val), (.memLastAddress, k.val)] t ∧ s.RegsBut [Reg.integStatus] t) ∧
  (∀ s : State, s.fabricRuns = true → s.on .integrityScrubEnable 0 = true →
    ∃ t, exec .scrubPass s = .next t ∧ t.n .scrubPasses 0 = (s.n .scrubPasses 0 + 1) % 2 ^ 64 ∧
      t.bit Reg.integStatus 5 = true ∧ s.ObjsBut [(.scrubPasses, 0)] t ∧ s.RegsBut [Reg.integStatus] t) ∧
  (∀ (s : State) (b : Fin 256) (u : BusUse) (hit : MemHit) (k : Fin 15) (row : Fin 16777216),
    (s.fabricRuns = false → exec (.busParityError b u) s = .next s ∧ exec (.uncorrectableError hit row) s = .next s) ∧
    (s.fabricRuns = false ∨ secded k = false → exec (.singleBitError k row) s = .next s) ∧
    (s.fabricRuns = false ∨ s.on .integrityScrubEnable 0 = false → exec .scrubPass s = .next s) ∧
    (s.avail = false → exec .shadowRewrite s = .next s)) ∧
  (∀ s : State, ∃ t, exec .reclaimSweep s = .next t ∧ t.tm.orphans = [] ∧ t.tm.emptied = [] ∧
    t.tm.queues = s.tm.queues ∧ (s.tm.orphans = [] → t.tm = { s.tm with emptied := [] } ∧ s.ObjsBut [] t ∧ s.RegsBut [] t)) ∧
  (∀ (s : State) (d : QDesc) (g : CellTag), s.tm.orphans = [d] → s.cellTag d.cell = some g → g.owner = d.owner →
    g.next = none → ∃ t, exec .reclaimSweep s = .next t ∧
      t.cellTag d.cell = (if 1 < g.refs then some { g with refs := g.refs - 1 } else none)) ∧
  (∀ s : State, s.avail = true →
    ∃ t, exec .shadowRewrite s = .next t ∧ t.boot = { s.boot with skipped := [] } ∧
      t.gal = { s.gal with badIndir := [] } ∧ s.ObjsBut [] t ∧ s.RegsBut [] t)

/-- The watchdog, the rails, the oscillator, temperatures and the fault causes (14_integrity_and_fault_coverage.md
R392, 14_integrity_and_fault_coverage.md R393, 14_integrity_and_fault_coverage.md R394,
14_integrity_and_fault_coverage.md R395, 17_package_pins_and_electrical.md R464). -/
def Obligations.WatchdogRailsAndTemperatures : Prop :=
  (∀ s : State, ∃ t, exec .watchdogKick s = .next t ∧ t.boot = { s.boot with kick := s.now } ∧ s.ObjsBut [] t ∧
    s.RegsBut [] t) ∧
  (∀ s : State,
    let due := s.boot.lanternUp = true ∧ s.boot.recovery = false ∧ s.boot.glim = false ∧ s.boot.dieReset = false ∧
      s.bit Reg.integCtrl 3 = true ∧ s.boot.kick + 200 * Tm.ms ≤ s.now
    (due → ∃ t, exec .watchdogExpiry s = .next t ∧ t.boot.lanternUp = false ∧ t.boot.cause = 4 ∧
      t.ucie.headless = true ∧ t.n .ucieLinkState 0 = 5 ∧ t.bit Reg.integStatus 0 = true ∧
      t.n .watchdogExpiries 0 = min 4294967295 (s.n .watchdogExpiries 0 + 1) ∧ t.n .faultCause 0 / 2 % 2 = 1 ∧
      t.n .faultCause 0 % 2 = (if s.ucie.headless then s.n .faultCause 0 % 2 else 1) ∧ t.lan.claims = [] ∧
      t.wick = s.wick ∧ t.nvm = s.nvm ∧ t.tm = s.tm ∧ t.gal = s.gal ∧ t.terms = s.terms ∧ t.grants = s.grants) ∧
    (¬ due → exec .watchdogExpiry s = .next s)) ∧
  (∀ (s : State) (r : Fin 4), s.boot.rails[r] = .inWindow →
    ∃ t, exec (.regulatorFault r) s = .next t ∧ t.boot.rails[r] = .faulted s.now ∧ t.n .faultCause 0 / 4 % 2 = 1 ∧
      t.n .regulatorFaults 0 = min 4294967295 (s.n .regulatorFaults 0 + 1) ∧
      (r = 0 → t.n .wickState 0 = 5 ∧ t.n .faultCause 0 / 8 % 2 = 1 ∧
        t.n .oscillatorLosses 0 = min 4294967295 (s.n .oscillatorLosses 0 + 1)) ∧
      (r = 1 → s.Raised t 4 .regulatorFaults 0 (beBytes 4 (t.n .faultCause 0)) ∧ t.tm = s.tm ∧
        s.ObjsBut [(.regulatorFaults, 0), (.faultCause, 0), (.sconceEventsLost, 0)] t ∧ s.RegsBut [] t) ∧
      (r = 2 → t.boot.lanternUp = false ∧ t.lan.claims = [] ∧ t.tm = s.tm ∧
        (s.boot.dieReset = false → t.ucie.headless = true ∧ t.n .ucieLinkState 0 = 5)) ∧
      (r = 3 → t.boot.dieReset = true ∧ t.boot.cause = 6 ∧ t.n .startCause 0 = 6 ∧ t.n .startPhase 0 = 0 ∧
        t.boot.lanternUp = s.boot.lanternUp ∧ t.n .ucieLinkState 0 = 0 ∧ t.tm = .empty ∧ t.wick = s.wick)) ∧
  (∀ (s : State) (r : Fin 4), s.boot.rails[r] ≠ .inWindow → exec (.regulatorFault r) s = .next s) ∧
  (∀ (s : State) (r : Fin 4) (a : Time), s.boot.rails[r] = .faulted a → a + 10 * Tm.ms ≤ s.now → s.tripped r = false →
    ∃ t, exec (.railRecovery r) s = .next t ∧ t.boot.rails[r] = .inWindow ∧
      (∀ k : Fin 4, k ≠ r → (k.val = r.val + 1 → s.boot.rails[k] ≠ .off) → t.boot.rails[k] = s.boot.rails[k]) ∧
      (r = 3 → s.boot.dieReset = true → t.n .ucieLinkState 0 = 1 ∧ t.ucie.trainStart = s.now) ∧
      (r ≠ 3 ∨ s.boot.dieReset = false → s.ObjsBut [] t) ∧ s.RegsBut [] t) ∧
  (∀ (s : State) (r : Fin 4) (a : Time), s.boot.rails[r] = .off ∨ s.boot.rails[r] = .inWindow ∨
    s.boot.rails[r] = .starting a ∨ (s.boot.rails[r] = .faulted a ∧ (s.now < a + 10 * Tm.ms ∨ s.tripped r = true)) →
    exec (.railRecovery r) s = .next s) ∧
  (∀ s : State, s.wickRuns = true →
    ∃ t, exec .oscillatorLoss s = .next t ∧ t.n .wickState 0 = 5 ∧ t.n .faultCause 0 / 8 % 2 = 1 ∧
      t.n .oscillatorLosses 0 = min 4294967295 (s.n .oscillatorLosses 0 + 1) ∧ t.wick = s.wick ∧ t.tm = s.tm ∧
      (s.n .wickState 0 ≠ 5 → s.Raised t 1 .wickState 0 (beBytes 1 (s.n .wickState 0) ++ beBytes 1 5))) ∧
  (∀ s : State, s.wickRuns = false → exec .oscillatorLoss s = .next s) ∧
  (∀ (s : State) (lantern : Bool), (s.boot.rails[(if lantern then 2 else 3 : Fin 4)]) = .inWindow →
    ∃ t, exec (.thermalTrip lantern) s = .next t ∧ t.boot.rails[(if lantern then 2 else 3 : Fin 4)] = .faulted s.now ∧
      t.tripped (if lantern then 2 else 3) = true ∧ t.n .faultCause 0 / 4 % 2 = 1 ∧
      t.n .regulatorFaults 0 = min 4294967295 (s.n .regulatorFaults 0 + 1) ∧ (lantern = true → t.boot.lanternUp = false) ∧
      (lantern = false → t.boot.dieReset = true)) ∧
  (∀ (s : State) (lantern : Bool), (s.boot.rails[(if lantern then 2 else 3 : Fin 4)]) ≠ .inWindow →
    exec (.thermalTrip lantern) s = .next s) ∧
  (∀ (s : State) (lantern : Bool), s.tripped (if lantern then 2 else 3) = true →
    ∃ t, exec (.thermalRecovery lantern) s = .next t ∧ t.tripped (if lantern then 2 else 3) = false ∧
      t.boot.rails[(if lantern then 2 else 3 : Fin 4)] = .faulted s.now ∧ s.ObjsBut [] t ∧ s.RegsBut [] t) ∧
  (∀ (s : State) (lantern : Bool), s.tripped (if lantern then 2 else 3) = false →
    exec (.thermalRecovery lantern) s = .next s) ∧
  (∀ (s : State) (x : Int),
    let due := s.num .caseTempWarn 0 < x ∧ s.boot.caseWarned = false ∧ s.wickRuns = true
    (due → ∃ t, exec (.caseTempWarn x) s = .next t ∧ t.boot = { s.boot with caseWarned := true } ∧
      (-2147483648 ≤ x → x < 2147483648 → t.num .caseTemperature 0 = x) ∧ t.bit Reg.glbPfw 9 = true ∧
      s.Raised t 2 .caseTempWarn 0 (beBytes 4 (twos 32 (s.num .caseTempWarn 0))) ∧
      s.ObjsBut [(.caseTemperature, 0), (.sconceEventsLost, 0)] t ∧ s.RegsBut [Reg.glbPfw] t) ∧
    (¬ due → exec (.caseTempWarn x) s = .next s)) ∧
  (∀ (s : State) (x : Int),
    let due := s.boot.caseWarned = true ∧ x ≤ s.num .caseTempWarn 0 - 2000
    (due → ∃ t, exec (.caseTempRearm x) s = .next t ∧ t.boot = { s.boot with caseWarned := false } ∧
      (-2147483648 ≤ x → x < 2147483648 → t.num .caseTemperature 0 = x) ∧ s.ObjsBut [(.caseTemperature, 0)] t ∧
      s.RegsBut [] t) ∧
    (¬ due → exec (.caseTempRearm x) s = .next s)) ∧
  (∀ (s : State) (m : Master) (mask : Nat) (hw : BitVec 8), s.Admits m .faultCauseClear 0 (beBytes 4 mask) →
    ∃ t, exec (.faultCauseClear m mask hw) s = .next t ∧ s.Answered t m (some Abort.ok) ∧
      ∀ k : Fin 8, t.n .faultCause 0 / 2 ^ k.val % 2 =
        if 1 ≤ k.val ∧ k.val ≤ 6 ∧ mask / 2 ^ k.val % 2 = 1 ∧ hw.getLsbD k = false then 0
        else if hw.getLsbD k = true then 1 else s.n .faultCause 0 / 2 ^ k.val % 2)

/-- The Lantern link: retries, retrains, loss, training and reattachment (14_integrity_and_fault_coverage.md R396,
14_integrity_and_fault_coverage.md R397, 14_integrity_and_fault_coverage.md R399, 16_register_interface_and_ucie.md
R437, 16_register_interface_and_ucie.md R438, 16_register_interface_and_ucie.md R439,
16_register_interface_and_ucie.md R440, 16_register_interface_and_ucie.md R442, 18_startup_reset_and_power_states.md
R468). -/
def Obligations.LanternLinkAndHeadless : Prop :=
  (∀ (s : State) (again : Bool), s.linkActive = true →
    let k := if again then s.ucie.attempts + 1 else 1
    let fails := (s.ucie.failWindow.filter fun x => decide (s.now < x + Tm.ms)).length + 1
    ∃ t, exec (.flitCrcFailure again) s = .next t ∧ t.n .ucieCrcErrors 0 = (s.n .ucieCrcErrors 0 + 1) % 2 ^ 64 ∧
      t.n .ucieRetries 0 = (s.n .ucieRetries 0 + 1) % 2 ^ 64 ∧
      (s.reg Reg.ucieCtrl / 16 % 16 ≤ k ∨ 16 < fails → t.n .ucieLinkState 0 = 4 ∧ t.ucie.trainStart = s.now ∧
        t.n .ucieRetrains 0 = min 4294967295 (s.n .ucieRetrains 0 + 1)) ∧
      (k < s.reg Reg.ucieCtrl / 16 % 16 ∧ fails ≤ 16 → t.ucie.attempts = k ∧ t.ucie.failWindow.length = fails ∧
        s.ObjsBut [(.ucieCrcErrors, 0), (.ucieRetries, 0)] t)) ∧
  (∀ (s : State) (again : Bool), s.linkActive = false → exec (.flitCrcFailure again) s = .next s) ∧
  (∀ s : State,
    (s.linkActive = true → ∃ t, exec .ucieRetrain s = .next t ∧ t.n .ucieLinkState 0 = 4 ∧ t.ucie.trainStart = s.now ∧
      t.n .ucieRetrains 0 = min 4294967295 (s.n .ucieRetrains 0 + 1) ∧ t.ucie.widening = false ∧
      s.ObjsBut [(.ucieLinkState, 0), (.ucieRetrains, 0)] t ∧ s.RegsBut [] t) ∧
    (s.linkActive = false → exec .ucieRetrain s = .next s)) ∧
  (∀ (s : State) (m : Master) (v : Fin 2), s.Admits m .ucieWiden 0 (beBytes 1 v) →
    ∃ t, exec (.ucieWiden m v) s = .next t ∧ s.Answered t m (some Abort.ok) ∧
      (v = 1 → s.linkActive = true → t.n .ucieLinkState 0 = 4 ∧ t.ucie.widening = true ∧
        t.n .ucieRetrains 0 = min 4294967295 (s.n .ucieRetrains 0 + 1)) ∧
      (v = 1 → s.n .ucieLinkState 0 = 4 → t.n .ucieLinkState 0 = 4 ∧ t.ucie.widening = true ∧
        t.n .ucieRetrains 0 = s.n .ucieRetrains 0) ∧
      (v = 0 → t.n .ucieLinkState 0 = s.n .ucieLinkState 0 ∧ t.ucie = s.ucie)) ∧
  (∀ (s : State) (failed : BitVec 16), s.n .ucieLinkState 0 = 4 →
    failed = 0 ∧ (s.ucie.widening = true ∨ s.n .ucieWidth 0 = 16) →
    ∃ t, exec (.retrainComplete failed) s = .next t ∧ t.n .ucieLinkState 0 = 2 ∧ t.n .ucieWidth 0 = 16 ∧
      t.bit Reg.ucieStatus 9 = true ∧ t.reg Reg.ucieLaneFail = 0 ∧ t.n .ucieDegrades 0 = s.n .ucieDegrades 0 ∧
      (s.ucie.headless = false → t.ucie.headEvents = []) ∧
      (s.ucie.headless = true → t.ucie.headEvents = s.ucie.headEvents)) ∧
  (∀ (s : State) (failed : BitVec 16), s.n .ucieLinkState 0 = 4 → failed ≠ 0 → s.n .ucieWidth 0 = 16 →
    failed.toNat % 256 = 0 ∨ failed.toNat / 256 = 0 →
    ∃ t, exec (.retrainComplete failed) s = .next t ∧ t.n .ucieLinkState 0 = 3 ∧ t.n .ucieWidth 0 = 8 ∧
      t.bit Reg.ucieStatus 9 = true ∧ t.bit Reg.ucieStatus 8 = true ∧
      t.bit Reg.ucieStatus 4 = decide (failed.toNat % 256 ≠ 0) ∧ t.reg Reg.ucieLaneFail = failed.toNat ∧
      t.n .ucieDegrades 0 = min 4294967295 (s.n .ucieDegrades 0 + 1) ∧
      (s.ucie.headless = true → s.Raised t 1 .ucieLinkState 0 [4, 3]) ∧
      (s.ucie.headless = false → s.ucie.headEvents = [] → (s.put .ucieLinkState 0 3).Raised t 1 .ucieLinkState 0 [4, 3])) ∧
  (∀ (s : State) (failed : BitVec 16), s.n .ucieLinkState 0 = 4 → s.n .ucieWidth 0 = 8 →
    s.ucie.widening = false ∨ failed ≠ 0 → failed.toNat % 256 = 0 ∨ failed.toNat / 256 = 0 →
    let held := s.bit Reg.ucieStatus 4
    let keeps := s.ucie.widening = false ∧ (if held then failed.toNat / 256 = 0 else failed.toNat % 256 = 0)
    ∃ t, exec (.retrainComplete failed) s = .next t ∧ t.n .ucieLinkState 0 = 3 ∧ t.n .ucieWidth 0 = 8 ∧
      t.bit Reg.ucieStatus 9 = true ∧ t.reg Reg.ucieLaneFail = failed.toNat ∧
      t.bit Reg.ucieStatus 4 = (if keeps then held else decide (failed.toNat % 256 ≠ 0)) ∧
      t.n .ucieDegrades 0 = s.n .ucieDegrades 0) ∧
  (∀ (s : State) (failed : BitVec 16), s.n .ucieLinkState 0 = 4 → s.boot.dieReset = false →
    failed.toNat % 256 ≠ 0 → failed.toNat / 256 ≠ 0 →
    ∃ t, exec (.retrainComplete failed) s = .next t ∧ t.n .ucieLinkState 0 = 5 ∧ t.ucie.headless = true ∧
      t.n .ucieLinkLosses 0 = min 4294967295 (s.n .ucieLinkLosses 0 + 1) ∧ t.reg Reg.ucieLaneFail = failed.toNat ∧
      t.bit Reg.ucieStatus 10 = true ∧ t.bit Reg.integStatus 1 = true) ∧
  (∀ (s : State) (failed : BitVec 16), s.n .ucieLinkState 0 ≠ 4 → exec (.retrainComplete failed) s = .next s) ∧
  (∀ s : State, s.n .ucieLinkState 0 = 4 → s.ucie.trainStart + 10 * Tm.ms ≤ s.now → s.boot.dieReset = false →
    ∃ t, exec .ucieLinkLost s = .next t ∧ t.n .ucieLinkState 0 = 5 ∧ t.ucie.headless = true ∧
      t.ucie.trainStart = s.now ∧ t.n .ucieLinkLosses 0 = min 4294967295 (s.n .ucieLinkLosses 0 + 1) ∧
      t.bit Reg.ucieStatus 10 = true ∧ t.bit Reg.integStatus 1 = true ∧ t.tm = s.tm ∧ t.wick = s.wick ∧
      (s.ucie.headless = false → t.n .faultCause 0 % 2 = 1 ∧ t.ucie.since = s.now ∧ t.stage.openSet = none ∧
        t.stage.waiting = s.stage.waiting ∧ ∀ ch : Chan, (t.framer ch).lan = [])) ∧
  (∀ s : State, s.n .ucieLinkState 0 ≠ 4 ∨ s.now < s.ucie.trainStart + 10 * Tm.ms → exec .ucieLinkLost s = .next s) ∧
  (∀ s : State,
    let due := s.n .ucieLinkState 0 = 5 ∧ s.ucie.trainStart + 100 * Tm.ms ≤ s.now ∧
      s.boot.rails[(2 : Fin 4)] = .inWindow ∧ s.boot.resetLow = false
    (due → ∃ t, exec .ucieTrainingRetry s = .next t ∧ t.n .ucieLinkState 0 = 1 ∧ t.ucie.trainStart = s.now ∧
      s.ObjsBut [(.ucieLinkState, 0)] t ∧ s.RegsBut [] t) ∧
    (¬ due → exec .ucieTrainingRetry s = .next s)) ∧
  (∀ (s : State) (failed : BitVec 16), s.n .ucieLinkState 0 = 1 → s.boot.rails[(3 : Fin 4)] = .inWindow →
    s.boot.lanternUp = true → s.boot.recovery = false ∨ s.boot.dieReset = false →
    let lower : Bool := failed.toNat % 256 == 0
    let passes : Bool := lower || failed.toNat / 256 == 0
    ∃ t, exec (.ucieTrained failed) s = .next t ∧
      (s.boot.dieReset = false ∨ s.boot.cause ≤ 1 → t.reg Reg.ucieLaneFail = failed.toNat) ∧
      (passes = true → s.boot.dieReset = false → t.n .ucieLinkState 0 = (if failed = 0 then 2 else 3) ∧
        t.n .ucieWidth 0 = (if failed = 0 then 16 else 8) ∧ t.bit Reg.ucieStatus 4 = !lower ∧
        t.bit Reg.ucieStatus 9 = s.bit Reg.ucieStatus 9) ∧
      (passes = true → s.ucie.headless = true → s.boot.dieReset = false →
        t.reg Reg.ucieDownTime = min 4294967295 ((s.now - s.ucie.lostAt) / Tm.ms)) ∧
      (passes = true → s.boot.dieReset = true → t.boot.dieReset = false ∧
        (s.boot.cause ≤ 1 → t.n .startPhase 0 = 1 ∧ t.boot.configured = s.boot.configured) ∧
        (1 < s.boot.cause → t.boot.configured = true ∧ t.n .startPhase 0 = 3)) ∧
      (passes = false → t.boot = s.boot ∧ t.n .ucieLinkState 0 = (if s.boot.dieReset then 1 else 5))) ∧
  (∀ (s : State) (failed : BitVec 16), s.n .ucieLinkState 0 ≠ 1 ∨ s.boot.rails[(3 : Fin 4)] ≠ .inWindow ∨
    s.boot.lanternUp = false ∨ (s.boot.recovery = true ∧ s.boot.dieReset = true) →
    exec (.ucieTrained failed) s = .next s) ∧
  (∀ s : State,
    let due := s.ucie.headless = true ∧ s.boot.lanternUp = true ∧ s.boot.recovery = false ∧ s.linkActive = true
    (due → ∃ t, exec .reattachment s = .next t ∧ t.ucie.headless = false ∧ t.n .faultCause 0 % 2 = 0 ∧
      t.n .headlessEpisodes 0 = min 4294967295 (s.n .headlessEpisodes 0 + 1) ∧ t.ucie.headEvents = [] ∧
      t.ucie.lostEvents = 0 ∧ t.boot.startDue = false ∧ (s.boot.startDue = false → t.boot = s.boot) ∧
      t.n .headlessLastDuration 0 = min 4294967295 ((s.now - s.ucie.since) / Tm.ms) ∧
      (∀ k : Fin 7, t.n .faultCause 0 / 2 ^ (k.val + 1) % 2 = s.n .faultCause 0 / 2 ^ (k.val + 1) % 2) ∧
      t.tm.queues = s.tm.queues ∧ t.wick = s.wick ∧ t.terms = s.terms ∧
      (s.boot.startDue = false → s.ucie.headEvents = [] → s.ucie.lostEvents = 0 → s.n .timeDomainSource 0 = 0 →
        s.n .timeDomainSource 1 = 0 → t.lan.masters = (s.raiseL 10 .headlessEpisodes 0
          (beBytes 4 ((s.now - s.ucie.since) / Tm.ms) ++ beBytes 4 0)).lan.masters)) ∧
    (¬ due → exec .reattachment s = .next s))

/-- Supply, resets, power-fail warnings and the regulation sequence (13_ciphers_keys_and_attestation.md R371,
17_package_pins_and_electrical.md R449, 17_package_pins_and_electrical.md R450, 17_package_pins_and_electrical.md
R452, 17_package_pins_and_electrical.md R457, 18_startup_reset_and_power_states.md R467,
18_startup_reset_and_power_states.md R468, 18_startup_reset_and_power_states.md R474). -/
def Obligations.SupplyAndResets : Prop :=
  (∀ (s : State) (osc : Int), s.boot.vinUp = false →
    ∃ t, exec (.coldStart true osc) s = .next t ∧ t.boot = State.reset.boot ∧ t.boot.vinUp = true ∧ t.nvm = s.nvm ∧
      t.pending = s.pending ∧ t.clk = { State.reset.clk with startTemp := osc } ∧ t.tm = State.reset.tm ∧
      t.gal = State.reset.gal ∧ t.terms = [] ∧ t.lan.claims = [] ∧
      (-2147483648 ≤ osc → osc < 2147483648 → t.num .oscCaseTemperature 0 = osc) ∧
      t.objs.all (fun e => decide (e.1 / 16777216 = Obj.timeModelBinsLearned.code ∨
        e.1 / 16777216 = Obj.oscCaseTemperature.code)) = true) ∧
  (∀ s : State, s.boot.vinUp = true → s.boot.resetLow = true →
    ∃ t, exec (.coldStart false 0) s = .next t ∧ t.boot = { s.boot with resetLow := false } ∧
      t.n .startPhase 0 = 0 ∧ t.nvm = s.nvm ∧ t.clk = s.clk ∧
      (s.boot.rails[(3 : Fin 4)] = .inWindow → s.boot.dieReset = true →
        t.n .ucieLinkState 0 = 1 ∧ t.ucie.trainStart = s.now) ∧
      s.ObjsBut [(.startPhase, 0), (.ucieLinkState, 0)] t ∧ s.RegsBut [] t) ∧
  (∀ (s : State) (osc : Int),
    (s.boot.vinUp = true → exec (.coldStart true osc) s = .next s) ∧
    (s.boot.vinUp = false ∨ s.boot.resetLow = false → exec (.coldStart false osc) s = .next s)) ∧
  (∀ s : State,
    let due := s.boot.vinUp = true ∧ s.wickRuns = true ∧ s.boot.resetLow = false
    (due → ∃ t, exec .resetNRecognised s = .next t ∧ t.boot.resetLow = true ∧ t.boot.dieReset = true ∧
      t.boot.lanternUp = false ∧ t.boot.cause = 1 ∧ t.wick = s.wick ∧ t.inc = s.inc ∧ t.nvm = s.nvm ∧
      t.n .startCause 0 = 1 ∧ t.n .startPhase 0 = 0 ∧ t.n .wickState 0 = s.n .wickState 0 ∧ t.n .ucieLinkState 0 = 0 ∧
      t.reg Reg.glbResetCause = 1 ∧ t.tm = .empty ∧ t.gal.entries = [] ∧ t.terms = [] ∧ t.acts = [] ∧
      t.lan.claims = [] ∧ t.boot.rails = s.boot.rails) ∧
    (¬ due → exec .resetNRecognised s = .next s)) ∧
  (∀ s : State,
    (s.boot.vinUp = true → ∃ t, exec .undervoltageReset s = .next t ∧ t.boot.vinUp = false ∧
      t.boot.rails = .replicate 4 .off ∧ t.boot.lanternUp = false ∧ t.nvm.keys = s.nvm.keys ∧ t.pending = s.pending ∧
      (s.life.saving = none → s.n .imageStatus 0 ≠ 2 → t.nvm = s.nvm) ∧
      (s.life.saving.isSome = true → (t.nvm.copies.getD s.life.nextCopy ⟨.new, false⟩).valid = false)) ∧
    (s.boot.vinUp = false → exec .undervoltageReset s = .next s)) ∧
  (∀ (s : State) (pin : Bool), s.boot.vinUp = true → s.n .powerFailState 0 = 0 →
    ∃ t, exec (.powerFailWarning pin) s = .next t ∧ t.n .powerFailState 0 = 1 ∧
      t.n .powerFailWarnings 0 = (s.n .powerFailWarnings 0 + 1) % 2 ^ 32 ∧ t.bit Reg.glbPfw 8 = true ∧
      t.bit Reg.glbPfw 0 = true ∧ t.bit Reg.glbPfw 1 = pin ∧ s.Raised t 1 .powerFailState 0 [0, 1] ∧
      (∀ k : Fin 2, t.n .imageStatus k = if s.n .imageStatus k = 2 then 4 else s.n .imageStatus k) ∧
      (s.boot.glim = false → s.recording = true →
        (∀ a ∈ s.life.lastSave, a + Tm.s ≤ s.now) ∨ s.life.saving.isSome = true →
        t.life.saving = some (s.life.saving.getD 1) ∧ t.life.queued = (s.life.saving.isSome || s.life.queued)) ∧
      (s.boot.glim = true ∨ s.recording = false → t.life.saving = s.life.saving ∧ t.life.queued = s.life.queued) ∧
      (s.boot.glim = false → s.boot.lanternUp = true → s.boot.recovery = false → s.nvmUp = true →
        t.nvm.sigLimit = s.lan.sigNext) ∧
      t.tm = s.tm ∧ t.wick = s.wick ∧ t.grants = s.grants) ∧
  (∀ (s : State) (pin : Bool),
    (s.boot.vinUp = false ∨ s.n .powerFailState 0 ≠ 0 → exec (.powerFailWarning pin) s = .next s) ∧
    (s.n .powerFailState 0 = 0 → exec .powerFailWarningEnd s = .next s)) ∧
  (∀ s : State, s.n .powerFailState 0 ≠ 0 →
    ∃ t, exec .powerFailWarningEnd s = .next t ∧ t.n .powerFailState 0 = 0 ∧ t.bit Reg.glbPfw 0 = false ∧
      t.bit Reg.glbPfw 1 = false ∧ s.Raised t 1 .powerFailState 0 (beBytes 1 (s.n .powerFailState 0) ++ [0]) ∧
      s.ObjsBut [(.powerFailState, 0), (.sconceEventsLost, 0)] t ∧ s.RegsBut [Reg.glbPfw] t) ∧
  (∀ (s : State) (r : Fin 4) (a : Time), s.boot.rails[r] = .starting a → s.boot.vinUp = true →
    ∃ t, exec (.railInWindow r) s = .next t ∧ t.boot.rails[r] = .inWindow ∧
      (∀ k : Fin 4, k.val = r.val + 1 → s.boot.rails[k] = .off → t.boot.rails[k] = .starting s.now) ∧
      (∀ k : Fin 4, k ≠ r → ¬ (k.val = r.val + 1 ∧ s.boot.rails[k] = .off) → t.boot.rails[k] = s.boot.rails[k]) ∧
      (r = 3 → s.boot.dieReset = true → t.n .ucieLinkState 0 = 1 ∧ t.ucie.trainStart = s.now) ∧
      (r ≠ 3 → s.ObjsBut [] t) ∧ s.RegsBut [] t) ∧
  (∀ (s : State) (r : Fin 4) (a : Time), s.boot.rails[r] = .off ∨ s.boot.rails[r] = .inWindow ∨
    s.boot.rails[r] = .faulted a ∨ (s.boot.rails[r] = .starting a ∧ s.boot.vinUp = false) →
    exec (.railInWindow r) s = .next s) ∧
  (∀ (s : State) (r : Fin 4) (a : Time), s.boot.rails[r] = .starting a → a + 2 * Tm.ms ≤ s.now →
    ∃ t, exec .railStartTimeout s = .next t ∧ t.boot.rails = .replicate 4 .off ∧ t.now = s.now ∧
      t.boot.restartAt = some (s.now + 100 * Tm.ms) ∧ t.boot.lanternUp = false ∧ t.nvm = s.nvm ∧
      t.n .regulatorFaults 0 = min 4294967295 (s.n .regulatorFaults 0 + 1)) ∧
  (∀ s : State, (∀ x ∈ s.boot.rails.toList, (match x with
      | .starting a => decide (s.now < a + 2 * Tm.ms)
      | _ => true) = true) → exec .railStartTimeout s = .next s) ∧
  (∀ (s : State) (a : Time), s.boot.restartAt = some a → s.boot.vinUp = true → a ≤ s.now →
    ∃ t, exec .regulationRestart s = .next t ∧ t.boot.restartAt = none ∧ t.clk = { s.clk with since := s.now } ∧
      t.boot.rails = s.boot.rails.set 0 (.starting s.now) ∧ s.ObjsBut [] t ∧ s.RegsBut [] t) ∧
  (∀ (s : State) (a : Time), s.boot.restartAt = none ∨
    (s.boot.restartAt = some a ∧ (s.boot.vinUp = false ∨ s.now < a)) → exec .regulationRestart s = .next s)

/-- Firmware loaded, memories tested, and the device ready (14_integrity_and_fault_coverage.md R390,
18_startup_reset_and_power_states.md R469, 18_startup_reset_and_power_states.md R470,
18_startup_reset_and_power_states.md R471, 18_startup_reset_and_power_states.md R472,
18_startup_reset_and_power_states.md R473). -/
def Obligations.FirmwareAndReady : Prop :=
  (∀ s : State, s.boot.vinUp = true → s.boot.rails[(2 : Fin 4)] = .inWindow → s.boot.resetLow = false →
    s.boot.lanternUp = false →
    let back : Bool := s.nvm.trial && decide (2 ≤ s.nvm.tries)
    let trial : Bool := s.nvm.trial && !back
    let pref := if back then 1 - s.nvm.pref else s.nvm.pref
    ∃ t, exec .firmwareLoaded s = .next t ∧ t.boot.lanternUp = true ∧ t.boot.lanternStart = s.now ∧
      t.boot.kick = s.now ∧ t.lan.claims = s.lan.claims ∧
      (s.firmwareOk (s.slotImage pref) = true → t.boot.slot = pref ∧ t.boot.recovery = false ∧
        t.n .firmwareSlotActive 0 = pref % 256 ∧ t.n .startCause 0 = s.boot.cause % 256 ∧
        (s.nvmUp = true → t.nvm.pref = pref ∧ t.nvm.tries = s.nvm.tries + (if trial then 1 else 0) ∧
          (s.boot.readyAt = none → t.nvm.trial = trial))) ∧
      (s.firmwareOk (s.slotImage pref) = false → pref ≤ 1 → s.firmwareOk (s.slotImage (1 - pref)) = true →
        t.boot.slot = 1 - pref ∧ t.boot.recovery = false ∧ t.n .firmwareSlotActive 0 = 1 - pref ∧
        (s.nvmUp = true → t.nvm.pref = 1 - pref ∧ t.nvm.trial = false)) ∧
      (s.firmwareOk (s.slotImage pref) = false → s.firmwareOk (s.slotImage (1 - pref)) = false →
        t.boot.recovery = true ∧ t.n .startPhase 0 = 5 ∧ t.ucie = s.ucie)) ∧
  (∀ s : State, s.boot.vinUp = false ∨ s.boot.rails[(2 : Fin 4)] ≠ .inWindow ∨ s.boot.resetLow = true ∨
    s.boot.lanternUp = true → exec .firmwareLoaded s = .next s) ∧
  (∀ (s : State) (v : Vector (Fin 3) 15),
    let due := s.n .startPhase 0 = 1 ∧ s.boot.dieReset = false ∧ s.boot.configured = false ∧ s.boot.lanternUp = true
    (due → ∃ t, exec (.marchTestComplete v) s = .next t ∧
      ((∃ k : Fin 15, v[k] = 2) → t.n .startPhase 0 = 6 ∧ t.n .faultCause 0 / 128 % 2 = 1 ∧
        (∀ k : Fin 15, t.n .memTestResult k = v[k]) ∧ t.boot = s.boot ∧ s.RegsBut [] t) ∧
      ((∀ k : Fin 15, v[k] ≠ 2) → t.n .startPhase 0 = 3 ∧ t.boot.configured = true)) ∧
    (¬ due → exec (.marchTestComplete v) s = .next s)) ∧
  (∀ s : State,
    let due := s.n .startPhase 0 = 3 ∧ s.boot.configured = true ∧ s.n .wickState 0 ≠ 0 ∧
      (s.n .grantLaneState0 0 = 3 ∨ s.n .grantLaneState1 0 = 3 ∨ s.n .grantLaneState2 0 = 3) ∧
      (∀ ch ∈ s.boot.imageChans, s.n .channelLaneState ch = 2 ∨ s.n .channelLaneState ch = 5)
    (due → ∃ t, exec .readyEvent s = .next t ∧ t.n .startPhase 0 = 4 ∧ t.boot = { s.boot with readyAt := some s.now } ∧
      s.Raised t 1 .startPhase 0 [3, 4] ∧ (s.n .firmwareTrialTime 0 ≠ 0 → t.nvm = s.nvm) ∧
      (s.n .firmwareTrialTime 0 = 0 → s.nvmUp = true → t.nvm = { s.nvm with trial := false }) ∧ s.RegsBut [] t) ∧
    (¬ due → exec .readyEvent s = .next s))

/-- Entry to Glim, the wakes, the return, and block clocks (11_uplink_ports.md R323,
18_startup_reset_and_power_states.md R477, 18_startup_reset_and_power_states.md R479,
18_startup_reset_and_power_states.md R480, 18_startup_reset_and_power_states.md R481,
18_startup_reset_and_power_states.md R482, 18_startup_reset_and_power_states.md R483,
19_counters_and_lifetime_records.md R508). -/
def Obligations.GlimEnteredAndLeft : Prop :=
  (∀ s : State,
    let due := s.boot.glimEntry.isSome = true ∧ s.snuffs = [] ∧ (∀ p : Uplink, s.on .uplinkEnable p = true →
      s.n .uplinkWakeMode p ≠ 0 → ∀ c : Fin 8, s.queue (txKey (8 * p + c)) = []) ∧ s.avail = true
    (due → (∃ t, exec (.glimGo none) s = .next t ∧ t.bit Reg.glbPowerCtrl 8 = true ∧ t.boot = s.boot ∧
        (s.recording = true → s.nvmUp = true → t.life.lastSave = some s.now ∧ t.life.saving = none) ∧
        s.ObjsBut [(.lifetimeLastSave, 0)] t ∧ s.RegsBut [Reg.glbPowerCtrl] t) ∧
      (∀ c : Fin 4, ∃ t, exec (.glimGo (some c)) s = .next t ∧ t.boot.glimEntry = none ∧ t.boot.glim = false ∧
        t.boot.returning = some s.now ∧ t.n .glimWakeCause 0 = (s.boot.heldWake.getD c) % 256 ∧
        t.n .devicePowerStateActual 0 = 4 ∧ t.boot.heldWake = none ∧ t.bit Reg.glbPowerCtrl 8 = false)) ∧
    (¬ due → exec (.glimGo none) s = .next s ∧ exec (.glimGo (some 1)) s = .next s)) ∧
  (∀ (s : State) (f : Time), s.boot.glimEntry = some f → f + s.n .glimDrainTime 0 * Tm.ms ≤ s.now →
    ∃ t, exec .glimDrainExpiry s = .next t ∧ t.boot = s.boot ∧ t.snuffs = s.snuffs ∧
      (∀ (p : Uplink) (c : Fin 8), s.on .uplinkEnable p = true → s.n .uplinkWakeMode p ≠ 0 →
        t.queue (txKey (8 * p + c)) = []) ∧
      (∀ i : Fin 65536, (s.snuffOf .queue i).isSome = true → t.queue i = [])) ∧
  (∀ (s : State) (f : Time), s.boot.glimEntry = none ∨
    (s.boot.glimEntry = some f ∧ s.now < f + s.n .glimDrainTime 0 * Tm.ms) → exec .glimDrainExpiry s = .next s) ∧
  (∀ s : State,
    let due := s.boot.glimEntry.isSome = true ∧ s.bit Reg.glbPowerCtrl 8 = true
    (due → ∃ t, exec .glimReached s = .next t ∧ t.boot.glimEntry = none ∧ t.boot.glimAt = s.now ∧ t.boot.heldWake = none ∧
      t.terms = [] ∧ t.acts = [] ∧ t.frags = [] ∧ t.tm.queues = [] ∧ t.tm.cells = [] ∧ t.ciph.termKeys = [] ∧
      t.bit Reg.glbPowerCtrl 8 = false ∧ t.gal.entries = s.gal.entries ∧ t.wick = s.wick ∧
      (s.boot.heldWake = none → t.boot.glim = true) ∧
      (∀ c ∈ s.boot.heldWake, t.boot.glim = false ∧ t.boot.returning = some s.now ∧ t.n .glimWakeCause 0 = c % 256) ∧
      (s.n .wickState 0 = 3 → t.n .wickState 0 = 4) ∧ (s.n .wickState 0 ≠ 3 → t.n .wickState 0 = s.n .wickState 0)) ∧
    (¬ due → exec .glimReached s = .next s)) ∧
  (∀ (s : State) (p : Uplink) (seen : WakeSignal),
    let detects : Bool := s.boot.glim || s.boot.glimEntry.isSome || (s.boot.returning.isSome &&
      s.boot.matched.any fun m => decide (s.now ≤ m.1 + Tm.ms))
    let mode := match seen with | .frame _ => 1 | .energy _ _ => 2
    let hit : Bool := match seen with
      | .frame bytes => (List.finRange 64).all fun k => bytes[k] &&& (s.oct .uplinkWakeMask p).getD k 0 ==
          (s.oct .uplinkWakePattern p).getD k 0 &&& (s.oct .uplinkWakeMask p).getD k 0
      | .energy dark lit => decide (10 * Tm.ms ≤ dark) && decide (Tm.ms ≤ lit)
    let due := detects = true ∧ s.on .uplinkEnable p = true ∧ s.n .uplinkWakeMode p = mode ∧ hit = true
    let near : Bool := s.boot.matched.all fun m => decide (s.now ≤ m.1 + Tm.ms)
    let first := (s.boot.matched.getD (s.now, [])).1
    let ports := (s.boot.matched.getD (s.now, [])).2
    let noted := if near then some (first, ports.filter (· != p.val) ++ [p.val]) else s.boot.matched
    (due → ∃ t, exec (.uplinkWakeMatch p seen) s = .next t ∧
      t.n .uplinkWakeMatches p = (s.n .uplinkWakeMatches p + 1) % 2 ^ 64 ∧
      (s.bit Reg.glbPowerCtrl 17 = false → t.boot = s.boot ∧ t.bit (Reg.uplStatus p) 12 = true ∧
        s.ObjsBut [(.uplinkWakeMatches, p.val)] t ∧ s.RegsBut [Reg.uplStatus p] t) ∧
      (s.bit Reg.glbPowerCtrl 17 = true → t.boot.matched = noted) ∧
      (s.bit Reg.glbPowerCtrl 17 = true → s.boot.glim = true → t.boot.glim = false ∧ t.n .glimWakeCause 0 = mode ∧
        t.n .devicePowerStateActual 0 = 4 ∧ t.boot.returning = some s.now ∧ t.grants.reloadDue = true ∧
        t.tm.rebuilding = true ∧ t.bit Reg.glbPowerStatus 10 = true) ∧
      (s.bit Reg.glbPowerCtrl 17 = true → s.boot.glim = false → s.boot.glimEntry.isSome = true →
        t.boot.heldWake = some (s.boot.heldWake.getD mode) ∧ t.boot.glimEntry = s.boot.glimEntry ∧
        s.ObjsBut [(.uplinkWakeMatches, p.val)] t ∧ s.RegsBut [Reg.uplStatus p] t) ∧
      (s.bit Reg.glbPowerCtrl 17 = true → s.boot.glim = false → s.boot.glimEntry = none →
        t.boot = { s.boot with matched := noted })) ∧
    (¬ due → exec (.uplinkWakeMatch p seen) s = .next s)) ∧
  (∀ s : State,
    let due := s.boot.glim = true ∧ s.n .glimWakeAt 0 ≠ 0 ∧ s.n .glimWakeAt 0 ≤ s.wick ∧ s.bit Reg.glbPowerCtrl 16 = true
    (due → ∃ t, exec .glimWakeTime s = .next t ∧ t.boot.glim = false ∧ t.n .glimWakeCause 0 = 3 ∧
      t.n .devicePowerStateActual 0 = 4 ∧ t.boot.returning = some s.now ∧ t.bit Reg.glbPowerStatus 10 = true ∧
      t.tm.rebuilding = true ∧ t.grants.reloadDue = true) ∧
    (¬ due → exec .glimWakeTime s = .next s)) ∧
  (∀ (s : State) (a : Time), s.boot.returning = some a →
    let due := s.tm.rebuilding = false ∧ s.grants.reload = none ∧ s.grants.reloadDue = false ∧
      (∀ ch : Chan, s.laneWanted ch = true → s.n .channelLaneState ch = 2 ∨ s.n .channelLaneState ch = 5)
    let trim := s.bit Reg.glbPowerCtrl 0
    (due → ∃ t, exec .glimReturnComplete s = .next t ∧ t.boot.returning = none ∧ t.boot.matched = none ∧
      t.n .devicePowerState 0 = trim.toNat ∧ t.n .devicePowerStateActual 0 = trim.toNat ∧
      t.n .glimEpisodes 0 = min 4294967295 (s.n .glimEpisodes 0 + 1) ∧
      t.life.rec_.powered = s.life.rec_.powered + (a - s.boot.glimAt) / Tm.s ∧
      s.Raised t 1 .devicePowerStateActual 0 ([4, 0] ++ beBytes 1 (s.n .glimWakeCause 0) ++
        ((s.boot.matched.map Prod.snd).getD []).flatMap fun p => beBytes 1 p) ∧
      (trim = false → s.RegsBut [] t)) ∧
    (¬ due → exec .glimReturnComplete s = .next s)) ∧
  (∀ s : State, s.boot.returning = none → exec .glimReturnComplete s = .next s) ∧
  (∀ (s : State) (b : Fin 16),
    let chans := ∃ ch : Chan, s.n .channelSnuffPhase ch ≠ 3 ∨ s.n .channelLaneState ch = 4
    let upls := ∃ p : Uplink, s.n .uplinkSnuffPhase p ≠ 3
    let psgs := ∃ q : Psg, s.n .passageSnuffPhase q ≠ 3
    let busy := b = 0 ∨ b = 1 ∨ b = 13 ∨ b = 15 ∨ (2 ≤ b.val ∧ b.val ≤ 5 ∧ chans) ∨ (b = 10 ∧ upls) ∨ (b = 11 ∧ psgs) ∨
      (((6 ≤ b.val ∧ b.val ≤ 9) ∨ b = 12) ∧ (chans ∨ upls ∨ psgs)) ∨ (b = 14 ∧ s.withNum .counterEnable 1 ≠ [])
    let due := s.fabricRuns = true ∧ ¬ busy ∧ tabGet (fun _ => 0) s.boot.clkLast b + Tm.ms ≤ s.now
    (due → ∃ t, exec (.blockClockStop b) s = .next t ∧ t.boot.clkStop / 2 ^ b.val % 2 = 1 ∧
      (∀ k : Fin 16, k ≠ b → t.boot.clkStop / 2 ^ k.val % 2 = s.boot.clkStop / 2 ^ k.val % 2) ∧
      s.ObjsBut [] t ∧ s.RegsBut [] t) ∧
    (¬ due → exec (.blockClockStop b) s = .next s))

/-- Draining, the drain limit and Dark of resources, and lanes whose PLL has locked (04_activation_and_ranging.md
R133, 11_uplink_ports.md R311, 12_passage_cascade.md R331, 13_ciphers_keys_and_attestation.md R360,
18_startup_reset_and_power_states.md R485, 18_startup_reset_and_power_states.md R487,
18_startup_reset_and_power_states.md R490). -/
def Obligations.SnuffCarriedOut : Prop :=
  (∀ (s : State) (k : ResKind) (i : Nat) (r : SnuffRec), s.snuffOf k i = some r → i < 65536 →
    let byFrame := k = .channel ∨ k = .terminal ∨ k = .alloc ∨ k = .flow ∨ (k = .queue ∧ r.byContainer = true)
    let due := r.draining = none ∧ (byFrame → s.wick % Tm.frame = 0 ∧ r.closing < s.now)
    (due → ∃ t, exec (.snuffDraining k i) s = .next t ∧ t.n (State.phaseObj k) i = 2 ∧
      t.snuffOf k i = some { r with draining := some s.now } ∧ (k = .queue → r.purge = true → t.queue i = []) ∧
      (k = .queue ∨ k = .sa ∨ k = .uplink ∨ k = .psgLane →
        s.ObjsBut [(State.phaseObj k, i)] t ∨ r.purge = true)) ∧
    (¬ due → exec (.snuffDraining k i) s = .next s)) ∧
  (∀ (s : State) (k : ResKind) (i : Nat) (r : SnuffRec) (k2 : ResKind) (j : Nat) (r2 : SnuffRec),
    s.snuffOf k i = some r → r.draining = none → s.wick % Tm.frame = 0 → r.closing < s.now →
    (k2, j) ∈ s.contents k i → i < 65536 → j < 65536 → s.snuffOf k2 j = some r2 → r2.draining = none →
    ∃ t, exec (.snuffDraining k i) s = .next t ∧ t.n (State.phaseObj k2) j = 2 ∧
      t.snuffOf k2 j = some { r2 with draining := some s.now }) ∧
  (∀ (s : State) (k : ResKind) (i : Nat), s.snuffOf k i = none →
    exec (.snuffDraining k i) s = .next s ∧ exec (.snuffDrainLimit k i) s = .next s ∧
    exec (.snuffDark k i) s = .next s) ∧
  (∀ (s : State) (k : ResKind) (i : Nat) (r : SnuffRec) (d : Time), s.snuffOf k i = some r → r.draining = some d →
    let due := d + 100 * Tm.ms ≤ s.now ∧ s.holdsFrames k i = true
    (due → ∃ t, exec (.snuffDrainLimit k i) s = .next t ∧ t.bit Reg.tmStatus 6 = true ∧
      (k = .queue ∨ k = .uplink ∨ k = .psgPort → t.holdsFrames k i = false) ∧
      (k = .terminal → t.omci i = []) ∧
      (k = .queue → t.queue i = [] ∧ t.n .snuffPurged 0 = (s.n .snuffPurged 0 + (s.queue i).length) % 2 ^ 64)) ∧
    (¬ due → exec (.snuffDrainLimit k i) s = .next s)) ∧
  (∀ (s : State) (k : ResKind) (i : Nat) (r : SnuffRec), s.snuffOf k i = some r → r.draining = none →
    exec (.snuffDrainLimit k i) s = .next s ∧ exec (.snuffDark k i) s = .next s) ∧
  (∀ (s : State) (k : ResKind) (i : Nat) (r : SnuffRec) (d : Time), s.snuffOf k i = some r → i < 65536 →
    r.draining = some d →
    let boundary := s.wick % Tm.frame = 0
    let over_ := r.closing + 875 * Tm.us ≤ s.now
    let inside := ∀ x ∈ s.contents k i, s.n (State.phaseObj x.1) x.2 = 3
    let due := (k = .channel → boundary ∧ over_ ∧ r.sent = true ∧ inside) ∧
      (k = .terminal → boundary ∧ r.sent = true ∧ inside) ∧
      (k = .alloc → boundary ∧ over_ ∧ (s.n .allocIdAssigned i = 0xFFFF ∨ s.avail = true)) ∧
      (k = .flow → over_ ∧ s.holdsFrames .flow i = false) ∧
      (k = .psgLane → s.n .passageSnuffPhase (i / 4) = 0 ∧ d + 2330 * Tm.ns ≤ s.now) ∧ (k = .queue → s.queue i = []) ∧
      (k = .uplink → ∀ c : Fin 8, s.queue (txKey (8 * i + c)) = []) ∧
      (k = .psgPort → ∀ c : Fin 8, s.queue (transitKey i c) = [] ∧ s.queue (txKey (8 * (16 + i) + c)) = [])
    (due → ∃ t, exec (.snuffDark k i) s = .next t ∧ t.n (State.phaseObj k) i = 3 ∧ t.snuffOf k i = none ∧
      (k = .sa → t.n .saState i = 0 ∧ t.n .saNextPn i = 0 ∧ t.val .saKey i = Obj.saKey.info.dflt i ∧
        t.val .saSalt i = Obj.saSalt.info.dflt i) ∧
      (k = .queue → t.bit Reg.tmStatus 5 = true ∧
        s.ObjsBut [(.queueSnuffPhase, i), (.sconceEventsLost, 0)] t ∧ s.RegsBut [Reg.tmStatus] t) ∧
      (k = .queue ∨ k = .sa ∨ k = .flow → s.Raised t 5 (State.phaseObj k) i []) ∧
      (k = .channel → t.n .channelLaneState i = 0 ∧ ∀ b : Fin 2, t.slotState true (2 * i + b) = 0) ∧
      (k = .terminal → t.slotState false (2 * i) = 0 ∧ t.slotState false (2 * i + 1) = 0 ∧
        tabFind t.ciph.termKeys (2 * i) = none ∧ tabFind t.ciph.termKeys (2 * i + 1) = none) ∧
      (k = .alloc → t.n .allocIdAssigned i = 0xFFFF) ∧
      (k = .uplink → t.n .uplinkLinkState i = 0) ∧
      (k = .psgLane → t.n .passageLaneState i = 0)) ∧
    (¬ due → exec (.snuffDark k i) s = .next s)) ∧
  (∀ (s : State) (l : Fin 16),
    let due := s.on .passagePortEnable (l.val / 4) = true ∧
      s.n .passageLaneEnable (l.val / 4) / 2 ^ (l.val % 4) % 2 = 1 ∧ s.n .passageLaneState l = 0
    (due → ∃ t, exec (.portLanePllLocked true l) s = .next t ∧ t.n .passageLaneState l = 1 ∧
      t.n .passageLaneSnuffPhase l = 0 ∧ (t.psg (l.val / 4)).pll / 2 ^ (l.val % 4) % 2 = 1 ∧
      s.ObjsBut [(.passageLaneState, l.val), (.passageLaneSnuffPhase, l.val)] t ∧ s.RegsBut [] t) ∧
    (¬ due → exec (.portLanePllLocked true l) s = .next s)) ∧
  (∀ (s : State) (p l : Uplink), s.n .uplinkSnuffPhase p = 0 → p ≤ l → l.val < p.val + s.portLanes p →
    (∀ q : Uplink, q < p → s.portLanes q = 0 ∨ s.n .uplinkSnuffPhase q ≠ 0 ∨ q.val + s.portLanes q ≤ l.val) →
    ∃ t, exec (.portLanePllLocked false l) s = .next t ∧ (t.upl p).pll / 2 ^ (l.val - p.val) % 2 = 1 ∧
      t.upl p = { s.upl p with pll := (t.upl p).pll } ∧ s.ObjsBut [] t ∧ s.RegsBut [] t) ∧
  (∀ (s : State) (l : Uplink), (∀ p : Uplink, s.n .uplinkSnuffPhase p ≠ 0 ∨ l < p ∨ p.val + s.portLanes p ≤ l.val) →
    exec (.portLanePllLocked false l) s = .next s)
end

