-- ==== Sys2Proof/Laws/Table.lean ====
section
/-!
SUPPORT. Sparse tables: a read after a write gives the value written, a write leaves every other key alone, and every
operation keeps the canonical form.
-/

namespace Sys2Proof.Machine

variable {α : Type}

/-- Every key of the table lies above `b`. -/
def tabAbove (b : Nat) (t : Tab α) : Prop := ∀ p ∈ t, b < p.1

theorem tabSorted_cons {k : Nat} {v : α} {t : Tab α} :
    tabSorted ((k, v) :: t) = true ↔ tabAbove k t ∧ tabSorted t = true := by
  induction t generalizing k v with
  | nil => simp [tabSorted, tabAbove]
  | cons p t ih =>
    obtain ⟨b, w⟩ := p
    simp only [tabSorted, Bool.and_eq_true, decide_eq_true_eq]
    constructor
    · rintro ⟨h, hs⟩
      refine ⟨?_, hs⟩
      intro p hp
      rcases List.mem_cons.1 hp with rfl | hp
      · exact h
      · exact Nat.lt_trans h ((ih.1 hs).1 p hp)
    · rintro ⟨h, hs⟩
      exact ⟨h (b, w) (by simp), hs⟩

theorem tabSorted_filter {t : Tab α} (f : Nat × α → Bool) (h : tabSorted t = true) : tabSorted (t.filter f) = true := by
  induction t with
  | nil => exact h
  | cons p t ih =>
    obtain ⟨k, v⟩ := p
    obtain ⟨ha, hs⟩ := tabSorted_cons.1 h
    simp only [List.filter_cons]
    split
    · exact tabSorted_cons.2 ⟨fun p hp => ha p (List.mem_filter.1 hp).1, ih hs⟩
    · exact ih hs

theorem tabSorted_erase {t : Tab α} (a : Nat) (h : tabSorted t = true) : tabSorted (tabErase t a) = true :=
  tabSorted_filter _ h

theorem mem_tabPlace {t : Tab α} {a : Nat} {v : α} {p : Nat × α} : p ∈ tabPlace t a v ↔ p = (a, v) ∨ p ∈ t := by
  induction t with
  | nil => simp [tabPlace]
  | cons q t ih =>
    obtain ⟨k, w⟩ := q
    simp only [tabPlace]
    split
    · simp
    · simp only [List.mem_cons, ih]
      constructor
      · rintro (h | h | h) <;> simp [h]
      · rintro (h | h | h) <;> simp [h]

theorem tabSorted_place {t : Tab α} {a : Nat} {v : α} (h : tabSorted t = true) (hn : ∀ p ∈ t, p.1 ≠ a) :
    tabSorted (tabPlace t a v) = true := by
  induction t with
  | nil => rfl
  | cons q t ih =>
    obtain ⟨k, w⟩ := q
    obtain ⟨ha, hs⟩ := tabSorted_cons.1 h
    simp only [tabPlace]
    split
    · rename_i hk
      refine tabSorted_cons.2 ⟨?_, h⟩
      intro p hp
      rcases List.mem_cons.1 hp with rfl | hp
      · exact hk
      · exact Nat.lt_trans hk (ha p hp)
    · rename_i hk
      have hne : k ≠ a := hn (k, w) (by simp)
      refine tabSorted_cons.2 ⟨?_, ih hs fun p hp => hn p (by simp [hp])⟩
      intro p hp
      rcases mem_tabPlace.1 hp with rfl | hp
      · exact Nat.lt_of_le_of_ne (Nat.le_of_not_lt hk) hne
      · exact ha p hp

theorem tabErase_ne {t : Tab α} {a : Nat} : ∀ p ∈ tabErase t a, p.1 ≠ a := by
  intro p hp
  simpa using (List.mem_filter.1 hp).2

theorem tabSorted_put [DecidableEq α] (d : Nat → α) {t : Tab α} (a : Nat) (v : α) (h : tabSorted t = true) :
    tabSorted (tabPut d t a v) = true := by
  unfold tabPut
  split
  · exact tabSorted_erase a h
  · exact tabSorted_place (tabSorted_erase a h) tabErase_ne

theorem tabWf_filter [DecidableEq α] {d : Nat → α} {t : Tab α} (f : Nat × α → Bool) (h : tabWf d t = true) :
    tabWf d (t.filter f) = true := by
  simp only [tabWf, Bool.and_eq_true, List.all_eq_true] at h ⊢
  exact ⟨tabSorted_filter f h.1, fun p hp => h.2 p (List.mem_filter.1 hp).1⟩

theorem tabWf_put [DecidableEq α] {d : Nat → α} {t : Tab α} (a : Nat) (v : α) (h : tabWf d t = true) :
    tabWf d (tabPut d t a v) = true := by
  simp only [tabWf, Bool.and_eq_true, List.all_eq_true] at h ⊢
  refine ⟨tabSorted_put d a v h.1, ?_⟩
  intro p hp
  unfold tabPut at hp
  split at hp
  · exact h.2 p (List.mem_filter.1 hp).1
  · rename_i hv
    rcases mem_tabPlace.1 hp with rfl | hp
    · simpa using hv
    · exact h.2 p (List.mem_filter.1 hp).1

/-! ### Reads -/

theorem tabFind_mem {t : Tab α} {a : Nat} {v : α} (h : tabFind t a = some v) : (a, v) ∈ t := by
  induction t with
  | nil => cases h
  | cons p t ih =>
    obtain ⟨k, w⟩ := p
    simp only [tabFind] at h
    split at h
    · rename_i hk; cases h; simp [hk]
    · simp [ih h]

theorem tabFind_none {t : Tab α} {a : Nat} (h : ∀ p ∈ t, p.1 ≠ a) : tabFind t a = none := by
  induction t with
  | nil => rfl
  | cons p t ih =>
    obtain ⟨k, v⟩ := p
    simp only [tabFind]
    rw [if_neg (h (k, v) (by simp))]
    exact ih fun p hp => h p (by simp [hp])

theorem tabFind_place_self {t : Tab α} {a : Nat} {v : α} (h : ∀ p ∈ t, p.1 ≠ a) : tabFind (tabPlace t a v) a = some v := by
  induction t with
  | nil => simp [tabPlace, tabFind]
  | cons p t ih =>
    obtain ⟨k, w⟩ := p
    simp only [tabPlace]
    split
    · simp [tabFind]
    · simp only [tabFind]
      rw [if_neg (h (k, w) (by simp))]
      exact ih fun p hp => h p (by simp [hp])

theorem tabFind_place_other {t : Tab α} {a b : Nat} {v : α} (hb : b ≠ a) : tabFind (tabPlace t a v) b = tabFind t b := by
  induction t with
  | nil => simp [tabPlace, tabFind, Ne.symm hb]
  | cons p t ih =>
    obtain ⟨k, w⟩ := p
    simp only [tabPlace]
    split
    · simp [tabFind, Ne.symm hb]
    · simp only [tabFind, ih]

theorem tabFind_erase_other {t : Tab α} {a b : Nat} (hb : b ≠ a) : tabFind (tabErase t a) b = tabFind t b := by
  induction t with
  | nil => rfl
  | cons p t ih =>
    obtain ⟨k, w⟩ := p
    by_cases hk : k = a
    · subst hk
      simp only [tabErase, List.filter_cons, tabFind, ne_eq, not_true_eq_false, decide_false, Bool.false_eq_true, if_false,
        Ne.symm hb]
      exact ih
    · have : tabErase ((k, w) :: t) a = (k, w) :: tabErase t a := by simp [tabErase, hk]
      rw [this]
      simp only [tabFind, ih]

/-- A read of the key just written gives the value written. -/
@[simp] theorem tabGet_put_self [DecidableEq α] (d : Nat → α) (t : Tab α) (a : Nat) (v : α) :
    tabGet d (tabPut d t a v) a = v := by
  unfold tabGet tabPut
  split
  · rename_i h
    rw [tabFind_none tabErase_ne]
    exact h.symm
  · rw [tabFind_place_self tabErase_ne]
    rfl

/-- A read of another key gives what it gave. The default may differ from table to table. -/
theorem tabGet_put_other [DecidableEq α] (d e : Nat → α) (t : Tab α) {a b : Nat} (v : α) (h : b ≠ a) :
    tabGet e (tabPut d t a v) b = tabGet e t b := by
  unfold tabGet tabPut
  split
  · rw [tabFind_erase_other h]
  · rw [tabFind_place_other h, tabFind_erase_other h]

end Sys2Proof.Machine
end

