-- ==== Sys2Proof/Laws/Kept/Base.lean ====
section
/-!
SUPPORT. What an operation keeps: soundness, and every part of the state outside a set of parts, given as a number with a
bit for each part in the order of the fields. How this passes through branches, folds and updates.
-/

namespace Sys2Proof.Machine

/-- The bit of a part. -/
def Part.ix : Part → Nat
  | .pending => 0
  | .objs => 1
  | .regs => 2
  | .latched => 3
  | .clk => 4
  | .lan => 5
  | .nvm => 6
  | .stage => 7
  | .ucie => 8
  | .boot => 9
  | .life => 10
  | .snuffs => 11
  | .limits => 12
  | .lanes => 13
  | .cages => 14
  | .eqRuns => 15
  | .framers => 16
  | .lineRun => 17
  | .gal => 18
  | .frags => 19
  | .tm => 20
  | .terms => 21
  | .acts => 22
  | .logEvents => 23
  | .grants => 24
  | .ciph => 25
  | .uplinks => 26
  | .psgs => 27
  | .casc => 28
  | .sent => 29
  | .fresh => 30

/-- A set of parts lies within another. -/
def Sub (g m : Nat) : Prop := g &&& m = g

theorem so {g f m : Nat} (h : Sub f m) (e : g &&& f = g) : Sub g m := by
  unfold Sub at h ⊢
  rw [← e, Nat.and_assoc, h]

theorem hit {f m i : Nat} (h : Sub f m) (e : f.testBit i = true) (hm : m.testBit i = false) : False := by
  unfold Sub at h
  have := congrArg (fun x => x.testBit i) h
  simp [e, hm] at this

/-- The parts outside the set are the same. -/
def State.Within (m : Nat) (s t : State) : Prop := ∀ p : Part, m.testBit p.ix = false → State.Same p s t

/-- From `org`, soundness kept and nothing outside the set changed. -/
def State.Kept (m : Nat) (org s : State) : Prop := (org.Sound → s.Sound) ∧ State.Within m org s

open State

theorem Same_refl (p : Part) (s : State) : State.Same p s s := by cases p <;> rfl

theorem Same_trans {p : Part} {s t u : State} (h : State.Same p s t) (k : State.Same p t u) : State.Same p s u := by
  cases p <;> exact Eq.trans k h

theorem kept_refl (m : Nat) (s : State) : Kept m s s := ⟨id, fun p _ => Same_refl p s⟩

/-- A further change within the set, which keeps soundness. -/
theorem step_kept {m : Nat} {org s t : State} (h : Kept m org s) (hs : s.Sound → t.Sound) (hw : Within m s t) : Kept m org t :=
  ⟨fun k => hs (h.1 k), fun p hp => Same_trans (h.2 p hp) (hw p hp)⟩

theorem Within_only {m : Nat} {ps : List Part} {s t : State} (h : Within m s t)
    (hm : ∀ p, p ∉ ps → m.testBit p.ix = false) : State.Only ps s t := fun p hp => h p (hm p hp)

/-- An answer whose next state, if any, is kept. -/
def KeptOut (m : Nat) (org : State) (o : Host.Outcome State Fault Refusal) : Prop := ∀ t, o = .next t → Kept m org t

/-- An optional state that is kept. -/
def KeptOpt (m : Nat) (org : State) (o : Option State) : Prop := ∀ t, o = some t → Kept m org t

variable {m : Nat} {org : State}

theorem ite_kept {c : Prop} [Decidable c] {a b : State} (ha : Kept m org a) (hb : Kept m org b) :
    Kept m org (if c then a else b) := by
  split <;> assumption

theorem ite_kept1 {α : Type} {c : Prop} [Decidable c] {a b : State × α} (ha : Kept m org a.1) (hb : Kept m org b.1) :
    Kept m org (if c then a else b).1 := by split <;> assumption

theorem ite_kept2 {α : Type} {c : Prop} [Decidable c] {a b : α × State} (ha : Kept m org a.2) (hb : Kept m org b.2) :
    Kept m org (if c then a else b).2 := by split <;> assumption

theorem ite_keptOut {c : Prop} [Decidable c] {a b : Host.Outcome State Fault Refusal} (ha : KeptOut m org a)
    (hb : KeptOut m org b) : KeptOut m org (if c then a else b) := by split <;> assumption

theorem ite_keptOpt {c : Prop} [Decidable c] {a b : Option State} (ha : KeptOpt m org a) (hb : KeptOpt m org b) :
    KeptOpt m org (if c then a else b) := by split <;> assumption

theorem next_kept {s : State} (h : Kept m org s) : KeptOut m org (.next s) := by
  intro t ht; cases ht; exact h

theorem some_kept {s : State} (h : Kept m org s) : KeptOpt m org (some s) := by
  intro t ht; cases ht; exact h

theorem none_kept : KeptOpt m org none := by intro t ht; cases ht

theorem opt_kept {o : Option State} {t : State} (h : o = some t) (ho : KeptOpt m org o) : Kept m org t := ho t h

theorem getD_kept {o : Option State} {s : State} (ho : KeptOpt m org o) (h : Kept m org s) : Kept m org (o.getD s) := by
  cases o with
  | none => exact h
  | some t => exact ho t rfl

theorem fst_kept {α : Type} {p : State × α} {u : State} {a : α} (h : p = (u, a)) (hp : Kept m org p.1) : Kept m org u := by
  subst h; exact hp

theorem snd_kept {α : Type} {p : α × State} {u : State} {a : α} (h : p = (a, u)) (hp : Kept m org p.2) : Kept m org u := by
  subst h; exact hp

theorem foldl_kept {α : Type} {s : State} (f : State → α → State) (l : List α) (h : Kept m org s)
    (hf : ∀ u x, Kept m org u → Kept m org (f u x)) : Kept m org (l.foldl f s) := by
  induction l generalizing s with
  | nil => exact h
  | cons x l ih => exact ih (hf _ _ h)

theorem foldl_kept1 {α β : Type} {p : State × β} (f : State × β → α → State × β) (l : List α) (h : Kept m org p.1)
    (hf : ∀ u x, Kept m org u.1 → Kept m org (f u x).1) : Kept m org (l.foldl f p).1 := by
  induction l generalizing p with
  | nil => exact h
  | cons x l ih => exact ih (hf _ _ h)

theorem foldl_kept2 {α β : Type} {p : β × State} (f : β × State → α → β × State) (l : List α) (h : Kept m org p.2)
    (hf : ∀ u x, Kept m org u.2 → Kept m org (f u x).2) : Kept m org (l.foldl f p).2 := by
  induction l generalizing p with
  | nil => exact h
  | cons x l ih => exact ih (hf _ _ h)

theorem foldl_kept22 {α β γ : Type} {p : β × γ × State} (f : β × γ × State → α → β × γ × State) (l : List α)
    (h : Kept m org p.2.2) (hf : ∀ u x, Kept m org u.2.2 → Kept m org (f u x).2.2) : Kept m org (l.foldl f p).2.2 := by
  induction l generalizing p with
  | nil => exact h
  | cons x l ih => exact ih (hf _ _ h)

theorem ite_kept22 {α β : Type} {c : Prop} [Decidable c] {a b : α × β × State} (ha : Kept m org a.2.2)
    (hb : Kept m org b.2.2) : Kept m org (if c then a else b).2.2 := by split <;> assumption

theorem snd22_kept {α β : Type} {p : α × β × State} {u : State} {a : α} {b : β} (h : p = (a, b, u))
    (hp : Kept m org p.2.2) : Kept m org u := by subst h; exact hp

/-- Fields of which soundness does not speak may take any value within the set. -/
theorem mk_kept {s : State} {lan nvm stage ucie boot life snuffs limits lanes cages eqRuns framers lineRun
    gal frags tm terms acts logEvents grants ciph uplinks psgs casc sent fresh}
    (h5 : m.testBit 5 = false → lan = s.lan) (h6 : m.testBit 6 = false → nvm = s.nvm) (h7 : m.testBit 7 = false
    → stage = s.stage) (h8 : m.testBit 8 = false → ucie = s.ucie) (h9 : m.testBit 9 = false → boot = s.boot)
    (h10 : m.testBit 10 = false → life = s.life) (h11 : m.testBit 11 = false → snuffs = s.snuffs) (h12 :
    m.testBit 12 = false → limits = s.limits) (h13 : m.testBit 13 = false → lanes = s.lanes) (h14 : m.testBit 14
    = false → cages = s.cages) (h15 : m.testBit 15 = false → eqRuns = s.eqRuns) (h16 : m.testBit 16 = false →
    framers = s.framers) (h17 : m.testBit 17 = false → lineRun = s.lineRun) (h18 : m.testBit 18 = false → gal =
    s.gal) (h19 : m.testBit 19 = false → frags = s.frags) (h20 : m.testBit 20 = false → tm = s.tm) (h21 :
    m.testBit 21 = false → terms = s.terms) (h22 : m.testBit 22 = false → acts = s.acts) (h23 : m.testBit 23 =
    false → logEvents = s.logEvents) (h24 : m.testBit 24 = false → grants = s.grants) (h25 : m.testBit 25 =
    false → ciph = s.ciph) (h26 : m.testBit 26 = false → uplinks = s.uplinks) (h27 : m.testBit 27 = false → psgs
    = s.psgs) (h28 : m.testBit 28 = false → casc = s.casc) (h29 : m.testBit 29 = false → sent = s.sent) (h30 :
    m.testBit 30 = false → fresh = s.fresh)
    (h : Kept m org s) :
    Kept m org (State.mk s.pending s.objs s.regs s.latched s.clk lan nvm stage ucie boot life snuffs limits lanes cages eqRuns
      framers lineRun gal frags tm terms acts logEvents grants ciph uplinks psgs casc sent fresh) := by
  refine step_kept h id ?_
  intro p hq
  cases p with
  | pending => exact rfl
  | objs => exact rfl
  | regs => exact rfl
  | latched => exact rfl
  | clk => exact rfl
  | lan => exact h5 hq
  | nvm => exact h6 hq
  | stage => exact h7 hq
  | ucie => exact h8 hq
  | boot => exact h9 hq
  | life => exact h10 hq
  | snuffs => exact h11 hq
  | limits => exact h12 hq
  | lanes => exact h13 hq
  | cages => exact h14 hq
  | eqRuns => exact h15 hq
  | framers => exact h16 hq
  | lineRun => exact h17 hq
  | gal => exact h18 hq
  | frags => exact h19 hq
  | tm => exact h20 hq
  | terms => exact h21 hq
  | acts => exact h22 hq
  | logEvents => exact h23 hq
  | grants => exact h24 hq
  | ciph => exact h25 hq
  | uplinks => exact h26 hq
  | psgs => exact h27 hq
  | casc => exact h28 hq
  | sent => exact h29 hq
  | fresh => exact h30 hq

theorem State.putVal_kept (s : State) (o : Obj) (i : Nat) (v : Val) (hp : Sub 2 m) (h : Kept m org s) :
    Kept m org (s.putVal o i v) := by
  refine step_kept h (fun k => ⟨⟨tabSorted_put (fun _ => o.info.dflt i) (o.key i) v k.1.1, k.1.2⟩, k.2⟩) ?_
  intro p hq; cases p <;> first | exact (hit hp rfl hq).elim | rfl

theorem State.putReg_kept (s : State) (a v : Nat) (hp : Sub 4 m) (h : Kept m org s) : Kept m org (s.putReg a v) := by
  refine step_kept h (fun k => ⟨⟨k.1.1, tabWf_put (d := State.regDflt) a (v % 4294967296) k.1.2⟩, k.2⟩) ?_
  intro p hq; cases p <;> first | exact (hit hp rfl hq).elim | rfl

end Sys2Proof.Machine
end

