-- ==== Sys2Proof/Laws/Kept/Ops.lean ====
section
/-!
SUPPORT. The operations of Machine/Ops.lean keep soundness and the parts they do not name.
-/

namespace Sys2Proof.Machine

open State

theorem State.put_kept {m : Nat} {org : State} :
    ∀ s a1 a2 a3, Sub 2 m → Kept m org s → Kept m org (State.put s a1 a2 a3) := by
  intro s a1 a2 a3 hp h
  unfold State.put
  try dsimp only
  repeat' first
    | (with_reducible first
        | assumption | refine State.putVal_kept _ _ _ _ ?_ ?_)

theorem State.puti_kept {m : Nat} {org : State} :
    ∀ s a1 a2 a3, Sub 2 m → Kept m org s → Kept m org (State.puti s a1 a2 a3) := by
  intro s a1 a2 a3 hp h
  unfold State.puti
  try dsimp only
  repeat' first
    | (with_reducible first
        | assumption | refine State.putVal_kept _ _ _ _ ?_ ?_)

theorem State.putOct_kept {m : Nat} {org : State} :
    ∀ s a1 a2 a3, Sub 2 m → Kept m org s → Kept m org (State.putOct s a1 a2 a3) := by
  intro s a1 a2 a3 hp h
  unfold State.putOct
  try dsimp only
  repeat' first
    | (with_reducible first
        | assumption | refine State.putVal_kept _ _ _ _ ?_ ?_)

theorem State.bump_kept {m : Nat} {org : State} :
    ∀ s a1 a2 a3, Sub 2 m → Kept m org s → Kept m org (State.bump s a1 a2 a3) := by
  intro s a1 a2 a3 hp h
  unfold State.bump
  try dsimp only
  repeat' first
    | (with_reducible first
        | assumption | refine ite_kept ?_ ?_ | refine State.put_kept _ _ _ _ ?_ ?_)

theorem State.setBit_kept {m : Nat} {org : State} :
    ∀ s a1 a2 a3, Sub 4 m → Kept m org s → Kept m org (State.setBit s a1 a2 a3) := by
  intro s a1 a2 a3 hp h
  unfold State.setBit
  try dsimp only
  repeat' first
    | (with_reducible first
        | assumption | refine State.putReg_kept _ _ _ ?_ ?_)

theorem State.setField_kept {m : Nat} {org : State} :
    ∀ s a1 a2 a3 a4, Sub 4 m → Kept m org s → Kept m org (State.setField s a1 a2 a3 a4) := by
  intro s a1 a2 a3 a4 hp h
  unfold State.setField
  try dsimp only
  repeat' first
    | (with_reducible first
        | assumption | refine State.putReg_kept _ _ _ ?_ ?_)

theorem State.bumpReg_kept {m : Nat} {org : State} :
    ∀ s a1 a2, Sub 4 m → Kept m org s → Kept m org (State.bumpReg s a1 a2) := by
  intro s a1 a2 hp h
  unfold State.bumpReg
  try dsimp only
  repeat' first
    | (with_reducible first
        | assumption | refine State.putReg_kept _ _ _ ?_ ?_)

theorem State.limitTake_kept {m : Nat} {org : State} :
    ∀ s a1, Sub 4096 m → Kept m org s → Kept m org (State.limitTake s a1) := by
  intro s a1 hp h
  unfold State.limitTake
  try dsimp only
  repeat' first
    | with_reducible assumption
    | split
    | ((with_reducible refine mk_kept ?_ ?_ ?_ ?_ ?_ ?_ ?_ ?_ ?_ ?_ ?_ ?_ ?_ ?_ ?_ ?_ ?_ ?_ ?_ ?_ ?_ ?_ ?_ ?_ ?_ ?_ ?_) <;> try (intro hq; first | exact (hit hp rfl hq).elim | with_reducible rfl))

theorem State.setMaster_kept {m : Nat} {org : State} :
    ∀ s a1 a2, Sub 32 m → Kept m org s → Kept m org (State.setMaster s a1 a2) := by
  intro s a1 a2 hp h
  unfold State.setMaster
  try dsimp only
  repeat' first
    | with_reducible assumption
    | ((with_reducible refine mk_kept ?_ ?_ ?_ ?_ ?_ ?_ ?_ ?_ ?_ ?_ ?_ ?_ ?_ ?_ ?_ ?_ ?_ ?_ ?_ ?_ ?_ ?_ ?_ ?_ ?_ ?_ ?_) <;> try (intro hq; first | exact (hit hp rfl hq).elim | with_reducible rfl))

theorem State.queueTo_kept {m : Nat} {org : State} :
    ∀ s a1 a2, Sub 34 m → Kept m org s → Kept m org (State.queueTo s a1 a2) := by
  intro s a1 a2 hp h
  unfold State.queueTo
  try dsimp only
  repeat' first
    | with_reducible assumption
    | ((with_reducible refine so hp ?_); rfl)
    | (with_reducible first
        | refine ite_kept ?_ ?_ | refine State.bump_kept _ _ _ _ ?_ ?_ | refine State.setMaster_kept _ _ _ ?_ ?_)

theorem State.queueAll_kept {m : Nat} {org : State} :
    ∀ s a1, Sub 34 m → Kept m org s → Kept m org (State.queueAll s a1) := by
  intro s a1 hp h
  unfold State.queueAll
  try dsimp only
  repeat' first
    | (with_reducible first
        | assumption | refine State.queueTo_kept _ _ _ ?_ ?_)

theorem State.raiseL_kept {m : Nat} {org : State} :
    ∀ s a1 a2 a3 a4, Sub 34 m → Kept m org s → Kept m org (State.raiseL s a1 a2 a3 a4) := by
  intro s a1 a2 a3 a4 hp h
  unfold State.raiseL
  try dsimp only
  repeat' first
    | (with_reducible first
        | assumption | refine ite_kept ?_ ?_ | refine State.queueAll_kept _ _ ?_ ?_)

theorem State.raise_kept {m : Nat} {org : State} :
    ∀ s a1 a2 a3 a4, Sub 290 m → Kept m org s → Kept m org (State.raise s a1 a2 a3 a4) := by
  intro s a1 a2 a3 a4 hp h
  unfold State.raise
  try dsimp only
  repeat' first
    | with_reducible assumption
    | ((with_reducible refine so hp ?_); rfl)
    | (with_reducible first
        | refine ite_kept ?_ ?_ | refine State.raiseL_kept _ _ _ _ _ ?_ ?_)
    | ((with_reducible refine mk_kept ?_ ?_ ?_ ?_ ?_ ?_ ?_ ?_ ?_ ?_ ?_ ?_ ?_ ?_ ?_ ?_ ?_ ?_ ?_ ?_ ?_ ?_ ?_ ?_ ?_ ?_ ?_) <;> try (intro hq; first | exact (hit hp rfl hq).elim | with_reducible rfl))

theorem State.raiseChange_kept {m : Nat} {org : State} :
    ∀ s a1 a2 a3 a4 a5, Sub 290 m → Kept m org s → Kept m org (State.raiseChange s a1 a2 a3 a4 a5) := by
  intro s a1 a2 a3 a4 a5 hp h
  unfold State.raiseChange
  try dsimp only
  repeat' first
    | (with_reducible first
        | assumption | refine State.raise_kept _ _ _ _ _ ?_ ?_)

theorem State.raiseRefusal_kept {m : Nat} {org : State} :
    ∀ s a1 a2 a3 a4, Sub 290 m → Kept m org s → Kept m org (State.raiseRefusal s a1 a2 a3 a4) := by
  intro s a1 a2 a3 a4 hp h
  unfold State.raiseRefusal
  try dsimp only
  repeat' first
    | (with_reducible first
        | assumption | refine State.raise_kept _ _ _ _ _ ?_ ?_)

theorem State.raiseDone_kept {m : Nat} {org : State} :
    ∀ s a1 a2 a3, Sub 290 m → Kept m org s → Kept m org (State.raiseDone s a1 a2 a3) := by
  intro s a1 a2 a3 hp h
  unfold State.raiseDone
  try dsimp only
  repeat' first
    | (with_reducible first
        | assumption | refine State.raise_kept _ _ _ _ _ ?_ ?_)

theorem State.raiseConfig_kept {m : Nat} {org : State} :
    ∀ s a1 a2, Sub 290 m → Kept m org s → Kept m org (State.raiseConfig s a1 a2) := by
  intro s a1 a2 hp h
  unfold State.raiseConfig
  try dsimp only
  repeat' first
    | (with_reducible first
        | assumption | refine State.raise_kept _ _ _ _ _ ?_ ?_)

theorem State.putCause_kept {m : Nat} {org : State} :
    ∀ s a1 a2, Sub 2 m → Kept m org s → Kept m org (State.putCause s a1 a2) := by
  intro s a1 a2 hp h
  unfold State.putCause
  try dsimp only
  repeat' first
    | (with_reducible first
        | assumption | refine State.put_kept _ _ _ _ ?_ ?_)

theorem State.setCause_kept {m : Nat} {org : State} :
    ∀ s a1, Sub 2 m → Kept m org s → Kept m org (State.setCause s a1) := by
  intro s a1 hp h
  unfold State.setCause
  try dsimp only
  repeat' first
    | (with_reducible first
        | assumption | refine State.putCause_kept _ _ _ ?_ ?_)

theorem State.raiseFault_kept {m : Nat} {org : State} :
    ∀ s a1 a2 a3, Sub 290 m → Kept m org s → Kept m org (State.raiseFault s a1 a2 a3) := by
  intro s a1 a2 a3 hp h
  unfold State.raiseFault
  try dsimp only
  repeat' first
    | (with_reducible first
        | assumption | refine State.raise_kept _ _ _ _ _ ?_ ?_)

theorem State.countAdd_kept {m : Nat} {org : State} :
    ∀ s a1 a2, Sub 4390 m → Kept m org s → Kept m org (State.countAdd s a1 a2) := by
  intro s a1 a2 hp h
  unfold State.countAdd
  try dsimp only
  repeat' first
    | with_reducible assumption
    | ((with_reducible refine so hp ?_); rfl)
    | (with_reducible first
        | refine ite_kept ?_ ?_ | refine State.put_kept _ _ _ _ ?_ ?_ | refine State.raise_kept _ _ _ _ _ ?_ ?_
        | refine State.limitTake_kept _ _ ?_ ?_ | refine State.setBit_kept _ _ _ _ ?_ ?_
        | refine State.bump_kept _ _ _ _ ?_ ?_)

theorem State.count_kept {m : Nat} {org : State} :
    ∀ s a1 a2 a3, Sub 4390 m → Kept m org s → Kept m org (State.count s a1 a2 a3) := by
  intro s a1 a2 a3 hp h
  unfold State.count
  try dsimp only
  repeat' first
    | (with_reducible first
        | assumption | refine ite_kept ?_ ?_ | refine foldl_kept _ _ ?_ ?_ | refine State.countAdd_kept _ _ _ ?_ ?_)
    | intro _

theorem State.lineAdd_kept {m : Nat} {org : State} :
    ∀ s a1 a2 a3, Sub 131072 m → Kept m org s → Kept m org (State.lineAdd s a1 a2 a3) := by
  intro s a1 a2 a3 hp h
  unfold State.lineAdd
  try dsimp only
  repeat' first
    | (with_reducible first
        | assumption | refine ite_kept ?_ ?_)
    | ((with_reducible refine mk_kept ?_ ?_ ?_ ?_ ?_ ?_ ?_ ?_ ?_ ?_ ?_ ?_ ?_ ?_ ?_ ?_ ?_ ?_ ?_ ?_ ?_ ?_ ?_ ?_ ?_ ?_ ?_) <;> try (intro hq; first | exact (hit hp rfl hq).elim | with_reducible rfl))

theorem State.lifeCount_kept {m : Nat} {org : State} :
    ∀ s a1 a2, Sub 1024 m → Kept m org s → Kept m org (State.lifeCount s a1 a2) := by
  intro s a1 a2 hp h
  unfold State.lifeCount
  try dsimp only
  repeat' first
    | (with_reducible first
        | assumption | refine ite_kept ?_ ?_)
    | ((with_reducible refine mk_kept ?_ ?_ ?_ ?_ ?_ ?_ ?_ ?_ ?_ ?_ ?_ ?_ ?_ ?_ ?_ ?_ ?_ ?_ ?_ ?_ ?_ ?_ ?_ ?_ ?_ ?_ ?_) <;> try (intro hq; first | exact (hit hp rfl hq).elim | with_reducible rfl))

theorem State.emit_kept {m : Nat} {org : State} :
    ∀ s a1, Sub 536870912 m → Kept m org s → Kept m org (State.emit s a1) := by
  intro s a1 hp h
  unfold State.emit
  try dsimp only
  repeat' first
    | with_reducible assumption
    | ((with_reducible refine mk_kept ?_ ?_ ?_ ?_ ?_ ?_ ?_ ?_ ?_ ?_ ?_ ?_ ?_ ?_ ?_ ?_ ?_ ?_ ?_ ?_ ?_ ?_ ?_ ?_ ?_ ?_ ?_) <;> try (intro hq; first | exact (hit hp rfl hq).elim | with_reducible rfl))

theorem State.draw_kept {m : Nat} {org : State} :
    ∀ s, Sub 1073741824 m → Kept m org s → Kept m org (State.draw s).2 := by
  intro s hp h
  unfold State.draw
  try dsimp only
  repeat' first
    | with_reducible assumption
    | ((with_reducible refine mk_kept ?_ ?_ ?_ ?_ ?_ ?_ ?_ ?_ ?_ ?_ ?_ ?_ ?_ ?_ ?_ ?_ ?_ ?_ ?_ ?_ ?_ ?_ ?_ ?_ ?_ ?_ ?_) <;> try (intro hq; first | exact (hit hp rfl hq).elim | with_reducible rfl))

theorem State.setNvm_kept {m : Nat} {org : State} :
    ∀ s a1, Sub 64 m → Kept m org s → Kept m org (State.setNvm s a1) := by
  intro s a1 hp h
  unfold State.setNvm
  try dsimp only
  repeat' first
    | with_reducible assumption
    | split
    | ((with_reducible refine mk_kept ?_ ?_ ?_ ?_ ?_ ?_ ?_ ?_ ?_ ?_ ?_ ?_ ?_ ?_ ?_ ?_ ?_ ?_ ?_ ?_ ?_ ?_ ?_ ?_ ?_ ?_ ?_) <;> try (intro hq; first | exact (hit hp rfl hq).elim | with_reducible rfl))

end Sys2Proof.Machine
end

