-- ==== Sys2Proof/Laws/State.lean ====
section
/-!
SUPPORT. State read after it has been updated: one law for each field and each update, so that no proof unfolds a record
update, and the reads of objects and registers through every update.
-/

namespace Sys2Proof.Machine

open State

/-! ### Fields -/

@[simp] theorem State.putVal_pending (s : State) (o : Obj) (i : Nat) (v : Val) : (s.putVal o i v).pending = s.pending := rfl
@[simp] theorem State.putVal_regs (s : State) (o : Obj) (i : Nat) (v : Val) : (s.putVal o i v).regs = s.regs := rfl
@[simp] theorem State.putVal_latched (s : State) (o : Obj) (i : Nat) (v : Val) : (s.putVal o i v).latched = s.latched := rfl
@[simp] theorem State.putVal_clk (s : State) (o : Obj) (i : Nat) (v : Val) : (s.putVal o i v).clk = s.clk := rfl
@[simp] theorem State.putVal_lan (s : State) (o : Obj) (i : Nat) (v : Val) : (s.putVal o i v).lan = s.lan := rfl
@[simp] theorem State.putVal_nvm (s : State) (o : Obj) (i : Nat) (v : Val) : (s.putVal o i v).nvm = s.nvm := rfl
@[simp] theorem State.putVal_stage (s : State) (o : Obj) (i : Nat) (v : Val) : (s.putVal o i v).stage = s.stage := rfl
@[simp] theorem State.putVal_ucie (s : State) (o : Obj) (i : Nat) (v : Val) : (s.putVal o i v).ucie = s.ucie := rfl
@[simp] theorem State.putVal_boot (s : State) (o : Obj) (i : Nat) (v : Val) : (s.putVal o i v).boot = s.boot := rfl
@[simp] theorem State.putVal_life (s : State) (o : Obj) (i : Nat) (v : Val) : (s.putVal o i v).life = s.life := rfl
@[simp] theorem State.putVal_snuffs (s : State) (o : Obj) (i : Nat) (v : Val) : (s.putVal o i v).snuffs = s.snuffs := rfl
@[simp] theorem State.putVal_limits (s : State) (o : Obj) (i : Nat) (v : Val) : (s.putVal o i v).limits = s.limits := rfl
@[simp] theorem State.putVal_lanes (s : State) (o : Obj) (i : Nat) (v : Val) : (s.putVal o i v).lanes = s.lanes := rfl
@[simp] theorem State.putVal_cages (s : State) (o : Obj) (i : Nat) (v : Val) : (s.putVal o i v).cages = s.cages := rfl
@[simp] theorem State.putVal_eqRuns (s : State) (o : Obj) (i : Nat) (v : Val) : (s.putVal o i v).eqRuns = s.eqRuns := rfl
@[simp] theorem State.putVal_framers (s : State) (o : Obj) (i : Nat) (v : Val) : (s.putVal o i v).framers = s.framers := rfl
@[simp] theorem State.putVal_lineRun (s : State) (o : Obj) (i : Nat) (v : Val) : (s.putVal o i v).lineRun = s.lineRun := rfl
@[simp] theorem State.putVal_gal (s : State) (o : Obj) (i : Nat) (v : Val) : (s.putVal o i v).gal = s.gal := rfl
@[simp] theorem State.putVal_frags (s : State) (o : Obj) (i : Nat) (v : Val) : (s.putVal o i v).frags = s.frags := rfl
@[simp] theorem State.putVal_tm (s : State) (o : Obj) (i : Nat) (v : Val) : (s.putVal o i v).tm = s.tm := rfl
@[simp] theorem State.putVal_terms (s : State) (o : Obj) (i : Nat) (v : Val) : (s.putVal o i v).terms = s.terms := rfl
@[simp] theorem State.putVal_acts (s : State) (o : Obj) (i : Nat) (v : Val) : (s.putVal o i v).acts = s.acts := rfl
@[simp] theorem State.putVal_logEvents (s : State) (o : Obj) (i : Nat) (v : Val) : (s.putVal o i v).logEvents = s.logEvents := rfl
@[simp] theorem State.putVal_grants (s : State) (o : Obj) (i : Nat) (v : Val) : (s.putVal o i v).grants = s.grants := rfl
@[simp] theorem State.putVal_ciph (s : State) (o : Obj) (i : Nat) (v : Val) : (s.putVal o i v).ciph = s.ciph := rfl
@[simp] theorem State.putVal_uplinks (s : State) (o : Obj) (i : Nat) (v : Val) : (s.putVal o i v).uplinks = s.uplinks := rfl
@[simp] theorem State.putVal_psgs (s : State) (o : Obj) (i : Nat) (v : Val) : (s.putVal o i v).psgs = s.psgs := rfl
@[simp] theorem State.putVal_casc (s : State) (o : Obj) (i : Nat) (v : Val) : (s.putVal o i v).casc = s.casc := rfl
@[simp] theorem State.putVal_sent (s : State) (o : Obj) (i : Nat) (v : Val) : (s.putVal o i v).sent = s.sent := rfl
@[simp] theorem State.putVal_fresh (s : State) (o : Obj) (i : Nat) (v : Val) : (s.putVal o i v).fresh = s.fresh := rfl

@[simp] theorem State.putReg_pending (s : State) (a v : Nat) : (s.putReg a v).pending = s.pending := rfl
@[simp] theorem State.putReg_objs (s : State) (a v : Nat) : (s.putReg a v).objs = s.objs := rfl
@[simp] theorem State.putReg_latched (s : State) (a v : Nat) : (s.putReg a v).latched = s.latched := rfl
@[simp] theorem State.putReg_clk (s : State) (a v : Nat) : (s.putReg a v).clk = s.clk := rfl
@[simp] theorem State.putReg_lan (s : State) (a v : Nat) : (s.putReg a v).lan = s.lan := rfl
@[simp] theorem State.putReg_nvm (s : State) (a v : Nat) : (s.putReg a v).nvm = s.nvm := rfl
@[simp] theorem State.putReg_stage (s : State) (a v : Nat) : (s.putReg a v).stage = s.stage := rfl
@[simp] theorem State.putReg_ucie (s : State) (a v : Nat) : (s.putReg a v).ucie = s.ucie := rfl
@[simp] theorem State.putReg_boot (s : State) (a v : Nat) : (s.putReg a v).boot = s.boot := rfl
@[simp] theorem State.putReg_life (s : State) (a v : Nat) : (s.putReg a v).life = s.life := rfl
@[simp] theorem State.putReg_snuffs (s : State) (a v : Nat) : (s.putReg a v).snuffs = s.snuffs := rfl
@[simp] theorem State.putReg_limits (s : State) (a v : Nat) : (s.putReg a v).limits = s.limits := rfl
@[simp] theorem State.putReg_lanes (s : State) (a v : Nat) : (s.putReg a v).lanes = s.lanes := rfl
@[simp] theorem State.putReg_cages (s : State) (a v : Nat) : (s.putReg a v).cages = s.cages := rfl
@[simp] theorem State.putReg_eqRuns (s : State) (a v : Nat) : (s.putReg a v).eqRuns = s.eqRuns := rfl
@[simp] theorem State.putReg_framers (s : State) (a v : Nat) : (s.putReg a v).framers = s.framers := rfl
@[simp] theorem State.putReg_lineRun (s : State) (a v : Nat) : (s.putReg a v).lineRun = s.lineRun := rfl
@[simp] theorem State.putReg_gal (s : State) (a v : Nat) : (s.putReg a v).gal = s.gal := rfl
@[simp] theorem State.putReg_frags (s : State) (a v : Nat) : (s.putReg a v).frags = s.frags := rfl
@[simp] theorem State.putReg_tm (s : State) (a v : Nat) : (s.putReg a v).tm = s.tm := rfl
@[simp] theorem State.putReg_terms (s : State) (a v : Nat) : (s.putReg a v).terms = s.terms := rfl
@[simp] theorem State.putReg_acts (s : State) (a v : Nat) : (s.putReg a v).acts = s.acts := rfl
@[simp] theorem State.putReg_logEvents (s : State) (a v : Nat) : (s.putReg a v).logEvents = s.logEvents := rfl
@[simp] theorem State.putReg_grants (s : State) (a v : Nat) : (s.putReg a v).grants = s.grants := rfl
@[simp] theorem State.putReg_ciph (s : State) (a v : Nat) : (s.putReg a v).ciph = s.ciph := rfl
@[simp] theorem State.putReg_uplinks (s : State) (a v : Nat) : (s.putReg a v).uplinks = s.uplinks := rfl
@[simp] theorem State.putReg_psgs (s : State) (a v : Nat) : (s.putReg a v).psgs = s.psgs := rfl
@[simp] theorem State.putReg_casc (s : State) (a v : Nat) : (s.putReg a v).casc = s.casc := rfl
@[simp] theorem State.putReg_sent (s : State) (a v : Nat) : (s.putReg a v).sent = s.sent := rfl
@[simp] theorem State.putReg_fresh (s : State) (a v : Nat) : (s.putReg a v).fresh = s.fresh := rfl

@[simp] theorem State.setBit_pending (s : State) (a k : Nat) (x : Bool) : (s.setBit a k x).pending = s.pending := rfl
@[simp] theorem State.setBit_objs (s : State) (a k : Nat) (x : Bool) : (s.setBit a k x).objs = s.objs := rfl
@[simp] theorem State.setBit_latched (s : State) (a k : Nat) (x : Bool) : (s.setBit a k x).latched = s.latched := rfl
@[simp] theorem State.setBit_clk (s : State) (a k : Nat) (x : Bool) : (s.setBit a k x).clk = s.clk := rfl
@[simp] theorem State.setBit_lan (s : State) (a k : Nat) (x : Bool) : (s.setBit a k x).lan = s.lan := rfl
@[simp] theorem State.setBit_nvm (s : State) (a k : Nat) (x : Bool) : (s.setBit a k x).nvm = s.nvm := rfl
@[simp] theorem State.setBit_stage (s : State) (a k : Nat) (x : Bool) : (s.setBit a k x).stage = s.stage := rfl
@[simp] theorem State.setBit_ucie (s : State) (a k : Nat) (x : Bool) : (s.setBit a k x).ucie = s.ucie := rfl
@[simp] theorem State.setBit_boot (s : State) (a k : Nat) (x : Bool) : (s.setBit a k x).boot = s.boot := rfl
@[simp] theorem State.setBit_life (s : State) (a k : Nat) (x : Bool) : (s.setBit a k x).life = s.life := rfl
@[simp] theorem State.setBit_snuffs (s : State) (a k : Nat) (x : Bool) : (s.setBit a k x).snuffs = s.snuffs := rfl
@[simp] theorem State.setBit_limits (s : State) (a k : Nat) (x : Bool) : (s.setBit a k x).limits = s.limits := rfl
@[simp] theorem State.setBit_lanes (s : State) (a k : Nat) (x : Bool) : (s.setBit a k x).lanes = s.lanes := rfl
@[simp] theorem State.setBit_cages (s : State) (a k : Nat) (x : Bool) : (s.setBit a k x).cages = s.cages := rfl
@[simp] theorem State.setBit_eqRuns (s : State) (a k : Nat) (x : Bool) : (s.setBit a k x).eqRuns = s.eqRuns := rfl
@[simp] theorem State.setBit_framers (s : State) (a k : Nat) (x : Bool) : (s.setBit a k x).framers = s.framers := rfl
@[simp] theorem State.setBit_lineRun (s : State) (a k : Nat) (x : Bool) : (s.setBit a k x).lineRun = s.lineRun := rfl
@[simp] theorem State.setBit_gal (s : State) (a k : Nat) (x : Bool) : (s.setBit a k x).gal = s.gal := rfl
@[simp] theorem State.setBit_frags (s : State) (a k : Nat) (x : Bool) : (s.setBit a k x).frags = s.frags := rfl
@[simp] theorem State.setBit_tm (s : State) (a k : Nat) (x : Bool) : (s.setBit a k x).tm = s.tm := rfl
@[simp] theorem State.setBit_terms (s : State) (a k : Nat) (x : Bool) : (s.setBit a k x).terms = s.terms := rfl
@[simp] theorem State.setBit_acts (s : State) (a k : Nat) (x : Bool) : (s.setBit a k x).acts = s.acts := rfl
@[simp] theorem State.setBit_logEvents (s : State) (a k : Nat) (x : Bool) : (s.setBit a k x).logEvents = s.logEvents := rfl
@[simp] theorem State.setBit_grants (s : State) (a k : Nat) (x : Bool) : (s.setBit a k x).grants = s.grants := rfl
@[simp] theorem State.setBit_ciph (s : State) (a k : Nat) (x : Bool) : (s.setBit a k x).ciph = s.ciph := rfl
@[simp] theorem State.setBit_uplinks (s : State) (a k : Nat) (x : Bool) : (s.setBit a k x).uplinks = s.uplinks := rfl
@[simp] theorem State.setBit_psgs (s : State) (a k : Nat) (x : Bool) : (s.setBit a k x).psgs = s.psgs := rfl
@[simp] theorem State.setBit_casc (s : State) (a k : Nat) (x : Bool) : (s.setBit a k x).casc = s.casc := rfl
@[simp] theorem State.setBit_sent (s : State) (a k : Nat) (x : Bool) : (s.setBit a k x).sent = s.sent := rfl
@[simp] theorem State.setBit_fresh (s : State) (a k : Nat) (x : Bool) : (s.setBit a k x).fresh = s.fresh := rfl

@[simp] theorem State.setField_pending (s : State) (a hi lo v : Nat) : (s.setField a hi lo v).pending = s.pending := rfl
@[simp] theorem State.setField_objs (s : State) (a hi lo v : Nat) : (s.setField a hi lo v).objs = s.objs := rfl
@[simp] theorem State.setField_latched (s : State) (a hi lo v : Nat) : (s.setField a hi lo v).latched = s.latched := rfl
@[simp] theorem State.setField_clk (s : State) (a hi lo v : Nat) : (s.setField a hi lo v).clk = s.clk := rfl
@[simp] theorem State.setField_lan (s : State) (a hi lo v : Nat) : (s.setField a hi lo v).lan = s.lan := rfl
@[simp] theorem State.setField_nvm (s : State) (a hi lo v : Nat) : (s.setField a hi lo v).nvm = s.nvm := rfl
@[simp] theorem State.setField_stage (s : State) (a hi lo v : Nat) : (s.setField a hi lo v).stage = s.stage := rfl
@[simp] theorem State.setField_ucie (s : State) (a hi lo v : Nat) : (s.setField a hi lo v).ucie = s.ucie := rfl
@[simp] theorem State.setField_boot (s : State) (a hi lo v : Nat) : (s.setField a hi lo v).boot = s.boot := rfl
@[simp] theorem State.setField_life (s : State) (a hi lo v : Nat) : (s.setField a hi lo v).life = s.life := rfl
@[simp] theorem State.setField_snuffs (s : State) (a hi lo v : Nat) : (s.setField a hi lo v).snuffs = s.snuffs := rfl
@[simp] theorem State.setField_limits (s : State) (a hi lo v : Nat) : (s.setField a hi lo v).limits = s.limits := rfl
@[simp] theorem State.setField_lanes (s : State) (a hi lo v : Nat) : (s.setField a hi lo v).lanes = s.lanes := rfl
@[simp] theorem State.setField_cages (s : State) (a hi lo v : Nat) : (s.setField a hi lo v).cages = s.cages := rfl
@[simp] theorem State.setField_eqRuns (s : State) (a hi lo v : Nat) : (s.setField a hi lo v).eqRuns = s.eqRuns := rfl
@[simp] theorem State.setField_framers (s : State) (a hi lo v : Nat) : (s.setField a hi lo v).framers = s.framers := rfl
@[simp] theorem State.setField_lineRun (s : State) (a hi lo v : Nat) : (s.setField a hi lo v).lineRun = s.lineRun := rfl
@[simp] theorem State.setField_gal (s : State) (a hi lo v : Nat) : (s.setField a hi lo v).gal = s.gal := rfl
@[simp] theorem State.setField_frags (s : State) (a hi lo v : Nat) : (s.setField a hi lo v).frags = s.frags := rfl
@[simp] theorem State.setField_tm (s : State) (a hi lo v : Nat) : (s.setField a hi lo v).tm = s.tm := rfl
@[simp] theorem State.setField_terms (s : State) (a hi lo v : Nat) : (s.setField a hi lo v).terms = s.terms := rfl
@[simp] theorem State.setField_acts (s : State) (a hi lo v : Nat) : (s.setField a hi lo v).acts = s.acts := rfl
@[simp] theorem State.setField_logEvents (s : State) (a hi lo v : Nat) : (s.setField a hi lo v).logEvents = s.logEvents := rfl
@[simp] theorem State.setField_grants (s : State) (a hi lo v : Nat) : (s.setField a hi lo v).grants = s.grants := rfl
@[simp] theorem State.setField_ciph (s : State) (a hi lo v : Nat) : (s.setField a hi lo v).ciph = s.ciph := rfl
@[simp] theorem State.setField_uplinks (s : State) (a hi lo v : Nat) : (s.setField a hi lo v).uplinks = s.uplinks := rfl
@[simp] theorem State.setField_psgs (s : State) (a hi lo v : Nat) : (s.setField a hi lo v).psgs = s.psgs := rfl
@[simp] theorem State.setField_casc (s : State) (a hi lo v : Nat) : (s.setField a hi lo v).casc = s.casc := rfl
@[simp] theorem State.setField_sent (s : State) (a hi lo v : Nat) : (s.setField a hi lo v).sent = s.sent := rfl
@[simp] theorem State.setField_fresh (s : State) (a hi lo v : Nat) : (s.setField a hi lo v).fresh = s.fresh := rfl

@[simp] theorem State.limitTake_pending (s : State) (k : Nat) : (s.limitTake k).pending = s.pending := rfl
@[simp] theorem State.limitTake_objs (s : State) (k : Nat) : (s.limitTake k).objs = s.objs := rfl
@[simp] theorem State.limitTake_regs (s : State) (k : Nat) : (s.limitTake k).regs = s.regs := rfl
@[simp] theorem State.limitTake_latched (s : State) (k : Nat) : (s.limitTake k).latched = s.latched := rfl
@[simp] theorem State.limitTake_clk (s : State) (k : Nat) : (s.limitTake k).clk = s.clk := rfl
@[simp] theorem State.limitTake_lan (s : State) (k : Nat) : (s.limitTake k).lan = s.lan := rfl
@[simp] theorem State.limitTake_nvm (s : State) (k : Nat) : (s.limitTake k).nvm = s.nvm := rfl
@[simp] theorem State.limitTake_stage (s : State) (k : Nat) : (s.limitTake k).stage = s.stage := rfl
@[simp] theorem State.limitTake_ucie (s : State) (k : Nat) : (s.limitTake k).ucie = s.ucie := rfl
@[simp] theorem State.limitTake_boot (s : State) (k : Nat) : (s.limitTake k).boot = s.boot := rfl
@[simp] theorem State.limitTake_life (s : State) (k : Nat) : (s.limitTake k).life = s.life := rfl
@[simp] theorem State.limitTake_snuffs (s : State) (k : Nat) : (s.limitTake k).snuffs = s.snuffs := rfl
@[simp] theorem State.limitTake_lanes (s : State) (k : Nat) : (s.limitTake k).lanes = s.lanes := rfl
@[simp] theorem State.limitTake_cages (s : State) (k : Nat) : (s.limitTake k).cages = s.cages := rfl
@[simp] theorem State.limitTake_eqRuns (s : State) (k : Nat) : (s.limitTake k).eqRuns = s.eqRuns := rfl
@[simp] theorem State.limitTake_framers (s : State) (k : Nat) : (s.limitTake k).framers = s.framers := rfl
@[simp] theorem State.limitTake_lineRun (s : State) (k : Nat) : (s.limitTake k).lineRun = s.lineRun := rfl
@[simp] theorem State.limitTake_gal (s : State) (k : Nat) : (s.limitTake k).gal = s.gal := rfl
@[simp] theorem State.limitTake_frags (s : State) (k : Nat) : (s.limitTake k).frags = s.frags := rfl
@[simp] theorem State.limitTake_tm (s : State) (k : Nat) : (s.limitTake k).tm = s.tm := rfl
@[simp] theorem State.limitTake_terms (s : State) (k : Nat) : (s.limitTake k).terms = s.terms := rfl
@[simp] theorem State.limitTake_acts (s : State) (k : Nat) : (s.limitTake k).acts = s.acts := rfl
@[simp] theorem State.limitTake_logEvents (s : State) (k : Nat) : (s.limitTake k).logEvents = s.logEvents := rfl
@[simp] theorem State.limitTake_grants (s : State) (k : Nat) : (s.limitTake k).grants = s.grants := rfl
@[simp] theorem State.limitTake_ciph (s : State) (k : Nat) : (s.limitTake k).ciph = s.ciph := rfl
@[simp] theorem State.limitTake_uplinks (s : State) (k : Nat) : (s.limitTake k).uplinks = s.uplinks := rfl
@[simp] theorem State.limitTake_psgs (s : State) (k : Nat) : (s.limitTake k).psgs = s.psgs := rfl
@[simp] theorem State.limitTake_casc (s : State) (k : Nat) : (s.limitTake k).casc = s.casc := rfl
@[simp] theorem State.limitTake_sent (s : State) (k : Nat) : (s.limitTake k).sent = s.sent := rfl
@[simp] theorem State.limitTake_fresh (s : State) (k : Nat) : (s.limitTake k).fresh = s.fresh := rfl

@[simp] theorem State.setMaster_pending (s : State) (m : Master) (r : MasterSt) : (s.setMaster m r).pending = s.pending := rfl
@[simp] theorem State.setMaster_objs (s : State) (m : Master) (r : MasterSt) : (s.setMaster m r).objs = s.objs := rfl
@[simp] theorem State.setMaster_regs (s : State) (m : Master) (r : MasterSt) : (s.setMaster m r).regs = s.regs := rfl
@[simp] theorem State.setMaster_latched (s : State) (m : Master) (r : MasterSt) : (s.setMaster m r).latched = s.latched := rfl
@[simp] theorem State.setMaster_clk (s : State) (m : Master) (r : MasterSt) : (s.setMaster m r).clk = s.clk := rfl
@[simp] theorem State.setMaster_nvm (s : State) (m : Master) (r : MasterSt) : (s.setMaster m r).nvm = s.nvm := rfl
@[simp] theorem State.setMaster_stage (s : State) (m : Master) (r : MasterSt) : (s.setMaster m r).stage = s.stage := rfl
@[simp] theorem State.setMaster_ucie (s : State) (m : Master) (r : MasterSt) : (s.setMaster m r).ucie = s.ucie := rfl
@[simp] theorem State.setMaster_boot (s : State) (m : Master) (r : MasterSt) : (s.setMaster m r).boot = s.boot := rfl
@[simp] theorem State.setMaster_life (s : State) (m : Master) (r : MasterSt) : (s.setMaster m r).life = s.life := rfl
@[simp] theorem State.setMaster_snuffs (s : State) (m : Master) (r : MasterSt) : (s.setMaster m r).snuffs = s.snuffs := rfl
@[simp] theorem State.setMaster_limits (s : State) (m : Master) (r : MasterSt) : (s.setMaster m r).limits = s.limits := rfl
@[simp] theorem State.setMaster_lanes (s : State) (m : Master) (r : MasterSt) : (s.setMaster m r).lanes = s.lanes := rfl
@[simp] theorem State.setMaster_cages (s : State) (m : Master) (r : MasterSt) : (s.setMaster m r).cages = s.cages := rfl
@[simp] theorem State.setMaster_eqRuns (s : State) (m : Master) (r : MasterSt) : (s.setMaster m r).eqRuns = s.eqRuns := rfl
@[simp] theorem State.setMaster_framers (s : State) (m : Master) (r : MasterSt) : (s.setMaster m r).framers = s.framers := rfl
@[simp] theorem State.setMaster_lineRun (s : State) (m : Master) (r : MasterSt) : (s.setMaster m r).lineRun = s.lineRun := rfl
@[simp] theorem State.setMaster_gal (s : State) (m : Master) (r : MasterSt) : (s.setMaster m r).gal = s.gal := rfl
@[simp] theorem State.setMaster_frags (s : State) (m : Master) (r : MasterSt) : (s.setMaster m r).frags = s.frags := rfl
@[simp] theorem State.setMaster_tm (s : State) (m : Master) (r : MasterSt) : (s.setMaster m r).tm = s.tm := rfl
@[simp] theorem State.setMaster_terms (s : State) (m : Master) (r : MasterSt) : (s.setMaster m r).terms = s.terms := rfl
@[simp] theorem State.setMaster_acts (s : State) (m : Master) (r : MasterSt) : (s.setMaster m r).acts = s.acts := rfl
@[simp] theorem State.setMaster_logEvents (s : State) (m : Master) (r : MasterSt) : (s.setMaster m r).logEvents = s.logEvents := rfl
@[simp] theorem State.setMaster_grants (s : State) (m : Master) (r : MasterSt) : (s.setMaster m r).grants = s.grants := rfl
@[simp] theorem State.setMaster_ciph (s : State) (m : Master) (r : MasterSt) : (s.setMaster m r).ciph = s.ciph := rfl
@[simp] theorem State.setMaster_uplinks (s : State) (m : Master) (r : MasterSt) : (s.setMaster m r).uplinks = s.uplinks := rfl
@[simp] theorem State.setMaster_psgs (s : State) (m : Master) (r : MasterSt) : (s.setMaster m r).psgs = s.psgs := rfl
@[simp] theorem State.setMaster_casc (s : State) (m : Master) (r : MasterSt) : (s.setMaster m r).casc = s.casc := rfl
@[simp] theorem State.setMaster_sent (s : State) (m : Master) (r : MasterSt) : (s.setMaster m r).sent = s.sent := rfl
@[simp] theorem State.setMaster_fresh (s : State) (m : Master) (r : MasterSt) : (s.setMaster m r).fresh = s.fresh := rfl

@[simp] theorem State.emit_pending (s : State) (o : Out) : (s.emit o).pending = s.pending := rfl
@[simp] theorem State.emit_objs (s : State) (o : Out) : (s.emit o).objs = s.objs := rfl
@[simp] theorem State.emit_regs (s : State) (o : Out) : (s.emit o).regs = s.regs := rfl
@[simp] theorem State.emit_latched (s : State) (o : Out) : (s.emit o).latched = s.latched := rfl
@[simp] theorem State.emit_clk (s : State) (o : Out) : (s.emit o).clk = s.clk := rfl
@[simp] theorem State.emit_lan (s : State) (o : Out) : (s.emit o).lan = s.lan := rfl
@[simp] theorem State.emit_nvm (s : State) (o : Out) : (s.emit o).nvm = s.nvm := rfl
@[simp] theorem State.emit_stage (s : State) (o : Out) : (s.emit o).stage = s.stage := rfl
@[simp] theorem State.emit_ucie (s : State) (o : Out) : (s.emit o).ucie = s.ucie := rfl
@[simp] theorem State.emit_boot (s : State) (o : Out) : (s.emit o).boot = s.boot := rfl
@[simp] theorem State.emit_life (s : State) (o : Out) : (s.emit o).life = s.life := rfl
@[simp] theorem State.emit_snuffs (s : State) (o : Out) : (s.emit o).snuffs = s.snuffs := rfl
@[simp] theorem State.emit_limits (s : State) (o : Out) : (s.emit o).limits = s.limits := rfl
@[simp] theorem State.emit_lanes (s : State) (o : Out) : (s.emit o).lanes = s.lanes := rfl
@[simp] theorem State.emit_cages (s : State) (o : Out) : (s.emit o).cages = s.cages := rfl
@[simp] theorem State.emit_eqRuns (s : State) (o : Out) : (s.emit o).eqRuns = s.eqRuns := rfl
@[simp] theorem State.emit_framers (s : State) (o : Out) : (s.emit o).framers = s.framers := rfl
@[simp] theorem State.emit_lineRun (s : State) (o : Out) : (s.emit o).lineRun = s.lineRun := rfl
@[simp] theorem State.emit_gal (s : State) (o : Out) : (s.emit o).gal = s.gal := rfl
@[simp] theorem State.emit_frags (s : State) (o : Out) : (s.emit o).frags = s.frags := rfl
@[simp] theorem State.emit_tm (s : State) (o : Out) : (s.emit o).tm = s.tm := rfl
@[simp] theorem State.emit_terms (s : State) (o : Out) : (s.emit o).terms = s.terms := rfl
@[simp] theorem State.emit_acts (s : State) (o : Out) : (s.emit o).acts = s.acts := rfl
@[simp] theorem State.emit_logEvents (s : State) (o : Out) : (s.emit o).logEvents = s.logEvents := rfl
@[simp] theorem State.emit_grants (s : State) (o : Out) : (s.emit o).grants = s.grants := rfl
@[simp] theorem State.emit_ciph (s : State) (o : Out) : (s.emit o).ciph = s.ciph := rfl
@[simp] theorem State.emit_uplinks (s : State) (o : Out) : (s.emit o).uplinks = s.uplinks := rfl
@[simp] theorem State.emit_psgs (s : State) (o : Out) : (s.emit o).psgs = s.psgs := rfl
@[simp] theorem State.emit_casc (s : State) (o : Out) : (s.emit o).casc = s.casc := rfl
@[simp] theorem State.emit_fresh (s : State) (o : Out) : (s.emit o).fresh = s.fresh := rfl

@[simp] theorem State.setClk_pending (s : State) (f : ClockSt → ClockSt) : (s.setClk f).pending = s.pending := rfl
@[simp] theorem State.setClk_objs (s : State) (f : ClockSt → ClockSt) : (s.setClk f).objs = s.objs := rfl
@[simp] theorem State.setClk_regs (s : State) (f : ClockSt → ClockSt) : (s.setClk f).regs = s.regs := rfl
@[simp] theorem State.setClk_latched (s : State) (f : ClockSt → ClockSt) : (s.setClk f).latched = s.latched := rfl
@[simp] theorem State.setClk_lan (s : State) (f : ClockSt → ClockSt) : (s.setClk f).lan = s.lan := rfl
@[simp] theorem State.setClk_nvm (s : State) (f : ClockSt → ClockSt) : (s.setClk f).nvm = s.nvm := rfl
@[simp] theorem State.setClk_stage (s : State) (f : ClockSt → ClockSt) : (s.setClk f).stage = s.stage := rfl
@[simp] theorem State.setClk_ucie (s : State) (f : ClockSt → ClockSt) : (s.setClk f).ucie = s.ucie := rfl
@[simp] theorem State.setClk_boot (s : State) (f : ClockSt → ClockSt) : (s.setClk f).boot = s.boot := rfl
@[simp] theorem State.setClk_life (s : State) (f : ClockSt → ClockSt) : (s.setClk f).life = s.life := rfl
@[simp] theorem State.setClk_snuffs (s : State) (f : ClockSt → ClockSt) : (s.setClk f).snuffs = s.snuffs := rfl
@[simp] theorem State.setClk_limits (s : State) (f : ClockSt → ClockSt) : (s.setClk f).limits = s.limits := rfl
@[simp] theorem State.setClk_lanes (s : State) (f : ClockSt → ClockSt) : (s.setClk f).lanes = s.lanes := rfl
@[simp] theorem State.setClk_cages (s : State) (f : ClockSt → ClockSt) : (s.setClk f).cages = s.cages := rfl
@[simp] theorem State.setClk_eqRuns (s : State) (f : ClockSt → ClockSt) : (s.setClk f).eqRuns = s.eqRuns := rfl
@[simp] theorem State.setClk_framers (s : State) (f : ClockSt → ClockSt) : (s.setClk f).framers = s.framers := rfl
@[simp] theorem State.setClk_lineRun (s : State) (f : ClockSt → ClockSt) : (s.setClk f).lineRun = s.lineRun := rfl
@[simp] theorem State.setClk_gal (s : State) (f : ClockSt → ClockSt) : (s.setClk f).gal = s.gal := rfl
@[simp] theorem State.setClk_frags (s : State) (f : ClockSt → ClockSt) : (s.setClk f).frags = s.frags := rfl
@[simp] theorem State.setClk_tm (s : State) (f : ClockSt → ClockSt) : (s.setClk f).tm = s.tm := rfl
@[simp] theorem State.setClk_terms (s : State) (f : ClockSt → ClockSt) : (s.setClk f).terms = s.terms := rfl
@[simp] theorem State.setClk_acts (s : State) (f : ClockSt → ClockSt) : (s.setClk f).acts = s.acts := rfl
@[simp] theorem State.setClk_logEvents (s : State) (f : ClockSt → ClockSt) : (s.setClk f).logEvents = s.logEvents := rfl
@[simp] theorem State.setClk_grants (s : State) (f : ClockSt → ClockSt) : (s.setClk f).grants = s.grants := rfl
@[simp] theorem State.setClk_ciph (s : State) (f : ClockSt → ClockSt) : (s.setClk f).ciph = s.ciph := rfl
@[simp] theorem State.setClk_uplinks (s : State) (f : ClockSt → ClockSt) : (s.setClk f).uplinks = s.uplinks := rfl
@[simp] theorem State.setClk_psgs (s : State) (f : ClockSt → ClockSt) : (s.setClk f).psgs = s.psgs := rfl
@[simp] theorem State.setClk_casc (s : State) (f : ClockSt → ClockSt) : (s.setClk f).casc = s.casc := rfl
@[simp] theorem State.setClk_sent (s : State) (f : ClockSt → ClockSt) : (s.setClk f).sent = s.sent := rfl
@[simp] theorem State.setClk_fresh (s : State) (f : ClockSt → ClockSt) : (s.setClk f).fresh = s.fresh := rfl
@[simp] theorem State.setClk_clk (s : State) (f : ClockSt → ClockSt) : (s.setClk f).clk = f s.clk := rfl

@[simp] theorem State.setLan_pending (s : State) (f : LanternSt → LanternSt) : (s.setLan f).pending = s.pending := rfl
@[simp] theorem State.setLan_objs (s : State) (f : LanternSt → LanternSt) : (s.setLan f).objs = s.objs := rfl
@[simp] theorem State.setLan_regs (s : State) (f : LanternSt → LanternSt) : (s.setLan f).regs = s.regs := rfl
@[simp] theorem State.setLan_latched (s : State) (f : LanternSt → LanternSt) : (s.setLan f).latched = s.latched := rfl
@[simp] theorem State.setLan_clk (s : State) (f : LanternSt → LanternSt) : (s.setLan f).clk = s.clk := rfl
@[simp] theorem State.setLan_nvm (s : State) (f : LanternSt → LanternSt) : (s.setLan f).nvm = s.nvm := rfl
@[simp] theorem State.setLan_stage (s : State) (f : LanternSt → LanternSt) : (s.setLan f).stage = s.stage := rfl
@[simp] theorem State.setLan_ucie (s : State) (f : LanternSt → LanternSt) : (s.setLan f).ucie = s.ucie := rfl
@[simp] theorem State.setLan_boot (s : State) (f : LanternSt → LanternSt) : (s.setLan f).boot = s.boot := rfl
@[simp] theorem State.setLan_life (s : State) (f : LanternSt → LanternSt) : (s.setLan f).life = s.life := rfl
@[simp] theorem State.setLan_snuffs (s : State) (f : LanternSt → LanternSt) : (s.setLan f).snuffs = s.snuffs := rfl
@[simp] theorem State.setLan_limits (s : State) (f : LanternSt → LanternSt) : (s.setLan f).limits = s.limits := rfl
@[simp] theorem State.setLan_lanes (s : State) (f : LanternSt → LanternSt) : (s.setLan f).lanes = s.lanes := rfl
@[simp] theorem State.setLan_cages (s : State) (f : LanternSt → LanternSt) : (s.setLan f).cages = s.cages := rfl
@[simp] theorem State.setLan_eqRuns (s : State) (f : LanternSt → LanternSt) : (s.setLan f).eqRuns = s.eqRuns := rfl
@[simp] theorem State.setLan_framers (s : State) (f : LanternSt → LanternSt) : (s.setLan f).framers = s.framers := rfl
@[simp] theorem State.setLan_lineRun (s : State) (f : LanternSt → LanternSt) : (s.setLan f).lineRun = s.lineRun := rfl
@[simp] theorem State.setLan_gal (s : State) (f : LanternSt → LanternSt) : (s.setLan f).gal = s.gal := rfl
@[simp] theorem State.setLan_frags (s : State) (f : LanternSt → LanternSt) : (s.setLan f).frags = s.frags := rfl
@[simp] theorem State.setLan_tm (s : State) (f : LanternSt → LanternSt) : (s.setLan f).tm = s.tm := rfl
@[simp] theorem State.setLan_terms (s : State) (f : LanternSt → LanternSt) : (s.setLan f).terms = s.terms := rfl
@[simp] theorem State.setLan_acts (s : State) (f : LanternSt → LanternSt) : (s.setLan f).acts = s.acts := rfl
@[simp] theorem State.setLan_logEvents (s : State) (f : LanternSt → LanternSt) : (s.setLan f).logEvents = s.logEvents := rfl
@[simp] theorem State.setLan_grants (s : State) (f : LanternSt → LanternSt) : (s.setLan f).grants = s.grants := rfl
@[simp] theorem State.setLan_ciph (s : State) (f : LanternSt → LanternSt) : (s.setLan f).ciph = s.ciph := rfl
@[simp] theorem State.setLan_uplinks (s : State) (f : LanternSt → LanternSt) : (s.setLan f).uplinks = s.uplinks := rfl
@[simp] theorem State.setLan_psgs (s : State) (f : LanternSt → LanternSt) : (s.setLan f).psgs = s.psgs := rfl
@[simp] theorem State.setLan_casc (s : State) (f : LanternSt → LanternSt) : (s.setLan f).casc = s.casc := rfl
@[simp] theorem State.setLan_sent (s : State) (f : LanternSt → LanternSt) : (s.setLan f).sent = s.sent := rfl
@[simp] theorem State.setLan_fresh (s : State) (f : LanternSt → LanternSt) : (s.setLan f).fresh = s.fresh := rfl
@[simp] theorem State.setLan_lan (s : State) (f : LanternSt → LanternSt) : (s.setLan f).lan = f s.lan := rfl

@[simp] theorem State.setNvm_pending (s : State) (f : Nvm → Nvm) : (s.setNvm f).pending = s.pending := rfl
@[simp] theorem State.setNvm_objs (s : State) (f : Nvm → Nvm) : (s.setNvm f).objs = s.objs := rfl
@[simp] theorem State.setNvm_regs (s : State) (f : Nvm → Nvm) : (s.setNvm f).regs = s.regs := rfl
@[simp] theorem State.setNvm_latched (s : State) (f : Nvm → Nvm) : (s.setNvm f).latched = s.latched := rfl
@[simp] theorem State.setNvm_clk (s : State) (f : Nvm → Nvm) : (s.setNvm f).clk = s.clk := rfl
@[simp] theorem State.setNvm_lan (s : State) (f : Nvm → Nvm) : (s.setNvm f).lan = s.lan := rfl
@[simp] theorem State.setNvm_stage (s : State) (f : Nvm → Nvm) : (s.setNvm f).stage = s.stage := rfl
@[simp] theorem State.setNvm_ucie (s : State) (f : Nvm → Nvm) : (s.setNvm f).ucie = s.ucie := rfl
@[simp] theorem State.setNvm_boot (s : State) (f : Nvm → Nvm) : (s.setNvm f).boot = s.boot := rfl
@[simp] theorem State.setNvm_life (s : State) (f : Nvm → Nvm) : (s.setNvm f).life = s.life := rfl
@[simp] theorem State.setNvm_snuffs (s : State) (f : Nvm → Nvm) : (s.setNvm f).snuffs = s.snuffs := rfl
@[simp] theorem State.setNvm_limits (s : State) (f : Nvm → Nvm) : (s.setNvm f).limits = s.limits := rfl
@[simp] theorem State.setNvm_lanes (s : State) (f : Nvm → Nvm) : (s.setNvm f).lanes = s.lanes := rfl
@[simp] theorem State.setNvm_cages (s : State) (f : Nvm → Nvm) : (s.setNvm f).cages = s.cages := rfl
@[simp] theorem State.setNvm_eqRuns (s : State) (f : Nvm → Nvm) : (s.setNvm f).eqRuns = s.eqRuns := rfl
@[simp] theorem State.setNvm_framers (s : State) (f : Nvm → Nvm) : (s.setNvm f).framers = s.framers := rfl
@[simp] theorem State.setNvm_lineRun (s : State) (f : Nvm → Nvm) : (s.setNvm f).lineRun = s.lineRun := rfl
@[simp] theorem State.setNvm_gal (s : State) (f : Nvm → Nvm) : (s.setNvm f).gal = s.gal := rfl
@[simp] theorem State.setNvm_frags (s : State) (f : Nvm → Nvm) : (s.setNvm f).frags = s.frags := rfl
@[simp] theorem State.setNvm_tm (s : State) (f : Nvm → Nvm) : (s.setNvm f).tm = s.tm := rfl
@[simp] theorem State.setNvm_terms (s : State) (f : Nvm → Nvm) : (s.setNvm f).terms = s.terms := rfl
@[simp] theorem State.setNvm_acts (s : State) (f : Nvm → Nvm) : (s.setNvm f).acts = s.acts := rfl
@[simp] theorem State.setNvm_logEvents (s : State) (f : Nvm → Nvm) : (s.setNvm f).logEvents = s.logEvents := rfl
@[simp] theorem State.setNvm_grants (s : State) (f : Nvm → Nvm) : (s.setNvm f).grants = s.grants := rfl
@[simp] theorem State.setNvm_ciph (s : State) (f : Nvm → Nvm) : (s.setNvm f).ciph = s.ciph := rfl
@[simp] theorem State.setNvm_uplinks (s : State) (f : Nvm → Nvm) : (s.setNvm f).uplinks = s.uplinks := rfl
@[simp] theorem State.setNvm_psgs (s : State) (f : Nvm → Nvm) : (s.setNvm f).psgs = s.psgs := rfl
@[simp] theorem State.setNvm_casc (s : State) (f : Nvm → Nvm) : (s.setNvm f).casc = s.casc := rfl
@[simp] theorem State.setNvm_sent (s : State) (f : Nvm → Nvm) : (s.setNvm f).sent = s.sent := rfl
@[simp] theorem State.setNvm_fresh (s : State) (f : Nvm → Nvm) : (s.setNvm f).fresh = s.fresh := rfl
@[simp] theorem State.setNvm_nvm (s : State) (f : Nvm → Nvm) :
    (s.setNvm f).nvm = if s.nvmUp then f s.nvm else s.nvm := rfl

@[simp] theorem State.setUcie_pending (s : State) (f : UcieSt → UcieSt) : (s.setUcie f).pending = s.pending := rfl
@[simp] theorem State.setUcie_objs (s : State) (f : UcieSt → UcieSt) : (s.setUcie f).objs = s.objs := rfl
@[simp] theorem State.setUcie_regs (s : State) (f : UcieSt → UcieSt) : (s.setUcie f).regs = s.regs := rfl
@[simp] theorem State.setUcie_latched (s : State) (f : UcieSt → UcieSt) : (s.setUcie f).latched = s.latched := rfl
@[simp] theorem State.setUcie_clk (s : State) (f : UcieSt → UcieSt) : (s.setUcie f).clk = s.clk := rfl
@[simp] theorem State.setUcie_lan (s : State) (f : UcieSt → UcieSt) : (s.setUcie f).lan = s.lan := rfl
@[simp] theorem State.setUcie_nvm (s : State) (f : UcieSt → UcieSt) : (s.setUcie f).nvm = s.nvm := rfl
@[simp] theorem State.setUcie_stage (s : State) (f : UcieSt → UcieSt) : (s.setUcie f).stage = s.stage := rfl
@[simp] theorem State.setUcie_boot (s : State) (f : UcieSt → UcieSt) : (s.setUcie f).boot = s.boot := rfl
@[simp] theorem State.setUcie_life (s : State) (f : UcieSt → UcieSt) : (s.setUcie f).life = s.life := rfl
@[simp] theorem State.setUcie_snuffs (s : State) (f : UcieSt → UcieSt) : (s.setUcie f).snuffs = s.snuffs := rfl
@[simp] theorem State.setUcie_limits (s : State) (f : UcieSt → UcieSt) : (s.setUcie f).limits = s.limits := rfl
@[simp] theorem State.setUcie_lanes (s : State) (f : UcieSt → UcieSt) : (s.setUcie f).lanes = s.lanes := rfl
@[simp] theorem State.setUcie_cages (s : State) (f : UcieSt → UcieSt) : (s.setUcie f).cages = s.cages := rfl
@[simp] theorem State.setUcie_eqRuns (s : State) (f : UcieSt → UcieSt) : (s.setUcie f).eqRuns = s.eqRuns := rfl
@[simp] theorem State.setUcie_framers (s : State) (f : UcieSt → UcieSt) : (s.setUcie f).framers = s.framers := rfl
@[simp] theorem State.setUcie_lineRun (s : State) (f : UcieSt → UcieSt) : (s.setUcie f).lineRun = s.lineRun := rfl
@[simp] theorem State.setUcie_gal (s : State) (f : UcieSt → UcieSt) : (s.setUcie f).gal = s.gal := rfl
@[simp] theorem State.setUcie_frags (s : State) (f : UcieSt → UcieSt) : (s.setUcie f).frags = s.frags := rfl
@[simp] theorem State.setUcie_tm (s : State) (f : UcieSt → UcieSt) : (s.setUcie f).tm = s.tm := rfl
@[simp] theorem State.setUcie_terms (s : State) (f : UcieSt → UcieSt) : (s.setUcie f).terms = s.terms := rfl
@[simp] theorem State.setUcie_acts (s : State) (f : UcieSt → UcieSt) : (s.setUcie f).acts = s.acts := rfl
@[simp] theorem State.setUcie_logEvents (s : State) (f : UcieSt → UcieSt) : (s.setUcie f).logEvents = s.logEvents := rfl
@[simp] theorem State.setUcie_grants (s : State) (f : UcieSt → UcieSt) : (s.setUcie f).grants = s.grants := rfl
@[simp] theorem State.setUcie_ciph (s : State) (f : UcieSt → UcieSt) : (s.setUcie f).ciph = s.ciph := rfl
@[simp] theorem State.setUcie_uplinks (s : State) (f : UcieSt → UcieSt) : (s.setUcie f).uplinks = s.uplinks := rfl
@[simp] theorem State.setUcie_psgs (s : State) (f : UcieSt → UcieSt) : (s.setUcie f).psgs = s.psgs := rfl
@[simp] theorem State.setUcie_casc (s : State) (f : UcieSt → UcieSt) : (s.setUcie f).casc = s.casc := rfl
@[simp] theorem State.setUcie_sent (s : State) (f : UcieSt → UcieSt) : (s.setUcie f).sent = s.sent := rfl
@[simp] theorem State.setUcie_fresh (s : State) (f : UcieSt → UcieSt) : (s.setUcie f).fresh = s.fresh := rfl
@[simp] theorem State.setUcie_ucie (s : State) (f : UcieSt → UcieSt) : (s.setUcie f).ucie = f s.ucie := rfl

@[simp] theorem State.setBoot_pending (s : State) (f : BootSt → BootSt) : (s.setBoot f).pending = s.pending := rfl
@[simp] theorem State.setBoot_objs (s : State) (f : BootSt → BootSt) : (s.setBoot f).objs = s.objs := rfl
@[simp] theorem State.setBoot_regs (s : State) (f : BootSt → BootSt) : (s.setBoot f).regs = s.regs := rfl
@[simp] theorem State.setBoot_latched (s : State) (f : BootSt → BootSt) : (s.setBoot f).latched = s.latched := rfl
@[simp] theorem State.setBoot_clk (s : State) (f : BootSt → BootSt) : (s.setBoot f).clk = s.clk := rfl
@[simp] theorem State.setBoot_lan (s : State) (f : BootSt → BootSt) : (s.setBoot f).lan = s.lan := rfl
@[simp] theorem State.setBoot_nvm (s : State) (f : BootSt → BootSt) : (s.setBoot f).nvm = s.nvm := rfl
@[simp] theorem State.setBoot_stage (s : State) (f : BootSt → BootSt) : (s.setBoot f).stage = s.stage := rfl
@[simp] theorem State.setBoot_ucie (s : State) (f : BootSt → BootSt) : (s.setBoot f).ucie = s.ucie := rfl
@[simp] theorem State.setBoot_life (s : State) (f : BootSt → BootSt) : (s.setBoot f).life = s.life := rfl
@[simp] theorem State.setBoot_snuffs (s : State) (f : BootSt → BootSt) : (s.setBoot f).snuffs = s.snuffs := rfl
@[simp] theorem State.setBoot_limits (s : State) (f : BootSt → BootSt) : (s.setBoot f).limits = s.limits := rfl
@[simp] theorem State.setBoot_lanes (s : State) (f : BootSt → BootSt) : (s.setBoot f).lanes = s.lanes := rfl
@[simp] theorem State.setBoot_cages (s : State) (f : BootSt → BootSt) : (s.setBoot f).cages = s.cages := rfl
@[simp] theorem State.setBoot_eqRuns (s : State) (f : BootSt → BootSt) : (s.setBoot f).eqRuns = s.eqRuns := rfl
@[simp] theorem State.setBoot_framers (s : State) (f : BootSt → BootSt) : (s.setBoot f).framers = s.framers := rfl
@[simp] theorem State.setBoot_lineRun (s : State) (f : BootSt → BootSt) : (s.setBoot f).lineRun = s.lineRun := rfl
@[simp] theorem State.setBoot_gal (s : State) (f : BootSt → BootSt) : (s.setBoot f).gal = s.gal := rfl
@[simp] theorem State.setBoot_frags (s : State) (f : BootSt → BootSt) : (s.setBoot f).frags = s.frags := rfl
@[simp] theorem State.setBoot_tm (s : State) (f : BootSt → BootSt) : (s.setBoot f).tm = s.tm := rfl
@[simp] theorem State.setBoot_terms (s : State) (f : BootSt → BootSt) : (s.setBoot f).terms = s.terms := rfl
@[simp] theorem State.setBoot_acts (s : State) (f : BootSt → BootSt) : (s.setBoot f).acts = s.acts := rfl
@[simp] theorem State.setBoot_logEvents (s : State) (f : BootSt → BootSt) : (s.setBoot f).logEvents = s.logEvents := rfl
@[simp] theorem State.setBoot_grants (s : State) (f : BootSt → BootSt) : (s.setBoot f).grants = s.grants := rfl
@[simp] theorem State.setBoot_ciph (s : State) (f : BootSt → BootSt) : (s.setBoot f).ciph = s.ciph := rfl
@[simp] theorem State.setBoot_uplinks (s : State) (f : BootSt → BootSt) : (s.setBoot f).uplinks = s.uplinks := rfl
@[simp] theorem State.setBoot_psgs (s : State) (f : BootSt → BootSt) : (s.setBoot f).psgs = s.psgs := rfl
@[simp] theorem State.setBoot_casc (s : State) (f : BootSt → BootSt) : (s.setBoot f).casc = s.casc := rfl
@[simp] theorem State.setBoot_sent (s : State) (f : BootSt → BootSt) : (s.setBoot f).sent = s.sent := rfl
@[simp] theorem State.setBoot_fresh (s : State) (f : BootSt → BootSt) : (s.setBoot f).fresh = s.fresh := rfl
@[simp] theorem State.setBoot_boot (s : State) (f : BootSt → BootSt) : (s.setBoot f).boot = f s.boot := rfl

@[simp] theorem State.setLife_pending (s : State) (f : LifeSt → LifeSt) : (s.setLife f).pending = s.pending := rfl
@[simp] theorem State.setLife_objs (s : State) (f : LifeSt → LifeSt) : (s.setLife f).objs = s.objs := rfl
@[simp] theorem State.setLife_regs (s : State) (f : LifeSt → LifeSt) : (s.setLife f).regs = s.regs := rfl
@[simp] theorem State.setLife_latched (s : State) (f : LifeSt → LifeSt) : (s.setLife f).latched = s.latched := rfl
@[simp] theorem State.setLife_clk (s : State) (f : LifeSt → LifeSt) : (s.setLife f).clk = s.clk := rfl
@[simp] theorem State.setLife_lan (s : State) (f : LifeSt → LifeSt) : (s.setLife f).lan = s.lan := rfl
@[simp] theorem State.setLife_nvm (s : State) (f : LifeSt → LifeSt) : (s.setLife f).nvm = s.nvm := rfl
@[simp] theorem State.setLife_stage (s : State) (f : LifeSt → LifeSt) : (s.setLife f).stage = s.stage := rfl
@[simp] theorem State.setLife_ucie (s : State) (f : LifeSt → LifeSt) : (s.setLife f).ucie = s.ucie := rfl
@[simp] theorem State.setLife_boot (s : State) (f : LifeSt → LifeSt) : (s.setLife f).boot = s.boot := rfl
@[simp] theorem State.setLife_snuffs (s : State) (f : LifeSt → LifeSt) : (s.setLife f).snuffs = s.snuffs := rfl
@[simp] theorem State.setLife_limits (s : State) (f : LifeSt → LifeSt) : (s.setLife f).limits = s.limits := rfl
@[simp] theorem State.setLife_lanes (s : State) (f : LifeSt → LifeSt) : (s.setLife f).lanes = s.lanes := rfl
@[simp] theorem State.setLife_cages (s : State) (f : LifeSt → LifeSt) : (s.setLife f).cages = s.cages := rfl
@[simp] theorem State.setLife_eqRuns (s : State) (f : LifeSt → LifeSt) : (s.setLife f).eqRuns = s.eqRuns := rfl
@[simp] theorem State.setLife_framers (s : State) (f : LifeSt → LifeSt) : (s.setLife f).framers = s.framers := rfl
@[simp] theorem State.setLife_lineRun (s : State) (f : LifeSt → LifeSt) : (s.setLife f).lineRun = s.lineRun := rfl
@[simp] theorem State.setLife_gal (s : State) (f : LifeSt → LifeSt) : (s.setLife f).gal = s.gal := rfl
@[simp] theorem State.setLife_frags (s : State) (f : LifeSt → LifeSt) : (s.setLife f).frags = s.frags := rfl
@[simp] theorem State.setLife_tm (s : State) (f : LifeSt → LifeSt) : (s.setLife f).tm = s.tm := rfl
@[simp] theorem State.setLife_terms (s : State) (f : LifeSt → LifeSt) : (s.setLife f).terms = s.terms := rfl
@[simp] theorem State.setLife_acts (s : State) (f : LifeSt → LifeSt) : (s.setLife f).acts = s.acts := rfl
@[simp] theorem State.setLife_logEvents (s : State) (f : LifeSt → LifeSt) : (s.setLife f).logEvents = s.logEvents := rfl
@[simp] theorem State.setLife_grants (s : State) (f : LifeSt → LifeSt) : (s.setLife f).grants = s.grants := rfl
@[simp] theorem State.setLife_ciph (s : State) (f : LifeSt → LifeSt) : (s.setLife f).ciph = s.ciph := rfl
@[simp] theorem State.setLife_uplinks (s : State) (f : LifeSt → LifeSt) : (s.setLife f).uplinks = s.uplinks := rfl
@[simp] theorem State.setLife_psgs (s : State) (f : LifeSt → LifeSt) : (s.setLife f).psgs = s.psgs := rfl
@[simp] theorem State.setLife_casc (s : State) (f : LifeSt → LifeSt) : (s.setLife f).casc = s.casc := rfl
@[simp] theorem State.setLife_sent (s : State) (f : LifeSt → LifeSt) : (s.setLife f).sent = s.sent := rfl
@[simp] theorem State.setLife_fresh (s : State) (f : LifeSt → LifeSt) : (s.setLife f).fresh = s.fresh := rfl
@[simp] theorem State.setLife_life (s : State) (f : LifeSt → LifeSt) : (s.setLife f).life = f s.life := rfl

@[simp] theorem State.setTm_pending (s : State) (f : TrafficSt → TrafficSt) : (s.setTm f).pending = s.pending := rfl
@[simp] theorem State.setTm_objs (s : State) (f : TrafficSt → TrafficSt) : (s.setTm f).objs = s.objs := rfl
@[simp] theorem State.setTm_regs (s : State) (f : TrafficSt → TrafficSt) : (s.setTm f).regs = s.regs := rfl
@[simp] theorem State.setTm_latched (s : State) (f : TrafficSt → TrafficSt) : (s.setTm f).latched = s.latched := rfl
@[simp] theorem State.setTm_clk (s : State) (f : TrafficSt → TrafficSt) : (s.setTm f).clk = s.clk := rfl
@[simp] theorem State.setTm_lan (s : State) (f : TrafficSt → TrafficSt) : (s.setTm f).lan = s.lan := rfl
@[simp] theorem State.setTm_nvm (s : State) (f : TrafficSt → TrafficSt) : (s.setTm f).nvm = s.nvm := rfl
@[simp] theorem State.setTm_stage (s : State) (f : TrafficSt → TrafficSt) : (s.setTm f).stage = s.stage := rfl
@[simp] theorem State.setTm_ucie (s : State) (f : TrafficSt → TrafficSt) : (s.setTm f).ucie = s.ucie := rfl
@[simp] theorem State.setTm_boot (s : State) (f : TrafficSt → TrafficSt) : (s.setTm f).boot = s.boot := rfl
@[simp] theorem State.setTm_life (s : State) (f : TrafficSt → TrafficSt) : (s.setTm f).life = s.life := rfl
@[simp] theorem State.setTm_snuffs (s : State) (f : TrafficSt → TrafficSt) : (s.setTm f).snuffs = s.snuffs := rfl
@[simp] theorem State.setTm_limits (s : State) (f : TrafficSt → TrafficSt) : (s.setTm f).limits = s.limits := rfl
@[simp] theorem State.setTm_lanes (s : State) (f : TrafficSt → TrafficSt) : (s.setTm f).lanes = s.lanes := rfl
@[simp] theorem State.setTm_cages (s : State) (f : TrafficSt → TrafficSt) : (s.setTm f).cages = s.cages := rfl
@[simp] theorem State.setTm_eqRuns (s : State) (f : TrafficSt → TrafficSt) : (s.setTm f).eqRuns = s.eqRuns := rfl
@[simp] theorem State.setTm_framers (s : State) (f : TrafficSt → TrafficSt) : (s.setTm f).framers = s.framers := rfl
@[simp] theorem State.setTm_lineRun (s : State) (f : TrafficSt → TrafficSt) : (s.setTm f).lineRun = s.lineRun := rfl
@[simp] theorem State.setTm_gal (s : State) (f : TrafficSt → TrafficSt) : (s.setTm f).gal = s.gal := rfl
@[simp] theorem State.setTm_frags (s : State) (f : TrafficSt → TrafficSt) : (s.setTm f).frags = s.frags := rfl
@[simp] theorem State.setTm_terms (s : State) (f : TrafficSt → TrafficSt) : (s.setTm f).terms = s.terms := rfl
@[simp] theorem State.setTm_acts (s : State) (f : TrafficSt → TrafficSt) : (s.setTm f).acts = s.acts := rfl
@[simp] theorem State.setTm_logEvents (s : State) (f : TrafficSt → TrafficSt) : (s.setTm f).logEvents = s.logEvents := rfl
@[simp] theorem State.setTm_grants (s : State) (f : TrafficSt → TrafficSt) : (s.setTm f).grants = s.grants := rfl
@[simp] theorem State.setTm_ciph (s : State) (f : TrafficSt → TrafficSt) : (s.setTm f).ciph = s.ciph := rfl
@[simp] theorem State.setTm_uplinks (s : State) (f : TrafficSt → TrafficSt) : (s.setTm f).uplinks = s.uplinks := rfl
@[simp] theorem State.setTm_psgs (s : State) (f : TrafficSt → TrafficSt) : (s.setTm f).psgs = s.psgs := rfl
@[simp] theorem State.setTm_casc (s : State) (f : TrafficSt → TrafficSt) : (s.setTm f).casc = s.casc := rfl
@[simp] theorem State.setTm_sent (s : State) (f : TrafficSt → TrafficSt) : (s.setTm f).sent = s.sent := rfl
@[simp] theorem State.setTm_fresh (s : State) (f : TrafficSt → TrafficSt) : (s.setTm f).fresh = s.fresh := rfl
@[simp] theorem State.setTm_tm (s : State) (f : TrafficSt → TrafficSt) : (s.setTm f).tm = f s.tm := rfl

@[simp] theorem State.setGal_pending (s : State) (f : GallerySt → GallerySt) : (s.setGal f).pending = s.pending := rfl
@[simp] theorem State.setGal_objs (s : State) (f : GallerySt → GallerySt) : (s.setGal f).objs = s.objs := rfl
@[simp] theorem State.setGal_regs (s : State) (f : GallerySt → GallerySt) : (s.setGal f).regs = s.regs := rfl
@[simp] theorem State.setGal_latched (s : State) (f : GallerySt → GallerySt) : (s.setGal f).latched = s.latched := rfl
@[simp] theorem State.setGal_clk (s : State) (f : GallerySt → GallerySt) : (s.setGal f).clk = s.clk := rfl
@[simp] theorem State.setGal_lan (s : State) (f : GallerySt → GallerySt) : (s.setGal f).lan = s.lan := rfl
@[simp] theorem State.setGal_nvm (s : State) (f : GallerySt → GallerySt) : (s.setGal f).nvm = s.nvm := rfl
@[simp] theorem State.setGal_stage (s : State) (f : GallerySt → GallerySt) : (s.setGal f).stage = s.stage := rfl
@[simp] theorem State.setGal_ucie (s : State) (f : GallerySt → GallerySt) : (s.setGal f).ucie = s.ucie := rfl
@[simp] theorem State.setGal_boot (s : State) (f : GallerySt → GallerySt) : (s.setGal f).boot = s.boot := rfl
@[simp] theorem State.setGal_life (s : State) (f : GallerySt → GallerySt) : (s.setGal f).life = s.life := rfl
@[simp] theorem State.setGal_snuffs (s : State) (f : GallerySt → GallerySt) : (s.setGal f).snuffs = s.snuffs := rfl
@[simp] theorem State.setGal_limits (s : State) (f : GallerySt → GallerySt) : (s.setGal f).limits = s.limits := rfl
@[simp] theorem State.setGal_lanes (s : State) (f : GallerySt → GallerySt) : (s.setGal f).lanes = s.lanes := rfl
@[simp] theorem State.setGal_cages (s : State) (f : GallerySt → GallerySt) : (s.setGal f).cages = s.cages := rfl
@[simp] theorem State.setGal_eqRuns (s : State) (f : GallerySt → GallerySt) : (s.setGal f).eqRuns = s.eqRuns := rfl
@[simp] theorem State.setGal_framers (s : State) (f : GallerySt → GallerySt) : (s.setGal f).framers = s.framers := rfl
@[simp] theorem State.setGal_lineRun (s : State) (f : GallerySt → GallerySt) : (s.setGal f).lineRun = s.lineRun := rfl
@[simp] theorem State.setGal_frags (s : State) (f : GallerySt → GallerySt) : (s.setGal f).frags = s.frags := rfl
@[simp] theorem State.setGal_tm (s : State) (f : GallerySt → GallerySt) : (s.setGal f).tm = s.tm := rfl
@[simp] theorem State.setGal_terms (s : State) (f : GallerySt → GallerySt) : (s.setGal f).terms = s.terms := rfl
@[simp] theorem State.setGal_acts (s : State) (f : GallerySt → GallerySt) : (s.setGal f).acts = s.acts := rfl
@[simp] theorem State.setGal_logEvents (s : State) (f : GallerySt → GallerySt) : (s.setGal f).logEvents = s.logEvents := rfl
@[simp] theorem State.setGal_grants (s : State) (f : GallerySt → GallerySt) : (s.setGal f).grants = s.grants := rfl
@[simp] theorem State.setGal_ciph (s : State) (f : GallerySt → GallerySt) : (s.setGal f).ciph = s.ciph := rfl
@[simp] theorem State.setGal_uplinks (s : State) (f : GallerySt → GallerySt) : (s.setGal f).uplinks = s.uplinks := rfl
@[simp] theorem State.setGal_psgs (s : State) (f : GallerySt → GallerySt) : (s.setGal f).psgs = s.psgs := rfl
@[simp] theorem State.setGal_casc (s : State) (f : GallerySt → GallerySt) : (s.setGal f).casc = s.casc := rfl
@[simp] theorem State.setGal_sent (s : State) (f : GallerySt → GallerySt) : (s.setGal f).sent = s.sent := rfl
@[simp] theorem State.setGal_fresh (s : State) (f : GallerySt → GallerySt) : (s.setGal f).fresh = s.fresh := rfl
@[simp] theorem State.setGal_gal (s : State) (f : GallerySt → GallerySt) : (s.setGal f).gal = f s.gal := rfl

@[simp] theorem State.setGr_pending (s : State) (f : GrantSt → GrantSt) : (s.setGr f).pending = s.pending := rfl
@[simp] theorem State.setGr_objs (s : State) (f : GrantSt → GrantSt) : (s.setGr f).objs = s.objs := rfl
@[simp] theorem State.setGr_regs (s : State) (f : GrantSt → GrantSt) : (s.setGr f).regs = s.regs := rfl
@[simp] theorem State.setGr_latched (s : State) (f : GrantSt → GrantSt) : (s.setGr f).latched = s.latched := rfl
@[simp] theorem State.setGr_clk (s : State) (f : GrantSt → GrantSt) : (s.setGr f).clk = s.clk := rfl
@[simp] theorem State.setGr_lan (s : State) (f : GrantSt → GrantSt) : (s.setGr f).lan = s.lan := rfl
@[simp] theorem State.setGr_nvm (s : State) (f : GrantSt → GrantSt) : (s.setGr f).nvm = s.nvm := rfl
@[simp] theorem State.setGr_stage (s : State) (f : GrantSt → GrantSt) : (s.setGr f).stage = s.stage := rfl
@[simp] theorem State.setGr_ucie (s : State) (f : GrantSt → GrantSt) : (s.setGr f).ucie = s.ucie := rfl
@[simp] theorem State.setGr_boot (s : State) (f : GrantSt → GrantSt) : (s.setGr f).boot = s.boot := rfl
@[simp] theorem State.setGr_life (s : State) (f : GrantSt → GrantSt) : (s.setGr f).life = s.life := rfl
@[simp] theorem State.setGr_snuffs (s : State) (f : GrantSt → GrantSt) : (s.setGr f).snuffs = s.snuffs := rfl
@[simp] theorem State.setGr_limits (s : State) (f : GrantSt → GrantSt) : (s.setGr f).limits = s.limits := rfl
@[simp] theorem State.setGr_lanes (s : State) (f : GrantSt → GrantSt) : (s.setGr f).lanes = s.lanes := rfl
@[simp] theorem State.setGr_cages (s : State) (f : GrantSt → GrantSt) : (s.setGr f).cages = s.cages := rfl
@[simp] theorem State.setGr_eqRuns (s : State) (f : GrantSt → GrantSt) : (s.setGr f).eqRuns = s.eqRuns := rfl
@[simp] theorem State.setGr_framers (s : State) (f : GrantSt → GrantSt) : (s.setGr f).framers = s.framers := rfl
@[simp] theorem State.setGr_lineRun (s : State) (f : GrantSt → GrantSt) : (s.setGr f).lineRun = s.lineRun := rfl
@[simp] theorem State.setGr_gal (s : State) (f : GrantSt → GrantSt) : (s.setGr f).gal = s.gal := rfl
@[simp] theorem State.setGr_frags (s : State) (f : GrantSt → GrantSt) : (s.setGr f).frags = s.frags := rfl
@[simp] theorem State.setGr_tm (s : State) (f : GrantSt → GrantSt) : (s.setGr f).tm = s.tm := rfl
@[simp] theorem State.setGr_terms (s : State) (f : GrantSt → GrantSt) : (s.setGr f).terms = s.terms := rfl
@[simp] theorem State.setGr_acts (s : State) (f : GrantSt → GrantSt) : (s.setGr f).acts = s.acts := rfl
@[simp] theorem State.setGr_logEvents (s : State) (f : GrantSt → GrantSt) : (s.setGr f).logEvents = s.logEvents := rfl
@[simp] theorem State.setGr_ciph (s : State) (f : GrantSt → GrantSt) : (s.setGr f).ciph = s.ciph := rfl
@[simp] theorem State.setGr_uplinks (s : State) (f : GrantSt → GrantSt) : (s.setGr f).uplinks = s.uplinks := rfl
@[simp] theorem State.setGr_psgs (s : State) (f : GrantSt → GrantSt) : (s.setGr f).psgs = s.psgs := rfl
@[simp] theorem State.setGr_casc (s : State) (f : GrantSt → GrantSt) : (s.setGr f).casc = s.casc := rfl
@[simp] theorem State.setGr_sent (s : State) (f : GrantSt → GrantSt) : (s.setGr f).sent = s.sent := rfl
@[simp] theorem State.setGr_fresh (s : State) (f : GrantSt → GrantSt) : (s.setGr f).fresh = s.fresh := rfl
@[simp] theorem State.setGr_grants (s : State) (f : GrantSt → GrantSt) : (s.setGr f).grants = f s.grants := rfl

@[simp] theorem State.setCiph_pending (s : State) (f : CipherSt → CipherSt) : (s.setCiph f).pending = s.pending := rfl
@[simp] theorem State.setCiph_objs (s : State) (f : CipherSt → CipherSt) : (s.setCiph f).objs = s.objs := rfl
@[simp] theorem State.setCiph_regs (s : State) (f : CipherSt → CipherSt) : (s.setCiph f).regs = s.regs := rfl
@[simp] theorem State.setCiph_latched (s : State) (f : CipherSt → CipherSt) : (s.setCiph f).latched = s.latched := rfl
@[simp] theorem State.setCiph_clk (s : State) (f : CipherSt → CipherSt) : (s.setCiph f).clk = s.clk := rfl
@[simp] theorem State.setCiph_lan (s : State) (f : CipherSt → CipherSt) : (s.setCiph f).lan = s.lan := rfl
@[simp] theorem State.setCiph_nvm (s : State) (f : CipherSt → CipherSt) : (s.setCiph f).nvm = s.nvm := rfl
@[simp] theorem State.setCiph_stage (s : State) (f : CipherSt → CipherSt) : (s.setCiph f).stage = s.stage := rfl
@[simp] theorem State.setCiph_ucie (s : State) (f : CipherSt → CipherSt) : (s.setCiph f).ucie = s.ucie := rfl
@[simp] theorem State.setCiph_boot (s : State) (f : CipherSt → CipherSt) : (s.setCiph f).boot = s.boot := rfl
@[simp] theorem State.setCiph_life (s : State) (f : CipherSt → CipherSt) : (s.setCiph f).life = s.life := rfl
@[simp] theorem State.setCiph_snuffs (s : State) (f : CipherSt → CipherSt) : (s.setCiph f).snuffs = s.snuffs := rfl
@[simp] theorem State.setCiph_limits (s : State) (f : CipherSt → CipherSt) : (s.setCiph f).limits = s.limits := rfl
@[simp] theorem State.setCiph_lanes (s : State) (f : CipherSt → CipherSt) : (s.setCiph f).lanes = s.lanes := rfl
@[simp] theorem State.setCiph_cages (s : State) (f : CipherSt → CipherSt) : (s.setCiph f).cages = s.cages := rfl
@[simp] theorem State.setCiph_eqRuns (s : State) (f : CipherSt → CipherSt) : (s.setCiph f).eqRuns = s.eqRuns := rfl
@[simp] theorem State.setCiph_framers (s : State) (f : CipherSt → CipherSt) : (s.setCiph f).framers = s.framers := rfl
@[simp] theorem State.setCiph_lineRun (s : State) (f : CipherSt → CipherSt) : (s.setCiph f).lineRun = s.lineRun := rfl
@[simp] theorem State.setCiph_gal (s : State) (f : CipherSt → CipherSt) : (s.setCiph f).gal = s.gal := rfl
@[simp] theorem State.setCiph_frags (s : State) (f : CipherSt → CipherSt) : (s.setCiph f).frags = s.frags := rfl
@[simp] theorem State.setCiph_tm (s : State) (f : CipherSt → CipherSt) : (s.setCiph f).tm = s.tm := rfl
@[simp] theorem State.setCiph_terms (s : State) (f : CipherSt → CipherSt) : (s.setCiph f).terms = s.terms := rfl
@[simp] theorem State.setCiph_acts (s : State) (f : CipherSt → CipherSt) : (s.setCiph f).acts = s.acts := rfl
@[simp] theorem State.setCiph_logEvents (s : State) (f : CipherSt → CipherSt) : (s.setCiph f).logEvents = s.logEvents := rfl
@[simp] theorem State.setCiph_grants (s : State) (f : CipherSt → CipherSt) : (s.setCiph f).grants = s.grants := rfl
@[simp] theorem State.setCiph_uplinks (s : State) (f : CipherSt → CipherSt) : (s.setCiph f).uplinks = s.uplinks := rfl
@[simp] theorem State.setCiph_psgs (s : State) (f : CipherSt → CipherSt) : (s.setCiph f).psgs = s.psgs := rfl
@[simp] theorem State.setCiph_casc (s : State) (f : CipherSt → CipherSt) : (s.setCiph f).casc = s.casc := rfl
@[simp] theorem State.setCiph_sent (s : State) (f : CipherSt → CipherSt) : (s.setCiph f).sent = s.sent := rfl
@[simp] theorem State.setCiph_fresh (s : State) (f : CipherSt → CipherSt) : (s.setCiph f).fresh = s.fresh := rfl
@[simp] theorem State.setCiph_ciph (s : State) (f : CipherSt → CipherSt) : (s.setCiph f).ciph = f s.ciph := rfl

@[simp] theorem State.setCasc_pending (s : State) (f : CascadeSt → CascadeSt) : (s.setCasc f).pending = s.pending := rfl
@[simp] theorem State.setCasc_objs (s : State) (f : CascadeSt → CascadeSt) : (s.setCasc f).objs = s.objs := rfl
@[simp] theorem State.setCasc_regs (s : State) (f : CascadeSt → CascadeSt) : (s.setCasc f).regs = s.regs := rfl
@[simp] theorem State.setCasc_latched (s : State) (f : CascadeSt → CascadeSt) : (s.setCasc f).latched = s.latched := rfl
@[simp] theorem State.setCasc_clk (s : State) (f : CascadeSt → CascadeSt) : (s.setCasc f).clk = s.clk := rfl
@[simp] theorem State.setCasc_lan (s : State) (f : CascadeSt → CascadeSt) : (s.setCasc f).lan = s.lan := rfl
@[simp] theorem State.setCasc_nvm (s : State) (f : CascadeSt → CascadeSt) : (s.setCasc f).nvm = s.nvm := rfl
@[simp] theorem State.setCasc_stage (s : State) (f : CascadeSt → CascadeSt) : (s.setCasc f).stage = s.stage := rfl
@[simp] theorem State.setCasc_ucie (s : State) (f : CascadeSt → CascadeSt) : (s.setCasc f).ucie = s.ucie := rfl
@[simp] theorem State.setCasc_boot (s : State) (f : CascadeSt → CascadeSt) : (s.setCasc f).boot = s.boot := rfl
@[simp] theorem State.setCasc_life (s : State) (f : CascadeSt → CascadeSt) : (s.setCasc f).life = s.life := rfl
@[simp] theorem State.setCasc_snuffs (s : State) (f : CascadeSt → CascadeSt) : (s.setCasc f).snuffs = s.snuffs := rfl
@[simp] theorem State.setCasc_limits (s : State) (f : CascadeSt → CascadeSt) : (s.setCasc f).limits = s.limits := rfl
@[simp] theorem State.setCasc_lanes (s : State) (f : CascadeSt → CascadeSt) : (s.setCasc f).lanes = s.lanes := rfl
@[simp] theorem State.setCasc_cages (s : State) (f : CascadeSt → CascadeSt) : (s.setCasc f).cages = s.cages := rfl
@[simp] theorem State.setCasc_eqRuns (s : State) (f : CascadeSt → CascadeSt) : (s.setCasc f).eqRuns = s.eqRuns := rfl
@[simp] theorem State.setCasc_framers (s : State) (f : CascadeSt → CascadeSt) : (s.setCasc f).framers = s.framers := rfl
@[simp] theorem State.setCasc_lineRun (s : State) (f : CascadeSt → CascadeSt) : (s.setCasc f).lineRun = s.lineRun := rfl
@[simp] theorem State.setCasc_gal (s : State) (f : CascadeSt → CascadeSt) : (s.setCasc f).gal = s.gal := rfl
@[simp] theorem State.setCasc_frags (s : State) (f : CascadeSt → CascadeSt) : (s.setCasc f).frags = s.frags := rfl
@[simp] theorem State.setCasc_tm (s : State) (f : CascadeSt → CascadeSt) : (s.setCasc f).tm = s.tm := rfl
@[simp] theorem State.setCasc_terms (s : State) (f : CascadeSt → CascadeSt) : (s.setCasc f).terms = s.terms := rfl
@[simp] theorem State.setCasc_acts (s : State) (f : CascadeSt → CascadeSt) : (s.setCasc f).acts = s.acts := rfl
@[simp] theorem State.setCasc_logEvents (s : State) (f : CascadeSt → CascadeSt) : (s.setCasc f).logEvents = s.logEvents := rfl
@[simp] theorem State.setCasc_grants (s : State) (f : CascadeSt → CascadeSt) : (s.setCasc f).grants = s.grants := rfl
@[simp] theorem State.setCasc_ciph (s : State) (f : CascadeSt → CascadeSt) : (s.setCasc f).ciph = s.ciph := rfl
@[simp] theorem State.setCasc_uplinks (s : State) (f : CascadeSt → CascadeSt) : (s.setCasc f).uplinks = s.uplinks := rfl
@[simp] theorem State.setCasc_psgs (s : State) (f : CascadeSt → CascadeSt) : (s.setCasc f).psgs = s.psgs := rfl
@[simp] theorem State.setCasc_sent (s : State) (f : CascadeSt → CascadeSt) : (s.setCasc f).sent = s.sent := rfl
@[simp] theorem State.setCasc_fresh (s : State) (f : CascadeSt → CascadeSt) : (s.setCasc f).fresh = s.fresh := rfl
@[simp] theorem State.setCasc_casc (s : State) (f : CascadeSt → CascadeSt) : (s.setCasc f).casc = f s.casc := rfl

@[simp] theorem State.setLane_pending (s : State) (k : Nat) (r : LaneSt) : (s.setLane k r).pending = s.pending := rfl
@[simp] theorem State.setLane_objs (s : State) (k : Nat) (r : LaneSt) : (s.setLane k r).objs = s.objs := rfl
@[simp] theorem State.setLane_regs (s : State) (k : Nat) (r : LaneSt) : (s.setLane k r).regs = s.regs := rfl
@[simp] theorem State.setLane_latched (s : State) (k : Nat) (r : LaneSt) : (s.setLane k r).latched = s.latched := rfl
@[simp] theorem State.setLane_clk (s : State) (k : Nat) (r : LaneSt) : (s.setLane k r).clk = s.clk := rfl
@[simp] theorem State.setLane_lan (s : State) (k : Nat) (r : LaneSt) : (s.setLane k r).lan = s.lan := rfl
@[simp] theorem State.setLane_nvm (s : State) (k : Nat) (r : LaneSt) : (s.setLane k r).nvm = s.nvm := rfl
@[simp] theorem State.setLane_stage (s : State) (k : Nat) (r : LaneSt) : (s.setLane k r).stage = s.stage := rfl
@[simp] theorem State.setLane_ucie (s : State) (k : Nat) (r : LaneSt) : (s.setLane k r).ucie = s.ucie := rfl
@[simp] theorem State.setLane_boot (s : State) (k : Nat) (r : LaneSt) : (s.setLane k r).boot = s.boot := rfl
@[simp] theorem State.setLane_life (s : State) (k : Nat) (r : LaneSt) : (s.setLane k r).life = s.life := rfl
@[simp] theorem State.setLane_snuffs (s : State) (k : Nat) (r : LaneSt) : (s.setLane k r).snuffs = s.snuffs := rfl
@[simp] theorem State.setLane_limits (s : State) (k : Nat) (r : LaneSt) : (s.setLane k r).limits = s.limits := rfl
@[simp] theorem State.setLane_cages (s : State) (k : Nat) (r : LaneSt) : (s.setLane k r).cages = s.cages := rfl
@[simp] theorem State.setLane_eqRuns (s : State) (k : Nat) (r : LaneSt) : (s.setLane k r).eqRuns = s.eqRuns := rfl
@[simp] theorem State.setLane_framers (s : State) (k : Nat) (r : LaneSt) : (s.setLane k r).framers = s.framers := rfl
@[simp] theorem State.setLane_lineRun (s : State) (k : Nat) (r : LaneSt) : (s.setLane k r).lineRun = s.lineRun := rfl
@[simp] theorem State.setLane_gal (s : State) (k : Nat) (r : LaneSt) : (s.setLane k r).gal = s.gal := rfl
@[simp] theorem State.setLane_frags (s : State) (k : Nat) (r : LaneSt) : (s.setLane k r).frags = s.frags := rfl
@[simp] theorem State.setLane_tm (s : State) (k : Nat) (r : LaneSt) : (s.setLane k r).tm = s.tm := rfl
@[simp] theorem State.setLane_terms (s : State) (k : Nat) (r : LaneSt) : (s.setLane k r).terms = s.terms := rfl
@[simp] theorem State.setLane_acts (s : State) (k : Nat) (r : LaneSt) : (s.setLane k r).acts = s.acts := rfl
@[simp] theorem State.setLane_logEvents (s : State) (k : Nat) (r : LaneSt) : (s.setLane k r).logEvents = s.logEvents := rfl
@[simp] theorem State.setLane_grants (s : State) (k : Nat) (r : LaneSt) : (s.setLane k r).grants = s.grants := rfl
@[simp] theorem State.setLane_ciph (s : State) (k : Nat) (r : LaneSt) : (s.setLane k r).ciph = s.ciph := rfl
@[simp] theorem State.setLane_uplinks (s : State) (k : Nat) (r : LaneSt) : (s.setLane k r).uplinks = s.uplinks := rfl
@[simp] theorem State.setLane_psgs (s : State) (k : Nat) (r : LaneSt) : (s.setLane k r).psgs = s.psgs := rfl
@[simp] theorem State.setLane_casc (s : State) (k : Nat) (r : LaneSt) : (s.setLane k r).casc = s.casc := rfl
@[simp] theorem State.setLane_sent (s : State) (k : Nat) (r : LaneSt) : (s.setLane k r).sent = s.sent := rfl
@[simp] theorem State.setLane_fresh (s : State) (k : Nat) (r : LaneSt) : (s.setLane k r).fresh = s.fresh := rfl

@[simp] theorem State.setCage_pending (s : State) (k : Nat) (r : CageSt) : (s.setCage k r).pending = s.pending := rfl
@[simp] theorem State.setCage_objs (s : State) (k : Nat) (r : CageSt) : (s.setCage k r).objs = s.objs := rfl
@[simp] theorem State.setCage_regs (s : State) (k : Nat) (r : CageSt) : (s.setCage k r).regs = s.regs := rfl
@[simp] theorem State.setCage_latched (s : State) (k : Nat) (r : CageSt) : (s.setCage k r).latched = s.latched := rfl
@[simp] theorem State.setCage_clk (s : State) (k : Nat) (r : CageSt) : (s.setCage k r).clk = s.clk := rfl
@[simp] theorem State.setCage_lan (s : State) (k : Nat) (r : CageSt) : (s.setCage k r).lan = s.lan := rfl
@[simp] theorem State.setCage_nvm (s : State) (k : Nat) (r : CageSt) : (s.setCage k r).nvm = s.nvm := rfl
@[simp] theorem State.setCage_stage (s : State) (k : Nat) (r : CageSt) : (s.setCage k r).stage = s.stage := rfl
@[simp] theorem State.setCage_ucie (s : State) (k : Nat) (r : CageSt) : (s.setCage k r).ucie = s.ucie := rfl
@[simp] theorem State.setCage_boot (s : State) (k : Nat) (r : CageSt) : (s.setCage k r).boot = s.boot := rfl
@[simp] theorem State.setCage_life (s : State) (k : Nat) (r : CageSt) : (s.setCage k r).life = s.life := rfl
@[simp] theorem State.setCage_snuffs (s : State) (k : Nat) (r : CageSt) : (s.setCage k r).snuffs = s.snuffs := rfl
@[simp] theorem State.setCage_limits (s : State) (k : Nat) (r : CageSt) : (s.setCage k r).limits = s.limits := rfl
@[simp] theorem State.setCage_lanes (s : State) (k : Nat) (r : CageSt) : (s.setCage k r).lanes = s.lanes := rfl
@[simp] theorem State.setCage_eqRuns (s : State) (k : Nat) (r : CageSt) : (s.setCage k r).eqRuns = s.eqRuns := rfl
@[simp] theorem State.setCage_framers (s : State) (k : Nat) (r : CageSt) : (s.setCage k r).framers = s.framers := rfl
@[simp] theorem State.setCage_lineRun (s : State) (k : Nat) (r : CageSt) : (s.setCage k r).lineRun = s.lineRun := rfl
@[simp] theorem State.setCage_gal (s : State) (k : Nat) (r : CageSt) : (s.setCage k r).gal = s.gal := rfl
@[simp] theorem State.setCage_frags (s : State) (k : Nat) (r : CageSt) : (s.setCage k r).frags = s.frags := rfl
@[simp] theorem State.setCage_tm (s : State) (k : Nat) (r : CageSt) : (s.setCage k r).tm = s.tm := rfl
@[simp] theorem State.setCage_terms (s : State) (k : Nat) (r : CageSt) : (s.setCage k r).terms = s.terms := rfl
@[simp] theorem State.setCage_acts (s : State) (k : Nat) (r : CageSt) : (s.setCage k r).acts = s.acts := rfl
@[simp] theorem State.setCage_logEvents (s : State) (k : Nat) (r : CageSt) : (s.setCage k r).logEvents = s.logEvents := rfl
@[simp] theorem State.setCage_grants (s : State) (k : Nat) (r : CageSt) : (s.setCage k r).grants = s.grants := rfl
@[simp] theorem State.setCage_ciph (s : State) (k : Nat) (r : CageSt) : (s.setCage k r).ciph = s.ciph := rfl
@[simp] theorem State.setCage_uplinks (s : State) (k : Nat) (r : CageSt) : (s.setCage k r).uplinks = s.uplinks := rfl
@[simp] theorem State.setCage_psgs (s : State) (k : Nat) (r : CageSt) : (s.setCage k r).psgs = s.psgs := rfl
@[simp] theorem State.setCage_casc (s : State) (k : Nat) (r : CageSt) : (s.setCage k r).casc = s.casc := rfl
@[simp] theorem State.setCage_sent (s : State) (k : Nat) (r : CageSt) : (s.setCage k r).sent = s.sent := rfl
@[simp] theorem State.setCage_fresh (s : State) (k : Nat) (r : CageSt) : (s.setCage k r).fresh = s.fresh := rfl

@[simp] theorem State.setFramer_pending (s : State) (k : Nat) (r : FramerSt) : (s.setFramer k r).pending = s.pending := rfl
@[simp] theorem State.setFramer_objs (s : State) (k : Nat) (r : FramerSt) : (s.setFramer k r).objs = s.objs := rfl
@[simp] theorem State.setFramer_regs (s : State) (k : Nat) (r : FramerSt) : (s.setFramer k r).regs = s.regs := rfl
@[simp] theorem State.setFramer_latched (s : State) (k : Nat) (r : FramerSt) : (s.setFramer k r).latched = s.latched := rfl
@[simp] theorem State.setFramer_clk (s : State) (k : Nat) (r : FramerSt) : (s.setFramer k r).clk = s.clk := rfl
@[simp] theorem State.setFramer_lan (s : State) (k : Nat) (r : FramerSt) : (s.setFramer k r).lan = s.lan := rfl
@[simp] theorem State.setFramer_nvm (s : State) (k : Nat) (r : FramerSt) : (s.setFramer k r).nvm = s.nvm := rfl
@[simp] theorem State.setFramer_stage (s : State) (k : Nat) (r : FramerSt) : (s.setFramer k r).stage = s.stage := rfl
@[simp] theorem State.setFramer_ucie (s : State) (k : Nat) (r : FramerSt) : (s.setFramer k r).ucie = s.ucie := rfl
@[simp] theorem State.setFramer_boot (s : State) (k : Nat) (r : FramerSt) : (s.setFramer k r).boot = s.boot := rfl
@[simp] theorem State.setFramer_life (s : State) (k : Nat) (r : FramerSt) : (s.setFramer k r).life = s.life := rfl
@[simp] theorem State.setFramer_snuffs (s : State) (k : Nat) (r : FramerSt) : (s.setFramer k r).snuffs = s.snuffs := rfl
@[simp] theorem State.setFramer_limits (s : State) (k : Nat) (r : FramerSt) : (s.setFramer k r).limits = s.limits := rfl
@[simp] theorem State.setFramer_lanes (s : State) (k : Nat) (r : FramerSt) : (s.setFramer k r).lanes = s.lanes := rfl
@[simp] theorem State.setFramer_cages (s : State) (k : Nat) (r : FramerSt) : (s.setFramer k r).cages = s.cages := rfl
@[simp] theorem State.setFramer_eqRuns (s : State) (k : Nat) (r : FramerSt) : (s.setFramer k r).eqRuns = s.eqRuns := rfl
@[simp] theorem State.setFramer_lineRun (s : State) (k : Nat) (r : FramerSt) : (s.setFramer k r).lineRun = s.lineRun := rfl
@[simp] theorem State.setFramer_gal (s : State) (k : Nat) (r : FramerSt) : (s.setFramer k r).gal = s.gal := rfl
@[simp] theorem State.setFramer_frags (s : State) (k : Nat) (r : FramerSt) : (s.setFramer k r).frags = s.frags := rfl
@[simp] theorem State.setFramer_tm (s : State) (k : Nat) (r : FramerSt) : (s.setFramer k r).tm = s.tm := rfl
@[simp] theorem State.setFramer_terms (s : State) (k : Nat) (r : FramerSt) : (s.setFramer k r).terms = s.terms := rfl
@[simp] theorem State.setFramer_acts (s : State) (k : Nat) (r : FramerSt) : (s.setFramer k r).acts = s.acts := rfl
@[simp] theorem State.setFramer_logEvents (s : State) (k : Nat) (r : FramerSt) : (s.setFramer k r).logEvents = s.logEvents := rfl
@[simp] theorem State.setFramer_grants (s : State) (k : Nat) (r : FramerSt) : (s.setFramer k r).grants = s.grants := rfl
@[simp] theorem State.setFramer_ciph (s : State) (k : Nat) (r : FramerSt) : (s.setFramer k r).ciph = s.ciph := rfl
@[simp] theorem State.setFramer_uplinks (s : State) (k : Nat) (r : FramerSt) : (s.setFramer k r).uplinks = s.uplinks := rfl
@[simp] theorem State.setFramer_psgs (s : State) (k : Nat) (r : FramerSt) : (s.setFramer k r).psgs = s.psgs := rfl
@[simp] theorem State.setFramer_casc (s : State) (k : Nat) (r : FramerSt) : (s.setFramer k r).casc = s.casc := rfl
@[simp] theorem State.setFramer_sent (s : State) (k : Nat) (r : FramerSt) : (s.setFramer k r).sent = s.sent := rfl
@[simp] theorem State.setFramer_fresh (s : State) (k : Nat) (r : FramerSt) : (s.setFramer k r).fresh = s.fresh := rfl

@[simp] theorem State.setTerm_pending (s : State) (k : Nat) (r : TermSt) : (s.setTerm k r).pending = s.pending := rfl
@[simp] theorem State.setTerm_objs (s : State) (k : Nat) (r : TermSt) : (s.setTerm k r).objs = s.objs := rfl
@[simp] theorem State.setTerm_regs (s : State) (k : Nat) (r : TermSt) : (s.setTerm k r).regs = s.regs := rfl
@[simp] theorem State.setTerm_latched (s : State) (k : Nat) (r : TermSt) : (s.setTerm k r).latched = s.latched := rfl
@[simp] theorem State.setTerm_clk (s : State) (k : Nat) (r : TermSt) : (s.setTerm k r).clk = s.clk := rfl
@[simp] theorem State.setTerm_lan (s : State) (k : Nat) (r : TermSt) : (s.setTerm k r).lan = s.lan := rfl
@[simp] theorem State.setTerm_nvm (s : State) (k : Nat) (r : TermSt) : (s.setTerm k r).nvm = s.nvm := rfl
@[simp] theorem State.setTerm_stage (s : State) (k : Nat) (r : TermSt) : (s.setTerm k r).stage = s.stage := rfl
@[simp] theorem State.setTerm_ucie (s : State) (k : Nat) (r : TermSt) : (s.setTerm k r).ucie = s.ucie := rfl
@[simp] theorem State.setTerm_boot (s : State) (k : Nat) (r : TermSt) : (s.setTerm k r).boot = s.boot := rfl
@[simp] theorem State.setTerm_life (s : State) (k : Nat) (r : TermSt) : (s.setTerm k r).life = s.life := rfl
@[simp] theorem State.setTerm_snuffs (s : State) (k : Nat) (r : TermSt) : (s.setTerm k r).snuffs = s.snuffs := rfl
@[simp] theorem State.setTerm_limits (s : State) (k : Nat) (r : TermSt) : (s.setTerm k r).limits = s.limits := rfl
@[simp] theorem State.setTerm_lanes (s : State) (k : Nat) (r : TermSt) : (s.setTerm k r).lanes = s.lanes := rfl
@[simp] theorem State.setTerm_cages (s : State) (k : Nat) (r : TermSt) : (s.setTerm k r).cages = s.cages := rfl
@[simp] theorem State.setTerm_eqRuns (s : State) (k : Nat) (r : TermSt) : (s.setTerm k r).eqRuns = s.eqRuns := rfl
@[simp] theorem State.setTerm_framers (s : State) (k : Nat) (r : TermSt) : (s.setTerm k r).framers = s.framers := rfl
@[simp] theorem State.setTerm_lineRun (s : State) (k : Nat) (r : TermSt) : (s.setTerm k r).lineRun = s.lineRun := rfl
@[simp] theorem State.setTerm_gal (s : State) (k : Nat) (r : TermSt) : (s.setTerm k r).gal = s.gal := rfl
@[simp] theorem State.setTerm_frags (s : State) (k : Nat) (r : TermSt) : (s.setTerm k r).frags = s.frags := rfl
@[simp] theorem State.setTerm_tm (s : State) (k : Nat) (r : TermSt) : (s.setTerm k r).tm = s.tm := rfl
@[simp] theorem State.setTerm_acts (s : State) (k : Nat) (r : TermSt) : (s.setTerm k r).acts = s.acts := rfl
@[simp] theorem State.setTerm_logEvents (s : State) (k : Nat) (r : TermSt) : (s.setTerm k r).logEvents = s.logEvents := rfl
@[simp] theorem State.setTerm_grants (s : State) (k : Nat) (r : TermSt) : (s.setTerm k r).grants = s.grants := rfl
@[simp] theorem State.setTerm_ciph (s : State) (k : Nat) (r : TermSt) : (s.setTerm k r).ciph = s.ciph := rfl
@[simp] theorem State.setTerm_uplinks (s : State) (k : Nat) (r : TermSt) : (s.setTerm k r).uplinks = s.uplinks := rfl
@[simp] theorem State.setTerm_psgs (s : State) (k : Nat) (r : TermSt) : (s.setTerm k r).psgs = s.psgs := rfl
@[simp] theorem State.setTerm_casc (s : State) (k : Nat) (r : TermSt) : (s.setTerm k r).casc = s.casc := rfl
@[simp] theorem State.setTerm_sent (s : State) (k : Nat) (r : TermSt) : (s.setTerm k r).sent = s.sent := rfl
@[simp] theorem State.setTerm_fresh (s : State) (k : Nat) (r : TermSt) : (s.setTerm k r).fresh = s.fresh := rfl

@[simp] theorem State.setAct_pending (s : State) (k : Nat) (r : ActSt) : (s.setAct k r).pending = s.pending := rfl
@[simp] theorem State.setAct_objs (s : State) (k : Nat) (r : ActSt) : (s.setAct k r).objs = s.objs := rfl
@[simp] theorem State.setAct_regs (s : State) (k : Nat) (r : ActSt) : (s.setAct k r).regs = s.regs := rfl
@[simp] theorem State.setAct_latched (s : State) (k : Nat) (r : ActSt) : (s.setAct k r).latched = s.latched := rfl
@[simp] theorem State.setAct_clk (s : State) (k : Nat) (r : ActSt) : (s.setAct k r).clk = s.clk := rfl
@[simp] theorem State.setAct_lan (s : State) (k : Nat) (r : ActSt) : (s.setAct k r).lan = s.lan := rfl
@[simp] theorem State.setAct_nvm (s : State) (k : Nat) (r : ActSt) : (s.setAct k r).nvm = s.nvm := rfl
@[simp] theorem State.setAct_stage (s : State) (k : Nat) (r : ActSt) : (s.setAct k r).stage = s.stage := rfl
@[simp] theorem State.setAct_ucie (s : State) (k : Nat) (r : ActSt) : (s.setAct k r).ucie = s.ucie := rfl
@[simp] theorem State.setAct_boot (s : State) (k : Nat) (r : ActSt) : (s.setAct k r).boot = s.boot := rfl
@[simp] theorem State.setAct_life (s : State) (k : Nat) (r : ActSt) : (s.setAct k r).life = s.life := rfl
@[simp] theorem State.setAct_snuffs (s : State) (k : Nat) (r : ActSt) : (s.setAct k r).snuffs = s.snuffs := rfl
@[simp] theorem State.setAct_limits (s : State) (k : Nat) (r : ActSt) : (s.setAct k r).limits = s.limits := rfl
@[simp] theorem State.setAct_lanes (s : State) (k : Nat) (r : ActSt) : (s.setAct k r).lanes = s.lanes := rfl
@[simp] theorem State.setAct_cages (s : State) (k : Nat) (r : ActSt) : (s.setAct k r).cages = s.cages := rfl
@[simp] theorem State.setAct_eqRuns (s : State) (k : Nat) (r : ActSt) : (s.setAct k r).eqRuns = s.eqRuns := rfl
@[simp] theorem State.setAct_framers (s : State) (k : Nat) (r : ActSt) : (s.setAct k r).framers = s.framers := rfl
@[simp] theorem State.setAct_lineRun (s : State) (k : Nat) (r : ActSt) : (s.setAct k r).lineRun = s.lineRun := rfl
@[simp] theorem State.setAct_gal (s : State) (k : Nat) (r : ActSt) : (s.setAct k r).gal = s.gal := rfl
@[simp] theorem State.setAct_frags (s : State) (k : Nat) (r : ActSt) : (s.setAct k r).frags = s.frags := rfl
@[simp] theorem State.setAct_tm (s : State) (k : Nat) (r : ActSt) : (s.setAct k r).tm = s.tm := rfl
@[simp] theorem State.setAct_terms (s : State) (k : Nat) (r : ActSt) : (s.setAct k r).terms = s.terms := rfl
@[simp] theorem State.setAct_logEvents (s : State) (k : Nat) (r : ActSt) : (s.setAct k r).logEvents = s.logEvents := rfl
@[simp] theorem State.setAct_grants (s : State) (k : Nat) (r : ActSt) : (s.setAct k r).grants = s.grants := rfl
@[simp] theorem State.setAct_ciph (s : State) (k : Nat) (r : ActSt) : (s.setAct k r).ciph = s.ciph := rfl
@[simp] theorem State.setAct_uplinks (s : State) (k : Nat) (r : ActSt) : (s.setAct k r).uplinks = s.uplinks := rfl
@[simp] theorem State.setAct_psgs (s : State) (k : Nat) (r : ActSt) : (s.setAct k r).psgs = s.psgs := rfl
@[simp] theorem State.setAct_casc (s : State) (k : Nat) (r : ActSt) : (s.setAct k r).casc = s.casc := rfl
@[simp] theorem State.setAct_sent (s : State) (k : Nat) (r : ActSt) : (s.setAct k r).sent = s.sent := rfl
@[simp] theorem State.setAct_fresh (s : State) (k : Nat) (r : ActSt) : (s.setAct k r).fresh = s.fresh := rfl

@[simp] theorem State.setUpl_pending (s : State) (k : Nat) (r : UplinkSt) : (s.setUpl k r).pending = s.pending := rfl
@[simp] theorem State.setUpl_objs (s : State) (k : Nat) (r : UplinkSt) : (s.setUpl k r).objs = s.objs := rfl
@[simp] theorem State.setUpl_regs (s : State) (k : Nat) (r : UplinkSt) : (s.setUpl k r).regs = s.regs := rfl
@[simp] theorem State.setUpl_latched (s : State) (k : Nat) (r : UplinkSt) : (s.setUpl k r).latched = s.latched := rfl
@[simp] theorem State.setUpl_clk (s : State) (k : Nat) (r : UplinkSt) : (s.setUpl k r).clk = s.clk := rfl
@[simp] theorem State.setUpl_lan (s : State) (k : Nat) (r : UplinkSt) : (s.setUpl k r).lan = s.lan := rfl
@[simp] theorem State.setUpl_nvm (s : State) (k : Nat) (r : UplinkSt) : (s.setUpl k r).nvm = s.nvm := rfl
@[simp] theorem State.setUpl_stage (s : State) (k : Nat) (r : UplinkSt) : (s.setUpl k r).stage = s.stage := rfl
@[simp] theorem State.setUpl_ucie (s : State) (k : Nat) (r : UplinkSt) : (s.setUpl k r).ucie = s.ucie := rfl
@[simp] theorem State.setUpl_boot (s : State) (k : Nat) (r : UplinkSt) : (s.setUpl k r).boot = s.boot := rfl
@[simp] theorem State.setUpl_life (s : State) (k : Nat) (r : UplinkSt) : (s.setUpl k r).life = s.life := rfl
@[simp] theorem State.setUpl_snuffs (s : State) (k : Nat) (r : UplinkSt) : (s.setUpl k r).snuffs = s.snuffs := rfl
@[simp] theorem State.setUpl_limits (s : State) (k : Nat) (r : UplinkSt) : (s.setUpl k r).limits = s.limits := rfl
@[simp] theorem State.setUpl_lanes (s : State) (k : Nat) (r : UplinkSt) : (s.setUpl k r).lanes = s.lanes := rfl
@[simp] theorem State.setUpl_cages (s : State) (k : Nat) (r : UplinkSt) : (s.setUpl k r).cages = s.cages := rfl
@[simp] theorem State.setUpl_eqRuns (s : State) (k : Nat) (r : UplinkSt) : (s.setUpl k r).eqRuns = s.eqRuns := rfl
@[simp] theorem State.setUpl_framers (s : State) (k : Nat) (r : UplinkSt) : (s.setUpl k r).framers = s.framers := rfl
@[simp] theorem State.setUpl_lineRun (s : State) (k : Nat) (r : UplinkSt) : (s.setUpl k r).lineRun = s.lineRun := rfl
@[simp] theorem State.setUpl_gal (s : State) (k : Nat) (r : UplinkSt) : (s.setUpl k r).gal = s.gal := rfl
@[simp] theorem State.setUpl_frags (s : State) (k : Nat) (r : UplinkSt) : (s.setUpl k r).frags = s.frags := rfl
@[simp] theorem State.setUpl_tm (s : State) (k : Nat) (r : UplinkSt) : (s.setUpl k r).tm = s.tm := rfl
@[simp] theorem State.setUpl_terms (s : State) (k : Nat) (r : UplinkSt) : (s.setUpl k r).terms = s.terms := rfl
@[simp] theorem State.setUpl_acts (s : State) (k : Nat) (r : UplinkSt) : (s.setUpl k r).acts = s.acts := rfl
@[simp] theorem State.setUpl_logEvents (s : State) (k : Nat) (r : UplinkSt) : (s.setUpl k r).logEvents = s.logEvents := rfl
@[simp] theorem State.setUpl_grants (s : State) (k : Nat) (r : UplinkSt) : (s.setUpl k r).grants = s.grants := rfl
@[simp] theorem State.setUpl_ciph (s : State) (k : Nat) (r : UplinkSt) : (s.setUpl k r).ciph = s.ciph := rfl
@[simp] theorem State.setUpl_psgs (s : State) (k : Nat) (r : UplinkSt) : (s.setUpl k r).psgs = s.psgs := rfl
@[simp] theorem State.setUpl_casc (s : State) (k : Nat) (r : UplinkSt) : (s.setUpl k r).casc = s.casc := rfl
@[simp] theorem State.setUpl_sent (s : State) (k : Nat) (r : UplinkSt) : (s.setUpl k r).sent = s.sent := rfl
@[simp] theorem State.setUpl_fresh (s : State) (k : Nat) (r : UplinkSt) : (s.setUpl k r).fresh = s.fresh := rfl

@[simp] theorem State.setPsg_pending (s : State) (k : Nat) (r : PsgSt) : (s.setPsg k r).pending = s.pending := rfl
@[simp] theorem State.setPsg_objs (s : State) (k : Nat) (r : PsgSt) : (s.setPsg k r).objs = s.objs := rfl
@[simp] theorem State.setPsg_regs (s : State) (k : Nat) (r : PsgSt) : (s.setPsg k r).regs = s.regs := rfl
@[simp] theorem State.setPsg_latched (s : State) (k : Nat) (r : PsgSt) : (s.setPsg k r).latched = s.latched := rfl
@[simp] theorem State.setPsg_clk (s : State) (k : Nat) (r : PsgSt) : (s.setPsg k r).clk = s.clk := rfl
@[simp] theorem State.setPsg_lan (s : State) (k : Nat) (r : PsgSt) : (s.setPsg k r).lan = s.lan := rfl
@[simp] theorem State.setPsg_nvm (s : State) (k : Nat) (r : PsgSt) : (s.setPsg k r).nvm = s.nvm := rfl
@[simp] theorem State.setPsg_stage (s : State) (k : Nat) (r : PsgSt) : (s.setPsg k r).stage = s.stage := rfl
@[simp] theorem State.setPsg_ucie (s : State) (k : Nat) (r : PsgSt) : (s.setPsg k r).ucie = s.ucie := rfl
@[simp] theorem State.setPsg_boot (s : State) (k : Nat) (r : PsgSt) : (s.setPsg k r).boot = s.boot := rfl
@[simp] theorem State.setPsg_life (s : State) (k : Nat) (r : PsgSt) : (s.setPsg k r).life = s.life := rfl
@[simp] theorem State.setPsg_snuffs (s : State) (k : Nat) (r : PsgSt) : (s.setPsg k r).snuffs = s.snuffs := rfl
@[simp] theorem State.setPsg_limits (s : State) (k : Nat) (r : PsgSt) : (s.setPsg k r).limits = s.limits := rfl
@[simp] theorem State.setPsg_lanes (s : State) (k : Nat) (r : PsgSt) : (s.setPsg k r).lanes = s.lanes := rfl
@[simp] theorem State.setPsg_cages (s : State) (k : Nat) (r : PsgSt) : (s.setPsg k r).cages = s.cages := rfl
@[simp] theorem State.setPsg_eqRuns (s : State) (k : Nat) (r : PsgSt) : (s.setPsg k r).eqRuns = s.eqRuns := rfl
@[simp] theorem State.setPsg_framers (s : State) (k : Nat) (r : PsgSt) : (s.setPsg k r).framers = s.framers := rfl
@[simp] theorem State.setPsg_lineRun (s : State) (k : Nat) (r : PsgSt) : (s.setPsg k r).lineRun = s.lineRun := rfl
@[simp] theorem State.setPsg_gal (s : State) (k : Nat) (r : PsgSt) : (s.setPsg k r).gal = s.gal := rfl
@[simp] theorem State.setPsg_frags (s : State) (k : Nat) (r : PsgSt) : (s.setPsg k r).frags = s.frags := rfl
@[simp] theorem State.setPsg_tm (s : State) (k : Nat) (r : PsgSt) : (s.setPsg k r).tm = s.tm := rfl
@[simp] theorem State.setPsg_terms (s : State) (k : Nat) (r : PsgSt) : (s.setPsg k r).terms = s.terms := rfl
@[simp] theorem State.setPsg_acts (s : State) (k : Nat) (r : PsgSt) : (s.setPsg k r).acts = s.acts := rfl
@[simp] theorem State.setPsg_logEvents (s : State) (k : Nat) (r : PsgSt) : (s.setPsg k r).logEvents = s.logEvents := rfl
@[simp] theorem State.setPsg_grants (s : State) (k : Nat) (r : PsgSt) : (s.setPsg k r).grants = s.grants := rfl
@[simp] theorem State.setPsg_ciph (s : State) (k : Nat) (r : PsgSt) : (s.setPsg k r).ciph = s.ciph := rfl
@[simp] theorem State.setPsg_uplinks (s : State) (k : Nat) (r : PsgSt) : (s.setPsg k r).uplinks = s.uplinks := rfl
@[simp] theorem State.setPsg_casc (s : State) (k : Nat) (r : PsgSt) : (s.setPsg k r).casc = s.casc := rfl
@[simp] theorem State.setPsg_sent (s : State) (k : Nat) (r : PsgSt) : (s.setPsg k r).sent = s.sent := rfl
@[simp] theorem State.setPsg_fresh (s : State) (k : Nat) (r : PsgSt) : (s.setPsg k r).fresh = s.fresh := rfl

@[simp] theorem State.setEqRun_pending (s : State) (t k v : Nat) : (s.setEqRun t k v).pending = s.pending := rfl
@[simp] theorem State.setEqRun_objs (s : State) (t k v : Nat) : (s.setEqRun t k v).objs = s.objs := rfl
@[simp] theorem State.setEqRun_regs (s : State) (t k v : Nat) : (s.setEqRun t k v).regs = s.regs := rfl
@[simp] theorem State.setEqRun_latched (s : State) (t k v : Nat) : (s.setEqRun t k v).latched = s.latched := rfl
@[simp] theorem State.setEqRun_clk (s : State) (t k v : Nat) : (s.setEqRun t k v).clk = s.clk := rfl
@[simp] theorem State.setEqRun_lan (s : State) (t k v : Nat) : (s.setEqRun t k v).lan = s.lan := rfl
@[simp] theorem State.setEqRun_nvm (s : State) (t k v : Nat) : (s.setEqRun t k v).nvm = s.nvm := rfl
@[simp] theorem State.setEqRun_stage (s : State) (t k v : Nat) : (s.setEqRun t k v).stage = s.stage := rfl
@[simp] theorem State.setEqRun_ucie (s : State) (t k v : Nat) : (s.setEqRun t k v).ucie = s.ucie := rfl
@[simp] theorem State.setEqRun_boot (s : State) (t k v : Nat) : (s.setEqRun t k v).boot = s.boot := rfl
@[simp] theorem State.setEqRun_life (s : State) (t k v : Nat) : (s.setEqRun t k v).life = s.life := rfl
@[simp] theorem State.setEqRun_snuffs (s : State) (t k v : Nat) : (s.setEqRun t k v).snuffs = s.snuffs := rfl
@[simp] theorem State.setEqRun_limits (s : State) (t k v : Nat) : (s.setEqRun t k v).limits = s.limits := rfl
@[simp] theorem State.setEqRun_lanes (s : State) (t k v : Nat) : (s.setEqRun t k v).lanes = s.lanes := rfl
@[simp] theorem State.setEqRun_cages (s : State) (t k v : Nat) : (s.setEqRun t k v).cages = s.cages := rfl
@[simp] theorem State.setEqRun_framers (s : State) (t k v : Nat) : (s.setEqRun t k v).framers = s.framers := rfl
@[simp] theorem State.setEqRun_lineRun (s : State) (t k v : Nat) : (s.setEqRun t k v).lineRun = s.lineRun := rfl
@[simp] theorem State.setEqRun_gal (s : State) (t k v : Nat) : (s.setEqRun t k v).gal = s.gal := rfl
@[simp] theorem State.setEqRun_frags (s : State) (t k v : Nat) : (s.setEqRun t k v).frags = s.frags := rfl
@[simp] theorem State.setEqRun_tm (s : State) (t k v : Nat) : (s.setEqRun t k v).tm = s.tm := rfl
@[simp] theorem State.setEqRun_terms (s : State) (t k v : Nat) : (s.setEqRun t k v).terms = s.terms := rfl
@[simp] theorem State.setEqRun_acts (s : State) (t k v : Nat) : (s.setEqRun t k v).acts = s.acts := rfl
@[simp] theorem State.setEqRun_logEvents (s : State) (t k v : Nat) : (s.setEqRun t k v).logEvents = s.logEvents := rfl
@[simp] theorem State.setEqRun_grants (s : State) (t k v : Nat) : (s.setEqRun t k v).grants = s.grants := rfl
@[simp] theorem State.setEqRun_ciph (s : State) (t k v : Nat) : (s.setEqRun t k v).ciph = s.ciph := rfl
@[simp] theorem State.setEqRun_uplinks (s : State) (t k v : Nat) : (s.setEqRun t k v).uplinks = s.uplinks := rfl
@[simp] theorem State.setEqRun_psgs (s : State) (t k v : Nat) : (s.setEqRun t k v).psgs = s.psgs := rfl
@[simp] theorem State.setEqRun_casc (s : State) (t k v : Nat) : (s.setEqRun t k v).casc = s.casc := rfl
@[simp] theorem State.setEqRun_sent (s : State) (t k v : Nat) : (s.setEqRun t k v).sent = s.sent := rfl
@[simp] theorem State.setEqRun_fresh (s : State) (t k v : Nat) : (s.setEqRun t k v).fresh = s.fresh := rfl

@[simp] theorem State.setSnuff_pending (s : State) (k : ResKind) (i : Nat) (r : SnuffRec) : (s.setSnuff k i r).pending = s.pending := rfl
@[simp] theorem State.setSnuff_objs (s : State) (k : ResKind) (i : Nat) (r : SnuffRec) : (s.setSnuff k i r).objs = s.objs := rfl
@[simp] theorem State.setSnuff_regs (s : State) (k : ResKind) (i : Nat) (r : SnuffRec) : (s.setSnuff k i r).regs = s.regs := rfl
@[simp] theorem State.setSnuff_latched (s : State) (k : ResKind) (i : Nat) (r : SnuffRec) : (s.setSnuff k i r).latched = s.latched := rfl
@[simp] theorem State.setSnuff_clk (s : State) (k : ResKind) (i : Nat) (r : SnuffRec) : (s.setSnuff k i r).clk = s.clk := rfl
@[simp] theorem State.setSnuff_lan (s : State) (k : ResKind) (i : Nat) (r : SnuffRec) : (s.setSnuff k i r).lan = s.lan := rfl
@[simp] theorem State.setSnuff_nvm (s : State) (k : ResKind) (i : Nat) (r : SnuffRec) : (s.setSnuff k i r).nvm = s.nvm := rfl
@[simp] theorem State.setSnuff_stage (s : State) (k : ResKind) (i : Nat) (r : SnuffRec) : (s.setSnuff k i r).stage = s.stage := rfl
@[simp] theorem State.setSnuff_ucie (s : State) (k : ResKind) (i : Nat) (r : SnuffRec) : (s.setSnuff k i r).ucie = s.ucie := rfl
@[simp] theorem State.setSnuff_boot (s : State) (k : ResKind) (i : Nat) (r : SnuffRec) : (s.setSnuff k i r).boot = s.boot := rfl
@[simp] theorem State.setSnuff_life (s : State) (k : ResKind) (i : Nat) (r : SnuffRec) : (s.setSnuff k i r).life = s.life := rfl
@[simp] theorem State.setSnuff_limits (s : State) (k : ResKind) (i : Nat) (r : SnuffRec) : (s.setSnuff k i r).limits = s.limits := rfl
@[simp] theorem State.setSnuff_lanes (s : State) (k : ResKind) (i : Nat) (r : SnuffRec) : (s.setSnuff k i r).lanes = s.lanes := rfl
@[simp] theorem State.setSnuff_cages (s : State) (k : ResKind) (i : Nat) (r : SnuffRec) : (s.setSnuff k i r).cages = s.cages := rfl
@[simp] theorem State.setSnuff_eqRuns (s : State) (k : ResKind) (i : Nat) (r : SnuffRec) : (s.setSnuff k i r).eqRuns = s.eqRuns := rfl
@[simp] theorem State.setSnuff_framers (s : State) (k : ResKind) (i : Nat) (r : SnuffRec) : (s.setSnuff k i r).framers = s.framers := rfl
@[simp] theorem State.setSnuff_lineRun (s : State) (k : ResKind) (i : Nat) (r : SnuffRec) : (s.setSnuff k i r).lineRun = s.lineRun := rfl
@[simp] theorem State.setSnuff_gal (s : State) (k : ResKind) (i : Nat) (r : SnuffRec) : (s.setSnuff k i r).gal = s.gal := rfl
@[simp] theorem State.setSnuff_frags (s : State) (k : ResKind) (i : Nat) (r : SnuffRec) : (s.setSnuff k i r).frags = s.frags := rfl
@[simp] theorem State.setSnuff_tm (s : State) (k : ResKind) (i : Nat) (r : SnuffRec) : (s.setSnuff k i r).tm = s.tm := rfl
@[simp] theorem State.setSnuff_terms (s : State) (k : ResKind) (i : Nat) (r : SnuffRec) : (s.setSnuff k i r).terms = s.terms := rfl
@[simp] theorem State.setSnuff_acts (s : State) (k : ResKind) (i : Nat) (r : SnuffRec) : (s.setSnuff k i r).acts = s.acts := rfl
@[simp] theorem State.setSnuff_logEvents (s : State) (k : ResKind) (i : Nat) (r : SnuffRec) : (s.setSnuff k i r).logEvents = s.logEvents := rfl
@[simp] theorem State.setSnuff_grants (s : State) (k : ResKind) (i : Nat) (r : SnuffRec) : (s.setSnuff k i r).grants = s.grants := rfl
@[simp] theorem State.setSnuff_ciph (s : State) (k : ResKind) (i : Nat) (r : SnuffRec) : (s.setSnuff k i r).ciph = s.ciph := rfl
@[simp] theorem State.setSnuff_uplinks (s : State) (k : ResKind) (i : Nat) (r : SnuffRec) : (s.setSnuff k i r).uplinks = s.uplinks := rfl
@[simp] theorem State.setSnuff_psgs (s : State) (k : ResKind) (i : Nat) (r : SnuffRec) : (s.setSnuff k i r).psgs = s.psgs := rfl
@[simp] theorem State.setSnuff_casc (s : State) (k : ResKind) (i : Nat) (r : SnuffRec) : (s.setSnuff k i r).casc = s.casc := rfl
@[simp] theorem State.setSnuff_sent (s : State) (k : ResKind) (i : Nat) (r : SnuffRec) : (s.setSnuff k i r).sent = s.sent := rfl
@[simp] theorem State.setSnuff_fresh (s : State) (k : ResKind) (i : Nat) (r : SnuffRec) : (s.setSnuff k i r).fresh = s.fresh := rfl

@[simp] theorem State.emit_sent (s : State) (o : Out) : (s.emit o).sent = s.sent ++ [o] := rfl
@[simp] theorem State.setMaster_lan (s : State) (m : Master) (r : MasterSt) :
    (s.setMaster m r).lan = { s.lan with masters := s.lan.masters.set m r } := rfl

@[simp] theorem State.setLane_lanes (s : State) (k : Nat) (r : LaneSt) :
    (s.setLane k r).lanes = tabPut (fun _ => LaneSt.idle) s.lanes k r := rfl
@[simp] theorem State.setCage_cages (s : State) (k : Nat) (r : CageSt) :
    (s.setCage k r).cages = tabPut (fun _ => CageSt.idle) s.cages k r := rfl
@[simp] theorem State.setFramer_framers (s : State) (k : Nat) (r : FramerSt) :
    (s.setFramer k r).framers = tabPut (fun _ => FramerSt.idle) s.framers k r := rfl
@[simp] theorem State.setTerm_terms (s : State) (k : Nat) (r : TermSt) :
    (s.setTerm k r).terms = tabPut (fun _ => TermSt.idle) s.terms k r := rfl
@[simp] theorem State.setAct_acts (s : State) (k : Nat) (r : ActSt) :
    (s.setAct k r).acts = tabPut (fun _ => ActSt.idle) s.acts k r := rfl
@[simp] theorem State.setUpl_uplinks (s : State) (k : Nat) (r : UplinkSt) :
    (s.setUpl k r).uplinks = tabPut (fun _ => UplinkSt.idle) s.uplinks k r := rfl
@[simp] theorem State.setPsg_psgs (s : State) (k : Nat) (r : PsgSt) :
    (s.setPsg k r).psgs = tabPut (fun _ => PsgSt.idle) s.psgs k r := rfl
@[simp] theorem State.setEqRun_eqRuns (s : State) (t k v : Nat) :
    (s.setEqRun t k v).eqRuns = tabPut (fun _ => 0) s.eqRuns (2 * t + k) v := rfl

/-! ### Derived updates -/

@[simp] theorem State.put_eq (s : State) (o : Obj) (i v : Nat) : s.put o i v = s.putVal o i (.num v) := rfl
@[simp] theorem State.puti_eq (s : State) (o : Obj) (i : Nat) (v : Int) : s.puti o i v = s.putVal o i (.num v) := rfl
@[simp] theorem State.putOct_eq (s : State) (o : Obj) (i : Nat) (bs : List Byte) : s.putOct o i bs = s.putVal o i (.oct bs) := rfl
@[simp] theorem State.bumpReg_eq (s : State) (a k : Nat) : s.bumpReg a k = s.putReg a (min 4294967295 (s.reg a + k)) := rfl

/-! ### Objects -/

theorem State.val_of_objs {s t : State} (h : t.objs = s.objs) (o : Obj) (i : Nat) : t.val o i = s.val o i := by
  unfold State.val; rw [h]

/-- The value just written. -/
@[simp] theorem State.val_putVal_self (s : State) (o : Obj) (i : Nat) (v : Val) : (s.putVal o i v).val o i = v :=
  tabGet_put_self _ _ _ _

/-- Another key. -/
theorem State.val_putVal_key (s : State) (o p : Obj) (i j : Nat) (v : Val) (h : p.key j ≠ o.key i) :
    (s.putVal o i v).val p j = s.val p j :=
  tabGet_put_other (fun _ => o.info.dflt i) (fun _ => p.info.dflt j) s.objs v h

/-- Another instance. -/
theorem State.val_putVal_inst (s : State) (o : Obj) {i j : Nat} (v : Val) (h : j ≠ i) :
    (s.putVal o i v).val o j = s.val o j := by
  apply State.val_putVal_key; unfold Obj.key; omega

/-- Another object; instances are below 2^24. -/
theorem State.val_putVal_obj (s : State) {o p : Obj} {i j : Nat} (v : Val) (h : p.code ≠ o.code) (hi : i < 16777216)
    (hj : j < 16777216) : (s.putVal o i v).val p j = s.val p j := by
  apply State.val_putVal_key; unfold Obj.key; omega

theorem State.num_of_val {s t : State} {o : Obj} {i : Nat} (h : t.val o i = s.val o i) : t.num o i = s.num o i := by
  unfold State.num; rw [h]
theorem State.n_of_val {s t : State} {o : Obj} {i : Nat} (h : t.val o i = s.val o i) : t.n o i = s.n o i := by
  unfold State.n; rw [State.num_of_val h]
theorem State.on_of_val {s t : State} {o : Obj} {i : Nat} (h : t.val o i = s.val o i) : t.on o i = s.on o i := by
  unfold State.on; rw [State.num_of_val h]
theorem State.oct_of_val {s t : State} {o : Obj} {i : Nat} (h : t.val o i = s.val o i) : t.oct o i = s.oct o i := by
  unfold State.oct; rw [h]

@[simp] theorem State.num_putVal_self (s : State) (o : Obj) (i : Nat) (v : Int) : (s.putVal o i (.num v)).num o i = v := by
  simp [State.num]
@[simp] theorem State.n_putVal_self (s : State) (o : Obj) (i : Nat) (v : Int) : (s.putVal o i (.num v)).n o i = v.toNat := by
  simp [State.n]
@[simp] theorem State.on_putVal_self (s : State) (o : Obj) (i : Nat) (v : Int) :
    (s.putVal o i (.num v)).on o i = (v != 0) := by
  simp [State.on]
@[simp] theorem State.oct_putVal_self (s : State) (o : Obj) (i : Nat) (bs : List Byte) :
    (s.putVal o i (.oct bs)).oct o i = bs := by
  simp [State.oct]

/-! ### Registers -/

theorem State.reg_of_regs {s t : State} (h : t.regs = s.regs) (a : Nat) : t.reg a = s.reg a := by
  unfold State.reg; rw [h]

@[simp] theorem State.reg_putReg_self (s : State) (a v : Nat) : (s.putReg a v).reg a = v % 4294967296 :=
  tabGet_put_self _ _ _ _

theorem State.reg_putReg_other (s : State) {a b : Nat} (v : Nat) (h : b ≠ a) : (s.putReg a v).reg b = s.reg b :=
  tabGet_put_other _ _ _ _ h

theorem State.reg_setBit_other (s : State) {a c : Nat} (k : Nat) (b : Bool) (h : c ≠ a) : (s.setBit a k b).reg c = s.reg c :=
  State.reg_putReg_other s _ h

theorem State.reg_setField_other (s : State) {a c : Nat} (hi lo v : Nat) (h : c ≠ a) :
    (s.setField a hi lo v).reg c = s.reg c := State.reg_putReg_other s _ h

/-! ### Reads through updates of other fields -/

@[simp] theorem State.putVal_reg (s : State) (o' : Obj) (i : Nat) (v : Val) (x : Nat) : (s.putVal o' i v).reg x = s.reg x := rfl
@[simp] theorem State.putVal_bit (s : State) (o' : Obj) (i : Nat) (v : Val) (x y : Nat) : (s.putVal o' i v).bit x y = s.bit x y := rfl
@[simp] theorem State.putVal_now (s : State) (o' : Obj) (i : Nat) (v : Val) : (s.putVal o' i v).now = s.now := rfl
@[simp] theorem State.putVal_wick (s : State) (o' : Obj) (i : Nat) (v : Val) : (s.putVal o' i v).wick = s.wick := rfl

@[simp] theorem State.putReg_val (s : State) (a v : Nat) (o : Obj) (j : Nat) : (s.putReg a v).val o j = s.val o j := rfl
@[simp] theorem State.putReg_num (s : State) (a v : Nat) (o : Obj) (j : Nat) : (s.putReg a v).num o j = s.num o j := rfl
@[simp] theorem State.putReg_n (s : State) (a v : Nat) (o : Obj) (j : Nat) : (s.putReg a v).n o j = s.n o j := rfl
@[simp] theorem State.putReg_on (s : State) (a v : Nat) (o : Obj) (j : Nat) : (s.putReg a v).on o j = s.on o j := rfl
@[simp] theorem State.putReg_oct (s : State) (a v : Nat) (o : Obj) (j : Nat) : (s.putReg a v).oct o j = s.oct o j := rfl
@[simp] theorem State.putReg_now (s : State) (a v : Nat) : (s.putReg a v).now = s.now := rfl
@[simp] theorem State.putReg_wick (s : State) (a v : Nat) : (s.putReg a v).wick = s.wick := rfl

@[simp] theorem State.setBit_val (s : State) (a k : Nat) (x : Bool) (o : Obj) (j : Nat) : (s.setBit a k x).val o j = s.val o j := rfl
@[simp] theorem State.setBit_num (s : State) (a k : Nat) (x : Bool) (o : Obj) (j : Nat) : (s.setBit a k x).num o j = s.num o j := rfl
@[simp] theorem State.setBit_n (s : State) (a k : Nat) (x : Bool) (o : Obj) (j : Nat) : (s.setBit a k x).n o j = s.n o j := rfl
@[simp] theorem State.setBit_on (s : State) (a k : Nat) (x : Bool) (o : Obj) (j : Nat) : (s.setBit a k x).on o j = s.on o j := rfl
@[simp] theorem State.setBit_oct (s : State) (a k : Nat) (x : Bool) (o : Obj) (j : Nat) : (s.setBit a k x).oct o j = s.oct o j := rfl
@[simp] theorem State.setBit_now (s : State) (a k : Nat) (x : Bool) : (s.setBit a k x).now = s.now := rfl
@[simp] theorem State.setBit_wick (s : State) (a k : Nat) (x : Bool) : (s.setBit a k x).wick = s.wick := rfl

@[simp] theorem State.setField_val (s : State) (a hi lo v : Nat) (o : Obj) (j : Nat) : (s.setField a hi lo v).val o j = s.val o j := rfl
@[simp] theorem State.setField_num (s : State) (a hi lo v : Nat) (o : Obj) (j : Nat) : (s.setField a hi lo v).num o j = s.num o j := rfl
@[simp] theorem State.setField_n (s : State) (a hi lo v : Nat) (o : Obj) (j : Nat) : (s.setField a hi lo v).n o j = s.n o j := rfl
@[simp] theorem State.setField_on (s : State) (a hi lo v : Nat) (o : Obj) (j : Nat) : (s.setField a hi lo v).on o j = s.on o j := rfl
@[simp] theorem State.setField_oct (s : State) (a hi lo v : Nat) (o : Obj) (j : Nat) : (s.setField a hi lo v).oct o j = s.oct o j := rfl
@[simp] theorem State.setField_now (s : State) (a hi lo v : Nat) : (s.setField a hi lo v).now = s.now := rfl
@[simp] theorem State.setField_wick (s : State) (a hi lo v : Nat) : (s.setField a hi lo v).wick = s.wick := rfl

@[simp] theorem State.limitTake_val (s : State) (k : Nat) (o : Obj) (j : Nat) : (s.limitTake k).val o j = s.val o j := rfl
@[simp] theorem State.limitTake_num (s : State) (k : Nat) (o : Obj) (j : Nat) : (s.limitTake k).num o j = s.num o j := rfl
@[simp] theorem State.limitTake_n (s : State) (k : Nat) (o : Obj) (j : Nat) : (s.limitTake k).n o j = s.n o j := rfl
@[simp] theorem State.limitTake_on (s : State) (k : Nat) (o : Obj) (j : Nat) : (s.limitTake k).on o j = s.on o j := rfl
@[simp] theorem State.limitTake_oct (s : State) (k : Nat) (o : Obj) (j : Nat) : (s.limitTake k).oct o j = s.oct o j := rfl
@[simp] theorem State.limitTake_reg (s : State) (k : Nat) (x : Nat) : (s.limitTake k).reg x = s.reg x := rfl
@[simp] theorem State.limitTake_bit (s : State) (k : Nat) (x y : Nat) : (s.limitTake k).bit x y = s.bit x y := rfl
@[simp] theorem State.limitTake_now (s : State) (k : Nat) : (s.limitTake k).now = s.now := rfl
@[simp] theorem State.limitTake_wick (s : State) (k : Nat) : (s.limitTake k).wick = s.wick := rfl

@[simp] theorem State.setMaster_val (s : State) (m : Master) (r : MasterSt) (o : Obj) (j : Nat) : (s.setMaster m r).val o j = s.val o j := rfl
@[simp] theorem State.setMaster_num (s : State) (m : Master) (r : MasterSt) (o : Obj) (j : Nat) : (s.setMaster m r).num o j = s.num o j := rfl
@[simp] theorem State.setMaster_n (s : State) (m : Master) (r : MasterSt) (o : Obj) (j : Nat) : (s.setMaster m r).n o j = s.n o j := rfl
@[simp] theorem State.setMaster_on (s : State) (m : Master) (r : MasterSt) (o : Obj) (j : Nat) : (s.setMaster m r).on o j = s.on o j := rfl
@[simp] theorem State.setMaster_oct (s : State) (m : Master) (r : MasterSt) (o : Obj) (j : Nat) : (s.setMaster m r).oct o j = s.oct o j := rfl
@[simp] theorem State.setMaster_reg (s : State) (m : Master) (r : MasterSt) (x : Nat) : (s.setMaster m r).reg x = s.reg x := rfl
@[simp] theorem State.setMaster_bit (s : State) (m : Master) (r : MasterSt) (x y : Nat) : (s.setMaster m r).bit x y = s.bit x y := rfl
@[simp] theorem State.setMaster_now (s : State) (m : Master) (r : MasterSt) : (s.setMaster m r).now = s.now := rfl
@[simp] theorem State.setMaster_wick (s : State) (m : Master) (r : MasterSt) : (s.setMaster m r).wick = s.wick := rfl

@[simp] theorem State.emit_val (s : State) (o' : Out) (o : Obj) (j : Nat) : (s.emit o').val o j = s.val o j := rfl
@[simp] theorem State.emit_num (s : State) (o' : Out) (o : Obj) (j : Nat) : (s.emit o').num o j = s.num o j := rfl
@[simp] theorem State.emit_n (s : State) (o' : Out) (o : Obj) (j : Nat) : (s.emit o').n o j = s.n o j := rfl
@[simp] theorem State.emit_on (s : State) (o' : Out) (o : Obj) (j : Nat) : (s.emit o').on o j = s.on o j := rfl
@[simp] theorem State.emit_oct (s : State) (o' : Out) (o : Obj) (j : Nat) : (s.emit o').oct o j = s.oct o j := rfl
@[simp] theorem State.emit_reg (s : State) (o' : Out) (x : Nat) : (s.emit o').reg x = s.reg x := rfl
@[simp] theorem State.emit_bit (s : State) (o' : Out) (x y : Nat) : (s.emit o').bit x y = s.bit x y := rfl
@[simp] theorem State.emit_now (s : State) (o' : Out) : (s.emit o').now = s.now := rfl
@[simp] theorem State.emit_wick (s : State) (o' : Out) : (s.emit o').wick = s.wick := rfl

@[simp] theorem State.setClk_val (s : State) (f : ClockSt → ClockSt) (o : Obj) (j : Nat) : (s.setClk f).val o j = s.val o j := rfl
@[simp] theorem State.setClk_num (s : State) (f : ClockSt → ClockSt) (o : Obj) (j : Nat) : (s.setClk f).num o j = s.num o j := rfl
@[simp] theorem State.setClk_n (s : State) (f : ClockSt → ClockSt) (o : Obj) (j : Nat) : (s.setClk f).n o j = s.n o j := rfl
@[simp] theorem State.setClk_on (s : State) (f : ClockSt → ClockSt) (o : Obj) (j : Nat) : (s.setClk f).on o j = s.on o j := rfl
@[simp] theorem State.setClk_oct (s : State) (f : ClockSt → ClockSt) (o : Obj) (j : Nat) : (s.setClk f).oct o j = s.oct o j := rfl
@[simp] theorem State.setClk_reg (s : State) (f : ClockSt → ClockSt) (x : Nat) : (s.setClk f).reg x = s.reg x := rfl
@[simp] theorem State.setClk_bit (s : State) (f : ClockSt → ClockSt) (x y : Nat) : (s.setClk f).bit x y = s.bit x y := rfl

@[simp] theorem State.setLan_val (s : State) (f : LanternSt → LanternSt) (o : Obj) (j : Nat) : (s.setLan f).val o j = s.val o j := rfl
@[simp] theorem State.setLan_num (s : State) (f : LanternSt → LanternSt) (o : Obj) (j : Nat) : (s.setLan f).num o j = s.num o j := rfl
@[simp] theorem State.setLan_n (s : State) (f : LanternSt → LanternSt) (o : Obj) (j : Nat) : (s.setLan f).n o j = s.n o j := rfl
@[simp] theorem State.setLan_on (s : State) (f : LanternSt → LanternSt) (o : Obj) (j : Nat) : (s.setLan f).on o j = s.on o j := rfl
@[simp] theorem State.setLan_oct (s : State) (f : LanternSt → LanternSt) (o : Obj) (j : Nat) : (s.setLan f).oct o j = s.oct o j := rfl
@[simp] theorem State.setLan_reg (s : State) (f : LanternSt → LanternSt) (x : Nat) : (s.setLan f).reg x = s.reg x := rfl
@[simp] theorem State.setLan_bit (s : State) (f : LanternSt → LanternSt) (x y : Nat) : (s.setLan f).bit x y = s.bit x y := rfl
@[simp] theorem State.setLan_now (s : State) (f : LanternSt → LanternSt) : (s.setLan f).now = s.now := rfl
@[simp] theorem State.setLan_wick (s : State) (f : LanternSt → LanternSt) : (s.setLan f).wick = s.wick := rfl

@[simp] theorem State.setNvm_val (s : State) (f : Nvm → Nvm) (o : Obj) (j : Nat) : (s.setNvm f).val o j = s.val o j := rfl
@[simp] theorem State.setNvm_num (s : State) (f : Nvm → Nvm) (o : Obj) (j : Nat) : (s.setNvm f).num o j = s.num o j := rfl
@[simp] theorem State.setNvm_n (s : State) (f : Nvm → Nvm) (o : Obj) (j : Nat) : (s.setNvm f).n o j = s.n o j := rfl
@[simp] theorem State.setNvm_on (s : State) (f : Nvm → Nvm) (o : Obj) (j : Nat) : (s.setNvm f).on o j = s.on o j := rfl
@[simp] theorem State.setNvm_oct (s : State) (f : Nvm → Nvm) (o : Obj) (j : Nat) : (s.setNvm f).oct o j = s.oct o j := rfl
@[simp] theorem State.setNvm_reg (s : State) (f : Nvm → Nvm) (x : Nat) : (s.setNvm f).reg x = s.reg x := rfl
@[simp] theorem State.setNvm_bit (s : State) (f : Nvm → Nvm) (x y : Nat) : (s.setNvm f).bit x y = s.bit x y := rfl
@[simp] theorem State.setNvm_now (s : State) (f : Nvm → Nvm) : (s.setNvm f).now = s.now := rfl
@[simp] theorem State.setNvm_wick (s : State) (f : Nvm → Nvm) : (s.setNvm f).wick = s.wick := rfl

@[simp] theorem State.setUcie_val (s : State) (f : UcieSt → UcieSt) (o : Obj) (j : Nat) : (s.setUcie f).val o j = s.val o j := rfl
@[simp] theorem State.setUcie_num (s : State) (f : UcieSt → UcieSt) (o : Obj) (j : Nat) : (s.setUcie f).num o j = s.num o j := rfl
@[simp] theorem State.setUcie_n (s : State) (f : UcieSt → UcieSt) (o : Obj) (j : Nat) : (s.setUcie f).n o j = s.n o j := rfl
@[simp] theorem State.setUcie_on (s : State) (f : UcieSt → UcieSt) (o : Obj) (j : Nat) : (s.setUcie f).on o j = s.on o j := rfl
@[simp] theorem State.setUcie_oct (s : State) (f : UcieSt → UcieSt) (o : Obj) (j : Nat) : (s.setUcie f).oct o j = s.oct o j := rfl
@[simp] theorem State.setUcie_reg (s : State) (f : UcieSt → UcieSt) (x : Nat) : (s.setUcie f).reg x = s.reg x := rfl
@[simp] theorem State.setUcie_bit (s : State) (f : UcieSt → UcieSt) (x y : Nat) : (s.setUcie f).bit x y = s.bit x y := rfl
@[simp] theorem State.setUcie_now (s : State) (f : UcieSt → UcieSt) : (s.setUcie f).now = s.now := rfl
@[simp] theorem State.setUcie_wick (s : State) (f : UcieSt → UcieSt) : (s.setUcie f).wick = s.wick := rfl

@[simp] theorem State.setBoot_val (s : State) (f : BootSt → BootSt) (o : Obj) (j : Nat) : (s.setBoot f).val o j = s.val o j := rfl
@[simp] theorem State.setBoot_num (s : State) (f : BootSt → BootSt) (o : Obj) (j : Nat) : (s.setBoot f).num o j = s.num o j := rfl
@[simp] theorem State.setBoot_n (s : State) (f : BootSt → BootSt) (o : Obj) (j : Nat) : (s.setBoot f).n o j = s.n o j := rfl
@[simp] theorem State.setBoot_on (s : State) (f : BootSt → BootSt) (o : Obj) (j : Nat) : (s.setBoot f).on o j = s.on o j := rfl
@[simp] theorem State.setBoot_oct (s : State) (f : BootSt → BootSt) (o : Obj) (j : Nat) : (s.setBoot f).oct o j = s.oct o j := rfl
@[simp] theorem State.setBoot_reg (s : State) (f : BootSt → BootSt) (x : Nat) : (s.setBoot f).reg x = s.reg x := rfl
@[simp] theorem State.setBoot_bit (s : State) (f : BootSt → BootSt) (x y : Nat) : (s.setBoot f).bit x y = s.bit x y := rfl
@[simp] theorem State.setBoot_now (s : State) (f : BootSt → BootSt) : (s.setBoot f).now = s.now := rfl
@[simp] theorem State.setBoot_wick (s : State) (f : BootSt → BootSt) : (s.setBoot f).wick = s.wick := rfl

@[simp] theorem State.setLife_val (s : State) (f : LifeSt → LifeSt) (o : Obj) (j : Nat) : (s.setLife f).val o j = s.val o j := rfl
@[simp] theorem State.setLife_num (s : State) (f : LifeSt → LifeSt) (o : Obj) (j : Nat) : (s.setLife f).num o j = s.num o j := rfl
@[simp] theorem State.setLife_n (s : State) (f : LifeSt → LifeSt) (o : Obj) (j : Nat) : (s.setLife f).n o j = s.n o j := rfl
@[simp] theorem State.setLife_on (s : State) (f : LifeSt → LifeSt) (o : Obj) (j : Nat) : (s.setLife f).on o j = s.on o j := rfl
@[simp] theorem State.setLife_oct (s : State) (f : LifeSt → LifeSt) (o : Obj) (j : Nat) : (s.setLife f).oct o j = s.oct o j := rfl
@[simp] theorem State.setLife_reg (s : State) (f : LifeSt → LifeSt) (x : Nat) : (s.setLife f).reg x = s.reg x := rfl
@[simp] theorem State.setLife_bit (s : State) (f : LifeSt → LifeSt) (x y : Nat) : (s.setLife f).bit x y = s.bit x y := rfl
@[simp] theorem State.setLife_now (s : State) (f : LifeSt → LifeSt) : (s.setLife f).now = s.now := rfl
@[simp] theorem State.setLife_wick (s : State) (f : LifeSt → LifeSt) : (s.setLife f).wick = s.wick := rfl

@[simp] theorem State.setTm_val (s : State) (f : TrafficSt → TrafficSt) (o : Obj) (j : Nat) : (s.setTm f).val o j = s.val o j := rfl
@[simp] theorem State.setTm_num (s : State) (f : TrafficSt → TrafficSt) (o : Obj) (j : Nat) : (s.setTm f).num o j = s.num o j := rfl
@[simp] theorem State.setTm_n (s : State) (f : TrafficSt → TrafficSt) (o : Obj) (j : Nat) : (s.setTm f).n o j = s.n o j := rfl
@[simp] theorem State.setTm_on (s : State) (f : TrafficSt → TrafficSt) (o : Obj) (j : Nat) : (s.setTm f).on o j = s.on o j := rfl
@[simp] theorem State.setTm_oct (s : State) (f : TrafficSt → TrafficSt) (o : Obj) (j : Nat) : (s.setTm f).oct o j = s.oct o j := rfl
@[simp] theorem State.setTm_reg (s : State) (f : TrafficSt → TrafficSt) (x : Nat) : (s.setTm f).reg x = s.reg x := rfl
@[simp] theorem State.setTm_bit (s : State) (f : TrafficSt → TrafficSt) (x y : Nat) : (s.setTm f).bit x y = s.bit x y := rfl
@[simp] theorem State.setTm_now (s : State) (f : TrafficSt → TrafficSt) : (s.setTm f).now = s.now := rfl
@[simp] theorem State.setTm_wick (s : State) (f : TrafficSt → TrafficSt) : (s.setTm f).wick = s.wick := rfl

@[simp] theorem State.setGal_val (s : State) (f : GallerySt → GallerySt) (o : Obj) (j : Nat) : (s.setGal f).val o j = s.val o j := rfl
@[simp] theorem State.setGal_num (s : State) (f : GallerySt → GallerySt) (o : Obj) (j : Nat) : (s.setGal f).num o j = s.num o j := rfl
@[simp] theorem State.setGal_n (s : State) (f : GallerySt → GallerySt) (o : Obj) (j : Nat) : (s.setGal f).n o j = s.n o j := rfl
@[simp] theorem State.setGal_on (s : State) (f : GallerySt → GallerySt) (o : Obj) (j : Nat) : (s.setGal f).on o j = s.on o j := rfl
@[simp] theorem State.setGal_oct (s : State) (f : GallerySt → GallerySt) (o : Obj) (j : Nat) : (s.setGal f).oct o j = s.oct o j := rfl
@[simp] theorem State.setGal_reg (s : State) (f : GallerySt → GallerySt) (x : Nat) : (s.setGal f).reg x = s.reg x := rfl
@[simp] theorem State.setGal_bit (s : State) (f : GallerySt → GallerySt) (x y : Nat) : (s.setGal f).bit x y = s.bit x y := rfl
@[simp] theorem State.setGal_now (s : State) (f : GallerySt → GallerySt) : (s.setGal f).now = s.now := rfl
@[simp] theorem State.setGal_wick (s : State) (f : GallerySt → GallerySt) : (s.setGal f).wick = s.wick := rfl

@[simp] theorem State.setGr_val (s : State) (f : GrantSt → GrantSt) (o : Obj) (j : Nat) : (s.setGr f).val o j = s.val o j := rfl
@[simp] theorem State.setGr_num (s : State) (f : GrantSt → GrantSt) (o : Obj) (j : Nat) : (s.setGr f).num o j = s.num o j := rfl
@[simp] theorem State.setGr_n (s : State) (f : GrantSt → GrantSt) (o : Obj) (j : Nat) : (s.setGr f).n o j = s.n o j := rfl
@[simp] theorem State.setGr_on (s : State) (f : GrantSt → GrantSt) (o : Obj) (j : Nat) : (s.setGr f).on o j = s.on o j := rfl
@[simp] theorem State.setGr_oct (s : State) (f : GrantSt → GrantSt) (o : Obj) (j : Nat) : (s.setGr f).oct o j = s.oct o j := rfl
@[simp] theorem State.setGr_reg (s : State) (f : GrantSt → GrantSt) (x : Nat) : (s.setGr f).reg x = s.reg x := rfl
@[simp] theorem State.setGr_bit (s : State) (f : GrantSt → GrantSt) (x y : Nat) : (s.setGr f).bit x y = s.bit x y := rfl
@[simp] theorem State.setGr_now (s : State) (f : GrantSt → GrantSt) : (s.setGr f).now = s.now := rfl
@[simp] theorem State.setGr_wick (s : State) (f : GrantSt → GrantSt) : (s.setGr f).wick = s.wick := rfl

@[simp] theorem State.setCiph_val (s : State) (f : CipherSt → CipherSt) (o : Obj) (j : Nat) : (s.setCiph f).val o j = s.val o j := rfl
@[simp] theorem State.setCiph_num (s : State) (f : CipherSt → CipherSt) (o : Obj) (j : Nat) : (s.setCiph f).num o j = s.num o j := rfl
@[simp] theorem State.setCiph_n (s : State) (f : CipherSt → CipherSt) (o : Obj) (j : Nat) : (s.setCiph f).n o j = s.n o j := rfl
@[simp] theorem State.setCiph_on (s : State) (f : CipherSt → CipherSt) (o : Obj) (j : Nat) : (s.setCiph f).on o j = s.on o j := rfl
@[simp] theorem State.setCiph_oct (s : State) (f : CipherSt → CipherSt) (o : Obj) (j : Nat) : (s.setCiph f).oct o j = s.oct o j := rfl
@[simp] theorem State.setCiph_reg (s : State) (f : CipherSt → CipherSt) (x : Nat) : (s.setCiph f).reg x = s.reg x := rfl
@[simp] theorem State.setCiph_bit (s : State) (f : CipherSt → CipherSt) (x y : Nat) : (s.setCiph f).bit x y = s.bit x y := rfl
@[simp] theorem State.setCiph_now (s : State) (f : CipherSt → CipherSt) : (s.setCiph f).now = s.now := rfl
@[simp] theorem State.setCiph_wick (s : State) (f : CipherSt → CipherSt) : (s.setCiph f).wick = s.wick := rfl

@[simp] theorem State.setCasc_val (s : State) (f : CascadeSt → CascadeSt) (o : Obj) (j : Nat) : (s.setCasc f).val o j = s.val o j := rfl
@[simp] theorem State.setCasc_num (s : State) (f : CascadeSt → CascadeSt) (o : Obj) (j : Nat) : (s.setCasc f).num o j = s.num o j := rfl
@[simp] theorem State.setCasc_n (s : State) (f : CascadeSt → CascadeSt) (o : Obj) (j : Nat) : (s.setCasc f).n o j = s.n o j := rfl
@[simp] theorem State.setCasc_on (s : State) (f : CascadeSt → CascadeSt) (o : Obj) (j : Nat) : (s.setCasc f).on o j = s.on o j := rfl
@[simp] theorem State.setCasc_oct (s : State) (f : CascadeSt → CascadeSt) (o : Obj) (j : Nat) : (s.setCasc f).oct o j = s.oct o j := rfl
@[simp] theorem State.setCasc_reg (s : State) (f : CascadeSt → CascadeSt) (x : Nat) : (s.setCasc f).reg x = s.reg x := rfl
@[simp] theorem State.setCasc_bit (s : State) (f : CascadeSt → CascadeSt) (x y : Nat) : (s.setCasc f).bit x y = s.bit x y := rfl
@[simp] theorem State.setCasc_now (s : State) (f : CascadeSt → CascadeSt) : (s.setCasc f).now = s.now := rfl
@[simp] theorem State.setCasc_wick (s : State) (f : CascadeSt → CascadeSt) : (s.setCasc f).wick = s.wick := rfl

@[simp] theorem State.setLane_val (s : State) (k : Nat) (r : LaneSt) (o : Obj) (j : Nat) : (s.setLane k r).val o j = s.val o j := rfl
@[simp] theorem State.setLane_num (s : State) (k : Nat) (r : LaneSt) (o : Obj) (j : Nat) : (s.setLane k r).num o j = s.num o j := rfl
@[simp] theorem State.setLane_n (s : State) (k : Nat) (r : LaneSt) (o : Obj) (j : Nat) : (s.setLane k r).n o j = s.n o j := rfl
@[simp] theorem State.setLane_on (s : State) (k : Nat) (r : LaneSt) (o : Obj) (j : Nat) : (s.setLane k r).on o j = s.on o j := rfl
@[simp] theorem State.setLane_oct (s : State) (k : Nat) (r : LaneSt) (o : Obj) (j : Nat) : (s.setLane k r).oct o j = s.oct o j := rfl
@[simp] theorem State.setLane_reg (s : State) (k : Nat) (r : LaneSt) (x : Nat) : (s.setLane k r).reg x = s.reg x := rfl
@[simp] theorem State.setLane_bit (s : State) (k : Nat) (r : LaneSt) (x y : Nat) : (s.setLane k r).bit x y = s.bit x y := rfl
@[simp] theorem State.setLane_now (s : State) (k : Nat) (r : LaneSt) : (s.setLane k r).now = s.now := rfl
@[simp] theorem State.setLane_wick (s : State) (k : Nat) (r : LaneSt) : (s.setLane k r).wick = s.wick := rfl

@[simp] theorem State.setCage_val (s : State) (k : Nat) (r : CageSt) (o : Obj) (j : Nat) : (s.setCage k r).val o j = s.val o j := rfl
@[simp] theorem State.setCage_num (s : State) (k : Nat) (r : CageSt) (o : Obj) (j : Nat) : (s.setCage k r).num o j = s.num o j := rfl
@[simp] theorem State.setCage_n (s : State) (k : Nat) (r : CageSt) (o : Obj) (j : Nat) : (s.setCage k r).n o j = s.n o j := rfl
@[simp] theorem State.setCage_on (s : State) (k : Nat) (r : CageSt) (o : Obj) (j : Nat) : (s.setCage k r).on o j = s.on o j := rfl
@[simp] theorem State.setCage_oct (s : State) (k : Nat) (r : CageSt) (o : Obj) (j : Nat) : (s.setCage k r).oct o j = s.oct o j := rfl
@[simp] theorem State.setCage_reg (s : State) (k : Nat) (r : CageSt) (x : Nat) : (s.setCage k r).reg x = s.reg x := rfl
@[simp] theorem State.setCage_bit (s : State) (k : Nat) (r : CageSt) (x y : Nat) : (s.setCage k r).bit x y = s.bit x y := rfl
@[simp] theorem State.setCage_now (s : State) (k : Nat) (r : CageSt) : (s.setCage k r).now = s.now := rfl
@[simp] theorem State.setCage_wick (s : State) (k : Nat) (r : CageSt) : (s.setCage k r).wick = s.wick := rfl

@[simp] theorem State.setFramer_val (s : State) (k : Nat) (r : FramerSt) (o : Obj) (j : Nat) : (s.setFramer k r).val o j = s.val o j := rfl
@[simp] theorem State.setFramer_num (s : State) (k : Nat) (r : FramerSt) (o : Obj) (j : Nat) : (s.setFramer k r).num o j = s.num o j := rfl
@[simp] theorem State.setFramer_n (s : State) (k : Nat) (r : FramerSt) (o : Obj) (j : Nat) : (s.setFramer k r).n o j = s.n o j := rfl
@[simp] theorem State.setFramer_on (s : State) (k : Nat) (r : FramerSt) (o : Obj) (j : Nat) : (s.setFramer k r).on o j = s.on o j := rfl
@[simp] theorem State.setFramer_oct (s : State) (k : Nat) (r : FramerSt) (o : Obj) (j : Nat) : (s.setFramer k r).oct o j = s.oct o j := rfl
@[simp] theorem State.setFramer_reg (s : State) (k : Nat) (r : FramerSt) (x : Nat) : (s.setFramer k r).reg x = s.reg x := rfl
@[simp] theorem State.setFramer_bit (s : State) (k : Nat) (r : FramerSt) (x y : Nat) : (s.setFramer k r).bit x y = s.bit x y := rfl
@[simp] theorem State.setFramer_now (s : State) (k : Nat) (r : FramerSt) : (s.setFramer k r).now = s.now := rfl
@[simp] theorem State.setFramer_wick (s : State) (k : Nat) (r : FramerSt) : (s.setFramer k r).wick = s.wick := rfl

@[simp] theorem State.setTerm_val (s : State) (k : Nat) (r : TermSt) (o : Obj) (j : Nat) : (s.setTerm k r).val o j = s.val o j := rfl
@[simp] theorem State.setTerm_num (s : State) (k : Nat) (r : TermSt) (o : Obj) (j : Nat) : (s.setTerm k r).num o j = s.num o j := rfl
@[simp] theorem State.setTerm_n (s : State) (k : Nat) (r : TermSt) (o : Obj) (j : Nat) : (s.setTerm k r).n o j = s.n o j := rfl
@[simp] theorem State.setTerm_on (s : State) (k : Nat) (r : TermSt) (o : Obj) (j : Nat) : (s.setTerm k r).on o j = s.on o j := rfl
@[simp] theorem State.setTerm_oct (s : State) (k : Nat) (r : TermSt) (o : Obj) (j : Nat) : (s.setTerm k r).oct o j = s.oct o j := rfl
@[simp] theorem State.setTerm_reg (s : State) (k : Nat) (r : TermSt) (x : Nat) : (s.setTerm k r).reg x = s.reg x := rfl
@[simp] theorem State.setTerm_bit (s : State) (k : Nat) (r : TermSt) (x y : Nat) : (s.setTerm k r).bit x y = s.bit x y := rfl
@[simp] theorem State.setTerm_now (s : State) (k : Nat) (r : TermSt) : (s.setTerm k r).now = s.now := rfl
@[simp] theorem State.setTerm_wick (s : State) (k : Nat) (r : TermSt) : (s.setTerm k r).wick = s.wick := rfl

@[simp] theorem State.setAct_val (s : State) (k : Nat) (r : ActSt) (o : Obj) (j : Nat) : (s.setAct k r).val o j = s.val o j := rfl
@[simp] theorem State.setAct_num (s : State) (k : Nat) (r : ActSt) (o : Obj) (j : Nat) : (s.setAct k r).num o j = s.num o j := rfl
@[simp] theorem State.setAct_n (s : State) (k : Nat) (r : ActSt) (o : Obj) (j : Nat) : (s.setAct k r).n o j = s.n o j := rfl
@[simp] theorem State.setAct_on (s : State) (k : Nat) (r : ActSt) (o : Obj) (j : Nat) : (s.setAct k r).on o j = s.on o j := rfl
@[simp] theorem State.setAct_oct (s : State) (k : Nat) (r : ActSt) (o : Obj) (j : Nat) : (s.setAct k r).oct o j = s.oct o j := rfl
@[simp] theorem State.setAct_reg (s : State) (k : Nat) (r : ActSt) (x : Nat) : (s.setAct k r).reg x = s.reg x := rfl
@[simp] theorem State.setAct_bit (s : State) (k : Nat) (r : ActSt) (x y : Nat) : (s.setAct k r).bit x y = s.bit x y := rfl
@[simp] theorem State.setAct_now (s : State) (k : Nat) (r : ActSt) : (s.setAct k r).now = s.now := rfl
@[simp] theorem State.setAct_wick (s : State) (k : Nat) (r : ActSt) : (s.setAct k r).wick = s.wick := rfl

@[simp] theorem State.setUpl_val (s : State) (k : Nat) (r : UplinkSt) (o : Obj) (j : Nat) : (s.setUpl k r).val o j = s.val o j := rfl
@[simp] theorem State.setUpl_num (s : State) (k : Nat) (r : UplinkSt) (o : Obj) (j : Nat) : (s.setUpl k r).num o j = s.num o j := rfl
@[simp] theorem State.setUpl_n (s : State) (k : Nat) (r : UplinkSt) (o : Obj) (j : Nat) : (s.setUpl k r).n o j = s.n o j := rfl
@[simp] theorem State.setUpl_on (s : State) (k : Nat) (r : UplinkSt) (o : Obj) (j : Nat) : (s.setUpl k r).on o j = s.on o j := rfl
@[simp] theorem State.setUpl_oct (s : State) (k : Nat) (r : UplinkSt) (o : Obj) (j : Nat) : (s.setUpl k r).oct o j = s.oct o j := rfl
@[simp] theorem State.setUpl_reg (s : State) (k : Nat) (r : UplinkSt) (x : Nat) : (s.setUpl k r).reg x = s.reg x := rfl
@[simp] theorem State.setUpl_bit (s : State) (k : Nat) (r : UplinkSt) (x y : Nat) : (s.setUpl k r).bit x y = s.bit x y := rfl
@[simp] theorem State.setUpl_now (s : State) (k : Nat) (r : UplinkSt) : (s.setUpl k r).now = s.now := rfl
@[simp] theorem State.setUpl_wick (s : State) (k : Nat) (r : UplinkSt) : (s.setUpl k r).wick = s.wick := rfl

@[simp] theorem State.setPsg_val (s : State) (k : Nat) (r : PsgSt) (o : Obj) (j : Nat) : (s.setPsg k r).val o j = s.val o j := rfl
@[simp] theorem State.setPsg_num (s : State) (k : Nat) (r : PsgSt) (o : Obj) (j : Nat) : (s.setPsg k r).num o j = s.num o j := rfl
@[simp] theorem State.setPsg_n (s : State) (k : Nat) (r : PsgSt) (o : Obj) (j : Nat) : (s.setPsg k r).n o j = s.n o j := rfl
@[simp] theorem State.setPsg_on (s : State) (k : Nat) (r : PsgSt) (o : Obj) (j : Nat) : (s.setPsg k r).on o j = s.on o j := rfl
@[simp] theorem State.setPsg_oct (s : State) (k : Nat) (r : PsgSt) (o : Obj) (j : Nat) : (s.setPsg k r).oct o j = s.oct o j := rfl
@[simp] theorem State.setPsg_reg (s : State) (k : Nat) (r : PsgSt) (x : Nat) : (s.setPsg k r).reg x = s.reg x := rfl
@[simp] theorem State.setPsg_bit (s : State) (k : Nat) (r : PsgSt) (x y : Nat) : (s.setPsg k r).bit x y = s.bit x y := rfl
@[simp] theorem State.setPsg_now (s : State) (k : Nat) (r : PsgSt) : (s.setPsg k r).now = s.now := rfl
@[simp] theorem State.setPsg_wick (s : State) (k : Nat) (r : PsgSt) : (s.setPsg k r).wick = s.wick := rfl

@[simp] theorem State.setEqRun_val (s : State) (t k v : Nat) (o : Obj) (j : Nat) : (s.setEqRun t k v).val o j = s.val o j := rfl
@[simp] theorem State.setEqRun_num (s : State) (t k v : Nat) (o : Obj) (j : Nat) : (s.setEqRun t k v).num o j = s.num o j := rfl
@[simp] theorem State.setEqRun_n (s : State) (t k v : Nat) (o : Obj) (j : Nat) : (s.setEqRun t k v).n o j = s.n o j := rfl
@[simp] theorem State.setEqRun_on (s : State) (t k v : Nat) (o : Obj) (j : Nat) : (s.setEqRun t k v).on o j = s.on o j := rfl
@[simp] theorem State.setEqRun_oct (s : State) (t k v : Nat) (o : Obj) (j : Nat) : (s.setEqRun t k v).oct o j = s.oct o j := rfl
@[simp] theorem State.setEqRun_reg (s : State) (t k v : Nat) (x : Nat) : (s.setEqRun t k v).reg x = s.reg x := rfl
@[simp] theorem State.setEqRun_bit (s : State) (t k v : Nat) (x y : Nat) : (s.setEqRun t k v).bit x y = s.bit x y := rfl
@[simp] theorem State.setEqRun_now (s : State) (t k v : Nat) : (s.setEqRun t k v).now = s.now := rfl
@[simp] theorem State.setEqRun_wick (s : State) (t k v : Nat) : (s.setEqRun t k v).wick = s.wick := rfl

@[simp] theorem State.setSnuff_val (s : State) (k : ResKind) (i : Nat) (r : SnuffRec) (o : Obj) (j : Nat) : (s.setSnuff k i r).val o j = s.val o j := rfl
@[simp] theorem State.setSnuff_num (s : State) (k : ResKind) (i : Nat) (r : SnuffRec) (o : Obj) (j : Nat) : (s.setSnuff k i r).num o j = s.num o j := rfl
@[simp] theorem State.setSnuff_n (s : State) (k : ResKind) (i : Nat) (r : SnuffRec) (o : Obj) (j : Nat) : (s.setSnuff k i r).n o j = s.n o j := rfl
@[simp] theorem State.setSnuff_on (s : State) (k : ResKind) (i : Nat) (r : SnuffRec) (o : Obj) (j : Nat) : (s.setSnuff k i r).on o j = s.on o j := rfl
@[simp] theorem State.setSnuff_oct (s : State) (k : ResKind) (i : Nat) (r : SnuffRec) (o : Obj) (j : Nat) : (s.setSnuff k i r).oct o j = s.oct o j := rfl
@[simp] theorem State.setSnuff_reg (s : State) (k : ResKind) (i : Nat) (r : SnuffRec) (x : Nat) : (s.setSnuff k i r).reg x = s.reg x := rfl
@[simp] theorem State.setSnuff_bit (s : State) (k : ResKind) (i : Nat) (r : SnuffRec) (x y : Nat) : (s.setSnuff k i r).bit x y = s.bit x y := rfl
@[simp] theorem State.setSnuff_now (s : State) (k : ResKind) (i : Nat) (r : SnuffRec) : (s.setSnuff k i r).now = s.now := rfl
@[simp] theorem State.setSnuff_wick (s : State) (k : ResKind) (i : Nat) (r : SnuffRec) : (s.setSnuff k i r).wick = s.wick := rfl

/-! ### Reads of a record written out: only the field that the read is of matters -/

theorem State.mk_val (s : State) (x0 : List Instr) (x2 : Tab Nat) (x3 : Tab Latch) (x4 : ClockSt) (x5 : LanternSt)
    (x6 : Nvm) (x7 : Stage) (x8 : UcieSt) (x9 : BootSt) (x10 : LifeSt) (x11 : Tab SnuffRec) (x12 : Tab (Nat × Nat))
    (x13 : Tab LaneSt) (x14 : Tab CageSt) (x15 : Tab Nat) (x16 : Tab FramerSt) (x17 : Tab Nat) (x18 : GallerySt)
    (x19 : List FragRec) (x20 : TrafficSt) (x21 : Tab TermSt) (x22 : Tab ActSt) (x23 : Tab Time) (x24 : GrantSt)
    (x25 : CipherSt) (x26 : Tab UplinkSt) (x27 : Tab PsgSt) (x28 : CascadeSt) (x29 : List Out) (x30 : Nat) (o : Obj)
    (j : Nat) : (State.mk x0 s.objs x2 x3 x4 x5 x6 x7 x8 x9 x10 x11 x12 x13 x14 x15 x16 x17 x18 x19 x20 x21 x22 x23
    x24 x25 x26 x27 x28 x29 x30).val o j = s.val o j := rfl
theorem State.mk_num (s : State) (x0 : List Instr) (x2 : Tab Nat) (x3 : Tab Latch) (x4 : ClockSt) (x5 : LanternSt)
    (x6 : Nvm) (x7 : Stage) (x8 : UcieSt) (x9 : BootSt) (x10 : LifeSt) (x11 : Tab SnuffRec) (x12 : Tab (Nat × Nat))
    (x13 : Tab LaneSt) (x14 : Tab CageSt) (x15 : Tab Nat) (x16 : Tab FramerSt) (x17 : Tab Nat) (x18 : GallerySt)
    (x19 : List FragRec) (x20 : TrafficSt) (x21 : Tab TermSt) (x22 : Tab ActSt) (x23 : Tab Time) (x24 : GrantSt)
    (x25 : CipherSt) (x26 : Tab UplinkSt) (x27 : Tab PsgSt) (x28 : CascadeSt) (x29 : List Out) (x30 : Nat) (o : Obj)
    (j : Nat) : (State.mk x0 s.objs x2 x3 x4 x5 x6 x7 x8 x9 x10 x11 x12 x13 x14 x15 x16 x17 x18 x19 x20 x21 x22 x23
    x24 x25 x26 x27 x28 x29 x30).num o j = s.num o j := rfl
theorem State.mk_n (s : State) (x0 : List Instr) (x2 : Tab Nat) (x3 : Tab Latch) (x4 : ClockSt) (x5 : LanternSt) (x6
    : Nvm) (x7 : Stage) (x8 : UcieSt) (x9 : BootSt) (x10 : LifeSt) (x11 : Tab SnuffRec) (x12 : Tab (Nat × Nat)) (x13
    : Tab LaneSt) (x14 : Tab CageSt) (x15 : Tab Nat) (x16 : Tab FramerSt) (x17 : Tab Nat) (x18 : GallerySt) (x19 :
    List FragRec) (x20 : TrafficSt) (x21 : Tab TermSt) (x22 : Tab ActSt) (x23 : Tab Time) (x24 : GrantSt) (x25 :
    CipherSt) (x26 : Tab UplinkSt) (x27 : Tab PsgSt) (x28 : CascadeSt) (x29 : List Out) (x30 : Nat) (o : Obj) (j :
    Nat) : (State.mk x0 s.objs x2 x3 x4 x5 x6 x7 x8 x9 x10 x11 x12 x13 x14 x15 x16 x17 x18 x19 x20 x21 x22 x23 x24
    x25 x26 x27 x28 x29 x30).n o j = s.n o j := rfl
theorem State.mk_on (s : State) (x0 : List Instr) (x2 : Tab Nat) (x3 : Tab Latch) (x4 : ClockSt) (x5 : LanternSt)
    (x6 : Nvm) (x7 : Stage) (x8 : UcieSt) (x9 : BootSt) (x10 : LifeSt) (x11 : Tab SnuffRec) (x12 : Tab (Nat × Nat))
    (x13 : Tab LaneSt) (x14 : Tab CageSt) (x15 : Tab Nat) (x16 : Tab FramerSt) (x17 : Tab Nat) (x18 : GallerySt)
    (x19 : List FragRec) (x20 : TrafficSt) (x21 : Tab TermSt) (x22 : Tab ActSt) (x23 : Tab Time) (x24 : GrantSt)
    (x25 : CipherSt) (x26 : Tab UplinkSt) (x27 : Tab PsgSt) (x28 : CascadeSt) (x29 : List Out) (x30 : Nat) (o : Obj)
    (j : Nat) : (State.mk x0 s.objs x2 x3 x4 x5 x6 x7 x8 x9 x10 x11 x12 x13 x14 x15 x16 x17 x18 x19 x20 x21 x22 x23
    x24 x25 x26 x27 x28 x29 x30).on o j = s.on o j := rfl
theorem State.mk_oct (s : State) (x0 : List Instr) (x2 : Tab Nat) (x3 : Tab Latch) (x4 : ClockSt) (x5 : LanternSt)
    (x6 : Nvm) (x7 : Stage) (x8 : UcieSt) (x9 : BootSt) (x10 : LifeSt) (x11 : Tab SnuffRec) (x12 : Tab (Nat × Nat))
    (x13 : Tab LaneSt) (x14 : Tab CageSt) (x15 : Tab Nat) (x16 : Tab FramerSt) (x17 : Tab Nat) (x18 : GallerySt)
    (x19 : List FragRec) (x20 : TrafficSt) (x21 : Tab TermSt) (x22 : Tab ActSt) (x23 : Tab Time) (x24 : GrantSt)
    (x25 : CipherSt) (x26 : Tab UplinkSt) (x27 : Tab PsgSt) (x28 : CascadeSt) (x29 : List Out) (x30 : Nat) (o : Obj)
    (j : Nat) : (State.mk x0 s.objs x2 x3 x4 x5 x6 x7 x8 x9 x10 x11 x12 x13 x14 x15 x16 x17 x18 x19 x20 x21 x22 x23
    x24 x25 x26 x27 x28 x29 x30).oct o j = s.oct o j := rfl
theorem State.mk_reg (s : State) (x0 : List Instr) (x1 : Tab Val) (x3 : Tab Latch) (x4 : ClockSt) (x5 : LanternSt)
    (x6 : Nvm) (x7 : Stage) (x8 : UcieSt) (x9 : BootSt) (x10 : LifeSt) (x11 : Tab SnuffRec) (x12 : Tab (Nat × Nat))
    (x13 : Tab LaneSt) (x14 : Tab CageSt) (x15 : Tab Nat) (x16 : Tab FramerSt) (x17 : Tab Nat) (x18 : GallerySt)
    (x19 : List FragRec) (x20 : TrafficSt) (x21 : Tab TermSt) (x22 : Tab ActSt) (x23 : Tab Time) (x24 : GrantSt)
    (x25 : CipherSt) (x26 : Tab UplinkSt) (x27 : Tab PsgSt) (x28 : CascadeSt) (x29 : List Out) (x30 : Nat) (a : Nat)
    : (State.mk x0 x1 s.regs x3 x4 x5 x6 x7 x8 x9 x10 x11 x12 x13 x14 x15 x16 x17 x18 x19 x20 x21 x22 x23 x24 x25
    x26 x27 x28 x29 x30).reg a = s.reg a := rfl
theorem State.mk_bit (s : State) (x0 : List Instr) (x1 : Tab Val) (x3 : Tab Latch) (x4 : ClockSt) (x5 : LanternSt)
    (x6 : Nvm) (x7 : Stage) (x8 : UcieSt) (x9 : BootSt) (x10 : LifeSt) (x11 : Tab SnuffRec) (x12 : Tab (Nat × Nat))
    (x13 : Tab LaneSt) (x14 : Tab CageSt) (x15 : Tab Nat) (x16 : Tab FramerSt) (x17 : Tab Nat) (x18 : GallerySt)
    (x19 : List FragRec) (x20 : TrafficSt) (x21 : Tab TermSt) (x22 : Tab ActSt) (x23 : Tab Time) (x24 : GrantSt)
    (x25 : CipherSt) (x26 : Tab UplinkSt) (x27 : Tab PsgSt) (x28 : CascadeSt) (x29 : List Out) (x30 : Nat) (a b :
    Nat) : (State.mk x0 x1 s.regs x3 x4 x5 x6 x7 x8 x9 x10 x11 x12 x13 x14 x15 x16 x17 x18 x19 x20 x21 x22 x23 x24
    x25 x26 x27 x28 x29 x30).bit a b = s.bit a b := rfl
theorem State.mk_now (s : State) (x0 : List Instr) (x1 : Tab Val) (x2 : Tab Nat) (x3 : Tab Latch) (x5 : LanternSt)
    (x6 : Nvm) (x7 : Stage) (x8 : UcieSt) (x9 : BootSt) (x10 : LifeSt) (x11 : Tab SnuffRec) (x12 : Tab (Nat × Nat))
    (x13 : Tab LaneSt) (x14 : Tab CageSt) (x15 : Tab Nat) (x16 : Tab FramerSt) (x17 : Tab Nat) (x18 : GallerySt)
    (x19 : List FragRec) (x20 : TrafficSt) (x21 : Tab TermSt) (x22 : Tab ActSt) (x23 : Tab Time) (x24 : GrantSt)
    (x25 : CipherSt) (x26 : Tab UplinkSt) (x27 : Tab PsgSt) (x28 : CascadeSt) (x29 : List Out) (x30 : Nat) :
    (State.mk x0 x1 x2 x3 s.clk x5 x6 x7 x8 x9 x10 x11 x12 x13 x14 x15 x16 x17 x18 x19 x20 x21 x22 x23 x24 x25 x26
    x27 x28 x29 x30).now = s.now := rfl
theorem State.mk_wick (s : State) (x0 : List Instr) (x1 : Tab Val) (x2 : Tab Nat) (x3 : Tab Latch) (x5 : LanternSt)
    (x6 : Nvm) (x7 : Stage) (x8 : UcieSt) (x9 : BootSt) (x10 : LifeSt) (x11 : Tab SnuffRec) (x12 : Tab (Nat × Nat))
    (x13 : Tab LaneSt) (x14 : Tab CageSt) (x15 : Tab Nat) (x16 : Tab FramerSt) (x17 : Tab Nat) (x18 : GallerySt)
    (x19 : List FragRec) (x20 : TrafficSt) (x21 : Tab TermSt) (x22 : Tab ActSt) (x23 : Tab Time) (x24 : GrantSt)
    (x25 : CipherSt) (x26 : Tab UplinkSt) (x27 : Tab PsgSt) (x28 : CascadeSt) (x29 : List Out) (x30 : Nat) :
    (State.mk x0 x1 x2 x3 s.clk x5 x6 x7 x8 x9 x10 x11 x12 x13 x14 x15 x16 x17 x18 x19 x20 x21 x22 x23 x24 x25 x26
    x27 x28 x29 x30).wick = s.wick := rfl

end Sys2Proof.Machine
end

