-- ==== Sys2Proof/Laws/Events.lean ====
section
/-!
SUPPORT. What an event, a counter and a rate limit change: each operation named here touches only the fields that its
laws leave out, and of the objects only its own.
-/

namespace Sys2Proof.Machine

open State

/-! ### Counters -/

@[simp] theorem State.bump_pending (s : State) (o : Obj) (i k : Nat) : (s.bump o i k).pending = s.pending :=
  (State.bump_kept (m := 2) s _ _ _ rfl (kept_refl _ s)).2 .pending rfl
@[simp] theorem State.bump_regs (s : State) (o : Obj) (i k : Nat) : (s.bump o i k).regs = s.regs :=
  (State.bump_kept (m := 2) s _ _ _ rfl (kept_refl _ s)).2 .regs rfl
@[simp] theorem State.bump_latched (s : State) (o : Obj) (i k : Nat) : (s.bump o i k).latched = s.latched :=
  (State.bump_kept (m := 2) s _ _ _ rfl (kept_refl _ s)).2 .latched rfl
@[simp] theorem State.bump_clk (s : State) (o : Obj) (i k : Nat) : (s.bump o i k).clk = s.clk :=
  (State.bump_kept (m := 2) s _ _ _ rfl (kept_refl _ s)).2 .clk rfl
@[simp] theorem State.bump_lan (s : State) (o : Obj) (i k : Nat) : (s.bump o i k).lan = s.lan :=
  (State.bump_kept (m := 2) s _ _ _ rfl (kept_refl _ s)).2 .lan rfl
@[simp] theorem State.bump_nvm (s : State) (o : Obj) (i k : Nat) : (s.bump o i k).nvm = s.nvm :=
  (State.bump_kept (m := 2) s _ _ _ rfl (kept_refl _ s)).2 .nvm rfl
@[simp] theorem State.bump_stage (s : State) (o : Obj) (i k : Nat) : (s.bump o i k).stage = s.stage :=
  (State.bump_kept (m := 2) s _ _ _ rfl (kept_refl _ s)).2 .stage rfl
@[simp] theorem State.bump_ucie (s : State) (o : Obj) (i k : Nat) : (s.bump o i k).ucie = s.ucie :=
  (State.bump_kept (m := 2) s _ _ _ rfl (kept_refl _ s)).2 .ucie rfl
@[simp] theorem State.bump_boot (s : State) (o : Obj) (i k : Nat) : (s.bump o i k).boot = s.boot :=
  (State.bump_kept (m := 2) s _ _ _ rfl (kept_refl _ s)).2 .boot rfl
@[simp] theorem State.bump_life (s : State) (o : Obj) (i k : Nat) : (s.bump o i k).life = s.life :=
  (State.bump_kept (m := 2) s _ _ _ rfl (kept_refl _ s)).2 .life rfl
@[simp] theorem State.bump_snuffs (s : State) (o : Obj) (i k : Nat) : (s.bump o i k).snuffs = s.snuffs :=
  (State.bump_kept (m := 2) s _ _ _ rfl (kept_refl _ s)).2 .snuffs rfl
@[simp] theorem State.bump_limits (s : State) (o : Obj) (i k : Nat) : (s.bump o i k).limits = s.limits :=
  (State.bump_kept (m := 2) s _ _ _ rfl (kept_refl _ s)).2 .limits rfl
@[simp] theorem State.bump_lanes (s : State) (o : Obj) (i k : Nat) : (s.bump o i k).lanes = s.lanes :=
  (State.bump_kept (m := 2) s _ _ _ rfl (kept_refl _ s)).2 .lanes rfl
@[simp] theorem State.bump_cages (s : State) (o : Obj) (i k : Nat) : (s.bump o i k).cages = s.cages :=
  (State.bump_kept (m := 2) s _ _ _ rfl (kept_refl _ s)).2 .cages rfl
@[simp] theorem State.bump_eqRuns (s : State) (o : Obj) (i k : Nat) : (s.bump o i k).eqRuns = s.eqRuns :=
  (State.bump_kept (m := 2) s _ _ _ rfl (kept_refl _ s)).2 .eqRuns rfl
@[simp] theorem State.bump_framers (s : State) (o : Obj) (i k : Nat) : (s.bump o i k).framers = s.framers :=
  (State.bump_kept (m := 2) s _ _ _ rfl (kept_refl _ s)).2 .framers rfl
@[simp] theorem State.bump_lineRun (s : State) (o : Obj) (i k : Nat) : (s.bump o i k).lineRun = s.lineRun :=
  (State.bump_kept (m := 2) s _ _ _ rfl (kept_refl _ s)).2 .lineRun rfl
@[simp] theorem State.bump_gal (s : State) (o : Obj) (i k : Nat) : (s.bump o i k).gal = s.gal :=
  (State.bump_kept (m := 2) s _ _ _ rfl (kept_refl _ s)).2 .gal rfl
@[simp] theorem State.bump_frags (s : State) (o : Obj) (i k : Nat) : (s.bump o i k).frags = s.frags :=
  (State.bump_kept (m := 2) s _ _ _ rfl (kept_refl _ s)).2 .frags rfl
@[simp] theorem State.bump_tm (s : State) (o : Obj) (i k : Nat) : (s.bump o i k).tm = s.tm :=
  (State.bump_kept (m := 2) s _ _ _ rfl (kept_refl _ s)).2 .tm rfl
@[simp] theorem State.bump_terms (s : State) (o : Obj) (i k : Nat) : (s.bump o i k).terms = s.terms :=
  (State.bump_kept (m := 2) s _ _ _ rfl (kept_refl _ s)).2 .terms rfl
@[simp] theorem State.bump_acts (s : State) (o : Obj) (i k : Nat) : (s.bump o i k).acts = s.acts :=
  (State.bump_kept (m := 2) s _ _ _ rfl (kept_refl _ s)).2 .acts rfl
@[simp] theorem State.bump_logEvents (s : State) (o : Obj) (i k : Nat) : (s.bump o i k).logEvents = s.logEvents :=
  (State.bump_kept (m := 2) s _ _ _ rfl (kept_refl _ s)).2 .logEvents rfl
@[simp] theorem State.bump_grants (s : State) (o : Obj) (i k : Nat) : (s.bump o i k).grants = s.grants :=
  (State.bump_kept (m := 2) s _ _ _ rfl (kept_refl _ s)).2 .grants rfl
@[simp] theorem State.bump_ciph (s : State) (o : Obj) (i k : Nat) : (s.bump o i k).ciph = s.ciph :=
  (State.bump_kept (m := 2) s _ _ _ rfl (kept_refl _ s)).2 .ciph rfl
@[simp] theorem State.bump_uplinks (s : State) (o : Obj) (i k : Nat) : (s.bump o i k).uplinks = s.uplinks :=
  (State.bump_kept (m := 2) s _ _ _ rfl (kept_refl _ s)).2 .uplinks rfl
@[simp] theorem State.bump_psgs (s : State) (o : Obj) (i k : Nat) : (s.bump o i k).psgs = s.psgs :=
  (State.bump_kept (m := 2) s _ _ _ rfl (kept_refl _ s)).2 .psgs rfl
@[simp] theorem State.bump_casc (s : State) (o : Obj) (i k : Nat) : (s.bump o i k).casc = s.casc :=
  (State.bump_kept (m := 2) s _ _ _ rfl (kept_refl _ s)).2 .casc rfl
@[simp] theorem State.bump_sent (s : State) (o : Obj) (i k : Nat) : (s.bump o i k).sent = s.sent :=
  (State.bump_kept (m := 2) s _ _ _ rfl (kept_refl _ s)).2 .sent rfl
@[simp] theorem State.bump_fresh (s : State) (o : Obj) (i k : Nat) : (s.bump o i k).fresh = s.fresh :=
  (State.bump_kept (m := 2) s _ _ _ rfl (kept_refl _ s)).2 .fresh rfl

theorem State.val_bump_obj (s : State) {o p : Obj} {i j : Nat} (k : Nat) (h : p.code ≠ o.code) (hi : i < 16777216)
    (hj : j < 16777216) : (s.bump o i k).val p j = s.val p j := by
  simp only [State.bump]
  split <;> exact State.val_putVal_obj s _ h hi hj

theorem State.val_bump_inst (s : State) (o : Obj) {i j : Nat} (k : Nat) (h : j ≠ i) :
    (s.bump o i k).val o j = s.val o j := by
  simp only [State.bump]
  split <;> exact State.val_putVal_inst s o _ h

@[simp] theorem State.reg_bump (s : State) (o : Obj) (i k a : Nat) : (s.bump o i k).reg a = s.reg a :=
  State.reg_of_regs (by simp) a

/-! ### Events -/

@[simp] theorem State.raiseChange_eq (s : State) (o : Obj) (i x y : Nat) (d : List Byte) :
    s.raiseChange o i x y d = s.raise 1 o i (beBytes 1 x ++ beBytes 1 y ++ d) := rfl
@[simp] theorem State.raiseRefusal_eq (s : State) (o : Obj) (i c : Nat) (d : List Byte) :
    s.raiseRefusal o i c d = s.raise 3 o i (beBytes 4 c ++ d) := rfl
@[simp] theorem State.raiseDone_eq (s : State) (o : Obj) (i : Nat) (d : List Byte) : s.raiseDone o i d = s.raise 5 o i d := rfl
@[simp] theorem State.raiseConfig_eq (s : State) (o : Obj) (i : Nat) :
    s.raiseConfig o i = s.raise 6 o i (beBytes 2 (o.code / 256) ++ beBytes 1 (o.code % 256) ++ beBytes 3 i) := rfl
@[simp] theorem State.raiseFault_eq (s : State) (o : Obj) (i : Nat) (d : List Byte) :
    s.raiseFault o i d = s.raise 4 o i (beBytes 4 s.faultWord ++ d) := rfl

@[simp] theorem State.queueTo_pending (s : State) (m : Master) (e : EventRec) : (s.queueTo m e).pending = s.pending :=
  (State.queueTo_kept (m := 34) s _ _ rfl (kept_refl _ s)).2 .pending rfl
@[simp] theorem State.queueTo_regs (s : State) (m : Master) (e : EventRec) : (s.queueTo m e).regs = s.regs :=
  (State.queueTo_kept (m := 34) s _ _ rfl (kept_refl _ s)).2 .regs rfl
@[simp] theorem State.queueTo_latched (s : State) (m : Master) (e : EventRec) : (s.queueTo m e).latched = s.latched :=
  (State.queueTo_kept (m := 34) s _ _ rfl (kept_refl _ s)).2 .latched rfl
@[simp] theorem State.queueTo_clk (s : State) (m : Master) (e : EventRec) : (s.queueTo m e).clk = s.clk :=
  (State.queueTo_kept (m := 34) s _ _ rfl (kept_refl _ s)).2 .clk rfl
@[simp] theorem State.queueTo_nvm (s : State) (m : Master) (e : EventRec) : (s.queueTo m e).nvm = s.nvm :=
  (State.queueTo_kept (m := 34) s _ _ rfl (kept_refl _ s)).2 .nvm rfl
@[simp] theorem State.queueTo_stage (s : State) (m : Master) (e : EventRec) : (s.queueTo m e).stage = s.stage :=
  (State.queueTo_kept (m := 34) s _ _ rfl (kept_refl _ s)).2 .stage rfl
@[simp] theorem State.queueTo_ucie (s : State) (m : Master) (e : EventRec) : (s.queueTo m e).ucie = s.ucie :=
  (State.queueTo_kept (m := 34) s _ _ rfl (kept_refl _ s)).2 .ucie rfl
@[simp] theorem State.queueTo_boot (s : State) (m : Master) (e : EventRec) : (s.queueTo m e).boot = s.boot :=
  (State.queueTo_kept (m := 34) s _ _ rfl (kept_refl _ s)).2 .boot rfl
@[simp] theorem State.queueTo_life (s : State) (m : Master) (e : EventRec) : (s.queueTo m e).life = s.life :=
  (State.queueTo_kept (m := 34) s _ _ rfl (kept_refl _ s)).2 .life rfl
@[simp] theorem State.queueTo_snuffs (s : State) (m : Master) (e : EventRec) : (s.queueTo m e).snuffs = s.snuffs :=
  (State.queueTo_kept (m := 34) s _ _ rfl (kept_refl _ s)).2 .snuffs rfl
@[simp] theorem State.queueTo_limits (s : State) (m : Master) (e : EventRec) : (s.queueTo m e).limits = s.limits :=
  (State.queueTo_kept (m := 34) s _ _ rfl (kept_refl _ s)).2 .limits rfl
@[simp] theorem State.queueTo_lanes (s : State) (m : Master) (e : EventRec) : (s.queueTo m e).lanes = s.lanes :=
  (State.queueTo_kept (m := 34) s _ _ rfl (kept_refl _ s)).2 .lanes rfl
@[simp] theorem State.queueTo_cages (s : State) (m : Master) (e : EventRec) : (s.queueTo m e).cages = s.cages :=
  (State.queueTo_kept (m := 34) s _ _ rfl (kept_refl _ s)).2 .cages rfl
@[simp] theorem State.queueTo_eqRuns (s : State) (m : Master) (e : EventRec) : (s.queueTo m e).eqRuns = s.eqRuns :=
  (State.queueTo_kept (m := 34) s _ _ rfl (kept_refl _ s)).2 .eqRuns rfl
@[simp] theorem State.queueTo_framers (s : State) (m : Master) (e : EventRec) : (s.queueTo m e).framers = s.framers :=
  (State.queueTo_kept (m := 34) s _ _ rfl (kept_refl _ s)).2 .framers rfl
@[simp] theorem State.queueTo_lineRun (s : State) (m : Master) (e : EventRec) : (s.queueTo m e).lineRun = s.lineRun :=
  (State.queueTo_kept (m := 34) s _ _ rfl (kept_refl _ s)).2 .lineRun rfl
@[simp] theorem State.queueTo_gal (s : State) (m : Master) (e : EventRec) : (s.queueTo m e).gal = s.gal :=
  (State.queueTo_kept (m := 34) s _ _ rfl (kept_refl _ s)).2 .gal rfl
@[simp] theorem State.queueTo_frags (s : State) (m : Master) (e : EventRec) : (s.queueTo m e).frags = s.frags :=
  (State.queueTo_kept (m := 34) s _ _ rfl (kept_refl _ s)).2 .frags rfl
@[simp] theorem State.queueTo_tm (s : State) (m : Master) (e : EventRec) : (s.queueTo m e).tm = s.tm :=
  (State.queueTo_kept (m := 34) s _ _ rfl (kept_refl _ s)).2 .tm rfl
@[simp] theorem State.queueTo_terms (s : State) (m : Master) (e : EventRec) : (s.queueTo m e).terms = s.terms :=
  (State.queueTo_kept (m := 34) s _ _ rfl (kept_refl _ s)).2 .terms rfl
@[simp] theorem State.queueTo_acts (s : State) (m : Master) (e : EventRec) : (s.queueTo m e).acts = s.acts :=
  (State.queueTo_kept (m := 34) s _ _ rfl (kept_refl _ s)).2 .acts rfl
@[simp] theorem State.queueTo_logEvents (s : State) (m : Master) (e : EventRec) : (s.queueTo m e).logEvents = s.logEvents :=
  (State.queueTo_kept (m := 34) s _ _ rfl (kept_refl _ s)).2 .logEvents rfl
@[simp] theorem State.queueTo_grants (s : State) (m : Master) (e : EventRec) : (s.queueTo m e).grants = s.grants :=
  (State.queueTo_kept (m := 34) s _ _ rfl (kept_refl _ s)).2 .grants rfl
@[simp] theorem State.queueTo_ciph (s : State) (m : Master) (e : EventRec) : (s.queueTo m e).ciph = s.ciph :=
  (State.queueTo_kept (m := 34) s _ _ rfl (kept_refl _ s)).2 .ciph rfl
@[simp] theorem State.queueTo_uplinks (s : State) (m : Master) (e : EventRec) : (s.queueTo m e).uplinks = s.uplinks :=
  (State.queueTo_kept (m := 34) s _ _ rfl (kept_refl _ s)).2 .uplinks rfl
@[simp] theorem State.queueTo_psgs (s : State) (m : Master) (e : EventRec) : (s.queueTo m e).psgs = s.psgs :=
  (State.queueTo_kept (m := 34) s _ _ rfl (kept_refl _ s)).2 .psgs rfl
@[simp] theorem State.queueTo_casc (s : State) (m : Master) (e : EventRec) : (s.queueTo m e).casc = s.casc :=
  (State.queueTo_kept (m := 34) s _ _ rfl (kept_refl _ s)).2 .casc rfl
@[simp] theorem State.queueTo_sent (s : State) (m : Master) (e : EventRec) : (s.queueTo m e).sent = s.sent :=
  (State.queueTo_kept (m := 34) s _ _ rfl (kept_refl _ s)).2 .sent rfl
@[simp] theorem State.queueTo_fresh (s : State) (m : Master) (e : EventRec) : (s.queueTo m e).fresh = s.fresh :=
  (State.queueTo_kept (m := 34) s _ _ rfl (kept_refl _ s)).2 .fresh rfl

@[simp] theorem State.queueAll_pending (s : State) (e : EventRec) : (s.queueAll e).pending = s.pending :=
  (State.queueAll_kept (m := 34) s _ rfl (kept_refl _ s)).2 .pending rfl
@[simp] theorem State.queueAll_regs (s : State) (e : EventRec) : (s.queueAll e).regs = s.regs :=
  (State.queueAll_kept (m := 34) s _ rfl (kept_refl _ s)).2 .regs rfl
@[simp] theorem State.queueAll_latched (s : State) (e : EventRec) : (s.queueAll e).latched = s.latched :=
  (State.queueAll_kept (m := 34) s _ rfl (kept_refl _ s)).2 .latched rfl
@[simp] theorem State.queueAll_clk (s : State) (e : EventRec) : (s.queueAll e).clk = s.clk :=
  (State.queueAll_kept (m := 34) s _ rfl (kept_refl _ s)).2 .clk rfl
@[simp] theorem State.queueAll_nvm (s : State) (e : EventRec) : (s.queueAll e).nvm = s.nvm :=
  (State.queueAll_kept (m := 34) s _ rfl (kept_refl _ s)).2 .nvm rfl
@[simp] theorem State.queueAll_stage (s : State) (e : EventRec) : (s.queueAll e).stage = s.stage :=
  (State.queueAll_kept (m := 34) s _ rfl (kept_refl _ s)).2 .stage rfl
@[simp] theorem State.queueAll_ucie (s : State) (e : EventRec) : (s.queueAll e).ucie = s.ucie :=
  (State.queueAll_kept (m := 34) s _ rfl (kept_refl _ s)).2 .ucie rfl
@[simp] theorem State.queueAll_boot (s : State) (e : EventRec) : (s.queueAll e).boot = s.boot :=
  (State.queueAll_kept (m := 34) s _ rfl (kept_refl _ s)).2 .boot rfl
@[simp] theorem State.queueAll_life (s : State) (e : EventRec) : (s.queueAll e).life = s.life :=
  (State.queueAll_kept (m := 34) s _ rfl (kept_refl _ s)).2 .life rfl
@[simp] theorem State.queueAll_snuffs (s : State) (e : EventRec) : (s.queueAll e).snuffs = s.snuffs :=
  (State.queueAll_kept (m := 34) s _ rfl (kept_refl _ s)).2 .snuffs rfl
@[simp] theorem State.queueAll_limits (s : State) (e : EventRec) : (s.queueAll e).limits = s.limits :=
  (State.queueAll_kept (m := 34) s _ rfl (kept_refl _ s)).2 .limits rfl
@[simp] theorem State.queueAll_lanes (s : State) (e : EventRec) : (s.queueAll e).lanes = s.lanes :=
  (State.queueAll_kept (m := 34) s _ rfl (kept_refl _ s)).2 .lanes rfl
@[simp] theorem State.queueAll_cages (s : State) (e : EventRec) : (s.queueAll e).cages = s.cages :=
  (State.queueAll_kept (m := 34) s _ rfl (kept_refl _ s)).2 .cages rfl
@[simp] theorem State.queueAll_eqRuns (s : State) (e : EventRec) : (s.queueAll e).eqRuns = s.eqRuns :=
  (State.queueAll_kept (m := 34) s _ rfl (kept_refl _ s)).2 .eqRuns rfl
@[simp] theorem State.queueAll_framers (s : State) (e : EventRec) : (s.queueAll e).framers = s.framers :=
  (State.queueAll_kept (m := 34) s _ rfl (kept_refl _ s)).2 .framers rfl
@[simp] theorem State.queueAll_lineRun (s : State) (e : EventRec) : (s.queueAll e).lineRun = s.lineRun :=
  (State.queueAll_kept (m := 34) s _ rfl (kept_refl _ s)).2 .lineRun rfl
@[simp] theorem State.queueAll_gal (s : State) (e : EventRec) : (s.queueAll e).gal = s.gal :=
  (State.queueAll_kept (m := 34) s _ rfl (kept_refl _ s)).2 .gal rfl
@[simp] theorem State.queueAll_frags (s : State) (e : EventRec) : (s.queueAll e).frags = s.frags :=
  (State.queueAll_kept (m := 34) s _ rfl (kept_refl _ s)).2 .frags rfl
@[simp] theorem State.queueAll_tm (s : State) (e : EventRec) : (s.queueAll e).tm = s.tm :=
  (State.queueAll_kept (m := 34) s _ rfl (kept_refl _ s)).2 .tm rfl
@[simp] theorem State.queueAll_terms (s : State) (e : EventRec) : (s.queueAll e).terms = s.terms :=
  (State.queueAll_kept (m := 34) s _ rfl (kept_refl _ s)).2 .terms rfl
@[simp] theorem State.queueAll_acts (s : State) (e : EventRec) : (s.queueAll e).acts = s.acts :=
  (State.queueAll_kept (m := 34) s _ rfl (kept_refl _ s)).2 .acts rfl
@[simp] theorem State.queueAll_logEvents (s : State) (e : EventRec) : (s.queueAll e).logEvents = s.logEvents :=
  (State.queueAll_kept (m := 34) s _ rfl (kept_refl _ s)).2 .logEvents rfl
@[simp] theorem State.queueAll_grants (s : State) (e : EventRec) : (s.queueAll e).grants = s.grants :=
  (State.queueAll_kept (m := 34) s _ rfl (kept_refl _ s)).2 .grants rfl
@[simp] theorem State.queueAll_ciph (s : State) (e : EventRec) : (s.queueAll e).ciph = s.ciph :=
  (State.queueAll_kept (m := 34) s _ rfl (kept_refl _ s)).2 .ciph rfl
@[simp] theorem State.queueAll_uplinks (s : State) (e : EventRec) : (s.queueAll e).uplinks = s.uplinks :=
  (State.queueAll_kept (m := 34) s _ rfl (kept_refl _ s)).2 .uplinks rfl
@[simp] theorem State.queueAll_psgs (s : State) (e : EventRec) : (s.queueAll e).psgs = s.psgs :=
  (State.queueAll_kept (m := 34) s _ rfl (kept_refl _ s)).2 .psgs rfl
@[simp] theorem State.queueAll_casc (s : State) (e : EventRec) : (s.queueAll e).casc = s.casc :=
  (State.queueAll_kept (m := 34) s _ rfl (kept_refl _ s)).2 .casc rfl
@[simp] theorem State.queueAll_sent (s : State) (e : EventRec) : (s.queueAll e).sent = s.sent :=
  (State.queueAll_kept (m := 34) s _ rfl (kept_refl _ s)).2 .sent rfl
@[simp] theorem State.queueAll_fresh (s : State) (e : EventRec) : (s.queueAll e).fresh = s.fresh :=
  (State.queueAll_kept (m := 34) s _ rfl (kept_refl _ s)).2 .fresh rfl

@[simp] theorem State.raiseL_pending (s : State) (k : Nat) (o : Obj) (i : Nat) (d : List Byte) : (s.raiseL k o i d).pending = s.pending :=
  (State.raiseL_kept (m := 34) s _ _ _ _ rfl (kept_refl _ s)).2 .pending rfl
@[simp] theorem State.raiseL_regs (s : State) (k : Nat) (o : Obj) (i : Nat) (d : List Byte) : (s.raiseL k o i d).regs = s.regs :=
  (State.raiseL_kept (m := 34) s _ _ _ _ rfl (kept_refl _ s)).2 .regs rfl
@[simp] theorem State.raiseL_latched (s : State) (k : Nat) (o : Obj) (i : Nat) (d : List Byte) : (s.raiseL k o i d).latched = s.latched :=
  (State.raiseL_kept (m := 34) s _ _ _ _ rfl (kept_refl _ s)).2 .latched rfl
@[simp] theorem State.raiseL_clk (s : State) (k : Nat) (o : Obj) (i : Nat) (d : List Byte) : (s.raiseL k o i d).clk = s.clk :=
  (State.raiseL_kept (m := 34) s _ _ _ _ rfl (kept_refl _ s)).2 .clk rfl
@[simp] theorem State.raiseL_nvm (s : State) (k : Nat) (o : Obj) (i : Nat) (d : List Byte) : (s.raiseL k o i d).nvm = s.nvm :=
  (State.raiseL_kept (m := 34) s _ _ _ _ rfl (kept_refl _ s)).2 .nvm rfl
@[simp] theorem State.raiseL_stage (s : State) (k : Nat) (o : Obj) (i : Nat) (d : List Byte) : (s.raiseL k o i d).stage = s.stage :=
  (State.raiseL_kept (m := 34) s _ _ _ _ rfl (kept_refl _ s)).2 .stage rfl
@[simp] theorem State.raiseL_ucie (s : State) (k : Nat) (o : Obj) (i : Nat) (d : List Byte) : (s.raiseL k o i d).ucie = s.ucie :=
  (State.raiseL_kept (m := 34) s _ _ _ _ rfl (kept_refl _ s)).2 .ucie rfl
@[simp] theorem State.raiseL_boot (s : State) (k : Nat) (o : Obj) (i : Nat) (d : List Byte) : (s.raiseL k o i d).boot = s.boot :=
  (State.raiseL_kept (m := 34) s _ _ _ _ rfl (kept_refl _ s)).2 .boot rfl
@[simp] theorem State.raiseL_life (s : State) (k : Nat) (o : Obj) (i : Nat) (d : List Byte) : (s.raiseL k o i d).life = s.life :=
  (State.raiseL_kept (m := 34) s _ _ _ _ rfl (kept_refl _ s)).2 .life rfl
@[simp] theorem State.raiseL_snuffs (s : State) (k : Nat) (o : Obj) (i : Nat) (d : List Byte) : (s.raiseL k o i d).snuffs = s.snuffs :=
  (State.raiseL_kept (m := 34) s _ _ _ _ rfl (kept_refl _ s)).2 .snuffs rfl
@[simp] theorem State.raiseL_limits (s : State) (k : Nat) (o : Obj) (i : Nat) (d : List Byte) : (s.raiseL k o i d).limits = s.limits :=
  (State.raiseL_kept (m := 34) s _ _ _ _ rfl (kept_refl _ s)).2 .limits rfl
@[simp] theorem State.raiseL_lanes (s : State) (k : Nat) (o : Obj) (i : Nat) (d : List Byte) : (s.raiseL k o i d).lanes = s.lanes :=
  (State.raiseL_kept (m := 34) s _ _ _ _ rfl (kept_refl _ s)).2 .lanes rfl
@[simp] theorem State.raiseL_cages (s : State) (k : Nat) (o : Obj) (i : Nat) (d : List Byte) : (s.raiseL k o i d).cages = s.cages :=
  (State.raiseL_kept (m := 34) s _ _ _ _ rfl (kept_refl _ s)).2 .cages rfl
@[simp] theorem State.raiseL_eqRuns (s : State) (k : Nat) (o : Obj) (i : Nat) (d : List Byte) : (s.raiseL k o i d).eqRuns = s.eqRuns :=
  (State.raiseL_kept (m := 34) s _ _ _ _ rfl (kept_refl _ s)).2 .eqRuns rfl
@[simp] theorem State.raiseL_framers (s : State) (k : Nat) (o : Obj) (i : Nat) (d : List Byte) : (s.raiseL k o i d).framers = s.framers :=
  (State.raiseL_kept (m := 34) s _ _ _ _ rfl (kept_refl _ s)).2 .framers rfl
@[simp] theorem State.raiseL_lineRun (s : State) (k : Nat) (o : Obj) (i : Nat) (d : List Byte) : (s.raiseL k o i d).lineRun = s.lineRun :=
  (State.raiseL_kept (m := 34) s _ _ _ _ rfl (kept_refl _ s)).2 .lineRun rfl
@[simp] theorem State.raiseL_gal (s : State) (k : Nat) (o : Obj) (i : Nat) (d : List Byte) : (s.raiseL k o i d).gal = s.gal :=
  (State.raiseL_kept (m := 34) s _ _ _ _ rfl (kept_refl _ s)).2 .gal rfl
@[simp] theorem State.raiseL_frags (s : State) (k : Nat) (o : Obj) (i : Nat) (d : List Byte) : (s.raiseL k o i d).frags = s.frags :=
  (State.raiseL_kept (m := 34) s _ _ _ _ rfl (kept_refl _ s)).2 .frags rfl
@[simp] theorem State.raiseL_tm (s : State) (k : Nat) (o : Obj) (i : Nat) (d : List Byte) : (s.raiseL k o i d).tm = s.tm :=
  (State.raiseL_kept (m := 34) s _ _ _ _ rfl (kept_refl _ s)).2 .tm rfl
@[simp] theorem State.raiseL_terms (s : State) (k : Nat) (o : Obj) (i : Nat) (d : List Byte) : (s.raiseL k o i d).terms = s.terms :=
  (State.raiseL_kept (m := 34) s _ _ _ _ rfl (kept_refl _ s)).2 .terms rfl
@[simp] theorem State.raiseL_acts (s : State) (k : Nat) (o : Obj) (i : Nat) (d : List Byte) : (s.raiseL k o i d).acts = s.acts :=
  (State.raiseL_kept (m := 34) s _ _ _ _ rfl (kept_refl _ s)).2 .acts rfl
@[simp] theorem State.raiseL_logEvents (s : State) (k : Nat) (o : Obj) (i : Nat) (d : List Byte) : (s.raiseL k o i d).logEvents = s.logEvents :=
  (State.raiseL_kept (m := 34) s _ _ _ _ rfl (kept_refl _ s)).2 .logEvents rfl
@[simp] theorem State.raiseL_grants (s : State) (k : Nat) (o : Obj) (i : Nat) (d : List Byte) : (s.raiseL k o i d).grants = s.grants :=
  (State.raiseL_kept (m := 34) s _ _ _ _ rfl (kept_refl _ s)).2 .grants rfl
@[simp] theorem State.raiseL_ciph (s : State) (k : Nat) (o : Obj) (i : Nat) (d : List Byte) : (s.raiseL k o i d).ciph = s.ciph :=
  (State.raiseL_kept (m := 34) s _ _ _ _ rfl (kept_refl _ s)).2 .ciph rfl
@[simp] theorem State.raiseL_uplinks (s : State) (k : Nat) (o : Obj) (i : Nat) (d : List Byte) : (s.raiseL k o i d).uplinks = s.uplinks :=
  (State.raiseL_kept (m := 34) s _ _ _ _ rfl (kept_refl _ s)).2 .uplinks rfl
@[simp] theorem State.raiseL_psgs (s : State) (k : Nat) (o : Obj) (i : Nat) (d : List Byte) : (s.raiseL k o i d).psgs = s.psgs :=
  (State.raiseL_kept (m := 34) s _ _ _ _ rfl (kept_refl _ s)).2 .psgs rfl
@[simp] theorem State.raiseL_casc (s : State) (k : Nat) (o : Obj) (i : Nat) (d : List Byte) : (s.raiseL k o i d).casc = s.casc :=
  (State.raiseL_kept (m := 34) s _ _ _ _ rfl (kept_refl _ s)).2 .casc rfl
@[simp] theorem State.raiseL_sent (s : State) (k : Nat) (o : Obj) (i : Nat) (d : List Byte) : (s.raiseL k o i d).sent = s.sent :=
  (State.raiseL_kept (m := 34) s _ _ _ _ rfl (kept_refl _ s)).2 .sent rfl
@[simp] theorem State.raiseL_fresh (s : State) (k : Nat) (o : Obj) (i : Nat) (d : List Byte) : (s.raiseL k o i d).fresh = s.fresh :=
  (State.raiseL_kept (m := 34) s _ _ _ _ rfl (kept_refl _ s)).2 .fresh rfl

@[simp] theorem State.raise_pending (s : State) (k : Nat) (o : Obj) (i : Nat) (d : List Byte) : (s.raise k o i d).pending = s.pending :=
  (State.raise_kept (m := 290) s _ _ _ _ rfl (kept_refl _ s)).2 .pending rfl
@[simp] theorem State.raise_regs (s : State) (k : Nat) (o : Obj) (i : Nat) (d : List Byte) : (s.raise k o i d).regs = s.regs :=
  (State.raise_kept (m := 290) s _ _ _ _ rfl (kept_refl _ s)).2 .regs rfl
@[simp] theorem State.raise_latched (s : State) (k : Nat) (o : Obj) (i : Nat) (d : List Byte) : (s.raise k o i d).latched = s.latched :=
  (State.raise_kept (m := 290) s _ _ _ _ rfl (kept_refl _ s)).2 .latched rfl
@[simp] theorem State.raise_clk (s : State) (k : Nat) (o : Obj) (i : Nat) (d : List Byte) : (s.raise k o i d).clk = s.clk :=
  (State.raise_kept (m := 290) s _ _ _ _ rfl (kept_refl _ s)).2 .clk rfl
@[simp] theorem State.raise_nvm (s : State) (k : Nat) (o : Obj) (i : Nat) (d : List Byte) : (s.raise k o i d).nvm = s.nvm :=
  (State.raise_kept (m := 290) s _ _ _ _ rfl (kept_refl _ s)).2 .nvm rfl
@[simp] theorem State.raise_stage (s : State) (k : Nat) (o : Obj) (i : Nat) (d : List Byte) : (s.raise k o i d).stage = s.stage :=
  (State.raise_kept (m := 290) s _ _ _ _ rfl (kept_refl _ s)).2 .stage rfl
@[simp] theorem State.raise_boot (s : State) (k : Nat) (o : Obj) (i : Nat) (d : List Byte) : (s.raise k o i d).boot = s.boot :=
  (State.raise_kept (m := 290) s _ _ _ _ rfl (kept_refl _ s)).2 .boot rfl
@[simp] theorem State.raise_life (s : State) (k : Nat) (o : Obj) (i : Nat) (d : List Byte) : (s.raise k o i d).life = s.life :=
  (State.raise_kept (m := 290) s _ _ _ _ rfl (kept_refl _ s)).2 .life rfl
@[simp] theorem State.raise_snuffs (s : State) (k : Nat) (o : Obj) (i : Nat) (d : List Byte) : (s.raise k o i d).snuffs = s.snuffs :=
  (State.raise_kept (m := 290) s _ _ _ _ rfl (kept_refl _ s)).2 .snuffs rfl
@[simp] theorem State.raise_limits (s : State) (k : Nat) (o : Obj) (i : Nat) (d : List Byte) : (s.raise k o i d).limits = s.limits :=
  (State.raise_kept (m := 290) s _ _ _ _ rfl (kept_refl _ s)).2 .limits rfl
@[simp] theorem State.raise_lanes (s : State) (k : Nat) (o : Obj) (i : Nat) (d : List Byte) : (s.raise k o i d).lanes = s.lanes :=
  (State.raise_kept (m := 290) s _ _ _ _ rfl (kept_refl _ s)).2 .lanes rfl
@[simp] theorem State.raise_cages (s : State) (k : Nat) (o : Obj) (i : Nat) (d : List Byte) : (s.raise k o i d).cages = s.cages :=
  (State.raise_kept (m := 290) s _ _ _ _ rfl (kept_refl _ s)).2 .cages rfl
@[simp] theorem State.raise_eqRuns (s : State) (k : Nat) (o : Obj) (i : Nat) (d : List Byte) : (s.raise k o i d).eqRuns = s.eqRuns :=
  (State.raise_kept (m := 290) s _ _ _ _ rfl (kept_refl _ s)).2 .eqRuns rfl
@[simp] theorem State.raise_framers (s : State) (k : Nat) (o : Obj) (i : Nat) (d : List Byte) : (s.raise k o i d).framers = s.framers :=
  (State.raise_kept (m := 290) s _ _ _ _ rfl (kept_refl _ s)).2 .framers rfl
@[simp] theorem State.raise_lineRun (s : State) (k : Nat) (o : Obj) (i : Nat) (d : List Byte) : (s.raise k o i d).lineRun = s.lineRun :=
  (State.raise_kept (m := 290) s _ _ _ _ rfl (kept_refl _ s)).2 .lineRun rfl
@[simp] theorem State.raise_gal (s : State) (k : Nat) (o : Obj) (i : Nat) (d : List Byte) : (s.raise k o i d).gal = s.gal :=
  (State.raise_kept (m := 290) s _ _ _ _ rfl (kept_refl _ s)).2 .gal rfl
@[simp] theorem State.raise_frags (s : State) (k : Nat) (o : Obj) (i : Nat) (d : List Byte) : (s.raise k o i d).frags = s.frags :=
  (State.raise_kept (m := 290) s _ _ _ _ rfl (kept_refl _ s)).2 .frags rfl
@[simp] theorem State.raise_tm (s : State) (k : Nat) (o : Obj) (i : Nat) (d : List Byte) : (s.raise k o i d).tm = s.tm :=
  (State.raise_kept (m := 290) s _ _ _ _ rfl (kept_refl _ s)).2 .tm rfl
@[simp] theorem State.raise_terms (s : State) (k : Nat) (o : Obj) (i : Nat) (d : List Byte) : (s.raise k o i d).terms = s.terms :=
  (State.raise_kept (m := 290) s _ _ _ _ rfl (kept_refl _ s)).2 .terms rfl
@[simp] theorem State.raise_acts (s : State) (k : Nat) (o : Obj) (i : Nat) (d : List Byte) : (s.raise k o i d).acts = s.acts :=
  (State.raise_kept (m := 290) s _ _ _ _ rfl (kept_refl _ s)).2 .acts rfl
@[simp] theorem State.raise_logEvents (s : State) (k : Nat) (o : Obj) (i : Nat) (d : List Byte) : (s.raise k o i d).logEvents = s.logEvents :=
  (State.raise_kept (m := 290) s _ _ _ _ rfl (kept_refl _ s)).2 .logEvents rfl
@[simp] theorem State.raise_grants (s : State) (k : Nat) (o : Obj) (i : Nat) (d : List Byte) : (s.raise k o i d).grants = s.grants :=
  (State.raise_kept (m := 290) s _ _ _ _ rfl (kept_refl _ s)).2 .grants rfl
@[simp] theorem State.raise_ciph (s : State) (k : Nat) (o : Obj) (i : Nat) (d : List Byte) : (s.raise k o i d).ciph = s.ciph :=
  (State.raise_kept (m := 290) s _ _ _ _ rfl (kept_refl _ s)).2 .ciph rfl
@[simp] theorem State.raise_uplinks (s : State) (k : Nat) (o : Obj) (i : Nat) (d : List Byte) : (s.raise k o i d).uplinks = s.uplinks :=
  (State.raise_kept (m := 290) s _ _ _ _ rfl (kept_refl _ s)).2 .uplinks rfl
@[simp] theorem State.raise_psgs (s : State) (k : Nat) (o : Obj) (i : Nat) (d : List Byte) : (s.raise k o i d).psgs = s.psgs :=
  (State.raise_kept (m := 290) s _ _ _ _ rfl (kept_refl _ s)).2 .psgs rfl
@[simp] theorem State.raise_casc (s : State) (k : Nat) (o : Obj) (i : Nat) (d : List Byte) : (s.raise k o i d).casc = s.casc :=
  (State.raise_kept (m := 290) s _ _ _ _ rfl (kept_refl _ s)).2 .casc rfl
@[simp] theorem State.raise_sent (s : State) (k : Nat) (o : Obj) (i : Nat) (d : List Byte) : (s.raise k o i d).sent = s.sent :=
  (State.raise_kept (m := 290) s _ _ _ _ rfl (kept_refl _ s)).2 .sent rfl
@[simp] theorem State.raise_fresh (s : State) (k : Nat) (o : Obj) (i : Nat) (d : List Byte) : (s.raise k o i d).fresh = s.fresh :=
  (State.raise_kept (m := 290) s _ _ _ _ rfl (kept_refl _ s)).2 .fresh rfl

/-- An event changes no object but SconceEventsLost. -/
theorem State.val_queueTo (s : State) (m : Master) (e : EventRec) {p : Obj} {j : Nat}
    (h : p.code ≠ Obj.sconceEventsLost.code) (hj : j < 16777216) : (s.queueTo m e).val p j = s.val p j := by
  simp only [State.queueTo]
  split
  · split
    · exact (State.val_bump_obj _ _ h (by decide) hj)
    · rfl
  · rfl

theorem State.val_queueAll (s : State) (e : EventRec) {p : Obj} {j : Nat}
    (h : p.code ≠ Obj.sconceEventsLost.code) (hj : j < 16777216) : (s.queueAll e).val p j = s.val p j := by
  simp only [State.queueAll, State.val_queueTo _ _ _ h hj]

theorem State.val_raiseL (s : State) (k : Nat) (o : Obj) (i : Nat) (d : List Byte) {p : Obj} {j : Nat}
    (h : p.code ≠ Obj.sconceEventsLost.code) (hj : j < 16777216) : (s.raiseL k o i d).val p j = s.val p j := by
  simp only [State.raiseL]
  split
  · exact State.val_queueAll s _ h hj
  · rfl

theorem State.val_raise (s : State) (k : Nat) (o : Obj) (i : Nat) (d : List Byte) {p : Obj} {j : Nat}
    (h : p.code ≠ Obj.sconceEventsLost.code) (hj : j < 16777216) : (s.raise k o i d).val p j = s.val p j := by
  simp only [State.raise]
  split
  · split <;> rfl
  · exact State.val_raiseL s k o i d h hj

@[simp] theorem State.now_raise (s : State) (k : Nat) (o : Obj) (i : Nat) (d : List Byte) : (s.raise k o i d).now = s.now := by
  simp [State.now]
@[simp] theorem State.wick_raise (s : State) (k : Nat) (o : Obj) (i : Nat) (d : List Byte) : (s.raise k o i d).wick = s.wick := by
  simp [State.wick]
@[simp] theorem State.reg_raise (s : State) (k : Nat) (o : Obj) (i : Nat) (d : List Byte) (a : Nat) :
    (s.raise k o i d).reg a = s.reg a := State.reg_of_regs (by simp) a

/-- An event leaves the messages, claims and writes of Lantern alone. -/
theorem State.queueTo_lan (s : State) (m : Master) (e : EventRec) :
    (s.queueTo m e).lan = { s.lan with masters := (s.queueTo m e).lan.masters } := by
  simp only [State.queueTo]
  split
  · split <;> simp
  · rfl

theorem State.raiseL_lan (s : State) (k : Nat) (o : Obj) (i : Nat) (d : List Byte) :
    (s.raiseL k o i d).lan = { s.lan with masters := (s.raiseL k o i d).lan.masters } := by
  simp only [State.raiseL]
  split
  · simp only [State.queueAll]
    rw [State.queueTo_lan, State.queueTo_lan (State.queueTo _ _ _), State.queueTo_lan s]
  · rfl

theorem State.raise_lan (s : State) (k : Nat) (o : Obj) (i : Nat) (d : List Byte) :
    (s.raise k o i d).lan = { s.lan with masters := (s.raise k o i d).lan.masters } := by
  simp only [State.raise]
  split
  · split <;> rfl
  · exact State.raiseL_lan s k o i d

/-! ### Rate limits, lines and the lifetime record -/

@[simp] theorem State.lineAdd_pending (s : State) (l k n : Nat) : (s.lineAdd l k n).pending = s.pending :=
  (State.lineAdd_kept (m := 131072) s _ _ _ rfl (kept_refl _ s)).2 .pending rfl
@[simp] theorem State.lineAdd_objs (s : State) (l k n : Nat) : (s.lineAdd l k n).objs = s.objs :=
  (State.lineAdd_kept (m := 131072) s _ _ _ rfl (kept_refl _ s)).2 .objs rfl
@[simp] theorem State.lineAdd_regs (s : State) (l k n : Nat) : (s.lineAdd l k n).regs = s.regs :=
  (State.lineAdd_kept (m := 131072) s _ _ _ rfl (kept_refl _ s)).2 .regs rfl
@[simp] theorem State.lineAdd_latched (s : State) (l k n : Nat) : (s.lineAdd l k n).latched = s.latched :=
  (State.lineAdd_kept (m := 131072) s _ _ _ rfl (kept_refl _ s)).2 .latched rfl
@[simp] theorem State.lineAdd_clk (s : State) (l k n : Nat) : (s.lineAdd l k n).clk = s.clk :=
  (State.lineAdd_kept (m := 131072) s _ _ _ rfl (kept_refl _ s)).2 .clk rfl
@[simp] theorem State.lineAdd_lan (s : State) (l k n : Nat) : (s.lineAdd l k n).lan = s.lan :=
  (State.lineAdd_kept (m := 131072) s _ _ _ rfl (kept_refl _ s)).2 .lan rfl
@[simp] theorem State.lineAdd_nvm (s : State) (l k n : Nat) : (s.lineAdd l k n).nvm = s.nvm :=
  (State.lineAdd_kept (m := 131072) s _ _ _ rfl (kept_refl _ s)).2 .nvm rfl
@[simp] theorem State.lineAdd_stage (s : State) (l k n : Nat) : (s.lineAdd l k n).stage = s.stage :=
  (State.lineAdd_kept (m := 131072) s _ _ _ rfl (kept_refl _ s)).2 .stage rfl
@[simp] theorem State.lineAdd_ucie (s : State) (l k n : Nat) : (s.lineAdd l k n).ucie = s.ucie :=
  (State.lineAdd_kept (m := 131072) s _ _ _ rfl (kept_refl _ s)).2 .ucie rfl
@[simp] theorem State.lineAdd_boot (s : State) (l k n : Nat) : (s.lineAdd l k n).boot = s.boot :=
  (State.lineAdd_kept (m := 131072) s _ _ _ rfl (kept_refl _ s)).2 .boot rfl
@[simp] theorem State.lineAdd_life (s : State) (l k n : Nat) : (s.lineAdd l k n).life = s.life :=
  (State.lineAdd_kept (m := 131072) s _ _ _ rfl (kept_refl _ s)).2 .life rfl
@[simp] theorem State.lineAdd_snuffs (s : State) (l k n : Nat) : (s.lineAdd l k n).snuffs = s.snuffs :=
  (State.lineAdd_kept (m := 131072) s _ _ _ rfl (kept_refl _ s)).2 .snuffs rfl
@[simp] theorem State.lineAdd_limits (s : State) (l k n : Nat) : (s.lineAdd l k n).limits = s.limits :=
  (State.lineAdd_kept (m := 131072) s _ _ _ rfl (kept_refl _ s)).2 .limits rfl
@[simp] theorem State.lineAdd_lanes (s : State) (l k n : Nat) : (s.lineAdd l k n).lanes = s.lanes :=
  (State.lineAdd_kept (m := 131072) s _ _ _ rfl (kept_refl _ s)).2 .lanes rfl
@[simp] theorem State.lineAdd_cages (s : State) (l k n : Nat) : (s.lineAdd l k n).cages = s.cages :=
  (State.lineAdd_kept (m := 131072) s _ _ _ rfl (kept_refl _ s)).2 .cages rfl
@[simp] theorem State.lineAdd_eqRuns (s : State) (l k n : Nat) : (s.lineAdd l k n).eqRuns = s.eqRuns :=
  (State.lineAdd_kept (m := 131072) s _ _ _ rfl (kept_refl _ s)).2 .eqRuns rfl
@[simp] theorem State.lineAdd_framers (s : State) (l k n : Nat) : (s.lineAdd l k n).framers = s.framers :=
  (State.lineAdd_kept (m := 131072) s _ _ _ rfl (kept_refl _ s)).2 .framers rfl
@[simp] theorem State.lineAdd_gal (s : State) (l k n : Nat) : (s.lineAdd l k n).gal = s.gal :=
  (State.lineAdd_kept (m := 131072) s _ _ _ rfl (kept_refl _ s)).2 .gal rfl
@[simp] theorem State.lineAdd_frags (s : State) (l k n : Nat) : (s.lineAdd l k n).frags = s.frags :=
  (State.lineAdd_kept (m := 131072) s _ _ _ rfl (kept_refl _ s)).2 .frags rfl
@[simp] theorem State.lineAdd_tm (s : State) (l k n : Nat) : (s.lineAdd l k n).tm = s.tm :=
  (State.lineAdd_kept (m := 131072) s _ _ _ rfl (kept_refl _ s)).2 .tm rfl
@[simp] theorem State.lineAdd_terms (s : State) (l k n : Nat) : (s.lineAdd l k n).terms = s.terms :=
  (State.lineAdd_kept (m := 131072) s _ _ _ rfl (kept_refl _ s)).2 .terms rfl
@[simp] theorem State.lineAdd_acts (s : State) (l k n : Nat) : (s.lineAdd l k n).acts = s.acts :=
  (State.lineAdd_kept (m := 131072) s _ _ _ rfl (kept_refl _ s)).2 .acts rfl
@[simp] theorem State.lineAdd_logEvents (s : State) (l k n : Nat) : (s.lineAdd l k n).logEvents = s.logEvents :=
  (State.lineAdd_kept (m := 131072) s _ _ _ rfl (kept_refl _ s)).2 .logEvents rfl
@[simp] theorem State.lineAdd_grants (s : State) (l k n : Nat) : (s.lineAdd l k n).grants = s.grants :=
  (State.lineAdd_kept (m := 131072) s _ _ _ rfl (kept_refl _ s)).2 .grants rfl
@[simp] theorem State.lineAdd_ciph (s : State) (l k n : Nat) : (s.lineAdd l k n).ciph = s.ciph :=
  (State.lineAdd_kept (m := 131072) s _ _ _ rfl (kept_refl _ s)).2 .ciph rfl
@[simp] theorem State.lineAdd_uplinks (s : State) (l k n : Nat) : (s.lineAdd l k n).uplinks = s.uplinks :=
  (State.lineAdd_kept (m := 131072) s _ _ _ rfl (kept_refl _ s)).2 .uplinks rfl
@[simp] theorem State.lineAdd_psgs (s : State) (l k n : Nat) : (s.lineAdd l k n).psgs = s.psgs :=
  (State.lineAdd_kept (m := 131072) s _ _ _ rfl (kept_refl _ s)).2 .psgs rfl
@[simp] theorem State.lineAdd_casc (s : State) (l k n : Nat) : (s.lineAdd l k n).casc = s.casc :=
  (State.lineAdd_kept (m := 131072) s _ _ _ rfl (kept_refl _ s)).2 .casc rfl
@[simp] theorem State.lineAdd_sent (s : State) (l k n : Nat) : (s.lineAdd l k n).sent = s.sent :=
  (State.lineAdd_kept (m := 131072) s _ _ _ rfl (kept_refl _ s)).2 .sent rfl
@[simp] theorem State.lineAdd_fresh (s : State) (l k n : Nat) : (s.lineAdd l k n).fresh = s.fresh :=
  (State.lineAdd_kept (m := 131072) s _ _ _ rfl (kept_refl _ s)).2 .fresh rfl

@[simp] theorem State.lifeCount_pending (s : State) (i k : Nat) : (s.lifeCount i k).pending = s.pending :=
  (State.lifeCount_kept (m := 1024) s _ _ rfl (kept_refl _ s)).2 .pending rfl
@[simp] theorem State.lifeCount_objs (s : State) (i k : Nat) : (s.lifeCount i k).objs = s.objs :=
  (State.lifeCount_kept (m := 1024) s _ _ rfl (kept_refl _ s)).2 .objs rfl
@[simp] theorem State.lifeCount_regs (s : State) (i k : Nat) : (s.lifeCount i k).regs = s.regs :=
  (State.lifeCount_kept (m := 1024) s _ _ rfl (kept_refl _ s)).2 .regs rfl
@[simp] theorem State.lifeCount_latched (s : State) (i k : Nat) : (s.lifeCount i k).latched = s.latched :=
  (State.lifeCount_kept (m := 1024) s _ _ rfl (kept_refl _ s)).2 .latched rfl
@[simp] theorem State.lifeCount_clk (s : State) (i k : Nat) : (s.lifeCount i k).clk = s.clk :=
  (State.lifeCount_kept (m := 1024) s _ _ rfl (kept_refl _ s)).2 .clk rfl
@[simp] theorem State.lifeCount_lan (s : State) (i k : Nat) : (s.lifeCount i k).lan = s.lan :=
  (State.lifeCount_kept (m := 1024) s _ _ rfl (kept_refl _ s)).2 .lan rfl
@[simp] theorem State.lifeCount_nvm (s : State) (i k : Nat) : (s.lifeCount i k).nvm = s.nvm :=
  (State.lifeCount_kept (m := 1024) s _ _ rfl (kept_refl _ s)).2 .nvm rfl
@[simp] theorem State.lifeCount_stage (s : State) (i k : Nat) : (s.lifeCount i k).stage = s.stage :=
  (State.lifeCount_kept (m := 1024) s _ _ rfl (kept_refl _ s)).2 .stage rfl
@[simp] theorem State.lifeCount_ucie (s : State) (i k : Nat) : (s.lifeCount i k).ucie = s.ucie :=
  (State.lifeCount_kept (m := 1024) s _ _ rfl (kept_refl _ s)).2 .ucie rfl
@[simp] theorem State.lifeCount_boot (s : State) (i k : Nat) : (s.lifeCount i k).boot = s.boot :=
  (State.lifeCount_kept (m := 1024) s _ _ rfl (kept_refl _ s)).2 .boot rfl
@[simp] theorem State.lifeCount_snuffs (s : State) (i k : Nat) : (s.lifeCount i k).snuffs = s.snuffs :=
  (State.lifeCount_kept (m := 1024) s _ _ rfl (kept_refl _ s)).2 .snuffs rfl
@[simp] theorem State.lifeCount_limits (s : State) (i k : Nat) : (s.lifeCount i k).limits = s.limits :=
  (State.lifeCount_kept (m := 1024) s _ _ rfl (kept_refl _ s)).2 .limits rfl
@[simp] theorem State.lifeCount_lanes (s : State) (i k : Nat) : (s.lifeCount i k).lanes = s.lanes :=
  (State.lifeCount_kept (m := 1024) s _ _ rfl (kept_refl _ s)).2 .lanes rfl
@[simp] theorem State.lifeCount_cages (s : State) (i k : Nat) : (s.lifeCount i k).cages = s.cages :=
  (State.lifeCount_kept (m := 1024) s _ _ rfl (kept_refl _ s)).2 .cages rfl
@[simp] theorem State.lifeCount_eqRuns (s : State) (i k : Nat) : (s.lifeCount i k).eqRuns = s.eqRuns :=
  (State.lifeCount_kept (m := 1024) s _ _ rfl (kept_refl _ s)).2 .eqRuns rfl
@[simp] theorem State.lifeCount_framers (s : State) (i k : Nat) : (s.lifeCount i k).framers = s.framers :=
  (State.lifeCount_kept (m := 1024) s _ _ rfl (kept_refl _ s)).2 .framers rfl
@[simp] theorem State.lifeCount_lineRun (s : State) (i k : Nat) : (s.lifeCount i k).lineRun = s.lineRun :=
  (State.lifeCount_kept (m := 1024) s _ _ rfl (kept_refl _ s)).2 .lineRun rfl
@[simp] theorem State.lifeCount_gal (s : State) (i k : Nat) : (s.lifeCount i k).gal = s.gal :=
  (State.lifeCount_kept (m := 1024) s _ _ rfl (kept_refl _ s)).2 .gal rfl
@[simp] theorem State.lifeCount_frags (s : State) (i k : Nat) : (s.lifeCount i k).frags = s.frags :=
  (State.lifeCount_kept (m := 1024) s _ _ rfl (kept_refl _ s)).2 .frags rfl
@[simp] theorem State.lifeCount_tm (s : State) (i k : Nat) : (s.lifeCount i k).tm = s.tm :=
  (State.lifeCount_kept (m := 1024) s _ _ rfl (kept_refl _ s)).2 .tm rfl
@[simp] theorem State.lifeCount_terms (s : State) (i k : Nat) : (s.lifeCount i k).terms = s.terms :=
  (State.lifeCount_kept (m := 1024) s _ _ rfl (kept_refl _ s)).2 .terms rfl
@[simp] theorem State.lifeCount_acts (s : State) (i k : Nat) : (s.lifeCount i k).acts = s.acts :=
  (State.lifeCount_kept (m := 1024) s _ _ rfl (kept_refl _ s)).2 .acts rfl
@[simp] theorem State.lifeCount_logEvents (s : State) (i k : Nat) : (s.lifeCount i k).logEvents = s.logEvents :=
  (State.lifeCount_kept (m := 1024) s _ _ rfl (kept_refl _ s)).2 .logEvents rfl
@[simp] theorem State.lifeCount_grants (s : State) (i k : Nat) : (s.lifeCount i k).grants = s.grants :=
  (State.lifeCount_kept (m := 1024) s _ _ rfl (kept_refl _ s)).2 .grants rfl
@[simp] theorem State.lifeCount_ciph (s : State) (i k : Nat) : (s.lifeCount i k).ciph = s.ciph :=
  (State.lifeCount_kept (m := 1024) s _ _ rfl (kept_refl _ s)).2 .ciph rfl
@[simp] theorem State.lifeCount_uplinks (s : State) (i k : Nat) : (s.lifeCount i k).uplinks = s.uplinks :=
  (State.lifeCount_kept (m := 1024) s _ _ rfl (kept_refl _ s)).2 .uplinks rfl
@[simp] theorem State.lifeCount_psgs (s : State) (i k : Nat) : (s.lifeCount i k).psgs = s.psgs :=
  (State.lifeCount_kept (m := 1024) s _ _ rfl (kept_refl _ s)).2 .psgs rfl
@[simp] theorem State.lifeCount_casc (s : State) (i k : Nat) : (s.lifeCount i k).casc = s.casc :=
  (State.lifeCount_kept (m := 1024) s _ _ rfl (kept_refl _ s)).2 .casc rfl
@[simp] theorem State.lifeCount_sent (s : State) (i k : Nat) : (s.lifeCount i k).sent = s.sent :=
  (State.lifeCount_kept (m := 1024) s _ _ rfl (kept_refl _ s)).2 .sent rfl
@[simp] theorem State.lifeCount_fresh (s : State) (i k : Nat) : (s.lifeCount i k).fresh = s.fresh :=
  (State.lifeCount_kept (m := 1024) s _ _ rfl (kept_refl _ s)).2 .fresh rfl

/-! ### Counter units -/

@[simp] theorem State.countAdd_pending (s : State) (c k : Nat) : (s.countAdd c k).pending = s.pending :=
  (State.countAdd_kept (m := 4390) s _ _ rfl (kept_refl _ s)).2 .pending rfl
@[simp] theorem State.countAdd_latched (s : State) (c k : Nat) : (s.countAdd c k).latched = s.latched :=
  (State.countAdd_kept (m := 4390) s _ _ rfl (kept_refl _ s)).2 .latched rfl
@[simp] theorem State.countAdd_clk (s : State) (c k : Nat) : (s.countAdd c k).clk = s.clk :=
  (State.countAdd_kept (m := 4390) s _ _ rfl (kept_refl _ s)).2 .clk rfl
@[simp] theorem State.countAdd_nvm (s : State) (c k : Nat) : (s.countAdd c k).nvm = s.nvm :=
  (State.countAdd_kept (m := 4390) s _ _ rfl (kept_refl _ s)).2 .nvm rfl
@[simp] theorem State.countAdd_stage (s : State) (c k : Nat) : (s.countAdd c k).stage = s.stage :=
  (State.countAdd_kept (m := 4390) s _ _ rfl (kept_refl _ s)).2 .stage rfl
@[simp] theorem State.countAdd_boot (s : State) (c k : Nat) : (s.countAdd c k).boot = s.boot :=
  (State.countAdd_kept (m := 4390) s _ _ rfl (kept_refl _ s)).2 .boot rfl
@[simp] theorem State.countAdd_life (s : State) (c k : Nat) : (s.countAdd c k).life = s.life :=
  (State.countAdd_kept (m := 4390) s _ _ rfl (kept_refl _ s)).2 .life rfl
@[simp] theorem State.countAdd_snuffs (s : State) (c k : Nat) : (s.countAdd c k).snuffs = s.snuffs :=
  (State.countAdd_kept (m := 4390) s _ _ rfl (kept_refl _ s)).2 .snuffs rfl
@[simp] theorem State.countAdd_lanes (s : State) (c k : Nat) : (s.countAdd c k).lanes = s.lanes :=
  (State.countAdd_kept (m := 4390) s _ _ rfl (kept_refl _ s)).2 .lanes rfl
@[simp] theorem State.countAdd_cages (s : State) (c k : Nat) : (s.countAdd c k).cages = s.cages :=
  (State.countAdd_kept (m := 4390) s _ _ rfl (kept_refl _ s)).2 .cages rfl
@[simp] theorem State.countAdd_eqRuns (s : State) (c k : Nat) : (s.countAdd c k).eqRuns = s.eqRuns :=
  (State.countAdd_kept (m := 4390) s _ _ rfl (kept_refl _ s)).2 .eqRuns rfl
@[simp] theorem State.countAdd_framers (s : State) (c k : Nat) : (s.countAdd c k).framers = s.framers :=
  (State.countAdd_kept (m := 4390) s _ _ rfl (kept_refl _ s)).2 .framers rfl
@[simp] theorem State.countAdd_lineRun (s : State) (c k : Nat) : (s.countAdd c k).lineRun = s.lineRun :=
  (State.countAdd_kept (m := 4390) s _ _ rfl (kept_refl _ s)).2 .lineRun rfl
@[simp] theorem State.countAdd_gal (s : State) (c k : Nat) : (s.countAdd c k).gal = s.gal :=
  (State.countAdd_kept (m := 4390) s _ _ rfl (kept_refl _ s)).2 .gal rfl
@[simp] theorem State.countAdd_frags (s : State) (c k : Nat) : (s.countAdd c k).frags = s.frags :=
  (State.countAdd_kept (m := 4390) s _ _ rfl (kept_refl _ s)).2 .frags rfl
@[simp] theorem State.countAdd_tm (s : State) (c k : Nat) : (s.countAdd c k).tm = s.tm :=
  (State.countAdd_kept (m := 4390) s _ _ rfl (kept_refl _ s)).2 .tm rfl
@[simp] theorem State.countAdd_terms (s : State) (c k : Nat) : (s.countAdd c k).terms = s.terms :=
  (State.countAdd_kept (m := 4390) s _ _ rfl (kept_refl _ s)).2 .terms rfl
@[simp] theorem State.countAdd_acts (s : State) (c k : Nat) : (s.countAdd c k).acts = s.acts :=
  (State.countAdd_kept (m := 4390) s _ _ rfl (kept_refl _ s)).2 .acts rfl
@[simp] theorem State.countAdd_logEvents (s : State) (c k : Nat) : (s.countAdd c k).logEvents = s.logEvents :=
  (State.countAdd_kept (m := 4390) s _ _ rfl (kept_refl _ s)).2 .logEvents rfl
@[simp] theorem State.countAdd_grants (s : State) (c k : Nat) : (s.countAdd c k).grants = s.grants :=
  (State.countAdd_kept (m := 4390) s _ _ rfl (kept_refl _ s)).2 .grants rfl
@[simp] theorem State.countAdd_ciph (s : State) (c k : Nat) : (s.countAdd c k).ciph = s.ciph :=
  (State.countAdd_kept (m := 4390) s _ _ rfl (kept_refl _ s)).2 .ciph rfl
@[simp] theorem State.countAdd_uplinks (s : State) (c k : Nat) : (s.countAdd c k).uplinks = s.uplinks :=
  (State.countAdd_kept (m := 4390) s _ _ rfl (kept_refl _ s)).2 .uplinks rfl
@[simp] theorem State.countAdd_psgs (s : State) (c k : Nat) : (s.countAdd c k).psgs = s.psgs :=
  (State.countAdd_kept (m := 4390) s _ _ rfl (kept_refl _ s)).2 .psgs rfl
@[simp] theorem State.countAdd_casc (s : State) (c k : Nat) : (s.countAdd c k).casc = s.casc :=
  (State.countAdd_kept (m := 4390) s _ _ rfl (kept_refl _ s)).2 .casc rfl
@[simp] theorem State.countAdd_sent (s : State) (c k : Nat) : (s.countAdd c k).sent = s.sent :=
  (State.countAdd_kept (m := 4390) s _ _ rfl (kept_refl _ s)).2 .sent rfl
@[simp] theorem State.countAdd_fresh (s : State) (c k : Nat) : (s.countAdd c k).fresh = s.fresh :=
  (State.countAdd_kept (m := 4390) s _ _ rfl (kept_refl _ s)).2 .fresh rfl

@[simp] theorem State.count_pending (s : State) (ev inst k : Nat) : (s.count ev inst k).pending = s.pending :=
  (State.count_kept (m := 4390) s _ _ _ rfl (kept_refl _ s)).2 .pending rfl
@[simp] theorem State.count_latched (s : State) (ev inst k : Nat) : (s.count ev inst k).latched = s.latched :=
  (State.count_kept (m := 4390) s _ _ _ rfl (kept_refl _ s)).2 .latched rfl
@[simp] theorem State.count_clk (s : State) (ev inst k : Nat) : (s.count ev inst k).clk = s.clk :=
  (State.count_kept (m := 4390) s _ _ _ rfl (kept_refl _ s)).2 .clk rfl
@[simp] theorem State.count_nvm (s : State) (ev inst k : Nat) : (s.count ev inst k).nvm = s.nvm :=
  (State.count_kept (m := 4390) s _ _ _ rfl (kept_refl _ s)).2 .nvm rfl
@[simp] theorem State.count_stage (s : State) (ev inst k : Nat) : (s.count ev inst k).stage = s.stage :=
  (State.count_kept (m := 4390) s _ _ _ rfl (kept_refl _ s)).2 .stage rfl
@[simp] theorem State.count_boot (s : State) (ev inst k : Nat) : (s.count ev inst k).boot = s.boot :=
  (State.count_kept (m := 4390) s _ _ _ rfl (kept_refl _ s)).2 .boot rfl
@[simp] theorem State.count_life (s : State) (ev inst k : Nat) : (s.count ev inst k).life = s.life :=
  (State.count_kept (m := 4390) s _ _ _ rfl (kept_refl _ s)).2 .life rfl
@[simp] theorem State.count_snuffs (s : State) (ev inst k : Nat) : (s.count ev inst k).snuffs = s.snuffs :=
  (State.count_kept (m := 4390) s _ _ _ rfl (kept_refl _ s)).2 .snuffs rfl
@[simp] theorem State.count_lanes (s : State) (ev inst k : Nat) : (s.count ev inst k).lanes = s.lanes :=
  (State.count_kept (m := 4390) s _ _ _ rfl (kept_refl _ s)).2 .lanes rfl
@[simp] theorem State.count_cages (s : State) (ev inst k : Nat) : (s.count ev inst k).cages = s.cages :=
  (State.count_kept (m := 4390) s _ _ _ rfl (kept_refl _ s)).2 .cages rfl
@[simp] theorem State.count_eqRuns (s : State) (ev inst k : Nat) : (s.count ev inst k).eqRuns = s.eqRuns :=
  (State.count_kept (m := 4390) s _ _ _ rfl (kept_refl _ s)).2 .eqRuns rfl
@[simp] theorem State.count_framers (s : State) (ev inst k : Nat) : (s.count ev inst k).framers = s.framers :=
  (State.count_kept (m := 4390) s _ _ _ rfl (kept_refl _ s)).2 .framers rfl
@[simp] theorem State.count_lineRun (s : State) (ev inst k : Nat) : (s.count ev inst k).lineRun = s.lineRun :=
  (State.count_kept (m := 4390) s _ _ _ rfl (kept_refl _ s)).2 .lineRun rfl
@[simp] theorem State.count_gal (s : State) (ev inst k : Nat) : (s.count ev inst k).gal = s.gal :=
  (State.count_kept (m := 4390) s _ _ _ rfl (kept_refl _ s)).2 .gal rfl
@[simp] theorem State.count_frags (s : State) (ev inst k : Nat) : (s.count ev inst k).frags = s.frags :=
  (State.count_kept (m := 4390) s _ _ _ rfl (kept_refl _ s)).2 .frags rfl
@[simp] theorem State.count_tm (s : State) (ev inst k : Nat) : (s.count ev inst k).tm = s.tm :=
  (State.count_kept (m := 4390) s _ _ _ rfl (kept_refl _ s)).2 .tm rfl
@[simp] theorem State.count_terms (s : State) (ev inst k : Nat) : (s.count ev inst k).terms = s.terms :=
  (State.count_kept (m := 4390) s _ _ _ rfl (kept_refl _ s)).2 .terms rfl
@[simp] theorem State.count_acts (s : State) (ev inst k : Nat) : (s.count ev inst k).acts = s.acts :=
  (State.count_kept (m := 4390) s _ _ _ rfl (kept_refl _ s)).2 .acts rfl
@[simp] theorem State.count_logEvents (s : State) (ev inst k : Nat) : (s.count ev inst k).logEvents = s.logEvents :=
  (State.count_kept (m := 4390) s _ _ _ rfl (kept_refl _ s)).2 .logEvents rfl
@[simp] theorem State.count_grants (s : State) (ev inst k : Nat) : (s.count ev inst k).grants = s.grants :=
  (State.count_kept (m := 4390) s _ _ _ rfl (kept_refl _ s)).2 .grants rfl
@[simp] theorem State.count_ciph (s : State) (ev inst k : Nat) : (s.count ev inst k).ciph = s.ciph :=
  (State.count_kept (m := 4390) s _ _ _ rfl (kept_refl _ s)).2 .ciph rfl
@[simp] theorem State.count_uplinks (s : State) (ev inst k : Nat) : (s.count ev inst k).uplinks = s.uplinks :=
  (State.count_kept (m := 4390) s _ _ _ rfl (kept_refl _ s)).2 .uplinks rfl
@[simp] theorem State.count_psgs (s : State) (ev inst k : Nat) : (s.count ev inst k).psgs = s.psgs :=
  (State.count_kept (m := 4390) s _ _ _ rfl (kept_refl _ s)).2 .psgs rfl
@[simp] theorem State.count_casc (s : State) (ev inst k : Nat) : (s.count ev inst k).casc = s.casc :=
  (State.count_kept (m := 4390) s _ _ _ rfl (kept_refl _ s)).2 .casc rfl
@[simp] theorem State.count_sent (s : State) (ev inst k : Nat) : (s.count ev inst k).sent = s.sent :=
  (State.count_kept (m := 4390) s _ _ _ rfl (kept_refl _ s)).2 .sent rfl
@[simp] theorem State.count_fresh (s : State) (ev inst k : Nat) : (s.count ev inst k).fresh = s.fresh :=
  (State.count_kept (m := 4390) s _ _ _ rfl (kept_refl _ s)).2 .fresh rfl

/-! ### Reads through them -/

@[simp] theorem State.lineAdd_val (s : State) (l k n : Nat) (o : Obj) (j : Nat) :
    (s.lineAdd l k n).val o j = s.val o j := State.val_of_objs (State.lineAdd_objs s l k n) o j
@[simp] theorem State.lineAdd_num (s : State) (l k n : Nat) (o : Obj) (j : Nat) :
    (s.lineAdd l k n).num o j = s.num o j := State.num_of_val (State.val_of_objs (State.lineAdd_objs s l k n) o j)
@[simp] theorem State.lineAdd_n (s : State) (l k n : Nat) (o : Obj) (j : Nat) :
    (s.lineAdd l k n).n o j = s.n o j := State.n_of_val (State.val_of_objs (State.lineAdd_objs s l k n) o j)
@[simp] theorem State.lineAdd_on (s : State) (l k n : Nat) (o : Obj) (j : Nat) :
    (s.lineAdd l k n).on o j = s.on o j := State.on_of_val (State.val_of_objs (State.lineAdd_objs s l k n) o j)
@[simp] theorem State.lineAdd_oct (s : State) (l k n : Nat) (o : Obj) (j : Nat) :
    (s.lineAdd l k n).oct o j = s.oct o j := State.oct_of_val (State.val_of_objs (State.lineAdd_objs s l k n) o j)
@[simp] theorem State.lineAdd_reg (s : State) (l k n : Nat) (x : Nat) : (s.lineAdd l k n).reg x = s.reg x :=
  State.reg_of_regs (State.lineAdd_regs s l k n) x
@[simp] theorem State.lineAdd_bit (s : State) (l k n : Nat) (x j : Nat) : (s.lineAdd l k n).bit x j = s.bit x j := by
  unfold State.bit; rw [State.lineAdd_reg]
@[simp] theorem State.lineAdd_now (s : State) (l k n : Nat) : (s.lineAdd l k n).now = s.now := by simp [State.now]
@[simp] theorem State.lineAdd_wick (s : State) (l k n : Nat) : (s.lineAdd l k n).wick = s.wick := by simp [State.wick]

@[simp] theorem State.lifeCount_val (s : State) (i k : Nat) (o : Obj) (j : Nat) :
    (s.lifeCount i k).val o j = s.val o j := State.val_of_objs (State.lifeCount_objs s i k) o j
@[simp] theorem State.lifeCount_num (s : State) (i k : Nat) (o : Obj) (j : Nat) :
    (s.lifeCount i k).num o j = s.num o j := State.num_of_val (State.val_of_objs (State.lifeCount_objs s i k) o j)
@[simp] theorem State.lifeCount_n (s : State) (i k : Nat) (o : Obj) (j : Nat) :
    (s.lifeCount i k).n o j = s.n o j := State.n_of_val (State.val_of_objs (State.lifeCount_objs s i k) o j)
@[simp] theorem State.lifeCount_on (s : State) (i k : Nat) (o : Obj) (j : Nat) :
    (s.lifeCount i k).on o j = s.on o j := State.on_of_val (State.val_of_objs (State.lifeCount_objs s i k) o j)
@[simp] theorem State.lifeCount_oct (s : State) (i k : Nat) (o : Obj) (j : Nat) :
    (s.lifeCount i k).oct o j = s.oct o j := State.oct_of_val (State.val_of_objs (State.lifeCount_objs s i k) o j)
@[simp] theorem State.lifeCount_reg (s : State) (i k : Nat) (x : Nat) : (s.lifeCount i k).reg x = s.reg x :=
  State.reg_of_regs (State.lifeCount_regs s i k) x
@[simp] theorem State.lifeCount_bit (s : State) (i k : Nat) (x j : Nat) : (s.lifeCount i k).bit x j = s.bit x j := by
  unfold State.bit; rw [State.lifeCount_reg]
@[simp] theorem State.lifeCount_now (s : State) (i k : Nat) : (s.lifeCount i k).now = s.now := by simp [State.now]
@[simp] theorem State.lifeCount_wick (s : State) (i k : Nat) : (s.lifeCount i k).wick = s.wick := by simp [State.wick]

end Sys2Proof.Machine
end

