-- ==== Sys2Proof/Laws/Objects.lean ====
section
/-!
SUPPORT. No two objects share a code, and none lies above 24 bits of instances: so a write of one instance leaves every
other one alone, whichever object it is of.
-/

namespace Sys2Proof.Machine

open State

theorem Obj.codes_rise : (List.range 819).all (fun k => decide ((Obj.ofNat k).code < (Obj.ofNat (k + 1)).code)) = true := by
  decide +kernel

theorem Obj.ix_lt (o : Obj) : o.ctorIdx < 820 := by cases o <;> decide

theorem Obj.code_mono {i j : Nat} (h : i < j) (hj : j < 820) : (Obj.ofNat i).code < (Obj.ofNat j).code := by
  have step : ∀ k, k < 819 → (Obj.ofNat k).code < (Obj.ofNat (k + 1)).code := fun k hk =>
    of_decide_eq_true (List.all_eq_true.1 Obj.codes_rise k (List.mem_range.2 hk))
  induction j with
  | zero => omega
  | succ j ih =>
    rcases Nat.lt_or_ge i j with hij | hij
    · exact Nat.lt_trans (ih hij (by omega)) (step j (by omega))
    · have : i = j := by omega
      subst this
      exact step i (by omega)

/-- The code tells the object. -/
theorem Obj.code_inj {o p : Obj} (h : o.code = p.code) : o = p := by
  rw [← Obj.ofNat_ctorIdx o, ← Obj.ofNat_ctorIdx p] at h ⊢
  rcases Nat.lt_trichotomy o.ctorIdx p.ctorIdx with hl | hl | hl
  · exact absurd h (Nat.ne_of_lt (Obj.code_mono hl p.ix_lt))
  · rw [hl]
  · exact absurd h.symm (Nat.ne_of_lt (Obj.code_mono hl o.ix_lt))

/-- A write of one instance leaves every other instance of every object alone. -/
theorem State.val_putVal_ne (s : State) {o p : Obj} {i j : Nat} (v : Val) (hi : i < 16777216) (hj : j < 16777216)
    (h : ¬ (p = o ∧ j = i)) : (s.putVal o i v).val p j = s.val p j := by
  by_cases hc : p.code = o.code
  · have := Obj.code_inj hc
    subst this
    exact State.val_putVal_inst s p v fun hij => h ⟨rfl, hij⟩
  · exact State.val_putVal_obj s v hc hi hj

end Sys2Proof.Machine
end

