-- ==== Sys2Proof/Laws/Bits.lean ====
section
/-!
SUPPORT. Bits of registers: a bit reads as it was set, and setting one leaves the others.
-/

namespace Sys2Proof

theorem putBits_testBit (k n v j : Nat) (hv : v < 2) :
    (putBits k k n v).testBit j = if j = k then decide (v = 1) else n.testBit j := by
  have hb : n % 2 ^ k < 2 ^ k := Nat.mod_lt _ (Nat.two_pow_pos k)
  have e : putBits k k n v = 2 ^ k * (2 ^ 1 * (n / 2 ^ (k + 1)) + v) + n % 2 ^ k := by
    unfold putBits
    rw [Nat.sub_self, Nat.mod_eq_of_lt (show v < 2 ^ (0 + 1) by simpa using hv), Nat.pow_succ]
    generalize n / (2 ^ k * 2) = q; generalize 2 ^ k = p
    simp [Nat.mul_add, Nat.mul_comm, Nat.mul_left_comm]
  rw [e, Nat.testBit_two_pow_mul_add _ hb]
  split
  · rw [if_neg (by omega), Nat.testBit_mod_two_pow]; simp [*]
  · rw [Nat.testBit_two_pow_mul_add _ (by simpa using hv)]
    split
    · have : j = k := by omega
      subst this
      rcases (show v = 0 ∨ v = 1 by omega) with rfl | rfl <;> simp
    · rw [if_neg (by omega), Nat.testBit_div_two_pow]
      congr 1; omega

namespace Machine

theorem State.bit_testBit (s : State) (a k : Nat) : s.bit a k = (s.reg a).testBit k := by
  unfold State.bit
  rw [Nat.testBit_eq_decide_div_mod_eq]

/-- A bit reads as it was set. -/
theorem State.bit_setBit_self (s : State) (a k : Nat) (b : Bool) (h : k < 32) : (s.setBit a k b).bit a k = b := by
  rw [State.bit_testBit, State.setBit, State.reg_putReg_self, show 4294967296 = 2 ^ 32 from rfl,
    Nat.testBit_mod_two_pow, putBits_testBit _ _ _ _ (by split <;> omega)]
  cases b <;> simp [h]

/-- The other bits of the register stay. -/
theorem State.bit_setBit_other (s : State) (a : Nat) {j k : Nat} (b : Bool) (h : j ≠ k) (hj : j < 32) :
    (s.setBit a k b).bit a j = s.bit a j := by
  rw [State.bit_testBit, State.bit_testBit, State.setBit, State.reg_putReg_self, show 4294967296 = 2 ^ 32 from rfl,
    Nat.testBit_mod_two_pow, putBits_testBit _ _ _ _ (by split <;> omega)]
  simp [h, hj]

theorem State.bit_of_reg {s t : State} {a : Nat} (h : t.reg a = s.reg a) (k : Nat) : t.bit a k = s.bit a k := by
  unfold State.bit; rw [h]

theorem State.bit_setBit_reg (s : State) {a c : Nat} (j k : Nat) (b : Bool) (h : c ≠ a) : (s.setBit a k b).bit c j = s.bit c j :=
  State.bit_of_reg (State.reg_putReg_other s _ h) j

end Machine
end Sys2Proof
end

