-- ==== Sys2Proof/Laws/Kept/Host.lean ====
section
/-!
SUPPORT. The operations of Machine/Host.lean keep soundness and the parts they do not name.
-/

namespace Sys2Proof.Machine

open State

theorem State.recordOnce_kept {m : Nat} {org : State} :
    ∀ s a1 a2 a3, Sub 38 m → Kept m org s → Kept m org (State.recordOnce s a1 a2 a3) := by
  intro s a1 a2 a3 hp h
  unfold State.recordOnce
  try dsimp only
  repeat' first
    | with_reducible assumption
    | ((with_reducible refine so hp ?_); rfl)
    | (with_reducible first
        | refine ite_kept ?_ ?_ | refine State.putReg_kept _ _ _ ?_ ?_ | refine State.setBit_kept _ _ _ _ ?_ ?_
        | refine State.raiseL_kept _ _ _ _ _ ?_ ?_)
    | split
    | ((with_reducible refine mk_kept ?_ ?_ ?_ ?_ ?_ ?_ ?_ ?_ ?_ ?_ ?_ ?_ ?_ ?_ ?_ ?_ ?_ ?_ ?_ ?_ ?_ ?_ ?_ ?_ ?_ ?_ ?_) <;> try (intro hq; first | exact (hit hp rfl hq).elim | with_reducible rfl))

theorem State.acceptCounter_kept {m : Nat} {org : State} :
    ∀ s a1 a2, Sub 98 m → Kept m org s → Kept m org (State.acceptCounter s a1 a2) := by
  intro s a1 a2 hp h
  unfold State.acceptCounter
  try dsimp only
  repeat' first
    | with_reducible assumption
    | ((with_reducible refine so hp ?_); rfl)
    | (with_reducible first
        | refine ite_kept ?_ ?_ | refine State.setNvm_kept _ _ ?_ ?_ | refine State.bump_kept _ _ _ _ ?_ ?_
        | refine State.setMaster_kept _ _ _ ?_ ?_)

theorem State.issueCounter_kept {m : Nat} {org : State} :
    ∀ s a1, Sub 96 m → Kept m org s → Kept m org (State.issueCounter s a1).2 := by
  intro s a1 hp h
  unfold State.issueCounter
  try dsimp only
  repeat' first
    | with_reducible assumption
    | ((with_reducible refine so hp ?_); rfl)
    | (with_reducible first
        | refine ite_kept ?_ ?_ | refine State.setNvm_kept _ _ ?_ ?_ | refine State.setMaster_kept _ _ _ ?_ ?_)

theorem State.addMsg_kept {m : Nat} {org : State} :
    ∀ s a1 a2 a3 a4, Sub 32 m → Kept m org s → Kept m org (State.addMsg s a1 a2 a3 a4) := by
  intro s a1 a2 a3 a4 hp h
  unfold State.addMsg
  try dsimp only
  repeat' first
    | with_reducible assumption
    | ((with_reducible refine mk_kept ?_ ?_ ?_ ?_ ?_ ?_ ?_ ?_ ?_ ?_ ?_ ?_ ?_ ?_ ?_ ?_ ?_ ?_ ?_ ?_ ?_ ?_ ?_ ?_ ?_ ?_ ?_) <;> try (intro hq; first | exact (hit hp rfl hq).elim | with_reducible rfl))

theorem State.abortMsg_kept {m : Nat} {org : State} :
    ∀ s a1 a2, Sub 536871008 m → Kept m org s → Kept m org (State.abortMsg s a1 a2) := by
  intro s a1 a2 hp h
  unfold State.abortMsg
  try dsimp only
  repeat' first
    | with_reducible assumption
    | ((with_reducible refine so hp ?_); rfl)
    | (with_reducible first
        | refine ite_kept ?_ ?_ | refine State.emit_kept _ _ ?_ ?_ | refine State.issueCounter_kept _ _ ?_ ?_)

theorem State.oneRecord_kept {m : Nat} {org : State} :
    ∀ s a1 a2, Sub 536871010 m → Kept m org s → (∀ u0, Kept m org u0 → Kept m org (a2 u0).1) → Kept m org (State.oneRecord s a1 a2) := by
  intro s a1 a2 hp h hf2
  unfold State.oneRecord
  try dsimp only
  repeat' first
    | with_reducible assumption
    | ((with_reducible refine so hp ?_); rfl)
    | (with_reducible first
        | refine ite_kept ?_ ?_ | apply hf2 | refine State.abortMsg_kept _ _ _ ?_ ?_
        | refine State.acceptCounter_kept _ _ _ ?_ ?_ | refine State.addMsg_kept _ _ _ _ _ ?_ ?_)

theorem State.immediateWrite_kept {m : Nat} {org : State} :
    ∀ s a1 a2 a3 a4 a5, Sub 38 m → Kept m org s → (∀ u0 u1 u2 u3, Kept m org u0 → Kept m org (a5 u0 u1 u2 u3).1) → Kept m org (State.immediateWrite s a1 a2 a3 a4 a5).1 := by
  intro s a1 a2 a3 a4 a5 hp h hf5
  unfold State.immediateWrite
  try dsimp only
  repeat' first
    | (with_reducible first
        | assumption | refine ite_kept1 ?_ ?_ | apply hf5 | refine State.recordOnce_kept _ _ _ _ ?_ ?_)

theorem State.hostWrite_kept {m : Nat} {org : State} :
    ∀ s a1 a2 a3 a4 a5, Sub 536871014 m → Kept m org s → (∀ u0 u1 u2 u3, Kept m org u0 → Kept m org (a5 u0 u1 u2 u3).1) → Kept m org (State.hostWrite s a1 a2 a3 a4 a5) := by
  intro s a1 a2 a3 a4 a5 hp h hf5
  unfold State.hostWrite
  try dsimp only
  repeat' first
    | with_reducible assumption
    | ((with_reducible refine so hp ?_); rfl)
    | (with_reducible first
        | refine State.oneRecord_kept _ _ _ ?_ ?_ ?_ | refine State.immediateWrite_kept _ _ _ _ _ _ ?_ ?_ ?_)
    | dsimp only
    | intro _

theorem State.markOnce_kept {m : Nat} {org : State} :
    ∀ s a1 a2, Sub 32 m → Kept m org s → Kept m org (State.markOnce s a1 a2) := by
  intro s a1 a2 hp h
  unfold State.markOnce
  try dsimp only
  repeat' first
    | (with_reducible first
        | assumption | refine ite_kept ?_ ?_)
    | ((with_reducible refine mk_kept ?_ ?_ ?_ ?_ ?_ ?_ ?_ ?_ ?_ ?_ ?_ ?_ ?_ ?_ ?_ ?_ ?_ ?_ ?_ ?_ ?_ ?_ ?_ ?_ ?_ ?_ ?_) <;> try (intro hq; first | exact (hit hp rfl hq).elim | with_reducible rfl))

theorem State.pendWrite_kept {m : Nat} {org : State} :
    ∀ s a1 a2 a3 a4 a5 a6 a7, Sub 38 m → Kept m org s → Kept m org (State.pendWrite s a1 a2 a3 a4 a5 a6 a7).1 := by
  intro s a1 a2 a3 a4 a5 a6 a7 hp h
  unfold State.pendWrite
  try dsimp only
  repeat' first
    | with_reducible assumption
    | ((with_reducible refine so hp ?_); rfl)
    | (with_reducible first
        | refine ite_kept1 ?_ ?_ | refine State.markOnce_kept _ _ _ ?_ ?_
        | refine State.recordOnce_kept _ _ _ _ ?_ ?_)
    | ((with_reducible refine mk_kept ?_ ?_ ?_ ?_ ?_ ?_ ?_ ?_ ?_ ?_ ?_ ?_ ?_ ?_ ?_ ?_ ?_ ?_ ?_ ?_ ?_ ?_ ?_ ?_ ?_ ?_ ?_) <;> try (intro hq; first | exact (hit hp rfl hq).elim | with_reducible rfl))

theorem State.hostPend_kept {m : Nat} {org : State} :
    ∀ s a1 a2 a3 a4, Sub 536871014 m → Kept m org s → Kept m org (State.hostPend s a1 a2 a3 a4) := by
  intro s a1 a2 a3 a4 hp h
  unfold State.hostPend
  try dsimp only
  repeat' first
    | with_reducible assumption
    | ((with_reducible refine so hp ?_); rfl)
    | (with_reducible first
        | refine State.oneRecord_kept _ _ _ ?_ ?_ ?_ | refine State.pendWrite_kept _ _ _ _ _ _ _ _ ?_ ?_)
    | dsimp only
    | intro _

theorem State.hostRead_kept {m : Nat} {org : State} :
    ∀ s a1 a2 a3 a4, Sub 536871010 m → Kept m org s → (∀ u0, Kept m org u0 → Kept m org (a4 u0).1) → Kept m org (State.hostRead s a1 a2 a3 a4) := by
  intro s a1 a2 a3 a4 hp h hf4
  unfold State.hostRead
  try dsimp only
  repeat' first
    | (with_reducible first
        | assumption | apply hf4 | refine State.oneRecord_kept _ _ _ ?_ ?_ ?_)
    | dsimp only
    | split
    | intro _

theorem State.storeEff_kept {m : Nat} {org : State} :
    ∀ a0 s a2 a3 a4, Sub 2 m → Kept m org s → Kept m org (State.storeEff a0 s a2 a3 a4).1 := by
  intro a0 s a2 a3 a4 hp h
  unfold State.storeEff
  try dsimp only
  repeat' first
    | (with_reducible first
        | assumption | refine State.putVal_kept _ _ _ _ ?_ ?_)

end Sys2Proof.Machine
end

