-- ==== Sys2Proof/Laws/Kept/Topology.lean ====
section
/-!
SUPPORT. The operations of Machine/Topology.lean keep soundness and the parts they do not name.
-/

namespace Sys2Proof.Machine

open State

theorem State.setTerm_kept {m : Nat} {org : State} :
    ∀ s a1 a2, Sub 2097152 m → Kept m org s → Kept m org (State.setTerm s a1 a2) := by
  intro s a1 a2 hp h
  unfold State.setTerm
  try dsimp only
  repeat' first
    | with_reducible assumption
    | ((with_reducible refine mk_kept ?_ ?_ ?_ ?_ ?_ ?_ ?_ ?_ ?_ ?_ ?_ ?_ ?_ ?_ ?_ ?_ ?_ ?_ ?_ ?_ ?_ ?_ ?_ ?_ ?_ ?_ ?_) <;> try (intro hq; first | exact (hit hp rfl hq).elim | with_reducible rfl))

theorem State.setSd_kept {m : Nat} {org : State} :
    ∀ s a1 a2 a3, Sub 2097152 m → Kept m org s → Kept m org (State.setSd s a1 a2 a3) := by
  intro s a1 a2 a3 hp h
  unfold State.setSd
  try dsimp only
  repeat' first
    | (with_reducible first
        | assumption | refine ite_kept ?_ ?_ | refine State.setTerm_kept _ _ _ ?_ ?_)

theorem State.zeroCounters_kept {m : Nat} {org : State} :
    ∀ s a1 a2, Sub 2 m → Kept m org s → Kept m org (State.zeroCounters s a1 a2) := by
  intro s a1 a2 hp h
  unfold State.zeroCounters
  try dsimp only
  repeat' first
    | (with_reducible first
        | assumption | refine foldl_kept _ _ ?_ ?_ | refine State.put_kept _ _ _ _ ?_ ?_)
    | intro _

end Sys2Proof.Machine
end

