-- ==== Sys2Proof/Laws/Kept/Lanes.lean ====
section
/-!
SUPPORT. The operations of Machine/Lanes.lean keep soundness and the parts they do not name.
-/

namespace Sys2Proof.Machine

open State

theorem State.setLane_kept {m : Nat} {org : State} :
    ∀ s a1 a2, Sub 8192 m → Kept m org s → Kept m org (State.setLane s a1 a2) := by
  intro s a1 a2 hp h
  unfold State.setLane
  try dsimp only
  repeat' first
    | with_reducible assumption
    | ((with_reducible refine mk_kept ?_ ?_ ?_ ?_ ?_ ?_ ?_ ?_ ?_ ?_ ?_ ?_ ?_ ?_ ?_ ?_ ?_ ?_ ?_ ?_ ?_ ?_ ?_ ?_ ?_ ?_ ?_) <;> try (intro hq; first | exact (hit hp rfl hq).elim | with_reducible rfl))

theorem State.setCage_kept {m : Nat} {org : State} :
    ∀ s a1 a2, Sub 16384 m → Kept m org s → Kept m org (State.setCage s a1 a2) := by
  intro s a1 a2 hp h
  unfold State.setCage
  try dsimp only
  repeat' first
    | with_reducible assumption
    | ((with_reducible refine mk_kept ?_ ?_ ?_ ?_ ?_ ?_ ?_ ?_ ?_ ?_ ?_ ?_ ?_ ?_ ?_ ?_ ?_ ?_ ?_ ?_ ?_ ?_ ?_ ?_ ?_ ?_ ?_) <;> try (intro hq; first | exact (hit hp rfl hq).elim | with_reducible rfl))

theorem State.laneStart_kept {m : Nat} {org : State} :
    ∀ s a1, Sub 8486 m → Kept m org s → Kept m org (State.laneStart s a1) := by
  intro s a1 hp h
  unfold State.laneStart
  try dsimp only
  repeat' first
    | with_reducible assumption
    | ((with_reducible refine so hp ?_); rfl)
    | (with_reducible first
        | refine ite_kept ?_ ?_ | refine State.raiseConfig_kept _ _ _ ?_ ?_ | refine State.setLane_kept _ _ _ ?_ ?_
        | refine State.put_kept _ _ _ _ ?_ ?_ | refine State.zeroCounters_kept _ _ _ ?_ ?_
        | refine State.setField_kept _ _ _ _ _ ?_ ?_)

theorem State.laneOff_kept {m : Nat} {org : State} :
    ∀ s a1, Sub 8198 m → Kept m org s → Kept m org (State.laneOff s a1) := by
  intro s a1 hp h
  unfold State.laneOff
  try dsimp only
  repeat' first
    | with_reducible assumption
    | ((with_reducible refine so hp ?_); rfl)
    | (with_reducible first
        | refine State.setField_kept _ _ _ _ _ ?_ ?_ | refine State.put_kept _ _ _ _ ?_ ?_
        | refine State.setBit_kept _ _ _ _ ?_ ?_ | refine State.setLane_kept _ _ _ ?_ ?_)

theorem State.laneRun_kept {m : Nat} {org : State} :
    ∀ s a1, Sub 8198 m → Kept m org s → Kept m org (State.laneRun s a1) := by
  intro s a1 hp h
  unfold State.laneRun
  try dsimp only
  repeat' first
    | with_reducible assumption
    | ((with_reducible refine so hp ?_); rfl)
    | (with_reducible first
        | refine ite_kept ?_ ?_ | refine State.setField_kept _ _ _ _ _ ?_ ?_ | refine State.put_kept _ _ _ _ ?_ ?_
        | refine State.setBit_kept _ _ _ _ ?_ ?_ | refine State.setLane_kept _ _ _ ?_ ?_)

theorem State.laneWake_kept {m : Nat} {org : State} :
    ∀ s a1, Sub 6 m → Kept m org s → Kept m org (State.laneWake s a1) := by
  intro s a1 hp h
  unfold State.laneWake
  try dsimp only
  repeat' first
    | with_reducible assumption
    | ((with_reducible refine so hp ?_); rfl)
    | (with_reducible first
        | refine ite_kept ?_ ?_ | refine State.setBit_kept _ _ _ _ ?_ ?_ | refine State.put_kept _ _ _ _ ?_ ?_)

theorem State.pllFrame_kept {m : Nat} {org : State} :
    ∀ s a1, Sub 4 m → Kept m org s → Kept m org (State.pllFrame s a1) := by
  intro s a1 hp h
  unfold State.pllFrame
  try dsimp only
  repeat' first
    | (with_reducible first
        | assumption | refine ite_kept ?_ ?_ | refine State.setField_kept _ _ _ _ _ ?_ ?_)

theorem State.rssiRequestEff_kept {m : Nat} {org : State} :
    ∀ s a1 a2 a3, Sub 8192 m → Kept m org s → Kept m org (State.rssiRequestEff s a1 a2 a3).1 := by
  intro s a1 a2 a3 hp h
  unfold State.rssiRequestEff
  try dsimp only
  repeat' first
    | (with_reducible first
        | assumption | refine State.setLane_kept _ _ _ ?_ ?_)

theorem State.i2cRequestEff_kept {m : Nat} {org : State} :
    ∀ s a1 a2 a3, Sub 16384 m → Kept m org s → Kept m org (State.i2cRequestEff s a1 a2 a3).1 := by
  intro s a1 a2 a3 hp h
  unfold State.i2cRequestEff
  try dsimp only
  repeat' first
    | (with_reducible first
        | assumption | refine ite_kept1 ?_ ?_ | refine State.setCage_kept _ _ _ ?_ ?_)

theorem State.i2cEnd_kept {m : Nat} {org : State} :
    ∀ s a1 a2 a3, Sub 536887298 m → Kept m org s → Kept m org (State.i2cEnd s a1 a2 a3) := by
  intro s a1 a2 a3 hp h
  unfold State.i2cEnd
  try dsimp only
  repeat' first
    | with_reducible assumption
    | ((with_reducible refine so hp ?_); rfl)
    | (with_reducible first
        | refine ite_kept ?_ ?_ | refine State.setCage_kept _ _ _ ?_ ?_ | refine State.emit_kept _ _ ?_ ?_
        | refine State.putOct_kept _ _ _ _ ?_ ?_)
    | split

theorem State.i2cSda_kept {m : Nat} {org : State} :
    ∀ s a1 a2, Sub 536870912 m → Kept m org s → Kept m org (State.i2cSda s a1 a2) := by
  intro s a1 a2 hp h
  unfold State.i2cSda
  try dsimp only
  repeat' first
    | (with_reducible first
        | assumption | refine ite_kept ?_ ?_ | refine State.emit_kept _ _ ?_ ?_)

theorem State.setEqRun_kept {m : Nat} {org : State} :
    ∀ s a1 a2 a3, Sub 32768 m → Kept m org s → Kept m org (State.setEqRun s a1 a2 a3) := by
  intro s a1 a2 a3 hp h
  unfold State.setEqRun
  try dsimp only
  repeat' first
    | with_reducible assumption
    | ((with_reducible refine mk_kept ?_ ?_ ?_ ?_ ?_ ?_ ?_ ?_ ?_ ?_ ?_ ?_ ?_ ?_ ?_ ?_ ?_ ?_ ?_ ?_ ?_ ?_ ?_ ?_ ?_ ?_ ?_) <;> try (intro hq; first | exact (hit hp rfl hq).elim | with_reducible rfl))

theorem State.eqCount_kept {m : Nat} {org : State} :
    ∀ s a1 a2 a3 a4, Sub 32770 m → Kept m org s → Kept m org (State.eqCount s a1 a2 a3 a4) := by
  intro s a1 a2 a3 a4 hp h
  unfold State.eqCount
  try dsimp only
  repeat' first
    | with_reducible assumption
    | ((with_reducible refine so hp ?_); rfl)
    | (with_reducible first
        | refine ite_kept ?_ ?_ | refine State.put_kept _ _ _ _ ?_ ?_ | refine State.setEqRun_kept _ _ _ _ ?_ ?_)

theorem State.presetWritten_kept {m : Nat} {org : State} :
    ∀ s a1 a2, Sub 32768 m → Kept m org s → Kept m org (State.presetWritten s a1 a2) := by
  intro s a1 a2 hp h
  unfold State.presetWritten
  try dsimp only
  repeat' first
    | (with_reducible first
        | assumption | refine ite_kept ?_ ?_ | refine State.setEqRun_kept _ _ _ _ ?_ ?_)

theorem State.loopLanes_kept {m : Nat} {org : State} :
    ∀ s a1 a2 a3, Sub 8198 m → Kept m org s → Kept m org (State.loopLanes s a1 a2 a3).1 := by
  intro s a1 a2 a3 hp h
  unfold State.loopLanes
  try dsimp only
  repeat' first
    | with_reducible assumption
    | ((with_reducible refine so hp ?_); rfl)
    | (with_reducible first
        | refine ite_kept ?_ ?_ | refine ite_kept1 ?_ ?_ | refine State.put_kept _ _ _ _ ?_ ?_
        | refine State.laneOff_kept _ _ ?_ ?_ | refine State.setLane_kept _ _ _ ?_ ?_
        | refine State.setBit_kept _ _ _ _ ?_ ?_)

theorem execChannelRssiRequest_kept {m : Nat} {org : State} :
    ∀ a0 a1 a2 s, Sub 536879206 m → Kept m org s → KeptOut m org (execChannelRssiRequest a0 a1 a2 s) := by
  intro a0 a1 a2 s hp h
  unfold execChannelRssiRequest
  try dsimp only
  repeat' first
    | with_reducible assumption
    | ((with_reducible refine so hp ?_); rfl)
    | (with_reducible first
        | refine next_kept ?_ | refine State.hostWrite_kept _ _ _ _ _ _ ?_ ?_ ?_
        | refine State.rssiRequestEff_kept _ _ _ _ ?_ ?_)
    | intro _

theorem execRssiRequestLapse_kept {m : Nat} {org : State} :
    ∀ a0 s, Sub 8482 m → Kept m org s → KeptOut m org (execRssiRequestLapse a0 s) := by
  intro a0 s hp h
  unfold execRssiRequestLapse
  try dsimp only
  repeat' first
    | with_reducible assumption
    | ((with_reducible refine so hp ?_); rfl)
    | (with_reducible first
        | refine ite_keptOut ?_ ?_ | refine next_kept ?_ | refine State.raiseRefusal_kept _ _ _ _ _ ?_ ?_
        | refine State.setLane_kept _ _ _ ?_ ?_)
    | split

theorem execCageI2cRequest_kept {m : Nat} {org : State} :
    ∀ a0 a1 a2 s, Sub 536887398 m → Kept m org s → KeptOut m org (execCageI2cRequest a0 a1 a2 s) := by
  intro a0 a1 a2 s hp h
  unfold execCageI2cRequest
  try dsimp only
  repeat' first
    | with_reducible assumption
    | ((with_reducible refine so hp ?_); rfl)
    | (with_reducible first
        | refine next_kept ?_ | refine State.hostWrite_kept _ _ _ _ _ _ ?_ ?_ ?_
        | refine State.i2cRequestEff_kept _ _ _ _ ?_ ?_)
    | intro _

theorem execI2cRequestComplete_kept {m : Nat} {org : State} :
    ∀ a0 a1 a2 a3 s, Sub 536887298 m → Kept m org s → KeptOut m org (execI2cRequestComplete a0 a1 a2 a3 s) := by
  intro a0 a1 a2 a3 s hp h
  unfold execI2cRequestComplete
  try dsimp only
  repeat' first
    | with_reducible assumption
    | ((with_reducible refine so hp ?_); rfl)
    | (with_reducible first
        | refine ite_kept ?_ ?_ | refine ite_keptOut ?_ ?_ | refine next_kept ?_
        | refine State.i2cEnd_kept _ _ _ _ ?_ ?_ | refine State.i2cSda_kept _ _ _ ?_ ?_)

theorem execI2cClockStretchTimeout_kept {m : Nat} {org : State} :
    ∀ a0 a1 s, Sub 536887298 m → Kept m org s → KeptOut m org (execI2cClockStretchTimeout a0 a1 s) := by
  intro a0 a1 s hp h
  unfold execI2cClockStretchTimeout
  try dsimp only
  repeat' first
    | with_reducible assumption
    | ((with_reducible refine so hp ?_); rfl)
    | (with_reducible first
        | refine ite_keptOut ?_ ?_ | refine next_kept ?_ | refine State.i2cEnd_kept _ _ _ _ ?_ ?_
        | refine State.i2cSda_kept _ _ _ ?_ ?_)

theorem execModuleInsertion_kept {m : Nat} {org : State} :
    ∀ a0 s, Sub 16678 m → Kept m org s → KeptOut m org (execModuleInsertion a0 s) := by
  intro a0 s hp h
  unfold execModuleInsertion
  try dsimp only
  repeat' first
    | with_reducible assumption
    | ((with_reducible refine so hp ?_); rfl)
    | (with_reducible first
        | refine ite_keptOut ?_ ?_ | refine next_kept ?_ | refine State.setBit_kept _ _ _ _ ?_ ?_
        | refine State.put_kept _ _ _ _ ?_ ?_ | refine State.setCage_kept _ _ _ ?_ ?_
        | refine State.raiseChange_kept _ _ _ _ _ _ ?_ ?_)

theorem execIdentityReadComplete_kept {m : Nat} {org : State} :
    ∀ a0 a1 s, Sub 16386 m → Kept m org s → KeptOut m org (execIdentityReadComplete a0 a1 s) := by
  intro a0 a1 s hp h
  unfold execIdentityReadComplete
  try dsimp only
  repeat' first
    | with_reducible assumption
    | ((with_reducible refine so hp ?_); rfl)
    | (with_reducible first
        | refine ite_keptOut ?_ ?_ | refine next_kept ?_ | refine State.putOct_kept _ _ _ _ ?_ ?_
        | refine State.setCage_kept _ _ _ ?_ ?_)

theorem execModuleRemoval_kept {m : Nat} {org : State} :
    ∀ a0 s, Sub 16678 m → Kept m org s → KeptOut m org (execModuleRemoval a0 s) := by
  intro a0 s hp h
  unfold execModuleRemoval
  try dsimp only
  repeat' first
    | with_reducible assumption
    | ((with_reducible refine so hp ?_); rfl)
    | (with_reducible first
        | refine ite_keptOut ?_ ?_ | refine next_kept ?_ | refine State.setBit_kept _ _ _ _ ?_ ?_
        | refine State.put_kept _ _ _ _ ?_ ?_ | refine State.setCage_kept _ _ _ ?_ ?_
        | refine State.putVal_kept _ _ _ _ ?_ ?_ | refine State.raiseChange_kept _ _ _ _ _ _ ?_ ?_)

theorem execTxPllLossOfLock_kept {m : Nat} {org : State} :
    ∀ a0 s, Sub 294 m → Kept m org s → KeptOut m org (execTxPllLossOfLock a0 s) := by
  intro a0 s hp h
  unfold execTxPllLossOfLock
  try dsimp only
  repeat' first
    | with_reducible assumption
    | ((with_reducible refine so hp ?_); rfl)
    | (with_reducible first
        | refine ite_keptOut ?_ ?_ | refine next_kept ?_ | refine State.setBit_kept _ _ _ _ ?_ ?_
        | refine State.put_kept _ _ _ _ ?_ ?_ | refine State.raiseChange_kept _ _ _ _ _ _ ?_ ?_)

theorem execFaultRecovery_kept {m : Nat} {org : State} :
    ∀ a0 s, Sub 8486 m → Kept m org s → KeptOut m org (execFaultRecovery a0 s) := by
  intro a0 s hp h
  unfold execFaultRecovery
  try dsimp only
  repeat' first
    | with_reducible assumption
    | ((with_reducible refine so hp ?_); rfl)
    | (with_reducible first
        | refine ite_keptOut ?_ ?_ | refine next_kept ?_ | refine State.setBit_kept _ _ _ _ ?_ ?_
        | refine State.put_kept _ _ _ _ ?_ ?_ | refine State.setLane_kept _ _ _ ?_ ?_
        | refine State.raiseChange_kept _ _ _ _ _ _ ?_ ?_)

theorem execRxPllLossOfLock_kept {m : Nat} {org : State} :
    ∀ a0 s, Sub 294 m → Kept m org s → KeptOut m org (execRxPllLossOfLock a0 s) := by
  intro a0 s hp h
  unfold execRxPllLossOfLock
  try dsimp only
  repeat' first
    | with_reducible assumption
    | ((with_reducible refine so hp ?_); rfl)
    | (with_reducible first
        | refine ite_keptOut ?_ ?_ | refine next_kept ?_ | refine State.setBit_kept _ _ _ _ ?_ ?_
        | refine State.raiseFault_kept _ _ _ _ ?_ ?_)

theorem execRxPllRelock_kept {m : Nat} {org : State} :
    ∀ a0 s, Sub 4 m → Kept m org s → KeptOut m org (execRxPllRelock a0 s) := by
  intro a0 s hp h
  unfold execRxPllRelock
  try dsimp only
  repeat' first
    | (with_reducible first
        | assumption | refine ite_keptOut ?_ ?_ | refine next_kept ?_ | refine State.setBit_kept _ _ _ _ ?_ ?_)

theorem execSleepRxPllStart_kept {m : Nat} {org : State} :
    ∀ a0 s, Sub 4 m → Kept m org s → KeptOut m org (execSleepRxPllStart a0 s) := by
  intro a0 s hp h
  unfold execSleepRxPllStart
  try dsimp only
  repeat' first
    | (with_reducible first
        | assumption | refine ite_keptOut ?_ ?_ | refine next_kept ?_ | refine State.setBit_kept _ _ _ _ ?_ ?_)

theorem execLaneNap_kept {m : Nat} {org : State} :
    ∀ a0 a1 a2 s, Sub 8192 m → Kept m org s → KeptOut m org (execLaneNap a0 a1 a2 s) := by
  intro a0 a1 a2 s hp h
  unfold execLaneNap
  try dsimp only
  repeat' first
    | (with_reducible first
        | assumption | refine ite_keptOut ?_ ?_ | refine next_kept ?_ | refine State.setLane_kept _ _ _ ?_ ?_)

theorem execLaneNapWake_kept {m : Nat} {org : State} :
    ∀ a0 s, Sub 8192 m → Kept m org s → KeptOut m org (execLaneNapWake a0 s) := by
  intro a0 s hp h
  unfold execLaneNapWake
  try dsimp only
  repeat' first
    | (with_reducible first
        | assumption | refine ite_keptOut ?_ ?_ | refine next_kept ?_ | refine State.setLane_kept _ _ _ ?_ ?_)
    | split

theorem execPrbsClr_kept {m : Nat} {org : State} :
    ∀ a0 s, Sub 2 m → Kept m org s → KeptOut m org (execPrbsClr a0 s) := by
  intro a0 s hp h
  unfold execPrbsClr
  try dsimp only
  repeat' first
    | (with_reducible first
        | assumption | refine next_kept ?_ | refine State.put_kept _ _ _ _ ?_ ?_)

theorem execRxCal_kept {m : Nat} {org : State} :
    ∀ a0 s, Sub 8192 m → Kept m org s → KeptOut m org (execRxCal a0 s) := by
  intro a0 s hp h
  unfold execRxCal
  try dsimp only
  repeat' first
    | (with_reducible first
        | assumption | refine ite_keptOut ?_ ?_ | refine next_kept ?_ | refine State.setLane_kept _ _ _ ?_ ?_)

theorem execRxCalComplete_kept {m : Nat} {org : State} :
    ∀ a0 s, Sub 8192 m → Kept m org s → KeptOut m org (execRxCalComplete a0 s) := by
  intro a0 s hp h
  unfold execRxCalComplete
  try dsimp only
  repeat' first
    | (with_reducible first
        | assumption | refine next_kept ?_ | refine State.setLane_kept _ _ _ ?_ ?_)

theorem execPrbsCheckerLock_kept {m : Nat} {org : State} :
    ∀ a0 a1 s, Sub 6 m → Kept m org s → KeptOut m org (execPrbsCheckerLock a0 a1 s) := by
  intro a0 a1 s hp h
  unfold execPrbsCheckerLock
  try dsimp only
  repeat' first
    | with_reducible assumption
    | ((with_reducible refine so hp ?_); rfl)
    | (with_reducible first
        | refine ite_keptOut ?_ ?_ | refine next_kept ?_ | refine State.put_kept _ _ _ _ ?_ ?_
        | refine State.setBit_kept _ _ _ _ ?_ ?_)

theorem execPresetTrackingStep_kept {m : Nat} {org : State} :
    ∀ a0 a1 s, Sub 32770 m → Kept m org s → KeptOut m org (execPresetTrackingStep a0 a1 s) := by
  intro a0 a1 s hp h
  unfold execPresetTrackingStep
  try dsimp only
  repeat' first
    | with_reducible assumption
    | ((with_reducible refine so hp ?_); rfl)
    | (with_reducible first
        | refine ite_keptOut ?_ ?_ | refine next_kept ?_ | refine State.setEqRun_kept _ _ _ _ ?_ ?_
        | refine State.put_kept _ _ _ _ ?_ ?_)
    | split

end Sys2Proof.Machine
end

