-- ==== Sys2Proof/Laws/Kept/Framing.lean ====
section
/-!
SUPPORT. The operations of Machine/Framing.lean keep soundness and the parts they do not name.
-/

namespace Sys2Proof.Machine

open State

theorem State.setFramer_kept {m : Nat} {org : State} :
    ∀ s a1 a2, Sub 65536 m → Kept m org s → Kept m org (State.setFramer s a1 a2) := by
  intro s a1 a2 hp h
  unfold State.setFramer
  try dsimp only
  repeat' first
    | with_reducible assumption
    | ((with_reducible refine mk_kept ?_ ?_ ?_ ?_ ?_ ?_ ?_ ?_ ?_ ?_ ?_ ?_ ?_ ?_ ?_ ?_ ?_ ?_ ?_ ?_ ?_ ?_ ?_ ?_ ?_ ?_ ?_) <;> try (intro hq; first | exact (hit hp rfl hq).elim | with_reducible rfl))

theorem State.ploamAct_kept {m : Nat} {org : State} :
    ∀ s a1 a2 a3 a4 a5 a6, Sub 65536 m → Kept m org s → Kept m org (State.ploamAct s a1 a2 a3 a4 a5 a6) := by
  intro s a1 a2 a3 a4 a5 a6 hp h
  unfold State.ploamAct
  try dsimp only
  repeat' first
    | (with_reducible first
        | assumption | refine State.setFramer_kept _ _ _ ?_ ?_)

theorem State.ploamLan_kept {m : Nat} {org : State} :
    ∀ s a1 a2 a3 a4 a5 a6, Sub 65536 m → Kept m org s → Kept m org (State.ploamLan s a1 a2 a3 a4 a5 a6) := by
  intro s a1 a2 a3 a4 a5 a6 hp h
  unfold State.ploamLan
  try dsimp only
  repeat' first
    | (with_reducible first
        | assumption | refine State.setFramer_kept _ _ _ ?_ ?_)

theorem State.encryptedPort_kept {m : Nat} {org : State} :
    ∀ s a1 a2, Sub 65536 m → Kept m org s → Kept m org (State.encryptedPort s a1 a2) := by
  intro s a1 a2 hp h
  unfold State.encryptedPort
  try dsimp only
  repeat' first
    | (with_reducible first
        | assumption | refine ite_kept ?_ ?_ | refine State.ploamLan_kept _ _ _ _ _ _ _ ?_ ?_)
    | split

theorem State.gponBind_kept {m : Nat} {org : State} :
    ∀ s a1 a2, Sub 65536 m → Kept m org s → Kept m org (State.gponBind s a1 a2) := by
  intro s a1 a2 hp h
  unfold State.gponBind
  try dsimp only
  repeat' first
    | (with_reducible first
        | assumption | refine ite_kept ?_ ?_ | refine foldl_kept _ _ ?_ ?_
        | refine State.encryptedPort_kept _ _ _ ?_ ?_ | refine State.ploamLan_kept _ _ _ _ _ _ _ ?_ ?_)
    | intro _

theorem State.ploamRelayEff_kept {m : Nat} {org : State} :
    ∀ s a1 a2 a3, Sub 65540 m → Kept m org s → Kept m org (State.ploamRelayEff s a1 a2 a3).1 := by
  intro s a1 a2 a3 hp h
  unfold State.ploamRelayEff
  try dsimp only
  repeat' first
    | with_reducible assumption
    | ((with_reducible refine so hp ?_); rfl)
    | (with_reducible first
        | refine ite_kept1 ?_ ?_ | refine State.setBit_kept _ _ _ _ ?_ ?_ | refine State.setFramer_kept _ _ _ ?_ ?_)

theorem State.relayResult_kept {m : Nat} {org : State} :
    ∀ s a1 a2 a3 a4, Sub 2 m → Kept m org s → Kept m org (State.relayResult s a1 a2 a3 a4) := by
  intro s a1 a2 a3 a4 hp h
  unfold State.relayResult
  try dsimp only
  repeat' first
    | (with_reducible first
        | assumption | refine State.putOct_kept _ _ _ _ ?_ ?_)

theorem State.discardUnserved_kept {m : Nat} {org : State} :
    ∀ s a1, Sub 65538 m → Kept m org s → Kept m org (State.discardUnserved s a1) := by
  intro s a1 hp h
  unfold State.discardUnserved
  try dsimp only
  repeat' first
    | with_reducible assumption
    | ((with_reducible refine so hp ?_); rfl)
    | (with_reducible first
        | refine ite_kept ?_ ?_ | refine foldl_kept _ _ ?_ ?_ | refine State.relayResult_kept _ _ _ _ _ ?_ ?_
        | refine State.setFramer_kept _ _ _ ?_ ?_)
    | intro _

theorem State.discardHost_kept {m : Nat} {org : State} :
    ∀ s a1 a2, Sub 65538 m → Kept m org s → Kept m org (State.discardHost s a1 a2) := by
  intro s a1 a2 hp h
  unfold State.discardHost
  try dsimp only
  repeat' first
    | with_reducible assumption
    | ((with_reducible refine so hp ?_); rfl)
    | (with_reducible first
        | refine ite_kept ?_ ?_ | refine foldl_kept _ _ ?_ ?_ | refine State.relayResult_kept _ _ _ _ _ ?_ ?_
        | refine State.setFramer_kept _ _ _ ?_ ?_)
    | intro _

theorem State.discardAllPloam_kept {m : Nat} {org : State} :
    ∀ s a1, Sub 65538 m → Kept m org s → Kept m org (State.discardAllPloam s a1) := by
  intro s a1 hp h
  unfold State.discardAllPloam
  try dsimp only
  repeat' first
    | with_reducible assumption
    | ((with_reducible refine so hp ?_); rfl)
    | (with_reducible first
        | refine State.setFramer_kept _ _ _ ?_ ?_ | refine State.discardHost_kept _ _ _ ?_ ?_)

theorem State.discardLantern_kept {m : Nat} {org : State} :
    ∀ s a1, Sub 65536 m → Kept m org s → Kept m org (State.discardLantern s a1) := by
  intro s a1 hp h
  unfold State.discardLantern
  try dsimp only
  repeat' first
    | (with_reducible first
        | assumption | refine State.setFramer_kept _ _ _ ?_ ?_)

theorem State.loopSet_kept {m : Nat} {org : State} :
    ∀ s a1 a2 a3, Sub 73734 m → Kept m org s → Kept m org (State.loopSet s a1 a2 a3).1 := by
  intro s a1 a2 a3 hp h
  unfold State.loopSet
  try dsimp only
  repeat' first
    | with_reducible assumption
    | ((with_reducible refine so hp ?_); rfl)
    | (with_reducible first
        | refine ite_kept ?_ ?_ | refine State.loopLanes_kept _ _ _ _ ?_ ?_
        | refine State.discardAllPloam_kept _ _ ?_ ?_)

theorem State.loopEff_kept {m : Nat} {org : State} :
    ∀ s a1 a2 a3, Sub 73734 m → Kept m org s → Kept m org (State.loopEff s a1 a2 a3).1 := by
  intro s a1 a2 a3 hp h
  unfold State.loopEff
  try dsimp only
  repeat' first
    | with_reducible assumption
    | ((with_reducible refine so hp ?_); rfl)
    | (with_reducible first
        | refine ite_kept1 ?_ ?_ | refine State.loopSet_kept _ _ _ _ ?_ ?_ | refine State.setBit_kept _ _ _ _ ?_ ?_)

theorem State.ploamSeq_kept {m : Nat} {org : State} :
    ∀ s a1 a2, Sub 2162688 m → Kept m org s → Kept m org (State.ploamSeq s a1 a2).2 := by
  intro s a1 a2 hp h
  unfold State.ploamSeq
  try dsimp only
  repeat' first
    | with_reducible assumption
    | ((with_reducible refine so hp ?_); rfl)
    | (with_reducible first
        | refine ite_kept2 ?_ ?_ | refine State.setSd_kept _ _ _ _ ?_ ?_ | refine State.setFramer_kept _ _ _ ?_ ?_)
    | split

theorem State.ploamEmit_kept {m : Nat} {org : State} :
    ∀ s a1 a2, Sub 539033600 m → Kept m org s → Kept m org (State.ploamEmit s a1 a2) := by
  intro s a1 a2 hp h
  unfold State.ploamEmit
  try dsimp only
  repeat' first
    | with_reducible assumption
    | ((with_reducible refine so hp ?_); rfl)
    | (with_reducible first
        | refine State.ploamSeq_kept _ _ _ ?_ ?_ | refine State.emit_kept _ _ ?_ ?_)

theorem State.ploamFirst_kept {m : Nat} {org : State} :
    ∀ s a1 a2, Sub 539033602 m → Kept m org s → Kept m org (State.ploamFirst s a1 a2) := by
  intro s a1 a2 hp h
  unfold State.ploamFirst
  try dsimp only
  repeat' first
    | with_reducible assumption
    | ((with_reducible refine so hp ?_); rfl)
    | (with_reducible first
        | refine State.relayResult_kept _ _ _ _ _ ?_ ?_ | refine State.setFramer_kept _ _ _ ?_ ?_
        | refine State.ploamEmit_kept _ _ _ ?_ ?_)
    | split

theorem State.ploamFrame_kept {m : Nat} {org : State} :
    ∀ s a1, Sub 539037990 m → Kept m org s → Kept m org (State.ploamFrame s a1) := by
  intro s a1 hp h
  unfold State.ploamFrame
  try dsimp only
  repeat' first
    | with_reducible assumption
    | ((with_reducible refine so hp ?_); rfl)
    | (with_reducible first
        | refine ite_kept ?_ ?_ | refine foldl_kept _ _ ?_ ?_ | refine State.ploamEmit_kept _ _ _ ?_ ?_
        | refine State.setFramer_kept _ _ _ ?_ ?_ | refine State.ploamFirst_kept _ _ _ ?_ ?_
        | refine State.count_kept _ _ _ _ ?_ ?_ | refine State.putReg_kept _ _ _ ?_ ?_)
    | intro _

theorem State.sendFrame_kept {m : Nat} {org : State} :
    ∀ s a1 a2 a3, Sub 539169062 m → Kept m org s → Kept m org (State.sendFrame s a1 a2 a3) := by
  intro s a1 a2 a3 hp h
  unfold State.sendFrame
  try dsimp only
  repeat' first
    | with_reducible assumption
    | ((with_reducible refine so hp ?_); rfl)
    | (with_reducible first
        | refine ite_kept ?_ ?_ | refine State.setBit_kept _ _ _ _ ?_ ?_ | refine State.emit_kept _ _ ?_ ?_
        | refine State.ploamFrame_kept _ _ ?_ ?_ | refine State.putReg_kept _ _ _ ?_ ?_
        | refine State.lineAdd_kept _ _ _ _ ?_ ?_ | refine State.count_kept _ _ _ _ ?_ ?_)

theorem State.portInvalidDrop_kept {m : Nat} {org : State} :
    ∀ s a1, Sub 4 m → Kept m org s → Kept m org (State.portInvalidDrop s a1) := by
  intro s a1 hp h
  unfold State.portInvalidDrop
  try dsimp only
  repeat' first
    | (with_reducible first
        | assumption | refine State.setBit_kept _ _ _ _ ?_ ?_ | refine State.bumpReg_kept _ _ _ ?_ ?_)

theorem State.portEvents_kept {m : Nat} {org : State} :
    ∀ s a1, Sub 290 m → Kept m org s → Kept m org (State.portEvents s a1) := by
  intro s a1 hp h
  unfold State.portEvents
  try dsimp only
  repeat' first
    | (with_reducible first
        | assumption | refine foldl_kept _ _ ?_ ?_ | refine State.raiseConfig_kept _ _ _ ?_ ?_)
    | intro _

theorem execLoopModeSet_kept {m : Nat} {org : State} :
    ∀ a0 a1 a2 s, Sub 536944742 m → Kept m org s → KeptOut m org (execLoopModeSet a0 a1 a2 s) := by
  intro a0 a1 a2 s hp h
  unfold execLoopModeSet
  try dsimp only
  repeat' first
    | with_reducible assumption
    | ((with_reducible refine so hp ?_); rfl)
    | (with_reducible first
        | refine next_kept ?_ | refine State.hostWrite_kept _ _ _ _ _ _ ?_ ?_ ?_
        | refine State.loopEff_kept _ _ _ _ ?_ ?_)
    | intro _

end Sys2Proof.Machine
end

