-- ==== Sys2Proof/Laws/Kept/Sump.lean ====
section
/-!
SUPPORT. The operations of Machine/Sump.lean keep soundness and the parts they do not name.
-/

namespace Sys2Proof.Machine

open State

theorem State.setTm_kept {m : Nat} {org : State} :
    ∀ s a1, Sub 1048576 m → Kept m org s → Kept m org (State.setTm s a1) := by
  intro s a1 hp h
  unfold State.setTm
  try dsimp only
  repeat' first
    | with_reducible assumption
    | ((with_reducible refine mk_kept ?_ ?_ ?_ ?_ ?_ ?_ ?_ ?_ ?_ ?_ ?_ ?_ ?_ ?_ ?_ ?_ ?_ ?_ ?_ ?_ ?_ ?_ ?_ ?_ ?_ ?_ ?_) <;> try (intro hq; first | exact (hit hp rfl hq).elim | with_reducible rfl))

theorem State.setCell_kept {m : Nat} {org : State} :
    ∀ s a1 a2, Sub 1048576 m → Kept m org s → Kept m org (State.setCell s a1 a2) := by
  intro s a1 a2 hp h
  unfold State.setCell
  try dsimp only
  repeat' first
    | (with_reducible first
        | assumption | refine State.setTm_kept _ _ ?_ ?_)

theorem State.poolUpdate_kept {m : Nat} {org : State} :
    ∀ s a1, Sub 294 m → Kept m org s → Kept m org (State.poolUpdate s a1) := by
  intro s a1 hp h
  unfold State.poolUpdate
  try dsimp only
  repeat' first
    | with_reducible assumption
    | ((with_reducible refine so hp ?_); rfl)
    | (with_reducible first
        | refine ite_kept ?_ ?_ | refine State.put_kept _ _ _ _ ?_ ?_ | refine State.setBit_kept _ _ _ _ ?_ ?_
        | refine State.raiseChange_kept _ _ _ _ _ _ ?_ ?_)

theorem State.charge_kept {m : Nat} {org : State} :
    ∀ s a1 a2, Sub 4390 m → Kept m org s → Kept m org (State.charge s a1 a2) := by
  intro s a1 a2 hp h
  unfold State.charge
  try dsimp only
  repeat' first
    | with_reducible assumption
    | ((with_reducible refine so hp ?_); rfl)
    | (with_reducible first
        | refine ite_kept ?_ ?_ | refine State.put_kept _ _ _ _ ?_ ?_ | refine State.count_kept _ _ _ _ ?_ ?_
        | refine State.setBit_kept _ _ _ _ ?_ ?_ | refine State.bump_kept _ _ _ _ ?_ ?_
        | refine State.poolUpdate_kept _ _ ?_ ?_)

theorem State.uncharge_kept {m : Nat} {org : State} :
    ∀ s a1 a2, Sub 4390 m → Kept m org s → Kept m org (State.uncharge s a1 a2) := by
  intro s a1 a2 hp h
  unfold State.uncharge
  try dsimp only
  repeat' first
    | with_reducible assumption
    | ((with_reducible refine so hp ?_); rfl)
    | (with_reducible first
        | refine ite_kept ?_ ?_ | refine State.put_kept _ _ _ _ ?_ ?_ | refine State.count_kept _ _ _ _ ?_ ?_
        | refine State.poolUpdate_kept _ _ ?_ ?_)

theorem State.releaseCell_kept {m : Nat} {org : State} :
    ∀ s a1 a2, Sub 1052966 m → Kept m org s → Kept m org (State.releaseCell s a1 a2) := by
  intro s a1 a2 hp h
  unfold State.releaseCell
  try dsimp only
  repeat' first
    | with_reducible assumption
    | ((with_reducible refine so hp ?_); rfl)
    | (with_reducible first
        | refine ite_kept ?_ ?_ | refine State.putReg_kept _ _ _ ?_ ?_ | refine State.setBit_kept _ _ _ _ ?_ ?_
        | refine State.bump_kept _ _ _ _ ?_ ?_ | refine State.raiseRefusal_kept _ _ _ _ _ ?_ ?_
        | refine State.limitTake_kept _ _ ?_ ?_ | refine State.setCell_kept _ _ _ ?_ ?_
        | refine State.uncharge_kept _ _ _ ?_ ?_)
    | split

theorem State.releaseFrom_kept {m : Nat} {org : State} :
    ∀ s a1 a2 a3, Sub 1052966 m → Kept m org s → Kept m org (State.releaseFrom s a1 a2 a3) := by
  intro s a1 a2 a3 hp h
  induction a3 generalizing s a1 a2 with
  | zero =>
    unfold State.releaseFrom
    try dsimp only
    repeat' first
      | (with_reducible first
          | assumption | refine State.releaseCell_kept _ _ _ ?_ ?_)
      | split
  | succ k ih =>
    unfold State.releaseFrom
    try dsimp only
    repeat' first
      | (with_reducible first
          | assumption | apply ih | refine State.releaseCell_kept _ _ _ ?_ ?_)
      | split

theorem State.releaseFrame_kept {m : Nat} {org : State} :
    ∀ s a1 a2, Sub 1052966 m → Kept m org s → Kept m org (State.releaseFrame s a1 a2) := by
  intro s a1 a2 hp h
  unfold State.releaseFrame
  try dsimp only
  repeat' first
    | (with_reducible first
        | assumption | refine State.releaseFrom_kept _ _ _ _ ?_ ?_)

theorem State.refuse_kept {m : Nat} {org : State} :
    ∀ s a1 a2, Sub 4390 m → Kept m org s → Kept m org (State.refuse s a1 a2) := by
  intro s a1 a2 hp h
  unfold State.refuse
  try dsimp only
  repeat' first
    | with_reducible assumption
    | ((with_reducible refine so hp ?_); rfl)
    | (with_reducible first
        | refine State.count_kept _ _ _ _ ?_ ?_ | refine State.bump_kept _ _ _ _ ?_ ?_
        | refine State.setBit_kept _ _ _ _ ?_ ?_)
    | split

theorem State.takeCells_kept {m : Nat} {org : State} :
    ∀ s a1 a2 a3 a4, Sub 1052966 m → Kept m org s → Kept m org (State.takeCells s a1 a2 a3 a4).2 := by
  intro s a1 a2 a3 a4 hp h
  induction a3 generalizing s a1 a2 a4 with
  | zero =>
    unfold State.takeCells
    try dsimp only
    repeat' first
      | with_reducible assumption
      | ((with_reducible refine so hp ?_); rfl)
      | (with_reducible first
          | refine foldl_kept _ _ ?_ ?_ | refine State.uncharge_kept _ _ _ ?_ ?_
          | refine State.setCell_kept _ _ _ ?_ ?_ | refine State.charge_kept _ _ _ ?_ ?_)
      | split
      | intro _
  | succ k ih =>
    unfold State.takeCells
    try dsimp only
    repeat' first
      | with_reducible assumption
      | ((with_reducible refine so hp ?_); rfl)
      | (with_reducible first
          | refine foldl_kept _ _ ?_ ?_ | apply ih | refine State.uncharge_kept _ _ _ ?_ ?_
          | refine State.setCell_kept _ _ _ ?_ ?_ | refine State.charge_kept _ _ _ ?_ ?_)
      | split
      | intro _

theorem State.store_kept {m : Nat} {org : State} :
    ∀ s a1 a2 a3 a4 a5, Sub 1052966 m → Kept m org s → Kept m org (State.store s a1 a2 a3 a4 a5).2 := by
  intro s a1 a2 a3 a4 a5 hp h
  unfold State.store
  try dsimp only
  repeat' first
    | with_reducible assumption
    | ((with_reducible refine so hp ?_); rfl)
    | (with_reducible first
        | refine State.refuse_kept _ _ _ ?_ ?_ | refine State.takeCells_kept _ _ _ _ _ ?_ ?_
        | refine State.setCell_kept _ _ _ ?_ ?_ | refine snd_kept (by with_reducible assumption) ?_)
    | split

theorem State.verdictDrop_kept {m : Nat} {org : State} :
    ∀ s, Sub 6 m → Kept m org s → Kept m org (State.verdictDrop s) := by
  intro s hp h
  unfold State.verdictDrop
  try dsimp only
  repeat' first
    | with_reducible assumption
    | ((with_reducible refine so hp ?_); rfl)
    | (with_reducible first
        | refine State.setBit_kept _ _ _ _ ?_ ?_ | refine State.bump_kept _ _ _ _ ?_ ?_)

theorem State.sumpApply_kept {m : Nat} {org : State} :
    ∀ s a1 a2, Sub 294 m → Kept m org s → Kept m org (State.sumpApply s a1 a2) := by
  intro s a1 a2 hp h
  unfold State.sumpApply
  try dsimp only
  repeat' first
    | (with_reducible first
        | assumption | refine State.poolUpdate_kept _ _ ?_ ?_)
    | split

theorem State.sumpLose_kept {m : Nat} {org : State} :
    ∀ s, Sub 1048578 m → Kept m org s → Kept m org (State.sumpLose s) := by
  intro s hp h
  unfold State.sumpLose
  try dsimp only
  repeat' first
    | with_reducible assumption
    | ((with_reducible refine so hp ?_); rfl)
    | (with_reducible first
        | refine foldl_kept _ _ ?_ ?_ | refine State.put_kept _ _ _ _ ?_ ?_ | refine State.setTm_kept _ _ ?_ ?_)
    | intro _

theorem execSumpRebuildDone_kept {m : Nat} {org : State} :
    ∀ s, Sub 1048576 m → Kept m org s → KeptOut m org (execSumpRebuildDone s) := by
  intro s hp h
  unfold execSumpRebuildDone
  try dsimp only
  repeat' first
    | (with_reducible first
        | assumption | refine next_kept ?_ | refine State.setTm_kept _ _ ?_ ?_)

end Sys2Proof.Machine
end

