-- ==== Sys2Proof/Laws/Kept/Gallery.lean ====
section
/-!
SUPPORT. The operations of Machine/Gallery.lean keep soundness and the parts they do not name.
-/

namespace Sys2Proof.Machine

open State

theorem State.setGal_kept {m : Nat} {org : State} :
    ∀ s a1, Sub 262144 m → Kept m org s → Kept m org (State.setGal s a1) := by
  intro s a1 hp h
  unfold State.setGal
  try dsimp only
  repeat' first
    | with_reducible assumption
    | ((with_reducible refine mk_kept ?_ ?_ ?_ ?_ ?_ ?_ ?_ ?_ ?_ ?_ ?_ ?_ ?_ ?_ ?_ ?_ ?_ ?_ ?_ ?_ ?_ ?_ ?_ ?_ ?_ ?_ ?_) <;> try (intro hq; first | exact (hit hp rfl hq).elim | with_reducible rfl))

theorem State.galSet_kept {m : Nat} {org : State} :
    ∀ s a1 a2, Sub 262144 m → Kept m org s → Kept m org (State.galSet s a1 a2) := by
  intro s a1 a2 hp h
  unfold State.galSet
  try dsimp only
  repeat' first
    | (with_reducible first
        | assumption | refine State.setGal_kept _ _ ?_ ?_)

theorem State.autoFlush_kept {m : Nat} {org : State} :
    ∀ s a1 a2 a3, Sub 262144 m → Kept m org s → Kept m org (State.autoFlush s a1 a2 a3) := by
  intro s a1 a2 a3 hp h
  unfold State.autoFlush
  try dsimp only
  repeat' first
    | (with_reducible first
        | assumption | refine ite_kept ?_ ?_ | refine State.setGal_kept _ _ ?_ ?_)

theorem State.shadowDrop_kept {m : Nat} {org : State} :
    ∀ s a1 a2, Sub 262144 m → Kept m org s → Kept m org (State.shadowDrop s a1 a2) := by
  intro s a1 a2 hp h
  unfold State.shadowDrop
  try dsimp only
  repeat' first
    | (with_reducible first
        | assumption | refine State.setGal_kept _ _ ?_ ?_)

theorem State.relocate_kept {m : Nat} {org : State} :
    ∀ s a1 a2, Sub 266534 m → Kept m org s → Kept m org (State.relocate s a1 a2) := by
  intro s a1 a2 hp h
  unfold State.relocate
  try dsimp only
  repeat' first
    | with_reducible assumption
    | ((with_reducible refine so hp ?_); rfl)
    | (with_reducible first
        | refine ite_kept ?_ ?_ | refine State.galSet_kept _ _ _ ?_ ?_ | refine State.shadowDrop_kept _ _ _ ?_ ?_
        | refine State.count_kept _ _ _ _ ?_ ?_ | refine State.setGal_kept _ _ ?_ ?_)
    | split

theorem State.runPath_kept {m : Nat} {org : State} : ∀ s a1, Sub 266534 m → Kept m org s → Kept m org (State.runPath s a1) := by
  intro s a1 hp h
  induction a1 generalizing s with
  | nil => exact h
  | cons y l ih =>
    cases l with
    | nil => exact h
    | cons z l => exact ih _ (State.relocate_kept _ _ _ (so hp rfl) h)

theorem State.galInsert_kept {m : Nat} {org : State} :
    ∀ s a1, Sub 266534 m → Kept m org s → Kept m org (State.galInsert s a1).2 := by
  intro s a1 hp h
  unfold State.galInsert
  try dsimp only
  repeat' first
    | with_reducible assumption
    | ((with_reducible refine so hp ?_); rfl)
    | (with_reducible first
        | refine State.galSet_kept _ _ _ ?_ ?_ | refine State.runPath_kept _ _ ?_ ?_
        | refine State.raiseRefusal_kept _ _ _ _ _ ?_ ?_ | refine State.setBit_kept _ _ _ _ ?_ ?_
        | refine State.bump_kept _ _ _ _ ?_ ?_)
    | split

theorem State.learnQueue_kept {m : Nat} {org : State} :
    ∀ s a1, Sub 262150 m → Kept m org s → Kept m org (State.learnQueue s a1) := by
  intro s a1 hp h
  unfold State.learnQueue
  try dsimp only
  repeat' first
    | with_reducible assumption
    | ((with_reducible refine so hp ?_); rfl)
    | (with_reducible first
        | refine ite_kept ?_ ?_ | refine State.setBit_kept _ _ _ _ ?_ ?_ | refine State.bump_kept _ _ _ _ ?_ ?_
        | refine State.setGal_kept _ _ ?_ ?_)

theorem State.limitExcess_kept {m : Nat} {org : State} :
    ∀ s, Sub 6 m → Kept m org s → Kept m org (State.limitExcess s) := by
  intro s hp h
  unfold State.limitExcess
  try dsimp only
  repeat' first
    | with_reducible assumption
    | ((with_reducible refine so hp ?_); rfl)
    | (with_reducible first
        | refine State.setBit_kept _ _ _ _ ?_ ?_ | refine State.bump_kept _ _ _ _ ?_ ?_)

theorem State.stationMove_kept {m : Nat} {org : State} :
    ∀ s a1 a2 a3, Sub 266534 m → Kept m org s → Kept m org (State.stationMove s a1 a2 a3).2 := by
  intro s a1 a2 a3 hp h
  unfold State.stationMove
  try dsimp only
  repeat' first
    | with_reducible assumption
    | ((with_reducible refine so hp ?_); rfl)
    | (with_reducible first
        | refine ite_kept2 ?_ ?_ | refine State.bump_kept _ _ _ _ ?_ ?_ | refine State.setBit_kept _ _ _ _ ?_ ?_
        | refine State.raiseRefusal_kept _ _ _ _ _ ?_ ?_ | refine State.limitTake_kept _ _ ?_ ?_
        | refine State.limitExcess_kept _ ?_ ?_ | refine State.galSet_kept _ _ _ ?_ ?_)

theorem State.learnTake_kept {m : Nat} {org : State} :
    ∀ s a1, Sub 266534 m → Kept m org s → Kept m org (State.learnTake s a1).2 := by
  intro s a1 hp h
  unfold State.learnTake
  try dsimp only
  repeat' first
    | with_reducible assumption
    | ((with_reducible refine so hp ?_); rfl)
    | (with_reducible first
        | refine ite_kept2 ?_ ?_ | refine State.count_kept _ _ _ _ ?_ ?_ | refine State.galSet_kept _ _ _ ?_ ?_
        | refine State.stationMove_kept _ _ _ _ ?_ ?_ | refine State.limitExcess_kept _ ?_ ?_
        | refine State.galInsert_kept _ _ ?_ ?_ | refine State.bump_kept _ _ _ _ ?_ ?_)
    | split

theorem State.galParity_kept {m : Nat} {org : State} :
    ∀ s a1, Sub 262438 m → Kept m org s → Kept m org (State.galParity s a1) := by
  intro s a1 hp h
  unfold State.galParity
  try dsimp only
  repeat' first
    | with_reducible assumption
    | ((with_reducible refine so hp ?_); rfl)
    | (with_reducible first
        | refine ite_kept ?_ ?_ | refine State.setBit_kept _ _ _ _ ?_ ?_ | refine State.bump_kept _ _ _ _ ?_ ?_
        | refine State.putReg_kept _ _ _ ?_ ?_ | refine State.raiseFault_kept _ _ _ _ ?_ ?_
        | refine State.galSet_kept _ _ _ ?_ ?_ | refine State.setGal_kept _ _ ?_ ?_)
    | split

theorem State.galResult_kept {m : Nat} {org : State} :
    ∀ s a1 a2 a3 a4 a5, Sub 2 m → Kept m org s → Kept m org (State.galResult s a1 a2 a3 a4 a5) := by
  intro s a1 a2 a3 a4 a5 hp h
  unfold State.galResult
  try dsimp only
  repeat' first
    | (with_reducible first
        | assumption | refine State.putOct_kept _ _ _ _ ?_ ?_)

theorem State.galSearch_kept {m : Nat} {org : State} :
    ∀ s a1 a2, Sub 2 m → Kept m org s → Kept m org (State.galSearch s a1 a2).1 := by
  intro s a1 a2 hp h
  unfold State.galSearch
  try dsimp only
  repeat' first
    | (with_reducible first
        | assumption | refine State.galResult_kept _ _ _ _ _ _ ?_ ?_)
    | split

theorem State.shadowPut_kept {m : Nat} {org : State} :
    ∀ s a1, Sub 262144 m → Kept m org s → Kept m org (State.shadowPut s a1) := by
  intro s a1 hp h
  unfold State.shadowPut
  try dsimp only
  repeat' first
    | (with_reducible first
        | assumption | refine State.setGal_kept _ _ ?_ ?_)

theorem State.galInsertCmd_kept {m : Nat} {org : State} :
    ∀ s a1 a2, Sub 266534 m → Kept m org s → Kept m org (State.galInsertCmd s a1 a2).1 := by
  intro s a1 a2 hp h
  unfold State.galInsertCmd
  try dsimp only
  repeat' first
    | with_reducible assumption
    | ((with_reducible refine so hp ?_); rfl)
    | (with_reducible first
        | refine ite_kept ?_ ?_ | refine ite_kept1 ?_ ?_ | refine State.galResult_kept _ _ _ _ _ _ ?_ ?_
        | refine State.galSet_kept _ _ _ ?_ ?_ | refine State.shadowPut_kept _ _ ?_ ?_
        | refine State.galInsert_kept _ _ ?_ ?_)
    | split

theorem State.galDeleteCmd_kept {m : Nat} {org : State} :
    ∀ s a1 a2, Sub 262146 m → Kept m org s → Kept m org (State.galDeleteCmd s a1 a2).1 := by
  intro s a1 a2 hp h
  unfold State.galDeleteCmd
  try dsimp only
  repeat' first
    | with_reducible assumption
    | ((with_reducible refine so hp ?_); rfl)
    | (with_reducible first
        | refine ite_kept ?_ ?_ | refine ite_kept1 ?_ ?_ | refine State.galResult_kept _ _ _ _ _ _ ?_ ?_
        | refine State.galSet_kept _ _ _ ?_ ?_ | refine State.shadowDrop_kept _ _ _ ?_ ?_)
    | split

theorem State.galOpen_kept {m : Nat} {org : State} :
    ∀ s a1 a2, Sub 262146 m → Kept m org s → Kept m org (State.galOpen s a1 a2).1 := by
  intro s a1 a2 hp h
  unfold State.galOpen
  try dsimp only
  repeat' first
    | with_reducible assumption
    | ((with_reducible refine so hp ?_); rfl)
    | (with_reducible first
        | refine ite_kept1 ?_ ?_ | refine State.setGal_kept _ _ ?_ ?_ | refine State.galResult_kept _ _ _ _ _ _ ?_ ?_)

theorem State.galNext_kept {m : Nat} {org : State} :
    ∀ s a1 a2, Sub 262146 m → Kept m org s → Kept m org (State.galNext s a1 a2).1 := by
  intro s a1 a2 hp h
  unfold State.galNext
  try dsimp only
  repeat' first
    | with_reducible assumption
    | ((with_reducible refine so hp ?_); rfl)
    | (with_reducible first
        | refine ite_kept1 ?_ ?_ | refine State.galResult_kept _ _ _ _ _ _ ?_ ?_ | refine State.setGal_kept _ _ ?_ ?_)
    | split

theorem State.galClose_kept {m : Nat} {org : State} :
    ∀ s a1 a2, Sub 262146 m → Kept m org s → Kept m org (State.galClose s a1 a2).1 := by
  intro s a1 a2 hp h
  unfold State.galClose
  try dsimp only
  repeat' first
    | with_reducible assumption
    | ((with_reducible refine so hp ?_); rfl)
    | (with_reducible first
        | refine ite_kept1 ?_ ?_ | refine State.galResult_kept _ _ _ _ _ _ ?_ ?_ | refine State.setGal_kept _ _ ?_ ?_)

theorem State.galFlushCmd_kept {m : Nat} {org : State} :
    ∀ s a1 a2, Sub 262146 m → Kept m org s → Kept m org (State.galFlushCmd s a1 a2).1 := by
  intro s a1 a2 hp h
  unfold State.galFlushCmd
  try dsimp only
  repeat' first
    | with_reducible assumption
    | ((with_reducible refine so hp ?_); rfl)
    | (with_reducible first
        | refine ite_kept1 ?_ ?_ | refine State.galResult_kept _ _ _ _ _ _ ?_ ?_ | refine State.setGal_kept _ _ ?_ ?_)

theorem State.galleryEff_kept {m : Nat} {org : State} :
    ∀ s a1 a2 a3, Sub 266534 m → Kept m org s → Kept m org (State.galleryEff s a1 a2 a3).1 := by
  intro s a1 a2 a3 hp h
  unfold State.galleryEff
  try dsimp only
  repeat' first
    | with_reducible assumption
    | ((with_reducible refine so hp ?_); rfl)
    | (with_reducible first
        | refine ite_kept1 ?_ ?_ | refine State.setGal_kept _ _ ?_ ?_ | refine State.galSearch_kept _ _ _ ?_ ?_
        | refine State.galInsertCmd_kept _ _ _ ?_ ?_ | refine State.galDeleteCmd_kept _ _ _ ?_ ?_
        | refine State.galOpen_kept _ _ _ ?_ ?_ | refine State.galNext_kept _ _ _ ?_ ?_
        | refine State.galClose_kept _ _ _ ?_ ?_ | refine State.galFlushCmd_kept _ _ _ ?_ ?_)
    | split

theorem State.galApply_kept {m : Nat} {org : State} :
    ∀ s a1 a2, Sub 262144 m → Kept m org s → Kept m org (State.galApply s a1 a2) := by
  intro s a1 a2 hp h
  unfold State.galApply
  try dsimp only
  repeat' first
    | (with_reducible first
        | assumption | refine ite_kept ?_ ?_ | refine State.setGal_kept _ _ ?_ ?_)
    | split

theorem execAgerVisit_kept {m : Nat} {org : State} :
    ∀ a0 s, Sub 262146 m → Kept m org s → KeptOut m org (execAgerVisit a0 s) := by
  intro a0 s hp h
  unfold execAgerVisit
  try dsimp only
  repeat' first
    | with_reducible assumption
    | ((with_reducible refine so hp ?_); rfl)
    | (with_reducible first
        | refine ite_keptOut ?_ ?_ | refine next_kept ?_ | refine State.galSet_kept _ _ _ ?_ ?_
        | refine State.bump_kept _ _ _ _ ?_ ?_)
    | split

theorem execStashMigration_kept {m : Nat} {org : State} :
    ∀ a0 s, Sub 266534 m → Kept m org s → KeptOut m org (execStashMigration a0 s) := by
  intro a0 s hp h
  unfold execStashMigration
  try dsimp only
  repeat' first
    | (with_reducible first
        | assumption | refine ite_keptOut ?_ ?_ | refine next_kept ?_ | refine State.relocate_kept _ _ _ ?_ ?_)
    | split

theorem execStaticRestore_kept {m : Nat} {org : State} :
    ∀ a0 a1 s, Sub 266534 m → Kept m org s → KeptOut m org (execStaticRestore a0 a1 s) := by
  intro a0 a1 s hp h
  unfold execStaticRestore
  try dsimp only
  repeat' first
    | with_reducible assumption
    | ((with_reducible refine so hp ?_); rfl)
    | (with_reducible first
        | refine ite_keptOut ?_ ?_ | refine next_kept ?_ | refine State.setGal_kept _ _ ?_ ?_
        | refine State.galSet_kept _ _ _ ?_ ?_ | refine State.galInsert_kept _ _ ?_ ?_
        | refine State.setBit_kept _ _ _ _ ?_ ?_ | refine State.bump_kept _ _ _ _ ?_ ?_
        | refine snd_kept (by with_reducible assumption) ?_)
    | split

theorem execGallerySearch_kept {m : Nat} {org : State} :
    ∀ a0 a1 s, Sub 537137510 m → Kept m org s → KeptOut m org (execGallerySearch a0 a1 s) := by
  intro a0 a1 s hp h
  unfold execGallerySearch
  try dsimp only
  repeat' first
    | with_reducible assumption
    | ((with_reducible refine so hp ?_); rfl)
    | (with_reducible first
        | refine next_kept ?_ | refine State.hostWrite_kept _ _ _ _ _ _ ?_ ?_ ?_
        | refine State.galleryEff_kept _ _ _ _ ?_ ?_)
    | intro _

theorem execGalleryInsert_kept {m : Nat} {org : State} :
    ∀ a0 a1 s, Sub 537137510 m → Kept m org s → KeptOut m org (execGalleryInsert a0 a1 s) := by
  intro a0 a1 s hp h
  unfold execGalleryInsert
  try dsimp only
  repeat' first
    | with_reducible assumption
    | ((with_reducible refine so hp ?_); rfl)
    | (with_reducible first
        | refine next_kept ?_ | refine State.hostWrite_kept _ _ _ _ _ _ ?_ ?_ ?_
        | refine State.galleryEff_kept _ _ _ _ ?_ ?_)
    | intro _

theorem execGalleryDelete_kept {m : Nat} {org : State} :
    ∀ a0 a1 s, Sub 537137510 m → Kept m org s → KeptOut m org (execGalleryDelete a0 a1 s) := by
  intro a0 a1 s hp h
  unfold execGalleryDelete
  try dsimp only
  repeat' first
    | with_reducible assumption
    | ((with_reducible refine so hp ?_); rfl)
    | (with_reducible first
        | refine next_kept ?_ | refine State.hostWrite_kept _ _ _ _ _ _ ?_ ?_ ?_
        | refine State.galleryEff_kept _ _ _ _ ?_ ?_)
    | intro _

theorem execGalleryWalkOpen_kept {m : Nat} {org : State} :
    ∀ a0 a1 s, Sub 537137510 m → Kept m org s → KeptOut m org (execGalleryWalkOpen a0 a1 s) := by
  intro a0 a1 s hp h
  unfold execGalleryWalkOpen
  try dsimp only
  repeat' first
    | with_reducible assumption
    | ((with_reducible refine so hp ?_); rfl)
    | (with_reducible first
        | refine next_kept ?_ | refine State.hostWrite_kept _ _ _ _ _ _ ?_ ?_ ?_
        | refine State.galleryEff_kept _ _ _ _ ?_ ?_)
    | intro _

theorem execGalleryNext_kept {m : Nat} {org : State} :
    ∀ a0 a1 s, Sub 537137510 m → Kept m org s → KeptOut m org (execGalleryNext a0 a1 s) := by
  intro a0 a1 s hp h
  unfold execGalleryNext
  try dsimp only
  repeat' first
    | with_reducible assumption
    | ((with_reducible refine so hp ?_); rfl)
    | (with_reducible first
        | refine next_kept ?_ | refine State.hostWrite_kept _ _ _ _ _ _ ?_ ?_ ?_
        | refine State.galleryEff_kept _ _ _ _ ?_ ?_)
    | intro _

theorem execGalleryWalkClose_kept {m : Nat} {org : State} :
    ∀ a0 a1 s, Sub 537137510 m → Kept m org s → KeptOut m org (execGalleryWalkClose a0 a1 s) := by
  intro a0 a1 s hp h
  unfold execGalleryWalkClose
  try dsimp only
  repeat' first
    | with_reducible assumption
    | ((with_reducible refine so hp ?_); rfl)
    | (with_reducible first
        | refine next_kept ?_ | refine State.hostWrite_kept _ _ _ _ _ _ ?_ ?_ ?_
        | refine State.galleryEff_kept _ _ _ _ ?_ ?_)
    | intro _

theorem execGalleryFlush_kept {m : Nat} {org : State} :
    ∀ a0 a1 s, Sub 537137510 m → Kept m org s → KeptOut m org (execGalleryFlush a0 a1 s) := by
  intro a0 a1 s hp h
  unfold execGalleryFlush
  try dsimp only
  repeat' first
    | with_reducible assumption
    | ((with_reducible refine so hp ?_); rfl)
    | (with_reducible first
        | refine next_kept ?_ | refine State.hostWrite_kept _ _ _ _ _ _ ?_ ?_ ?_
        | refine State.galleryEff_kept _ _ _ _ ?_ ?_)
    | intro _

theorem execWalkTimeout_kept {m : Nat} {org : State} :
    ∀ a0 s, Sub 262144 m → Kept m org s → KeptOut m org (execWalkTimeout a0 s) := by
  intro a0 s hp h
  unfold execWalkTimeout
  try dsimp only
  repeat' first
    | (with_reducible first
        | assumption | refine next_kept ?_ | refine State.setGal_kept _ _ ?_ ?_)

theorem execFlushStart_kept {m : Nat} {org : State} :
    ∀ s, Sub 262144 m → Kept m org s → KeptOut m org (execFlushStart s) := by
  intro s hp h
  unfold execFlushStart
  try dsimp only
  repeat' first
    | (with_reducible first
        | assumption | refine ite_keptOut ?_ ?_ | refine next_kept ?_ | refine foldl_kept _ _ ?_ ?_
        | refine State.galSet_kept _ _ _ ?_ ?_ | refine State.shadowDrop_kept _ _ _ ?_ ?_
        | refine State.setGal_kept _ _ ?_ ?_)
    | split
    | intro _

theorem execFlushComplete_kept {m : Nat} {org : State} :
    ∀ s, Sub 262434 m → Kept m org s → KeptOut m org (execFlushComplete s) := by
  intro s hp h
  unfold execFlushComplete
  try dsimp only
  repeat' first
    | with_reducible assumption
    | ((with_reducible refine so hp ?_); rfl)
    | (with_reducible first
        | refine ite_keptOut ?_ ?_ | refine next_kept ?_ | refine State.setGal_kept _ _ ?_ ?_
        | refine State.raiseDone_kept _ _ _ _ ?_ ?_)
    | split

end Sys2Proof.Machine
end

