-- ==== Sys2Proof/Laws/Kept/Classify.lean ====
section
/-!
SUPPORT. The operations of Machine/Classify.lean keep soundness and the parts they do not name.
-/

namespace Sys2Proof.Machine

open State

theorem State.profileStage_kept {m : Nat} {org : State} :
    ∀ s a1 a2 a3, Sub 4390 m → Kept m org s → Kept m org (State.profileStage s a1 a2 a3).2 := by
  intro s a1 a2 a3 hp h
  unfold State.profileStage
  try dsimp only
  repeat' first
    | with_reducible assumption
    | ((with_reducible refine so hp ?_); rfl)
    | (with_reducible first
        | refine State.count_kept _ _ _ _ ?_ ?_ | refine State.bump_kept _ _ _ _ ?_ ?_)
    | split

theorem State.fragRecord_kept {m : Nat} {org : State} :
    ∀ s a1 a2, Sub 524294 m → Kept m org s → Kept m org (State.fragRecord s a1 a2) := by
  intro s a1 a2 hp h
  unfold State.fragRecord
  try dsimp only
  repeat' first
    | with_reducible assumption
    | ((with_reducible refine so hp ?_); rfl)
    | (with_reducible first
        | refine ite_kept ?_ ?_ | refine State.setBit_kept _ _ _ _ ?_ ?_ | refine State.bump_kept _ _ _ _ ?_ ?_)
    | ((with_reducible refine mk_kept ?_ ?_ ?_ ?_ ?_ ?_ ?_ ?_ ?_ ?_ ?_ ?_ ?_ ?_ ?_ ?_ ?_ ?_ ?_ ?_ ?_ ?_ ?_ ?_ ?_ ?_ ?_) <;> try (intro hq; first | exact (hit hp rfl hq).elim | with_reducible rfl))

theorem State.classifyFrame_kept {m : Nat} {org : State} :
    ∀ s a1 a2 a3 a4, Sub 528678 m → Kept m org s → Kept m org (State.classifyFrame s a1 a2 a3 a4).2 := by
  intro s a1 a2 a3 a4 hp h
  unfold State.classifyFrame
  try dsimp only
  repeat' first
    | with_reducible assumption
    | ((with_reducible refine so hp ?_); rfl)
    | (with_reducible first
        | refine ite_kept2 ?_ ?_ | refine State.profileStage_kept _ _ _ _ ?_ ?_
        | refine State.bump_kept _ _ _ _ ?_ ?_ | refine State.fragRecord_kept _ _ _ ?_ ?_)
    | split

theorem State.spreadIndex_kept {m : Nat} {org : State} :
    ∀ s a1 a2 a3, Sub 524288 m → Kept m org s → Kept m org (State.spreadIndex s a1 a2 a3).2 := by
  intro s a1 a2 a3 hp h
  unfold State.spreadIndex
  try dsimp only
  repeat' first
    | (with_reducible first
        | assumption | refine ite_kept2 ?_ ?_)
    | dsimp only
    | split
    | ((with_reducible refine mk_kept ?_ ?_ ?_ ?_ ?_ ?_ ?_ ?_ ?_ ?_ ?_ ?_ ?_ ?_ ?_ ?_ ?_ ?_ ?_ ?_ ?_ ?_ ?_ ?_ ?_ ?_ ?_) <;> try (intro hq; first | exact (hit hp rfl hq).elim | with_reducible rfl))

theorem State.spread_kept {m : Nat} {org : State} :
    ∀ s a1 a2 a3 a4, Sub 524294 m → Kept m org s → Kept m org (State.spread s a1 a2 a3 a4).2 := by
  intro s a1 a2 a3 a4 hp h
  unfold State.spread
  try dsimp only
  repeat' first
    | with_reducible assumption
    | ((with_reducible refine so hp ?_); rfl)
    | (with_reducible first
        | refine ite_kept2 ?_ ?_ | refine State.spreadIndex_kept _ _ _ _ ?_ ?_
        | refine State.setBit_kept _ _ _ _ ?_ ?_ | refine State.bump_kept _ _ _ _ ?_ ?_)
    | split

theorem execRuleRestore_kept {m : Nat} {org : State} :
    ∀ a0 s, Sub 262150 m → Kept m org s → KeptOut m org (execRuleRestore a0 s) := by
  intro a0 s hp h
  unfold execRuleRestore
  try dsimp only
  repeat' first
    | with_reducible assumption
    | ((with_reducible refine so hp ?_); rfl)
    | (with_reducible first
        | refine ite_keptOut ?_ ?_ | refine next_kept ?_ | refine State.setBit_kept _ _ _ _ ?_ ?_
        | refine State.bump_kept _ _ _ _ ?_ ?_ | refine State.setGal_kept _ _ ?_ ?_)

theorem execFragmentRecordExpiry_kept {m : Nat} {org : State} :
    ∀ s, Sub 524288 m → Kept m org s → KeptOut m org (execFragmentRecordExpiry s) := by
  intro s hp h
  unfold execFragmentRecordExpiry
  try dsimp only
  repeat' first
    | (with_reducible first
        | assumption | refine next_kept ?_)
    | ((with_reducible refine mk_kept ?_ ?_ ?_ ?_ ?_ ?_ ?_ ?_ ?_ ?_ ?_ ?_ ?_ ?_ ?_ ?_ ?_ ?_ ?_ ?_ ?_ ?_ ?_ ?_ ?_ ?_ ?_) <;> try (intro hq; first | exact (hit hp rfl hq).elim | with_reducible rfl))

end Sys2Proof.Machine
end

