-- ==== Sys2Proof/Laws/Kept/Traffic.lean ====
section
/-!
SUPPORT. The operations of Machine/Traffic.lean keep soundness and the parts they do not name.
-/

namespace Sys2Proof.Machine

open State

theorem State.setNode_kept {m : Nat} {org : State} :
    ∀ s a1 a2 a3, Sub 1048576 m → Kept m org s → Kept m org (State.setNode s a1 a2 a3) := by
  intro s a1 a2 a3 hp h
  unfold State.setNode
  try dsimp only
  repeat' first
    | (with_reducible first
        | assumption | refine State.setTm_kept _ _ ?_ ?_)

theorem State.chargeNode_kept {m : Nat} {org : State} :
    ∀ s a1 a2 a3 a4, Sub 1048578 m → Kept m org s → Kept m org (State.chargeNode s a1 a2 a3 a4) := by
  intro s a1 a2 a3 a4 hp h
  unfold State.chargeNode
  try dsimp only
  repeat' first
    | with_reducible assumption
    | ((with_reducible refine so hp ?_); rfl)
    | (with_reducible first
        | refine State.bump_kept _ _ _ _ ?_ ?_ | refine State.setNode_kept _ _ _ _ ?_ ?_)

theorem State.tokenReset_kept {m : Nat} {org : State} :
    ∀ s a1 a2 a3 a4, Sub 1048576 m → Kept m org s → Kept m org (State.tokenReset s a1 a2 a3 a4) := by
  intro s a1 a2 a3 a4 hp h
  unfold State.tokenReset
  try dsimp only
  repeat' first
    | (with_reducible first
        | assumption | refine State.setNode_kept _ _ _ _ ?_ ?_)

theorem State.setPolicer_kept {m : Nat} {org : State} :
    ∀ s a1 a2, Sub 1048576 m → Kept m org s → Kept m org (State.setPolicer s a1 a2) := by
  intro s a1 a2 hp h
  unfold State.setPolicer
  try dsimp only
  repeat' first
    | (with_reducible first
        | assumption | refine State.setTm_kept _ _ ?_ ?_)

theorem State.police_kept {m : Nat} {org : State} :
    ∀ s a1 a2 a3, Sub 1048578 m → Kept m org s → Kept m org (State.police s a1 a2 a3).2 := by
  intro s a1 a2 a3 hp h
  unfold State.police
  try dsimp only
  repeat' first
    | with_reducible assumption
    | ((with_reducible refine so hp ?_); rfl)
    | (with_reducible first
        | refine ite_kept2 ?_ ?_ | refine State.setPolicer_kept _ _ _ ?_ ?_ | refine State.bump_kept _ _ _ _ ?_ ?_)
    | dsimp only
    | split

theorem State.setQueue_kept {m : Nat} {org : State} :
    ∀ s a1 a2, Sub 1048576 m → Kept m org s → Kept m org (State.setQueue s a1 a2) := by
  intro s a1 a2 hp h
  unfold State.setQueue
  try dsimp only
  repeat' first
    | (with_reducible first
        | assumption | refine State.setTm_kept _ _ ?_ ?_)

theorem State.tailDrop_kept {m : Nat} {org : State} :
    ∀ s a1, Sub 4390 m → Kept m org s → Kept m org (State.tailDrop s a1) := by
  intro s a1 hp h
  unfold State.tailDrop
  try dsimp only
  repeat' first
    | with_reducible assumption
    | ((with_reducible refine so hp ?_); rfl)
    | (with_reducible first
        | refine State.count_kept _ _ _ _ ?_ ?_ | refine State.setBit_kept _ _ _ _ ?_ ?_
        | refine State.bump_kept _ _ _ _ ?_ ?_)

theorem State.setOmci_kept {m : Nat} {org : State} :
    ∀ s a1 a2, Sub 1048576 m → Kept m org s → Kept m org (State.setOmci s a1 a2) := by
  intro s a1 a2 hp h
  unfold State.setOmci
  try dsimp only
  repeat' first
    | (with_reducible first
        | assumption | refine State.setTm_kept _ _ ?_ ?_)

theorem State.sleepAllow_kept {m : Nat} {org : State} :
    ∀ s a1 a2, Sub 65536 m → Kept m org s → Kept m org (State.sleepAllow s a1 a2) := by
  intro s a1 a2 hp h
  unfold State.sleepAllow
  try dsimp only
  repeat' first
    | (with_reducible first
        | assumption | refine ite_kept ?_ ?_ | refine foldl_kept _ _ ?_ ?_
        | refine State.ploamLan_kept _ _ _ _ _ _ _ ?_ ?_)
    | split
    | intro _

theorem State.wake_kept {m : Nat} {org : State} :
    ∀ s a1, Sub 2162690 m → Kept m org s → Kept m org (State.wake s a1) := by
  intro s a1 hp h
  unfold State.wake
  try dsimp only
  repeat' first
    | with_reducible assumption
    | ((with_reducible refine so hp ?_); rfl)
    | (with_reducible first
        | refine ite_kept ?_ ?_ | refine State.setTerm_kept _ _ _ ?_ ?_ | refine State.sleepAllow_kept _ _ _ ?_ ?_
        | refine State.put_kept _ _ _ _ ?_ ?_)

theorem State.wakeOnArrival_kept {m : Nat} {org : State} :
    ∀ s a1 a2, Sub 2162690 m → Kept m org s → Kept m org (State.wakeOnArrival s a1 a2) := by
  intro s a1 a2 hp h
  unfold State.wakeOnArrival
  try dsimp only
  repeat' first
    | (with_reducible first
        | assumption | refine ite_kept ?_ ?_ | refine State.wake_kept _ _ ?_ ?_)

theorem State.drr_kept {m : Nat} {org : State} : ∀ s a1 a2 a3 a4 a5 p, Sub 1048576 m → Kept m org s → State.drr s a1 a2 a3 a4 a5 = some p → Kept m org p.2 := by
  intro s a1 a2 a3 a4 a5 p hp h he
  induction a5 generalizing s a3 with
  | zero => simp [State.drr] at he
  | succ k ih =>
    unfold State.drr at he
    dsimp only at he
    split at he
    · rename_i r hr
      cases he
      obtain ⟨c, _, hc⟩ := Option.bind_eq_some_iff.1 hr
      by_cases hd : 0 < (if a2 = true then (s.node a1 c).defE else (s.node a1 c).defC)
      · rw [if_pos hd] at hc; cases hc; exact h
      · rw [if_neg hd] at hc; cases hc
    · split at he
      · cases he
      · exact ih _ _ (State.setNode_kept _ _ _ _ (so hp rfl) h) he

theorem State.choose_kept {m : Nat} {org : State} : ∀ s a1 a2 a3 a4 p, Sub 1048576 m → Kept m org s → State.choose s a1 a2 a3 a4 = some p → Kept m org p.2.2 := by
  intro s a1 a2 a3 a4 p hp h he
  have pick : ∀ (committed : Bool) (prio : Nat) (p : Nat × Bool × State),
      (if (a4.filter fun c => s.committedOk a3 c == committed && s.n (Node.priority a3) c == prio).isEmpty then none
        else
          let cs := a4.filter fun c => s.committedOk a3 c == committed && s.n (Node.priority a3) c == prio
          let key := (if committed then 0 else 8) + prio
          let turn := ((s.node a1 a2).turns.find? fun x => x.1 == key).map fun x => x.2
          (s.drr a3 (!committed) turn cs (64 * (cs.length + 1))).map fun r =>
            let n := r.2.node a1 a2
            (r.1, committed, r.2.setNode a1 a2 { n with turns := (key, r.1) :: n.turns.filter fun x => x.1 != key })) =
        some p → Kept m org p.2.2 := by
    intro committed prio p hx
    split at hx
    · cases hx
    · obtain ⟨r, hr, rfl⟩ := Option.map_eq_some_iff.1 hx
      exact State.setNode_kept _ _ _ _ (so hp rfl) (State.drr_kept _ _ _ _ _ _ _ (so hp rfl) h hr)
  have find : ∀ (committed : Bool) (l : List Nat) (f : Nat → Option (Nat × Bool × State)),
      (∀ k p, f k = some p → Kept m org p.2.2) → l.findSome? f = some p → Kept m org p.2.2 := by
    intro _ l f hf hl
    obtain ⟨k, _, hk⟩ := List.exists_of_findSome?_eq_some hl
    exact hf k p hk
  unfold State.choose at he
  dsimp only at he
  generalize hx : List.findSome? _ [7, 6, 5, 4, 3, 2, 1, 0] = x at he
  cases x with
  | some y => cases he; exact find true _ _ (fun k p hp => pick true k p hp) hx
  | none => exact find false _ _ (fun k p hp => pick false k p hp) he

theorem State.spend_kept {m : Nat} {org : State} :
    ∀ s a1 a2 a3 a4, Sub 1048576 m → Kept m org s → Kept m org (State.spend s a1 a2 a3 a4) := by
  intro s a1 a2 a3 a4 hp h
  unfold State.spend
  try dsimp only
  repeat' first
    | (with_reducible first
        | assumption | refine State.setNode_kept _ _ _ _ ?_ ?_)

theorem State.settle_kept {m : Nat} {org : State} :
    ∀ s a1 a2 a3, Sub 1048576 m → Kept m org s → Kept m org (State.settle s a1 a2 a3) := by
  intro s a1 a2 a3 hp h
  unfold State.settle
  try dsimp only
  repeat' first
    | (with_reducible first
        | assumption | refine ite_kept ?_ ?_ | refine State.setNode_kept _ _ _ _ ?_ ?_)

theorem State.settleIdle_kept {m : Nat} {org : State} :
    ∀ s, Sub 1048576 m → Kept m org s → Kept m org (State.settleIdle s) := by
  intro s hp h
  unfold State.settleIdle
  try dsimp only
  repeat' first
    | (with_reducible first
        | assumption | refine foldl_kept _ _ ?_ ?_ | refine State.settle_kept _ _ _ _ ?_ ?_)
    | split
    | intro _

theorem State.select_kept {m : Nat} {org : State} : ∀ s a1 a2 p, Sub 1048576 m → Kept m org s → State.select s a1 a2 = some p → Kept m org p.2 := by
  intro s a1 a2 p hp h he
  unfold State.select at he
  dsimp only at he
  split at he
  · cases he
  split at he
  · cases he
  obtain ⟨⟨_, _, s1⟩, h1, he⟩ := Option.bind_eq_some_iff.1 he
  have k1 := State.choose_kept _ _ _ _ _ _ (so hp rfl) h h1
  obtain ⟨⟨_, _, s2⟩, h2, he⟩ := Option.bind_eq_some_iff.1 he
  have k2 := State.choose_kept _ _ _ _ _ _ (so hp rfl) k1 h2
  obtain ⟨⟨_, _, s3⟩, h3, he⟩ := Option.bind_eq_some_iff.1 he
  have k3 := State.choose_kept _ _ _ _ _ _ (so hp rfl) k2 h3
  dsimp only at he
  split at he
  · cases he; exact k3
  · obtain ⟨⟨_, _, s4⟩, h4, rfl⟩ := Option.map_eq_some_iff.1 he
    exact State.choose_kept _ _ _ _ _ _ (so hp rfl) k3 h4

theorem State.chargePath_kept {m : Nat} {org : State} :
    ∀ s a1 a2 a3, Sub 1048578 m → Kept m org s → Kept m org (State.chargePath s a1 a2 a3) := by
  intro s a1 a2 a3 hp h
  unfold State.chargePath
  try dsimp only
  repeat' first
    | with_reducible assumption
    | ((with_reducible refine so hp ?_); rfl)
    | (with_reducible first
        | refine State.chargeNode_kept _ _ _ _ _ ?_ ?_ | refine State.spend_kept _ _ _ _ _ ?_ ?_)
    | split

theorem State.sampleQueue_kept {m : Nat} {org : State} :
    ∀ s a1, Sub 1052966 m → Kept m org s → Kept m org (State.sampleQueue s a1) := by
  intro s a1 hp h
  unfold State.sampleQueue
  try dsimp only
  repeat' first
    | with_reducible assumption
    | ((with_reducible refine so hp ?_); rfl)
    | (with_reducible first
        | refine ite_kept ?_ ?_ | refine State.put_kept _ _ _ _ ?_ ?_ | refine State.setTm_kept _ _ ?_ ?_
        | refine State.putReg_kept _ _ _ ?_ ?_ | refine State.setBit_kept _ _ _ _ ?_ ?_
        | refine State.raise_kept _ _ _ _ _ ?_ ?_ | refine State.limitTake_kept _ _ ?_ ?_)

theorem State.trafficApply_kept {m : Nat} {org : State} :
    ∀ s a1 a2, Sub 1048576 m → Kept m org s → Kept m org (State.trafficApply s a1 a2) := by
  intro s a1 a2 hp h
  unfold State.trafficApply
  try dsimp only
  repeat' first
    | (with_reducible first
        | assumption | refine State.tokenReset_kept _ _ _ _ _ ?_ ?_ | refine State.setNode_kept _ _ _ _ ?_ ?_
        | refine State.setPolicer_kept _ _ _ ?_ ?_)
    | split

theorem execSampleSweep_kept {m : Nat} {org : State} :
    ∀ s, Sub 1052966 m → Kept m org s → KeptOut m org (execSampleSweep s) := by
  intro s hp h
  unfold execSampleSweep
  try dsimp only
  repeat' first
    | with_reducible assumption
    | ((with_reducible refine so hp ?_); rfl)
    | (with_reducible first
        | refine ite_keptOut ?_ ?_ | refine next_kept ?_ | refine foldl_kept _ _ ?_ ?_
        | refine State.bump_kept _ _ _ _ ?_ ?_ | refine State.sampleQueue_kept _ _ ?_ ?_)
    | intro _

theorem execQueueMaxRead_kept {m : Nat} {org : State} :
    ∀ a0 a1 a2 s, Sub 536871010 m → Kept m org s → KeptOut m org (execQueueMaxRead a0 a1 a2 s) := by
  intro a0 a1 a2 s hp h
  unfold execQueueMaxRead
  try dsimp only
  repeat' first
    | with_reducible assumption
    | ((with_reducible refine so hp ?_); rfl)
    | (with_reducible first
        | refine next_kept ?_ | refine State.hostRead_kept _ _ _ _ _ ?_ ?_ ?_ | refine State.put_kept _ _ _ _ ?_ ?_)
    | dsimp only
    | split
    | intro _

end Sys2Proof.Machine
end

