-- ==== Sys2Proof/Laws/Kept/Profiles.lean ====
section
/-!
SUPPORT. The operations of Machine/Profiles.lean keep soundness and the parts they do not name.
-/

namespace Sys2Proof.Machine

open State

theorem State.profileDefaults_kept {m : Nat} {org : State} :
    ∀ s a1, Sub 2 m → Kept m org s → Kept m org (State.profileDefaults s a1) := by
  intro s a1 hp h
  unfold State.profileDefaults
  try dsimp only
  repeat' first
    | (with_reducible first
        | assumption | refine foldl_kept _ _ ?_ ?_ | refine State.putVal_kept _ _ _ _ ?_ ?_
        | refine State.put_kept _ _ _ _ ?_ ?_)
    | split
    | intro _

theorem State.announce_kept {m : Nat} {org : State} :
    ∀ s a1 a2, Sub 65536 m → Kept m org s → Kept m org (State.announce s a1 a2) := by
  intro s a1 a2 hp h
  unfold State.announce
  try dsimp only
  repeat' first
    | (with_reducible first
        | assumption | refine ite_kept ?_ ?_ | refine State.ploamAct_kept _ _ _ _ _ _ _ ?_ ?_)

theorem State.announceAll_kept {m : Nat} {org : State} :
    ∀ s a1, Sub 65536 m → Kept m org s → Kept m org (State.announceAll s a1) := by
  intro s a1 hp h
  unfold State.announceAll
  try dsimp only
  repeat' first
    | (with_reducible first
        | assumption | refine foldl_kept _ _ ?_ ?_ | refine State.announce_kept _ _ _ ?_ ?_)
    | intro _

end Sys2Proof.Machine
end

