-- ==== Sys2Proof/Laws/Kept/Wick.lean ====
section
/-!
SUPPORT. The operations of Machine/Wick.lean keep soundness and the parts they do not name.
-/

namespace Sys2Proof.Machine

open State

theorem State.setClk_kept {m : Nat} {org : State} :
    ∀ s f, Sub 16 m → Kept m org s → (∀ c, soundClock c → soundClock (f c)) → Kept m org (State.setClk s f) := by
  intro s f hp h hf
  exact step_kept h (fun k => ⟨k.1, k.2.1, hf _ k.2.2⟩) (by intro p hq; cases p <;> first | exact (hit hp rfl hq).elim | rfl)

theorem State.putInc_kept {m : Nat} {org : State} :
    ∀ s a1, Sub 18 m → Kept m org s → Kept m org (State.putInc s a1) := by
  intro s a1 hp h
  unfold State.putInc
  try dsimp only
  repeat' first
    | with_reducible assumption
    | ((with_reducible refine so hp ?_); rfl)
    | (with_reducible first
        | refine State.put_kept _ _ _ _ ?_ ?_ | refine State.setClk_kept _ _ ?_ ?_ ?_)
    | exact fun _ hc => ⟨hc.1, hc.2.1, rfl, rfl⟩

theorem State.putWick_kept {m : Nat} {org : State} :
    ∀ s a1, Sub 16 m → Kept m org s → Kept m org (State.putWick s a1) := by
  intro s a1 hp h
  unfold State.putWick
  try dsimp only
  repeat' first
    | (with_reducible first
        | assumption | refine State.setClk_kept _ _ ?_ ?_ ?_)
    | exact fun _ hc => ⟨rfl, rfl, hc.2.2⟩

theorem State.setDom_kept {m : Nat} {org : State} :
    ∀ s a1 a2, Sub 16 m → Kept m org s → Kept m org (State.setDom s a1 a2) := by
  intro s a1 a2 hp h
  unfold State.setDom
  try dsimp only
  repeat' first
    | (with_reducible first
        | assumption | refine State.setClk_kept _ _ ?_ ?_ ?_)
    | exact fun _ hc => ⟨hc.1, hc.2⟩

theorem State.putDomState_kept {m : Nat} {org : State} :
    ∀ s a1 a2, Sub 290 m → Kept m org s → Kept m org (State.putDomState s a1 a2) := by
  intro s a1 a2 hp h
  unfold State.putDomState
  try dsimp only
  repeat' first
    | with_reducible assumption
    | ((with_reducible refine so hp ?_); rfl)
    | (with_reducible first
        | refine ite_kept ?_ ?_ | refine State.raiseChange_kept _ _ _ _ _ _ ?_ ?_
        | refine State.put_kept _ _ _ _ ?_ ?_)

theorem State.expiryRecompute_kept {m : Nat} {org : State} :
    ∀ s, Sub 1073741844 m → Kept m org s → Kept m org (State.expiryRecompute s) := by
  intro s hp h
  unfold State.expiryRecompute
  try dsimp only
  repeat' first
    | with_reducible assumption
    | ((with_reducible refine so hp ?_); rfl)
    | (with_reducible first
        | refine State.draw_kept _ ?_ ?_ | refine State.putReg_kept _ _ _ ?_ ?_
        | refine State.setClk_kept _ _ ?_ ?_ ?_)
    | exact fun _ hc => ⟨hc.1, hc.2⟩

theorem State.putSlewed_kept {m : Nat} {org : State} :
    ∀ s a1 a2, Sub 18 m → Kept m org s → Kept m org (State.putSlewed s a1 a2) := by
  intro s a1 a2 hp h
  unfold State.putSlewed
  try dsimp only
  repeat' first
    | with_reducible assumption
    | ((with_reducible refine so hp ?_); rfl)
    | (with_reducible first
        | refine State.putInc_kept _ _ ?_ ?_ | refine State.setClk_kept _ _ ?_ ?_ ?_)
    | exact fun _ hc => ⟨hc.1, hc.2⟩

theorem State.dropSlew_kept {m : Nat} {org : State} :
    ∀ s, Sub 18 m → Kept m org s → Kept m org (State.dropSlew s) := by
  intro s hp h
  unfold State.dropSlew
  try dsimp only
  repeat' first
    | with_reducible assumption
    | ((with_reducible refine so hp ?_); rfl)
    | (with_reducible first
        | refine State.putSlewed_kept _ _ _ ?_ ?_ | refine State.setClk_kept _ _ ?_ ?_ ?_)
    | exact fun _ hc => ⟨hc.1, hc.2⟩

theorem State.modelApply_kept {m : Nat} {org : State} :
    ∀ s, Sub 18 m → Kept m org s → Kept m org (State.modelApply s) := by
  intro s hp h
  unfold State.modelApply
  try dsimp only
  repeat' first
    | (with_reducible first
        | assumption | refine ite_kept ?_ ?_ | refine State.putSlewed_kept _ _ _ ?_ ?_)

theorem State.modelEntry_kept {m : Nat} {org : State} :
    ∀ s, Sub 20 m → Kept m org s → Kept m org (State.modelEntry s) := by
  intro s hp h
  unfold State.modelEntry
  try dsimp only
  repeat' first
    | with_reducible assumption
    | ((with_reducible refine so hp ?_); rfl)
    | (with_reducible first
        | refine State.putReg_kept _ _ _ ?_ ?_ | refine State.setClk_kept _ _ ?_ ?_ ?_)
    | exact fun _ hc => ⟨hc.1, hc.2⟩

theorem State.holdEnd_kept {m : Nat} {org : State} :
    ∀ s, Sub 1024 m → Kept m org s → Kept m org (State.holdEnd s) := by
  intro s hp h
  unfold State.holdEnd
  try dsimp only
  repeat' first
    | (with_reducible first
        | assumption | refine ite_kept ?_ ?_)
    | ((with_reducible refine mk_kept ?_ ?_ ?_ ?_ ?_ ?_ ?_ ?_ ?_ ?_ ?_ ?_ ?_ ?_ ?_ ?_ ?_ ?_ ?_ ?_ ?_ ?_ ?_ ?_ ?_ ?_ ?_) <;> try (intro hq; first | exact (hit hp rfl hq).elim | with_reducible rfl))

theorem State.enterWick_kept {m : Nat} {org : State} :
    ∀ s a1, Sub 1073743158 m → Kept m org s → Kept m org (State.enterWick s a1) := by
  intro s a1 hp h
  unfold State.enterWick
  try dsimp only
  repeat' first
    | with_reducible assumption
    | ((with_reducible refine so hp ?_); rfl)
    | (with_reducible first
        | refine ite_kept ?_ ?_ | refine State.put_kept _ _ _ _ ?_ ?_ | refine State.holdEnd_kept _ ?_ ?_
        | refine State.modelEntry_kept _ ?_ ?_ | refine State.dropSlew_kept _ ?_ ?_
        | refine State.putDomState_kept _ _ _ ?_ ?_ | refine State.setCause_kept _ _ ?_ ?_
        | refine State.expiryRecompute_kept _ ?_ ?_ | refine State.setBit_kept _ _ _ _ ?_ ?_
        | refine State.raiseChange_kept _ _ _ _ _ _ ?_ ?_ | refine State.setClk_kept _ _ ?_ ?_ ?_)
    | exact fun _ hc => ⟨hc.1, hc.2⟩

theorem State.acquire_kept {m : Nat} {org : State} :
    ∀ s a1, Sub 1073743158 m → Kept m org s → Kept m org (State.acquire s a1) := by
  intro s a1 hp h
  unfold State.acquire
  try dsimp only
  repeat' first
    | with_reducible assumption
    | ((with_reducible refine so hp ?_); rfl)
    | (with_reducible first
        | refine State.enterWick_kept _ _ ?_ ?_ | refine State.put_kept _ _ _ _ ?_ ?_
        | refine State.setClk_kept _ _ ?_ ?_ ?_)
    | exact fun _ hc => ⟨hc.1, hc.2⟩

theorem State.evaluate_kept {m : Nat} {org : State} :
    ∀ s, Sub 1073743158 m → Kept m org s → Kept m org (State.evaluate s) := by
  intro s hp h
  unfold State.evaluate
  try dsimp only
  repeat' first
    | with_reducible assumption
    | ((with_reducible refine so hp ?_); rfl)
    | (with_reducible first
        | refine ite_kept ?_ ?_ | refine State.enterWick_kept _ _ ?_ ?_ | refine State.acquire_kept _ _ ?_ ?_
        | refine State.setClk_kept _ _ ?_ ?_ ?_)
    | exact fun _ hc => ⟨hc.1, hc.2⟩
    | split

theorem State.warmingEnd_kept {m : Nat} {org : State} :
    ∀ s, Sub 1073743158 m → Kept m org s → Kept m org (State.warmingEnd s) := by
  intro s hp h
  unfold State.warmingEnd
  try dsimp only
  repeat' first
    | (with_reducible first
        | assumption | refine ite_kept ?_ ?_ | refine State.acquire_kept _ _ ?_ ?_
        | refine State.enterWick_kept _ _ ?_ ?_)
    | split

theorem State.takeDom_kept {m : Nat} {org : State} :
    ∀ s a1, Sub 306 m → Kept m org s → Kept m org (State.takeDom s a1).2 := by
  intro s a1 hp h
  unfold State.takeDom
  try dsimp only
  repeat' first
    | with_reducible assumption
    | ((with_reducible refine so hp ?_); rfl)
    | (with_reducible first
        | refine ite_kept2 ?_ ?_ | refine State.setDom_kept _ _ _ ?_ ?_ | refine State.put_kept _ _ _ _ ?_ ?_
        | refine State.putDomState_kept _ _ _ ?_ ?_ | refine State.setClk_kept _ _ ?_ ?_ ?_)
    | exact fun _ hc => ⟨hc.1, hc.2⟩

theorem State.frameSelect_kept {m : Nat} {org : State} :
    ∀ s, Sub 1073743158 m → Kept m org s → Kept m org (State.frameSelect s) := by
  intro s hp h
  unfold State.frameSelect
  try dsimp only
  repeat' first
    | with_reducible assumption
    | ((with_reducible refine so hp ?_); rfl)
    | (with_reducible first
        | refine ite_kept ?_ ?_ | refine ite_kept2 ?_ ?_ | refine foldl_kept _ _ ?_ ?_
        | refine State.takeDom_kept _ _ ?_ ?_ | refine State.enterWick_kept _ _ ?_ ?_
        | refine State.put_kept _ _ _ _ ?_ ?_ | refine State.putDomState_kept _ _ _ ?_ ?_
        | refine State.evaluate_kept _ ?_ ?_ | refine State.setClk_kept _ _ ?_ ?_ ?_)
    | exact fun _ hc => ⟨hc.1, hc.2⟩
    | split
    | intro _

theorem State.steer_kept {m : Nat} {org : State} :
    ∀ s, Sub 18 m → Kept m org s → Kept m org (State.steer s) := by
  intro s hp h
  unfold State.steer
  try dsimp only
  repeat' first
    | with_reducible assumption
    | ((with_reducible refine so hp ?_); rfl)
    | (with_reducible first
        | refine ite_kept ?_ ?_ | refine State.putInc_kept _ _ ?_ ?_ | refine State.putSlewed_kept _ _ _ ?_ ?_
        | refine State.dropSlew_kept _ ?_ ?_ | refine State.setClk_kept _ _ ?_ ?_ ?_)
    | exact fun _ hc => ⟨hc.1, hc.2⟩
    | split

theorem State.domSample_kept {m : Nat} {org : State} :
    ∀ s a1 a2 a3, Sub 306 m → Kept m org s → Kept m org (State.domSample s a1 a2 a3) := by
  intro s a1 a2 a3 hp h
  unfold State.domSample
  try dsimp only
  repeat' first
    | with_reducible assumption
    | ((with_reducible refine so hp ?_); rfl)
    | (with_reducible first
        | refine ite_kept ?_ ?_ | refine State.setDom_kept _ _ _ ?_ ?_ | refine State.putDomState_kept _ _ _ ?_ ?_)

theorem State.domClassSet_kept {m : Nat} {org : State} :
    ∀ s a1 a2, Sub 1073743158 m → Kept m org s → Kept m org (State.domClassSet s a1 a2) := by
  intro s a1 a2 hp h
  unfold State.domClassSet
  try dsimp only
  repeat' first
    | with_reducible assumption
    | ((with_reducible refine so hp ?_); rfl)
    | (with_reducible first
        | refine ite_kept ?_ ?_ | refine State.setDom_kept _ _ _ ?_ ?_ | refine State.put_kept _ _ _ _ ?_ ?_
        | refine State.evaluate_kept _ ?_ ?_ | refine State.putDomState_kept _ _ _ ?_ ?_)
    | split

theorem State.domSecond_kept {m : Nat} {org : State} :
    ∀ s a1, Sub 18 m → Kept m org s → Kept m org (State.domSecond s a1) := by
  intro s a1 hp h
  unfold State.domSecond
  try dsimp only
  repeat' first
    | with_reducible assumption
    | ((with_reducible refine so hp ?_); rfl)
    | (with_reducible first
        | refine ite_kept ?_ ?_ | refine State.puti_kept _ _ _ _ ?_ ?_ | refine State.setDom_kept _ _ _ ?_ ?_)

theorem State.wickSecond_kept {m : Nat} {org : State} :
    ∀ s, Sub 1073743158 m → Kept m org s → Kept m org (State.wickSecond s) := by
  intro s hp h
  unfold State.wickSecond
  try dsimp only
  repeat' first
    | with_reducible assumption
    | ((with_reducible refine so hp ?_); rfl)
    | (with_reducible first
        | refine ite_kept ?_ ?_ | refine State.domSecond_kept _ _ ?_ ?_ | refine State.put_kept _ _ _ _ ?_ ?_
        | refine State.evaluate_kept _ ?_ ?_ | refine State.modelApply_kept _ ?_ ?_
        | refine State.setClk_kept _ _ ?_ ?_ ?_)
    | exact fun _ hc => ⟨hc.1, hc.2⟩
    | split

theorem State.wickSetEff_kept {m : Nat} {org : State} :
    ∀ s a1 a2 a3, Sub 16 m → Kept m org s → Kept m org (State.wickSetEff s a1 a2 a3).1 := by
  intro s a1 a2 a3 hp h
  unfold State.wickSetEff
  try dsimp only
  repeat' first
    | (with_reducible first
        | assumption | refine ite_kept1 ?_ ?_ | refine State.setClk_kept _ _ ?_ ?_ ?_)
    | exact fun _ hc => ⟨hc.1, hc.2⟩

theorem State.wickStepCmd_kept {m : Nat} {org : State} :
    ∀ s, Sub 16 m → Kept m org s → Kept m org (State.wickStepCmd s) := by
  intro s hp h
  unfold State.wickStepCmd
  try dsimp only
  repeat' first
    | (with_reducible first
        | assumption | refine ite_kept ?_ ?_ | refine State.setClk_kept _ _ ?_ ?_ ?_)
    | exact fun _ hc => ⟨hc.1, hc.2⟩

theorem State.wickMove_kept {m : Nat} {org : State} :
    ∀ s a1, Sub 310 m → Kept m org s → Kept m org (State.wickMove s a1) := by
  intro s a1 hp h
  unfold State.wickMove
  try dsimp only
  repeat' first
    | with_reducible assumption
    | ((with_reducible refine so hp ?_); rfl)
    | (with_reducible first
        | refine State.putWick_kept _ _ ?_ ?_ | refine State.setBit_kept _ _ _ _ ?_ ?_
        | refine State.put_kept _ _ _ _ ?_ ?_ | refine State.raiseChange_kept _ _ _ _ _ _ ?_ ?_)

theorem State.ptpStates_kept {m : Nat} {org : State} :
    ∀ s, Sub 2 m → Kept m org s → Kept m org (State.ptpStates s) := by
  intro s hp h
  unfold State.ptpStates
  try dsimp only
  repeat' first
    | (with_reducible first
        | assumption | refine foldl_kept _ _ ?_ ?_ | refine State.put_kept _ _ _ _ ?_ ?_)
    | intro _

theorem State.putSlave_kept {m : Nat} {org : State} :
    ∀ s a1 a2, Sub 2 m → Kept m org s → Kept m org (State.putSlave s a1 a2) := by
  intro s a1 a2 hp h
  unfold State.putSlave
  try dsimp only
  repeat' first
    | (with_reducible first
        | assumption | refine State.ptpStates_kept _ ?_ ?_ | refine State.put_kept _ _ _ _ ?_ ?_)

theorem State.domRestart_kept {m : Nat} {org : State} :
    ∀ s a1, Sub 306 m → Kept m org s → Kept m org (State.domRestart s a1) := by
  intro s a1 hp h
  unfold State.domRestart
  try dsimp only
  repeat' first
    | with_reducible assumption
    | ((with_reducible refine so hp ?_); rfl)
    | (with_reducible first
        | refine State.putSlave_kept _ _ _ ?_ ?_ | refine State.setDom_kept _ _ _ ?_ ?_
        | refine State.put_kept _ _ _ _ ?_ ?_ | refine State.putDomState_kept _ _ _ ?_ ?_)

theorem State.domReturn_kept {m : Nat} {org : State} :
    ∀ s a1, Sub 306 m → Kept m org s → Kept m org (State.domReturn s a1) := by
  intro s a1 hp h
  unfold State.domReturn
  try dsimp only
  repeat' first
    | with_reducible assumption
    | ((with_reducible refine so hp ?_); rfl)
    | (with_reducible first
        | refine ite_kept ?_ ?_ | refine State.putDomState_kept _ _ _ ?_ ?_ | refine State.setDom_kept _ _ _ ?_ ?_)

theorem State.wickApply_kept {m : Nat} {org : State} :
    ∀ s a1 a2, Sub 1073743158 m → Kept m org s → Kept m org (State.wickApply s a1 a2) := by
  intro s a1 a2 hp h
  unfold State.wickApply
  try dsimp only
  repeat' first
    | with_reducible assumption
    | ((with_reducible refine so hp ?_); rfl)
    | (with_reducible first
        | refine ite_kept ?_ ?_ | refine State.domRestart_kept _ _ ?_ ?_ | refine State.ptpStates_kept _ ?_ ?_
        | refine State.domClassSet_kept _ _ _ ?_ ?_)
    | split

theorem State.channelTod_kept {m : Nat} {org : State} :
    ∀ s a1, Sub 2 m → Kept m org s → Kept m org (State.channelTod s a1) := by
  intro s a1 hp h
  unfold State.channelTod
  try dsimp only
  repeat' first
    | (with_reducible first
        | assumption | refine ite_kept ?_ ?_ | refine foldl_kept _ _ ?_ ?_ | refine State.putOct_kept _ _ _ _ ?_ ?_)
    | split
    | intro _

end Sys2Proof.Machine
end

