-- ==== Sys2Proof/Laws/Kept/Ciphers.lean ====
section
/-!
SUPPORT. The operations of Machine/Ciphers.lean keep soundness and the parts they do not name.
-/

namespace Sys2Proof.Machine

open State

theorem State.setCiph_kept {m : Nat} {org : State} :
    ∀ s a1, Sub 33554432 m → Kept m org s → Kept m org (State.setCiph s a1) := by
  intro s a1 hp h
  unfold State.setCiph
  try dsimp only
  repeat' first
    | with_reducible assumption
    | ((with_reducible refine mk_kept ?_ ?_ ?_ ?_ ?_ ?_ ?_ ?_ ?_ ?_ ?_ ?_ ?_ ?_ ?_ ?_ ?_ ?_ ?_ ?_ ?_ ?_ ?_ ?_ ?_ ?_ ?_) <;> try (intro hq; first | exact (hit hp rfl hq).elim | with_reducible rfl))

theorem State.setExch_kept {m : Nat} {org : State} :
    ∀ s a1 a2, Sub 33554432 m → Kept m org s → Kept m org (State.setExch s a1 a2) := by
  intro s a1 a2 hp h
  unfold State.setExch
  try dsimp only
  repeat' first
    | (with_reducible first
        | assumption | refine State.setCiph_kept _ _ ?_ ?_)

theorem State.slotErase_kept {m : Nat} {org : State} :
    ∀ s a1 a2, Sub 33554434 m → Kept m org s → Kept m org (State.slotErase s a1 a2) := by
  intro s a1 a2 hp h
  unfold State.slotErase
  try dsimp only
  repeat' first
    | with_reducible assumption
    | ((with_reducible refine so hp ?_); rfl)
    | (with_reducible first
        | refine ite_kept ?_ ?_ | refine State.put_kept _ _ _ _ ?_ ?_ | refine State.putVal_kept _ _ _ _ ?_ ?_
        | refine State.setCiph_kept _ _ ?_ ?_)

theorem State.slotNext_kept {m : Nat} {org : State} :
    ∀ s a1 a2, Sub 2 m → Kept m org s → Kept m org (State.slotNext s a1 a2) := by
  intro s a1 a2 hp h
  unfold State.slotNext
  try dsimp only
  repeat' first
    | (with_reducible first
        | assumption | refine State.put_kept _ _ _ _ ?_ ?_)

theorem State.slotSwitch_kept {m : Nat} {org : State} :
    ∀ s a1 a2, Sub 33554434 m → Kept m org s → Kept m org (State.slotSwitch s a1 a2) := by
  intro s a1 a2 hp h
  unfold State.slotSwitch
  try dsimp only
  repeat' first
    | with_reducible assumption
    | ((with_reducible refine so hp ?_); rfl)
    | (with_reducible first
        | refine State.put_kept _ _ _ _ ?_ ?_ | refine State.setCiph_kept _ _ ?_ ?_
        | refine State.slotErase_kept _ _ _ ?_ ?_)
    | split

theorem State.exchStart_kept {m : Nat} {org : State} :
    ∀ s a1, Sub 33619968 m → Kept m org s → Kept m org (State.exchStart s a1) := by
  intro s a1 hp h
  unfold State.exchStart
  try dsimp only
  repeat' first
    | with_reducible assumption
    | ((with_reducible refine so hp ?_); rfl)
    | (with_reducible first
        | refine ite_kept ?_ ?_ | refine State.ploamLan_kept _ _ _ _ _ _ _ ?_ ?_
        | refine State.setExch_kept _ _ _ ?_ ?_)
    | split

theorem State.exchAsk_kept {m : Nat} {org : State} :
    ∀ s a1, Sub 33619968 m → Kept m org s → Kept m org (State.exchAsk s a1) := by
  intro s a1 hp h
  unfold State.exchAsk
  try dsimp only
  repeat' first
    | with_reducible assumption
    | ((with_reducible refine so hp ?_); rfl)
    | (with_reducible first
        | refine ite_kept ?_ ?_ | refine State.exchStart_kept _ _ ?_ ?_ | refine State.setExch_kept _ _ _ ?_ ?_)

theorem State.keysDiscard_kept {m : Nat} {org : State} :
    ∀ s a1, Sub 33619970 m → Kept m org s → Kept m org (State.keysDiscard s a1) := by
  intro s a1 hp h
  unfold State.keysDiscard
  try dsimp only
  repeat' first
    | with_reducible assumption
    | ((with_reducible refine so hp ?_); rfl)
    | (with_reducible first
        | refine foldl_kept _ _ ?_ ?_ | refine State.setExch_kept _ _ _ ?_ ?_
        | refine State.slotErase_kept _ _ _ ?_ ?_ | refine State.setFramer_kept _ _ _ ?_ ?_)
    | intro _

theorem State.switchNow_kept {m : Nat} {org : State} :
    ∀ s a1, Sub 33619970 m → Kept m org s → Kept m org (State.switchNow s a1) := by
  intro s a1 hp h
  unfold State.switchNow
  try dsimp only
  repeat' first
    | with_reducible assumption
    | ((with_reducible refine so hp ?_); rfl)
    | (with_reducible first
        | refine foldl_kept _ _ ?_ ?_ | refine State.setExch_kept _ _ _ ?_ ?_
        | refine State.slotSwitch_kept _ _ _ ?_ ?_ | refine State.setFramer_kept _ _ _ ?_ ?_)
    | intro _

theorem State.keysRelease_kept {m : Nat} {org : State} :
    ∀ s, Sub 1048576 m → Kept m org s → Kept m org (State.keysRelease s) := by
  intro s hp h
  unfold State.keysRelease
  try dsimp only
  repeat' first
    | (with_reducible first
        | assumption | refine foldl_kept _ _ ?_ ?_ | refine State.setQueue_kept _ _ _ ?_ ?_)
    | intro _

theorem State.bcastSwitch_kept {m : Nat} {org : State} :
    ∀ s a1, Sub 33554434 m → Kept m org s → Kept m org (State.bcastSwitch s a1) := by
  intro s a1 hp h
  unfold State.bcastSwitch
  try dsimp only
  repeat' first
    | with_reducible assumption
    | ((with_reducible refine so hp ?_); rfl)
    | (with_reducible first
        | refine State.setCiph_kept _ _ ?_ ?_ | refine State.slotSwitch_kept _ _ _ ?_ ?_)

theorem State.ciphFrame_kept {m : Nat} {org : State} :
    ∀ s, Sub 34668546 m → Kept m org s → Kept m org (State.ciphFrame s) := by
  intro s hp h
  unfold State.ciphFrame
  try dsimp only
  repeat' first
    | with_reducible assumption
    | ((with_reducible refine so hp ?_); rfl)
    | (with_reducible first
        | refine foldl_kept _ _ ?_ ?_ | refine State.setCiph_kept _ _ ?_ ?_ | refine State.put_kept _ _ _ _ ?_ ?_
        | refine State.bcastSwitch_kept _ _ ?_ ?_ | refine State.exchStart_kept _ _ ?_ ?_
        | refine State.keysRelease_kept _ ?_ ?_)
    | split
    | intro _

theorem State.bcastSwitchEff_kept {m : Nat} {org : State} :
    ∀ s a1 a2 a3, Sub 33554432 m → Kept m org s → Kept m org (State.bcastSwitchEff s a1 a2 a3).1 := by
  intro s a1 a2 a3 hp h
  unfold State.bcastSwitchEff
  try dsimp only
  repeat' first
    | (with_reducible first
        | assumption | refine ite_kept1 ?_ ?_ | refine State.setCiph_kept _ _ ?_ ?_)

theorem State.lockAdd_kept {m : Nat} {org : State} :
    ∀ s a1, Sub 33554432 m → Kept m org s → Kept m org (State.lockAdd s a1) := by
  intro s a1 hp h
  unfold State.lockAdd
  try dsimp only
  repeat' first
    | (with_reducible first
        | assumption | refine State.setCiph_kept _ _ ?_ ?_)

theorem State.bcastLockEff_kept {m : Nat} {org : State} :
    ∀ s a1 a2 a3, Sub 33554432 m → Kept m org s → Kept m org (State.bcastLockEff s a1 a2 a3).1 := by
  intro s a1 a2 a3 hp h
  unfold State.bcastLockEff
  try dsimp only
  repeat' first
    | (with_reducible first
        | assumption | refine ite_kept1 ?_ ?_ | refine State.lockAdd_kept _ _ ?_ ?_)

theorem State.saLockEff_kept {m : Nat} {org : State} :
    ∀ s a1 a2 a3, Sub 33554432 m → Kept m org s → Kept m org (State.saLockEff s a1 a2 a3).1 := by
  intro s a1 a2 a3 hp h
  unfold State.saLockEff
  try dsimp only
  repeat' first
    | (with_reducible first
        | assumption | refine ite_kept1 ?_ ?_ | refine State.lockAdd_kept _ _ ?_ ?_)

theorem State.saReached_kept {m : Nat} {org : State} :
    ∀ s a1 a2 a3, Sub 294 m → Kept m org s → Kept m org (State.saReached s a1 a2 a3) := by
  intro s a1 a2 a3 hp h
  unfold State.saReached
  try dsimp only
  repeat' first
    | with_reducible assumption
    | ((with_reducible refine so hp ?_); rfl)
    | (with_reducible first
        | refine ite_kept ?_ ?_ | refine State.setBit_kept _ _ _ _ ?_ ?_ | refine State.raise_kept _ _ _ _ _ ?_ ?_
        | refine State.put_kept _ _ _ _ ?_ ?_)

theorem State.saAssign_kept {m : Nat} {org : State} :
    ∀ s a1, Sub 294 m → Kept m org s → Kept m org (State.saAssign s a1).2 := by
  intro s a1 hp h
  unfold State.saAssign
  try dsimp only
  repeat' first
    | with_reducible assumption
    | ((with_reducible refine so hp ?_); rfl)
    | (with_reducible first
        | refine State.saReached_kept _ _ _ _ ?_ ?_ | refine State.put_kept _ _ _ _ ?_ ?_)

theorem State.saAccept_kept {m : Nat} {org : State} :
    ∀ s a1 a2, Sub 33554726 m → Kept m org s → Kept m org (State.saAccept s a1 a2) := by
  intro s a1 a2 hp h
  unfold State.saAccept
  try dsimp only
  repeat' first
    | with_reducible assumption
    | ((with_reducible refine so hp ?_); rfl)
    | (with_reducible first
        | refine State.setCiph_kept _ _ ?_ ?_ | refine State.put_kept _ _ _ _ ?_ ?_
        | refine State.saReached_kept _ _ _ _ ?_ ?_)

theorem State.saErase_kept {m : Nat} {org : State} :
    ∀ s a1, Sub 33554434 m → Kept m org s → Kept m org (State.saErase s a1) := by
  intro s a1 hp h
  unfold State.saErase
  try dsimp only
  repeat' first
    | with_reducible assumption
    | ((with_reducible refine so hp ?_); rfl)
    | (with_reducible first
        | refine State.put_kept _ _ _ _ ?_ ?_ | refine State.putVal_kept _ _ _ _ ?_ ?_
        | refine State.setCiph_kept _ _ ?_ ?_)

theorem State.saErasePort_kept {m : Nat} {org : State} :
    ∀ s a1, Sub 33554434 m → Kept m org s → Kept m org (State.saErasePort s a1) := by
  intro s a1 hp h
  unfold State.saErasePort
  try dsimp only
  repeat' first
    | (with_reducible first
        | assumption | refine foldl_kept _ _ ?_ ?_ | refine State.saErase_kept _ _ ?_ ?_)
    | intro _

theorem State.saUpdate_kept {m : Nat} {org : State} :
    ∀ s a1, Sub 2 m → Kept m org s → Kept m org (State.saUpdate s a1) := by
  intro s a1 hp h
  unfold State.saUpdate
  try dsimp only
  repeat' first
    | (with_reducible first
        | assumption | refine ite_kept ?_ ?_ | refine State.put_kept _ _ _ _ ?_ ?_)

theorem State.ciphApply_kept {m : Nat} {org : State} :
    ∀ s a1 a2, Sub 2 m → Kept m org s → Kept m org (State.ciphApply s a1 a2) := by
  intro s a1 a2 hp h
  unfold State.ciphApply
  try dsimp only
  repeat' first
    | (with_reducible first
        | assumption | refine ite_kept ?_ ?_ | refine State.slotNext_kept _ _ _ ?_ ?_
        | refine State.saUpdate_kept _ _ ?_ ?_ | refine State.put_kept _ _ _ _ ?_ ?_)
    | split

theorem State.selViolation_kept {m : Nat} {org : State} :
    ∀ s, Sub 38 m → Kept m org s → Kept m org (State.selViolation s) := by
  intro s hp h
  unfold State.selViolation
  try dsimp only
  repeat' first
    | (with_reducible first
        | assumption | refine State.recordOnce_kept _ _ _ _ ?_ ?_)

theorem State.keyLoadCmd_kept {m : Nat} {org : State} :
    ∀ s, Sub 33554470 m → Kept m org s → Kept m org (State.keyLoadCmd s) := by
  intro s hp h
  unfold State.keyLoadCmd
  try dsimp only
  repeat' first
    | with_reducible assumption
    | ((with_reducible refine so hp ?_); rfl)
    | (with_reducible first
        | refine ite_kept ?_ ?_ | refine State.selViolation_kept _ ?_ ?_ | refine State.setCiph_kept _ _ ?_ ?_
        | refine State.slotNext_kept _ _ _ ?_ ?_ | refine State.putOct_kept _ _ _ _ ?_ ?_
        | refine State.saUpdate_kept _ _ ?_ ?_)

theorem State.keyLockCmd_kept {m : Nat} {org : State} :
    ∀ s, Sub 33554470 m → Kept m org s → Kept m org (State.keyLockCmd s) := by
  intro s hp h
  unfold State.keyLockCmd
  try dsimp only
  repeat' first
    | with_reducible assumption
    | ((with_reducible refine so hp ?_); rfl)
    | (with_reducible first
        | refine ite_kept ?_ ?_ | refine State.selViolation_kept _ ?_ ?_ | refine State.lockAdd_kept _ _ ?_ ?_)

theorem State.keyEraseCmd_kept {m : Nat} {org : State} :
    ∀ s, Sub 33554434 m → Kept m org s → Kept m org (State.keyEraseCmd s) := by
  intro s hp h
  unfold State.keyEraseCmd
  try dsimp only
  repeat' first
    | (with_reducible first
        | assumption | refine ite_kept ?_ ?_ | refine State.saErase_kept _ _ ?_ ?_
        | refine State.slotErase_kept _ _ _ ?_ ?_)

theorem execKeyExchangeComplete_kept {m : Nat} {org : State} :
    ∀ a0 a1 s, Sub 33619970 m → Kept m org s → KeptOut m org (execKeyExchangeComplete a0 a1 s) := by
  intro a0 a1 s hp h
  unfold execKeyExchangeComplete
  try dsimp only
  repeat' first
    | with_reducible assumption
    | ((with_reducible refine so hp ?_); rfl)
    | (with_reducible first
        | refine ite_keptOut ?_ ?_ | refine next_kept ?_ | refine State.setCiph_kept _ _ ?_ ?_
        | refine State.slotNext_kept _ _ _ ?_ ?_ | refine State.ploamLan_kept _ _ _ _ _ _ _ ?_ ?_
        | refine State.setExch_kept _ _ _ ?_ ?_)
    | split

theorem execKeySwitch_kept {m : Nat} {org : State} :
    ∀ a0 s, Sub 33619970 m → Kept m org s → KeptOut m org (execKeySwitch a0 s) := by
  intro a0 s hp h
  unfold execKeySwitch
  try dsimp only
  repeat' first
    | with_reducible assumption
    | ((with_reducible refine so hp ?_); rfl)
    | (with_reducible first
        | refine ite_keptOut ?_ ?_ | refine next_kept ?_ | refine State.setExch_kept _ _ _ ?_ ?_
        | refine State.switchNow_kept _ _ ?_ ?_)

theorem execPonKeySoftLimit_kept {m : Nat} {org : State} :
    ∀ a0 a1 s, Sub 33620262 m → Kept m org s → KeptOut m org (execPonKeySoftLimit a0 a1 s) := by
  intro a0 a1 s hp h
  unfold execPonKeySoftLimit
  try dsimp only
  repeat' first
    | with_reducible assumption
    | ((with_reducible refine so hp ?_); rfl)
    | (with_reducible first
        | refine ite_kept ?_ ?_ | refine ite_keptOut ?_ ?_ | refine next_kept ?_
        | refine State.setCiph_kept _ _ ?_ ?_ | refine State.raise_kept _ _ _ _ _ ?_ ?_
        | refine State.setBit_kept _ _ _ _ ?_ ?_ | refine State.exchAsk_kept _ _ ?_ ?_)

theorem execPonKeyHardLimit_kept {m : Nat} {org : State} :
    ∀ a0 a1 s, Sub 294 m → Kept m org s → KeptOut m org (execPonKeyHardLimit a0 a1 s) := by
  intro a0 a1 s hp h
  unfold execPonKeyHardLimit
  try dsimp only
  repeat' first
    | with_reducible assumption
    | ((with_reducible refine so hp ?_); rfl)
    | (with_reducible first
        | refine ite_keptOut ?_ ?_ | refine next_kept ?_ | refine State.raise_kept _ _ _ _ _ ?_ ?_
        | refine State.setBit_kept _ _ _ _ ?_ ?_ | refine State.put_kept _ _ _ _ ?_ ?_)

theorem execPreviousSlotExpiry_kept {m : Nat} {org : State} :
    ∀ a0 a1 s, Sub 33554434 m → Kept m org s → KeptOut m org (execPreviousSlotExpiry a0 a1 s) := by
  intro a0 a1 s hp h
  unfold execPreviousSlotExpiry
  try dsimp only
  repeat' first
    | (with_reducible first
        | assumption | refine ite_keptOut ?_ ?_ | refine next_kept ?_ | refine State.slotErase_kept _ _ _ ?_ ?_)

theorem execBcastKeyWrite_kept {m : Nat} {org : State} :
    ∀ a0 a1 a2 s, Sub 536871014 m → Kept m org s → KeptOut m org (execBcastKeyWrite a0 a1 a2 s) := by
  intro a0 a1 a2 s hp h
  unfold execBcastKeyWrite
  try dsimp only
  repeat' first
    | (with_reducible first
        | assumption | refine next_kept ?_ | refine State.hostPend_kept _ _ _ _ _ ?_ ?_)

theorem execBcastKeySwitch_kept {m : Nat} {org : State} :
    ∀ a0 a1 a2 s, Sub 570425446 m → Kept m org s → KeptOut m org (execBcastKeySwitch a0 a1 a2 s) := by
  intro a0 a1 a2 s hp h
  unfold execBcastKeySwitch
  try dsimp only
  repeat' first
    | with_reducible assumption
    | ((with_reducible refine so hp ?_); rfl)
    | (with_reducible first
        | refine next_kept ?_ | refine State.hostWrite_kept _ _ _ _ _ _ ?_ ?_ ?_
        | refine State.bcastSwitchEff_kept _ _ _ _ ?_ ?_)
    | intro _

theorem execBcastKeyLock_kept {m : Nat} {org : State} :
    ∀ a0 a1 a2 s, Sub 570425446 m → Kept m org s → KeptOut m org (execBcastKeyLock a0 a1 a2 s) := by
  intro a0 a1 a2 s hp h
  unfold execBcastKeyLock
  try dsimp only
  repeat' first
    | with_reducible assumption
    | ((with_reducible refine so hp ?_); rfl)
    | (with_reducible first
        | refine next_kept ?_ | refine State.hostWrite_kept _ _ _ _ _ _ ?_ ?_ ?_
        | refine State.bcastLockEff_kept _ _ _ _ ?_ ?_)
    | intro _

theorem execSaLock_kept {m : Nat} {org : State} :
    ∀ a0 a1 a2 s, Sub 570425446 m → Kept m org s → KeptOut m org (execSaLock a0 a1 a2 s) := by
  intro a0 a1 a2 s hp h
  unfold execSaLock
  try dsimp only
  repeat' first
    | with_reducible assumption
    | ((with_reducible refine so hp ?_); rfl)
    | (with_reducible first
        | refine next_kept ?_ | refine State.hostWrite_kept _ _ _ _ _ _ ?_ ?_ ?_
        | refine State.saLockEff_kept _ _ _ _ ?_ ?_)
    | intro _

theorem execCiphKeyErase_kept {m : Nat} {org : State} :
    ∀ s, Sub 33554434 m → Kept m org s → KeptOut m org (execCiphKeyErase s) := by
  intro s hp h
  unfold execCiphKeyErase
  try dsimp only
  repeat' first
    | (with_reducible first
        | assumption | refine next_kept ?_ | refine State.keyEraseCmd_kept _ ?_ ?_)

theorem execMaskRekey_kept {m : Nat} {org : State} :
    ∀ s, Sub 1107296256 m → Kept m org s → KeptOut m org (execMaskRekey s) := by
  intro s hp h
  unfold execMaskRekey
  try dsimp only
  repeat' first
    | with_reducible assumption
    | ((with_reducible refine so hp ?_); rfl)
    | (with_reducible first
        | refine ite_keptOut ?_ ?_ | refine next_kept ?_ | refine State.draw_kept _ ?_ ?_
        | refine State.setCiph_kept _ _ ?_ ?_)

theorem execEntropyTestFailure_kept {m : Nat} {org : State} :
    ∀ s, Sub 294 m → Kept m org s → KeptOut m org (execEntropyTestFailure s) := by
  intro s hp h
  unfold execEntropyTestFailure
  try dsimp only
  repeat' first
    | with_reducible assumption
    | ((with_reducible refine so hp ?_); rfl)
    | (with_reducible first
        | refine ite_keptOut ?_ ?_ | refine next_kept ?_ | refine State.setBit_kept _ _ _ _ ?_ ?_
        | refine State.bump_kept _ _ _ _ ?_ ?_ | refine State.put_kept _ _ _ _ ?_ ?_
        | refine State.raiseFault_kept _ _ _ _ ?_ ?_ | refine State.setCause_kept _ _ ?_ ?_)

theorem execEntropyRecovery_kept {m : Nat} {org : State} :
    ∀ s, Sub 2 m → Kept m org s → KeptOut m org (execEntropyRecovery s) := by
  intro s hp h
  unfold execEntropyRecovery
  try dsimp only
  repeat' first
    | (with_reducible first
        | assumption | refine ite_kept ?_ ?_ | refine next_kept ?_ | refine State.put_kept _ _ _ _ ?_ ?_)

end Sys2Proof.Machine
end

