-- ==== Sys2Proof/Laws/Kept/Activate.lean ====
section
/-!
SUPPORT. The operations of Machine/Activate.lean keep soundness and the parts they do not name.
-/

namespace Sys2Proof.Machine

open State

theorem State.setAct_kept {m : Nat} {org : State} :
    ∀ s a1 a2, Sub 4194304 m → Kept m org s → Kept m org (State.setAct s a1 a2) := by
  intro s a1 a2 hp h
  unfold State.setAct
  try dsimp only
  repeat' first
    | with_reducible assumption
    | ((with_reducible refine mk_kept ?_ ?_ ?_ ?_ ?_ ?_ ?_ ?_ ?_ ?_ ?_ ?_ ?_ ?_ ?_ ?_ ?_ ?_ ?_ ?_ ?_ ?_ ?_ ?_ ?_ ?_ ?_) <;> try (intro hq; first | exact (hit hp rfl hq).elim | with_reducible rfl))

theorem State.putT_kept {m : Nat} {org : State} :
    ∀ s a1 a2 a3, Sub 2 m → Kept m org s → Kept m org (State.putT s a1 a2 a3) := by
  intro s a1 a2 a3 hp h
  unfold State.putT
  try dsimp only
  repeat' first
    | (with_reducible first
        | assumption | refine State.put_kept _ _ _ _ ?_ ?_)

theorem State.wrapReg_kept {m : Nat} {org : State} :
    ∀ s a1, Sub 4 m → Kept m org s → Kept m org (State.wrapReg s a1) := by
  intro s a1 hp h
  unfold State.wrapReg
  try dsimp only
  repeat' first
    | (with_reducible first
        | assumption | refine State.putReg_kept _ _ _ ?_ ?_)

theorem State.showRtd_kept {m : Nat} {org : State} :
    ∀ s a1 a2 a3 a4, Sub 2097154 m → Kept m org s → Kept m org (State.showRtd s a1 a2 a3 a4) := by
  intro s a1 a2 a3 a4 hp h
  unfold State.showRtd
  try dsimp only
  repeat' first
    | with_reducible assumption
    | ((with_reducible refine so hp ?_); rfl)
    | (with_reducible first
        | refine State.setSd_kept _ _ _ _ ?_ ?_ | refine State.put_kept _ _ _ _ ?_ ?_)

theorem State.showEqd_kept {m : Nat} {org : State} :
    ∀ s a1 a2 a3 a4, Sub 2097154 m → Kept m org s → Kept m org (State.showEqd s a1 a2 a3 a4) := by
  intro s a1 a2 a3 a4 hp h
  unfold State.showEqd
  try dsimp only
  repeat' first
    | with_reducible assumption
    | ((with_reducible refine so hp ?_); rfl)
    | (with_reducible first
        | refine State.setSd_kept _ _ _ _ ?_ ?_ | refine State.put_kept _ _ _ _ ?_ ?_)

theorem State.clearRecord_kept {m : Nat} {org : State} :
    ∀ s a1 a2, Sub 2 m → Kept m org s → Kept m org (State.clearRecord s a1 a2) := by
  intro s a1 a2 hp h
  unfold State.clearRecord
  try dsimp only
  repeat' first
    | (with_reducible first
        | assumption | refine foldl_kept _ _ ?_ ?_ | refine State.put_kept _ _ _ _ ?_ ?_)
    | intro _

theorem State.deactivate_kept {m : Nat} {org : State} :
    ∀ s a1 a2 a3, Sub 65536 m → Kept m org s → Kept m org (State.deactivate s a1 a2 a3) := by
  intro s a1 a2 a3 hp h
  unfold State.deactivate
  try dsimp only
  repeat' first
    | (with_reducible first
        | assumption | refine State.ploamAct_kept _ _ _ _ _ _ _ ?_ ?_)

theorem State.disableSerial_kept {m : Nat} {org : State} :
    ∀ s a1 a2 a3 a4, Sub 65536 m → Kept m org s → Kept m org (State.disableSerial s a1 a2 a3 a4) := by
  intro s a1 a2 a3 a4 hp h
  unfold State.disableSerial
  try dsimp only
  repeat' first
    | (with_reducible first
        | assumption | refine State.ploamAct_kept _ _ _ _ _ _ _ ?_ ?_)

theorem State.purgeQueues_kept {m : Nat} {org : State} :
    ∀ s a1 a2, Sub 1052966 m → Kept m org s → (∀ u0, Kept m org u0 → Kept m org (a2 u0)) → Kept m org (State.purgeQueues s a1 a2) := by
  intro s a1 a2 hp h hf2
  unfold State.purgeQueues
  try dsimp only
  repeat' first
    | with_reducible assumption
    | ((with_reducible refine so hp ?_); rfl)
    | (with_reducible first
        | refine foldl_kept _ _ ?_ ?_ | apply hf2 | refine State.releaseFrame_kept _ _ _ ?_ ?_
        | refine State.setQueue_kept _ _ _ ?_ ?_ | refine State.setOmci_kept _ _ _ ?_ ?_)
    | intro _

theorem State.goIdle_kept {m : Nat} {org : State} :
    ∀ s a1 a2, Sub 2105346 m → Kept m org s → Kept m org (State.goIdle s a1 a2) := by
  intro s a1 a2 hp h
  unfold State.goIdle
  try dsimp only
  repeat' first
    | with_reducible assumption
    | ((with_reducible refine so hp ?_); rfl)
    | (with_reducible first
        | refine ite_kept ?_ ?_ | refine State.setSd_kept _ _ _ _ ?_ ?_ | refine State.clearRecord_kept _ _ _ ?_ ?_
        | refine State.putT_kept _ _ _ _ ?_ ?_ | refine State.setLane_kept _ _ _ ?_ ?_
        | refine State.setTerm_kept _ _ _ ?_ ?_ | refine State.put_kept _ _ _ _ ?_ ?_)
    | split

theorem State.activationFails_kept {m : Nat} {org : State} :
    ∀ s a1 a2, Sub 2170882 m → Kept m org s → Kept m org (State.activationFails s a1 a2) := by
  intro s a1 a2 hp h
  unfold State.activationFails
  try dsimp only
  repeat' first
    | with_reducible assumption
    | ((with_reducible refine so hp ?_); rfl)
    | (with_reducible first
        | refine State.goIdle_kept _ _ _ ?_ ?_ | refine State.deactivate_kept _ _ _ _ ?_ ?_)

theorem State.lostActions_kept {m : Nat} {org : State} :
    ∀ s a1 a2, Sub 36778278 m → Kept m org s → Kept m org (State.lostActions s a1 a2) := by
  intro s a1 a2 hp h
  unfold State.lostActions
  try dsimp only
  repeat' first
    | with_reducible assumption
    | ((with_reducible refine so hp ?_); rfl)
    | (with_reducible first
        | refine ite_kept ?_ ?_ | refine State.goIdle_kept _ _ _ ?_ ?_ | refine State.deactivate_kept _ _ _ _ ?_ ?_
        | refine State.raiseChange_kept _ _ _ _ _ _ ?_ ?_ | refine State.keysDiscard_kept _ _ ?_ ?_
        | refine State.purgeQueues_kept _ _ _ ?_ ?_ ?_ | refine State.bump_kept _ _ _ _ ?_ ?_)
    | split
    | intro _

theorem State.enterLost_kept {m : Nat} {org : State} :
    ∀ s a1 a2, Sub 2101542 m → Kept m org s → Kept m org (State.enterLost s a1 a2) := by
  intro s a1 a2 hp h
  unfold State.enterLost
  try dsimp only
  repeat' first
    | with_reducible assumption
    | ((with_reducible refine so hp ?_); rfl)
    | (with_reducible first
        | refine State.setSd_kept _ _ _ _ ?_ ?_ | refine State.putT_kept _ _ _ _ ?_ ?_
        | refine State.count_kept _ _ _ _ ?_ ?_ | refine State.bumpReg_kept _ _ _ ?_ ?_
        | refine State.setBit_kept _ _ _ _ ?_ ?_ | refine State.put_kept _ _ _ _ ?_ ?_)
    | split

theorem State.logResponse_kept {m : Nat} {org : State} :
    ∀ s a1 a2 a3, Sub 8388902 m → Kept m org s → Kept m org (State.logResponse s a1 a2 a3) := by
  intro s a1 a2 a3 hp h
  unfold State.logResponse
  try dsimp only
  repeat' first
    | with_reducible assumption
    | ((with_reducible refine so hp ?_); rfl)
    | (with_reducible first
        | refine ite_kept ?_ ?_ | refine State.put_kept _ _ _ _ ?_ ?_ | refine State.putOct_kept _ _ _ _ ?_ ?_
        | refine State.setBit_kept _ _ _ _ ?_ ?_ | refine State.raiseRefusal_kept _ _ _ _ _ ?_ ?_)
    | split
    | ((with_reducible refine mk_kept ?_ ?_ ?_ ?_ ?_ ?_ ?_ ?_ ?_ ?_ ?_ ?_ ?_ ?_ ?_ ?_ ?_ ?_ ?_ ?_ ?_ ?_ ?_ ?_ ?_ ?_ ?_) <;> try (intro hq; first | exact (hit hp rfl hq).elim | with_reducible rfl))

theorem State.refuseResponse_kept {m : Nat} {org : State} :
    ∀ s a1 a2 a3, Sub 8454438 m → Kept m org s → Kept m org (State.refuseResponse s a1 a2 a3) := by
  intro s a1 a2 a3 hp h
  unfold State.refuseResponse
  try dsimp only
  repeat' first
    | with_reducible assumption
    | ((with_reducible refine so hp ?_); rfl)
    | (with_reducible first
        | refine ite_kept ?_ ?_ | refine State.setBit_kept _ _ _ _ ?_ ?_
        | refine State.disableSerial_kept _ _ _ _ _ ?_ ?_ | refine State.logResponse_kept _ _ _ _ ?_ ?_)

theorem State.admitNow_kept {m : Nat} {org : State} :
    ∀ s a1 a2 a3 a4 a5 a6, Sub 2195458 m → Kept m org s → Kept m org (State.admitNow s a1 a2 a3 a4 a5 a6) := by
  intro s a1 a2 a3 a4 a5 a6 hp h
  unfold State.admitNow
  try dsimp only
  repeat' first
    | with_reducible assumption
    | ((with_reducible refine so hp ?_); rfl)
    | (with_reducible first
        | refine State.put_kept _ _ _ _ ?_ ?_ | refine State.putOct_kept _ _ _ _ ?_ ?_
        | refine State.eqCount_kept _ _ _ _ _ ?_ ?_ | refine State.putT_kept _ _ _ _ ?_ ?_
        | refine State.setSd_kept _ _ _ _ ?_ ?_ | refine State.ploamAct_kept _ _ _ _ _ _ _ ?_ ?_)
    | split

theorem State.snResponse_kept {m : Nat} {org : State} :
    ∀ s a1 a2 a3 a4 a5, Sub 49393958 m → Kept m org s → Kept m org (State.snResponse s a1 a2 a3 a4 a5) := by
  intro s a1 a2 a3 a4 a5 hp h
  unfold State.snResponse
  try dsimp only
  repeat' first
    | with_reducible assumption
    | ((with_reducible refine so hp ?_); rfl)
    | (with_reducible first
        | refine ite_kept ?_ ?_ | refine State.bump_kept _ _ _ _ ?_ ?_ | refine State.count_kept _ _ _ _ ?_ ?_
        | refine State.wrapReg_kept _ _ ?_ ?_ | refine State.setAct_kept _ _ _ ?_ ?_
        | refine State.laneWake_kept _ _ ?_ ?_ | refine State.refuseResponse_kept _ _ _ _ ?_ ?_
        | refine State.lostActions_kept _ _ _ ?_ ?_ | refine State.admitNow_kept _ _ _ _ _ _ _ ?_ ?_)
    | split

theorem State.windowPast_kept {m : Nat} {org : State} :
    ∀ s a1 a2 a3, Sub 4194304 m → Kept m org s → Kept m org (State.windowPast s a1 a2 a3) := by
  intro s a1 a2 a3 hp h
  unfold State.windowPast
  try dsimp only
  repeat' first
    | (with_reducible first
        | assumption | refine State.setAct_kept _ _ _ ?_ ?_)

theorem State.ranged_kept {m : Nat} {org : State} :
    ∀ s a1 a2 a3 a4 a5 a6, Sub 6398242 m → Kept m org s → Kept m org (State.ranged s a1 a2 a3 a4 a5 a6) := by
  intro s a1 a2 a3 a4 a5 a6 hp h
  unfold State.ranged
  try dsimp only
  repeat' first
    | with_reducible assumption
    | ((with_reducible refine so hp ?_); rfl)
    | (with_reducible first
        | refine ite_kept ?_ ?_ | refine State.setLane_kept _ _ _ ?_ ?_ | refine State.windowPast_kept _ _ _ _ ?_ ?_
        | refine State.put_kept _ _ _ _ ?_ ?_ | refine State.eqCount_kept _ _ _ _ _ ?_ ?_
        | refine State.raiseChange_kept _ _ _ _ _ _ ?_ ?_ | refine State.activationFails_kept _ _ _ ?_ ?_
        | refine State.showRtd_kept _ _ _ _ _ ?_ ?_ | refine State.showEqd_kept _ _ _ _ _ ?_ ?_
        | refine State.setSd_kept _ _ _ _ ?_ ?_ | refine State.ploamAct_kept _ _ _ _ _ _ _ ?_ ?_
        | refine State.putT_kept _ _ _ _ ?_ ?_)

theorem State.quietNext_kept {m : Nat} {org : State} :
    ∀ s a1, Sub 2 m → Kept m org s → Kept m org (State.quietNext s a1) := by
  intro s a1 hp h
  unfold State.quietNext
  try dsimp only
  repeat' first
    | (with_reducible first
        | assumption | refine State.put_kept _ _ _ _ ?_ ?_)

theorem State.fixWindow_kept {m : Nat} {org : State} :
    ∀ s a1 a2, Sub 4259842 m → Kept m org s → Kept m org (State.fixWindow s a1 a2) := by
  intro s a1 a2 hp h
  unfold State.fixWindow
  try dsimp only
  repeat' first
    | with_reducible assumption
    | ((with_reducible refine so hp ?_); rfl)
    | (with_reducible first
        | refine State.announceAll_kept _ _ ?_ ?_ | refine State.quietNext_kept _ _ ?_ ?_
        | refine State.setAct_kept _ _ _ ?_ ?_)

theorem State.quietAtEff_kept {m : Nat} {org : State} :
    ∀ s a1 a2 a3, Sub 4194304 m → Kept m org s → Kept m org (State.quietAtEff s a1 a2 a3).1 := by
  intro s a1 a2 a3 hp h
  unfold State.quietAtEff
  repeat' first
    | (with_reducible first
        | assumption | refine ite_kept1 ?_ ?_ | refine State.setAct_kept _ _ _ ?_ ?_)

theorem State.actApply_kept {m : Nat} {org : State} :
    ∀ s a1 a2, Sub 2162722 m → Kept m org s → Kept m org (State.actApply s a1 a2) := by
  intro s a1 a2 hp h
  unfold State.actApply
  try dsimp only
  repeat' first
    | with_reducible assumption
    | ((with_reducible refine so hp ?_); rfl)
    | (with_reducible first
        | refine ite_kept ?_ ?_ | refine foldl_kept _ _ ?_ ?_ | refine State.sleepAllow_kept _ _ _ ?_ ?_
        | refine State.put_kept _ _ _ _ ?_ ?_ | refine State.wake_kept _ _ ?_ ?_
        | refine State.encryptedPort_kept _ _ _ ?_ ?_ | refine State.announce_kept _ _ _ ?_ ?_)
    | split
    | intro _
    | ((with_reducible refine mk_kept ?_ ?_ ?_ ?_ ?_ ?_ ?_ ?_ ?_ ?_ ?_ ?_ ?_ ?_ ?_ ?_ ?_ ?_ ?_ ?_ ?_ ?_ ?_ ?_ ?_ ?_ ?_) <;> try (intro hq; first | exact (hit hp rfl hq).elim | with_reducible rfl))

theorem State.asymLoad_kept {m : Nat} {org : State} :
    ∀ s a1, Sub 2 m → Kept m org s → Kept m org (State.asymLoad s a1) := by
  intro s a1 hp h
  unfold State.asymLoad
  try dsimp only
  repeat' first
    | (with_reducible first
        | assumption | refine ite_kept ?_ ?_ | refine State.puti_kept _ _ _ _ ?_ ?_)

theorem State.activationAborts_kept {m : Nat} {org : State} :
    ∀ s s1, Sub 2170882 m → Kept m org s → Kept m org s1 → Kept m org (State.activationAborts s s1) := by
  intro s s1 hp h h1
  unfold State.activationAborts
  try dsimp only
  repeat' first
    | (with_reducible first
        | assumption | refine foldl_kept _ _ ?_ ?_ | refine State.activationFails_kept _ _ _ ?_ ?_)
    | split
    | intro _

theorem State.noteEmpty_kept {m : Nat} {org : State} :
    ∀ s a1, Sub 2097152 m → Kept m org s → Kept m org (State.noteEmpty s a1) := by
  intro s a1 hp h
  unfold State.noteEmpty
  try dsimp only
  repeat' first
    | (with_reducible first
        | assumption | refine ite_kept ?_ ?_ | refine State.setTerm_kept _ _ _ ?_ ?_)

theorem State.sideFrame_kept {m : Nat} {org : State} :
    ∀ s a1 a2, Sub 2162690 m → Kept m org s → Kept m org (State.sideFrame s a1 a2) := by
  intro s a1 a2 hp h
  unfold State.sideFrame
  try dsimp only
  repeat' first
    | with_reducible assumption
    | ((with_reducible refine so hp ?_); rfl)
    | (with_reducible first
        | refine ite_kept ?_ ?_ | refine State.gponBind_kept _ _ _ ?_ ?_ | refine State.noteEmpty_kept _ _ ?_ ?_
        | refine State.setSd_kept _ _ _ _ ?_ ?_ | refine State.putT_kept _ _ _ _ ?_ ?_)

theorem State.noteSent_kept {m : Nat} {org : State} :
    ∀ s a1, Sub 6356992 m → Kept m org s → Kept m org (State.noteSent s a1) := by
  intro s a1 hp h
  unfold State.noteSent
  try dsimp only
  repeat' first
    | with_reducible assumption
    | ((with_reducible refine so hp ?_); rfl)
    | (with_reducible first
        | refine foldl_kept _ _ ?_ ?_ | refine State.setAct_kept _ _ _ ?_ ?_ | refine State.setSd_kept _ _ _ _ ?_ ?_
        | refine State.setFramer_kept _ _ _ ?_ ?_)
    | split
    | intro _

theorem State.actFrame_kept {m : Nat} {org : State} :
    ∀ s, Sub 2162690 m → Kept m org s → Kept m org (State.actFrame s) := by
  intro s hp h
  unfold State.actFrame
  try dsimp only
  repeat' first
    | (with_reducible first
        | assumption | refine foldl_kept _ _ ?_ ?_ | refine State.sideFrame_kept _ _ _ ?_ ?_)
    | intro _

theorem State.driftCorrection_kept {m : Nat} {org : State} :
    ∀ s a1 a2 a3 a4, Sub 6369574 m → Kept m org s → Kept m org (State.driftCorrection s a1 a2 a3 a4) := by
  intro s a1 a2 a3 a4 hp h
  unfold State.driftCorrection
  try dsimp only
  repeat' first
    | with_reducible assumption
    | ((with_reducible refine so hp ?_); rfl)
    | (with_reducible first
        | refine ite_kept ?_ ?_ | refine State.setAct_kept _ _ _ ?_ ?_
        | refine State.activationFails_kept _ _ _ ?_ ?_ | refine State.enterLost_kept _ _ _ ?_ ?_
        | refine State.setSd_kept _ _ _ _ ?_ ?_ | refine State.showEqd_kept _ _ _ _ _ ?_ ?_
        | refine State.count_kept _ _ _ _ ?_ ?_ | refine State.wrapReg_kept _ _ ?_ ?_
        | refine State.put_kept _ _ _ _ ?_ ?_ | refine State.ploamAct_kept _ _ _ _ _ _ _ ?_ ?_
        | refine State.setBit_kept _ _ _ _ ?_ ?_)

theorem State.rtdSecond_kept {m : Nat} {org : State} :
    ∀ s a1 a2, Sub 2097154 m → Kept m org s → Kept m org (State.rtdSecond s a1 a2) := by
  intro s a1 a2 hp h
  unfold State.rtdSecond
  try dsimp only
  repeat' first
    | with_reducible assumption
    | ((with_reducible refine so hp ?_); rfl)
    | (with_reducible first
        | refine ite_kept ?_ ?_ | refine State.setSd_kept _ _ _ _ ?_ ?_ | refine State.showRtd_kept _ _ _ _ _ ?_ ?_)

theorem State.rtdUpdate_kept {m : Nat} {org : State} :
    ∀ s, Sub 2097154 m → Kept m org s → Kept m org (State.rtdUpdate s) := by
  intro s hp h
  unfold State.rtdUpdate
  try dsimp only
  repeat' first
    | (with_reducible first
        | assumption | refine foldl_kept _ _ ?_ ?_ | refine State.rtdSecond_kept _ _ _ ?_ ?_)
    | intro _

theorem execQuietWindowFixed_kept {m : Nat} {org : State} :
    ∀ a0 s, Sub 4259842 m → Kept m org s → KeptOut m org (execQuietWindowFixed a0 s) := by
  intro a0 s hp h
  unfold execQuietWindowFixed
  try dsimp only
  repeat' first
    | (with_reducible first
        | assumption | refine ite_keptOut ?_ ?_ | refine next_kept ?_ | refine State.fixWindow_kept _ _ _ ?_ ?_)

theorem execQuietAt_kept {m : Nat} {org : State} :
    ∀ a0 a1 a2 s, Sub 541065318 m → Kept m org s → KeptOut m org (execQuietAt a0 a1 a2 s) := by
  intro a0 a1 a2 s hp h
  unfold execQuietAt
  try dsimp only
  repeat' first
    | with_reducible assumption
    | ((with_reducible refine so hp ?_); rfl)
    | (with_reducible first
        | refine next_kept ?_ | refine State.hostWrite_kept _ _ _ _ _ _ ?_ ?_ ?_
        | refine State.quietAtEff_kept _ _ _ _ ?_ ?_)
    | intro _

theorem execQuietNow_kept {m : Nat} {org : State} :
    ∀ a0 s, Sub 4194304 m → Kept m org s → KeptOut m org (execQuietNow a0 s) := by
  intro a0 s hp h
  unfold execQuietNow
  try dsimp only
  repeat' first
    | (with_reducible first
        | assumption | refine next_kept ?_ | refine State.setAct_kept _ _ _ ?_ ?_)

theorem execSerialNumberResponse_kept {m : Nat} {org : State} :
    ∀ a0 a1 a2 a3 a4 a5 s, Sub 49393958 m → Kept m org s → KeptOut m org (execSerialNumberResponse a0 a1 a2 a3 a4 a5 s) := by
  intro a0 a1 a2 a3 a4 a5 s hp h
  unfold execSerialNumberResponse
  try dsimp only
  repeat' first
    | with_reducible assumption
    | ((with_reducible refine so hp ?_); rfl)
    | (with_reducible first
        | refine ite_kept ?_ ?_ | refine ite_keptOut ?_ ?_ | refine next_kept ?_
        | refine State.setAct_kept _ _ _ ?_ ?_ | refine State.snResponse_kept _ _ _ _ _ _ ?_ ?_)
    | split

theorem execRangingResponse_kept {m : Nat} {org : State} :
    ∀ a0 a1 a2 a3 a4 a5 s, Sub 6398242 m → Kept m org s → KeptOut m org (execRangingResponse a0 a1 a2 a3 a4 a5 s) := by
  intro a0 a1 a2 a3 a4 a5 s hp h
  unfold execRangingResponse
  try dsimp only
  repeat' first
    | with_reducible assumption
    | ((with_reducible refine so hp ?_); rfl)
    | (with_reducible first
        | refine ite_keptOut ?_ ?_ | refine next_kept ?_ | refine State.ranged_kept _ _ _ _ _ _ _ ?_ ?_
        | refine State.setSd_kept _ _ _ _ ?_ ?_)
    | split

theorem execRangingWindowEnd_kept {m : Nat} {org : State} :
    ∀ a0 a1 s, Sub 6365186 m → Kept m org s → KeptOut m org (execRangingWindowEnd a0 a1 s) := by
  intro a0 a1 s hp h
  unfold execRangingWindowEnd
  try dsimp only
  repeat' first
    | with_reducible assumption
    | ((with_reducible refine so hp ?_); rfl)
    | (with_reducible first
        | refine ite_keptOut ?_ ?_ | refine next_kept ?_ | refine State.windowPast_kept _ _ _ _ ?_ ?_
        | refine State.activationFails_kept _ _ _ ?_ ?_ | refine State.setSd_kept _ _ _ _ ?_ ?_)
    | split

theorem execRegistrationRequest_kept {m : Nat} {org : State} :
    ∀ a0 a1 s, Sub 2162688 m → Kept m org s → KeptOut m org (execRegistrationRequest a0 a1 s) := by
  intro a0 a1 s hp h
  unfold execRegistrationRequest
  try dsimp only
  repeat' first
    | with_reducible assumption
    | ((with_reducible refine so hp ?_); rfl)
    | (with_reducible first
        | refine ite_keptOut ?_ ?_ | refine next_kept ?_ | refine State.setSd_kept _ _ _ _ ?_ ?_
        | refine State.ploamLan_kept _ _ _ _ _ _ _ ?_ ?_)
    | split

theorem execRegistrationReply_kept {m : Nat} {org : State} :
    ∀ a0 a1 a2 s, Sub 1080107014 m → Kept m org s → KeptOut m org (execRegistrationReply a0 a1 a2 s) := by
  intro a0 a1 a2 s hp h
  unfold execRegistrationReply
  try dsimp only
  repeat' first
    | with_reducible assumption
    | ((with_reducible refine so hp ?_); rfl)
    | (with_reducible first
        | refine ite_keptOut ?_ ?_ | refine next_kept ?_ | refine State.putOct_kept _ _ _ _ ?_ ?_
        | refine State.draw_kept _ ?_ ?_ | refine State.setSd_kept _ _ _ _ ?_ ?_
        | refine State.setBit_kept _ _ _ _ ?_ ?_ | refine State.activationFails_kept _ _ _ ?_ ?_
        | refine State.setAct_kept _ _ _ ?_ ?_)
    | split

theorem execRegistrationTimeout_kept {m : Nat} {org : State} :
    ∀ a0 a1 s, Sub 2170882 m → Kept m org s → KeptOut m org (execRegistrationTimeout a0 a1 s) := by
  intro a0 a1 s hp h
  unfold execRegistrationTimeout
  try dsimp only
  repeat' first
    | (with_reducible first
        | assumption | refine ite_keptOut ?_ ?_ | refine next_kept ?_ | refine State.activationFails_kept _ _ _ ?_ ?_)
    | split

theorem execAuthLockoutExpiry_kept {m : Nat} {org : State} :
    ∀ a0 a1 s, Sub 4194304 m → Kept m org s → KeptOut m org (execAuthLockoutExpiry a0 a1 s) := by
  intro a0 a1 s hp h
  unfold execAuthLockoutExpiry
  try dsimp only
  repeat' first
    | (with_reducible first
        | assumption | refine next_kept ?_ | refine State.setAct_kept _ _ _ ?_ ?_)

theorem execDriftCorrectionTimeout_kept {m : Nat} {org : State} :
    ∀ a0 a1 s, Sub 2097152 m → Kept m org s → KeptOut m org (execDriftCorrectionTimeout a0 a1 s) := by
  intro a0 a1 s hp h
  unfold execDriftCorrectionTimeout
  try dsimp only
  repeat' first
    | (with_reducible first
        | assumption | refine ite_keptOut ?_ ?_ | refine next_kept ?_ | refine State.setSd_kept _ _ _ _ ?_ ?_)
    | split

theorem execTerminalLost_kept {m : Nat} {org : State} :
    ∀ a0 a1 s, Sub 2101542 m → Kept m org s → KeptOut m org (execTerminalLost a0 a1 s) := by
  intro a0 a1 s hp h
  unfold execTerminalLost
  try dsimp only
  repeat' first
    | (with_reducible first
        | assumption | refine ite_keptOut ?_ ?_ | refine next_kept ?_ | refine State.enterLost_kept _ _ _ ?_ ?_)
    | split

theorem execLostHoldExpiry_kept {m : Nat} {org : State} :
    ∀ a0 a1 s, Sub 36778278 m → Kept m org s → KeptOut m org (execLostHoldExpiry a0 a1 s) := by
  intro a0 a1 s hp h
  unfold execLostHoldExpiry
  try dsimp only
  repeat' first
    | (with_reducible first
        | assumption | refine ite_keptOut ?_ ?_ | refine next_kept ?_ | refine State.lostActions_kept _ _ _ ?_ ?_)
    | split

theorem execSleepRequest_kept {m : Nat} {org : State} :
    ∀ a0 a1 s, Sub 2162690 m → Kept m org s → KeptOut m org (execSleepRequest a0 a1 s) := by
  intro a0 a1 s hp h
  unfold execSleepRequest
  try dsimp only
  repeat' first
    | with_reducible assumption
    | ((with_reducible refine so hp ?_); rfl)
    | (with_reducible first
        | refine ite_kept ?_ ?_ | refine ite_keptOut ?_ ?_ | refine next_kept ?_
        | refine State.setTerm_kept _ _ _ ?_ ?_ | refine State.put_kept _ _ _ _ ?_ ?_
        | refine State.sleepAllow_kept _ _ _ ?_ ?_ | refine State.wake_kept _ _ ?_ ?_)

theorem execSleepAllow_kept {m : Nat} {org : State} :
    ∀ a0 s, Sub 65538 m → Kept m org s → KeptOut m org (execSleepAllow a0 s) := by
  intro a0 s hp h
  unfold execSleepAllow
  try dsimp only
  repeat' first
    | with_reducible assumption
    | ((with_reducible refine so hp ?_); rfl)
    | (with_reducible first
        | refine ite_keptOut ?_ ?_ | refine next_kept ?_ | refine State.sleepAllow_kept _ _ _ ?_ ?_
        | refine State.put_kept _ _ _ _ ?_ ?_)
    | split

theorem execAwarePeriodEnd_kept {m : Nat} {org : State} :
    ∀ a0 s, Sub 2097152 m → Kept m org s → KeptOut m org (execAwarePeriodEnd a0 s) := by
  intro a0 s hp h
  unfold execAwarePeriodEnd
  try dsimp only
  repeat' first
    | (with_reducible first
        | assumption | refine ite_keptOut ?_ ?_ | refine next_kept ?_ | refine State.setTerm_kept _ _ _ ?_ ?_)

theorem execSleepLoss_kept {m : Nat} {org : State} :
    ∀ a0 a1 s, Sub 2101542 m → Kept m org s → KeptOut m org (execSleepLoss a0 a1 s) := by
  intro a0 a1 s hp h
  unfold execSleepLoss
  try dsimp only
  repeat' first
    | (with_reducible first
        | assumption | refine ite_keptOut ?_ ?_ | refine next_kept ?_ | refine State.enterLost_kept _ _ _ ?_ ?_)

end Sys2Proof.Machine
end

