-- ==== Sys2Proof/Laws/Kept/Time.lean ====
section
/-!
SUPPORT. The operations of Machine/Time.lean keep soundness and the parts they do not name.
-/

namespace Sys2Proof.Machine

open State

theorem State.putStamp_kept {m : Nat} {org : State} :
    ∀ s a1 a2 a3, Sub 16 m → Kept m org s → Kept m org (State.putStamp s a1 a2 a3) := by
  intro s a1 a2 a3 hp h
  unfold State.putStamp
  try dsimp only
  repeat' first
    | (with_reducible first
        | assumption | refine State.setClk_kept _ _ ?_ ?_ ?_)
    | exact fun _ hc => ⟨hc.1, hc.2⟩

theorem State.ingressStamp_kept {m : Nat} {org : State} :
    ∀ s a1, Sub 16 m → Kept m org s → Kept m org (State.ingressStamp s a1) := by
  intro s a1 hp h
  unfold State.ingressStamp
  try dsimp only
  repeat' first
    | (with_reducible first
        | assumption | refine State.putStamp_kept _ _ _ _ ?_ ?_)

theorem State.setTsQueue_kept {m : Nat} {org : State} :
    ∀ s a1 a2, Sub 18 m → Kept m org s → Kept m org (State.setTsQueue s a1 a2) := by
  intro s a1 a2 hp h
  unfold State.setTsQueue
  try dsimp only
  repeat' first
    | with_reducible assumption
    | ((with_reducible refine so hp ?_); rfl)
    | (with_reducible first
        | refine State.put_kept _ _ _ _ ?_ ?_ | refine State.setClk_kept _ _ ?_ ?_ ?_)
    | exact fun _ hc => ⟨hc.1, hc.2⟩

theorem State.tsLost_kept {m : Nat} {org : State} :
    ∀ s a1 a2, Sub 294 m → Kept m org s → Kept m org (State.tsLost s a1 a2) := by
  intro s a1 a2 hp h
  unfold State.tsLost
  try dsimp only
  repeat' first
    | with_reducible assumption
    | ((with_reducible refine so hp ?_); rfl)
    | (with_reducible first
        | refine State.put_kept _ _ _ _ ?_ ?_ | refine State.bump_kept _ _ _ _ ?_ ?_
        | refine State.raiseRefusal_kept _ _ _ _ _ ?_ ?_ | refine State.setBit_kept _ _ _ _ ?_ ?_)

theorem State.tsStamp_kept {m : Nat} {org : State} :
    ∀ s a1 a2, Sub 310 m → Kept m org s → Kept m org (State.tsStamp s a1 a2) := by
  intro s a1 a2 hp h
  unfold State.tsStamp
  try dsimp only
  repeat' first
    | with_reducible assumption
    | ((with_reducible refine so hp ?_); rfl)
    | (with_reducible first
        | refine ite_kept ?_ ?_ | refine State.tsLost_kept _ _ _ ?_ ?_ | refine State.setTsQueue_kept _ _ _ ?_ ?_)

theorem State.setTrig_kept {m : Nat} {org : State} :
    ∀ s a1 a2, Sub 16 m → Kept m org s → Kept m org (State.setTrig s a1 a2) := by
  intro s a1 a2 hp h
  unfold State.setTrig
  try dsimp only
  repeat' first
    | (with_reducible first
        | assumption | refine State.setClk_kept _ _ ?_ ?_ ?_)
    | exact fun _ hc => ⟨hc.1, hc.2⟩

theorem State.trigArmSet_kept {m : Nat} {org : State} :
    ∀ s a1 a2, Sub 18 m → Kept m org s → Kept m org (State.trigArmSet s a1 a2) := by
  intro s a1 a2 hp h
  unfold State.trigArmSet
  try dsimp only
  repeat' first
    | with_reducible assumption
    | ((with_reducible refine so hp ?_); rfl)
    | (with_reducible first
        | refine ite_kept ?_ ?_ | refine State.put_kept _ _ _ _ ?_ ?_ | refine State.setTrig_kept _ _ _ ?_ ?_)

theorem State.trigArmEff_kept {m : Nat} {org : State} :
    ∀ s a1 a2 a3, Sub 18 m → Kept m org s → Kept m org (State.trigArmEff s a1 a2 a3).1 := by
  intro s a1 a2 a3 hp h
  unfold State.trigArmEff
  try dsimp only
  repeat' first
    | (with_reducible first
        | assumption | refine State.trigArmSet_kept _ _ _ ?_ ?_)

theorem State.trigEmit_kept {m : Nat} {org : State} :
    ∀ s a1 a2 a3, Sub 536870912 m → Kept m org s → Kept m org (State.trigEmit s a1 a2 a3) := by
  intro s a1 a2 a3 hp h
  unfold State.trigEmit
  try dsimp only
  repeat' first
    | (with_reducible first
        | assumption | refine ite_kept ?_ ?_ | refine State.emit_kept _ _ ?_ ?_)

theorem State.trigAfter_kept {m : Nat} {org : State} :
    ∀ s a1 a2 a3, Sub 18 m → Kept m org s → Kept m org (State.trigAfter s a1 a2 a3) := by
  intro s a1 a2 a3 hp h
  unfold State.trigAfter
  try dsimp only
  repeat' first
    | with_reducible assumption
    | ((with_reducible refine so hp ?_); rfl)
    | (with_reducible first
        | refine ite_kept ?_ ?_ | refine State.put_kept _ _ _ _ ?_ ?_ | refine State.setTrig_kept _ _ _ ?_ ?_)

theorem State.trigTake_kept {m : Nat} {org : State} :
    ∀ s a1, Sub 16 m → Kept m org s → Kept m org (State.trigTake s a1) := by
  intro s a1 hp h
  unfold State.trigTake
  try dsimp only
  repeat' first
    | (with_reducible first
        | assumption | refine ite_kept ?_ ?_ | refine State.setTrig_kept _ _ _ ?_ ?_)
    | split

theorem State.trigPulse_kept {m : Nat} {org : State} :
    ∀ s a1, Sub 536870930 m → Kept m org s → Kept m org (State.trigPulse s a1) := by
  intro s a1 hp h
  unfold State.trigPulse
  try dsimp only
  repeat' first
    | with_reducible assumption
    | ((with_reducible refine so hp ?_); rfl)
    | (with_reducible first
        | refine ite_kept ?_ ?_ | refine State.trigTake_kept _ _ ?_ ?_ | refine State.trigAfter_kept _ _ _ _ ?_ ?_
        | refine State.trigEmit_kept _ _ _ _ ?_ ?_)
    | split

theorem State.trigStep_kept {m : Nat} {org : State} :
    ∀ s a1 a2, Sub 536870934 m → Kept m org s → Kept m org (State.trigStep s a1 a2) := by
  intro s a1 a2 hp h
  unfold State.trigStep
  try dsimp only
  repeat' first
    | with_reducible assumption
    | ((with_reducible refine so hp ?_); rfl)
    | (with_reducible first
        | refine ite_kept ?_ ?_ | refine State.trigTake_kept _ _ ?_ ?_ | refine State.trigAfter_kept _ _ _ _ ?_ ?_
        | refine State.trigEmit_kept _ _ _ _ ?_ ?_ | refine State.setBit_kept _ _ _ _ ?_ ?_
        | refine State.bump_kept _ _ _ _ ?_ ?_ | refine State.put_kept _ _ _ _ ?_ ?_
        | refine State.setTrig_kept _ _ _ ?_ ?_)
    | split

theorem State.setCaptures_kept {m : Nat} {org : State} :
    ∀ s a1 a2, Sub 18 m → Kept m org s → Kept m org (State.setCaptures s a1 a2) := by
  intro s a1 a2 hp h
  unfold State.setCaptures
  try dsimp only
  repeat' first
    | with_reducible assumption
    | ((with_reducible refine so hp ?_); rfl)
    | (with_reducible first
        | refine State.put_kept _ _ _ _ ?_ ?_ | refine State.setClk_kept _ _ ?_ ?_ ?_)
    | exact fun _ hc => ⟨hc.1, hc.2⟩

theorem State.captureEdge_kept {m : Nat} {org : State} :
    ∀ s a1 a2, Sub 22 m → Kept m org s → Kept m org (State.captureEdge s a1 a2) := by
  intro s a1 a2 hp h
  unfold State.captureEdge
  try dsimp only
  repeat' first
    | with_reducible assumption
    | ((with_reducible refine so hp ?_); rfl)
    | (with_reducible first
        | refine ite_kept ?_ ?_ | refine State.bump_kept _ _ _ _ ?_ ?_ | refine State.setBit_kept _ _ _ _ ?_ ?_
        | refine State.setCaptures_kept _ _ _ ?_ ?_ | refine State.setClk_kept _ _ ?_ ?_ ?_)
    | exact fun _ hc => ⟨hc.1, hc.2⟩

theorem State.captNext_kept {m : Nat} {org : State} :
    ∀ s a1, Sub 18 m → Kept m org s → Kept m org (State.captNext s a1).1 := by
  intro s a1 hp h
  unfold State.captNext
  try dsimp only
  repeat' first
    | (with_reducible first
        | assumption | refine State.setCaptures_kept _ _ _ ?_ ?_)
    | split

theorem State.ppsEdge_kept {m : Nat} {org : State} :
    ∀ s a1 a2, Sub 306 m → Kept m org s → Kept m org (State.ppsEdge s a1 a2) := by
  intro s a1 a2 hp h
  unfold State.ppsEdge
  try dsimp only
  repeat' first
    | with_reducible assumption
    | ((with_reducible refine so hp ?_); rfl)
    | (with_reducible first
        | refine ite_kept ?_ ?_ | refine State.setDom_kept _ _ _ ?_ ?_ | refine State.domSample_kept _ _ _ _ ?_ ?_
        | refine State.setClk_kept _ _ ?_ ?_ ?_)
    | exact fun _ hc => ⟨hc.1, hc.2⟩
    | split

theorem State.todMessage_kept {m : Nat} {org : State} :
    ∀ s a1 a2, Sub 1073743158 m → Kept m org s → Kept m org (State.todMessage s a1 a2) := by
  intro s a1 a2 hp h
  unfold State.todMessage
  try dsimp only
  repeat' first
    | with_reducible assumption
    | ((with_reducible refine so hp ?_); rfl)
    | (with_reducible first
        | refine ite_kept ?_ ?_ | refine State.setDom_kept _ _ _ ?_ ?_ | refine State.domClassSet_kept _ _ _ ?_ ?_
        | refine State.domSample_kept _ _ _ _ ?_ ?_ | refine State.setClk_kept _ _ ?_ ?_ ?_)
    | exact fun _ hc => ⟨hc.1, hc.2⟩
    | split

theorem State.announceTaken_kept {m : Nat} {org : State} :
    ∀ s a1 a2, Sub 1073743158 m → Kept m org s → Kept m org (State.announceTaken s a1 a2) := by
  intro s a1 a2 hp h
  unfold State.announceTaken
  try dsimp only
  repeat' first
    | with_reducible assumption
    | ((with_reducible refine so hp ?_); rfl)
    | (with_reducible first
        | refine ite_kept ?_ ?_ | refine State.setDom_kept _ _ _ ?_ ?_ | refine State.putDomState_kept _ _ _ ?_ ?_
        | refine State.domClassSet_kept _ _ _ ?_ ?_)

theorem State.ptpSync_kept {m : Nat} {org : State} :
    ∀ s a1 a2 a3, Sub 16 m → Kept m org s → Kept m org (State.ptpSync s a1 a2 a3) := by
  intro s a1 a2 a3 hp h
  unfold State.ptpSync
  try dsimp only
  repeat' first
    | (with_reducible first
        | assumption | refine State.setDom_kept _ _ _ ?_ ?_)

theorem State.ptpDelay_kept {m : Nat} {org : State} :
    ∀ s a1 a2 a3, Sub 306 m → Kept m org s → Kept m org (State.ptpDelay s a1 a2 a3) := by
  intro s a1 a2 a3 hp h
  unfold State.ptpDelay
  try dsimp only
  repeat' first
    | (with_reducible first
        | assumption | refine State.domSample_kept _ _ _ _ ?_ ?_)
    | split

theorem State.unicast_kept {m : Nat} {org : State} :
    ∀ s a1 a2 a3, Sub 16 m → Kept m org s → Kept m org (State.unicast s a1 a2 a3) := by
  intro s a1 a2 a3 hp h
  unfold State.unicast
  try dsimp only
  repeat' first
    | (with_reducible first
        | assumption | refine ite_kept ?_ ?_ | refine State.setClk_kept _ _ ?_ ?_ ?_)
    | exact fun _ hc => ⟨hc.1, hc.2⟩

theorem State.ptpNote_kept {m : Nat} {org : State} :
    ∀ s a1 a2, Sub 16 m → Kept m org s → Kept m org (State.ptpNote s a1 a2) := by
  intro s a1 a2 hp h
  unfold State.ptpNote
  try dsimp only
  repeat' first
    | (with_reducible first
        | assumption | refine State.setClk_kept _ _ ?_ ?_ ?_)
    | exact fun _ hc => ⟨hc.1, hc.2⟩

theorem State.modelResetEff_kept {m : Nat} {org : State} :
    ∀ s a1 a2 a3, Sub 86 m → Kept m org s → Kept m org (State.modelResetEff s a1 a2 a3).1 := by
  intro s a1 a2 a3 hp h
  unfold State.modelResetEff
  try dsimp only
  repeat' first
    | with_reducible assumption
    | ((with_reducible refine so hp ?_); rfl)
    | (with_reducible first
        | refine ite_kept1 ?_ ?_ | refine foldl_kept _ _ ?_ ?_ | refine State.putReg_kept _ _ _ ?_ ?_
        | refine State.putOct_kept _ _ _ _ ?_ ?_ | refine State.put_kept _ _ _ _ ?_ ?_
        | refine State.setNvm_kept _ _ ?_ ?_ | refine State.setClk_kept _ _ ?_ ?_ ?_)
    | exact fun _ hc => ⟨hc.1, hc.2⟩
    | intro _

theorem State.ovenFail_kept {m : Nat} {org : State} :
    ∀ s, Sub 1314 m → Kept m org s → Kept m org (State.ovenFail s) := by
  intro s hp h
  unfold State.ovenFail
  try dsimp only
  repeat' first
    | with_reducible assumption
    | ((with_reducible refine so hp ?_); rfl)
    | (with_reducible first
        | refine ite_kept ?_ ?_ | refine State.raiseFault_kept _ _ _ _ ?_ ?_
        | refine State.lifeCount_kept _ _ _ ?_ ?_ | refine State.put_kept _ _ _ _ ?_ ?_)

theorem State.putCopies_kept {m : Nat} {org : State} :
    ∀ s a1, Sub 18 m → Kept m org s → Kept m org (State.putCopies s a1) := by
  intro s a1 hp h
  unfold State.putCopies
  try dsimp only
  repeat' first
    | with_reducible assumption
    | ((with_reducible refine so hp ?_); rfl)
    | (with_reducible first
        | refine State.put_kept _ _ _ _ ?_ ?_ | refine State.setClk_kept _ _ ?_ ?_ ?_)
    | exact fun _ hc => ⟨hc.1, hc.2.1, rfl, rfl⟩

theorem execWickSetTime_kept {m : Nat} {org : State} :
    ∀ a0 a1 s, Sub 536871030 m → Kept m org s → KeptOut m org (execWickSetTime a0 a1 s) := by
  intro a0 a1 s hp h
  unfold execWickSetTime
  try dsimp only
  repeat' first
    | with_reducible assumption
    | ((with_reducible refine so hp ?_); rfl)
    | (with_reducible first
        | refine next_kept ?_ | refine State.hostWrite_kept _ _ _ _ _ _ ?_ ?_ ?_
        | refine State.wickSetEff_kept _ _ _ _ ?_ ?_)
    | intro _

theorem execWickCopyMismatch_kept {m : Nat} {org : State} :
    ∀ a0 a1 a2 s, Sub 22 m → Kept m org s → KeptOut m org (execWickCopyMismatch a0 a1 a2 s) := by
  intro a0 a1 a2 s hp h
  unfold execWickCopyMismatch
  try dsimp only
  repeat' first
    | with_reducible assumption
    | ((with_reducible refine so hp ?_); rfl)
    | (with_reducible first
        | refine ite_kept ?_ ?_ | refine ite_keptOut ?_ ?_ | refine next_kept ?_
        | refine State.putCopies_kept _ _ ?_ ?_ | refine State.putWick_kept _ _ ?_ ?_
        | refine State.setBit_kept _ _ _ _ ?_ ?_ | refine State.bump_kept _ _ _ _ ?_ ?_)

theorem execWickNoMajority_kept {m : Nat} {org : State} :
    ∀ a0 a1 a2 s, Sub 1073743158 m → Kept m org s → KeptOut m org (execWickNoMajority a0 a1 a2 s) := by
  intro a0 a1 a2 s hp h
  unfold execWickNoMajority
  try dsimp only
  repeat' first
    | with_reducible assumption
    | ((with_reducible refine so hp ?_); rfl)
    | (with_reducible first
        | refine ite_kept ?_ ?_ | refine ite_keptOut ?_ ?_ | refine next_kept ?_
        | refine State.putCopies_kept _ _ ?_ ?_ | refine State.putWick_kept _ _ ?_ ?_
        | refine State.raiseFault_kept _ _ _ _ ?_ ?_ | refine State.setBit_kept _ _ _ _ ?_ ?_
        | refine State.enterWick_kept _ _ ?_ ?_ | refine State.setClk_kept _ _ ?_ ?_ ?_)
    | exact fun _ hc => ⟨hc.1, hc.2⟩

theorem execOvenReady_kept {m : Nat} {org : State} :
    ∀ s, Sub 1073743158 m → Kept m org s → KeptOut m org (execOvenReady s) := by
  intro s hp h
  unfold execOvenReady
  try dsimp only
  repeat' first
    | with_reducible assumption
    | ((with_reducible refine so hp ?_); rfl)
    | (with_reducible first
        | refine next_kept ?_ | refine State.warmingEnd_kept _ ?_ ?_ | refine State.put_kept _ _ _ _ ?_ ?_)

theorem execWarmingTimeout_kept {m : Nat} {org : State} :
    ∀ s, Sub 1073743158 m → Kept m org s → KeptOut m org (execWarmingTimeout s) := by
  intro s hp h
  unfold execWarmingTimeout
  try dsimp only
  repeat' first
    | with_reducible assumption
    | ((with_reducible refine so hp ?_); rfl)
    | (with_reducible first
        | refine ite_keptOut ?_ ?_ | refine next_kept ?_ | refine State.warmingEnd_kept _ ?_ ?_
        | refine State.ovenFail_kept _ ?_ ?_)

theorem execOvenFault_kept {m : Nat} {org : State} :
    ∀ s, Sub 1073743158 m → Kept m org s → KeptOut m org (execOvenFault s) := by
  intro s hp h
  unfold execOvenFault
  try dsimp only
  repeat' first
    | with_reducible assumption
    | ((with_reducible refine so hp ?_); rfl)
    | (with_reducible first
        | refine ite_kept ?_ ?_ | refine next_kept ?_ | refine State.setBit_kept _ _ _ _ ?_ ?_
        | refine State.ovenFail_kept _ ?_ ?_ | refine State.warmingEnd_kept _ ?_ ?_
        | refine State.enterWick_kept _ _ ?_ ?_ | refine State.setClk_kept _ _ ?_ ?_ ?_)
    | exact fun _ hc => ⟨hc.1, hc.2⟩
    | split

theorem execPtpMessageReceived_kept {m : Nat} {org : State} :
    ∀ a0 a1 a2 s, Sub 1073743158 m → Kept m org s → KeptOut m org (execPtpMessageReceived a0 a1 a2 s) := by
  intro a0 a1 a2 s hp h
  unfold execPtpMessageReceived
  try dsimp only
  repeat' first
    | with_reducible assumption
    | ((with_reducible refine so hp ?_); rfl)
    | (with_reducible first
        | refine ite_kept ?_ ?_ | refine ite_keptOut ?_ ?_ | refine next_kept ?_
        | refine State.unicast_kept _ _ _ _ ?_ ?_ | refine State.putSlave_kept _ _ _ ?_ ?_
        | refine State.announceTaken_kept _ _ _ ?_ ?_ | refine State.ptpSync_kept _ _ _ _ ?_ ?_
        | refine State.ptpDelay_kept _ _ _ _ ?_ ?_)
    | split

theorem execTodMessageReceived_kept {m : Nat} {org : State} :
    ∀ a0 s, Sub 1073743158 m → Kept m org s → KeptOut m org (execTodMessageReceived a0 s) := by
  intro a0 s hp h
  unfold execTodMessageReceived
  try dsimp only
  repeat' first
    | (with_reducible first
        | assumption | refine ite_keptOut ?_ ?_ | refine next_kept ?_ | refine State.todMessage_kept _ _ _ ?_ ?_)

theorem execPpsInEdge_kept {m : Nat} {org : State} :
    ∀ a0 a1 s, Sub 306 m → Kept m org s → KeptOut m org (execPpsInEdge a0 a1 s) := by
  intro a0 a1 s hp h
  unfold execPpsInEdge
  try dsimp only
  repeat' first
    | (with_reducible first
        | assumption | refine next_kept ?_ | refine State.ppsEdge_kept _ _ _ ?_ ?_)
    | split

theorem execDomainLocked_kept {m : Nat} {org : State} :
    ∀ a0 s, Sub 1073743158 m → Kept m org s → KeptOut m org (execDomainLocked a0 s) := by
  intro a0 s hp h
  unfold execDomainLocked
  try dsimp only
  repeat' first
    | with_reducible assumption
    | ((with_reducible refine so hp ?_); rfl)
    | (with_reducible first
        | refine ite_keptOut ?_ ?_ | refine next_kept ?_ | refine State.evaluate_kept _ ?_ ?_
        | refine State.putDomState_kept _ _ _ ?_ ?_)

theorem execDomainLost_kept {m : Nat} {org : State} :
    ∀ a0 a1 s, Sub 1073743158 m → Kept m org s → KeptOut m org (execDomainLost a0 a1 s) := by
  intro a0 a1 s hp h
  unfold execDomainLost
  try dsimp only
  repeat' first
    | with_reducible assumption
    | ((with_reducible refine so hp ?_); rfl)
    | (with_reducible first
        | refine ite_keptOut ?_ ?_ | refine next_kept ?_ | refine State.evaluate_kept _ ?_ ?_
        | refine State.putDomState_kept _ _ _ ?_ ?_ | refine State.putSlave_kept _ _ _ ?_ ?_)

theorem execWickLocked_kept {m : Nat} {org : State} :
    ∀ s, Sub 1073743158 m → Kept m org s → KeptOut m org (execWickLocked s) := by
  intro s hp h
  unfold execWickLocked
  try dsimp only
  repeat' first
    | (with_reducible first
        | assumption | refine ite_keptOut ?_ ?_ | refine next_kept ?_ | refine State.enterWick_kept _ _ ?_ ?_)

theorem execDomainRevert_kept {m : Nat} {org : State} :
    ∀ a0 s, Sub 306 m → Kept m org s → KeptOut m org (execDomainRevert a0 s) := by
  intro a0 s hp h
  unfold execDomainRevert
  try dsimp only
  repeat' first
    | (with_reducible first
        | assumption | refine ite_keptOut ?_ ?_ | refine next_kept ?_ | refine State.takeDom_kept _ _ ?_ ?_)
    | split

theorem execDomainInconsistent_kept {m : Nat} {org : State} :
    ∀ s, Sub 306 m → Kept m org s → KeptOut m org (execDomainInconsistent s) := by
  intro s hp h
  unfold execDomainInconsistent
  try dsimp only
  repeat' first
    | with_reducible assumption
    | ((with_reducible refine so hp ?_); rfl)
    | (with_reducible first
        | refine ite_keptOut ?_ ?_ | refine next_kept ?_ | refine State.putDomState_kept _ _ _ ?_ ?_
        | refine State.setClk_kept _ _ ?_ ?_ ?_)
    | exact fun _ hc => ⟨hc.1, hc.2⟩
    | split

theorem execDomainConsistent_kept {m : Nat} {org : State} :
    ∀ a0 s, Sub 1073743158 m → Kept m org s → KeptOut m org (execDomainConsistent a0 s) := by
  intro a0 s hp h
  unfold execDomainConsistent
  try dsimp only
  repeat' first
    | with_reducible assumption
    | ((with_reducible refine so hp ?_); rfl)
    | (with_reducible first
        | refine ite_keptOut ?_ ?_ | refine next_kept ?_ | refine State.evaluate_kept _ ?_ ?_
        | refine State.putDomState_kept _ _ _ ?_ ?_)

theorem execHeadlessHoldover_kept {m : Nat} {org : State} :
    ∀ s, Sub 1073743158 m → Kept m org s → KeptOut m org (execHeadlessHoldover s) := by
  intro s hp h
  unfold execHeadlessHoldover
  try dsimp only
  repeat' first
    | with_reducible assumption
    | ((with_reducible refine so hp ?_); rfl)
    | (with_reducible first
        | refine ite_keptOut ?_ ?_ | refine next_kept ?_ | refine State.setBit_kept _ _ _ _ ?_ ?_
        | refine State.enterWick_kept _ _ ?_ ?_)

theorem execHoldoverExpiry_kept {m : Nat} {org : State} :
    ∀ s, Sub 1073743158 m → Kept m org s → KeptOut m org (execHoldoverExpiry s) := by
  intro s hp h
  unfold execHoldoverExpiry
  try dsimp only
  repeat' first
    | (with_reducible first
        | assumption | refine ite_keptOut ?_ ?_ | refine next_kept ?_ | refine State.enterWick_kept _ _ ?_ ?_)

theorem execHoldExpiryRecompute_kept {m : Nat} {org : State} :
    ∀ s, Sub 1073741844 m → Kept m org s → KeptOut m org (execHoldExpiryRecompute s) := by
  intro s hp h
  unfold execHoldExpiryRecompute
  try dsimp only
  repeat' first
    | (with_reducible first
        | assumption | refine ite_keptOut ?_ ?_ | refine next_kept ?_ | refine State.expiryRecompute_kept _ ?_ ?_)

theorem execBinLearned_kept {m : Nat} {org : State} :
    ∀ a0 a1 s, Sub 70 m → Kept m org s → KeptOut m org (execBinLearned a0 a1 s) := by
  intro a0 a1 s hp h
  unfold execBinLearned
  try dsimp only
  repeat' first
    | with_reducible assumption
    | ((with_reducible refine so hp ?_); rfl)
    | (with_reducible first
        | refine ite_keptOut ?_ ?_ | refine next_kept ?_ | refine State.putReg_kept _ _ _ ?_ ?_
        | refine State.putOct_kept _ _ _ _ ?_ ?_ | refine State.setNvm_kept _ _ ?_ ?_)

theorem execAgeingRefit_kept {m : Nat} {org : State} :
    ∀ a0 s, Sub 20 m → Kept m org s → KeptOut m org (execAgeingRefit a0 s) := by
  intro a0 s hp h
  unfold execAgeingRefit
  try dsimp only
  repeat' first
    | with_reducible assumption
    | ((with_reducible refine so hp ?_); rfl)
    | (with_reducible first
        | refine ite_keptOut ?_ ?_ | refine next_kept ?_ | refine State.putReg_kept _ _ _ ?_ ?_
        | refine State.setClk_kept _ _ ?_ ?_ ?_)
    | exact fun _ hc => ⟨hc.1, hc.2⟩

theorem execTimeModelReset_kept {m : Nat} {org : State} :
    ∀ a0 a1 s, Sub 536871030 m → Kept m org s → KeptOut m org (execTimeModelReset a0 a1 s) := by
  intro a0 a1 s hp h
  unfold execTimeModelReset
  try dsimp only
  repeat' first
    | with_reducible assumption
    | ((with_reducible refine so hp ?_); rfl)
    | (with_reducible first
        | refine next_kept ?_ | refine State.hostWrite_kept _ _ _ _ _ _ ?_ ?_ ?_
        | refine State.modelResetEff_kept _ _ _ _ ?_ ?_)
    | intro _

theorem execTrigArm_kept {m : Nat} {org : State} :
    ∀ a0 a1 s, Sub 536871030 m → Kept m org s → KeptOut m org (execTrigArm a0 a1 s) := by
  intro a0 a1 s hp h
  unfold execTrigArm
  try dsimp only
  repeat' first
    | with_reducible assumption
    | ((with_reducible refine so hp ?_); rfl)
    | (with_reducible first
        | refine next_kept ?_ | refine State.hostWrite_kept _ _ _ _ _ _ ?_ ?_ ?_
        | refine State.trigArmEff_kept _ _ _ _ ?_ ?_)
    | intro _

theorem execTrigDisarm_kept {m : Nat} {org : State} :
    ∀ a0 a1 s, Sub 536871030 m → Kept m org s → KeptOut m org (execTrigDisarm a0 a1 s) := by
  intro a0 a1 s hp h
  unfold execTrigDisarm
  try dsimp only
  repeat' first
    | with_reducible assumption
    | ((with_reducible refine so hp ?_); rfl)
    | (with_reducible first
        | refine next_kept ?_ | refine State.hostWrite_kept _ _ _ _ _ _ ?_ ?_ ?_
        | refine State.trigArmEff_kept _ _ _ _ ?_ ?_)
    | intro _

theorem execTriggerPulse_kept {m : Nat} {org : State} :
    ∀ a0 s, Sub 536870930 m → Kept m org s → KeptOut m org (execTriggerPulse a0 s) := by
  intro a0 s hp h
  unfold execTriggerPulse
  try dsimp only
  repeat' first
    | (with_reducible first
        | assumption | refine next_kept ?_ | refine State.trigPulse_kept _ _ ?_ ?_)

theorem execCaptureEdge_kept {m : Nat} {org : State} :
    ∀ a0 a1 a2 s, Sub 22 m → Kept m org s → KeptOut m org (execCaptureEdge a0 a1 a2 s) := by
  intro a0 a1 a2 s hp h
  unfold execCaptureEdge
  try dsimp only
  repeat' first
    | (with_reducible first
        | assumption | refine ite_keptOut ?_ ?_ | refine next_kept ?_ | refine State.captureEdge_kept _ _ _ ?_ ?_)

theorem execCaptClr_kept {m : Nat} {org : State} :
    ∀ s, Sub 18 m → Kept m org s → KeptOut m org (execCaptClr s) := by
  intro s hp h
  unfold execCaptClr
  try dsimp only
  repeat' first
    | (with_reducible first
        | assumption | refine next_kept ?_ | refine foldl_kept _ _ ?_ ?_ | refine State.setCaptures_kept _ _ _ ?_ ?_)
    | intro _

theorem execCaptNextRead_kept {m : Nat} {org : State} :
    ∀ a0 a1 s, Sub 536871026 m → Kept m org s → KeptOut m org (execCaptNextRead a0 a1 s) := by
  intro a0 a1 s hp h
  unfold execCaptNextRead
  try dsimp only
  repeat' first
    | with_reducible assumption
    | ((with_reducible refine so hp ?_); rfl)
    | (with_reducible first
        | refine next_kept ?_ | refine State.hostRead_kept _ _ _ _ _ ?_ ?_ ?_ | refine State.captNext_kept _ _ ?_ ?_)
    | intro _

theorem execHighWaterRead_kept {m : Nat} {org : State} :
    ∀ a0 a1 a2 s, Sub 536871010 m → Kept m org s → KeptOut m org (execHighWaterRead a0 a1 a2 s) := by
  intro a0 a1 a2 s hp h
  unfold execHighWaterRead
  try dsimp only
  repeat' first
    | with_reducible assumption
    | ((with_reducible refine so hp ?_); rfl)
    | (with_reducible first
        | refine ite_keptOut ?_ ?_ | refine next_kept ?_ | refine State.hostRead_kept _ _ _ _ _ ?_ ?_ ?_
        | refine State.put_kept _ _ _ _ ?_ ?_)
    | dsimp only
    | intro _

end Sys2Proof.Machine
end

