-- ==== Sys2Proof/Laws/Kept/Pipeline.lean ====
section
/-!
SUPPORT. The operations of Machine/Pipeline.lean keep soundness and the parts they do not name.
-/

namespace Sys2Proof.Machine

open State

theorem State.slot_kept {m : Nat} {org : State} :
    ∀ s a1 a2, Sub 1052966 m → Kept m org s → Kept m org (State.slot s a1 a2) := by
  intro s a1 a2 hp h
  unfold State.slot
  try dsimp only
  repeat' first
    | with_reducible assumption
    | ((with_reducible refine so hp ?_); rfl)
    | (with_reducible first
        | refine ite_kept ?_ ?_ | refine State.bump_kept _ _ _ _ ?_ ?_ | refine State.count_kept _ _ _ _ ?_ ?_
        | refine State.setTm_kept _ _ ?_ ?_)

theorem State.takeSeq_kept {m : Nat} {org : State} :
    ∀ s a1, Sub 268435456 m → Kept m org s → Kept m org (State.takeSeq s a1).2 := by
  intro s a1 hp h
  unfold State.takeSeq
  try dsimp only
  repeat' first
    | with_reducible assumption
    | ((with_reducible refine mk_kept ?_ ?_ ?_ ?_ ?_ ?_ ?_ ?_ ?_ ?_ ?_ ?_ ?_ ?_ ?_ ?_ ?_ ?_ ?_ ?_ ?_ ?_ ?_ ?_ ?_ ?_ ?_) <;> try (intro hq; first | exact (hit hp rfl hq).elim | with_reducible rfl))

theorem State.mismatch_kept {m : Nat} {org : State} :
    ∀ s, Sub 4 m → Kept m org s → Kept m org (State.mismatch s) := by
  intro s hp h
  unfold State.mismatch
  try dsimp only
  repeat' first
    | (with_reducible first
        | assumption | refine State.bumpReg_kept _ _ _ ?_ ?_ | refine State.setBit_kept _ _ _ _ ?_ ?_)

theorem State.flowCopy_kept {m : Nat} {org : State} :
    ∀ s a1 a2 a3 a4, Sub 294 m → Kept m org s → Kept m org (State.flowCopy s a1 a2 a3 a4).2 := by
  intro s a1 a2 a3 a4 hp h
  unfold State.flowCopy
  try dsimp only
  repeat' first
    | with_reducible assumption
    | ((with_reducible refine so hp ?_); rfl)
    | (with_reducible first
        | refine ite_kept ?_ ?_ | refine ite_kept2 ?_ ?_ | refine State.bump_kept _ _ _ _ ?_ ?_
        | refine State.mismatch_kept _ ?_ ?_ | refine State.setBit_kept _ _ _ _ ?_ ?_
        | refine State.raiseRefusal_kept _ _ _ _ _ ?_ ?_)

theorem State.uplinkCopy_kept {m : Nat} {org : State} :
    ∀ s a1 a2 a3 a4, Sub 2 m → Kept m org s → Kept m org (State.uplinkCopy s a1 a2 a3 a4).2 := by
  intro s a1 a2 a3 a4 hp h
  unfold State.uplinkCopy
  try dsimp only
  repeat' first
    | (with_reducible first
        | assumption | refine ite_kept2 ?_ ?_ | refine State.bump_kept _ _ _ _ ?_ ?_)

theorem State.passageCopies_kept {m : Nat} {org : State} :
    ∀ s a1 a2 a3 a4 a5 a6, Sub 268435456 m → Kept m org s → Kept m org (State.passageCopies s a1 a2 a3 a4 a5 a6).2 := by
  intro s a1 a2 a3 a4 a5 a6 hp h
  unfold State.passageCopies
  try dsimp only
  repeat' first
    | (with_reducible first
        | assumption | refine ite_kept2 ?_ ?_ | refine State.takeSeq_kept _ _ ?_ ?_)

theorem State.admitted_kept {m : Nat} {org : State} :
    ∀ s a1 a2 a3 a4, Sub 4390 m → Kept m org s → Kept m org (State.admitted s a1 a2 a3 a4).2 := by
  intro s a1 a2 a3 a4 hp h
  induction a3 generalizing s a1 a2 a4 with
  | nil =>
    unfold State.admitted
    try dsimp only
    repeat' first
      | (with_reducible first
          | assumption | refine ite_kept2 ?_ ?_ | refine State.tailDrop_kept _ _ ?_ ?_)
  | cons y l ih =>
    unfold State.admitted
    try dsimp only
    repeat' first
      | (with_reducible first
          | assumption | refine ite_kept2 ?_ ?_ | apply ih | refine State.tailDrop_kept _ _ ?_ ?_)

theorem State.enqueue_kept {m : Nat} {org : State} :
    ∀ s a1 a2 a3 a4, Sub 3215654 m → Kept m org s → Kept m org (State.enqueue s a1 a2 a3 a4).2 := by
  intro s a1 a2 a3 a4 hp h
  unfold State.enqueue
  try dsimp only
  repeat' first
    | with_reducible assumption
    | ((with_reducible refine so hp ?_); rfl)
    | (with_reducible first
        | refine foldl_kept _ _ ?_ ?_ | refine State.admitted_kept _ _ _ _ _ ?_ ?_
        | refine State.store_kept _ _ _ _ _ _ ?_ ?_ | refine State.setQueue_kept _ _ _ ?_ ?_
        | refine State.wakeOnArrival_kept _ _ _ ?_ ?_ | refine State.setTerm_kept _ _ _ ?_ ?_
        | refine snd_kept (by with_reducible assumption) ?_)
    | split
    | intro _

theorem State.spoof_kept {m : Nat} {org : State} :
    ∀ s a1 a2, Sub 262438 m → Kept m org s → Kept m org (State.spoof s a1 a2).2 := by
  intro s a1 a2 hp h
  unfold State.spoof
  try dsimp only
  repeat' first
    | with_reducible assumption
    | ((with_reducible refine so hp ?_); rfl)
    | (with_reducible first
        | refine ite_kept ?_ ?_ | refine State.setBit_kept _ _ _ _ ?_ ?_ | refine State.bump_kept _ _ _ _ ?_ ?_
        | refine State.raiseRefusal_kept _ _ _ _ _ ?_ ?_ | refine State.setGal_kept _ _ ?_ ?_)
    | split

theorem State.learnSource_kept {m : Nat} {org : State} :
    ∀ s a1 a2, Sub 262438 m → Kept m org s → Kept m org (State.learnSource s a1 a2).2 := by
  intro s a1 a2 hp h
  unfold State.learnSource
  try dsimp only
  repeat' first
    | with_reducible assumption
    | ((with_reducible refine so hp ?_); rfl)
    | (with_reducible first
        | refine ite_kept2 ?_ ?_ | refine State.spoof_kept _ _ _ ?_ ?_ | refine State.galSet_kept _ _ _ ?_ ?_
        | refine State.learnQueue_kept _ _ ?_ ?_ | refine State.limitExcess_kept _ ?_ ?_)
    | split

theorem State.pairFlow_kept {m : Nat} {org : State} :
    ∀ s a1 a2 a3, Sub 524294 m → Kept m org s → Kept m org (State.pairFlow s a1 a2 a3).2 := by
  intro s a1 a2 a3 hp h
  unfold State.pairFlow
  try dsimp only
  repeat' first
    | (with_reducible first
        | assumption | refine ite_kept2 ?_ ?_ | refine State.spread_kept _ _ _ _ _ ?_ ?_
        | refine snd_kept (by with_reducible assumption) ?_)
    | split

theorem State.entryTarget_kept {m : Nat} {org : State} :
    ∀ s a1 a2 a3, Sub 524294 m → Kept m org s → Kept m org (State.entryTarget s a1 a2 a3).2 := by
  intro s a1 a2 a3 hp h
  unfold State.entryTarget
  try dsimp only
  repeat' first
    | with_reducible assumption
    | ((with_reducible refine so hp ?_); rfl)
    | (with_reducible first
        | refine ite_kept2 ?_ ?_ | refine State.bump_kept _ _ _ _ ?_ ?_ | refine State.pairFlow_kept _ _ _ _ ?_ ?_
        | refine snd_kept (by with_reducible assumption) ?_)
    | split

theorem State.bridge_kept {m : Nat} {org : State} :
    ∀ s a1 a2, Sub 528678 m → Kept m org s → Kept m org (State.bridge s a1 a2).2 := by
  intro s a1 a2 hp h
  unfold State.bridge
  try dsimp only
  repeat' first
    | with_reducible assumption
    | ((with_reducible refine so hp ?_); rfl)
    | (with_reducible first
        | refine ite_kept2 ?_ ?_ | refine State.count_kept _ _ _ _ ?_ ?_
        | refine State.entryTarget_kept _ _ _ _ ?_ ?_)
    | split

theorem State.spreadTarget_kept {m : Nat} {org : State} :
    ∀ s a1 a2, Sub 524294 m → Kept m org s → Kept m org (State.spreadTarget s a1 a2).2 := by
  intro s a1 a2 hp h
  unfold State.spreadTarget
  try dsimp only
  repeat' first
    | (with_reducible first
        | assumption | refine ite_kept2 ?_ ?_ | refine State.spread_kept _ _ _ _ _ ?_ ?_
        | refine snd_kept (by with_reducible assumption) ?_)
    | split

theorem State.targets_kept {m : Nat} {org : State} :
    ∀ s a1 a2, Sub 528678 m → Kept m org s → Kept m org (State.targets s a1 a2).2 := by
  intro s a1 a2 hp h
  unfold State.targets
  try dsimp only
  repeat' first
    | with_reducible assumption
    | ((with_reducible refine so hp ?_); rfl)
    | (with_reducible first
        | refine ite_kept2 ?_ ?_ | refine State.bridge_kept _ _ _ ?_ ?_ | refine State.bump_kept _ _ _ _ ?_ ?_
        | refine State.pairFlow_kept _ _ _ _ ?_ ?_ | refine State.spreadTarget_kept _ _ _ ?_ ?_)
    | split

theorem State.memberPort_kept {m : Nat} {org : State} :
    ∀ s a1 a2, Sub 524294 m → Kept m org s → Kept m org (State.memberPort s a1 a2).2 := by
  intro s a1 a2 hp h
  unfold State.memberPort
  try dsimp only
  repeat' first
    | (with_reducible first
        | assumption | refine ite_kept2 ?_ ?_ | refine State.spread_kept _ _ _ _ _ ?_ ?_
        | refine snd_kept (by with_reducible assumption) ?_)
    | split

theorem State.copiesOf_kept {m : Nat} {org : State} :
    ∀ s a1 a2 a3 a4, Sub 268960038 m → Kept m org s → Kept m org (State.copiesOf s a1 a2 a3 a4).2 := by
  intro s a1 a2 a3 a4 hp h
  unfold State.copiesOf
  try dsimp only
  repeat' first
    | with_reducible assumption
    | ((with_reducible refine so hp ?_); rfl)
    | (with_reducible first
        | refine ite_kept2 ?_ ?_ | refine State.flowCopy_kept _ _ _ _ _ ?_ ?_
        | refine State.uplinkCopy_kept _ _ _ _ _ ?_ ?_ | refine State.memberPort_kept _ _ _ ?_ ?_
        | refine State.passageCopies_kept _ _ _ _ _ _ _ ?_ ?_ | refine State.bump_kept _ _ _ _ ?_ ?_)
    | split

theorem State.allCopies_kept {m : Nat} {org : State} :
    ∀ s a1 a2 a3 a4, Sub 268960038 m → Kept m org s → Kept m org (State.allCopies s a1 a2 a3 a4).2 := by
  intro s a1 a2 a3 a4 hp h
  unfold State.allCopies
  try dsimp only
  repeat' first
    | (with_reducible first
        | assumption | refine foldl_kept2 _ _ ?_ ?_ | refine State.copiesOf_kept _ _ _ _ _ ?_ ?_)
    | dsimp only
    | intro _

theorem State.toLantern_kept {m : Nat} {org : State} :
    ∀ s a1, Sub 258 m → Kept m org s → Kept m org (State.toLantern s a1).2 := by
  intro s a1 hp h
  unfold State.toLantern
  try dsimp only
  repeat' first
    | with_reducible assumption
    | ((with_reducible refine so hp ?_); rfl)
    | (with_reducible first
        | refine ite_kept2 ?_ ?_ | refine State.bump_kept _ _ _ _ ?_ ?_)
    | dsimp only
    | ((with_reducible refine mk_kept ?_ ?_ ?_ ?_ ?_ ?_ ?_ ?_ ?_ ?_ ?_ ?_ ?_ ?_ ?_ ?_ ?_ ?_ ?_ ?_ ?_ ?_ ?_ ?_ ?_ ?_ ?_) <;> try (intro hq; first | exact (hit hp rfl hq).elim | with_reducible rfl))

theorem State.trapDrop_kept {m : Nat} {org : State} :
    ∀ s, Sub 6 m → Kept m org s → Kept m org (State.trapDrop s) := by
  intro s hp h
  unfold State.trapDrop
  try dsimp only
  repeat' first
    | with_reducible assumption
    | ((with_reducible refine so hp ?_); rfl)
    | (with_reducible first
        | refine State.setBit_kept _ _ _ _ ?_ ?_ | refine State.bump_kept _ _ _ _ ?_ ?_)

theorem State.trapFrame_kept {m : Nat} {org : State} :
    ∀ s a1, Sub 4390 m → Kept m org s → Kept m org (State.trapFrame s a1).2 := by
  intro s a1 hp h
  unfold State.trapFrame
  try dsimp only
  repeat' first
    | with_reducible assumption
    | ((with_reducible refine so hp ?_); rfl)
    | (with_reducible first
        | refine ite_kept2 ?_ ?_ | refine State.trapDrop_kept _ ?_ ?_ | refine State.limitTake_kept _ _ ?_ ?_
        | refine State.toLantern_kept _ _ ?_ ?_ | refine State.raise_kept _ _ _ _ _ ?_ ?_
        | refine snd_kept (by with_reducible assumption) ?_)
    | split

theorem State.forwardFrame_kept {m : Nat} {org : State} :
    ∀ s a1 a2 a3, Sub 272437542 m → Kept m org s → Kept m org (State.forwardFrame s a1 a2 a3).2 := by
  intro s a1 a2 a3 hp h
  unfold State.forwardFrame
  try dsimp only
  repeat' first
    | with_reducible assumption
    | ((with_reducible refine so hp ?_); rfl)
    | (with_reducible first
        | refine ite_kept2 ?_ ?_ | refine State.setGal_kept _ _ ?_ ?_ | refine State.learnSource_kept _ _ _ ?_ ?_
        | refine State.trapFrame_kept _ _ ?_ ?_ | refine State.targets_kept _ _ _ ?_ ?_
        | refine State.allCopies_kept _ _ _ _ _ ?_ ?_ | refine State.enqueue_kept _ _ _ _ _ ?_ ?_
        | refine snd_kept (by with_reducible assumption) ?_)
    | split

theorem State.stages_kept {m : Nat} {org : State} :
    ∀ s a1, Sub 272437542 m → Kept m org s → Kept m org (State.stages s a1).2 := by
  intro s a1 hp h
  unfold State.stages
  try dsimp only
  repeat' first
    | with_reducible assumption
    | ((with_reducible refine so hp ?_); rfl)
    | (with_reducible first
        | refine ite_kept2 ?_ ?_ | refine State.classifyFrame_kept _ _ _ _ _ ?_ ?_
        | refine State.setBit_kept _ _ _ _ ?_ ?_ | refine State.bump_kept _ _ _ _ ?_ ?_
        | refine State.police_kept _ _ _ _ ?_ ?_ | refine State.forwardFrame_kept _ _ _ _ ?_ ?_
        | refine snd_kept (by with_reducible assumption) ?_)
    | split

theorem State.pipeline_kept {m : Nat} {org : State} :
    ∀ s a1, Sub 272437542 m → Kept m org s → Kept m org (State.pipeline s a1) := by
  intro s a1 hp h
  unfold State.pipeline
  try dsimp only
  repeat' first
    | with_reducible assumption
    | ((with_reducible refine so hp ?_); rfl)
    | (with_reducible first
        | refine ite_kept ?_ ?_ | refine State.slot_kept _ _ _ ?_ ?_ | refine State.toLantern_kept _ _ ?_ ?_
        | refine State.trapDrop_kept _ ?_ ?_ | refine State.stages_kept _ _ ?_ ?_
        | refine snd_kept (by with_reducible assumption) ?_)
    | split

theorem State.cascadeFrame_kept {m : Nat} {org : State} :
    ∀ s a1 a2 a3 a4 a5 a6 a7 a8, Sub 271651110 m → Kept m org s → Kept m org (State.cascadeFrame s a1 a2 a3 a4 a5 a6 a7 a8) := by
  intro s a1 a2 a3 a4 a5 a6 a7 a8 hp h
  unfold State.cascadeFrame
  try dsimp only
  repeat' first
    | with_reducible assumption
    | ((with_reducible refine so hp ?_); rfl)
    | (with_reducible first
        | refine ite_kept ?_ ?_ | refine State.takeSeq_kept _ _ ?_ ?_ | refine State.enqueue_kept _ _ _ _ _ ?_ ?_)

theorem State.sendNotice_kept {m : Nat} {org : State} :
    ∀ s a1, Sub 271651110 m → Kept m org s → Kept m org (State.sendNotice s a1) := by
  intro s a1 hp h
  unfold State.sendNotice
  try dsimp only
  repeat' first
    | (with_reducible first
        | assumption | refine ite_kept ?_ ?_ | refine State.cascadeFrame_kept _ _ _ _ _ _ _ _ _ ?_ ?_)

theorem execLearnRequestProcessed_kept {m : Nat} {org : State} :
    ∀ a0 s, Sub 271913254 m → Kept m org s → KeptOut m org (execLearnRequestProcessed a0 s) := by
  intro a0 s hp h
  unfold execLearnRequestProcessed
  try dsimp only
  repeat' first
    | with_reducible assumption
    | ((with_reducible refine so hp ?_); rfl)
    | (with_reducible first
        | refine ite_keptOut ?_ ?_ | refine next_kept ?_ | refine State.setGal_kept _ _ ?_ ?_
        | refine State.learnTake_kept _ _ ?_ ?_ | refine State.sendNotice_kept _ _ ?_ ?_
        | refine snd_kept (by with_reducible assumption) ?_)
    | split

end Sys2Proof.Machine
end

