-- ==== Sys2Proof/Laws/Kept/Uplink.lean ====
section
/-!
SUPPORT. The operations of Machine/Uplink.lean keep soundness and the parts they do not name.
-/

namespace Sys2Proof.Machine

open State

theorem State.setUpl_kept {m : Nat} {org : State} :
    ∀ s a1 a2, Sub 67108864 m → Kept m org s → Kept m org (State.setUpl s a1 a2) := by
  intro s a1 a2 hp h
  unfold State.setUpl
  try dsimp only
  repeat' first
    | with_reducible assumption
    | ((with_reducible refine mk_kept ?_ ?_ ?_ ?_ ?_ ?_ ?_ ?_ ?_ ?_ ?_ ?_ ?_ ?_ ?_ ?_ ?_ ?_ ?_ ?_ ?_ ?_ ?_ ?_ ?_ ?_ ?_) <;> try (intro hq; first | exact (hit hp rfl hq).elim | with_reducible rfl))

theorem State.sendStop_kept {m : Nat} {org : State} :
    ∀ s a1 a2 a3, Sub 603979778 m → Kept m org s → Kept m org (State.sendStop s a1 a2 a3) := by
  intro s a1 a2 a3 hp h
  unfold State.sendStop
  try dsimp only
  repeat' first
    | with_reducible assumption
    | ((with_reducible refine so hp ?_); rfl)
    | (with_reducible first
        | refine State.setUpl_kept _ _ _ ?_ ?_ | refine State.bump_kept _ _ _ _ ?_ ?_
        | refine State.emit_kept _ _ ?_ ?_)

theorem State.flowControl_kept {m : Nat} {org : State} :
    ∀ s a1, Sub 603979778 m → Kept m org s → Kept m org (State.flowControl s a1) := by
  intro s a1 hp h
  unfold State.flowControl
  try dsimp only
  repeat' first
    | (with_reducible first
        | assumption | refine ite_kept ?_ ?_ | refine State.sendStop_kept _ _ _ _ ?_ ?_)

theorem State.stopClass_kept {m : Nat} {org : State} :
    ∀ s a1 a2 a3, Sub 67108864 m → Kept m org s → Kept m org (State.stopClass s a1 a2 a3) := by
  intro s a1 a2 a3 hp h
  unfold State.stopClass
  try dsimp only
  repeat' first
    | (with_reducible first
        | assumption | refine State.setUpl_kept _ _ _ ?_ ?_)

theorem State.pauseIgnored_kept {m : Nat} {org : State} :
    ∀ s a1, Sub 6 m → Kept m org s → Kept m org (State.pauseIgnored s a1) := by
  intro s a1 hp h
  unfold State.pauseIgnored
  try dsimp only
  repeat' first
    | with_reducible assumption
    | ((with_reducible refine so hp ?_); rfl)
    | (with_reducible first
        | refine State.setBit_kept _ _ _ _ ?_ ?_ | refine State.bump_kept _ _ _ _ ?_ ?_)

theorem State.pauseHonoured_kept {m : Nat} {org : State} :
    ∀ s a1, Sub 4390 m → Kept m org s → Kept m org (State.pauseHonoured s a1) := by
  intro s a1 hp h
  unfold State.pauseHonoured
  try dsimp only
  repeat' first
    | with_reducible assumption
    | ((with_reducible refine so hp ?_); rfl)
    | (with_reducible first
        | refine State.count_kept _ _ _ _ ?_ ?_ | refine State.bump_kept _ _ _ _ ?_ ?_)

theorem State.takePause_kept {m : Nat} {org : State} :
    ∀ s a1 a2, Sub 67113254 m → Kept m org s → Kept m org (State.takePause s a1 a2) := by
  intro s a1 a2 hp h
  unfold State.takePause
  try dsimp only
  repeat' first
    | with_reducible assumption
    | ((with_reducible refine so hp ?_); rfl)
    | (with_reducible first
        | refine ite_kept ?_ ?_ | refine foldl_kept _ _ ?_ ?_ | refine State.pauseHonoured_kept _ _ ?_ ?_
        | refine State.stopClass_kept _ _ _ _ ?_ ?_ | refine State.pauseIgnored_kept _ _ ?_ ?_)
    | intro _

theorem State.takePfc_kept {m : Nat} {org : State} :
    ∀ s a1 a2 a3, Sub 67113254 m → Kept m org s → Kept m org (State.takePfc s a1 a2 a3) := by
  intro s a1 a2 a3 hp h
  unfold State.takePfc
  try dsimp only
  repeat' first
    | with_reducible assumption
    | ((with_reducible refine so hp ?_); rfl)
    | (with_reducible first
        | refine ite_kept ?_ ?_ | refine foldl_kept _ _ ?_ ?_ | refine State.pauseHonoured_kept _ _ ?_ ?_
        | refine State.stopClass_kept _ _ _ _ ?_ ?_ | refine State.pauseIgnored_kept _ _ ?_ ?_)
    | intro _

theorem State.takeControl_kept {m : Nat} {org : State} :
    ∀ s a1 a2 a3, Sub 67113254 m → Kept m org s → Kept m org (State.takeControl s a1 a2 a3) := by
  intro s a1 a2 a3 hp h
  unfold State.takeControl
  try dsimp only
  repeat' first
    | (with_reducible first
        | assumption | refine ite_kept ?_ ?_ | refine State.takePfc_kept _ _ _ _ ?_ ?_
        | refine State.takePause_kept _ _ _ ?_ ?_)

theorem State.rxCount_kept {m : Nat} {org : State} :
    ∀ s a1 a2, Sub 4390 m → Kept m org s → Kept m org (State.rxCount s a1 a2) := by
  intro s a1 a2 hp h
  unfold State.rxCount
  try dsimp only
  repeat' first
    | with_reducible assumption
    | ((with_reducible refine so hp ?_); rfl)
    | (with_reducible first
        | refine State.count_kept _ _ _ _ ?_ ?_ | refine State.bump_kept _ _ _ _ ?_ ?_)

theorem State.purgeTx_kept {m : Nat} {org : State} :
    ∀ s a1 a2, Sub 1052966 m → Kept m org s → (∀ u0, Kept m org u0 → Kept m org (a2 u0)) → Kept m org (State.purgeTx s a1 a2) := by
  intro s a1 a2 hp h hf2
  unfold State.purgeTx
  try dsimp only
  repeat' first
    | with_reducible assumption
    | ((with_reducible refine so hp ?_); rfl)
    | (with_reducible first
        | refine foldl_kept _ _ ?_ ?_ | apply hf2 | refine State.releaseFrame_kept _ _ _ ?_ ?_
        | refine State.setQueue_kept _ _ _ ?_ ?_)
    | intro _

theorem State.putLink_kept {m : Nat} {org : State} :
    ∀ s a1 a2, Sub 294 m → Kept m org s → Kept m org (State.putLink s a1 a2) := by
  intro s a1 a2 hp h
  unfold State.putLink
  try dsimp only
  repeat' first
    | with_reducible assumption
    | ((with_reducible refine so hp ?_); rfl)
    | (with_reducible first
        | refine ite_kept ?_ ?_ | refine State.raiseChange_kept _ _ _ _ _ _ ?_ ?_
        | refine State.setBit_kept _ _ _ _ ?_ ?_ | refine State.put_kept _ _ _ _ ?_ ?_)

theorem State.linkDown_kept {m : Nat} {org : State} :
    ∀ s a1, Sub 68423974 m → Kept m org s → Kept m org (State.linkDown s a1) := by
  intro s a1 hp h
  unfold State.linkDown
  try dsimp only
  repeat' first
    | with_reducible assumption
    | ((with_reducible refine so hp ?_); rfl)
    | (with_reducible first
        | refine ite_kept ?_ ?_ | refine foldl_kept _ _ ?_ ?_ | refine State.purgeTx_kept _ _ _ ?_ ?_ ?_
        | refine State.bump_kept _ _ _ _ ?_ ?_ | refine State.setUpl_kept _ _ _ ?_ ?_
        | refine State.autoFlush_kept _ _ _ _ ?_ ?_)
    | intro _

theorem State.uplinkLoopEff_kept {m : Nat} {org : State} :
    ∀ s a1 a2 a3, Sub 68423974 m → Kept m org s → Kept m org (State.uplinkLoopEff s a1 a2 a3).1 := by
  intro s a1 a2 a3 hp h
  unfold State.uplinkLoopEff
  try dsimp only
  repeat' first
    | with_reducible assumption
    | ((with_reducible refine so hp ?_); rfl)
    | (with_reducible first
        | refine ite_kept ?_ ?_ | refine ite_kept1 ?_ ?_ | refine State.put_kept _ _ _ _ ?_ ?_
        | refine State.putLink_kept _ _ _ ?_ ?_ | refine State.linkDown_kept _ _ ?_ ?_)

theorem State.macsecRx_kept {m : Nat} {org : State} :
    ∀ s a1 a2 a3, Sub 33558822 m → Kept m org s → Kept m org (State.macsecRx s a1 a2 a3).2 := by
  intro s a1 a2 a3 hp h
  unfold State.macsecRx
  try dsimp only
  repeat' first
    | with_reducible assumption
    | ((with_reducible refine so hp ?_); rfl)
    | (with_reducible first
        | refine ite_kept ?_ ?_ | refine ite_kept2 ?_ ?_ | refine State.bump_kept _ _ _ _ ?_ ?_
        | refine State.saAccept_kept _ _ _ ?_ ?_ | refine State.count_kept _ _ _ _ ?_ ?_)
    | split

theorem State.portLaneCounts_kept {m : Nat} {org : State} :
    ∀ s a1 a2 a3, Sub 131072 m → Kept m org s → Kept m org (State.portLaneCounts s a1 a2 a3) := by
  intro s a1 a2 a3 hp h
  unfold State.portLaneCounts
  try dsimp only
  repeat' first
    | (with_reducible first
        | assumption | refine foldl_kept _ _ ?_ ?_ | refine State.lineAdd_kept _ _ _ _ ?_ ?_)
    | split
    | intro _

theorem State.fecCounts_kept {m : Nat} {org : State} :
    ∀ s a1 a2, Sub 131078 m → Kept m org s → Kept m org (State.fecCounts s a1 a2) := by
  intro s a1 a2 hp h
  unfold State.fecCounts
  try dsimp only
  repeat' first
    | with_reducible assumption
    | ((with_reducible refine so hp ?_); rfl)
    | (with_reducible first
        | refine ite_kept ?_ ?_ | refine State.portLaneCounts_kept _ _ _ _ ?_ ?_
        | refine State.lineAdd_kept _ _ _ _ ?_ ?_ | refine State.bump_kept _ _ _ _ ?_ ?_
        | refine State.setBit_kept _ _ _ _ ?_ ?_)

theorem State.acceptFrame_kept {m : Nat} {org : State} :
    ∀ s a1 a2 a3, Sub 305991974 m → Kept m org s → Kept m org (State.acceptFrame s a1 a2 a3) := by
  intro s a1 a2 a3 hp h
  unfold State.acceptFrame
  try dsimp only
  repeat' first
    | with_reducible assumption
    | ((with_reducible refine so hp ?_); rfl)
    | (with_reducible first
        | refine ite_kept ?_ ?_ | refine State.pipeline_kept _ _ ?_ ?_ | refine State.trapFrame_kept _ _ ?_ ?_
        | refine State.bump_kept _ _ _ _ ?_ ?_ | refine State.macsecRx_kept _ _ _ _ ?_ ?_
        | refine snd_kept (by with_reducible assumption) ?_)
    | split

theorem State.setPsg_kept {m : Nat} {org : State} :
    ∀ s a1 a2, Sub 134217728 m → Kept m org s → Kept m org (State.setPsg s a1 a2) := by
  intro s a1 a2 hp h
  unfold State.setPsg
  try dsimp only
  repeat' first
    | with_reducible assumption
    | ((with_reducible refine mk_kept ?_ ?_ ?_ ?_ ?_ ?_ ?_ ?_ ?_ ?_ ?_ ?_ ?_ ?_ ?_ ?_ ?_ ?_ ?_ ?_ ?_ ?_ ?_ ?_ ?_ ?_ ?_) <;> try (intro hq; first | exact (hit hp rfl hq).elim | with_reducible rfl))

theorem State.headBad_kept {m : Nat} {org : State} :
    ∀ s a1 a2, Sub 6 m → Kept m org s → KeptOpt m org (State.headBad s a1 a2) := by
  intro s a1 a2 hp h
  unfold State.headBad
  try dsimp only
  repeat' first
    | with_reducible assumption
    | ((with_reducible refine so hp ?_); rfl)
    | (with_reducible first
        | refine ite_keptOpt ?_ ?_ | refine some_kept ?_ | exact none_kept | refine State.verdictDrop_kept _ ?_ ?_
        | refine State.bump_kept _ _ _ _ ?_ ?_)

theorem State.stripHeads_kept {m : Nat} {org : State} :
    ∀ s a1 a2 a3, Sub 1052966 m → Kept m org s → Kept m org (State.stripHeads s a1 a2 a3) := by
  intro s a1 a2 a3 hp h
  induction a3 generalizing s a1 a2 with
  | zero =>
    unfold State.stripHeads
    try dsimp only
    repeat' first
      | with_reducible assumption
      | ((with_reducible refine so hp ?_); rfl)
      | (with_reducible first
          | refine State.headBad_kept _ _ _ ?_ ?_ | refine State.releaseFrame_kept _ _ _ ?_ ?_
          | refine State.setQueue_kept _ _ _ ?_ ?_ | refine opt_kept (by with_reducible assumption) ?_)
      | split
  | succ k ih =>
    unfold State.stripHeads
    try dsimp only
    repeat' first
      | with_reducible assumption
      | ((with_reducible refine so hp ?_); rfl)
      | (with_reducible first
          | apply ih | refine State.headBad_kept _ _ _ ?_ ?_ | refine State.releaseFrame_kept _ _ _ ?_ ?_
          | refine State.setQueue_kept _ _ _ ?_ ?_ | refine opt_kept (by with_reducible assumption) ?_)
      | split

theorem State.holdHead_kept {m : Nat} {org : State} :
    ∀ s a1, Sub 1048580 m → Kept m org s → Kept m org (State.holdHead s a1) := by
  intro s a1 hp h
  unfold State.holdHead
  try dsimp only
  repeat' first
    | with_reducible assumption
    | ((with_reducible refine so hp ?_); rfl)
    | (with_reducible first
        | refine State.setBit_kept _ _ _ _ ?_ ?_ | refine State.setQueue_kept _ _ _ ?_ ?_)
    | split

theorem State.pickTx_kept {m : Nat} {org : State} :
    ∀ s a1 a2, Sub 1052966 m → Kept m org s → Kept m org (State.pickTx s a1 a2).2 := by
  intro s a1 a2 hp h
  induction a2 generalizing s a1 with
  | nil =>
    unfold State.pickTx
    try dsimp only
    repeat' first
      | with_reducible assumption
      | ((with_reducible refine so hp ?_); rfl)
      | (with_reducible first
          | refine ite_kept2 ?_ ?_ | refine State.stripHeads_kept _ _ _ _ ?_ ?_
          | refine State.holdHead_kept _ _ ?_ ?_)
      | split
  | cons y l ih =>
    unfold State.pickTx
    try dsimp only
    repeat' first
      | with_reducible assumption
      | ((with_reducible refine so hp ?_); rfl)
      | (with_reducible first
          | refine ite_kept2 ?_ ?_ | apply ih | refine State.stripHeads_kept _ _ _ _ ?_ ?_
          | refine State.holdHead_kept _ _ ?_ ?_)
      | split

theorem State.egressStamp_kept {m : Nat} {org : State} :
    ∀ s a1 a2 a3, Sub 310 m → Kept m org s → Kept m org (State.egressStamp s a1 a2 a3).1 := by
  intro s a1 a2 a3 hp h
  unfold State.egressStamp
  try dsimp only
  repeat' first
    | with_reducible assumption
    | ((with_reducible refine so hp ?_); rfl)
    | (with_reducible first
        | refine ite_kept1 ?_ ?_ | refine State.putStamp_kept _ _ _ _ ?_ ?_ | refine State.tsStamp_kept _ _ _ ?_ ?_)
    | split

theorem State.protect_kept {m : Nat} {org : State} :
    ∀ s a1 a2, Sub 4390 m → Kept m org s → Kept m org (State.protect s a1 a2).2 := by
  intro s a1 a2 hp h
  unfold State.protect
  try dsimp only
  repeat' first
    | with_reducible assumption
    | ((with_reducible refine so hp ?_); rfl)
    | (with_reducible first
        | refine ite_kept2 ?_ ?_ | refine State.saAssign_kept _ _ ?_ ?_ | refine State.count_kept _ _ _ _ ?_ ?_
        | refine State.bump_kept _ _ _ _ ?_ ?_)
    | split

theorem State.sendFrom_kept {m : Nat} {org : State} :
    ∀ s a1 a2 a3 a4, Sub 672141622 m → Kept m org s → Kept m org (State.sendFrom s a1 a2 a3 a4) := by
  intro s a1 a2 a3 a4 hp h
  unfold State.sendFrom
  try dsimp only
  repeat' first
    | with_reducible assumption
    | ((with_reducible refine so hp ?_); rfl)
    | (with_reducible first
        | refine ite_kept ?_ ?_ | refine State.setQueue_kept _ _ _ ?_ ?_
        | refine State.chargeNode_kept _ _ _ _ _ ?_ ?_ | refine State.protect_kept _ _ _ ?_ ?_
        | refine State.egressStamp_kept _ _ _ _ ?_ ?_ | refine State.setPsg_kept _ _ _ ?_ ?_
        | refine State.emit_kept _ _ ?_ ?_ | refine State.bump_kept _ _ _ _ ?_ ?_
        | refine State.count_kept _ _ _ _ ?_ ?_ | refine State.setTm_kept _ _ ?_ ?_
        | refine State.releaseFrame_kept _ _ _ ?_ ?_)
    | split

theorem State.transmit_kept {m : Nat} {org : State} :
    ∀ s a1 a2, Sub 672141622 m → Kept m org s → Kept m org (State.transmit s a1 a2) := by
  intro s a1 a2 hp h
  unfold State.transmit
  try dsimp only
  repeat' first
    | with_reducible assumption
    | ((with_reducible refine so hp ?_); rfl)
    | (with_reducible first
        | refine ite_kept ?_ ?_ | refine State.pickTx_kept _ _ _ ?_ ?_ | refine State.sendFrom_kept _ _ _ _ _ ?_ ?_
        | refine snd_kept (by with_reducible assumption) ?_)
    | split

theorem State.giveCredit_kept {m : Nat} {org : State} :
    ∀ s a1 a2 a3, Sub 134217728 m → Kept m org s → Kept m org (State.giveCredit s a1 a2 a3) := by
  intro s a1 a2 a3 hp h
  unfold State.giveCredit
  try dsimp only
  repeat' first
    | (with_reducible first
        | assumption | refine ite_kept ?_ ?_ | refine State.setPsg_kept _ _ _ ?_ ?_)

theorem State.creditRelease_kept {m : Nat} {org : State} :
    ∀ s, Sub 134217728 m → Kept m org s → Kept m org (State.creditRelease s) := by
  intro s hp h
  unfold State.creditRelease
  try dsimp only
  repeat' first
    | (with_reducible first
        | assumption | refine foldl_kept _ _ ?_ ?_ | refine State.giveCredit_kept _ _ _ _ ?_ ?_
        | refine State.setPsg_kept _ _ _ ?_ ?_)
    | split
    | intro _

theorem State.pressureSeen_kept {m : Nat} {org : State} :
    ∀ s, Sub 738197506 m → Kept m org s → Kept m org (State.pressureSeen s) := by
  intro s hp h
  unfold State.pressureSeen
  try dsimp only
  repeat' first
    | with_reducible assumption
    | ((with_reducible refine so hp ?_); rfl)
    | (with_reducible first
        | refine foldl_kept _ _ ?_ ?_ | refine State.creditRelease_kept _ ?_ ?_
        | refine State.flowControl_kept _ _ ?_ ?_)
    | intro _

theorem State.uplinkApply_kept {m : Nat} {org : State} :
    ∀ s a1 a2, Sub 738197798 m → Kept m org s → Kept m org (State.uplinkApply s a1 a2) := by
  intro s a1 a2 hp h
  unfold State.uplinkApply
  try dsimp only
  repeat' first
    | with_reducible assumption
    | ((with_reducible refine so hp ?_); rfl)
    | (with_reducible first
        | refine ite_kept ?_ ?_ | refine State.putLink_kept _ _ _ ?_ ?_ | refine State.put_kept _ _ _ _ ?_ ?_
        | refine State.zeroCounters_kept _ _ _ ?_ ?_ | refine State.flowControl_kept _ _ ?_ ?_
        | refine State.setUpl_kept _ _ _ ?_ ?_ | refine State.pressureSeen_kept _ ?_ ?_)
    | split

theorem execUplinkFrameReceived_kept {m : Nat} {org : State} :
    ∀ a0 a1 a2 s, Sub 910102838 m → Kept m org s → KeptOut m org (execUplinkFrameReceived a0 a1 a2 s) := by
  intro a0 a1 a2 s hp h
  unfold execUplinkFrameReceived
  try dsimp only
  repeat' first
    | with_reducible assumption
    | ((with_reducible refine so hp ?_); rfl)
    | (with_reducible first
        | refine ite_keptOut ?_ ?_ | refine next_kept ?_ | refine State.emit_kept _ _ ?_ ?_
        | refine State.fecCounts_kept _ _ _ ?_ ?_ | refine State.bump_kept _ _ _ _ ?_ ?_
        | refine State.ingressStamp_kept _ _ ?_ ?_ | refine State.rxCount_kept _ _ _ ?_ ?_
        | refine State.takeControl_kept _ _ _ _ ?_ ?_ | refine State.acceptFrame_kept _ _ _ _ ?_ ?_)
    | split

theorem execPressureSignal_kept {m : Nat} {org : State} :
    ∀ a0 s, Sub 739246082 m → Kept m org s → KeptOut m org (execPressureSignal a0 s) := by
  intro a0 s hp h
  unfold execPressureSignal
  try dsimp only
  repeat' first
    | with_reducible assumption
    | ((with_reducible refine so hp ?_); rfl)
    | (with_reducible first
        | refine ite_keptOut ?_ ?_ | refine next_kept ?_ | refine State.setTm_kept _ _ ?_ ?_
        | refine State.pressureSeen_kept _ ?_ ?_)

theorem execPauseFrameReceived_kept {m : Nat} {org : State} :
    ∀ a0 a1 s, Sub 67113254 m → Kept m org s → KeptOut m org (execPauseFrameReceived a0 a1 s) := by
  intro a0 a1 s hp h
  unfold execPauseFrameReceived
  try dsimp only
  repeat' first
    | with_reducible assumption
    | ((with_reducible refine so hp ?_); rfl)
    | (with_reducible first
        | refine ite_keptOut ?_ ?_ | refine next_kept ?_ | refine State.takePause_kept _ _ _ ?_ ?_
        | refine State.rxCount_kept _ _ _ ?_ ?_)

theorem execPfcFrameReceived_kept {m : Nat} {org : State} :
    ∀ a0 a1 a2 s, Sub 67113254 m → Kept m org s → KeptOut m org (execPfcFrameReceived a0 a1 a2 s) := by
  intro a0 a1 a2 s hp h
  unfold execPfcFrameReceived
  try dsimp only
  repeat' first
    | with_reducible assumption
    | ((with_reducible refine so hp ?_); rfl)
    | (with_reducible first
        | refine ite_keptOut ?_ ?_ | refine next_kept ?_ | refine State.takePfc_kept _ _ _ _ ?_ ?_
        | refine State.rxCount_kept _ _ _ ?_ ?_)

theorem execPauseStopExpiry_kept {m : Nat} {org : State} :
    ∀ a0 a1 s, Sub 67108864 m → Kept m org s → KeptOut m org (execPauseStopExpiry a0 a1 s) := by
  intro a0 a1 s hp h
  unfold execPauseStopExpiry
  try dsimp only
  repeat' first
    | (with_reducible first
        | assumption | refine ite_keptOut ?_ ?_ | refine next_kept ?_ | refine State.stopClass_kept _ _ _ _ ?_ ?_)

theorem execFlowControlRefresh_kept {m : Nat} {org : State} :
    ∀ a0 s, Sub 603979778 m → Kept m org s → KeptOut m org (execFlowControlRefresh a0 s) := by
  intro a0 s hp h
  unfold execFlowControlRefresh
  try dsimp only
  repeat' first
    | (with_reducible first
        | assumption | refine ite_keptOut ?_ ?_ | refine next_kept ?_ | refine State.sendStop_kept _ _ _ _ ?_ ?_)

theorem execUplinkLinkUp_kept {m : Nat} {org : State} :
    ∀ a0 s, Sub 603980070 m → Kept m org s → KeptOut m org (execUplinkLinkUp a0 s) := by
  intro a0 s hp h
  unfold execUplinkLinkUp
  try dsimp only
  repeat' first
    | with_reducible assumption
    | ((with_reducible refine so hp ?_); rfl)
    | (with_reducible first
        | refine ite_keptOut ?_ ?_ | refine next_kept ?_ | refine State.flowControl_kept _ _ ?_ ?_
        | refine State.putLink_kept _ _ _ ?_ ?_)

theorem execUplinkLinkDown_kept {m : Nat} {org : State} :
    ∀ a0 a1 a2 s, Sub 68555046 m → Kept m org s → KeptOut m org (execUplinkLinkDown a0 a1 a2 s) := by
  intro a0 a1 a2 s hp h
  unfold execUplinkLinkDown
  try dsimp only
  repeat' first
    | with_reducible assumption
    | ((with_reducible refine so hp ?_); rfl)
    | (with_reducible first
        | refine ite_kept ?_ ?_ | refine ite_keptOut ?_ ?_ | refine next_kept ?_
        | refine State.portLaneCounts_kept _ _ _ _ ?_ ?_ | refine State.linkDown_kept _ _ ?_ ?_
        | refine State.putLink_kept _ _ _ ?_ ?_)

theorem execUplinkTransmitFrame_kept {m : Nat} {org : State} :
    ∀ a0 a1 s, Sub 672141622 m → Kept m org s → KeptOut m org (execUplinkTransmitFrame a0 a1 s) := by
  intro a0 a1 s hp h
  unfold execUplinkTransmitFrame
  try dsimp only
  repeat' first
    | (with_reducible first
        | assumption | refine next_kept ?_ | refine State.transmit_kept _ _ _ ?_ ?_)

theorem execMacsecHeldDiscard_kept {m : Nat} {org : State} :
    ∀ a0 a1 s, Sub 1052966 m → Kept m org s → KeptOut m org (execMacsecHeldDiscard a0 a1 s) := by
  intro a0 a1 s hp h
  unfold execMacsecHeldDiscard
  try dsimp only
  repeat' first
    | with_reducible assumption
    | ((with_reducible refine so hp ?_); rfl)
    | (with_reducible first
        | refine next_kept ?_ | refine State.bump_kept _ _ _ _ ?_ ?_ | refine State.releaseFrame_kept _ _ _ ?_ ?_
        | refine State.setQueue_kept _ _ _ ?_ ?_)
    | split

theorem execUplinkLoop_kept {m : Nat} {org : State} :
    ∀ a0 a1 a2 s, Sub 605294950 m → Kept m org s → KeptOut m org (execUplinkLoop a0 a1 a2 s) := by
  intro a0 a1 a2 s hp h
  unfold execUplinkLoop
  try dsimp only
  repeat' first
    | with_reducible assumption
    | ((with_reducible refine so hp ?_); rfl)
    | (with_reducible first
        | refine next_kept ?_ | refine State.hostWrite_kept _ _ _ _ _ _ ?_ ?_ ?_
        | refine State.uplinkLoopEff_kept _ _ _ _ ?_ ?_)
    | intro _

theorem execPtpMessageSend_kept {m : Nat} {org : State} :
    ∀ a0 a1 a2 a3 s, Sub 3215670 m → Kept m org s → KeptOut m org (execPtpMessageSend a0 a1 a2 a3 s) := by
  intro a0 a1 a2 a3 s hp h
  unfold execPtpMessageSend
  try dsimp only
  repeat' first
    | with_reducible assumption
    | ((with_reducible refine so hp ?_); rfl)
    | (with_reducible first
        | refine ite_keptOut ?_ ?_ | refine next_kept ?_ | refine State.enqueue_kept _ _ _ _ _ ?_ ?_
        | refine State.ptpNote_kept _ _ _ ?_ ?_)

theorem execPortLanePllLocked_kept {m : Nat} {org : State} :
    ∀ a0 a1 s, Sub 201326594 m → Kept m org s → KeptOut m org (execPortLanePllLocked a0 a1 s) := by
  intro a0 a1 s hp h
  unfold execPortLanePllLocked
  try dsimp only
  repeat' first
    | with_reducible assumption
    | ((with_reducible refine so hp ?_); rfl)
    | (with_reducible first
        | refine ite_keptOut ?_ ?_ | refine next_kept ?_ | refine State.setPsg_kept _ _ _ ?_ ?_
        | refine State.put_kept _ _ _ _ ?_ ?_ | refine State.setUpl_kept _ _ _ ?_ ?_)
    | split

end Sys2Proof.Machine
end

