-- ==== Sys2Proof/Laws/Kept/Counters.lean ====
section
/-!
SUPPORT. The operations of Machine/Counters.lean keep soundness and the parts they do not name.
-/

namespace Sys2Proof.Machine

open State

theorem State.counterEventEff_kept {m : Nat} {org : State} :
    ∀ s a1 a2 a3, Sub 2 m → Kept m org s → Kept m org (State.counterEventEff s a1 a2 a3).1 := by
  intro s a1 a2 a3 hp h
  unfold State.counterEventEff
  try dsimp only
  repeat' first
    | (with_reducible first
        | assumption | refine ite_kept1 ?_ ?_ | refine State.put_kept _ _ _ _ ?_ ?_)

theorem State.counterInstanceEff_kept {m : Nat} {org : State} :
    ∀ s a1 a2 a3, Sub 2 m → Kept m org s → Kept m org (State.counterInstanceEff s a1 a2 a3).1 := by
  intro s a1 a2 a3 hp h
  unfold State.counterInstanceEff
  try dsimp only
  repeat' first
    | (with_reducible first
        | assumption | refine ite_kept1 ?_ ?_ | refine State.put_kept _ _ _ _ ?_ ?_)

theorem State.counterModeEff_kept {m : Nat} {org : State} :
    ∀ s a1 a2 a3, Sub 2 m → Kept m org s → Kept m org (State.counterModeEff s a1 a2 a3).1 := by
  intro s a1 a2 a3 hp h
  unfold State.counterModeEff
  try dsimp only
  repeat' first
    | (with_reducible first
        | assumption | refine ite_kept1 ?_ ?_ | refine State.put_kept _ _ _ _ ?_ ?_)

theorem State.overflowClearEff_kept {m : Nat} {org : State} :
    ∀ s a1 a2 a3, Sub 2 m → Kept m org s → Kept m org (State.overflowClearEff s a1 a2 a3).1 := by
  intro s a1 a2 a3 hp h
  unfold State.overflowClearEff
  try dsimp only
  repeat' first
    | (with_reducible first
        | assumption | refine ite_kept ?_ ?_ | refine State.put_kept _ _ _ _ ?_ ?_)

theorem State.loadEff_kept {m : Nat} {org : State} :
    ∀ a0 s a2 a3 a4, Sub 4390 m → Kept m org s → Kept m org (State.loadEff a0 s a2 a3 a4).1 := by
  intro a0 s a2 a3 a4 hp h
  unfold State.loadEff
  try dsimp only
  repeat' first
    | with_reducible assumption
    | ((with_reducible refine so hp ?_); rfl)
    | (with_reducible first
        | refine ite_kept ?_ ?_ | refine State.put_kept _ _ _ _ ?_ ?_ | refine State.countAdd_kept _ _ _ ?_ ?_)

theorem State.unitSet_kept {m : Nat} {org : State} :
    ∀ s a1 a2 a3, Sub 2 m → Kept m org s → Kept m org (State.unitSet s a1 a2 a3) := by
  intro s a1 a2 a3 hp h
  unfold State.unitSet
  try dsimp only
  repeat' first
    | (with_reducible first
        | assumption | refine foldl_kept _ _ ?_ ?_ | refine State.put_kept _ _ _ _ ?_ ?_)
    | split
    | intro _

theorem State.unitEff_kept {m : Nat} {org : State} :
    ∀ a0 s a2 a3 a4, Sub 2 m → Kept m org s → Kept m org (State.unitEff a0 s a2 a3 a4).1 := by
  intro a0 s a2 a3 a4 hp h
  unfold State.unitEff
  try dsimp only
  repeat' first
    | (with_reducible first
        | assumption | refine State.unitSet_kept _ _ _ _ ?_ ?_)

theorem State.putSnap_kept {m : Nat} {org : State} : ∀ s a1, Sub 14 m → Kept m org s → Kept m org (State.putSnap s a1) := by
  intro s a1 hp h
  unfold State.putSnap
  dsimp only
  refine State.put_kept _ _ _ _ (so hp rfl) (State.putReg_kept _ _ _ (so hp rfl) (step_kept h (fun k => ⟨k.1, ?_, k.2.2⟩)
    (by intro p hq; cases p <;> first | exact (hit hp rfl hq).elim | rfl)))
  have fold : ∀ (bs : List Nat) (l : Tab Latch), (∀ x ∈ l, soundStore x.2.objs x.2.regs) →
      ∀ x ∈ bs.foldl (fun l b =>
        if a1 / 2 ^ b % 2 = 0 then tabErase l b
        else if s.snapWord / 2 ^ b % 2 = 1 then l else tabPlace (tabErase l b) b ⟨s.objs, s.regs⟩) l,
        soundStore x.2.objs x.2.regs := by
    intro bs
    induction bs with
    | nil => exact fun l hl => hl
    | cons b bs ih =>
      intro l hl
      refine ih _ ?_
      dsimp only
      split
      · exact fun x hx => hl x (List.mem_filter.1 hx).1
      · split
        · exact hl
        · intro x hx
          rcases mem_tabPlace.1 hx with rfl | hx
          · exact k.1
          · exact hl x (List.mem_filter.1 hx).1
  exact fold _ _ k.2.1

theorem State.counterView_kept {m : Nat} {org : State} : ∀ s a1, Sub 6 m → Kept m org s → Kept m org (State.counterView s a1) := by
  intro s a1 hp h
  unfold State.counterView
  split
  · rename_i l hl
    exact step_kept h (fun k => ⟨k.2.1 _ (tabFind_mem hl), k.2.1, k.2.2⟩)
      (by intro p hq; cases p <;> first | exact (hit hp rfl hq).elim | rfl)
  · exact h

theorem State.snapshotEff_kept {m : Nat} {org : State} :
    ∀ s a1 a2 a3, Sub 14 m → Kept m org s → Kept m org (State.snapshotEff s a1 a2 a3).1 := by
  intro s a1 a2 a3 hp h
  unfold State.snapshotEff
  try dsimp only
  repeat' first
    | (with_reducible first
        | assumption | refine State.putSnap_kept _ _ ?_ ?_)

theorem State.cntValLoRead_kept {m : Nat} {org : State} :
    ∀ s a1, Sub 6 m → Kept m org s → Kept m org (State.cntValLoRead s a1).1 := by
  intro s a1 hp h
  unfold State.cntValLoRead
  try dsimp only
  repeat' first
    | with_reducible assumption
    | ((with_reducible refine so hp ?_); rfl)
    | with_reducible refine State.setField_kept _ _ _ _ _ ?_ ?_

theorem State.faultMaskEff_kept {m : Nat} {org : State} :
    ∀ s a1 a2 a3, Sub 2 m → Kept m org s → Kept m org (State.faultMaskEff s a1 a2 a3).1 := by
  intro s a1 a2 a3 hp h
  unfold State.faultMaskEff
  try dsimp only
  repeat' first
    | (with_reducible first
        | assumption | refine State.put_kept _ _ _ _ ?_ ?_)

theorem State.settingEff_kept {m : Nat} {org : State} :
    ∀ a0 s a2 a3 a4, Sub 68497710 m → Kept m org s → Kept m org (State.settingEff a0 s a2 a3 a4).1 := by
  intro a0 s a2 a3 a4 hp h
  unfold State.settingEff
  try dsimp only
  repeat' first
    | with_reducible assumption
    | ((with_reducible refine so hp ?_); rfl)
    | (with_reducible first
        | refine State.loopEff_kept _ _ _ _ ?_ ?_ | refine State.uplinkLoopEff_kept _ _ _ _ ?_ ?_
        | refine State.faultMaskEff_kept _ _ _ _ ?_ ?_ | refine State.snapshotEff_kept _ _ _ _ ?_ ?_
        | refine State.counterEventEff_kept _ _ _ _ ?_ ?_ | refine State.counterInstanceEff_kept _ _ _ _ ?_ ?_
        | refine State.counterModeEff_kept _ _ _ _ ?_ ?_ | refine State.loadEff_kept _ _ _ _ _ ?_ ?_
        | refine State.storeEff_kept _ _ _ _ _ ?_ ?_)
    | split

theorem execUnitStart_kept {m : Nat} {org : State} :
    ∀ a0 a1 a2 s, Sub 536871014 m → Kept m org s → KeptOut m org (execUnitStart a0 a1 a2 s) := by
  intro a0 a1 a2 s hp h
  unfold execUnitStart
  try dsimp only
  repeat' first
    | with_reducible assumption
    | ((with_reducible refine so hp ?_); rfl)
    | (with_reducible first
        | refine next_kept ?_ | refine State.hostWrite_kept _ _ _ _ _ _ ?_ ?_ ?_
        | refine State.unitEff_kept _ _ _ _ _ ?_ ?_)
    | intro _

theorem execUnitStop_kept {m : Nat} {org : State} :
    ∀ a0 a1 a2 s, Sub 536871014 m → Kept m org s → KeptOut m org (execUnitStop a0 a1 a2 s) := by
  intro a0 a1 a2 s hp h
  unfold execUnitStop
  try dsimp only
  repeat' first
    | with_reducible assumption
    | ((with_reducible refine so hp ?_); rfl)
    | (with_reducible first
        | refine next_kept ?_ | refine State.hostWrite_kept _ _ _ _ _ _ ?_ ?_ ?_
        | refine State.unitEff_kept _ _ _ _ _ ?_ ?_)
    | intro _

theorem execCounterSnapshot_kept {m : Nat} {org : State} :
    ∀ a0 a1 s, Sub 536871022 m → Kept m org s → KeptOut m org (execCounterSnapshot a0 a1 s) := by
  intro a0 a1 s hp h
  unfold execCounterSnapshot
  try dsimp only
  repeat' first
    | with_reducible assumption
    | ((with_reducible refine so hp ?_); rfl)
    | (with_reducible first
        | refine next_kept ?_ | refine State.hostWrite_kept _ _ _ _ _ _ ?_ ?_ ?_
        | refine State.snapshotEff_kept _ _ _ _ ?_ ?_)
    | intro _

theorem execCounterOverflowClear_kept {m : Nat} {org : State} :
    ∀ a0 a1 a2 s, Sub 536871014 m → Kept m org s → KeptOut m org (execCounterOverflowClear a0 a1 a2 s) := by
  intro a0 a1 a2 s hp h
  unfold execCounterOverflowClear
  try dsimp only
  repeat' first
    | with_reducible assumption
    | ((with_reducible refine so hp ?_); rfl)
    | (with_reducible first
        | refine next_kept ?_ | refine State.hostWrite_kept _ _ _ _ _ _ ?_ ?_ ?_
        | refine State.overflowClearEff_kept _ _ _ _ ?_ ?_)
    | intro _

theorem execCounterValueLoad_kept {m : Nat} {org : State} :
    ∀ a0 a1 a2 a3 s, Sub 536875366 m → Kept m org s → KeptOut m org (execCounterValueLoad a0 a1 a2 a3 s) := by
  intro a0 a1 a2 a3 s hp h
  unfold execCounterValueLoad
  try dsimp only
  repeat' first
    | with_reducible assumption
    | ((with_reducible refine so hp ?_); rfl)
    | (with_reducible first
        | refine next_kept ?_ | refine State.hostWrite_kept _ _ _ _ _ _ ?_ ?_ ?_
        | refine State.loadEff_kept _ _ _ _ _ ?_ ?_)
    | intro _

theorem execCounterOverflow_kept {m : Nat} {org : State} :
    ∀ a0 a1 s, Sub 4390 m → Kept m org s → KeptOut m org (execCounterOverflow a0 a1 s) := by
  intro a0 a1 s hp h
  unfold execCounterOverflow
  try dsimp only
  repeat' first
    | (with_reducible first
        | assumption | refine ite_keptOut ?_ ?_ | refine next_kept ?_ | refine State.countAdd_kept _ _ _ ?_ ?_)

end Sys2Proof.Machine
end

