-- ==== Sys2Proof/Laws/Kept/Life.lean ====
section
/-!
SUPPORT. The operations of Machine/Life.lean keep soundness and the parts they do not name.
-/

namespace Sys2Proof.Machine

open State

theorem State.setLife_kept {m : Nat} {org : State} :
    ∀ s a1, Sub 1024 m → Kept m org s → Kept m org (State.setLife s a1) := by
  intro s a1 hp h
  unfold State.setLife
  try dsimp only
  repeat' first
    | with_reducible assumption
    | ((with_reducible refine mk_kept ?_ ?_ ?_ ?_ ?_ ?_ ?_ ?_ ?_ ?_ ?_ ?_ ?_ ?_ ?_ ?_ ?_ ?_ ?_ ?_ ?_ ?_ ?_ ?_ ?_ ?_ ?_) <;> try (intro hq; first | exact (hit hp rfl hq).elim | with_reducible rfl))

theorem State.lifeSecond_kept {m : Nat} {org : State} :
    ∀ s, Sub 1024 m → Kept m org s → Kept m org (State.lifeSecond s) := by
  intro s hp h
  unfold State.lifeSecond
  try dsimp only
  repeat' first
    | (with_reducible first
        | assumption | refine ite_kept ?_ ?_ | refine State.setLife_kept _ _ ?_ ?_
        | refine State.lifeCount_kept _ _ _ ?_ ?_)

theorem State.saveStart_kept {m : Nat} {org : State} :
    ∀ s a1, Sub 1024 m → Kept m org s → Kept m org (State.saveStart s a1) := by
  intro s a1 hp h
  unfold State.saveStart
  try dsimp only
  repeat' first
    | (with_reducible first
        | assumption | refine ite_kept ?_ ?_ | refine State.setLife_kept _ _ ?_ ?_)

theorem State.saveNow_kept {m : Nat} {org : State} :
    ∀ s a1, Sub 1090 m → Kept m org s → Kept m org (State.saveNow s a1) := by
  intro s a1 hp h
  unfold State.saveNow
  try dsimp only
  repeat' first
    | with_reducible assumption
    | ((with_reducible refine so hp ?_); rfl)
    | (with_reducible first
        | refine State.setNvm_kept _ _ ?_ ?_ | refine State.put_kept _ _ _ _ ?_ ?_
        | refine State.setLife_kept _ _ ?_ ?_)

theorem State.saveDone_kept {m : Nat} {org : State} :
    ∀ s, Sub 1094 m → Kept m org s → Kept m org (State.saveDone s) := by
  intro s hp h
  unfold State.saveDone
  try dsimp only
  repeat' first
    | with_reducible assumption
    | ((with_reducible refine so hp ?_); rfl)
    | (with_reducible first
        | refine ite_kept ?_ ?_ | refine State.saveNow_kept _ _ ?_ ?_ | refine State.setLife_kept _ _ ?_ ?_
        | refine State.setBit_kept _ _ _ _ ?_ ?_ | refine State.put_kept _ _ _ _ ?_ ?_)
    | split

theorem State.saveFirst_kept {m : Nat} {org : State} :
    ∀ s a1, Sub 1090 m → Kept m org s → Kept m org (State.saveFirst s a1) := by
  intro s a1 hp h
  unfold State.saveFirst
  try dsimp only
  repeat' first
    | with_reducible assumption
    | ((with_reducible refine so hp ?_); rfl)
    | (with_reducible first
        | refine ite_kept ?_ ?_ | refine State.saveNow_kept _ _ ?_ ?_ | refine State.setLife_kept _ _ ?_ ?_)

theorem State.lifetimeSaveEff_kept {m : Nat} {org : State} :
    ∀ s a1 a2 a3, Sub 1024 m → Kept m org s → Kept m org (State.lifetimeSaveEff s a1 a2 a3).1 := by
  intro s a1 a2 a3 hp h
  unfold State.lifetimeSaveEff
  try dsimp only
  repeat' first
    | (with_reducible first
        | assumption | refine ite_kept1 ?_ ?_ | refine State.saveStart_kept _ _ ?_ ?_)

theorem State.lifeRestore_kept {m : Nat} {org : State} :
    ∀ s, Sub 1058 m → Kept m org s → Kept m org (State.lifeRestore s) := by
  intro s hp h
  unfold State.lifeRestore
  try dsimp only
  repeat' first
    | with_reducible assumption
    | ((with_reducible refine so hp ?_); rfl)
    | (with_reducible first
        | refine ite_kept ?_ ?_ | refine State.setLife_kept _ _ ?_ ?_ | refine State.put_kept _ _ _ _ ?_ ?_
        | refine State.raiseL_kept _ _ _ _ _ ?_ ?_)
    | dsimp only
    | split
    | ((with_reducible refine mk_kept ?_ ?_ ?_ ?_ ?_ ?_ ?_ ?_ ?_ ?_ ?_ ?_ ?_ ?_ ?_ ?_ ?_ ?_ ?_ ?_ ?_ ?_ ?_ ?_ ?_ ?_ ?_) <;> try (intro hq; first | exact (hit hp rfl hq).elim | with_reducible rfl))

theorem execLifetimeSave_kept {m : Nat} {org : State} :
    ∀ a0 a1 s, Sub 536872038 m → Kept m org s → KeptOut m org (execLifetimeSave a0 a1 s) := by
  intro a0 a1 s hp h
  unfold execLifetimeSave
  try dsimp only
  repeat' first
    | with_reducible assumption
    | ((with_reducible refine so hp ?_); rfl)
    | (with_reducible first
        | refine next_kept ?_ | refine State.hostWrite_kept _ _ _ _ _ _ ?_ ?_ ?_
        | refine State.lifetimeSaveEff_kept _ _ _ _ ?_ ?_)
    | intro _

theorem execPeriodicSave_kept {m : Nat} {org : State} :
    ∀ s, Sub 1024 m → Kept m org s → KeptOut m org (execPeriodicSave s) := by
  intro s hp h
  unfold execPeriodicSave
  try dsimp only
  repeat' first
    | (with_reducible first
        | assumption | refine ite_keptOut ?_ ?_ | refine next_kept ?_ | refine State.saveStart_kept _ _ ?_ ?_)

theorem execLifetimeRecordSaved_kept {m : Nat} {org : State} :
    ∀ s, Sub 1094 m → Kept m org s → KeptOut m org (execLifetimeRecordSaved s) := by
  intro s hp h
  unfold execLifetimeRecordSaved
  try dsimp only
  repeat' first
    | (with_reducible first
        | assumption | refine ite_keptOut ?_ ?_ | refine next_kept ?_ | refine State.saveDone_kept _ ?_ ?_)

theorem execLaneMarginMeasurement_kept {m : Nat} {org : State} :
    ∀ a0 a1 s, Sub 1024 m → Kept m org s → KeptOut m org (execLaneMarginMeasurement a0 a1 s) := by
  intro a0 a1 s hp h
  unfold execLaneMarginMeasurement
  try dsimp only
  repeat' first
    | (with_reducible first
        | assumption | refine ite_keptOut ?_ ?_ | refine next_kept ?_ | refine State.setLife_kept _ _ ?_ ?_)

end Sys2Proof.Machine
end

