-- ==== Sys2Proof/Laws/Kept/Rogue.lean ====
section
/-!
SUPPORT. The operations of Machine/Rogue.lean keep soundness and the parts they do not name.
-/

namespace Sys2Proof.Machine

open State

theorem State.quarantine_kept {m : Nat} {org : State} :
    ∀ s a1 a2, Sub 1382 m → Kept m org s → Kept m org (State.quarantine s a1 a2) := by
  intro s a1 a2 hp h
  unfold State.quarantine
  try dsimp only
  repeat' first
    | with_reducible assumption
    | ((with_reducible refine so hp ?_); rfl)
    | (with_reducible first
        | refine ite_kept ?_ ?_ | refine foldl_kept _ _ ?_ ?_ | refine State.put_kept _ _ _ _ ?_ ?_
        | refine State.setBit_kept _ _ _ _ ?_ ?_ | refine State.lifeCount_kept _ _ _ ?_ ?_
        | refine State.setNvm_kept _ _ ?_ ?_ | refine State.raise_kept _ _ _ _ _ ?_ ?_)
    | intro _
    | ((with_reducible refine mk_kept ?_ ?_ ?_ ?_ ?_ ?_ ?_ ?_ ?_ ?_ ?_ ?_ ?_ ?_ ?_ ?_ ?_ ?_ ?_ ?_ ?_ ?_ ?_ ?_ ?_ ?_ ?_) <;> try (intro hq; first | exact (hit hp rfl hq).elim | with_reducible rfl))

theorem State.quarantineReplay_kept {m : Nat} {org : State} :
    ∀ s a1, Sub 65536 m → Kept m org s → Kept m org (State.quarantineReplay s a1) := by
  intro s a1 hp h
  unfold State.quarantineReplay
  try dsimp only
  repeat' first
    | (with_reducible first
        | assumption | refine ite_kept ?_ ?_ | refine foldl_kept _ _ ?_ ?_
        | refine State.disableSerial_kept _ _ _ _ _ ?_ ?_)
    | intro _

theorem State.quarantineRestore_kept {m : Nat} {org : State} :
    ∀ s, Sub 2 m → Kept m org s → Kept m org (State.quarantineRestore s) := by
  intro s hp h
  unfold State.quarantineRestore
  try dsimp only
  repeat' first
    | (with_reducible first
        | assumption | refine foldl_kept _ _ ?_ ?_ | refine State.putOct_kept _ _ _ _ ?_ ?_
        | refine State.put_kept _ _ _ _ ?_ ?_ | refine State.putT_kept _ _ _ _ ?_ ?_)
    | split
    | intro _

theorem State.putRogue_kept {m : Nat} {org : State} :
    ∀ s a1 a2, Sub 2 m → Kept m org s → Kept m org (State.putRogue s a1 a2) := by
  intro s a1 a2 hp h
  unfold State.putRogue
  try dsimp only
  repeat' first
    | (with_reducible first
        | assumption | refine State.put_kept _ _ _ _ ?_ ?_)

theorem State.silence_kept {m : Nat} {org : State} :
    ∀ s a1 a2, Sub 2162690 m → Kept m org s → Kept m org (State.silence s a1 a2) := by
  intro s a1 a2 hp h
  unfold State.silence
  try dsimp only
  repeat' first
    | with_reducible assumption
    | ((with_reducible refine so hp ?_); rfl)
    | (with_reducible first
        | refine State.disableSerial_kept _ _ _ _ _ ?_ ?_ | refine State.setSd_kept _ _ _ _ ?_ ?_
        | refine State.clearRecord_kept _ _ _ ?_ ?_ | refine State.putT_kept _ _ _ _ ?_ ?_)
    | split

theorem State.unsilence_kept {m : Nat} {org : State} :
    ∀ s a1 a2, Sub 2170882 m → Kept m org s → Kept m org (State.unsilence s a1 a2) := by
  intro s a1 a2 hp h
  unfold State.unsilence
  try dsimp only
  repeat' first
    | with_reducible assumption
    | ((with_reducible refine so hp ?_); rfl)
    | (with_reducible first
        | refine ite_kept ?_ ?_ | refine State.disableSerial_kept _ _ _ _ _ ?_ ?_
        | refine State.goIdle_kept _ _ _ ?_ ?_)

theorem State.isolate_kept {m : Nat} {org : State} :
    ∀ s a1 a2, Sub 6356994 m → Kept m org s → Kept m org (State.isolate s a1 a2) := by
  intro s a1 a2 hp h
  unfold State.isolate
  try dsimp only
  repeat' first
    | with_reducible assumption
    | ((with_reducible refine so hp ?_); rfl)
    | (with_reducible first
        | refine State.putRogue_kept _ _ _ ?_ ?_ | refine State.silence_kept _ _ _ ?_ ?_
        | refine State.setAct_kept _ _ _ ?_ ?_)

theorem State.huntStep_kept {m : Nat} {org : State} :
    ∀ s a1 a2 a3, Sub 6356994 m → Kept m org s → Kept m org (State.huntStep s a1 a2 a3) := by
  intro s a1 a2 a3 hp h
  unfold State.huntStep
  try dsimp only
  repeat' first
    | with_reducible assumption
    | ((with_reducible refine so hp ?_); rfl)
    | (with_reducible first
        | refine State.silence_kept _ _ _ ?_ ?_ | refine State.disableSerial_kept _ _ _ _ _ ?_ ?_
        | refine State.setAct_kept _ _ _ ?_ ?_)
    | split

theorem State.huntEnd_kept {m : Nat} {org : State} :
    ∀ s a1 a2, Sub 4194598 m → Kept m org s → Kept m org (State.huntEnd s a1 a2) := by
  intro s a1 a2 hp h
  unfold State.huntEnd
  try dsimp only
  repeat' first
    | with_reducible assumption
    | ((with_reducible refine so hp ?_); rfl)
    | (with_reducible first
        | refine ite_kept ?_ ?_ | refine State.setBit_kept _ _ _ _ ?_ ?_ | refine State.setAct_kept _ _ _ ?_ ?_
        | refine State.putRogue_kept _ _ _ ?_ ?_ | refine State.raiseChange_kept _ _ _ _ _ _ ?_ ?_)

theorem State.huntStart_kept {m : Nat} {org : State} :
    ∀ s a1, Sub 6357286 m → Kept m org s → Kept m org (State.huntStart s a1) := by
  intro s a1 hp h
  unfold State.huntStart
  try dsimp only
  repeat' first
    | with_reducible assumption
    | ((with_reducible refine so hp ?_); rfl)
    | (with_reducible first
        | refine State.putRogue_kept _ _ _ ?_ ?_ | refine State.huntEnd_kept _ _ _ ?_ ?_
        | refine State.huntStep_kept _ _ _ _ ?_ ?_)
    | split

theorem State.rogueReleaseEff_kept {m : Nat} {org : State} :
    ∀ s a1 a2 a3, Sub 2170978 m → Kept m org s → Kept m org (State.rogueReleaseEff s a1 a2 a3).1 := by
  intro s a1 a2 a3 hp h
  unfold State.rogueReleaseEff
  try dsimp only
  repeat' first
    | with_reducible assumption
    | ((with_reducible refine so hp ?_); rfl)
    | (with_reducible first
        | refine ite_kept1 ?_ ?_ | refine foldl_kept _ _ ?_ ?_ | refine State.unsilence_kept _ _ _ ?_ ?_
        | refine State.put_kept _ _ _ _ ?_ ?_ | refine State.setNvm_kept _ _ ?_ ?_)
    | dsimp only
    | intro _
    | ((with_reducible refine mk_kept ?_ ?_ ?_ ?_ ?_ ?_ ?_ ?_ ?_ ?_ ?_ ?_ ?_ ?_ ?_ ?_ ?_ ?_ ?_ ?_ ?_ ?_ ?_ ?_ ?_ ?_ ?_) <;> try (intro hq; first | exact (hit hp rfl hq).elim | with_reducible rfl))

theorem State.lightSeen_kept {m : Nat} {org : State} :
    ∀ s a1, Sub 4194304 m → Kept m org s → Kept m org (State.lightSeen s a1) := by
  intro s a1 hp h
  unfold State.lightSeen
  try dsimp only
  repeat' first
    | (with_reducible first
        | assumption | refine State.setAct_kept _ _ _ ?_ ?_)

theorem execRogueSuspicion_kept {m : Nat} {org : State} :
    ∀ a0 a1 s, Sub 6357286 m → Kept m org s → KeptOut m org (execRogueSuspicion a0 a1 s) := by
  intro a0 a1 s hp h
  unfold execRogueSuspicion
  try dsimp only
  repeat' first
    | with_reducible assumption
    | ((with_reducible refine so hp ?_); rfl)
    | (with_reducible first
        | refine ite_kept ?_ ?_ | refine ite_keptOut ?_ ?_ | refine next_kept ?_
        | refine State.raise_kept _ _ _ _ _ ?_ ?_ | refine State.setBit_kept _ _ _ _ ?_ ?_
        | refine State.setSd_kept _ _ _ _ ?_ ?_ | refine State.isolate_kept _ _ _ ?_ ?_
        | refine State.huntStart_kept _ _ ?_ ?_ | refine State.setAct_kept _ _ _ ?_ ?_)
    | split

theorem execRogueObservationEnd_kept {m : Nat} {org : State} :
    ∀ a0 s, Sub 6366566 m → Kept m org s → KeptOut m org (execRogueObservationEnd a0 s) := by
  intro a0 s hp h
  unfold execRogueObservationEnd
  try dsimp only
  repeat' first
    | with_reducible assumption
    | ((with_reducible refine so hp ?_); rfl)
    | (with_reducible first
        | refine ite_kept ?_ ?_ | refine ite_keptOut ?_ ?_ | refine next_kept ?_
        | refine State.setAct_kept _ _ _ ?_ ?_ | refine State.putRogue_kept _ _ _ ?_ ?_
        | refine State.unsilence_kept _ _ _ ?_ ?_ | refine State.huntStart_kept _ _ ?_ ?_
        | refine State.quarantine_kept _ _ _ ?_ ?_)
    | split

theorem execHuntStepEnd_kept {m : Nat} {org : State} :
    ∀ a0 s, Sub 6366566 m → Kept m org s → KeptOut m org (execHuntStepEnd a0 s) := by
  intro a0 s hp h
  unfold execHuntStepEnd
  try dsimp only
  repeat' first
    | with_reducible assumption
    | ((with_reducible refine so hp ?_); rfl)
    | (with_reducible first
        | refine ite_kept ?_ ?_ | refine ite_keptOut ?_ ?_ | refine next_kept ?_
        | refine State.huntEnd_kept _ _ _ ?_ ?_ | refine State.quarantine_kept _ _ _ ?_ ?_
        | refine State.unsilence_kept _ _ _ ?_ ?_ | refine State.disableSerial_kept _ _ _ _ _ ?_ ?_
        | refine State.huntStep_kept _ _ _ _ ?_ ?_)
    | split

theorem execHuntRetry_kept {m : Nat} {org : State} :
    ∀ a0 s, Sub 6357286 m → Kept m org s → KeptOut m org (execHuntRetry a0 s) := by
  intro a0 s hp h
  unfold execHuntRetry
  try dsimp only
  repeat' first
    | with_reducible assumption
    | ((with_reducible refine so hp ?_); rfl)
    | (with_reducible first
        | refine ite_keptOut ?_ ?_ | refine next_kept ?_ | refine State.setAct_kept _ _ _ ?_ ?_
        | refine State.huntStart_kept _ _ ?_ ?_)
    | split

theorem execHuntAbort_kept {m : Nat} {org : State} :
    ∀ a0 s, Sub 4194304 m → Kept m org s → KeptOut m org (execHuntAbort a0 s) := by
  intro a0 s hp h
  unfold execHuntAbort
  try dsimp only
  repeat' first
    | (with_reducible first
        | assumption | refine next_kept ?_ | refine State.setAct_kept _ _ _ ?_ ?_)
    | split

theorem execRogueRelease_kept {m : Nat} {org : State} :
    ∀ a0 a1 a2 s, Sub 539041894 m → Kept m org s → KeptOut m org (execRogueRelease a0 a1 a2 s) := by
  intro a0 a1 a2 s hp h
  unfold execRogueRelease
  try dsimp only
  repeat' first
    | with_reducible assumption
    | ((with_reducible refine so hp ?_); rfl)
    | (with_reducible first
        | refine next_kept ?_ | refine State.hostWrite_kept _ _ _ _ _ _ ?_ ?_ ?_
        | refine State.rogueReleaseEff_kept _ _ _ _ ?_ ?_)
    | intro _

end Sys2Proof.Machine
end

