-- ==== Sys2Proof/Laws/Kept/Grants.lean ====
section
/-!
SUPPORT. The operations of Machine/Grants.lean keep soundness and the parts they do not name.
-/

namespace Sys2Proof.Machine

open State

theorem State.setGr_kept {m : Nat} {org : State} :
    ∀ s a1, Sub 16777216 m → Kept m org s → Kept m org (State.setGr s a1) := by
  intro s a1 hp h
  unfold State.setGr
  try dsimp only
  repeat' first
    | with_reducible assumption
    | ((with_reducible refine mk_kept ?_ ?_ ?_ ?_ ?_ ?_ ?_ ?_ ?_ ?_ ?_ ?_ ?_ ?_ ?_ ?_ ?_ ?_ ?_ ?_ ?_ ?_ ?_ ?_ ?_ ?_ ?_) <;> try (intro hq; first | exact (hit hp rfl hq).elim | with_reducible rfl))

theorem State.setGch_kept {m : Nat} {org : State} :
    ∀ s a1 a2, Sub 16777216 m → Kept m org s → Kept m org (State.setGch s a1 a2) := by
  intro s a1 a2 hp h
  unfold State.setGch
  try dsimp only
  repeat' first
    | (with_reducible first
        | assumption | refine State.setGr_kept _ _ ?_ ?_)

theorem State.setDem_kept {m : Nat} {org : State} :
    ∀ s a1 a2, Sub 16777216 m → Kept m org s → Kept m org (State.setDem s a1 a2) := by
  intro s a1 a2 hp h
  unfold State.setDem
  try dsimp only
  repeat' first
    | (with_reducible first
        | assumption | refine State.setGr_kept _ _ ?_ ?_)

theorem State.allocAssign_kept {m : Nat} {org : State} :
    ∀ s a1, Sub 16842754 m → Kept m org s → Kept m org (State.allocAssign s a1) := by
  intro s a1 hp h
  unfold State.allocAssign
  try dsimp only
  repeat' first
    | with_reducible assumption
    | ((with_reducible refine so hp ?_); rfl)
    | (with_reducible first
        | refine ite_kept ?_ ?_ | refine State.ploamLan_kept _ _ _ _ _ _ _ ?_ ?_
        | refine State.put_kept _ _ _ _ ?_ ?_ | refine State.setDem_kept _ _ _ ?_ ?_)
    | split

theorem State.allocFrame_kept {m : Nat} {org : State} :
    ∀ s, Sub 16842754 m → Kept m org s → Kept m org (State.allocFrame s) := by
  intro s hp h
  unfold State.allocFrame
  try dsimp only
  repeat' first
    | (with_reducible first
        | assumption | refine foldl_kept _ _ ?_ ?_ | refine State.allocAssign_kept _ _ ?_ ?_)
    | intro _

theorem State.noteAlloc_kept {m : Nat} {org : State} :
    ∀ s a1, Sub 16842752 m → Kept m org s → Kept m org (State.noteAlloc s a1) := by
  intro s a1 hp h
  unfold State.noteAlloc
  try dsimp only
  repeat' first
    | with_reducible assumption
    | ((with_reducible refine so hp ?_); rfl)
    | (with_reducible first
        | refine foldl_kept _ _ ?_ ?_ | refine State.setDem_kept _ _ _ ?_ ?_
        | refine State.setFramer_kept _ _ _ ?_ ?_)
    | split
    | intro _

theorem State.fixEpoch_kept {m : Nat} {org : State} :
    ∀ s a1 a2, Sub 16777222 m → Kept m org s → Kept m org (State.fixEpoch s a1 a2) := by
  intro s a1 a2 hp h
  unfold State.fixEpoch
  try dsimp only
  repeat' first
    | with_reducible assumption
    | ((with_reducible refine so hp ?_); rfl)
    | (with_reducible first
        | refine ite_kept ?_ ?_ | refine State.setGch_kept _ _ _ ?_ ?_ | refine State.setBit_kept _ _ _ _ ?_ ?_
        | refine State.bump_kept _ _ _ _ ?_ ?_)

theorem State.coverEpoch_kept {m : Nat} {org : State} :
    ∀ s a1 a2, Sub 16777222 m → Kept m org s → Kept m org (State.coverEpoch s a1 a2) := by
  intro s a1 a2 hp h
  unfold State.coverEpoch
  try dsimp only
  repeat' first
    | with_reducible assumption
    | ((with_reducible refine so hp ?_); rfl)
    | (with_reducible first
        | refine ite_kept ?_ ?_ | refine State.fixEpoch_kept _ _ _ ?_ ?_ | refine State.setGch_kept _ _ _ ?_ ?_)
    | split

theorem State.noteGranted_kept {m : Nat} {org : State} :
    ∀ s a1 a2 a3 a4, Sub 16777216 m → Kept m org s → Kept m org (State.noteGranted s a1 a2 a3 a4) := by
  intro s a1 a2 a3 a4 hp h
  unfold State.noteGranted
  try dsimp only
  repeat' first
    | (with_reducible first
        | assumption | refine State.setDem_kept _ _ _ ?_ ?_)

theorem State.coopReject_kept {m : Nat} {org : State} :
    ∀ s a1 a2 a3 a4, Sub 4390 m → Kept m org s → Kept m org (State.coopReject s a1 a2 a3 a4) := by
  intro s a1 a2 a3 a4 hp h
  unfold State.coopReject
  try dsimp only
  repeat' first
    | with_reducible assumption
    | ((with_reducible refine so hp ?_); rfl)
    | (with_reducible first
        | refine ite_kept ?_ ?_ | refine State.setBit_kept _ _ _ _ ?_ ?_ | refine State.bump_kept _ _ _ _ ?_ ?_
        | refine State.raiseRefusal_kept _ _ _ _ _ ?_ ?_ | refine State.limitTake_kept _ _ ?_ ?_)

theorem State.coopUnattributed_kept {m : Nat} {org : State} :
    ∀ s a1, Sub 4386 m → Kept m org s → Kept m org (State.coopUnattributed s a1) := by
  intro s a1 hp h
  unfold State.coopUnattributed
  try dsimp only
  repeat' first
    | with_reducible assumption
    | ((with_reducible refine so hp ?_); rfl)
    | (with_reducible first
        | refine ite_kept ?_ ?_ | refine State.bump_kept _ _ _ _ ?_ ?_
        | refine State.raiseRefusal_kept _ _ _ _ _ ?_ ?_ | refine State.limitTake_kept _ _ ?_ ?_)

theorem State.storeOrder_kept {m : Nat} {org : State} :
    ∀ s a1 a2, Sub 16781606 m → Kept m org s → Kept m org (State.storeOrder s a1 a2) := by
  intro s a1 a2 hp h
  unfold State.storeOrder
  try dsimp only
  repeat' first
    | with_reducible assumption
    | ((with_reducible refine so hp ?_); rfl)
    | (with_reducible first
        | refine ite_kept ?_ ?_ | refine State.coopReject_kept _ _ _ _ _ ?_ ?_ | refine State.setGch_kept _ _ _ ?_ ?_)

theorem State.takeOrder_kept {m : Nat} {org : State} :
    ∀ s a1 a2 a3, Sub 16781606 m → Kept m org s → Kept m org (State.takeOrder s a1 a2 a3) := by
  intro s a1 a2 a3 hp h
  unfold State.takeOrder
  try dsimp only
  repeat' first
    | with_reducible assumption
    | ((with_reducible refine so hp ?_); rfl)
    | (with_reducible first
        | refine ite_kept ?_ ?_ | refine State.coopUnattributed_kept _ _ ?_ ?_
        | refine State.storeOrder_kept _ _ _ ?_ ?_)

theorem State.ctiEntry_kept {m : Nat} {org : State} :
    ∀ s a1, Sub 288428326 m → Kept m org s → Kept m org (State.ctiEntry s a1) := by
  intro s a1 hp h
  unfold State.ctiEntry
  try dsimp only
  repeat' first
    | with_reducible assumption
    | ((with_reducible refine so hp ?_); rfl)
    | (with_reducible first
        | refine ite_kept ?_ ?_ | refine State.coopUnattributed_kept _ _ ?_ ?_
        | refine State.takeOrder_kept _ _ _ _ ?_ ?_ | refine State.bump_kept _ _ _ _ ?_ ?_
        | refine State.cascadeFrame_kept _ _ _ _ _ _ _ _ _ ?_ ?_)
    | split

theorem State.dropOrders_kept {m : Nat} {org : State} :
    ∀ s a1 a2 a3, Sub 16781606 m → Kept m org s → Kept m org (State.dropOrders s a1 a2 a3) := by
  intro s a1 a2 a3 hp h
  unfold State.dropOrders
  try dsimp only
  repeat' first
    | with_reducible assumption
    | ((with_reducible refine so hp ?_); rfl)
    | (with_reducible first
        | refine foldl_kept _ _ ?_ ?_ | refine State.coopReject_kept _ _ _ _ _ ?_ ?_
        | refine State.setGch_kept _ _ _ ?_ ?_)
    | intro _

theorem State.lateOrders_kept {m : Nat} {org : State} :
    ∀ s a1, Sub 16777218 m → Kept m org s → Kept m org (State.lateOrders s a1) := by
  intro s a1 hp h
  unfold State.lateOrders
  try dsimp only
  repeat' first
    | with_reducible assumption
    | ((with_reducible refine so hp ?_); rfl)
    | (with_reducible first
        | refine ite_kept ?_ ?_ | refine State.bump_kept _ _ _ _ ?_ ?_ | refine State.setGch_kept _ _ _ ?_ ?_)

theorem State.fsyncEdge_kept {m : Nat} {org : State} : ∀ s a1, Sub 16777216 m → Kept m org s → Kept m org (State.fsyncEdge s a1) := by
  intro s a1 hp h
  unfold State.fsyncEdge
  exact foldl_kept _ _ (State.setGr_kept _ _ (so hp rfl) h) fun u ch hu => ite_kept (State.setGch_kept _ _ _ (so hp rfl) hu) hu

theorem execCtiReport_kept {m : Nat} {org : State} :
    ∀ a0 a1 a2 s, Sub 288428326 m → Kept m org s → KeptOut m org (execCtiReport a0 a1 a2 s) := by
  intro a0 a1 a2 s hp h
  unfold execCtiReport
  try dsimp only
  repeat' first
    | (with_reducible first
        | assumption | refine ite_keptOut ?_ ?_ | refine next_kept ?_ | refine foldl_kept _ _ ?_ ?_
        | refine State.ctiEntry_kept _ _ ?_ ?_)
    | intro _

theorem execPassageCooperativeOrder_kept {m : Nat} {org : State} :
    ∀ a0 a1 a2 a3 s, Sub 16781606 m → Kept m org s → KeptOut m org (execPassageCooperativeOrder a0 a1 a2 a3 s) := by
  intro a0 a1 a2 a3 s hp h
  unfold execPassageCooperativeOrder
  try dsimp only
  repeat' first
    | (with_reducible first
        | assumption | refine ite_keptOut ?_ ?_ | refine next_kept ?_ | refine State.takeOrder_kept _ _ _ _ ?_ ?_)

theorem execFsyncEdge_kept {m : Nat} {org : State} :
    ∀ a0 a1 s, Sub 16777216 m → Kept m org s → KeptOut m org (execFsyncEdge a0 a1 s) := by
  intro a0 a1 s hp h
  unfold execFsyncEdge
  try dsimp only
  repeat' first
    | (with_reducible first
        | assumption | refine ite_keptOut ?_ ?_ | refine next_kept ?_ | refine State.setGr_kept _ _ ?_ ?_
        | refine State.fsyncEdge_kept _ _ ?_ ?_)
    | split

theorem execFsyncLost_kept {m : Nat} {org : State} :
    ∀ s, Sub 16777510 m → Kept m org s → KeptOut m org (execFsyncLost s) := by
  intro s hp h
  unfold execFsyncLost
  try dsimp only
  repeat' first
    | with_reducible assumption
    | ((with_reducible refine so hp ?_); rfl)
    | (with_reducible first
        | refine ite_keptOut ?_ ?_ | refine next_kept ?_ | refine State.raiseRefusal_kept _ _ _ _ _ ?_ ?_
        | refine State.setGr_kept _ _ ?_ ?_ | refine State.setBit_kept _ _ _ _ ?_ ?_)

end Sys2Proof.Machine
end

