-- ==== Sys2Proof/Laws/Kept/Layout.lean ====
section
/-!
SUPPORT. The operations of Machine/Layout.lean keep soundness and the parts they do not name.
-/

namespace Sys2Proof.Machine

open State

theorem State.layRanging_kept {m : Nat} {org : State} :
    ∀ s a1 a2 a3 a4, Sub 2170886 m → Kept m org s → Kept m org (State.layRanging s a1 a2 a3 a4) := by
  intro s a1 a2 a3 a4 hp h
  unfold State.layRanging
  try dsimp only
  repeat' first
    | with_reducible assumption
    | ((with_reducible refine so hp ?_); rfl)
    | (with_reducible first
        | refine ite_kept ?_ ?_ | refine State.activationFails_kept _ _ _ ?_ ?_
        | refine State.setSd_kept _ _ _ _ ?_ ?_ | refine State.putT_kept _ _ _ _ ?_ ?_
        | refine State.setBit_kept _ _ _ _ ?_ ?_ | refine State.bump_kept _ _ _ _ ?_ ?_)
    | split

theorem State.layWindows_kept {m : Nat} {org : State} :
    ∀ s a1 a2, Sub 2170886 m → Kept m org s → Kept m org (State.layWindows s a1 a2) := by
  intro s a1 a2 hp h
  unfold State.layWindows
  try dsimp only
  repeat' first
    | (with_reducible first
        | assumption | refine foldl_kept _ _ ?_ ?_ | refine State.layRanging_kept _ _ _ _ _ ?_ ?_)
    | split
    | intro _

theorem State.layNeeds_kept {m : Nat} {org : State} :
    ∀ s a1 a2, Sub 2097152 m → Kept m org s → Kept m org (State.layNeeds s a1 a2).2 := by
  intro s a1 a2 hp h
  unfold State.layNeeds
  try dsimp only
  repeat' first
    | (with_reducible first
        | assumption | refine foldl_kept2 _ _ ?_ ?_ | refine State.setSd_kept _ _ _ _ ?_ ?_)
    | dsimp only
    | split
    | intro _

theorem State.layOrders_kept {m : Nat} {org : State} :
    ∀ s a1 a2 a3, Sub 16781606 m → Kept m org s → Kept m org (State.layOrders s a1 a2 a3).2 := by
  intro s a1 a2 a3 hp h
  unfold State.layOrders
  try dsimp only
  repeat' first
    | with_reducible assumption
    | ((with_reducible refine so hp ?_); rfl)
    | (with_reducible first
        | refine foldl_kept22 _ _ ?_ ?_ | refine State.setGch_kept _ _ _ ?_ ?_
        | refine State.coopReject_kept _ _ _ _ _ ?_ ?_ | refine State.bump_kept _ _ _ _ ?_ ?_)
    | dsimp only
    | split
    | intro _

end Sys2Proof.Machine
end

