-- ==== Sys2Proof/Laws/Kept/Maps.lean ====
section
/-!
SUPPORT. The operations of Machine/Maps.lean keep soundness and the parts they do not name.
-/

namespace Sys2Proof.Machine

open State

theorem State.putGl_kept {m : Nat} {org : State} :
    ∀ s a1 a2, Sub 6 m → Kept m org s → Kept m org (State.putGl s a1 a2) := by
  intro s a1 a2 hp h
  unfold State.putGl
  try dsimp only
  repeat' first
    | with_reducible assumption
    | ((with_reducible refine so hp ?_); rfl)
    | (with_reducible first
        | refine ite_kept ?_ ?_ | refine State.put_kept _ _ _ _ ?_ ?_ | refine State.setBit_kept _ _ _ _ ?_ ?_)

theorem State.setGlane_kept {m : Nat} {org : State} :
    ∀ s a1 a2, Sub 16777216 m → Kept m org s → Kept m org (State.setGlane s a1 a2) := by
  intro s a1 a2 hp h
  unfold State.setGlane
  try dsimp only
  repeat' first
    | (with_reducible first
        | assumption | refine State.setGr_kept _ _ ?_ ?_)

theorem State.laneOut_kept {m : Nat} {org : State} :
    ∀ s a1, Sub 16781606 m → Kept m org s → Kept m org (State.laneOut s a1) := by
  intro s a1 hp h
  unfold State.laneOut
  try dsimp only
  repeat' first
    | with_reducible assumption
    | ((with_reducible refine so hp ?_); rfl)
    | (with_reducible first
        | refine ite_kept ?_ ?_ | refine State.count_kept _ _ _ _ ?_ ?_ | refine State.bump_kept _ _ _ _ ?_ ?_
        | refine State.setGr_kept _ _ ?_ ?_ | refine State.setGlane_kept _ _ _ ?_ ?_
        | refine State.putGl_kept _ _ _ ?_ ?_)

theorem State.laneLoad_kept {m : Nat} {org : State} :
    ∀ s a1 a2, Sub 16777222 m → Kept m org s → Kept m org (State.laneLoad s a1 a2) := by
  intro s a1 a2 hp h
  unfold State.laneLoad
  try dsimp only
  repeat' first
    | with_reducible assumption
    | ((with_reducible refine so hp ?_); rfl)
    | (with_reducible first
        | refine State.setGlane_kept _ _ _ ?_ ?_ | refine State.putGl_kept _ _ _ ?_ ?_)

theorem State.votersNote_kept {m : Nat} {org : State} :
    ∀ s, Sub 16777216 m → Kept m org s → Kept m org (State.votersNote s) := by
  intro s hp h
  unfold State.votersNote
  try dsimp only
  repeat' first
    | (with_reducible first
        | assumption | refine State.setGr_kept _ _ ?_ ?_)

theorem State.laneVote_kept {m : Nat} {org : State} :
    ∀ s a1, Sub 16777510 m → Kept m org s → Kept m org (State.laneVote s a1) := by
  intro s a1 hp h
  unfold State.laneVote
  try dsimp only
  repeat' first
    | with_reducible assumption
    | ((with_reducible refine so hp ?_); rfl)
    | (with_reducible first
        | refine State.votersNote_kept _ ?_ ?_ | refine State.raiseChange_kept _ _ _ _ _ _ ?_ ?_
        | refine State.putGl_kept _ _ _ ?_ ?_)

theorem State.oddOut_kept {m : Nat} {org : State} :
    ∀ s a1 a2 a3, Sub 16781606 m → Kept m org s → Kept m org (State.oddOut s a1 a2 a3) := by
  intro s a1 a2 a3 hp h
  unfold State.oddOut
  try dsimp only
  repeat' first
    | (with_reducible first
        | assumption | refine foldl_kept _ _ ?_ ?_ | refine State.laneOut_kept _ _ ?_ ?_)
    | intro _

theorem State.noteDiffer_kept {m : Nat} {org : State} :
    ∀ s a1, Sub 16777216 m → Kept m org s → Kept m org (State.noteDiffer s a1) := by
  intro s a1 hp h
  unfold State.noteDiffer
  try dsimp only
  repeat' first
    | (with_reducible first
        | assumption | refine ite_kept ?_ ?_ | refine State.setGr_kept _ _ ?_ ?_)

theorem State.voteWord_kept {m : Nat} {org : State} :
    ∀ s a1, Sub 16781606 m → Kept m org s → Kept m org (State.voteWord s a1).2 := by
  intro s a1 hp h
  unfold State.voteWord
  try dsimp only
  repeat' first
    | with_reducible assumption
    | ((with_reducible refine so hp ?_); rfl)
    | (with_reducible first
        | refine ite_kept2 ?_ ?_ | refine State.noteDiffer_kept _ _ ?_ ?_ | refine State.oddOut_kept _ _ _ _ ?_ ?_)
    | split

theorem State.voteMap_kept {m : Nat} {org : State} :
    ∀ s a1, Sub 16781606 m → Kept m org s → Kept m org (State.voteMap s a1).2 := by
  intro s a1 hp h
  unfold State.voteMap
  try dsimp only
  repeat' first
    | (with_reducible first
        | assumption | refine foldl_kept2 _ _ ?_ ?_ | refine State.voteWord_kept _ _ ?_ ?_)
    | dsimp only
    | intro _

theorem State.noMajority_kept {m : Nat} {org : State} :
    ∀ s a1 a2, Sub 16777510 m → Kept m org s → Kept m org (State.noMajority s a1 a2) := by
  intro s a1 a2 hp h
  unfold State.noMajority
  try dsimp only
  repeat' first
    | with_reducible assumption
    | ((with_reducible refine so hp ?_); rfl)
    | (with_reducible first
        | refine ite_kept ?_ ?_ | refine State.setBit_kept _ _ _ _ ?_ ?_ | refine State.bump_kept _ _ _ _ ?_ ?_
        | refine State.raiseFault_kept _ _ _ _ ?_ ?_ | refine State.setGr_kept _ _ ?_ ?_)

theorem State.reloadStart_kept {m : Nat} {org : State} :
    ∀ s, Sub 16777510 m → Kept m org s → Kept m org (State.reloadStart s) := by
  intro s hp h
  unfold State.reloadStart
  try dsimp only
  repeat' first
    | with_reducible assumption
    | ((with_reducible refine so hp ?_); rfl)
    | (with_reducible first
        | refine foldl_kept _ _ ?_ ?_ | refine State.setGlane_kept _ _ _ ?_ ?_ | refine State.putGl_kept _ _ _ ?_ ?_
        | refine State.setGr_kept _ _ ?_ ?_ | refine State.raiseFault_kept _ _ _ _ ?_ ?_
        | refine State.bump_kept _ _ _ _ ?_ ?_)
    | intro _

theorem State.laneFrame_kept {m : Nat} {org : State} :
    ∀ s, Sub 16777510 m → Kept m org s → Kept m org (State.laneFrame s) := by
  intro s hp h
  unfold State.laneFrame
  try dsimp only
  repeat' first
    | with_reducible assumption
    | ((with_reducible refine so hp ?_); rfl)
    | (with_reducible first
        | refine ite_kept ?_ ?_ | refine foldl_kept _ _ ?_ ?_ | refine State.reloadStart_kept _ ?_ ?_
        | refine State.setGlane_kept _ _ _ ?_ ?_ | refine State.putGl_kept _ _ _ ?_ ?_
        | refine State.laneLoad_kept _ _ _ ?_ ?_)
    | split
    | intro _

theorem State.copyFromFirst_kept {m : Nat} {org : State} :
    ∀ s, Sub 16777222 m → Kept m org s → Kept m org (State.copyFromFirst s) := by
  intro s hp h
  unfold State.copyFromFirst
  try dsimp only
  repeat' first
    | with_reducible assumption
    | ((with_reducible refine so hp ?_); rfl)
    | (with_reducible first
        | refine State.setGr_kept _ _ ?_ ?_ | refine State.laneLoad_kept _ _ _ ?_ ?_)

theorem State.voteEnable_kept {m : Nat} {org : State} :
    ∀ s, Sub 16777222 m → Kept m org s → Kept m org (State.voteEnable s) := by
  intro s hp h
  unfold State.voteEnable
  try dsimp only
  repeat' first
    | with_reducible assumption
    | ((with_reducible refine so hp ?_); rfl)
    | (with_reducible first
        | refine ite_kept ?_ ?_ | refine State.copyFromFirst_kept _ ?_ ?_ | refine State.setGlane_kept _ _ _ ?_ ?_
        | refine State.putGl_kept _ _ _ ?_ ?_)

theorem State.laneStartUp_kept {m : Nat} {org : State} :
    ∀ s, Sub 16777222 m → Kept m org s → Kept m org (State.laneStartUp s) := by
  intro s hp h
  unfold State.laneStartUp
  try dsimp only
  repeat' first
    | with_reducible assumption
    | ((with_reducible refine so hp ?_); rfl)
    | (with_reducible first
        | refine ite_kept ?_ ?_ | refine State.setGlane_kept _ _ _ ?_ ?_ | refine State.putGl_kept _ _ _ ?_ ?_
        | refine State.setBit_kept _ _ _ _ ?_ ?_ | refine State.votersNote_kept _ ?_ ?_
        | refine State.copyFromFirst_kept _ ?_ ?_)

theorem State.engineEnable_kept {m : Nat} {org : State} :
    ∀ s, Sub 16777222 m → Kept m org s → Kept m org (State.engineEnable s) := by
  intro s hp h
  unfold State.engineEnable
  try dsimp only
  repeat' first
    | with_reducible assumption
    | ((with_reducible refine so hp ?_); rfl)
    | (with_reducible first
        | refine ite_kept ?_ ?_ | refine foldl_kept _ _ ?_ ?_ | refine State.laneStartUp_kept _ ?_ ?_
        | refine State.setGlane_kept _ _ _ ?_ ?_ | refine State.putGl_kept _ _ _ ?_ ?_
        | refine State.setGr_kept _ _ ?_ ?_)
    | intro _

theorem State.laneTestArm_kept {m : Nat} {org : State} :
    ∀ s a1, Sub 16777216 m → Kept m org s → KeptOpt m org (State.laneTestArm s a1) := by
  intro s a1 hp h
  unfold State.laneTestArm
  try dsimp only
  repeat' first
    | (with_reducible first
        | assumption | refine ite_keptOpt ?_ ?_ | refine some_kept ?_ | exact none_kept
        | refine State.setGr_kept _ _ ?_ ?_)

theorem State.laneFree_kept {m : Nat} {org : State} :
    ∀ s a1, Sub 16777222 m → Kept m org s → KeptOpt m org (State.laneFree s a1) := by
  intro s a1 hp h
  unfold State.laneFree
  try dsimp only
  repeat' first
    | (with_reducible first
        | assumption | refine ite_keptOpt ?_ ?_ | refine some_kept ?_ | exact none_kept
        | refine State.laneLoad_kept _ _ _ ?_ ?_)

theorem State.noteMap_kept {m : Nat} {org : State} :
    ∀ s a1 a2 a3 a4, Sub 16777218 m → Kept m org s → Kept m org (State.noteMap s a1 a2 a3 a4) := by
  intro s a1 a2 a3 a4 hp h
  unfold State.noteMap
  try dsimp only
  repeat' first
    | with_reducible assumption
    | ((with_reducible refine so hp ?_); rfl)
    | (with_reducible first
        | refine ite_kept ?_ ?_ | refine State.noteGranted_kept _ _ _ _ _ ?_ ?_
        | refine State.bump_kept _ _ _ _ ?_ ?_ | refine State.put_kept _ _ _ _ ?_ ?_)

theorem State.computeMap_kept {m : Nat} {org : State} :
    ∀ s a1 a2, Sub 18878758 m → Kept m org s → Kept m org (State.computeMap s a1 a2).2.2 := by
  intro s a1 a2 hp h
  unfold State.computeMap
  try dsimp only
  repeat' first
    | with_reducible assumption
    | ((with_reducible refine so hp ?_); rfl)
    | (with_reducible first
        | refine ite_kept ?_ ?_ | refine foldl_kept _ _ ?_ ?_ | refine State.layNeeds_kept _ _ _ ?_ ?_
        | refine State.layOrders_kept _ _ _ _ ?_ ?_ | refine State.setSd_kept _ _ _ _ ?_ ?_
        | refine State.setBit_kept _ _ _ _ ?_ ?_ | refine State.bump_kept _ _ _ _ ?_ ?_
        | refine State.count_kept _ _ _ _ ?_ ?_ | refine State.putReg_kept _ _ _ ?_ ?_
        | refine State.setGch_kept _ _ _ ?_ ?_)
    | split
    | intro _

theorem State.builderFault_kept {m : Nat} {org : State} :
    ∀ s a1, Sub 294 m → Kept m org s → Kept m org (State.builderFault s a1) := by
  intro s a1 hp h
  unfold State.builderFault
  try dsimp only
  repeat' first
    | with_reducible assumption
    | ((with_reducible refine so hp ?_); rfl)
    | (with_reducible first
        | refine State.raiseFault_kept _ _ _ _ ?_ ?_ | refine State.setBit_kept _ _ _ _ ?_ ?_)

theorem State.mapFor_kept {m : Nat} {org : State} :
    ∀ s a1 a2 a3 a4, Sub 18952486 m → Kept m org s → Kept m org (State.mapFor s a1 a2 a3 a4) := by
  intro s a1 a2 a3 a4 hp h
  unfold State.mapFor
  try dsimp only
  repeat' first
    | with_reducible assumption
    | ((with_reducible refine so hp ?_); rfl)
    | (with_reducible first
        | refine ite_kept ?_ ?_ | refine ite_kept2 ?_ ?_ | refine foldl_kept _ _ ?_ ?_
        | refine State.layWindows_kept _ _ _ ?_ ?_ | refine State.coverEpoch_kept _ _ _ ?_ ?_
        | refine State.computeMap_kept _ _ _ ?_ ?_ | refine State.voteMap_kept _ _ ?_ ?_
        | refine State.setBit_kept _ _ _ _ ?_ ?_ | refine State.bump_kept _ _ _ _ ?_ ?_
        | refine State.builderFault_kept _ _ ?_ ?_ | refine State.noMajority_kept _ _ _ ?_ ?_
        | refine State.noteMap_kept _ _ _ _ _ ?_ ?_ | refine State.setGch_kept _ _ _ ?_ ?_)
    | dsimp only
    | split
    | intro _

theorem State.computeTime_kept {m : Nat} {org : State} :
    ∀ s, Sub 1073741828 m → Kept m org s → Kept m org (State.computeTime s) := by
  intro s hp h
  unfold State.computeTime
  try dsimp only
  repeat' first
    | with_reducible assumption
    | ((with_reducible refine so hp ?_); rfl)
    | (with_reducible first
        | refine State.draw_kept _ ?_ ?_ | refine State.putReg_kept _ _ _ ?_ ?_)

theorem State.shadowFrame_kept {m : Nat} {org : State} :
    ∀ s, Sub 16777216 m → Kept m org s → Kept m org (State.shadowFrame s) := by
  intro s hp h
  unfold State.shadowFrame
  try dsimp only
  repeat' first
    | (with_reducible first
        | assumption | refine ite_kept ?_ ?_ | refine foldl_kept _ _ ?_ ?_ | refine State.setGlane_kept _ _ _ ?_ ?_
        | refine State.setGr_kept _ _ ?_ ?_)
    | split
    | intro _

theorem State.windowsSent_kept {m : Nat} {org : State} :
    ∀ s a1 a2, Sub 6291456 m → Kept m org s → Kept m org (State.windowsSent s a1 a2) := by
  intro s a1 a2 hp h
  unfold State.windowsSent
  try dsimp only
  repeat' first
    | with_reducible assumption
    | ((with_reducible refine so hp ?_); rfl)
    | (with_reducible first
        | refine foldl_kept _ _ ?_ ?_ | refine State.setAct_kept _ _ _ ?_ ?_ | refine State.setSd_kept _ _ _ _ ?_ ?_)
    | split
    | intro _

theorem State.sendMap_kept {m : Nat} {org : State} :
    ∀ s a1, Sub 560140582 m → Kept m org s → Kept m org (State.sendMap s a1) := by
  intro s a1 hp h
  unfold State.sendMap
  try dsimp only
  repeat' first
    | with_reducible assumption
    | ((with_reducible refine so hp ?_); rfl)
    | (with_reducible first
        | refine ite_kept ?_ ?_ | refine State.setGch_kept _ _ _ ?_ ?_ | refine State.windowsSent_kept _ _ _ ?_ ?_
        | refine State.setBit_kept _ _ _ _ ?_ ?_ | refine State.bump_kept _ _ _ _ ?_ ?_
        | refine State.count_kept _ _ _ _ ?_ ?_ | refine State.put_kept _ _ _ _ ?_ ?_
        | refine State.sendFrame_kept _ _ _ _ ?_ ?_)

theorem State.mapsEnd_kept {m : Nat} {org : State} :
    ∀ s a1, Sub 16781606 m → Kept m org s → Kept m org (State.mapsEnd s a1) := by
  intro s a1 hp h
  unfold State.mapsEnd
  try dsimp only
  repeat' first
    | with_reducible assumption
    | ((with_reducible refine so hp ?_); rfl)
    | (with_reducible first
        | refine ite_kept ?_ ?_ | refine State.setGch_kept _ _ _ ?_ ?_ | refine State.put_kept _ _ _ _ ?_ ?_
        | refine State.dropOrders_kept _ _ _ _ ?_ ?_)

theorem State.laneTestEff_kept {m : Nat} {org : State} :
    ∀ s a1 a2 a3, Sub 16777216 m → Kept m org s → Kept m org (State.laneTestEff s a1 a2 a3).1 := by
  intro s a1 a2 a3 hp h
  unfold State.laneTestEff
  try dsimp only
  repeat' first
    | (with_reducible first
        | assumption | refine State.laneTestArm_kept _ _ ?_ ?_ | refine opt_kept (by with_reducible assumption) ?_)
    | split

theorem State.laneReleaseEff_kept {m : Nat} {org : State} :
    ∀ s a1 a2 a3, Sub 16777222 m → Kept m org s → Kept m org (State.laneReleaseEff s a1 a2 a3).1 := by
  intro s a1 a2 a3 hp h
  unfold State.laneReleaseEff
  try dsimp only
  repeat' first
    | (with_reducible first
        | assumption | refine State.laneFree_kept _ _ ?_ ?_ | refine opt_kept (by with_reducible assumption) ?_)
    | split

theorem execMapComputation_kept {m : Nat} {org : State} :
    ∀ a0 a1 s, Sub 1092694310 m → Kept m org s → KeptOut m org (execMapComputation a0 a1 s) := by
  intro a0 a1 s hp h
  unfold execMapComputation
  try dsimp only
  repeat' first
    | with_reducible assumption
    | ((with_reducible refine so hp ?_); rfl)
    | (with_reducible first
        | refine ite_kept ?_ ?_ | refine ite_keptOut ?_ ?_ | refine next_kept ?_ | refine foldl_kept _ _ ?_ ?_
        | refine State.shadowFrame_kept _ ?_ ?_ | refine State.setGr_kept _ _ ?_ ?_
        | refine State.mapFor_kept _ _ _ _ _ ?_ ?_ | refine State.computeTime_kept _ ?_ ?_)
    | split
    | intro _

theorem execGrantLaneCopyComplete_kept {m : Nat} {org : State} :
    ∀ a0 s, Sub 16777216 m → Kept m org s → KeptOut m org (execGrantLaneCopyComplete a0 s) := by
  intro a0 s hp h
  unfold execGrantLaneCopyComplete
  try dsimp only
  repeat' first
    | (with_reducible first
        | assumption | refine ite_keptOut ?_ ?_ | refine next_kept ?_ | refine State.setGlane_kept _ _ _ ?_ ?_)

theorem execGrantLaneRejoin_kept {m : Nat} {org : State} :
    ∀ a0 s, Sub 16777510 m → Kept m org s → KeptOut m org (execGrantLaneRejoin a0 s) := by
  intro a0 s hp h
  unfold execGrantLaneRejoin
  try dsimp only
  repeat' first
    | (with_reducible first
        | assumption | refine ite_keptOut ?_ ?_ | refine next_kept ?_ | refine State.laneVote_kept _ _ ?_ ?_)

theorem execGrantReload_kept {m : Nat} {org : State} :
    ∀ s, Sub 16777216 m → Kept m org s → KeptOut m org (execGrantReload s) := by
  intro s hp h
  unfold execGrantReload
  try dsimp only
  repeat' first
    | (with_reducible first
        | assumption | refine ite_keptOut ?_ ?_ | refine next_kept ?_ | refine State.setGr_kept _ _ ?_ ?_)

theorem execReloadComplete_kept {m : Nat} {org : State} :
    ∀ s, Sub 16781606 m → Kept m org s → KeptOut m org (execReloadComplete s) := by
  intro s hp h
  unfold execReloadComplete
  try dsimp only
  repeat' first
    | with_reducible assumption
    | ((with_reducible refine so hp ?_); rfl)
    | (with_reducible first
        | refine ite_keptOut ?_ ?_ | refine next_kept ?_ | refine foldl_kept _ _ ?_ ?_
        | refine State.setGr_kept _ _ ?_ ?_ | refine State.laneOut_kept _ _ ?_ ?_
        | refine State.put_kept _ _ _ _ ?_ ?_ | refine State.voteEnable_kept _ ?_ ?_
        | refine State.laneVote_kept _ _ ?_ ?_)
    | split
    | intro _

theorem execGrantLaneTest_kept {m : Nat} {org : State} :
    ∀ a0 a1 s, Sub 553648230 m → Kept m org s → KeptOut m org (execGrantLaneTest a0 a1 s) := by
  intro a0 a1 s hp h
  unfold execGrantLaneTest
  try dsimp only
  repeat' first
    | with_reducible assumption
    | ((with_reducible refine so hp ?_); rfl)
    | (with_reducible first
        | refine next_kept ?_ | refine State.hostWrite_kept _ _ _ _ _ _ ?_ ?_ ?_
        | refine State.laneTestEff_kept _ _ _ _ ?_ ?_)
    | intro _

theorem execGrantLaneTestEnd_kept {m : Nat} {org : State} :
    ∀ s, Sub 16777222 m → Kept m org s → KeptOut m org (execGrantLaneTestEnd s) := by
  intro s hp h
  unfold execGrantLaneTestEnd
  try dsimp only
  repeat' first
    | with_reducible assumption
    | ((with_reducible refine so hp ?_); rfl)
    | (with_reducible first
        | refine ite_keptOut ?_ ?_ | refine next_kept ?_ | refine State.setBit_kept _ _ _ _ ?_ ?_
        | refine State.put_kept _ _ _ _ ?_ ?_ | refine State.setGr_kept _ _ ?_ ?_
        | refine State.putGl_kept _ _ _ ?_ ?_)
    | split

theorem execGrantLaneRelease_kept {m : Nat} {org : State} :
    ∀ a0 a1 s, Sub 553648230 m → Kept m org s → KeptOut m org (execGrantLaneRelease a0 a1 s) := by
  intro a0 a1 s hp h
  unfold execGrantLaneRelease
  try dsimp only
  repeat' first
    | with_reducible assumption
    | ((with_reducible refine so hp ?_); rfl)
    | (with_reducible first
        | refine next_kept ?_ | refine State.hostWrite_kept _ _ _ _ _ _ ?_ ?_ ?_
        | refine State.laneReleaseEff_kept _ _ _ _ ?_ ?_)
    | intro _

theorem execLaneSleepEntry_kept {m : Nat} {org : State} :
    ∀ a0 s, Sub 16781606 m → Kept m org s → KeptOut m org (execLaneSleepEntry a0 s) := by
  intro a0 s hp h
  unfold execLaneSleepEntry
  try dsimp only
  repeat' first
    | with_reducible assumption
    | ((with_reducible refine so hp ?_); rfl)
    | (with_reducible first
        | refine ite_keptOut ?_ ?_ | refine next_kept ?_ | refine State.dropOrders_kept _ _ _ _ ?_ ?_
        | refine State.setBit_kept _ _ _ _ ?_ ?_ | refine State.put_kept _ _ _ _ ?_ ?_)

end Sys2Proof.Machine
end

