-- ==== Sys2Proof/Laws/Kept/Upstream.lean ====
section
/-!
SUPPORT. The operations of Machine/Upstream.lean keep soundness and the parts they do not name.
-/

namespace Sys2Proof.Machine

open State

theorem State.setBondRx_kept {m : Nat} {org : State} :
    ∀ s a1 a2, Sub 1048576 m → Kept m org s → Kept m org (State.setBondRx s a1 a2) := by
  intro s a1 a2 hp h
  unfold State.setBondRx
  try dsimp only
  repeat' first
    | (with_reducible first
        | assumption | refine State.setTm_kept _ _ ?_ ?_)

theorem State.bondFree_kept {m : Nat} {org : State} :
    ∀ s a1, Sub 1052966 m → Kept m org s → Kept m org (State.bondFree s a1) := by
  intro s a1 hp h
  unfold State.bondFree
  try dsimp only
  repeat' first
    | (with_reducible first
        | assumption | refine foldl_kept _ _ ?_ ?_ | refine State.releaseFrame_kept _ _ _ ?_ ?_)
    | intro _

theorem State.bondDiscard_kept {m : Nat} {org : State} :
    ∀ s a1 a2, Sub 1052966 m → Kept m org s → Kept m org (State.bondDiscard s a1 a2).2 := by
  intro s a1 a2 hp h
  unfold State.bondDiscard
  try dsimp only
  repeat' first
    | with_reducible assumption
    | ((with_reducible refine so hp ?_); rfl)
    | (with_reducible first
        | refine State.bondFree_kept _ _ ?_ ?_ | refine State.bump_kept _ _ _ _ ?_ ?_)
    | split

theorem State.upFrame_kept {m : Nat} {org : State} :
    ∀ s a1 a2 a3, Sub 272437542 m → Kept m org s → Kept m org (State.upFrame s a1 a2 a3) := by
  intro s a1 a2 a3 hp h
  unfold State.upFrame
  try dsimp only
  repeat' first
    | (with_reducible first
        | assumption | refine State.pipeline_kept _ _ ?_ ?_)

theorem State.bondTake_kept {m : Nat} {org : State} :
    ∀ s a1 a2 a3 a4, Sub 272437542 m → Kept m org s → Kept m org (State.bondTake s a1 a2 a3 a4).2 := by
  intro s a1 a2 a3 a4 hp h
  unfold State.bondTake
  try dsimp only
  repeat' first
    | with_reducible assumption
    | ((with_reducible refine so hp ?_); rfl)
    | (with_reducible first
        | refine ite_kept2 ?_ ?_ | refine State.bondDiscard_kept _ _ _ ?_ ?_ | refine State.bondFree_kept _ _ ?_ ?_
        | refine State.upFrame_kept _ _ _ _ ?_ ?_)
    | dsimp only
    | split

theorem State.bondLoop_kept {m : Nat} {org : State} :
    ∀ s a1 a2 a3 a4, Sub 272437542 m → Kept m org s → Kept m org (State.bondLoop s a1 a2 a3 a4).2 := by
  intro s a1 a2 a3 a4 hp h
  induction a4 generalizing s a1 a2 a3 with
  | zero =>
    unfold State.bondLoop
    try dsimp only
    repeat' first
      | with_reducible assumption
      | ((with_reducible refine so hp ?_); rfl)
      | (with_reducible first
          | refine ite_kept ?_ ?_ | refine ite_kept2 ?_ ?_ | refine State.bondTake_kept _ _ _ _ _ ?_ ?_
          | refine State.bump_kept _ _ _ _ ?_ ?_ | refine State.bondDiscard_kept _ _ _ ?_ ?_)
      | split
  | succ k ih =>
    unfold State.bondLoop
    try dsimp only
    repeat' first
      | with_reducible assumption
      | ((with_reducible refine so hp ?_); rfl)
      | (with_reducible first
          | refine ite_kept ?_ ?_ | refine ite_kept2 ?_ ?_ | apply ih | refine State.bondTake_kept _ _ _ _ _ ?_ ?_
          | refine State.bump_kept _ _ _ _ ?_ ?_ | refine State.bondDiscard_kept _ _ _ ?_ ?_)
      | split

theorem State.bondRun_kept {m : Nat} {org : State} :
    ∀ s a1 a2 a3, Sub 272437542 m → Kept m org s → Kept m org (State.bondRun s a1 a2 a3) := by
  intro s a1 a2 a3 hp h
  unfold State.bondRun
  try dsimp only
  repeat' first
    | with_reducible assumption
    | ((with_reducible refine so hp ?_); rfl)
    | (with_reducible first
        | refine State.bondLoop_kept _ _ _ _ _ ?_ ?_ | refine State.setBondRx_kept _ _ _ ?_ ?_)

theorem State.bondFragment_kept {m : Nat} {org : State} :
    ∀ s a1 a2 a3 a4 a5 a6, Sub 272437542 m → Kept m org s → Kept m org (State.bondFragment s a1 a2 a3 a4 a5 a6) := by
  intro s a1 a2 a3 a4 a5 a6 hp h
  unfold State.bondFragment
  try dsimp only
  repeat' first
    | with_reducible assumption
    | ((with_reducible refine so hp ?_); rfl)
    | (with_reducible first
        | refine ite_kept ?_ ?_ | refine State.bump_kept _ _ _ _ ?_ ?_ | refine State.bondRun_kept _ _ _ _ ?_ ?_
        | refine State.bondTake_kept _ _ _ _ _ ?_ ?_ | refine State.store_kept _ _ _ _ _ _ ?_ ?_
        | refine snd_kept (by with_reducible assumption) ?_)
    | split

theorem State.bondReset_kept {m : Nat} {org : State} :
    ∀ s a1, Sub 1052966 m → Kept m org s → Kept m org (State.bondReset s a1) := by
  intro s a1 hp h
  unfold State.bondReset
  try dsimp only
  repeat' first
    | with_reducible assumption
    | ((with_reducible refine so hp ?_); rfl)
    | (with_reducible first
        | refine State.setBondRx_kept _ _ _ ?_ ?_ | refine State.bondFree_kept _ _ ?_ ?_)
    | split

theorem State.keyDiscard_kept {m : Nat} {org : State} :
    ∀ s a1, Sub 6 m → Kept m org s → Kept m org (State.keyDiscard s a1) := by
  intro s a1 hp h
  unfold State.keyDiscard
  try dsimp only
  repeat' first
    | with_reducible assumption
    | ((with_reducible refine so hp ?_); rfl)
    | (with_reducible first
        | refine State.setBit_kept _ _ _ _ ?_ ?_ | refine State.bump_kept _ _ _ _ ?_ ?_)

theorem State.upDeliver_kept {m : Nat} {org : State} :
    ∀ s a1 a2 a3 a4 a5, Sub 272437542 m → Kept m org s → Kept m org (State.upDeliver s a1 a2 a3 a4 a5).2 := by
  intro s a1 a2 a3 a4 a5 hp h
  unfold State.upDeliver
  try dsimp only
  repeat' first
    | with_reducible assumption
    | ((with_reducible refine so hp ?_); rfl)
    | (with_reducible first
        | refine ite_kept ?_ ?_ | refine ite_kept2 ?_ ?_ | refine State.count_kept _ _ _ _ ?_ ?_
        | refine State.keyDiscard_kept _ _ ?_ ?_ | refine State.raise_kept _ _ _ _ _ ?_ ?_
        | refine State.bump_kept _ _ _ _ ?_ ?_ | refine State.raiseRefusal_kept _ _ _ _ _ ?_ ?_
        | refine State.setBit_kept _ _ _ _ ?_ ?_ | refine State.upFrame_kept _ _ _ _ ?_ ?_
        | refine State.bondFragment_kept _ _ _ _ _ _ _ ?_ ?_)
    | split

theorem State.partialDrop_kept {m : Nat} {org : State} :
    ∀ s a1 a2, Sub 16777218 m → Kept m org s → Kept m org (State.partialDrop s a1 a2) := by
  intro s a1 a2 hp h
  unfold State.partialDrop
  try dsimp only
  repeat' first
    | with_reducible assumption
    | ((with_reducible refine so hp ?_); rfl)
    | (with_reducible first
        | refine ite_kept ?_ ?_ | refine State.bump_kept _ _ _ _ ?_ ?_ | refine State.setDem_kept _ _ _ ?_ ?_)

theorem State.delineate_kept {m : Nat} {org : State} :
    ∀ s a1 a2 a3 a4 a5 a6, Sub 289214758 m → Kept m org s → Kept m org (State.delineate s a1 a2 a3 a4 a5 a6).2 := by
  intro s a1 a2 a3 a4 a5 a6 hp h
  unfold State.delineate
  try dsimp only
  repeat' first
    | with_reducible assumption
    | ((with_reducible refine so hp ?_); rfl)
    | (with_reducible first
        | refine ite_kept ?_ ?_ | refine foldl_kept2 _ _ ?_ ?_ | refine State.setDem_kept _ _ _ ?_ ?_
        | refine State.partialDrop_kept _ _ _ ?_ ?_ | refine State.upDeliver_kept _ _ _ _ _ _ ?_ ?_
        | refine State.bump_kept _ _ _ _ ?_ ?_)
    | dsimp only
    | split
    | intro _

theorem State.reportLost_kept {m : Nat} {org : State} :
    ∀ s a1 a2, Sub 16777218 m → Kept m org s → Kept m org (State.reportLost s a1 a2) := by
  intro s a1 a2 hp h
  unfold State.reportLost
  try dsimp only
  repeat' first
    | with_reducible assumption
    | ((with_reducible refine so hp ?_); rfl)
    | (with_reducible first
        | refine State.bump_kept _ _ _ _ ?_ ?_ | refine State.setDem_kept _ _ _ ?_ ?_)

theorem State.reportDelivered_kept {m : Nat} {org : State} :
    ∀ s a1 a2 a3 a4, Sub 16777216 m → Kept m org s → Kept m org (State.reportDelivered s a1 a2 a3 a4) := by
  intro s a1 a2 a3 a4 hp h
  unfold State.reportDelivered
  try dsimp only
  repeat' first
    | (with_reducible first
        | assumption | refine ite_kept ?_ ?_ | refine State.setDem_kept _ _ _ ?_ ?_)

theorem State.measured_kept {m : Nat} {org : State} :
    ∀ s a1 a2 a3 a4, Sub 16777216 m → Kept m org s → Kept m org (State.measured s a1 a2 a3 a4) := by
  intro s a1 a2 a3 a4 hp h
  unfold State.measured
  try dsimp only
  repeat' first
    | (with_reducible first
        | assumption | refine State.setDem_kept _ _ _ ?_ ?_)

theorem State.goodGrant_kept {m : Nat} {org : State} :
    ∀ s a1 a2 a3 a4 a5 a6 a7, Sub 289214758 m → Kept m org s → Kept m org (State.goodGrant s a1 a2 a3 a4 a5 a6 a7).2 := by
  intro s a1 a2 a3 a4 a5 a6 a7 hp h
  unfold State.goodGrant
  try dsimp only
  repeat' first
    | with_reducible assumption
    | ((with_reducible refine so hp ?_); rfl)
    | (with_reducible first
        | refine ite_kept ?_ ?_ | refine ite_kept2 ?_ ?_ | refine State.reportDelivered_kept _ _ _ _ _ ?_ ?_
        | refine State.reportLost_kept _ _ _ ?_ ?_ | refine State.measured_kept _ _ _ _ _ ?_ ?_
        | refine State.delineate_kept _ _ _ _ _ _ _ ?_ ?_)
    | split

theorem State.lostGrant_kept {m : Nat} {org : State} :
    ∀ s a1 a2, Sub 16777218 m → Kept m org s → Kept m org (State.lostGrant s a1 a2) := by
  intro s a1 a2 hp h
  unfold State.lostGrant
  try dsimp only
  repeat' first
    | (with_reducible first
        | assumption | refine ite_kept ?_ ?_ | refine State.reportLost_kept _ _ _ ?_ ?_
        | refine State.partialDrop_kept _ _ _ ?_ ?_)

theorem State.brstPulse_kept {m : Nat} {org : State} :
    ∀ s a1 a2, Sub 536875302 m → Kept m org s → Kept m org (State.brstPulse s a1 a2) := by
  intro s a1 a2 hp h
  unfold State.brstPulse
  try dsimp only
  repeat' first
    | with_reducible assumption
    | ((with_reducible refine so hp ?_); rfl)
    | (with_reducible first
        | refine ite_kept ?_ ?_ | refine State.emit_kept _ _ ?_ ?_ | refine State.count_kept _ _ _ _ ?_ ?_
        | refine State.setBit_kept _ _ _ _ ?_ ?_ | refine State.bumpReg_kept _ _ _ ?_ ?_)
    | split

theorem State.burstLead_kept {m : Nat} {org : State} :
    ∀ s a1 a2 a3 a4, Sub 536883494 m → Kept m org s → Kept m org (State.burstLead s a1 a2 a3 a4) := by
  intro s a1 a2 a3 a4 hp h
  unfold State.burstLead
  try dsimp only
  repeat' first
    | with_reducible assumption
    | ((with_reducible refine so hp ?_); rfl)
    | (with_reducible first
        | refine ite_kept ?_ ?_ | refine State.count_kept _ _ _ _ ?_ ?_ | refine State.setBit_kept _ _ _ _ ?_ ?_
        | refine State.bumpReg_kept _ _ _ ?_ ?_ | refine State.setLane_kept _ _ _ ?_ ?_
        | refine State.brstPulse_kept _ _ _ ?_ ?_)

theorem State.absent_kept {m : Nat} {org : State} :
    ∀ s a1 a2 a3, Sub 2101542 m → Kept m org s → Kept m org (State.absent s a1 a2 a3) := by
  intro s a1 a2 a3 hp h
  unfold State.absent
  try dsimp only
  repeat' first
    | with_reducible assumption
    | ((with_reducible refine so hp ?_); rfl)
    | (with_reducible first
        | refine ite_kept ?_ ?_ | refine State.count_kept _ _ _ _ ?_ ?_ | refine State.bump_kept _ _ _ _ ?_ ?_
        | refine State.setSd_kept _ _ _ _ ?_ ?_)
    | split

theorem State.fecBurst_kept {m : Nat} {org : State} :
    ∀ s a1 a2 a3, Sub 135462 m → Kept m org s → Kept m org (State.fecBurst s a1 a2 a3) := by
  intro s a1 a2 a3 hp h
  unfold State.fecBurst
  try dsimp only
  repeat' first
    | with_reducible assumption
    | ((with_reducible refine so hp ?_); rfl)
    | (with_reducible first
        | refine ite_kept ?_ ?_ | refine State.lineAdd_kept _ _ _ _ ?_ ?_ | refine State.bump_kept _ _ _ _ ?_ ?_
        | refine State.count_kept _ _ _ _ ?_ ?_ | refine State.setBit_kept _ _ _ _ ?_ ?_)

theorem State.foundBurst_kept {m : Nat} {org : State} :
    ∀ s a1 a2 a3 a4, Sub 2129922 m → Kept m org s → Kept m org (State.foundBurst s a1 a2 a3 a4) := by
  intro s a1 a2 a3 a4 hp h
  unfold State.foundBurst
  try dsimp only
  repeat' first
    | with_reducible assumption
    | ((with_reducible refine so hp ?_); rfl)
    | (with_reducible first
        | refine ite_kept ?_ ?_ | refine State.puti_kept _ _ _ _ ?_ ?_ | refine State.put_kept _ _ _ _ ?_ ?_
        | refine State.eqCount_kept _ _ _ _ _ ?_ ?_ | refine State.setSd_kept _ _ _ _ ?_ ?_)
    | split

theorem State.driftReport_kept {m : Nat} {org : State} :
    ∀ s a1 a2 a3 a4 a5, Sub 6369574 m → Kept m org s → Kept m org (State.driftReport s a1 a2 a3 a4 a5) := by
  intro s a1 a2 a3 a4 a5 hp h
  unfold State.driftReport
  try dsimp only
  repeat' first
    | (with_reducible first
        | assumption | refine ite_kept ?_ ?_ | refine State.driftCorrection_kept _ _ _ _ _ ?_ ?_)
    | split

theorem State.goodBurst_kept {m : Nat} {org : State} :
    ∀ s a1 a2 a3 a4 a5, Sub 2232614 m → Kept m org s → Kept m org (State.goodBurst s a1 a2 a3 a4 a5) := by
  intro s a1 a2 a3 a4 a5 hp h
  unfold State.goodBurst
  try dsimp only
  repeat' first
    | with_reducible assumption
    | ((with_reducible refine so hp ?_); rfl)
    | (with_reducible first
        | refine State.lineAdd_kept _ _ _ _ ?_ ?_ | refine State.count_kept _ _ _ _ ?_ ?_
        | refine State.bump_kept _ _ _ _ ?_ ?_ | refine State.putReg_kept _ _ _ ?_ ?_
        | refine State.setSd_kept _ _ _ _ ?_ ?_ | refine State.setTerm_kept _ _ _ ?_ ?_)
    | split

theorem State.noteBright_kept {m : Nat} {org : State} :
    ∀ s a1 a2, Sub 1024 m → Kept m org s → Kept m org (State.noteBright s a1 a2) := by
  intro s a1 a2 hp h
  unfold State.noteBright
  try dsimp only
  repeat' first
    | (with_reducible first
        | assumption | refine ite_kept ?_ ?_)
    | ((with_reducible refine mk_kept ?_ ?_ ?_ ?_ ?_ ?_ ?_ ?_ ?_ ?_ ?_ ?_ ?_ ?_ ?_ ?_ ?_ ?_ ?_ ?_ ?_ ?_ ?_ ?_ ?_ ?_ ?_) <;> try (intro hq; first | exact (hit hp rfl hq).elim | with_reducible rfl))

theorem State.upPloam_kept {m : Nat} {org : State} :
    ∀ s a1 a2 a3, Sub 2097154 m → Kept m org s → Kept m org (State.upPloam s a1 a2 a3) := by
  intro s a1 a2 a3 hp h
  unfold State.upPloam
  try dsimp only
  repeat' first
    | with_reducible assumption
    | ((with_reducible refine so hp ?_); rfl)
    | (with_reducible first
        | refine ite_kept ?_ ?_ | refine State.bump_kept _ _ _ _ ?_ ?_ | refine State.setSd_kept _ _ _ _ ?_ ?_)
    | split

theorem State.goodGrants_kept {m : Nat} {org : State} :
    ∀ s a1 a2 a3 a4 a5 a6, Sub 289214758 m → Kept m org s → Kept m org (State.goodGrants s a1 a2 a3 a4 a5 a6).2 := by
  intro s a1 a2 a3 a4 a5 a6 hp h
  unfold State.goodGrants
  try dsimp only
  repeat' first
    | (with_reducible first
        | assumption | refine foldl_kept2 _ _ ?_ ?_ | refine State.goodGrant_kept _ _ _ _ _ _ _ _ ?_ ?_)
    | dsimp only
    | intro _

theorem State.burst_kept {m : Nat} {org : State} :
    ∀ s a1 a2 a3 a4 a5, Sub 830453030 m → Kept m org s → Kept m org (State.burst s a1 a2 a3 a4 a5).2 := by
  intro s a1 a2 a3 a4 a5 hp h
  unfold State.burst
  try dsimp only
  repeat' first
    | with_reducible assumption
    | ((with_reducible refine so hp ?_); rfl)
    | (with_reducible first
        | refine ite_kept ?_ ?_ | refine ite_kept2 ?_ ?_ | refine foldl_kept _ _ ?_ ?_
        | refine State.burstLead_kept _ _ _ _ _ ?_ ?_ | refine State.setBit_kept _ _ _ _ ?_ ?_
        | refine State.bump_kept _ _ _ _ ?_ ?_ | refine State.lostGrant_kept _ _ _ ?_ ?_
        | refine State.absent_kept _ _ _ _ ?_ ?_ | refine State.foundBurst_kept _ _ _ _ _ ?_ ?_
        | refine State.fecBurst_kept _ _ _ _ ?_ ?_ | refine State.bumpReg_kept _ _ _ ?_ ?_
        | refine State.driftReport_kept _ _ _ _ _ _ ?_ ?_ | refine State.raiseRefusal_kept _ _ _ _ _ ?_ ?_
        | refine State.noteBright_kept _ _ _ ?_ ?_ | refine State.goodBurst_kept _ _ _ _ _ _ ?_ ?_
        | refine State.upPloam_kept _ _ _ _ ?_ ?_ | refine State.goodGrants_kept _ _ _ _ _ _ _ ?_ ?_)
    | split
    | intro _

theorem State.account_kept {m : Nat} {org : State} :
    ∀ s a1 a2, Sub 4390 m → Kept m org s → Kept m org (State.account s a1 a2) := by
  intro s a1 a2 hp h
  unfold State.account
  try dsimp only
  repeat' first
    | with_reducible assumption
    | ((with_reducible refine so hp ?_); rfl)
    | (with_reducible first
        | refine ite_kept ?_ ?_ | refine State.bump_kept _ _ _ _ ?_ ?_ | refine State.count_kept _ _ _ _ ?_ ?_)

theorem State.withFlight_kept {m : Nat} {org : State} :
    ∀ s a1 a2 a3, Sub 16777216 m → Kept m org s → Kept m org (State.withFlight s a1 a2 a3) := by
  intro s a1 a2 a3 hp h
  unfold State.withFlight
  try dsimp only
  repeat' first
    | (with_reducible first
        | assumption | refine State.setGch_kept _ _ _ ?_ ?_)

theorem State.stray_kept {m : Nat} {org : State} :
    ∀ s a1 a2 a3 a4, Sub 18874374 m → Kept m org s → Kept m org (State.stray s a1 a2 a3 a4) := by
  intro s a1 a2 a3 a4 hp h
  unfold State.stray
  try dsimp only
  repeat' first
    | with_reducible assumption
    | ((with_reducible refine so hp ?_); rfl)
    | (with_reducible first
        | refine State.setSd_kept _ _ _ _ ?_ ?_ | refine State.bump_kept _ _ _ _ ?_ ?_
        | refine State.setBit_kept _ _ _ _ ?_ ?_ | refine State.withFlight_kept _ _ _ _ ?_ ?_)
    | split

theorem State.litFrame_kept {m : Nat} {org : State} :
    ∀ s a1 a2, Sub 16781606 m → Kept m org s → Kept m org (State.litFrame s a1 a2) := by
  intro s a1 a2 hp h
  unfold State.litFrame
  try dsimp only
  repeat' first
    | with_reducible assumption
    | ((with_reducible refine so hp ?_); rfl)
    | (with_reducible first
        | refine ite_kept ?_ ?_ | refine State.count_kept _ _ _ _ ?_ ?_ | refine State.bump_kept _ _ _ _ ?_ ?_
        | refine State.setBit_kept _ _ _ _ ?_ ?_ | refine State.withFlight_kept _ _ _ _ ?_ ?_)

theorem State.lightGap_kept {m : Nat} {org : State} :
    ∀ s a1 a2 a3 a4, Sub 23073062 m → Kept m org s → Kept m org (State.lightGap s a1 a2 a3 a4) := by
  intro s a1 a2 a3 a4 hp h
  unfold State.lightGap
  try dsimp only
  repeat' first
    | with_reducible assumption
    | ((with_reducible refine so hp ?_); rfl)
    | (with_reducible first
        | refine ite_kept ?_ ?_ | refine State.lightSeen_kept _ _ ?_ ?_ | refine State.litFrame_kept _ _ _ ?_ ?_
        | refine State.stray_kept _ _ _ _ _ ?_ ?_)
    | split

theorem State.lightRuns_kept {m : Nat} {org : State} :
    ∀ s a1 a2, Sub 6291456 m → Kept m org s → Kept m org (State.lightRuns s a1 a2) := by
  intro s a1 a2 hp h
  unfold State.lightRuns
  try dsimp only
  repeat' first
    | with_reducible assumption
    | ((with_reducible refine so hp ?_); rfl)
    | (with_reducible first
        | refine foldl_kept _ _ ?_ ?_ | refine State.setAct_kept _ _ _ ?_ ?_ | refine State.setSd_kept _ _ _ _ ?_ ?_)
    | split
    | intro _

theorem execBurstReceived_kept {m : Nat} {org : State} :
    ∀ a0 a1 a2 a3 a4 s, Sub 830453030 m → Kept m org s → KeptOut m org (execBurstReceived a0 a1 a2 a3 a4 s) := by
  intro a0 a1 a2 a3 a4 s hp h
  unfold execBurstReceived
  try dsimp only
  repeat' first
    | with_reducible assumption
    | ((with_reducible refine so hp ?_); rfl)
    | (with_reducible first
        | refine ite_keptOut ?_ ?_ | refine next_kept ?_ | refine State.burst_kept _ _ _ _ _ _ ?_ ?_
        | refine State.withFlight_kept _ _ _ _ ?_ ?_)
    | split

theorem execBondingTimeout_kept {m : Nat} {org : State} :
    ∀ a0 a1 s, Sub 272437542 m → Kept m org s → KeptOut m org (execBondingTimeout a0 a1 s) := by
  intro a0 a1 s hp h
  unfold execBondingTimeout
  try dsimp only
  repeat' first
    | (with_reducible first
        | assumption | refine next_kept ?_ | refine State.bondRun_kept _ _ _ _ ?_ ?_)
    | split

theorem execBondingResync_kept {m : Nat} {org : State} :
    ∀ a0 s, Sub 1052966 m → Kept m org s → KeptOut m org (execBondingResync a0 s) := by
  intro a0 s hp h
  unfold execBondingResync
  try dsimp only
  repeat' first
    | (with_reducible first
        | assumption | refine ite_keptOut ?_ ?_ | refine next_kept ?_ | refine State.bondReset_kept _ _ ?_ ?_)
    | split

theorem execUpstreamFrameAccounted_kept {m : Nat} {org : State} :
    ∀ a0 s, Sub 830453030 m → Kept m org s → KeptOut m org (execUpstreamFrameAccounted a0 s) := by
  intro a0 s hp h
  unfold execUpstreamFrameAccounted
  try dsimp only
  repeat' first
    | with_reducible assumption
    | ((with_reducible refine so hp ?_); rfl)
    | (with_reducible first
        | refine ite_kept ?_ ?_ | refine ite_keptOut ?_ ?_ | refine next_kept ?_ | refine foldl_kept _ _ ?_ ?_
        | refine State.burst_kept _ _ _ _ _ _ ?_ ?_ | refine State.lightRuns_kept _ _ _ ?_ ?_
        | refine State.account_kept _ _ _ ?_ ?_ | refine State.setGch_kept _ _ _ ?_ ?_)
    | split
    | intro _

theorem execRssiTrigger_kept {m : Nat} {org : State} :
    ∀ a0 a1 s, Sub 536879394 m → Kept m org s → KeptOut m org (execRssiTrigger a0 a1 s) := by
  intro a0 a1 s hp h
  unfold execRssiTrigger
  try dsimp only
  repeat' first
    | with_reducible assumption
    | ((with_reducible refine so hp ?_); rfl)
    | (with_reducible first
        | refine ite_kept ?_ ?_ | refine ite_keptOut ?_ ?_ | refine next_kept ?_
        | refine State.setLane_kept _ _ _ ?_ ?_ | refine State.emit_kept _ _ ?_ ?_
        | refine State.raiseDone_kept _ _ _ _ ?_ ?_)
    | split

theorem execQuietWindowEnd_kept {m : Nat} {org : State} :
    ∀ a0 a1 s, Sub 541077798 m → Kept m org s → KeptOut m org (execQuietWindowEnd a0 a1 s) := by
  intro a0 a1 s hp h
  unfold execQuietWindowEnd
  try dsimp only
  repeat' first
    | with_reducible assumption
    | ((with_reducible refine so hp ?_); rfl)
    | (with_reducible first
        | refine ite_kept ?_ ?_ | refine ite_keptOut ?_ ?_ | refine next_kept ?_
        | refine State.quietNext_kept _ _ ?_ ?_ | refine State.setAct_kept _ _ _ ?_ ?_
        | refine State.windowPast_kept _ _ _ _ ?_ ?_ | refine State.setBit_kept _ _ _ _ ?_ ?_
        | refine State.bumpReg_kept _ _ _ ?_ ?_ | refine State.brstPulse_kept _ _ _ ?_ ?_
        | refine State.setLane_kept _ _ _ ?_ ?_)
    | split

theorem execLightFound_kept {m : Nat} {org : State} :
    ∀ a0 a1 a2 a3 s, Sub 23073062 m → Kept m org s → KeptOut m org (execLightFound a0 a1 a2 a3 s) := by
  intro a0 a1 a2 a3 s hp h
  unfold execLightFound
  try dsimp only
  repeat' first
    | (with_reducible first
        | assumption | refine ite_keptOut ?_ ?_ | refine next_kept ?_ | refine foldl_kept _ _ ?_ ?_
        | refine State.lightGap_kept _ _ _ _ _ ?_ ?_)
    | intro _

end Sys2Proof.Machine
end

