-- ==== Sys2Proof/Laws/Kept/Egress.lean ====
section
/-!
SUPPORT. The operations of Machine/Egress.lean keep soundness and the parts they do not name.
-/

namespace Sys2Proof.Machine

open State

theorem State.headDrop_kept {m : Nat} {org : State} :
    ∀ s a1 a2, Sub 6 m → Kept m org s → KeptOpt m org (State.headDrop s a1 a2) := by
  intro s a1 a2 hp h
  unfold State.headDrop
  try dsimp only
  repeat' first
    | with_reducible assumption
    | ((with_reducible refine so hp ?_); rfl)
    | (with_reducible first
        | refine ite_keptOpt ?_ ?_ | refine some_kept ?_ | exact none_kept | refine State.verdictDrop_kept _ ?_ ?_
        | refine State.portInvalidDrop_kept _ _ ?_ ?_)

theorem State.dropHeads_kept {m : Nat} {org : State} :
    ∀ s a1 a2 a3, Sub 1052966 m → Kept m org s → Kept m org (State.dropHeads s a1 a2 a3) := by
  intro s a1 a2 a3 hp h
  induction a3 generalizing s a1 a2 with
  | zero =>
    unfold State.dropHeads
    try dsimp only
    repeat' first
      | with_reducible assumption
      | ((with_reducible refine so hp ?_); rfl)
      | (with_reducible first
          | refine State.headDrop_kept _ _ _ ?_ ?_ | refine State.releaseFrame_kept _ _ _ ?_ ?_
          | refine State.setQueue_kept _ _ _ ?_ ?_ | refine opt_kept (by with_reducible assumption) ?_)
      | split
  | succ k ih =>
    unfold State.dropHeads
    try dsimp only
    repeat' first
      | with_reducible assumption
      | ((with_reducible refine so hp ?_); rfl)
      | (with_reducible first
          | apply ih | refine State.headDrop_kept _ _ _ ?_ ?_ | refine State.releaseFrame_kept _ _ _ ?_ ?_
          | refine State.setQueue_kept _ _ _ ?_ ?_ | refine opt_kept (by with_reducible assumption) ?_)
      | split

theorem State.holdForKey_kept {m : Nat} {org : State} :
    ∀ s a1 a2, Sub 34668548 m → Kept m org s → Kept m org (State.holdForKey s a1 a2) := by
  intro s a1 a2 hp h
  unfold State.holdForKey
  try dsimp only
  repeat' first
    | with_reducible assumption
    | ((with_reducible refine so hp ?_); rfl)
    | (with_reducible first
        | refine ite_kept ?_ ?_ | refine State.setQueue_kept _ _ _ ?_ ?_ | refine State.exchAsk_kept _ _ ?_ ?_
        | refine State.bumpReg_kept _ _ _ ?_ ?_ | refine State.setBit_kept _ _ _ _ ?_ ?_)
    | split

theorem State.headWork_kept {m : Nat} {org : State} :
    ∀ s a1, Sub 34672934 m → Kept m org s → Kept m org (State.headWork s a1) := by
  intro s a1 hp h
  unfold State.headWork
  try dsimp only
  repeat' first
    | with_reducible assumption
    | ((with_reducible refine so hp ?_); rfl)
    | (with_reducible first
        | refine foldl_kept _ _ ?_ ?_ | refine State.holdForKey_kept _ _ _ ?_ ?_
        | refine State.dropHeads_kept _ _ _ _ ?_ ?_)
    | intro _

theorem State.restDone_kept {m : Nat} {org : State} :
    ∀ s a1 a2, Sub 33619970 m → Kept m org s → Kept m org (State.restDone s a1 a2) := by
  intro s a1 a2 hp h
  unfold State.restDone
  try dsimp only
  repeat' first
    | with_reducible assumption
    | ((with_reducible refine so hp ?_); rfl)
    | (with_reducible first
        | refine ite_kept ?_ ?_ | refine State.switchNow_kept _ _ ?_ ?_ | refine State.bcastSwitch_kept _ _ ?_ ?_)

theorem State.gemSend_kept {m : Nat} {org : State} :
    ∀ s a1 a2 a3, Sub 571543846 m → Kept m org s → Kept m org (State.gemSend s a1 a2 a3) := by
  intro s a1 a2 a3 hp h
  unfold State.gemSend
  try dsimp only
  repeat' first
    | with_reducible assumption
    | ((with_reducible refine so hp ?_); rfl)
    | (with_reducible first
        | refine ite_kept ?_ ?_ | refine State.count_kept _ _ _ _ ?_ ?_ | refine State.emit_kept _ _ ?_ ?_
        | refine State.setTm_kept _ _ ?_ ?_ | refine State.restDone_kept _ _ _ ?_ ?_)

theorem State.keyLost_kept {m : Nat} {org : State} :
    ∀ s a1, Sub 1048576 m → Kept m org s → Kept m org (State.keyLost s a1) := by
  intro s a1 hp h
  unfold State.keyLost
  try dsimp only
  repeat' first
    | (with_reducible first
        | assumption | refine State.setTm_kept _ _ ?_ ?_)

theorem State.restSend_kept {m : Nat} {org : State} :
    ∀ s a1 a2 a3, Sub 571543846 m → Kept m org s → Kept m org (State.restSend s a1 a2 a3) := by
  intro s a1 a2 a3 hp h
  unfold State.restSend
  try dsimp only
  repeat' first
    | with_reducible assumption
    | ((with_reducible refine so hp ?_); rfl)
    | (with_reducible first
        | refine ite_kept ?_ ?_ | refine State.gemSend_kept _ _ _ _ ?_ ?_ | refine State.restDone_kept _ _ _ ?_ ?_
        | refine State.keyLost_kept _ _ ?_ ?_ | refine State.setTm_kept _ _ ?_ ?_)
    | split

theorem State.setBondWait_kept {m : Nat} {org : State} :
    ∀ s a1 a2, Sub 1048576 m → Kept m org s → Kept m org (State.setBondWait s a1 a2) := by
  intro s a1 a2 hp h
  unfold State.setBondWait
  try dsimp only
  repeat' first
    | (with_reducible first
        | assumption | refine State.setTm_kept _ _ ?_ ?_)

theorem State.bondLose_kept {m : Nat} {org : State} :
    ∀ s a1 a2, Sub 1048576 m → Kept m org s → Kept m org (State.bondLose s a1 a2) := by
  intro s a1 a2 hp h
  unfold State.bondLose
  try dsimp only
  repeat' first
    | (with_reducible first
        | assumption | refine ite_kept ?_ ?_ | refine State.setBondWait_kept _ _ _ ?_ ?_
        | refine State.setTm_kept _ _ ?_ ?_)
    | split

theorem State.soloFrame_kept {m : Nat} {org : State} :
    ∀ s, Sub 1048580 m → Kept m org s → Kept m org (State.soloFrame s) := by
  intro s hp h
  unfold State.soloFrame
  try dsimp only
  repeat' first
    | with_reducible assumption
    | ((with_reducible refine so hp ?_); rfl)
    | (with_reducible first
        | refine foldl_kept _ _ ?_ ?_ | refine State.bondLose_kept _ _ _ ?_ ?_
        | refine State.setBit_kept _ _ _ _ ?_ ?_ | refine State.setTm_kept _ _ ?_ ?_)
    | intro _

theorem State.bondPut_kept {m : Nat} {org : State} :
    ∀ s a1 a2 a3 a4 a5 a6 a7, Sub 1048576 m → Kept m org s → Kept m org (State.bondPut s a1 a2 a3 a4 a5 a6 a7) := by
  intro s a1 a2 a3 a4 a5 a6 a7 hp h
  unfold State.bondPut
  try dsimp only
  repeat' first
    | (with_reducible first
        | assumption | refine State.setTm_kept _ _ ?_ ?_ | refine State.setBondWait_kept _ _ _ ?_ ?_)

theorem State.bondAssign_kept {m : Nat} {org : State} :
    ∀ s a1 a2 a3 a4, Sub 1048576 m → Kept m org s → Kept m org (State.bondAssign s a1 a2 a3 a4) := by
  intro s a1 a2 a3 a4 hp h
  unfold State.bondAssign
  try dsimp only
  repeat' first
    | (with_reducible first
        | assumption | refine ite_kept ?_ ?_ | refine State.bondPut_kept _ _ _ _ _ _ _ _ ?_ ?_)

theorem State.waitHold_kept {m : Nat} {org : State} :
    ∀ s a1, Sub 34668548 m → Kept m org s → Kept m org (State.waitHold s a1) := by
  intro s a1 hp h
  unfold State.waitHold
  try dsimp only
  repeat' first
    | with_reducible assumption
    | ((with_reducible refine so hp ?_); rfl)
    | (with_reducible first
        | refine foldl_kept _ _ ?_ ?_ | refine State.keyLost_kept _ _ ?_ ?_
        | refine State.setBondWait_kept _ _ _ ?_ ?_ | refine State.exchAsk_kept _ _ ?_ ?_
        | refine State.bumpReg_kept _ _ _ ?_ ?_ | refine State.setBit_kept _ _ _ _ ?_ ?_)
    | intro _

theorem State.waitSend_kept {m : Nat} {org : State} :
    ∀ s a1 a2, Sub 571543846 m → Kept m org s → KeptOpt m org (State.waitSend s a1 a2) := by
  intro s a1 a2 hp h
  unfold State.waitSend
  try dsimp only
  repeat' first
    | with_reducible assumption
    | ((with_reducible refine so hp ?_); rfl)
    | (with_reducible first
        | refine ite_keptOpt ?_ ?_ | refine some_kept ?_ | exact none_kept | refine State.gemSend_kept _ _ _ _ ?_ ?_
        | refine State.setBondWait_kept _ _ _ ?_ ?_)
    | split

theorem State.framerEmpty_kept {m : Nat} {org : State} :
    ∀ s a1, Sub 1048576 m → Kept m org s → Kept m org (State.framerEmpty s a1) := by
  intro s a1 hp h
  unfold State.framerEmpty
  try dsimp only
  repeat' first
    | (with_reducible first
        | assumption | refine ite_kept ?_ ?_ | refine State.setTm_kept _ _ ?_ ?_
        | refine State.setBondWait_kept _ _ _ ?_ ?_)

theorem State.settlePath_kept {m : Nat} {org : State} :
    ∀ s a1 a2 a3 a4, Sub 1048576 m → Kept m org s → Kept m org (State.settlePath s a1 a2 a3 a4) := by
  intro s a1 a2 a3 a4 hp h
  unfold State.settlePath
  try dsimp only
  repeat' first
    | (with_reducible first
        | assumption | refine State.settle_kept _ _ _ _ ?_ ?_)
    | split

theorem State.omciPick_kept {m : Nat} {org : State} :
    ∀ s a1 a2 a3 a4 a5, Sub 573640998 m → Kept m org s → Kept m org (State.omciPick s a1 a2 a3 a4 a5) := by
  intro s a1 a2 a3 a4 a5 hp h
  unfold State.omciPick
  try dsimp only
  repeat' first
    | with_reducible assumption
    | ((with_reducible refine so hp ?_); rfl)
    | (with_reducible first
        | refine State.setOmci_kept _ _ _ ?_ ?_ | refine State.chargePath_kept _ _ _ _ ?_ ?_
        | refine State.count_kept _ _ _ _ ?_ ?_ | refine State.raiseDone_kept _ _ _ _ ?_ ?_
        | refine State.settlePath_kept _ _ _ _ _ ?_ ?_ | refine State.noteEmpty_kept _ _ ?_ ?_
        | refine State.gemSend_kept _ _ _ _ ?_ ?_)
    | split

theorem State.framePick_kept {m : Nat} {org : State} :
    ∀ s a1 a2 a3 a4 a5 a6, Sub 573640998 m → Kept m org s → Kept m org (State.framePick s a1 a2 a3 a4 a5 a6) := by
  intro s a1 a2 a3 a4 a5 a6 hp h
  unfold State.framePick
  try dsimp only
  repeat' first
    | with_reducible assumption
    | ((with_reducible refine so hp ?_); rfl)
    | (with_reducible first
        | refine ite_kept ?_ ?_ | refine getD_kept ?_ ?_ | refine State.releaseFrame_kept _ _ _ ?_ ?_
        | refine State.setQueue_kept _ _ _ ?_ ?_ | refine State.chargePath_kept _ _ _ _ ?_ ?_
        | refine State.count_kept _ _ _ _ ?_ ?_ | refine State.noteEmpty_kept _ _ ?_ ?_
        | refine State.settlePath_kept _ _ _ _ _ ?_ ?_ | refine State.bondAssign_kept _ _ _ _ _ ?_ ?_
        | refine State.waitSend_kept _ _ _ ?_ ?_ | refine State.gemSend_kept _ _ _ _ ?_ ?_
        | refine State.keyLost_kept _ _ ?_ ?_ | refine State.setBondWait_kept _ _ _ ?_ ?_)
    | split

theorem State.framerRequest_kept {m : Nat} {org : State} :
    ∀ s a1 a2, Sub 573640998 m → Kept m org s → Kept m org (State.framerRequest s a1 a2) := by
  intro s a1 a2 hp h
  unfold State.framerRequest
  try dsimp only
  repeat' first
    | with_reducible assumption
    | ((with_reducible refine so hp ?_); rfl)
    | (with_reducible first
        | refine ite_kept ?_ ?_ | refine State.select_kept _ _ _ (_, _) ?_ ?_ (by with_reducible assumption)
        | refine State.restSend_kept _ _ _ _ ?_ ?_ | refine State.waitHold_kept _ _ ?_ ?_
        | refine State.waitSend_kept _ _ _ ?_ ?_ | refine State.settleIdle_kept _ ?_ ?_
        | refine State.headWork_kept _ _ ?_ ?_ | refine State.omciPick_kept _ _ _ _ _ _ ?_ ?_
        | refine State.framePick_kept _ _ _ _ _ _ _ ?_ ?_ | refine opt_kept (by with_reducible assumption) ?_)
    | split

theorem execFramerRequest_kept {m : Nat} {org : State} :
    ∀ a0 a1 s, Sub 573640998 m → Kept m org s → KeptOut m org (execFramerRequest a0 a1 s) := by
  intro a0 a1 s hp h
  unfold execFramerRequest
  try dsimp only
  repeat' first
    | (with_reducible first
        | assumption | refine next_kept ?_ | refine State.framerRequest_kept _ _ _ ?_ ?_)

theorem execKeyHeldDiscard_kept {m : Nat} {org : State} :
    ∀ a0 s, Sub 34672934 m → Kept m org s → KeptOut m org (execKeyHeldDiscard a0 s) := by
  intro a0 s hp h
  unfold execKeyHeldDiscard
  try dsimp only
  repeat' first
    | with_reducible assumption
    | ((with_reducible refine so hp ?_); rfl)
    | (with_reducible first
        | refine ite_keptOut ?_ ?_ | refine next_kept ?_ | refine State.keyLost_kept _ _ ?_ ?_
        | refine State.releaseFrame_kept _ _ _ ?_ ?_ | refine State.setQueue_kept _ _ _ ?_ ?_
        | refine State.holdForKey_kept _ _ _ ?_ ?_)
    | split

end Sys2Proof.Machine
end

