-- ==== Sys2Proof/Laws/Kept/Phase.lean ====
section
/-!
SUPPORT. The operations of Machine/Phase.lean keep soundness and the parts they do not name.
-/

namespace Sys2Proof.Machine

open State

theorem State.frontStarved_kept {m : Nat} {org : State} :
    ∀ s a1 a2, Sub 1052966 m → Kept m org s → Kept m org (State.frontStarved s a1 a2) := by
  intro s a1 a2 hp h
  unfold State.frontStarved
  try dsimp only
  repeat' first
    | with_reducible assumption
    | ((with_reducible refine so hp ?_); rfl)
    | (with_reducible first
        | refine State.setTm_kept _ _ ?_ ?_ | refine State.count_kept _ _ _ _ ?_ ?_
        | refine State.bump_kept _ _ _ _ ?_ ?_)

theorem State.countTime_kept {m : Nat} {org : State} :
    ∀ s a1, Sub 1052966 m → Kept m org s → Kept m org (State.countTime s a1) := by
  intro s a1 hp h
  unfold State.countTime
  try dsimp only
  repeat' first
    | with_reducible assumption
    | ((with_reducible refine so hp ?_); rfl)
    | (with_reducible first
        | refine ite_kept ?_ ?_ | refine foldl_kept _ _ ?_ ?_ | refine State.count_kept _ _ _ _ ?_ ?_
        | refine State.frontStarved_kept _ _ _ ?_ ?_)
    | intro _

theorem State.tick_kept {m : Nat} {org : State} :
    ∀ s, Sub 1052982 m → Kept m org s → Kept m org (State.tick s) := by
  intro s hp h
  unfold State.tick
  try dsimp only
  repeat' first
    | with_reducible assumption
    | ((with_reducible refine so hp ?_); rfl)
    | (with_reducible first
        | refine ite_kept ?_ ?_ | refine State.putWick_kept _ _ ?_ ?_ | refine State.countTime_kept _ _ ?_ ?_
        | refine State.setClk_kept _ _ ?_ ?_ ?_)
    | exact fun _ hc => ⟨hc.1, hc.2⟩

theorem State.runTo_kept {m : Nat} {org : State} : ∀ s a1, Sub 1052982 m → Kept m org s → Kept m org (State.runTo s a1) := by
  intro s a1 hp h
  unfold State.runTo
  extract_lets old d
  exact State.countTime_kept _ _ (so hp rfl) (State.setClk_kept _ _ (so hp rfl) (State.putWick_kept _ _ (so hp rfl) h)
    fun _ hc => ⟨hc.1, hc.2⟩)

theorem State.moveAll_kept {m : Nat} {org : State} : ∀ s a1 a2, Sub 158343184 m → Kept m org s → Kept m org (State.moveAll s a1 a2) := by
  intro s a1 a2 hp h
  exact step_kept h (fun k => ⟨k.1, k.2.1, k.2.2⟩) (by intro p hq; cases p <;> first | exact (hit hp rfl hq).elim | rfl)

theorem State.stepSwitches_kept {m : Nat} {org : State} :
    ∀ s a1 a2 a3 a4, Sub 65536 m → Kept m org s → Kept m org (State.stepSwitches s a1 a2 a3 a4) := by
  intro s a1 a2 a3 a4 hp h
  unfold State.stepSwitches
  try dsimp only
  repeat' first
    | (with_reducible first
        | assumption | refine ite_kept ?_ ?_ | refine foldl_kept _ _ ?_ ?_ | refine State.setFramer_kept _ _ _ ?_ ?_
        | refine State.ploamLan_kept _ _ _ _ _ _ _ ?_ ?_)
    | intro _

theorem State.stepChannel_kept {m : Nat} {org : State} :
    ∀ s a1 a2 a3, Sub 16843046 m → Kept m org s → Kept m org (State.stepChannel s a1 a2 a3) := by
  intro s a1 a2 a3 hp h
  unfold State.stepChannel
  try dsimp only
  repeat' first
    | with_reducible assumption
    | ((with_reducible refine so hp ?_); rfl)
    | (with_reducible first
        | refine ite_kept ?_ ?_ | refine State.raiseChange_kept _ _ _ _ _ _ ?_ ?_
        | refine State.stepSwitches_kept _ _ _ _ _ ?_ ?_ | refine State.quietNext_kept _ _ ?_ ?_
        | refine State.lateOrders_kept _ _ ?_ ?_ | refine State.coverEpoch_kept _ _ _ ?_ ?_)

theorem State.stepMove_kept {m : Nat} {org : State} : ∀ s a1, Sub 695284022 m → Kept m org s → Kept m org (State.stepMove s a1) := by
  intro s a1 hp h
  unfold State.stepMove
  extract_lets old oldFrame s1 d f s2 s3 s4
  have k1 : Kept m org s1 := State.wickMove_kept _ _ (so hp rfl) h
  have k2 : Kept m org s2 := State.moveAll_kept _ _ _ (so hp rfl) (State.setClk_kept _ _ (so hp rfl) k1 fun _ hc => ⟨hc.1, hc.2⟩)
  have k3 : Kept m org s3 := foldl_kept _ _ k2 fun u k hu => State.trigStep_kept _ _ _ (so hp rfl) hu
  have k4 : Kept m org s4 := foldl_kept _ _ k3 fun u k hu => State.stepChannel_kept _ _ _ _ (so hp rfl) hu
  exact State.count_kept _ _ _ _ (so hp rfl) k4

theorem State.stepNow_kept {m : Nat} {org : State} :
    ∀ s, Sub 695284022 m → Kept m org s → Kept m org (State.stepNow s) := by
  intro s hp h
  unfold State.stepNow
  try dsimp only
  repeat' first
    | with_reducible assumption
    | ((with_reducible refine so hp ?_); rfl)
    | (with_reducible first
        | refine ite_kept ?_ ?_ | refine State.stepMove_kept _ _ ?_ ?_ | refine State.setClk_kept _ _ ?_ ?_ ?_)
    | exact fun _ hc => ⟨hc.1, hc.2⟩
    | split

theorem State.toBoundary_kept {m : Nat} {org : State} :
    ∀ s, Sub 695284022 m → Kept m org s → Kept m org (State.toBoundary s) := by
  intro s hp h
  unfold State.toBoundary
  try dsimp only
  repeat' first
    | with_reducible assumption
    | ((with_reducible refine so hp ?_); rfl)
    | (with_reducible first
        | refine State.stepNow_kept _ ?_ ?_ | refine State.runTo_kept _ _ ?_ ?_)

theorem execWickStep_kept {m : Nat} {org : State} :
    ∀ s, Sub 695284022 m → Kept m org s → KeptOut m org (execWickStep s) := by
  intro s hp h
  unfold execWickStep
  try dsimp only
  repeat' first
    | (with_reducible first
        | assumption | refine ite_keptOut ?_ ?_ | refine next_kept ?_ | refine State.toBoundary_kept _ ?_ ?_)

end Sys2Proof.Machine
end

