-- ==== Sys2Proof/Laws/Kept/Passage.lean ====
section
/-!
SUPPORT. The operations of Machine/Passage.lean keep soundness and the parts they do not name.
-/

namespace Sys2Proof.Machine

open State

theorem State.setCasc_kept {m : Nat} {org : State} :
    ∀ s a1, Sub 268435456 m → Kept m org s → Kept m org (State.setCasc s a1) := by
  intro s a1 hp h
  unfold State.setCasc
  try dsimp only
  repeat' first
    | with_reducible assumption
    | ((with_reducible refine mk_kept ?_ ?_ ?_ ?_ ?_ ?_ ?_ ?_ ?_ ?_ ?_ ?_ ?_ ?_ ?_ ?_ ?_ ?_ ?_ ?_ ?_ ?_ ?_ ?_ ?_ ?_ ?_) <;> try (intro hq; first | exact (hit hp rfl hq).elim | with_reducible rfl))

theorem State.putPsg_kept {m : Nat} {org : State} :
    ∀ s a1 a2, Sub 294 m → Kept m org s → Kept m org (State.putPsg s a1 a2) := by
  intro s a1 a2 hp h
  unfold State.putPsg
  try dsimp only
  repeat' first
    | with_reducible assumption
    | ((with_reducible refine so hp ?_); rfl)
    | (with_reducible first
        | refine ite_kept ?_ ?_ | refine State.setBit_kept _ _ _ _ ?_ ?_ | refine State.put_kept _ _ _ _ ?_ ?_
        | refine State.bump_kept _ _ _ _ ?_ ?_ | refine State.raiseChange_kept _ _ _ _ _ _ ?_ ?_)

theorem State.txMap_kept {m : Nat} {org : State} :
    ∀ s a1, Sub 2 m → Kept m org s → Kept m org (State.txMap s a1) := by
  intro s a1 hp h
  unfold State.txMap
  try dsimp only
  repeat' first
    | (with_reducible first
        | assumption | refine State.put_kept _ _ _ _ ?_ ?_)

theorem State.rxOkPut_kept {m : Nat} {org : State} :
    ∀ s a1 a2, Sub 2 m → Kept m org s → Kept m org (State.rxOkPut s a1 a2) := by
  intro s a1 a2 hp h
  unfold State.rxOkPut
  try dsimp only
  repeat' first
    | (with_reducible first
        | assumption | refine State.put_kept _ _ _ _ ?_ ?_)

theorem State.laneLoss_kept {m : Nat} {org : State} :
    ∀ s a1, Sub 131078 m → Kept m org s → Kept m org (State.laneLoss s a1) := by
  intro s a1 hp h
  unfold State.laneLoss
  try dsimp only
  repeat' first
    | with_reducible assumption
    | ((with_reducible refine so hp ?_); rfl)
    | (with_reducible first
        | refine State.rxOkPut_kept _ _ _ ?_ ?_ | refine State.lineAdd_kept _ _ _ _ ?_ ?_
        | refine State.setBit_kept _ _ _ _ ?_ ?_ | refine State.bump_kept _ _ _ _ ?_ ?_)

theorem State.seqCheck_kept {m : Nat} {org : State} :
    ∀ s a1 a2 a3, Sub 268435456 m → Kept m org s → Kept m org (State.seqCheck s a1 a2 a3).2 := by
  intro s a1 a2 a3 hp h
  unfold State.seqCheck
  try dsimp only
  repeat' first
    | (with_reducible first
        | assumption | refine ite_kept2 ?_ ?_ | refine State.setCasc_kept _ _ ?_ ?_)
    | split

theorem State.seqUnmark_kept {m : Nat} {org : State} :
    ∀ s a1 a2 a3, Sub 268435456 m → Kept m org s → Kept m org (State.seqUnmark s a1 a2 a3) := by
  intro s a1 a2 a3 hp h
  unfold State.seqUnmark
  try dsimp only
  repeat' first
    | (with_reducible first
        | assumption | refine State.setCasc_kept _ _ ?_ ?_)

theorem State.seqTake_kept {m : Nat} {org : State} :
    ∀ s a1 a2 a3 a4, Sub 268439846 m → Kept m org s → Kept m org (State.seqTake s a1 a2 a3 a4).2 := by
  intro s a1 a2 a3 a4 hp h
  unfold State.seqTake
  try dsimp only
  repeat' first
    | with_reducible assumption
    | ((with_reducible refine so hp ?_); rfl)
    | (with_reducible first
        | refine State.seqCheck_kept _ _ _ _ ?_ ?_ | refine State.count_kept _ _ _ _ ?_ ?_
        | refine State.bump_kept _ _ _ _ ?_ ?_ | refine State.setBit_kept _ _ _ _ ?_ ?_
        | refine State.raise_kept _ _ _ _ _ ?_ ?_ | refine snd_kept (by with_reducible assumption) ?_)
    | split

theorem State.hear_kept {m : Nat} {org : State} :
    ∀ s a1 a2, Sub 268435458 m → Kept m org s → Kept m org (State.hear s a1 a2) := by
  intro s a1 a2 hp h
  unfold State.hear
  try dsimp only
  repeat' first
    | with_reducible assumption
    | ((with_reducible refine so hp ?_); rfl)
    | (with_reducible first
        | refine State.setCasc_kept _ _ ?_ ?_ | refine State.put_kept _ _ _ _ ?_ ?_)

theorem State.unreach_kept {m : Nat} {org : State} :
    ∀ s a1 a2, Sub 268697890 m → Kept m org s → Kept m org (State.unreach s a1 a2) := by
  intro s a1 a2 hp h
  unfold State.unreach
  try dsimp only
  repeat' first
    | with_reducible assumption
    | ((with_reducible refine so hp ?_); rfl)
    | (with_reducible first
        | refine ite_kept ?_ ?_ | refine State.put_kept _ _ _ _ ?_ ?_ | refine State.setCasc_kept _ _ ?_ ?_
        | refine State.autoFlush_kept _ _ _ _ ?_ ?_ | refine State.raiseChange_kept _ _ _ _ _ _ ?_ ?_)

theorem State.presence_kept {m : Nat} {org : State} :
    ∀ s, Sub 271651110 m → Kept m org s → Kept m org (State.presence s) := by
  intro s hp h
  unfold State.presence
  try dsimp only
  repeat' first
    | with_reducible assumption
    | ((with_reducible refine so hp ?_); rfl)
    | (with_reducible first
        | refine ite_kept ?_ ?_ | refine State.setCasc_kept _ _ ?_ ?_
        | refine State.cascadeFrame_kept _ _ _ _ _ _ _ _ _ ?_ ?_)

theorem State.forwardTransit_kept {m : Nat} {org : State} :
    ∀ s a1 a2 a3 a4, Sub 1052966 m → Kept m org s → Kept m org (State.forwardTransit s a1 a2 a3 a4) := by
  intro s a1 a2 a3 a4 hp h
  unfold State.forwardTransit
  try dsimp only
  repeat' first
    | with_reducible assumption
    | ((with_reducible refine so hp ?_); rfl)
    | (with_reducible first
        | refine foldl_kept _ _ ?_ ?_ | refine State.store_kept _ _ _ _ _ _ ?_ ?_
        | refine State.setQueue_kept _ _ _ ?_ ?_ | refine snd_kept (by with_reducible assumption) ?_)
    | split
    | intro _

theorem State.transit_kept {m : Nat} {org : State} :
    ∀ s a1 a2 a3, Sub 1052966 m → Kept m org s → Kept m org (State.transit s a1 a2 a3) := by
  intro s a1 a2 a3 hp h
  unfold State.transit
  try dsimp only
  repeat' first
    | with_reducible assumption
    | ((with_reducible refine so hp ?_); rfl)
    | (with_reducible first
        | refine ite_kept ?_ ?_ | refine State.setBit_kept _ _ _ _ ?_ ?_ | refine State.bump_kept _ _ _ _ ?_ ?_
        | refine State.forwardTransit_kept _ _ _ _ _ ?_ ?_)
    | split

theorem State.deliver_kept {m : Nat} {org : State} :
    ∀ s a1 a2 a3 a4, Sub 272437542 m → Kept m org s → Kept m org (State.deliver s a1 a2 a3 a4) := by
  intro s a1 a2 a3 a4 hp h
  unfold State.deliver
  try dsimp only
  repeat' first
    | (with_reducible first
        | assumption | refine ite_kept ?_ ?_ | refine State.pipeline_kept _ _ ?_ ?_)
    | split

theorem State.crcFail_kept {m : Nat} {org : State} :
    ∀ s a1, Sub 131078 m → Kept m org s → Kept m org (State.crcFail s a1) := by
  intro s a1 hp h
  unfold State.crcFail
  try dsimp only
  repeat' first
    | with_reducible assumption
    | ((with_reducible refine so hp ?_); rfl)
    | (with_reducible first
        | refine State.lineAdd_kept _ _ _ _ ?_ ?_ | refine State.setBit_kept _ _ _ _ ?_ ?_
        | refine State.bump_kept _ _ _ _ ?_ ?_)

theorem State.psgVerdict_kept {m : Nat} {org : State} :
    ∀ s a1 a2, Sub 33689894 m → Kept m org s → Kept m org (State.psgVerdict s a1 a2).2 := by
  intro s a1 a2 hp h
  unfold State.psgVerdict
  try dsimp only
  repeat' first
    | with_reducible assumption
    | ((with_reducible refine so hp ?_); rfl)
    | (with_reducible first
        | refine ite_kept2 ?_ ?_ | refine State.bump_kept _ _ _ _ ?_ ?_ | refine State.macsecRx_kept _ _ _ _ ?_ ?_
        | refine State.crcFail_kept _ _ ?_ ?_ | refine snd_kept (by with_reducible assumption) ?_)
    | split

theorem State.psgFrame_kept {m : Nat} {org : State} :
    ∀ s a1 a2 a3, Sub 306123046 m → Kept m org s → Kept m org (State.psgFrame s a1 a2 a3) := by
  intro s a1 a2 a3 hp h
  unfold State.psgFrame
  try dsimp only
  repeat' first
    | with_reducible assumption
    | ((with_reducible refine so hp ?_); rfl)
    | (with_reducible first
        | refine ite_kept ?_ ?_ | refine State.hear_kept _ _ _ ?_ ?_ | refine State.seqTake_kept _ _ _ _ _ ?_ ?_
        | refine State.psgVerdict_kept _ _ _ ?_ ?_ | refine State.verdictDrop_kept _ ?_ ?_
        | refine State.seqUnmark_kept _ _ _ _ ?_ ?_ | refine State.transit_kept _ _ _ _ ?_ ?_
        | refine State.deliver_kept _ _ _ _ _ ?_ ?_ | refine snd_kept (by with_reducible assumption) ?_)
    | split

theorem State.missed_kept {m : Nat} {org : State} :
    ∀ s a1 a2 a3, Sub 4 m → Kept m org s → Kept m org (State.missed s a1 a2 a3) := by
  intro s a1 a2 a3 hp h
  unfold State.missed
  try dsimp only
  repeat' first
    | (with_reducible first
        | assumption | refine State.putReg_kept _ _ _ ?_ ?_)

theorem State.laneCounts_kept {m : Nat} {org : State} :
    ∀ s a1 a2, Sub 131078 m → Kept m org s → Kept m org (State.laneCounts s a1 a2) := by
  intro s a1 a2 hp h
  unfold State.laneCounts
  try dsimp only
  repeat' first
    | with_reducible assumption
    | ((with_reducible refine so hp ?_); rfl)
    | (with_reducible first
        | refine foldl_kept _ _ ?_ ?_ | refine State.lineAdd_kept _ _ _ _ ?_ ?_
        | refine State.bump_kept _ _ _ _ ?_ ?_ | refine State.missed_kept _ _ _ _ ?_ ?_)
    | split
    | intro _

theorem State.announced_kept {m : Nat} {org : State} :
    ∀ s, Sub 1073741824 m → Kept m org s → Kept m org (State.announced s).2.2 := by
  intro s hp h
  unfold State.announced
  try dsimp only
  repeat' first
    | (with_reducible first
        | assumption | refine State.draw_kept _ ?_ ?_)
    | split

theorem State.timeSend_kept {m : Nat} {org : State} :
    ∀ s a1 a2 a3 a4, Sub 1610612736 m → Kept m org s → Kept m org (State.timeSend s a1 a2 a3 a4) := by
  intro s a1 a2 a3 a4 hp h
  unfold State.timeSend
  try dsimp only
  repeat' first
    | with_reducible assumption
    | ((with_reducible refine so hp ?_); rfl)
    | (with_reducible first
        | refine State.announced_kept _ ?_ ?_ | refine State.emit_kept _ _ ?_ ?_)

theorem State.slaveUpdate_kept {m : Nat} {org : State} :
    ∀ s a1, Sub 18 m → Kept m org s → Kept m org (State.slaveUpdate s a1) := by
  intro s a1 hp h
  unfold State.slaveUpdate
  try dsimp only
  repeat' first
    | with_reducible assumption
    | ((with_reducible refine so hp ?_); rfl)
    | (with_reducible first
        | refine ite_kept ?_ ?_ | refine State.putSlave_kept _ _ _ ?_ ?_ | refine State.setClk_kept _ _ ?_ ?_ ?_)
    | exact fun _ hc => ⟨hc.1, hc.2⟩
    | split

theorem State.syncTaken_kept {m : Nat} {org : State} :
    ∀ s a1 a2 a3, Sub 1744831798 m → Kept m org s → Kept m org (State.syncTaken s a1 a2 a3) := by
  intro s a1 a2 a3 hp h
  unfold State.syncTaken
  try dsimp only
  repeat' first
    | with_reducible assumption
    | ((with_reducible refine so hp ?_); rfl)
    | (with_reducible first
        | refine ite_kept ?_ ?_ | refine State.setPsg_kept _ _ _ ?_ ?_ | refine State.slaveUpdate_kept _ _ ?_ ?_
        | refine State.domClassSet_kept _ _ _ ?_ ?_ | refine State.setDom_kept _ _ _ ?_ ?_
        | refine State.timeSend_kept _ _ _ _ _ ?_ ?_)

theorem State.delayTaken_kept {m : Nat} {org : State} :
    ∀ s a1 a2 a3, Sub 306 m → Kept m org s → Kept m org (State.delayTaken s a1 a2 a3) := by
  intro s a1 a2 a3 hp h
  unfold State.delayTaken
  try dsimp only
  repeat' first
    | (with_reducible first
        | assumption | refine ite_kept ?_ ?_ | refine State.domSample_kept _ _ _ _ ?_ ?_)
    | split

theorem State.ingressVerdict_kept {m : Nat} {org : State} :
    ∀ s a1 a2 a3, Sub 268570918 m → Kept m org s → Kept m org (State.ingressVerdict s a1 a2 a3) := by
  intro s a1 a2 a3 hp h
  unfold State.ingressVerdict
  try dsimp only
  repeat' first
    | with_reducible assumption
    | ((with_reducible refine so hp ?_); rfl)
    | (with_reducible first
        | refine ite_kept ?_ ?_ | refine State.bump_kept _ _ _ _ ?_ ?_ | refine State.count_kept _ _ _ _ ?_ ?_
        | refine State.crcFail_kept _ _ ?_ ?_ | refine State.seqUnmark_kept _ _ _ _ ?_ ?_)
    | split

theorem State.cutAbort_kept {m : Nat} {org : State} :
    ∀ s a1 a2, Sub 536870918 m → Kept m org s → Kept m org (State.cutAbort s a1 a2) := by
  intro s a1 a2 hp h
  unfold State.cutAbort
  try dsimp only
  repeat' first
    | with_reducible assumption
    | ((with_reducible refine so hp ?_); rfl)
    | (with_reducible first
        | refine ite_kept ?_ ?_ | refine State.verdictDrop_kept _ ?_ ?_ | refine State.setBit_kept _ _ _ _ ?_ ?_
        | refine State.bump_kept _ _ _ _ ?_ ?_ | refine State.emit_kept _ _ ?_ ?_)

theorem State.psgStart_kept {m : Nat} {org : State} :
    ∀ s a1, Sub 134217730 m → Kept m org s → Kept m org (State.psgStart s a1) := by
  intro s a1 hp h
  unfold State.psgStart
  try dsimp only
  repeat' first
    | with_reducible assumption
    | ((with_reducible refine so hp ?_); rfl)
    | (with_reducible first
        | refine State.put_kept _ _ _ _ ?_ ?_ | refine State.setPsg_kept _ _ _ ?_ ?_)

theorem State.laneDown_kept {m : Nat} {org : State} :
    ∀ s a1, Sub 134217730 m → Kept m org s → Kept m org (State.laneDown s a1) := by
  intro s a1 hp h
  unfold State.laneDown
  try dsimp only
  repeat' first
    | with_reducible assumption
    | ((with_reducible refine so hp ?_); rfl)
    | (with_reducible first
        | refine State.setPsg_kept _ _ _ ?_ ?_ | refine State.txMap_kept _ _ ?_ ?_
        | refine State.rxOkPut_kept _ _ _ ?_ ?_ | refine State.put_kept _ _ _ _ ?_ ?_)

theorem State.psgStop_kept {m : Nat} {org : State} :
    ∀ s a1, Sub 134218022 m → Kept m org s → Kept m org (State.psgStop s a1) := by
  intro s a1 hp h
  unfold State.psgStop
  try dsimp only
  repeat' first
    | with_reducible assumption
    | ((with_reducible refine so hp ?_); rfl)
    | (with_reducible first
        | refine foldl_kept _ _ ?_ ?_ | refine State.laneDown_kept _ _ ?_ ?_ | refine State.put_kept _ _ _ _ ?_ ?_
        | refine State.setPsg_kept _ _ _ ?_ ?_ | refine State.putPsg_kept _ _ _ ?_ ?_)
    | intro _

theorem execVerdictWritten_kept {m : Nat} {org : State} :
    ∀ a0 a1 a2 s, Sub 806490406 m → Kept m org s → KeptOut m org (execVerdictWritten a0 a1 a2 s) := by
  intro a0 a1 a2 s hp h
  unfold execVerdictWritten
  try dsimp only
  repeat' first
    | with_reducible assumption
    | ((with_reducible refine so hp ?_); rfl)
    | (with_reducible first
        | refine ite_keptOut ?_ ?_ | refine next_kept ?_ | refine foldl_kept _ _ ?_ ?_
        | refine State.ingressVerdict_kept _ _ _ _ ?_ ?_ | refine State.setCell_kept _ _ _ ?_ ?_
        | refine State.setTm_kept _ _ ?_ ?_ | refine State.releaseFrame_kept _ _ _ ?_ ?_
        | refine State.cutAbort_kept _ _ _ ?_ ?_)
    | split
    | intro _

theorem execPassageFrameReceived_kept {m : Nat} {org : State} :
    ∀ a0 a1 a2 s, Sub 440340790 m → Kept m org s → KeptOut m org (execPassageFrameReceived a0 a1 a2 s) := by
  intro a0 a1 a2 s hp h
  unfold execPassageFrameReceived
  try dsimp only
  repeat' first
    | with_reducible assumption
    | ((with_reducible refine so hp ?_); rfl)
    | (with_reducible first
        | refine ite_kept ?_ ?_ | refine ite_keptOut ?_ ?_ | refine next_kept ?_
        | refine State.ingressStamp_kept _ _ ?_ ?_ | refine State.laneCounts_kept _ _ _ ?_ ?_
        | refine State.bump_kept _ _ _ _ ?_ ?_ | refine State.count_kept _ _ _ _ ?_ ?_
        | refine State.crcFail_kept _ _ ?_ ?_ | refine State.giveCredit_kept _ _ _ _ ?_ ?_
        | refine State.psgFrame_kept _ _ _ _ ?_ ?_)

theorem execLearnNoticeReceived_kept {m : Nat} {org : State} :
    ∀ a0 a1 a2 a3 s, Sub 262150 m → Kept m org s → KeptOut m org (execLearnNoticeReceived a0 a1 a2 a3 s) := by
  intro a0 a1 a2 a3 s hp h
  unfold execLearnNoticeReceived
  try dsimp only
  repeat' first
    | (with_reducible first
        | assumption | refine ite_keptOut ?_ ?_ | refine next_kept ?_ | refine State.learnQueue_kept _ _ ?_ ?_)

theorem execCreditFrameReceived_kept {m : Nat} {org : State} :
    ∀ a0 a1 s, Sub 134217728 m → Kept m org s → KeptOut m org (execCreditFrameReceived a0 a1 s) := by
  intro a0 a1 s hp h
  unfold execCreditFrameReceived
  try dsimp only
  repeat' first
    | (with_reducible first
        | assumption | refine ite_keptOut ?_ ?_ | refine next_kept ?_ | refine State.setPsg_kept _ _ _ ?_ ?_)

theorem execCreditFrameSend_kept {m : Nat} {org : State} :
    ∀ a0 s, Sub 671088640 m → Kept m org s → KeptOut m org (execCreditFrameSend a0 s) := by
  intro a0 s hp h
  unfold execCreditFrameSend
  try dsimp only
  repeat' first
    | with_reducible assumption
    | ((with_reducible refine so hp ?_); rfl)
    | (with_reducible first
        | refine ite_keptOut ?_ ?_ | refine next_kept ?_ | refine State.emit_kept _ _ ?_ ?_
        | refine State.setPsg_kept _ _ _ ?_ ?_)

theorem execPresenceFrameReceived_kept {m : Nat} {org : State} :
    ∀ a0 a1 a2 s, Sub 268435750 m → Kept m org s → KeptOut m org (execPresenceFrameReceived a0 a1 a2 s) := by
  intro a0 a1 a2 s hp h
  unfold execPresenceFrameReceived
  try dsimp only
  repeat' first
    | with_reducible assumption
    | ((with_reducible refine so hp ?_); rfl)
    | (with_reducible first
        | refine ite_keptOut ?_ ?_ | refine next_kept ?_ | refine State.hear_kept _ _ _ ?_ ?_
        | refine State.put_kept _ _ _ _ ?_ ?_ | refine State.raiseChange_kept _ _ _ _ _ _ ?_ ?_
        | refine State.setBit_kept _ _ _ _ ?_ ?_)

theorem execPresenceSend_kept {m : Nat} {org : State} :
    ∀ s, Sub 271651110 m → Kept m org s → KeptOut m org (execPresenceSend s) := by
  intro s hp h
  unfold execPresenceSend
  try dsimp only
  repeat' first
    | (with_reducible first
        | assumption | refine ite_keptOut ?_ ?_ | refine next_kept ?_ | refine State.presence_kept _ ?_ ?_)

theorem execReachTimeout_kept {m : Nat} {org : State} :
    ∀ a0 a1 s, Sub 268697890 m → Kept m org s → KeptOut m org (execReachTimeout a0 a1 s) := by
  intro a0 a1 s hp h
  unfold execReachTimeout
  try dsimp only
  repeat' first
    | (with_reducible first
        | assumption | refine ite_keptOut ?_ ?_ | refine next_kept ?_ | refine State.unreach_kept _ _ _ ?_ ?_)
    | split

theorem execTimeMessageReceived_kept {m : Nat} {org : State} :
    ∀ a0 a1 s, Sub 1744831798 m → Kept m org s → KeptOut m org (execTimeMessageReceived a0 a1 s) := by
  intro a0 a1 s hp h
  unfold execTimeMessageReceived
  try dsimp only
  repeat' first
    | with_reducible assumption
    | ((with_reducible refine so hp ?_); rfl)
    | (with_reducible first
        | refine ite_kept ?_ ?_ | refine ite_keptOut ?_ ?_ | refine next_kept ?_
        | refine State.timeSend_kept _ _ _ _ _ ?_ ?_ | refine State.syncTaken_kept _ _ _ _ ?_ ?_
        | refine State.delayTaken_kept _ _ _ _ ?_ ?_)
    | split

theorem execTimeSyncSend_kept {m : Nat} {org : State} :
    ∀ a0 a1 s, Sub 1879048192 m → Kept m org s → KeptOut m org (execTimeSyncSend a0 a1 s) := by
  intro a0 a1 s hp h
  unfold execTimeSyncSend
  try dsimp only
  repeat' first
    | with_reducible assumption
    | ((with_reducible refine so hp ?_); rfl)
    | (with_reducible first
        | refine ite_keptOut ?_ ?_ | refine next_kept ?_ | refine State.setCasc_kept _ _ ?_ ?_
        | refine State.timeSend_kept _ _ _ _ _ ?_ ?_)

theorem execPassageLaneLocked_kept {m : Nat} {org : State} :
    ∀ a0 a1 a2 s, Sub 6 m → Kept m org s → KeptOut m org (execPassageLaneLocked a0 a1 a2 s) := by
  intro a0 a1 a2 s hp h
  unfold execPassageLaneLocked
  try dsimp only
  repeat' first
    | with_reducible assumption
    | ((with_reducible refine so hp ?_); rfl)
    | (with_reducible first
        | refine ite_keptOut ?_ ?_ | refine next_kept ?_ | refine State.putReg_kept _ _ _ ?_ ?_
        | refine State.put_kept _ _ _ _ ?_ ?_)

theorem execPassageLaneLockLoss_kept {m : Nat} {org : State} :
    ∀ a0 s, Sub 134348806 m → Kept m org s → KeptOut m org (execPassageLaneLockLoss a0 s) := by
  intro a0 s hp h
  unfold execPassageLaneLockLoss
  try dsimp only
  repeat' first
    | with_reducible assumption
    | ((with_reducible refine so hp ?_); rfl)
    | (with_reducible first
        | refine ite_keptOut ?_ ?_ | refine next_kept ?_ | refine State.setPsg_kept _ _ _ ?_ ?_
        | refine State.lineAdd_kept _ _ _ _ ?_ ?_ | refine State.laneLoss_kept _ _ ?_ ?_
        | refine State.put_kept _ _ _ _ ?_ ?_)

theorem execPassageLaneDeskewed_kept {m : Nat} {org : State} :
    ∀ a0 a1 s, Sub 134348806 m → Kept m org s → KeptOut m org (execPassageLaneDeskewed a0 a1 s) := by
  intro a0 a1 s hp h
  unfold execPassageLaneDeskewed
  try dsimp only
  repeat' first
    | with_reducible assumption
    | ((with_reducible refine so hp ?_); rfl)
    | (with_reducible first
        | refine ite_kept ?_ ?_ | refine ite_keptOut ?_ ?_ | refine next_kept ?_
        | refine State.setPsg_kept _ _ _ ?_ ?_ | refine State.laneLoss_kept _ _ ?_ ?_
        | refine State.put_kept _ _ _ _ ?_ ?_ | refine State.rxOkPut_kept _ _ _ ?_ ?_)

theorem execPassageLaneReturn_kept {m : Nat} {org : State} :
    ∀ a0 s, Sub 134217730 m → Kept m org s → KeptOut m org (execPassageLaneReturn a0 s) := by
  intro a0 s hp h
  unfold execPassageLaneReturn
  try dsimp only
  repeat' first
    | with_reducible assumption
    | ((with_reducible refine so hp ?_); rfl)
    | (with_reducible first
        | refine ite_keptOut ?_ ?_ | refine next_kept ?_ | refine State.rxOkPut_kept _ _ _ ?_ ?_
        | refine State.setPsg_kept _ _ _ ?_ ?_)
    | split

theorem execTxMapChange_kept {m : Nat} {org : State} :
    ∀ a0 a1 s, Sub 134217730 m → Kept m org s → KeptOut m org (execTxMapChange a0 a1 s) := by
  intro a0 a1 s hp h
  unfold execTxMapChange
  try dsimp only
  repeat' first
    | with_reducible assumption
    | ((with_reducible refine so hp ?_); rfl)
    | (with_reducible first
        | refine ite_keptOut ?_ ?_ | refine next_kept ?_ | refine State.txMap_kept _ _ ?_ ?_
        | refine State.setPsg_kept _ _ _ ?_ ?_)
    | split

theorem execPassagePortUp_kept {m : Nat} {org : State} :
    ∀ a0 s, Sub 405868838 m → Kept m org s → KeptOut m org (execPassagePortUp a0 s) := by
  intro a0 s hp h
  unfold execPassagePortUp
  try dsimp only
  repeat' first
    | with_reducible assumption
    | ((with_reducible refine so hp ?_); rfl)
    | (with_reducible first
        | refine ite_keptOut ?_ ?_ | refine next_kept ?_ | refine State.setPsg_kept _ _ _ ?_ ?_
        | refine State.presence_kept _ ?_ ?_ | refine State.putPsg_kept _ _ _ ?_ ?_)
    | split

theorem execPassagePortDown_kept {m : Nat} {org : State} :
    ∀ a0 s, Sub 294 m → Kept m org s → KeptOut m org (execPassagePortDown a0 s) := by
  intro a0 s hp h
  unfold execPassagePortDown
  try dsimp only
  repeat' first
    | (with_reducible first
        | assumption | refine ite_keptOut ?_ ?_ | refine next_kept ?_ | refine State.putPsg_kept _ _ _ ?_ ?_)

end Sys2Proof.Machine
end

