-- ==== Sys2Proof/Laws/Kept/Snuff.lean ====
section
/-!
SUPPORT. The operations of Machine/Snuff.lean keep soundness and the parts they do not name.
-/

namespace Sys2Proof.Machine

open State

theorem State.setSnuff_kept {m : Nat} {org : State} :
    ∀ s a1 a2 a3, Sub 2048 m → Kept m org s → Kept m org (State.setSnuff s a1 a2 a3) := by
  intro s a1 a2 a3 hp h
  unfold State.setSnuff
  try dsimp only
  repeat' first
    | with_reducible assumption
    | ((with_reducible refine mk_kept ?_ ?_ ?_ ?_ ?_ ?_ ?_ ?_ ?_ ?_ ?_ ?_ ?_ ?_ ?_ ?_ ?_ ?_ ?_ ?_ ?_ ?_ ?_ ?_ ?_ ?_ ?_) <;> try (intro hq; first | exact (hit hp rfl hq).elim | with_reducible rfl))

theorem State.purgeQueue_kept {m : Nat} {org : State} :
    ∀ s a1 a2, Sub 1052966 m → Kept m org s → Kept m org (State.purgeQueue s a1 a2) := by
  intro s a1 a2 hp h
  unfold State.purgeQueue
  try dsimp only
  repeat' first
    | with_reducible assumption
    | ((with_reducible refine so hp ?_); rfl)
    | (with_reducible first
        | refine State.purgeTx_kept _ _ _ ?_ ?_ ?_ | refine State.bump_kept _ _ _ _ ?_ ?_)
    | split
    | intro _

theorem State.purgeFlow_kept {m : Nat} {org : State} :
    ∀ s a1 a2, Sub 1052966 m → Kept m org s → Kept m org (State.purgeFlow s a1 a2) := by
  intro s a1 a2 hp h
  unfold State.purgeFlow
  try dsimp only
  repeat' first
    | with_reducible assumption
    | ((with_reducible refine so hp ?_); rfl)
    | (with_reducible first
        | refine foldl_kept _ _ ?_ ?_ | refine State.releaseFrame_kept _ _ _ ?_ ?_
        | refine State.bump_kept _ _ _ _ ?_ ?_ | refine State.setQueue_kept _ _ _ ?_ ?_
        | refine State.setBondWait_kept _ _ _ ?_ ?_)
    | split
    | intro _

theorem State.purgeRes_kept {m : Nat} {org : State} :
    ∀ s a1 a2 a3, Sub 1052966 m → Kept m org s → Kept m org (State.purgeRes s a1 a2 a3) := by
  intro s a1 a2 a3 hp h
  unfold State.purgeRes
  try dsimp only
  repeat' first
    | with_reducible assumption
    | ((with_reducible refine so hp ?_); rfl)
    | (with_reducible first
        | refine foldl_kept _ _ ?_ ?_ | refine State.purgeFlow_kept _ _ _ ?_ ?_
        | refine State.setOmci_kept _ _ _ ?_ ?_ | refine State.purgeQueue_kept _ _ _ ?_ ?_)
    | split
    | intro _

theorem State.closingActs_kept {m : Nat} {org : State} :
    ∀ s a1 a2 a3, Sub 18944294 m → Kept m org s → Kept m org (State.closingActs s a1 a2 a3) := by
  intro s a1 a2 a3 hp h
  unfold State.closingActs
  try dsimp only
  repeat' first
    | with_reducible assumption
    | ((with_reducible refine so hp ?_); rfl)
    | (with_reducible first
        | refine ite_kept ?_ ?_ | refine foldl_kept _ _ ?_ ?_ | refine State.discardHost_kept _ _ _ ?_ ?_
        | refine State.wake_kept _ _ ?_ ?_ | refine State.dropOrders_kept _ _ _ _ ?_ ?_
        | refine State.rxOkPut_kept _ _ _ ?_ ?_ | refine State.txMap_kept _ _ ?_ ?_)
    | split
    | intro _

theorem State.closeOne_kept {m : Nat} {org : State} :
    ∀ s a1 a2 a3 a4, Sub 19994918 m → Kept m org s → Kept m org (State.closeOne s a1 a2 a3 a4) := by
  intro s a1 a2 a3 a4 hp h
  unfold State.closeOne
  try dsimp only
  repeat' first
    | with_reducible assumption
    | ((with_reducible refine so hp ?_); rfl)
    | (with_reducible first
        | refine ite_kept ?_ ?_ | refine State.setSnuff_kept _ _ _ _ ?_ ?_ | refine State.purgeRes_kept _ _ _ _ ?_ ?_
        | refine State.closingActs_kept _ _ _ _ ?_ ?_ | refine State.put_kept _ _ _ _ ?_ ?_)
    | split

theorem State.close_kept {m : Nat} {org : State} :
    ∀ s a1 a2 a3 a4, Sub 19994918 m → Kept m org s → Kept m org (State.close s a1 a2 a3 a4) := by
  intro s a1 a2 a3 a4 hp h
  unfold State.close
  try dsimp only
  repeat' first
    | (with_reducible first
        | assumption | refine ite_kept ?_ ?_ | refine foldl_kept _ _ ?_ ?_
        | refine State.closeOne_kept _ _ _ _ _ ?_ ?_)
    | intro _

theorem State.snuffStart_kept {m : Nat} {org : State} :
    ∀ s a1 a2, Sub 19994918 m → Kept m org s → Kept m org (State.snuffStart s a1 a2) := by
  intro s a1 a2 hp h
  unfold State.snuffStart
  try dsimp only
  repeat' first
    | (with_reducible first
        | assumption | refine State.close_kept _ _ _ _ _ ?_ ?_)

theorem State.drainOne_kept {m : Nat} {org : State} :
    ∀ s a1 a2, Sub 1055014 m → Kept m org s → Kept m org (State.drainOne s a1 a2) := by
  intro s a1 a2 hp h
  unfold State.drainOne
  try dsimp only
  repeat' first
    | with_reducible assumption
    | ((with_reducible refine so hp ?_); rfl)
    | (with_reducible first
        | refine ite_kept ?_ ?_ | refine State.setSnuff_kept _ _ _ _ ?_ ?_ | refine State.put_kept _ _ _ _ ?_ ?_
        | refine State.purgeRes_kept _ _ _ _ ?_ ?_)
    | split

theorem State.drain_kept {m : Nat} {org : State} :
    ∀ s a1 a2, Sub 1055014 m → Kept m org s → Kept m org (State.drain s a1 a2) := by
  intro s a1 a2 hp h
  unfold State.drain
  try dsimp only
  repeat' first
    | (with_reducible first
        | assumption | refine foldl_kept _ _ ?_ ?_ | refine State.drainOne_kept _ _ _ ?_ ?_)
    | intro _

theorem State.farewell_kept {m : Nat} {org : State} :
    ∀ s a1 a2, Sub 65536 m → Kept m org s → Kept m org (State.farewell s a1 a2) := by
  intro s a1 a2 hp h
  unfold State.farewell
  try dsimp only
  repeat' first
    | (with_reducible first
        | assumption | refine ite_kept ?_ ?_ | refine State.deactivate_kept _ _ _ _ ?_ ?_
        | refine State.disableSerial_kept _ _ _ _ _ ?_ ?_)

theorem State.snuffFrame_kept {m : Nat} {org : State} :
    ∀ s, Sub 67584 m → Kept m org s → Kept m org (State.snuffFrame s) := by
  intro s hp h
  unfold State.snuffFrame
  try dsimp only
  repeat' first
    | with_reducible assumption
    | ((with_reducible refine so hp ?_); rfl)
    | (with_reducible first
        | refine foldl_kept _ _ ?_ ?_ | refine State.setSnuff_kept _ _ _ _ ?_ ?_
        | refine State.farewell_kept _ _ _ ?_ ?_ | refine State.deactivate_kept _ _ _ _ ?_ ?_)
    | split
    | intro _

theorem State.huntSnuffed_kept {m : Nat} {org : State} :
    ∀ s a1 a2, Sub 4194304 m → Kept m org s → Kept m org (State.huntSnuffed s a1 a2) := by
  intro s a1 a2 hp h
  unfold State.huntSnuffed
  try dsimp only
  repeat' first
    | (with_reducible first
        | assumption | refine ite_kept ?_ ?_ | refine State.setAct_kept _ _ _ ?_ ?_)
    | split

theorem State.darkActs_kept {m : Nat} {org : State} :
    ∀ s a1 a2, Sub 259338534 m → Kept m org s → Kept m org (State.darkActs s a1 a2) := by
  intro s a1 a2 hp h
  unfold State.darkActs
  try dsimp only
  repeat' first
    | with_reducible assumption
    | ((with_reducible refine so hp ?_); rfl)
    | (with_reducible first
        | refine ite_kept ?_ ?_ | refine foldl_kept _ _ ?_ ?_ | refine State.goIdle_kept _ _ _ ?_ ?_
        | refine State.discardAllPloam_kept _ _ ?_ ?_ | refine State.laneOff_kept _ _ ?_ ?_
        | refine State.slotErase_kept _ _ _ ?_ ?_ | refine State.huntSnuffed_kept _ _ _ ?_ ?_
        | refine State.autoFlush_kept _ _ _ _ ?_ ?_ | refine State.keysDiscard_kept _ _ ?_ ?_
        | refine State.ploamLan_kept _ _ _ _ _ _ _ ?_ ?_ | refine State.put_kept _ _ _ _ ?_ ?_
        | refine State.setDem_kept _ _ _ ?_ ?_ | refine State.setTm_kept _ _ ?_ ?_
        | refine State.bondReset_kept _ _ ?_ ?_ | refine State.setBit_kept _ _ _ _ ?_ ?_
        | refine State.saErase_kept _ _ ?_ ?_ | refine State.setUpl_kept _ _ _ ?_ ?_
        | refine State.saErasePort_kept _ _ ?_ ?_ | refine State.putLink_kept _ _ _ ?_ ?_
        | refine State.psgStop_kept _ _ ?_ ?_ | refine State.laneDown_kept _ _ ?_ ?_)
    | split
    | intro _

theorem State.darken_kept {m : Nat} {org : State} :
    ∀ s a1 a2, Sub 259340582 m → Kept m org s → Kept m org (State.darken s a1 a2) := by
  intro s a1 a2 hp h
  unfold State.darken
  try dsimp only
  repeat' first
    | with_reducible assumption
    | ((with_reducible refine so hp ?_); rfl)
    | (with_reducible first
        | refine State.put_kept _ _ _ _ ?_ ?_ | refine State.darkActs_kept _ _ _ ?_ ?_
        | refine State.raiseDone_kept _ _ _ _ ?_ ?_)
    | ((with_reducible refine mk_kept ?_ ?_ ?_ ?_ ?_ ?_ ?_ ?_ ?_ ?_ ?_ ?_ ?_ ?_ ?_ ?_ ?_ ?_ ?_ ?_ ?_ ?_ ?_ ?_ ?_ ?_ ?_) <;> try (intro hq; first | exact (hit hp rfl hq).elim | with_reducible rfl))

theorem State.darkNow_kept {m : Nat} {org : State} :
    ∀ s a1 a2, Sub 259340582 m → Kept m org s → Kept m org (State.darkNow s a1 a2) := by
  intro s a1 a2 hp h
  unfold State.darkNow
  try dsimp only
  repeat' first
    | with_reducible assumption
    | ((with_reducible refine so hp ?_); rfl)
    | (with_reducible first
        | refine ite_kept ?_ ?_ | refine State.darken_kept _ _ _ ?_ ?_ | refine State.purgeRes_kept _ _ _ _ ?_ ?_)

theorem State.darkAll_kept {m : Nat} {org : State} :
    ∀ s a1, Sub 259340582 m → Kept m org s → Kept m org (State.darkAll s a1) := by
  intro s a1 hp h
  unfold State.darkAll
  try dsimp only
  repeat' first
    | (with_reducible first
        | assumption | refine foldl_kept _ _ ?_ ?_ | refine State.darkNow_kept _ _ _ ?_ ?_)
    | intro _

theorem State.leaveDark_kept {m : Nat} {org : State} :
    ∀ s a1 a2, Sub 134218022 m → Kept m org s → Kept m org (State.leaveDark s a1 a2) := by
  intro s a1 a2 hp h
  unfold State.leaveDark
  try dsimp only
  repeat' first
    | with_reducible assumption
    | ((with_reducible refine so hp ?_); rfl)
    | (with_reducible first
        | refine ite_kept ?_ ?_ | refine State.put_kept _ _ _ _ ?_ ?_ | refine State.zeroCounters_kept _ _ _ ?_ ?_
        | refine State.psgStart_kept _ _ ?_ ?_ | refine State.putLink_kept _ _ _ ?_ ?_
        | refine State.saUpdate_kept _ _ ?_ ?_)
    | split

theorem State.leaveAll_kept {m : Nat} {org : State} :
    ∀ s, Sub 134218022 m → Kept m org s → Kept m org (State.leaveAll s) := by
  intro s hp h
  unfold State.leaveAll
  try dsimp only
  repeat' first
    | (with_reducible first
        | assumption | refine foldl_kept _ _ ?_ ?_ | refine State.leaveDark_kept _ _ _ ?_ ?_)
    | intro _

theorem State.enableApply_kept {m : Nat} {org : State} :
    ∀ s a1 a2, Sub 154212646 m → Kept m org s → Kept m org (State.enableApply s a1 a2) := by
  intro s a1 a2 hp h
  unfold State.enableApply
  try dsimp only
  repeat' first
    | with_reducible assumption
    | ((with_reducible refine so hp ?_); rfl)
    | (with_reducible first
        | refine ite_kept ?_ ?_ | refine State.leaveDark_kept _ _ _ ?_ ?_ | refine State.snuffStart_kept _ _ _ ?_ ?_)

theorem State.snuffApply_kept {m : Nat} {org : State} :
    ∀ s a1 a2, Sub 154212646 m → Kept m org s → Kept m org (State.snuffApply s a1 a2) := by
  intro s a1 a2 hp h
  unfold State.snuffApply
  try dsimp only
  repeat' first
    | with_reducible assumption
    | ((with_reducible refine so hp ?_); rfl)
    | (with_reducible first
        | refine ite_kept ?_ ?_ | refine foldl_kept _ _ ?_ ?_ | refine State.snuffStart_kept _ _ _ ?_ ?_
        | refine State.enableApply_kept _ _ _ ?_ ?_)
    | split
    | intro _

theorem execSnuffDraining_kept {m : Nat} {org : State} :
    ∀ a0 a1 s, Sub 1055014 m → Kept m org s → KeptOut m org (execSnuffDraining a0 a1 s) := by
  intro a0 a1 s hp h
  unfold execSnuffDraining
  try dsimp only
  repeat' first
    | (with_reducible first
        | assumption | refine ite_keptOut ?_ ?_ | refine next_kept ?_ | refine State.drain_kept _ _ _ ?_ ?_)
    | split

theorem execSnuffDrainLimit_kept {m : Nat} {org : State} :
    ∀ a0 a1 s, Sub 1052966 m → Kept m org s → KeptOut m org (execSnuffDrainLimit a0 a1 s) := by
  intro a0 a1 s hp h
  unfold execSnuffDrainLimit
  try dsimp only
  repeat' first
    | with_reducible assumption
    | ((with_reducible refine so hp ?_); rfl)
    | (with_reducible first
        | refine ite_keptOut ?_ ?_ | refine next_kept ?_ | refine State.setBit_kept _ _ _ _ ?_ ?_
        | refine State.purgeRes_kept _ _ _ _ ?_ ?_)
    | split

theorem execSnuffDark_kept {m : Nat} {org : State} :
    ∀ a0 a1 s, Sub 259340582 m → Kept m org s → KeptOut m org (execSnuffDark a0 a1 s) := by
  intro a0 a1 s hp h
  unfold execSnuffDark
  try dsimp only
  repeat' first
    | (with_reducible first
        | assumption | refine ite_keptOut ?_ ?_ | refine next_kept ?_ | refine State.darken_kept _ _ _ ?_ ?_)
    | split

end Sys2Proof.Machine
end

