-- ==== Sys2Proof/Laws/Kept/Headless.lean ====
section
/-!
SUPPORT. The operations of Machine/Headless.lean keep soundness and the parts they do not name.
-/

namespace Sys2Proof.Machine

open State

theorem State.setUcie_kept {m : Nat} {org : State} :
    ∀ s a1, Sub 256 m → Kept m org s → Kept m org (State.setUcie s a1) := by
  intro s a1 hp h
  unfold State.setUcie
  try dsimp only
  repeat' first
    | with_reducible assumption
    | ((with_reducible refine mk_kept ?_ ?_ ?_ ?_ ?_ ?_ ?_ ?_ ?_ ?_ ?_ ?_ ?_ ?_ ?_ ?_ ?_ ?_ ?_ ?_ ?_ ?_ ?_ ?_ ?_ ?_ ?_) <;> try (intro hq; first | exact (hit hp rfl hq).elim | with_reducible rfl))

theorem State.setBoot_kept {m : Nat} {org : State} :
    ∀ s a1, Sub 512 m → Kept m org s → Kept m org (State.setBoot s a1) := by
  intro s a1 hp h
  unfold State.setBoot
  try dsimp only
  repeat' first
    | with_reducible assumption
    | ((with_reducible refine mk_kept ?_ ?_ ?_ ?_ ?_ ?_ ?_ ?_ ?_ ?_ ?_ ?_ ?_ ?_ ?_ ?_ ?_ ?_ ?_ ?_ ?_ ?_ ?_ ?_ ?_ ?_ ?_) <;> try (intro hq; first | exact (hit hp rfl hq).elim | with_reducible rfl))

theorem State.setLan_kept {m : Nat} {org : State} :
    ∀ s a1, Sub 32 m → Kept m org s → Kept m org (State.setLan s a1) := by
  intro s a1 hp h
  unfold State.setLan
  try dsimp only
  repeat' first
    | with_reducible assumption
    | ((with_reducible refine mk_kept ?_ ?_ ?_ ?_ ?_ ?_ ?_ ?_ ?_ ?_ ?_ ?_ ?_ ?_ ?_ ?_ ?_ ?_ ?_ ?_ ?_ ?_ ?_ ?_ ?_ ?_ ?_) <;> try (intro hq; first | exact (hit hp rfl hq).elim | with_reducible rfl))

theorem State.flushHead_kept {m : Nat} {org : State} :
    ∀ s, Sub 290 m → Kept m org s → Kept m org (State.flushHead s) := by
  intro s hp h
  unfold State.flushHead
  try dsimp only
  repeat' first
    | with_reducible assumption
    | ((with_reducible refine so hp ?_); rfl)
    | (with_reducible first
        | refine foldl_kept _ _ ?_ ?_ | refine State.queueAll_kept _ _ ?_ ?_ | refine State.setUcie_kept _ _ ?_ ?_)
    | intro _

theorem State.goHeadless_kept {m : Nat} {org : State} :
    ∀ s a1, Sub 65922 m → Kept m org s → Kept m org (State.goHeadless s a1) := by
  intro s a1 hp h
  unfold State.goHeadless
  try dsimp only
  repeat' first
    | with_reducible assumption
    | ((with_reducible refine so hp ?_); rfl)
    | (with_reducible first
        | refine ite_kept ?_ ?_ | refine foldl_kept _ _ ?_ ?_ | refine State.setUcie_kept _ _ ?_ ?_
        | refine State.setCause_kept _ _ ?_ ?_ | refine State.discardLantern_kept _ _ ?_ ?_)
    | intro _
    | ((with_reducible refine mk_kept ?_ ?_ ?_ ?_ ?_ ?_ ?_ ?_ ?_ ?_ ?_ ?_ ?_ ?_ ?_ ?_ ?_ ?_ ?_ ?_ ?_ ?_ ?_ ?_ ?_ ?_ ?_) <;> try (intro hq; first | exact (hit hp rfl hq).elim | with_reducible rfl))

theorem State.headlessAborts_kept {m : Nat} {org : State} :
    ∀ s, Sub 2170882 m → Kept m org s → Kept m org (State.headlessAborts s) := by
  intro s hp h
  unfold State.headlessAborts
  try dsimp only
  repeat' first
    | (with_reducible first
        | assumption | refine ite_kept ?_ ?_ | refine foldl_kept _ _ ?_ ?_
        | refine State.activationFails_kept _ _ _ ?_ ?_)
    | split
    | intro _

theorem State.linkLost_kept {m : Nat} {org : State} :
    ∀ s, Sub 65926 m → Kept m org s → Kept m org (State.linkLost s) := by
  intro s hp h
  unfold State.linkLost
  try dsimp only
  repeat' first
    | with_reducible assumption
    | ((with_reducible refine so hp ?_); rfl)
    | (with_reducible first
        | refine ite_kept ?_ ?_ | refine State.bump_kept _ _ _ _ ?_ ?_ | refine State.setBit_kept _ _ _ _ ?_ ?_
        | refine State.put_kept _ _ _ _ ?_ ?_ | refine State.goHeadless_kept _ _ ?_ ?_
        | refine State.setUcie_kept _ _ ?_ ?_)

theorem State.retrain_kept {m : Nat} {org : State} :
    ∀ s a1, Sub 258 m → Kept m org s → Kept m org (State.retrain s a1) := by
  intro s a1 hp h
  unfold State.retrain
  try dsimp only
  repeat' first
    | with_reducible assumption
    | ((with_reducible refine so hp ?_); rfl)
    | (with_reducible first
        | refine ite_kept ?_ ?_ | refine State.setUcie_kept _ _ ?_ ?_ | refine State.bump_kept _ _ _ _ ?_ ?_
        | refine State.put_kept _ _ _ _ ?_ ?_)

theorem State.linkUp_kept {m : Nat} {org : State} :
    ∀ s a1 a2, Sub 294 m → Kept m org s → Kept m org (State.linkUp s a1 a2) := by
  intro s a1 a2 hp h
  unfold State.linkUp
  try dsimp only
  repeat' first
    | with_reducible assumption
    | ((with_reducible refine so hp ?_); rfl)
    | (with_reducible first
        | refine ite_kept ?_ ?_ | refine State.setBit_kept _ _ _ _ ?_ ?_ | refine State.put_kept _ _ _ _ ?_ ?_
        | refine State.setUcie_kept _ _ ?_ ?_ | refine State.putReg_kept _ _ _ ?_ ?_
        | refine State.raiseChange_kept _ _ _ _ _ _ ?_ ?_ | refine State.bump_kept _ _ _ _ ?_ ?_)

theorem State.widenEff_kept {m : Nat} {org : State} :
    ∀ s a1 a2 a3, Sub 258 m → Kept m org s → Kept m org (State.widenEff s a1 a2 a3).1 := by
  intro s a1 a2 a3 hp h
  unfold State.widenEff
  try dsimp only
  repeat' first
    | (with_reducible first
        | assumption | refine ite_kept1 ?_ ?_ | refine State.retrain_kept _ _ ?_ ?_)

theorem State.dropObjs_kept {m : Nat} {org : State} : ∀ s a1, Sub 2 m → Kept m org s → Kept m org (State.dropObjs s a1) := by
  intro s a1 hp h
  exact step_kept h (fun k => ⟨⟨tabSorted_filter _ k.1.1, k.1.2⟩, k.2⟩)
    (by intro p hq; cases p <;> first | exact (hit hp rfl hq).elim | rfl)

theorem State.lanternStop_kept {m : Nat} {org : State} :
    ∀ s, Sub 1570 m → Kept m org s → Kept m org (State.lanternStop s) := by
  intro s hp h
  unfold State.lanternStop
  try dsimp only
  repeat' first
    | with_reducible assumption
    | ((with_reducible refine so hp ?_); rfl)
    | (with_reducible first
        | refine State.dropObjs_kept _ _ ?_ ?_ | refine State.setLan_kept _ _ ?_ ?_
        | refine State.setLife_kept _ _ ?_ ?_ | refine State.setBoot_kept _ _ ?_ ?_)

theorem State.lanternReset_kept {m : Nat} {org : State} :
    ∀ s a1, Sub 67494 m → Kept m org s → Kept m org (State.lanternReset s a1) := by
  intro s a1 hp h
  unfold State.lanternReset
  try dsimp only
  repeat' first
    | with_reducible assumption
    | ((with_reducible refine so hp ?_); rfl)
    | (with_reducible first
        | refine ite_kept ?_ ?_ | refine State.lanternStop_kept _ ?_ ?_ | refine State.setBoot_kept _ _ ?_ ?_
        | refine State.goHeadless_kept _ _ ?_ ?_ | refine State.linkLost_kept _ ?_ ?_)

theorem State.restartExchanges_kept {m : Nat} {org : State} :
    ∀ s, Sub 33619968 m → Kept m org s → Kept m org (State.restartExchanges s) := by
  intro s hp h
  unfold State.restartExchanges
  try dsimp only
  repeat' first
    | with_reducible assumption
    | ((with_reducible refine so hp ?_); rfl)
    | (with_reducible first
        | refine foldl_kept _ _ ?_ ?_ | refine State.setExch_kept _ _ _ ?_ ?_
        | refine State.ploamLan_kept _ _ _ _ _ _ _ ?_ ?_)
    | split
    | intro _

theorem State.startEvent_kept {m : Nat} {org : State} :
    ∀ s, Sub 34 m → Kept m org s → Kept m org (State.startEvent s) := by
  intro s hp h
  unfold State.startEvent
  try dsimp only
  repeat' first
    | (with_reducible first
        | assumption | refine State.raiseL_kept _ _ _ _ _ ?_ ?_)

theorem State.reattach_kept {m : Nat} {org : State} :
    ∀ s, Sub 33620786 m → Kept m org s → Kept m org (State.reattach s) := by
  intro s hp h
  unfold State.reattach
  try dsimp only
  repeat' first
    | with_reducible assumption
    | ((with_reducible refine so hp ?_); rfl)
    | (with_reducible first
        | refine ite_kept ?_ ?_ | refine State.putCause_kept _ _ _ ?_ ?_ | refine State.setUcie_kept _ _ ?_ ?_
        | refine State.put_kept _ _ _ _ ?_ ?_ | refine State.bump_kept _ _ _ _ ?_ ?_
        | refine State.startEvent_kept _ ?_ ?_ | refine State.setBoot_kept _ _ ?_ ?_
        | refine State.flushHead_kept _ ?_ ?_ | refine State.setLan_kept _ _ ?_ ?_
        | refine State.domReturn_kept _ _ ?_ ?_ | refine State.restartExchanges_kept _ ?_ ?_
        | refine State.raiseL_kept _ _ _ _ _ ?_ ?_)

theorem execFlitCrcFailure_kept {m : Nat} {org : State} :
    ∀ a0 s, Sub 258 m → Kept m org s → KeptOut m org (execFlitCrcFailure a0 s) := by
  intro a0 s hp h
  unfold execFlitCrcFailure
  try dsimp only
  repeat' first
    | with_reducible assumption
    | ((with_reducible refine so hp ?_); rfl)
    | (with_reducible first
        | refine ite_keptOut ?_ ?_ | refine next_kept ?_ | refine State.bump_kept _ _ _ _ ?_ ?_
        | refine State.setUcie_kept _ _ ?_ ?_ | refine State.retrain_kept _ _ ?_ ?_)

theorem execUcieRetrain_kept {m : Nat} {org : State} :
    ∀ s, Sub 258 m → Kept m org s → KeptOut m org (execUcieRetrain s) := by
  intro s hp h
  unfold execUcieRetrain
  try dsimp only
  repeat' first
    | (with_reducible first
        | assumption | refine next_kept ?_ | refine State.retrain_kept _ _ ?_ ?_)

theorem execUcieWiden_kept {m : Nat} {org : State} :
    ∀ a0 a1 s, Sub 536871270 m → Kept m org s → KeptOut m org (execUcieWiden a0 a1 s) := by
  intro a0 a1 s hp h
  unfold execUcieWiden
  try dsimp only
  repeat' first
    | with_reducible assumption
    | ((with_reducible refine so hp ?_); rfl)
    | (with_reducible first
        | refine next_kept ?_ | refine State.hostWrite_kept _ _ _ _ _ _ ?_ ?_ ?_
        | refine State.widenEff_kept _ _ _ _ ?_ ?_)
    | intro _

theorem execRetrainComplete_kept {m : Nat} {org : State} :
    ∀ a0 s, Sub 65958 m → Kept m org s → KeptOut m org (execRetrainComplete a0 s) := by
  intro a0 s hp h
  unfold execRetrainComplete
  try dsimp only
  repeat' first
    | with_reducible assumption
    | ((with_reducible refine so hp ?_); rfl)
    | (with_reducible first
        | refine ite_kept ?_ ?_ | refine ite_keptOut ?_ ?_ | refine next_kept ?_
        | refine State.putReg_kept _ _ _ ?_ ?_ | refine State.setBit_kept _ _ _ _ ?_ ?_
        | refine State.linkUp_kept _ _ _ ?_ ?_ | refine State.flushHead_kept _ ?_ ?_
        | refine State.linkLost_kept _ ?_ ?_)
    | split

theorem execUcieLinkLost_kept {m : Nat} {org : State} :
    ∀ s, Sub 65926 m → Kept m org s → KeptOut m org (execUcieLinkLost s) := by
  intro s hp h
  unfold execUcieLinkLost
  try dsimp only
  repeat' first
    | (with_reducible first
        | assumption | refine ite_keptOut ?_ ?_ | refine next_kept ?_ | refine State.linkLost_kept _ ?_ ?_)

theorem execUcieTrainingRetry_kept {m : Nat} {org : State} :
    ∀ s, Sub 258 m → Kept m org s → KeptOut m org (execUcieTrainingRetry s) := by
  intro s hp h
  unfold execUcieTrainingRetry
  try dsimp only
  repeat' first
    | with_reducible assumption
    | ((with_reducible refine so hp ?_); rfl)
    | (with_reducible first
        | refine ite_keptOut ?_ ?_ | refine next_kept ?_ | refine State.setUcie_kept _ _ ?_ ?_
        | refine State.put_kept _ _ _ _ ?_ ?_)

theorem execReattachment_kept {m : Nat} {org : State} :
    ∀ s, Sub 33620786 m → Kept m org s → KeptOut m org (execReattachment s) := by
  intro s hp h
  unfold execReattachment
  try dsimp only
  repeat' first
    | (with_reducible first
        | assumption | refine ite_keptOut ?_ ?_ | refine next_kept ?_ | refine State.reattach_kept _ ?_ ?_)

end Sys2Proof.Machine
end

