-- ==== Sys2Proof/Laws/Kept/Power.lean ====
section
/-!
SUPPORT. The operations of Machine/Power.lean keep soundness and the parts they do not name.
-/

namespace Sys2Proof.Machine

open State

theorem State.glimEnter_kept {m : Nat} {org : State} :
    ∀ s, Sub 19995430 m → Kept m org s → Kept m org (State.glimEnter s) := by
  intro s hp h
  unfold State.glimEnter
  try dsimp only
  repeat' first
    | with_reducible assumption
    | ((with_reducible refine so hp ?_); rfl)
    | (with_reducible first
        | refine foldl_kept _ _ ?_ ?_ | refine State.put_kept _ _ _ _ ?_ ?_ | refine State.setBoot_kept _ _ ?_ ?_
        | refine State.close_kept _ _ _ _ _ ?_ ?_)
    | intro _

theorem State.trimEnter_kept {m : Nat} {org : State} :
    ∀ s, Sub 518 m → Kept m org s → Kept m org (State.trimEnter s) := by
  intro s hp h
  unfold State.trimEnter
  try dsimp only
  repeat' first
    | with_reducible assumption
    | ((with_reducible refine so hp ?_); rfl)
    | (with_reducible first
        | refine ite_kept ?_ ?_ | refine State.setBoot_kept _ _ ?_ ?_ | refine State.setBit_kept _ _ _ _ ?_ ?_
        | refine State.put_kept _ _ _ _ ?_ ?_)

theorem State.wakeAll_kept {m : Nat} {org : State} :
    ∀ s, Sub 6 m → Kept m org s → Kept m org (State.wakeAll s) := by
  intro s hp h
  unfold State.wakeAll
  try dsimp only
  repeat' first
    | (with_reducible first
        | assumption | refine foldl_kept _ _ ?_ ?_ | refine State.laneWake_kept _ _ ?_ ?_)
    | intro _

theorem State.powerApply_kept {m : Nat} {org : State} :
    ∀ s a1, Sub 19995430 m → Kept m org s → Kept m org (State.powerApply s a1) := by
  intro s a1 hp h
  unfold State.powerApply
  try dsimp only
  repeat' first
    | with_reducible assumption
    | ((with_reducible refine so hp ?_); rfl)
    | (with_reducible first
        | refine ite_kept ?_ ?_ | refine State.setBit_kept _ _ _ _ ?_ ?_ | refine State.put_kept _ _ _ _ ?_ ?_
        | refine State.wakeAll_kept _ ?_ ?_ | refine State.trimEnter_kept _ ?_ ?_
        | refine State.glimEnter_kept _ ?_ ?_)
    | split

theorem State.glimPurge_kept {m : Nat} {org : State} :
    ∀ s, Sub 1052966 m → Kept m org s → Kept m org (State.glimPurge s) := by
  intro s hp h
  unfold State.glimPurge
  try dsimp only
  repeat' first
    | (with_reducible first
        | assumption | refine foldl_kept _ _ ?_ ?_ | refine State.purgeRes_kept _ _ _ _ ?_ ?_)
    | split
    | intro _

theorem State.glimLose_kept {m : Nat} {org : State} :
    ∀ s, Sub 58523954 m → Kept m org s → Kept m org (State.glimLose s) := by
  intro s hp h
  unfold State.glimLose
  try dsimp only
  repeat' first
    | with_reducible assumption
    | ((with_reducible refine so hp ?_); rfl)
    | (with_reducible first
        | refine ite_kept ?_ ?_ | refine foldl_kept _ _ ?_ ?_ | refine State.sumpLose_kept _ ?_ ?_
        | refine State.setGal_kept _ _ ?_ ?_ | refine State.setCiph_kept _ _ ?_ ?_
        | refine State.slotErase_kept _ _ _ ?_ ?_ | refine State.setGr_kept _ _ ?_ ?_
        | refine State.putDomState_kept _ _ _ ?_ ?_ | refine State.setClk_kept _ _ ?_ ?_ ?_)
    | exact fun _ hc => ⟨hc.1, hc.2⟩
    | intro _
    | ((with_reducible refine mk_kept ?_ ?_ ?_ ?_ ?_ ?_ ?_ ?_ ?_ ?_ ?_ ?_ ?_ ?_ ?_ ?_ ?_ ?_ ?_ ?_ ?_ ?_ ?_ ?_ ?_ ?_ ?_) <;> try (intro hq; first | exact (hit hp rfl hq).elim | with_reducible rfl))

theorem State.wake__kept {m : Nat} {org : State} :
    ∀ s a1, Sub 152044326 m → Kept m org s → Kept m org (State.wake_ s a1) := by
  intro s a1 hp h
  unfold State.wake_
  try dsimp only
  repeat' first
    | with_reducible assumption
    | ((with_reducible refine so hp ?_); rfl)
    | (with_reducible first
        | refine foldl_kept _ _ ?_ ?_ | refine State.setBoot_kept _ _ ?_ ?_ | refine State.setBit_kept _ _ _ _ ?_ ?_
        | refine State.put_kept _ _ _ _ ?_ ?_ | refine State.setTm_kept _ _ ?_ ?_ | refine State.setGr_kept _ _ ?_ ?_
        | refine State.leaveDark_kept _ _ _ ?_ ?_)
    | intro _

theorem State.noteMatch_kept {m : Nat} {org : State} :
    ∀ s a1, Sub 512 m → Kept m org s → Kept m org (State.noteMatch s a1) := by
  intro s a1 hp h
  unfold State.noteMatch
  try dsimp only
  repeat' first
    | (with_reducible first
        | assumption | refine ite_kept ?_ ?_ | refine State.setBoot_kept _ _ ?_ ?_)

theorem State.wakeSeen_kept {m : Nat} {org : State} :
    ∀ s a1, Sub 152044326 m → Kept m org s → Kept m org (State.wakeSeen s a1) := by
  intro s a1 hp h
  unfold State.wakeSeen
  try dsimp only
  repeat' first
    | with_reducible assumption
    | ((with_reducible refine so hp ?_); rfl)
    | (with_reducible first
        | refine ite_kept ?_ ?_ | refine State.wake__kept _ _ ?_ ?_ | refine State.setBoot_kept _ _ ?_ ?_)

theorem State.glimReached_kept {m : Nat} {org : State} :
    ∀ s, Sub 1266485046 m → Kept m org s → Kept m org (State.glimReached s) := by
  intro s hp h
  unfold State.glimReached
  try dsimp only
  repeat' first
    | with_reducible assumption
    | ((with_reducible refine so hp ?_); rfl)
    | (with_reducible first
        | refine ite_kept ?_ ?_ | refine State.glimLose_kept _ ?_ ?_ | refine State.enterWick_kept _ _ ?_ ?_
        | refine State.setBit_kept _ _ _ _ ?_ ?_ | refine State.setBoot_kept _ _ ?_ ?_
        | refine State.wake__kept _ _ ?_ ?_)
    | split

theorem State.touchBlock_kept {m : Nat} {org : State} :
    ∀ s a1, Sub 512 m → Kept m org s → Kept m org (State.touchBlock s a1) := by
  intro s a1 hp h
  unfold State.touchBlock
  try dsimp only
  repeat' first
    | (with_reducible first
        | assumption | refine State.setBoot_kept _ _ ?_ ?_)

theorem execUplinkWakeMatch_kept {m : Nat} {org : State} :
    ∀ a0 a1 s, Sub 152044326 m → Kept m org s → KeptOut m org (execUplinkWakeMatch a0 a1 s) := by
  intro a0 a1 s hp h
  unfold execUplinkWakeMatch
  try dsimp only
  repeat' first
    | with_reducible assumption
    | ((with_reducible refine so hp ?_); rfl)
    | (with_reducible first
        | refine ite_kept ?_ ?_ | refine ite_keptOut ?_ ?_ | refine next_kept ?_
        | refine State.setBit_kept _ _ _ _ ?_ ?_ | refine State.bump_kept _ _ _ _ ?_ ?_
        | refine State.wakeSeen_kept _ _ ?_ ?_ | refine State.noteMatch_kept _ _ ?_ ?_)

theorem execGlimGo_kept {m : Nat} {org : State} :
    ∀ a0 s, Sub 1266485110 m → Kept m org s → KeptOut m org (execGlimGo a0 s) := by
  intro a0 s hp h
  unfold execGlimGo
  try dsimp only
  repeat' first
    | with_reducible assumption
    | ((with_reducible refine so hp ?_); rfl)
    | (with_reducible first
        | refine ite_kept ?_ ?_ | refine ite_keptOut ?_ ?_ | refine next_kept ?_
        | refine State.setBit_kept _ _ _ _ ?_ ?_ | refine State.saveFirst_kept _ _ ?_ ?_
        | refine State.glimReached_kept _ ?_ ?_ | refine State.setBoot_kept _ _ ?_ ?_)
    | split

theorem execGlimDrainExpiry_kept {m : Nat} {org : State} :
    ∀ s, Sub 1052966 m → Kept m org s → KeptOut m org (execGlimDrainExpiry s) := by
  intro s hp h
  unfold execGlimDrainExpiry
  try dsimp only
  repeat' first
    | (with_reducible first
        | assumption | refine ite_keptOut ?_ ?_ | refine next_kept ?_ | refine State.glimPurge_kept _ ?_ ?_)
    | split

theorem execGlimReached_kept {m : Nat} {org : State} :
    ∀ s, Sub 1266485046 m → Kept m org s → KeptOut m org (execGlimReached s) := by
  intro s hp h
  unfold execGlimReached
  try dsimp only
  repeat' first
    | (with_reducible first
        | assumption | refine ite_keptOut ?_ ?_ | refine next_kept ?_ | refine State.glimReached_kept _ ?_ ?_)

theorem execGlimWakeTime_kept {m : Nat} {org : State} :
    ∀ s, Sub 152044326 m → Kept m org s → KeptOut m org (execGlimWakeTime s) := by
  intro s hp h
  unfold execGlimWakeTime
  try dsimp only
  repeat' first
    | (with_reducible first
        | assumption | refine ite_keptOut ?_ ?_ | refine next_kept ?_ | refine State.wakeSeen_kept _ _ ?_ ?_)

theorem execGlimReturnComplete_kept {m : Nat} {org : State} :
    ∀ s, Sub 1830 m → Kept m org s → KeptOut m org (execGlimReturnComplete s) := by
  intro s hp h
  unfold execGlimReturnComplete
  try dsimp only
  repeat' first
    | with_reducible assumption
    | ((with_reducible refine so hp ?_); rfl)
    | (with_reducible first
        | refine ite_kept ?_ ?_ | refine ite_keptOut ?_ ?_ | refine next_kept ?_
        | refine State.put_kept _ _ _ _ ?_ ?_ | refine State.setBoot_kept _ _ ?_ ?_
        | refine State.lifeCount_kept _ _ _ ?_ ?_ | refine State.bump_kept _ _ _ _ ?_ ?_
        | refine State.setLife_kept _ _ ?_ ?_ | refine State.raiseChange_kept _ _ _ _ _ _ ?_ ?_
        | refine State.trimEnter_kept _ ?_ ?_)
    | split

theorem execBlockClockStop_kept {m : Nat} {org : State} :
    ∀ a0 s, Sub 512 m → Kept m org s → KeptOut m org (execBlockClockStop a0 s) := by
  intro a0 s hp h
  unfold execBlockClockStop
  try dsimp only
  repeat' first
    | (with_reducible first
        | assumption | refine ite_keptOut ?_ ?_ | refine next_kept ?_ | refine State.setBoot_kept _ _ ?_ ?_)

end Sys2Proof.Machine
end

