-- ==== Sys2Proof/Laws/Kept/Writes.lean ====
section
/-!
SUPPORT. The operations of Machine/Writes.lean keep soundness and the parts they do not name.
-/

namespace Sys2Proof.Machine

open State

theorem State.boundaryApply_kept {m : Nat} {org : State} :
    ∀ s a1 a2, Sub 1869987638 m → Kept m org s → Kept m org (State.boundaryApply s a1 a2) := by
  intro s a1 a2 hp h
  unfold State.boundaryApply
  try dsimp only
  repeat' first
    | with_reducible assumption
    | ((with_reducible refine so hp ?_); rfl)
    | (with_reducible first
        | refine ite_kept ?_ ?_ | refine State.ciphApply_kept _ _ _ ?_ ?_ | refine State.wickApply_kept _ _ _ ?_ ?_
        | refine State.trafficApply_kept _ _ _ ?_ ?_ | refine State.galApply_kept _ _ _ ?_ ?_
        | refine State.sumpApply_kept _ _ _ ?_ ?_ | refine State.powerApply_kept _ _ ?_ ?_
        | refine State.snuffApply_kept _ _ _ ?_ ?_ | refine State.actApply_kept _ _ _ ?_ ?_
        | refine State.uplinkApply_kept _ _ _ ?_ ?_ | refine State.presetWritten_kept _ _ _ ?_ ?_
        | refine State.voteEnable_kept _ ?_ ?_ | refine State.darkAll_kept _ _ ?_ ?_)
    | split

theorem State.putSetting_kept {m : Nat} {org : State} :
    ∀ s a1, Sub 34 m → Kept m org s → Kept m org (State.putSetting s a1) := by
  intro s a1 hp h
  unfold State.putSetting
  try dsimp only
  repeat' first
    | with_reducible assumption
    | ((with_reducible refine so hp ?_); rfl)
    | (with_reducible first
        | refine State.markOnce_kept _ _ _ ?_ ?_ | refine State.putVal_kept _ _ _ _ ?_ ?_)

theorem State.unmarkOnce_kept {m : Nat} {org : State} :
    ∀ s a1, Sub 32 m → Kept m org s → Kept m org (State.unmarkOnce s a1) := by
  intro s a1 hp h
  unfold State.unmarkOnce
  try dsimp only
  repeat' first
    | (with_reducible first
        | assumption | refine ite_kept ?_ ?_ | refine State.setLan_kept _ _ ?_ ?_)
    | split

theorem State.refusedLate_kept {m : Nat} {org : State} :
    ∀ s a1 a2, Sub 38 m → Kept m org s → Kept m org (State.refusedLate s a1 a2) := by
  intro s a1 a2 hp h
  unfold State.refusedLate
  try dsimp only
  repeat' first
    | (with_reducible first
        | assumption | refine State.recordOnce_kept _ _ _ _ ?_ ?_)
    | split

theorem State.wordsClear_kept {m : Nat} {org : State} :
    ∀ s a1, Sub 2 m → Kept m org s → Kept m org (State.wordsClear s a1) := by
  intro s a1 hp h
  unfold State.wordsClear
  try dsimp only
  repeat' first
    | (with_reducible first
        | assumption | refine foldl_kept _ _ ?_ ?_ | refine State.put_kept _ _ _ _ ?_ ?_)
    | intro _

theorem State.fecDefaults_kept {m : Nat} {org : State} :
    ∀ s a1, Sub 2 m → Kept m org s → Kept m org (State.fecDefaults s a1) := by
  intro s a1 hp h
  unfold State.fecDefaults
  try dsimp only
  repeat' first
    | (with_reducible first
        | assumption | refine foldl_kept _ _ ?_ ?_ | refine State.putVal_kept _ _ _ _ ?_ ?_)
    | intro _

theorem State.withSettings_kept {m : Nat} {org : State} :
    ∀ s a1, Sub 34 m → Kept m org s → Kept m org (State.withSettings s a1) := by
  intro s a1 hp h
  unfold State.withSettings
  try dsimp only
  repeat' first
    | with_reducible assumption
    | ((with_reducible refine so hp ?_); rfl)
    | (with_reducible first
        | refine foldl_kept _ _ ?_ ?_ | refine State.putSetting_kept _ _ ?_ ?_
        | refine State.wordsClear_kept _ _ ?_ ?_ | refine State.profileDefaults_kept _ _ ?_ ?_
        | refine State.fecDefaults_kept _ _ ?_ ?_)
    | split
    | intro _

theorem State.takeSettings_kept {m : Nat} {org : State} :
    ∀ s a1, Sub 1869987638 m → Kept m org s → Kept m org (State.takeSettings s a1) := by
  intro s a1 hp h
  unfold State.takeSettings
  try dsimp only
  repeat' first
    | with_reducible assumption
    | ((with_reducible refine so hp ?_); rfl)
    | (with_reducible first
        | refine foldl_kept _ _ ?_ ?_ | refine State.withSettings_kept _ _ ?_ ?_ | refine State.setLan_kept _ _ ?_ ?_
        | refine State.boundaryApply_kept _ _ _ ?_ ?_)
    | intro _

theorem State.answer_kept {m : Nat} {org : State} :
    ∀ s a1 a2, Sub 32 m → Kept m org s → Kept m org (State.answer s a1 a2) := by
  intro s a1 a2 hp h
  unfold State.answer
  try dsimp only
  repeat' first
    | (with_reducible first
        | assumption | refine State.setLan_kept _ _ ?_ ?_)

theorem State.boundaryWrites_kept {m : Nat} {org : State} :
    ∀ s a1, Sub 1869987638 m → Kept m org s → Kept m org (State.boundaryWrites s a1) := by
  intro s a1 hp h
  unfold State.boundaryWrites
  try dsimp only
  repeat' first
    | with_reducible assumption
    | ((with_reducible refine so hp ?_); rfl)
    | (with_reducible first
        | refine ite_kept ?_ ?_ | refine foldl_kept _ _ ?_ ?_ | refine State.setLan_kept _ _ ?_ ?_
        | refine State.takeSettings_kept _ _ ?_ ?_ | refine State.answer_kept _ _ _ ?_ ?_
        | refine State.refusedLate_kept _ _ _ ?_ ?_ | refine State.unmarkOnce_kept _ _ ?_ ?_
        | refine State.bump_kept _ _ _ _ ?_ ?_)
    | split
    | intro _

theorem State.packetWrites_kept {m : Nat} {org : State} :
    ∀ s, Sub 1869987638 m → Kept m org s → Kept m org (State.packetWrites s) := by
  intro s hp h
  unfold State.packetWrites
  try dsimp only
  repeat' first
    | (with_reducible first
        | assumption | refine ite_kept ?_ ?_ | refine State.boundaryWrites_kept _ _ ?_ ?_)

theorem State.builtIn_kept {m : Nat} {org : State} : ∀ s, Sub 33554434 m → Kept m org s → Kept m org (State.builtIn s) := by
  intro s hp h
  exact step_kept h (fun k => ⟨⟨rfl, k.1.2⟩, k.2⟩)
    (by intro p hq; cases p <;> first | exact (hit hp rfl hq).elim | rfl)

theorem State.settingsNow_kept {m : Nat} {org : State} :
    ∀ s a1, Sub 68497710 m → Kept m org s → Kept m org (State.settingsNow s a1).1 := by
  intro s a1 hp h
  unfold State.settingsNow
  try dsimp only
  repeat' first
    | (with_reducible first
        | assumption | refine foldl_kept1 _ _ ?_ ?_ | refine State.settingEff_kept _ _ _ _ _ ?_ ?_)
    | dsimp only
    | intro _

end Sys2Proof.Machine
end

