-- ==== Sys2Proof/Laws/Kept/Boot.lean ====
section
/-!
SUPPORT. The operations of Machine/Boot.lean keep soundness and the parts they do not name.
-/

namespace Sys2Proof.Machine

open State

theorem State.firmwareSlots_kept {m : Nat} {org : State} :
    ∀ s, Sub 2 m → Kept m org s → Kept m org (State.firmwareSlots s) := by
  intro s hp h
  unfold State.firmwareSlots
  try dsimp only
  repeat' first
    | (with_reducible first
        | assumption | refine foldl_kept _ _ ?_ ?_ | refine State.put_kept _ _ _ _ ?_ ?_)
    | split
    | intro _

theorem State.signStop_kept {m : Nat} {org : State} :
    ∀ s, Sub 64 m → Kept m org s → Kept m org (State.signStop s) := by
  intro s hp h
  unfold State.signStop
  try dsimp only
  repeat' first
    | (with_reducible first
        | assumption | refine ite_kept ?_ ?_ | refine State.setNvm_kept _ _ ?_ ?_)

theorem State.orderly_kept {m : Nat} {org : State} :
    ∀ s, Sub 1090 m → Kept m org s → Kept m org (State.orderly s) := by
  intro s hp h
  unfold State.orderly
  try dsimp only
  repeat' first
    | with_reducible assumption
    | ((with_reducible refine so hp ?_); rfl)
    | (with_reducible first
        | refine State.signStop_kept _ ?_ ?_ | refine State.saveFirst_kept _ _ ?_ ?_)

theorem State.storeKey_kept {m : Nat} {org : State} :
    ∀ s a1 a2, Sub 96 m → Kept m org s → Kept m org (State.storeKey s a1 a2) := by
  intro s a1 a2 hp h
  unfold State.storeKey
  try dsimp only
  repeat' first
    | with_reducible assumption
    | ((with_reducible refine so hp ?_); rfl)
    | (with_reducible first
        | refine ite_kept ?_ ?_ | refine State.setNvm_kept _ _ ?_ ?_ | refine State.setMaster_kept _ _ _ ?_ ?_)

theorem State.bootSelect_kept {m : Nat} {org : State} :
    ∀ s, Sub 66 m → Kept m org s → Kept m org (State.bootSelect s).1 := by
  intro s hp h
  unfold State.bootSelect
  try dsimp only
  repeat' first
    | with_reducible assumption
    | ((with_reducible refine so hp ?_); rfl)
    | (with_reducible first
        | refine ite_kept ?_ ?_ | refine State.setNvm_kept _ _ ?_ ?_ | refine State.put_kept _ _ _ _ ?_ ?_)
    | split

theorem State.confirm_kept {m : Nat} {org : State} :
    ∀ s, Sub 66 m → Kept m org s → Kept m org (State.confirm s) := by
  intro s hp h
  unfold State.confirm
  try dsimp only
  repeat' first
    | with_reducible assumption
    | ((with_reducible refine so hp ?_); rfl)
    | (with_reducible first
        | refine ite_kept ?_ ?_ | refine State.put_kept _ _ _ _ ?_ ?_ | refine State.setNvm_kept _ _ ?_ ?_)

theorem State.autoConfirm_kept {m : Nat} {org : State} :
    ∀ s, Sub 66 m → Kept m org s → Kept m org (State.autoConfirm s) := by
  intro s hp h
  unfold State.autoConfirm
  try dsimp only
  repeat' first
    | (with_reducible first
        | assumption | refine ite_kept ?_ ?_ | refine State.confirm_kept _ ?_ ?_)

theorem State.commissionLoad_kept {m : Nat} {org : State} :
    ∀ s, Sub 102052142 m → Kept m org s → Kept m org (State.commissionLoad s) := by
  intro s hp h
  unfold State.commissionLoad
  try dsimp only
  repeat' first
    | with_reducible assumption
    | ((with_reducible refine so hp ?_); rfl)
    | (with_reducible first
        | refine ite_kept ?_ ?_ | refine State.setLan_kept _ _ ?_ ?_)
    | split

theorem State.lanternServe_kept {m : Nat} {org : State} :
    ∀ s, Sub 544 m → Kept m org s → Kept m org (State.lanternServe s) := by
  intro s hp h
  unfold State.lanternServe
  try dsimp only
  repeat' first
    | with_reducible assumption
    | ((with_reducible refine so hp ?_); rfl)
    | (with_reducible first
        | refine State.setLan_kept _ _ ?_ ?_ | refine State.setBoot_kept _ _ ?_ ?_)

theorem State.firmwareStart_kept {m : Nat} {org : State} :
    ∀ s a1 a2, Sub 102053742 m → Kept m org s → Kept m org (State.firmwareStart s a1 a2) := by
  intro s a1 a2 hp h
  unfold State.firmwareStart
  try dsimp only
  repeat' first
    | with_reducible assumption
    | ((with_reducible refine so hp ?_); rfl)
    | (with_reducible first
        | refine ite_kept ?_ ?_ | refine State.lanternServe_kept _ ?_ ?_ | refine State.setBoot_kept _ _ ?_ ?_
        | refine State.put_kept _ _ _ _ ?_ ?_ | refine State.putOct_kept _ _ _ _ ?_ ?_
        | refine State.commissionLoad_kept _ ?_ ?_ | refine State.startEvent_kept _ ?_ ?_
        | refine State.quarantineRestore_kept _ ?_ ?_ | refine State.raiseConfig_kept _ _ _ ?_ ?_
        | refine State.lifeCount_kept _ _ _ ?_ ?_ | refine State.lifeRestore_kept _ ?_ ?_
        | refine State.autoConfirm_kept _ ?_ ?_)
    | split

theorem State.firmwareLoaded_kept {m : Nat} {org : State} :
    ∀ s, Sub 102053742 m → Kept m org s → Kept m org (State.firmwareLoaded s) := by
  intro s hp h
  unfold State.firmwareLoaded
  try dsimp only
  repeat' first
    | with_reducible assumption
    | ((with_reducible refine so hp ?_); rfl)
    | (with_reducible first
        | refine State.bootSelect_kept _ ?_ ?_ | refine State.put_kept _ _ _ _ ?_ ?_
        | refine State.firmwareSlots_kept _ ?_ ?_ | refine State.firmwareStart_kept _ _ _ ?_ ?_
        | refine State.lanternServe_kept _ ?_ ?_ | refine State.setBoot_kept _ _ ?_ ?_)
    | split

theorem State.dieReset_kept {m : Nat} {org : State} : ∀ s a1 a2, Sub 1610612670 m → Kept m org s → Kept m org (State.dieReset s a1 a2) := by
  intro s a1 a2 hp h
  unfold State.dieReset
  extract_lets u
  have k0 : Kept m org u := State.dropObjs_kept _ _ (so hp rfl) h
  split
  rename_i j u2 hj
  extract_lets t t1 t2 t3 t4
  have k1 : Kept m org u2 := snd_kept hj (State.draw_kept _ (so hp rfl) k0)
  have k2 : Kept m org t := step_kept k1
    (fun k => ⟨⟨k.1.1, tabWf_filter _ k.1.2⟩, fun _ hx => (List.not_mem_nil hx).elim, ⟨k.2.2.1, k.2.2.2⟩⟩)
    (by intro p hq; cases p <;> first | exact (hit hp rfl hq).elim | rfl)
  have k3 : Kept m org t2 := State.setBoot_kept _ _ (so hp rfl) (State.setLife_kept _ _ (so hp rfl) k2)
  have k4 : Kept m org t3 := ite_kept (State.put_kept _ _ _ _ (so hp rfl) k3) k3
  have k5 : Kept m org t4 := ite_kept k4 (State.setLan_kept _ _ (so hp rfl) k4)
  exact State.put_kept _ _ _ _ (so hp rfl) (State.putReg_kept _ _ _ (so hp rfl) (State.put_kept _ _ _ _ (so hp rfl) k5))

theorem State.fullReset_kept {m : Nat} {org : State} :
    ∀ s a1 a2, Sub 1610612670 m → Kept m org s → Kept m org (State.fullReset s a1 a2) := by
  intro s a1 a2 hp h
  unfold State.fullReset
  try dsimp only
  repeat' first
    | with_reducible assumption
    | ((with_reducible refine so hp ?_); rfl)
    | (with_reducible first
        | refine State.dieReset_kept _ _ _ ?_ ?_ | refine State.lanternStop_kept _ ?_ ?_
        | refine State.put_kept _ _ _ _ ?_ ?_ | refine State.setBoot_kept _ _ ?_ ?_)

theorem State.enableBlocks_kept {m : Nat} {org : State} :
    ∀ s, Sub 4 m → Kept m org s → Kept m org (State.enableBlocks s) := by
  intro s hp h
  unfold State.enableBlocks
  try dsimp only
  repeat' first
    | (with_reducible first
        | assumption | refine foldl_kept _ _ ?_ ?_ | refine State.setBit_kept _ _ _ _ ?_ ?_)
    | intro _

theorem State.imageApply_kept {m : Nat} {org : State} :
    ∀ s, Sub 1869987710 m → Kept m org s → Kept m org (State.imageApply s) := by
  intro s hp h
  unfold State.imageApply
  try dsimp only
  repeat' first
    | with_reducible assumption
    | ((with_reducible refine so hp ?_); rfl)
    | (with_reducible first
        | refine foldl_kept _ _ ?_ ?_ | refine State.takeSettings_kept _ _ ?_ ?_
        | refine State.settingsNow_kept _ _ ?_ ?_ | refine State.storeKey_kept _ _ _ ?_ ?_)
    | intro _

theorem State.shadowApply_kept {m : Nat} {org : State} :
    ∀ s, Sub 154221366 m → Kept m org s → Kept m org (State.shadowApply s) := by
  intro s hp h
  unfold State.shadowApply
  try dsimp only
  repeat' first
    | with_reducible assumption
    | ((with_reducible refine so hp ?_); rfl)
    | (with_reducible first
        | refine ite_kept ?_ ?_ | refine foldl_kept _ _ ?_ ?_ | refine State.loopEff_kept _ _ _ _ ?_ ?_
        | refine State.domReturn_kept _ _ ?_ ?_ | refine State.domRestart_kept _ _ ?_ ?_
        | refine State.powerApply_kept _ _ ?_ ?_ | refine State.trimEnter_kept _ ?_ ?_
        | refine State.leaveDark_kept _ _ _ ?_ ?_ | refine State.leaveAll_kept _ ?_ ?_)
    | intro _

theorem State.configure_kept {m : Nat} {org : State} :
    ∀ s, Sub 1869987710 m → Kept m org s → Kept m org (State.configure s) := by
  intro s hp h
  unfold State.configure
  try dsimp only
  repeat' first
    | with_reducible assumption
    | ((with_reducible refine so hp ?_); rfl)
    | (with_reducible first
        | refine ite_kept ?_ ?_ | refine State.enableBlocks_kept _ ?_ ?_ | refine State.setBoot_kept _ _ ?_ ?_
        | refine State.put_kept _ _ _ _ ?_ ?_ | refine State.shadowApply_kept _ ?_ ?_
        | refine State.imageApply_kept _ ?_ ?_ | refine State.quarantineRestore_kept _ ?_ ?_
        | refine State.laneStartUp_kept _ ?_ ?_)

theorem State.dieRelease_kept {m : Nat} {org : State} :
    ∀ s, Sub 1869987710 m → Kept m org s → Kept m org (State.dieRelease s) := by
  intro s hp h
  unfold State.dieRelease
  try dsimp only
  repeat' first
    | with_reducible assumption
    | ((with_reducible refine so hp ?_); rfl)
    | (with_reducible first
        | refine ite_kept ?_ ?_ | refine State.setBoot_kept _ _ ?_ ?_ | refine State.put_kept _ _ _ _ ?_ ?_
        | refine State.configure_kept _ ?_ ?_)

theorem State.coldFrom_kept {m : Nat} {org : State} : ∀ s, Sub 1610612670 m → Kept m org s → Kept m org (State.coldFrom s) := by
  intro s hp h
  unfold State.coldFrom
  extract_lets r0 r1 t t1 t2
  have k0 : Kept m org t := step_kept h
    (fun _ => ⟨⟨rfl, rfl⟩, fun _ hx => (List.not_mem_nil hx).elim, ⟨rfl, rfl, rfl, rfl⟩⟩)
    (by intro p hq; cases p <;> first | exact (hit hp rfl hq).elim | rfl)
  have k1 : Kept m org t1 := State.setLan_kept _ _ (so hp rfl) k0
  have k2 : Kept m org t2 := foldl_kept _ _ k1 fun u p hu => State.putReg_kept _ _ _ (so hp rfl) hu
  exact ite_kept k2 (State.putOct_kept _ _ _ _ (so hp rfl) k2)

theorem State.abandonStore_kept {m : Nat} {org : State} :
    ∀ s, Sub 66 m → Kept m org s → Kept m org (State.abandonStore s) := by
  intro s hp h
  unfold State.abandonStore
  try dsimp only
  repeat' first
    | with_reducible assumption
    | ((with_reducible refine so hp ?_); rfl)
    | (with_reducible first
        | refine ite_kept ?_ ?_ | refine State.firmwareSlots_kept _ ?_ ?_ | refine State.put_kept _ _ _ _ ?_ ?_)
    | ((with_reducible refine mk_kept ?_ ?_ ?_ ?_ ?_ ?_ ?_ ?_ ?_ ?_ ?_ ?_ ?_ ?_ ?_ ?_ ?_ ?_ ?_ ?_ ?_ ?_ ?_ ?_ ?_ ?_ ?_) <;> try (intro hq; first | exact (hit hp rfl hq).elim | with_reducible rfl))

theorem State.powerOff_kept {m : Nat} {org : State} :
    ∀ s, Sub 1610612734 m → Kept m org s → Kept m org (State.powerOff s) := by
  intro s hp h
  unfold State.powerOff
  try dsimp only
  repeat' first
    | with_reducible assumption
    | ((with_reducible refine so hp ?_); rfl)
    | (with_reducible first
        | refine ite_kept ?_ ?_ | refine State.abandonStore_kept _ ?_ ?_ | refine State.setBoot_kept _ _ ?_ ?_
        | refine State.coldFrom_kept _ ?_ ?_)
    | ((with_reducible refine mk_kept ?_ ?_ ?_ ?_ ?_ ?_ ?_ ?_ ?_ ?_ ?_ ?_ ?_ ?_ ?_ ?_ ?_ ?_ ?_ ?_ ?_ ?_ ?_ ?_ ?_ ?_ ?_) <;> try (intro hq; first | exact (hit hp rfl hq).elim | with_reducible rfl))

theorem State.putRail_kept {m : Nat} {org : State} :
    ∀ s a1 a2, Sub 512 m → Kept m org s → Kept m org (State.putRail s a1 a2) := by
  intro s a1 a2 hp h
  unfold State.putRail
  try dsimp only
  repeat' first
    | (with_reducible first
        | assumption | refine State.setBoot_kept _ _ ?_ ?_)

theorem State.startStopped_kept {m : Nat} {org : State} :
    ∀ s, Sub 1610612670 m → Kept m org s → Kept m org (State.startStopped s) := by
  intro s hp h
  unfold State.startStopped
  try dsimp only
  repeat' first
    | with_reducible assumption
    | ((with_reducible refine so hp ?_); rfl)
    | (with_reducible first
        | refine State.puti_kept _ _ _ _ ?_ ?_ | refine State.coldFrom_kept _ ?_ ?_
        | refine State.setBoot_kept _ _ ?_ ?_ | refine State.bump_kept _ _ _ _ ?_ ?_
        | refine State.put_kept _ _ _ _ ?_ ?_ | refine State.setClk_kept _ _ ?_ ?_ ?_)
    | exact fun _ hc => ⟨hc.1, hc.2⟩

theorem State.railUp_kept {m : Nat} {org : State} :
    ∀ s a1, Sub 770 m → Kept m org s → Kept m org (State.railUp s a1) := by
  intro s a1 hp h
  unfold State.railUp
  try dsimp only
  repeat' first
    | with_reducible assumption
    | ((with_reducible refine so hp ?_); rfl)
    | (with_reducible first
        | refine ite_kept ?_ ?_ | refine State.putRail_kept _ _ _ ?_ ?_ | refine State.setUcie_kept _ _ ?_ ?_
        | refine State.put_kept _ _ _ _ ?_ ?_)
    | split

theorem execColdStart_kept {m : Nat} {org : State} :
    ∀ a0 a1 s, Sub 1610612670 m → Kept m org s → KeptOut m org (execColdStart a0 a1 s) := by
  intro a0 a1 s hp h
  unfold execColdStart
  try dsimp only
  repeat' first
    | with_reducible assumption
    | ((with_reducible refine so hp ?_); rfl)
    | (with_reducible first
        | refine ite_kept ?_ ?_ | refine ite_keptOut ?_ ?_ | refine next_kept ?_
        | refine State.puti_kept _ _ _ _ ?_ ?_ | refine State.coldFrom_kept _ ?_ ?_
        | refine State.put_kept _ _ _ _ ?_ ?_ | refine State.setBoot_kept _ _ ?_ ?_
        | refine State.railUp_kept _ _ ?_ ?_ | refine State.setClk_kept _ _ ?_ ?_ ?_)
    | exact fun _ hc => ⟨hc.1, hc.2⟩

theorem execResetNRecognised_kept {m : Nat} {org : State} :
    ∀ s, Sub 1610612670 m → Kept m org s → KeptOut m org (execResetNRecognised s) := by
  intro s hp h
  unfold execResetNRecognised
  try dsimp only
  repeat' first
    | with_reducible assumption
    | ((with_reducible refine so hp ?_); rfl)
    | (with_reducible first
        | refine ite_keptOut ?_ ?_ | refine next_kept ?_ | refine State.setBoot_kept _ _ ?_ ?_
        | refine State.fullReset_kept _ _ _ ?_ ?_)

theorem execUndervoltageReset_kept {m : Nat} {org : State} :
    ∀ s, Sub 1610612734 m → Kept m org s → KeptOut m org (execUndervoltageReset s) := by
  intro s hp h
  unfold execUndervoltageReset
  try dsimp only
  repeat' first
    | (with_reducible first
        | assumption | refine ite_keptOut ?_ ?_ | refine next_kept ?_ | refine State.powerOff_kept _ ?_ ?_)

theorem execPowerFailWarning_kept {m : Nat} {org : State} :
    ∀ a0 s, Sub 1382 m → Kept m org s → KeptOut m org (execPowerFailWarning a0 s) := by
  intro a0 s hp h
  unfold execPowerFailWarning
  try dsimp only
  repeat' first
    | with_reducible assumption
    | ((with_reducible refine so hp ?_); rfl)
    | (with_reducible first
        | refine ite_kept ?_ ?_ | refine ite_keptOut ?_ ?_ | refine next_kept ?_
        | refine State.put_kept _ _ _ _ ?_ ?_ | refine State.setBit_kept _ _ _ _ ?_ ?_
        | refine State.setField_kept _ _ _ _ _ ?_ ?_ | refine State.abandonStore_kept _ ?_ ?_
        | refine State.raiseChange_kept _ _ _ _ _ _ ?_ ?_ | refine State.lifeCount_kept _ _ _ ?_ ?_
        | refine State.signStop_kept _ ?_ ?_ | refine State.saveStart_kept _ _ ?_ ?_)

theorem execPowerFailWarningEnd_kept {m : Nat} {org : State} :
    ∀ s, Sub 294 m → Kept m org s → KeptOut m org (execPowerFailWarningEnd s) := by
  intro s hp h
  unfold execPowerFailWarningEnd
  try dsimp only
  repeat' first
    | with_reducible assumption
    | ((with_reducible refine so hp ?_); rfl)
    | (with_reducible first
        | refine ite_keptOut ?_ ?_ | refine next_kept ?_ | refine State.raiseChange_kept _ _ _ _ _ _ ?_ ?_
        | refine State.setField_kept _ _ _ _ _ ?_ ?_ | refine State.put_kept _ _ _ _ ?_ ?_)

theorem execRailInWindow_kept {m : Nat} {org : State} :
    ∀ a0 s, Sub 770 m → Kept m org s → KeptOut m org (execRailInWindow a0 s) := by
  intro a0 s hp h
  unfold execRailInWindow
  try dsimp only
  repeat' first
    | (with_reducible first
        | assumption | refine ite_keptOut ?_ ?_ | refine next_kept ?_ | refine State.railUp_kept _ _ ?_ ?_)
    | split

theorem execRailStartTimeout_kept {m : Nat} {org : State} :
    ∀ s, Sub 1610612670 m → Kept m org s → KeptOut m org (execRailStartTimeout s) := by
  intro s hp h
  unfold execRailStartTimeout
  try dsimp only
  repeat' first
    | (with_reducible first
        | assumption | refine ite_keptOut ?_ ?_ | refine next_kept ?_ | refine State.startStopped_kept _ ?_ ?_)

theorem execRegulationRestart_kept {m : Nat} {org : State} :
    ∀ s, Sub 528 m → Kept m org s → KeptOut m org (execRegulationRestart s) := by
  intro s hp h
  unfold execRegulationRestart
  try dsimp only
  repeat' first
    | with_reducible assumption
    | ((with_reducible refine so hp ?_); rfl)
    | (with_reducible first
        | refine ite_keptOut ?_ ?_ | refine next_kept ?_ | refine State.putRail_kept _ _ _ ?_ ?_
        | refine State.setBoot_kept _ _ ?_ ?_ | refine State.setClk_kept _ _ ?_ ?_ ?_)
    | exact fun _ hc => ⟨hc.1, hc.2⟩
    | split

theorem execFirmwareLoaded_kept {m : Nat} {org : State} :
    ∀ s, Sub 102053742 m → Kept m org s → KeptOut m org (execFirmwareLoaded s) := by
  intro s hp h
  unfold execFirmwareLoaded
  try dsimp only
  repeat' first
    | (with_reducible first
        | assumption | refine ite_keptOut ?_ ?_ | refine next_kept ?_ | refine State.firmwareLoaded_kept _ ?_ ?_)

theorem execUcieTrained_kept {m : Nat} {org : State} :
    ∀ a0 s, Sub 1869987710 m → Kept m org s → KeptOut m org (execUcieTrained a0 s) := by
  intro a0 s hp h
  unfold execUcieTrained
  try dsimp only
  repeat' first
    | with_reducible assumption
    | ((with_reducible refine so hp ?_); rfl)
    | (with_reducible first
        | refine ite_kept ?_ ?_ | refine ite_keptOut ?_ ?_ | refine next_kept ?_
        | refine State.putReg_kept _ _ _ ?_ ?_ | refine State.linkUp_kept _ _ _ ?_ ?_
        | refine State.dieRelease_kept _ ?_ ?_ | refine State.put_kept _ _ _ _ ?_ ?_)
    | split

theorem execMarchTestComplete_kept {m : Nat} {org : State} :
    ∀ a0 s, Sub 1869987710 m → Kept m org s → KeptOut m org (execMarchTestComplete a0 s) := by
  intro a0 s hp h
  unfold execMarchTestComplete
  try dsimp only
  repeat' first
    | with_reducible assumption
    | ((with_reducible refine so hp ?_); rfl)
    | (with_reducible first
        | refine ite_keptOut ?_ ?_ | refine next_kept ?_ | refine foldl_kept _ _ ?_ ?_
        | refine State.put_kept _ _ _ _ ?_ ?_ | refine State.setCause_kept _ _ ?_ ?_
        | refine State.configure_kept _ ?_ ?_)
    | intro _

theorem execReadyEvent_kept {m : Nat} {org : State} :
    ∀ s, Sub 866 m → Kept m org s → KeptOut m org (execReadyEvent s) := by
  intro s hp h
  unfold execReadyEvent
  try dsimp only
  repeat' first
    | with_reducible assumption
    | ((with_reducible refine so hp ?_); rfl)
    | (with_reducible first
        | refine ite_keptOut ?_ ?_ | refine next_kept ?_ | refine State.setBoot_kept _ _ ?_ ?_
        | refine State.put_kept _ _ _ _ ?_ ?_ | refine State.autoConfirm_kept _ ?_ ?_
        | refine State.raiseChange_kept _ _ _ _ _ _ ?_ ?_)

end Sys2Proof.Machine
end

