-- ==== Sys2Proof/Laws/Kept/Faults.lean ====
section
/-!
SUPPORT. The operations of Machine/Faults.lean keep soundness and the parts they do not name.
-/

namespace Sys2Proof.Machine

open State

theorem State.frameFail_kept {m : Nat} {org : State} :
    ∀ s a1, Sub 537923878 m → Kept m org s → Kept m org (State.frameFail s a1) := by
  intro s a1 hp h
  unfold State.frameFail
  try dsimp only
  repeat' first
    | with_reducible assumption
    | ((with_reducible refine so hp ?_); rfl)
    | (with_reducible first
        | refine foldl_kept _ _ ?_ ?_ | refine State.setCell_kept _ _ _ ?_ ?_ | refine State.setTm_kept _ _ ?_ ?_
        | refine State.releaseFrame_kept _ _ _ ?_ ?_ | refine State.cutAbort_kept _ _ _ ?_ ?_)
    | split
    | intro _

theorem State.frameDrop_kept {m : Nat} {org : State} :
    ∀ s a1, Sub 537923878 m → Kept m org s → Kept m org (State.frameDrop s a1) := by
  intro s a1 hp h
  unfold State.frameDrop
  try dsimp only
  repeat' first
    | with_reducible assumption
    | ((with_reducible refine so hp ?_); rfl)
    | (with_reducible first
        | refine foldl_kept _ _ ?_ ?_ | refine State.frameFail_kept _ _ ?_ ?_ | refine State.setTm_kept _ _ ?_ ?_
        | refine State.releaseFrame_kept _ _ _ ?_ ?_)
    | intro _

theorem State.busParity_kept {m : Nat} {org : State} :
    ∀ s a1 a2, Sub 537923878 m → Kept m org s → Kept m org (State.busParity s a1 a2) := by
  intro s a1 a2 hp h
  unfold State.busParity
  try dsimp only
  repeat' first
    | with_reducible assumption
    | ((with_reducible refine so hp ?_); rfl)
    | (with_reducible first
        | refine State.setBit_kept _ _ _ _ ?_ ?_ | refine State.putReg_kept _ _ _ ?_ ?_
        | refine State.bump_kept _ _ _ _ ?_ ?_ | refine State.frameFail_kept _ _ ?_ ?_
        | refine State.emit_kept _ _ ?_ ?_ | refine State.raiseFault_kept _ _ _ _ ?_ ?_)
    | split

theorem State.ruleParity_kept {m : Nat} {org : State} :
    ∀ s a1, Sub 262438 m → Kept m org s → Kept m org (State.ruleParity s a1) := by
  intro s a1 hp h
  unfold State.ruleParity
  try dsimp only
  repeat' first
    | with_reducible assumption
    | ((with_reducible refine so hp ?_); rfl)
    | (with_reducible first
        | refine ite_kept ?_ ?_ | refine State.setBit_kept _ _ _ _ ?_ ?_ | refine State.putReg_kept _ _ _ ?_ ?_
        | refine State.bump_kept _ _ _ _ ?_ ?_ | refine State.raiseFault_kept _ _ _ _ ?_ ?_
        | refine State.setGal_kept _ _ ?_ ?_)

theorem State.slotLost_kept {m : Nat} {org : State} :
    ∀ s a1 a2, Sub 33554434 m → Kept m org s → Kept m org (State.slotLost s a1 a2) := by
  intro s a1 a2 hp h
  unfold State.slotLost
  try dsimp only
  repeat' first
    | with_reducible assumption
    | ((with_reducible refine so hp ?_); rfl)
    | (with_reducible first
        | refine ite_kept ?_ ?_ | refine State.saErase_kept _ _ ?_ ?_ | refine State.put_kept _ _ _ _ ?_ ?_
        | refine State.slotErase_kept _ _ _ ?_ ?_)

theorem State.memAction_kept {m : Nat} {org : State} :
    ∀ s a1, Sub 591213366 m → Kept m org s → Kept m org (State.memAction s a1) := by
  intro s a1 hp h
  unfold State.memAction
  try dsimp only
  repeat' first
    | with_reducible assumption
    | ((with_reducible refine so hp ?_); rfl)
    | (with_reducible first
        | refine ite_kept ?_ ?_ | refine State.frameFail_kept _ _ ?_ ?_ | refine State.frameDrop_kept _ _ ?_ ?_
        | refine State.setTm_kept _ _ ?_ ?_ | refine State.setQueue_kept _ _ _ ?_ ?_
        | refine State.setNode_kept _ _ _ _ ?_ ?_ | refine State.setPolicer_kept _ _ _ ?_ ?_
        | refine State.laneOut_kept _ _ ?_ ?_ | refine State.lostActions_kept _ _ _ ?_ ?_
        | refine State.setBoot_kept _ _ ?_ ?_ | refine State.slotLost_kept _ _ _ ?_ ?_
        | refine State.galParity_kept _ _ ?_ ?_ | refine State.ruleParity_kept _ _ ?_ ?_
        | refine State.setGal_kept _ _ ?_ ?_ | refine State.tsLost_kept _ _ _ ?_ ?_
        | refine State.setTsQueue_kept _ _ _ ?_ ?_ | refine State.setBit_kept _ _ _ _ ?_ ?_
        | refine State.bump_kept _ _ _ _ ?_ ?_ | refine State.busParity_kept _ _ _ ?_ ?_
        | refine State.setClk_kept _ _ ?_ ?_ ?_)
    | exact fun _ hc => ⟨hc.1, hc.2⟩
    | split
    | ((with_reducible refine mk_kept ?_ ?_ ?_ ?_ ?_ ?_ ?_ ?_ ?_ ?_ ?_ ?_ ?_ ?_ ?_ ?_ ?_ ?_ ?_ ?_ ?_ ?_ ?_ ?_ ?_ ?_ ?_) <;> try (intro hq; first | exact (hit hp rfl hq).elim | with_reducible rfl))

theorem State.uncorrectable_kept {m : Nat} {org : State} :
    ∀ s a1 a2, Sub 591213366 m → Kept m org s → Kept m org (State.uncorrectable s a1 a2) := by
  intro s a1 a2 hp h
  unfold State.uncorrectable
  try dsimp only
  repeat' first
    | with_reducible assumption
    | ((with_reducible refine so hp ?_); rfl)
    | (with_reducible first
        | refine ite_kept ?_ ?_ | refine State.put_kept _ _ _ _ ?_ ?_ | refine State.bump_kept _ _ _ _ ?_ ?_
        | refine State.putReg_kept _ _ _ ?_ ?_ | refine State.setBit_kept _ _ _ _ ?_ ?_
        | refine State.setCause_kept _ _ ?_ ?_ | refine State.raiseFault_kept _ _ _ _ ?_ ?_
        | refine State.memAction_kept _ _ ?_ ?_)

theorem State.corrected_kept {m : Nat} {org : State} :
    ∀ s a1 a2, Sub 4390 m → Kept m org s → Kept m org (State.corrected s a1 a2) := by
  intro s a1 a2 hp h
  unfold State.corrected
  try dsimp only
  repeat' first
    | with_reducible assumption
    | ((with_reducible refine so hp ?_); rfl)
    | (with_reducible first
        | refine State.count_kept _ _ _ _ ?_ ?_ | refine State.setBit_kept _ _ _ _ ?_ ?_
        | refine State.put_kept _ _ _ _ ?_ ?_ | refine State.bump_kept _ _ _ _ ?_ ?_)

theorem State.reclaim_kept {m : Nat} {org : State} :
    ∀ s, Sub 1052966 m → Kept m org s → Kept m org (State.reclaim s) := by
  intro s hp h
  unfold State.reclaim
  try dsimp only
  repeat' first
    | with_reducible assumption
    | ((with_reducible refine so hp ?_); rfl)
    | (with_reducible first
        | refine foldl_kept _ _ ?_ ?_ | refine State.setTm_kept _ _ ?_ ?_
        | refine State.releaseFrame_kept _ _ _ ?_ ?_)
    | intro _

theorem State.rewrite_kept {m : Nat} {org : State} :
    ∀ s, Sub 262656 m → Kept m org s → Kept m org (State.rewrite s) := by
  intro s hp h
  unfold State.rewrite
  try dsimp only
  repeat' first
    | with_reducible assumption
    | ((with_reducible refine so hp ?_); rfl)
    | (with_reducible first
        | refine State.setGal_kept _ _ ?_ ?_ | refine State.setBoot_kept _ _ ?_ ?_)

theorem State.railFault_kept {m : Nat} {org : State} :
    ∀ s a1, Sub 1610612670 m → Kept m org s → Kept m org (State.railFault s a1) := by
  intro s a1 hp h
  unfold State.railFault
  try dsimp only
  repeat' first
    | with_reducible assumption
    | ((with_reducible refine so hp ?_); rfl)
    | (with_reducible first
        | refine State.lifeCount_kept _ _ _ ?_ ?_ | refine State.bump_kept _ _ _ _ ?_ ?_
        | refine State.putRail_kept _ _ _ ?_ ?_ | refine State.enterWick_kept _ _ ?_ ?_
        | refine State.setCause_kept _ _ ?_ ?_ | refine State.raiseFault_kept _ _ _ _ ?_ ?_
        | refine State.draw_kept _ ?_ ?_ | refine State.lanternReset_kept _ _ ?_ ?_
        | refine State.dieReset_kept _ _ _ ?_ ?_ | refine State.put_kept _ _ _ _ ?_ ?_
        | refine State.setBoot_kept _ _ ?_ ?_ | refine State.raiseL_kept _ _ _ _ _ ?_ ?_)
    | split

theorem State.causeClear_kept {m : Nat} {org : State} :
    ∀ s a1 a2, Sub 2 m → Kept m org s → Kept m org (State.causeClear s a1 a2) := by
  intro s a1 a2 hp h
  unfold State.causeClear
  try dsimp only
  repeat' first
    | (with_reducible first
        | assumption | refine State.put_kept _ _ _ _ ?_ ?_)

theorem State.causeClearEff_kept {m : Nat} {org : State} :
    ∀ a0 s a2 a3 a4, Sub 2 m → Kept m org s → Kept m org (State.causeClearEff a0 s a2 a3 a4).1 := by
  intro a0 s a2 a3 a4 hp h
  unfold State.causeClearEff
  try dsimp only
  repeat' first
    | (with_reducible first
        | assumption | refine State.causeClear_kept _ _ _ ?_ ?_)

theorem execBusParityError_kept {m : Nat} {org : State} :
    ∀ a0 a1 s, Sub 537923878 m → Kept m org s → KeptOut m org (execBusParityError a0 a1 s) := by
  intro a0 a1 s hp h
  unfold execBusParityError
  try dsimp only
  repeat' first
    | (with_reducible first
        | assumption | refine ite_keptOut ?_ ?_ | refine next_kept ?_ | refine State.busParity_kept _ _ _ ?_ ?_)

theorem execUncorrectableError_kept {m : Nat} {org : State} :
    ∀ a0 a1 s, Sub 591213366 m → Kept m org s → KeptOut m org (execUncorrectableError a0 a1 s) := by
  intro a0 a1 s hp h
  unfold execUncorrectableError
  try dsimp only
  repeat' first
    | (with_reducible first
        | assumption | refine ite_keptOut ?_ ?_ | refine next_kept ?_ | refine State.uncorrectable_kept _ _ _ ?_ ?_)

theorem execSingleBitError_kept {m : Nat} {org : State} :
    ∀ a0 a1 s, Sub 4390 m → Kept m org s → KeptOut m org (execSingleBitError a0 a1 s) := by
  intro a0 a1 s hp h
  unfold execSingleBitError
  try dsimp only
  repeat' first
    | (with_reducible first
        | assumption | refine ite_keptOut ?_ ?_ | refine next_kept ?_ | refine State.corrected_kept _ _ _ ?_ ?_)

theorem execScrubPass_kept {m : Nat} {org : State} :
    ∀ s, Sub 6 m → Kept m org s → KeptOut m org (execScrubPass s) := by
  intro s hp h
  unfold execScrubPass
  try dsimp only
  repeat' first
    | with_reducible assumption
    | ((with_reducible refine so hp ?_); rfl)
    | (with_reducible first
        | refine ite_keptOut ?_ ?_ | refine next_kept ?_ | refine State.setBit_kept _ _ _ _ ?_ ?_
        | refine State.bump_kept _ _ _ _ ?_ ?_)

theorem execReclaimSweep_kept {m : Nat} {org : State} :
    ∀ s, Sub 1052966 m → Kept m org s → KeptOut m org (execReclaimSweep s) := by
  intro s hp h
  unfold execReclaimSweep
  try dsimp only
  repeat' first
    | (with_reducible first
        | assumption | refine next_kept ?_ | refine State.reclaim_kept _ ?_ ?_)

theorem execShadowRewrite_kept {m : Nat} {org : State} :
    ∀ s, Sub 262656 m → Kept m org s → KeptOut m org (execShadowRewrite s) := by
  intro s hp h
  unfold execShadowRewrite
  try dsimp only
  repeat' first
    | (with_reducible first
        | assumption | refine ite_keptOut ?_ ?_ | refine next_kept ?_ | refine State.rewrite_kept _ ?_ ?_)

theorem execWatchdogKick_kept {m : Nat} {org : State} :
    ∀ s, Sub 512 m → Kept m org s → KeptOut m org (execWatchdogKick s) := by
  intro s hp h
  unfold execWatchdogKick
  try dsimp only
  repeat' first
    | (with_reducible first
        | assumption | refine next_kept ?_ | refine State.setBoot_kept _ _ ?_ ?_)

theorem execWatchdogExpiry_kept {m : Nat} {org : State} :
    ∀ s, Sub 67494 m → Kept m org s → KeptOut m org (execWatchdogExpiry s) := by
  intro s hp h
  unfold execWatchdogExpiry
  try dsimp only
  repeat' first
    | with_reducible assumption
    | ((with_reducible refine so hp ?_); rfl)
    | (with_reducible first
        | refine ite_keptOut ?_ ?_ | refine next_kept ?_ | refine State.lanternReset_kept _ _ ?_ ?_
        | refine State.setBit_kept _ _ _ _ ?_ ?_ | refine State.bump_kept _ _ _ _ ?_ ?_
        | refine State.setCause_kept _ _ ?_ ?_)

theorem execRegulatorFault_kept {m : Nat} {org : State} :
    ∀ a0 s, Sub 1610612670 m → Kept m org s → KeptOut m org (execRegulatorFault a0 s) := by
  intro a0 s hp h
  unfold execRegulatorFault
  try dsimp only
  repeat' first
    | (with_reducible first
        | assumption | refine ite_keptOut ?_ ?_ | refine next_kept ?_ | refine State.railFault_kept _ _ ?_ ?_)

theorem execRailRecovery_kept {m : Nat} {org : State} :
    ∀ a0 s, Sub 770 m → Kept m org s → KeptOut m org (execRailRecovery a0 s) := by
  intro a0 s hp h
  unfold execRailRecovery
  try dsimp only
  repeat' first
    | (with_reducible first
        | assumption | refine ite_keptOut ?_ ?_ | refine next_kept ?_ | refine State.railUp_kept _ _ ?_ ?_)
    | split

theorem execOscillatorLoss_kept {m : Nat} {org : State} :
    ∀ s, Sub 1073743158 m → Kept m org s → KeptOut m org (execOscillatorLoss s) := by
  intro s hp h
  unfold execOscillatorLoss
  try dsimp only
  repeat' first
    | with_reducible assumption
    | ((with_reducible refine so hp ?_); rfl)
    | (with_reducible first
        | refine ite_keptOut ?_ ?_ | refine next_kept ?_ | refine State.enterWick_kept _ _ ?_ ?_
        | refine State.lifeCount_kept _ _ _ ?_ ?_ | refine State.bump_kept _ _ _ _ ?_ ?_
        | refine State.setCause_kept _ _ ?_ ?_)

theorem execFaultCauseClear_kept {m : Nat} {org : State} :
    ∀ a0 a1 a2 s, Sub 536871014 m → Kept m org s → KeptOut m org (execFaultCauseClear a0 a1 a2 s) := by
  intro a0 a1 a2 s hp h
  unfold execFaultCauseClear
  try dsimp only
  repeat' first
    | with_reducible assumption
    | ((with_reducible refine so hp ?_); rfl)
    | (with_reducible first
        | refine next_kept ?_ | refine State.hostWrite_kept _ _ _ _ _ _ ?_ ?_ ?_
        | refine State.causeClearEff_kept _ _ _ _ _ ?_ ?_)
    | intro _

theorem execThermalTrip_kept {m : Nat} {org : State} :
    ∀ a0 s, Sub 1610612670 m → Kept m org s → KeptOut m org (execThermalTrip a0 s) := by
  intro a0 s hp h
  unfold execThermalTrip
  try dsimp only
  repeat' first
    | with_reducible assumption
    | ((with_reducible refine so hp ?_); rfl)
    | (with_reducible first
        | refine ite_keptOut ?_ ?_ | refine next_kept ?_ | refine State.railFault_kept _ _ ?_ ?_
        | refine State.setBoot_kept _ _ ?_ ?_)

theorem execThermalRecovery_kept {m : Nat} {org : State} :
    ∀ a0 s, Sub 512 m → Kept m org s → KeptOut m org (execThermalRecovery a0 s) := by
  intro a0 s hp h
  unfold execThermalRecovery
  try dsimp only
  repeat' first
    | (with_reducible first
        | assumption | refine ite_keptOut ?_ ?_ | refine next_kept ?_ | refine State.putRail_kept _ _ _ ?_ ?_
        | refine State.setBoot_kept _ _ ?_ ?_)

theorem execCaseTempWarn_kept {m : Nat} {org : State} :
    ∀ a0 s, Sub 806 m → Kept m org s → KeptOut m org (execCaseTempWarn a0 s) := by
  intro a0 s hp h
  unfold execCaseTempWarn
  try dsimp only
  repeat' first
    | with_reducible assumption
    | ((with_reducible refine so hp ?_); rfl)
    | (with_reducible first
        | refine ite_keptOut ?_ ?_ | refine next_kept ?_ | refine State.setBoot_kept _ _ ?_ ?_
        | refine State.setBit_kept _ _ _ _ ?_ ?_ | refine State.puti_kept _ _ _ _ ?_ ?_
        | refine State.raise_kept _ _ _ _ _ ?_ ?_)

theorem execCaseTempRearm_kept {m : Nat} {org : State} :
    ∀ a0 s, Sub 514 m → Kept m org s → KeptOut m org (execCaseTempRearm a0 s) := by
  intro a0 s hp h
  unfold execCaseTempRearm
  try dsimp only
  repeat' first
    | with_reducible assumption
    | ((with_reducible refine so hp ?_); rfl)
    | (with_reducible first
        | refine ite_keptOut ?_ ?_ | refine next_kept ?_ | refine State.setBoot_kept _ _ ?_ ?_
        | refine State.puti_kept _ _ _ _ ?_ ?_)

end Sys2Proof.Machine
end

