-- ==== Sys2Proof/Laws/Kept/RegRead.lean ====
section
/-!
SUPPORT. The operations of Machine/RegRead.lean keep soundness and the parts they do not name.
-/

namespace Sys2Proof.Machine

open State

theorem State.readEffect_kept {m : Nat} {org : State} :
    ∀ s a1, Sub 262166 m → Kept m org s → Kept m org (State.readEffect s a1) := by
  intro s a1 hp h
  unfold State.readEffect
  try dsimp only
  repeat' first
    | with_reducible assumption
    | ((with_reducible refine so hp ?_); rfl)
    | (with_reducible first
        | refine ite_kept ?_ ?_ | refine State.putReg_kept _ _ _ ?_ ?_ | refine State.setGal_kept _ _ ?_ ?_
        | refine State.cntValLoRead_kept _ _ ?_ ?_ | refine State.setTsQueue_kept _ _ _ ?_ ?_
        | refine State.captNext_kept _ _ ?_ ?_)
    | split

theorem State.regRead_kept {m : Nat} {org : State} :
    ∀ s a1, Sub 262678 m → Kept m org s → Kept m org (State.regRead s a1).1 := by
  intro s a1 hp h
  unfold State.regRead
  try dsimp only
  repeat' first
    | with_reducible assumption
    | ((with_reducible refine so hp ?_); rfl)
    | (with_reducible first
        | refine State.touchBlock_kept _ _ ?_ ?_ | refine State.readEffect_kept _ _ ?_ ?_)

theorem State.readAt_kept {m : Nat} {org : State} :
    ∀ s a1, Sub 262678 m → Kept m org s → Kept m org (State.readAt s a1) := by
  intro s a1 hp h
  unfold State.readAt
  try dsimp only
  repeat' first
    | (with_reducible first
        | assumption | refine ite_kept ?_ ?_ | refine State.regRead_kept _ _ ?_ ?_)

theorem execWickNsLoRead_kept {m : Nat} {org : State} :
    ∀ s, Sub 262678 m → Kept m org s → KeptOut m org (execWickNsLoRead s) := by
  intro s hp h
  unfold execWickNsLoRead
  try dsimp only
  repeat' first
    | (with_reducible first
        | assumption | refine next_kept ?_ | refine State.readAt_kept _ _ ?_ ?_)

theorem execTcDsSfcLoRead_kept {m : Nat} {org : State} :
    ∀ a0 s, Sub 262678 m → Kept m org s → KeptOut m org (execTcDsSfcLoRead a0 s) := by
  intro a0 s hp h
  unfold execTcDsSfcLoRead
  try dsimp only
  repeat' first
    | (with_reducible first
        | assumption | refine next_kept ?_ | refine State.readAt_kept _ _ ?_ ?_)

theorem execCiphKeyUsageLoRead_kept {m : Nat} {org : State} :
    ∀ s, Sub 262678 m → Kept m org s → KeptOut m org (execCiphKeyUsageLoRead s) := by
  intro s hp h
  unfold execCiphKeyUsageLoRead
  try dsimp only
  repeat' first
    | (with_reducible first
        | assumption | refine next_kept ?_ | refine State.readAt_kept _ _ ?_ ?_)

theorem execCntValLoRead_kept {m : Nat} {org : State} :
    ∀ a0 s, Sub 262678 m → Kept m org s → KeptOut m org (execCntValLoRead a0 s) := by
  intro a0 s hp h
  unfold execCntValLoRead
  try dsimp only
  repeat' first
    | (with_reducible first
        | assumption | refine next_kept ?_ | refine State.readAt_kept _ _ ?_ ?_)

theorem execTsTxEntry3Read_kept {m : Nat} {org : State} :
    ∀ a0 s, Sub 262678 m → Kept m org s → KeptOut m org (execTsTxEntry3Read a0 s) := by
  intro a0 s hp h
  unfold execTsTxEntry3Read
  try dsimp only
  repeat' first
    | (with_reducible first
        | assumption | refine next_kept ?_ | refine State.readAt_kept _ _ ?_ ?_)

theorem execCaptInfoRead_kept {m : Nat} {org : State} :
    ∀ a0 s, Sub 262678 m → Kept m org s → KeptOut m org (execCaptInfoRead a0 s) := by
  intro a0 s hp h
  unfold execCaptInfoRead
  try dsimp only
  repeat' first
    | (with_reducible first
        | assumption | refine next_kept ?_ | refine State.readAt_kept _ _ ?_ ?_)

end Sys2Proof.Machine
end

