-- ==== Sys2Proof/Laws/Kept/RegWrite.lean ====
section
/-!
SUPPORT. The operations of Machine/RegWrite.lean keep soundness and the parts they do not name.
-/

namespace Sys2Proof.Machine

open State

theorem State.violation_kept {m : Nat} {org : State} :
    ∀ s a1, Sub 290 m → Kept m org s → Kept m org (State.violation s a1) := by
  intro s a1 hp h
  unfold State.violation
  try dsimp only
  repeat' first
    | with_reducible assumption
    | ((with_reducible refine so hp ?_); rfl)
    | (with_reducible first
        | refine State.raise_kept _ _ _ _ _ ?_ ?_ | refine State.bump_kept _ _ _ _ ?_ ?_
        | refine State.put_kept _ _ _ _ ?_ ?_)

theorem State.writeLost_kept {m : Nat} {org : State} :
    ∀ s a1, Sub 294 m → Kept m org s → Kept m org (State.writeLost s a1) := by
  intro s a1 hp h
  unfold State.writeLost
  try dsimp only
  repeat' first
    | with_reducible assumption
    | ((with_reducible refine so hp ?_); rfl)
    | (with_reducible first
        | refine ite_kept ?_ ?_ | refine State.bump_kept _ _ _ _ ?_ ?_ | refine State.put_kept _ _ _ _ ?_ ?_
        | refine State.setBit_kept _ _ _ _ ?_ ?_ | refine State.raiseRefusal_kept _ _ _ _ _ ?_ ?_)

theorem State.ownFields_kept {m : Nat} {org : State} :
    ∀ s a1 a2 a3 a4, Sub 4 m → Kept m org s → Kept m org (State.ownFields s a1 a2 a3 a4) := by
  intro s a1 a2 a3 a4 hp h
  unfold State.ownFields
  try dsimp only
  repeat' first
    | (with_reducible first
        | assumption | refine ite_kept ?_ ?_ | refine State.putReg_kept _ _ _ ?_ ?_)

theorem State.rawEff_kept {m : Nat} {org : State} :
    ∀ a0 s a2 a3 a4, Sub 68497710 m → Kept m org s → Kept m org (State.rawEff a0 s a2 a3 a4).1 := by
  intro a0 s a2 a3 a4 hp h
  unfold State.rawEff
  try dsimp only
  repeat' first
    | with_reducible assumption
    | ((with_reducible refine so hp ?_); rfl)
    | (with_reducible first
        | refine State.storeEff_kept _ _ _ _ _ ?_ ?_ | refine State.loopSet_kept _ _ _ _ ?_ ?_
        | refine State.settingEff_kept _ _ _ _ _ ?_ ?_)
    | split

theorem State.takeOne_kept {m : Nat} {org : State} :
    ∀ s a1 a2 a3, Sub 85274942 m → Kept m org s → Kept m org (State.takeOne s a1 a2 a3) := by
  intro s a1 a2 a3 hp h
  unfold State.takeOne
  try dsimp only
  repeat' first
    | with_reducible assumption
    | ((with_reducible refine so hp ?_); rfl)
    | (with_reducible first
        | refine State.putInc_kept _ _ ?_ ?_ | refine State.loadEff_kept _ _ _ _ _ ?_ ?_
        | refine State.setGr_kept _ _ ?_ ?_ | refine State.rawEff_kept _ _ _ _ _ ?_ ?_
        | refine State.setClk_kept _ _ ?_ ?_ ?_)
    | exact fun _ hc => ⟨hc.1, hc.2⟩
    | split

theorem State.objFields_kept {m : Nat} {org : State} :
    ∀ s a1 a2 a3 a4, Sub 1869987646 m → Kept m org s → Kept m org (State.objFields s a1 a2 a3 a4) := by
  intro s a1 a2 a3 a4 hp h
  unfold State.objFields
  try dsimp only
  repeat' first
    | with_reducible assumption
    | ((with_reducible refine so hp ?_); rfl)
    | (with_reducible first
        | refine foldl_kept _ _ ?_ ?_ | refine State.takeSettings_kept _ _ ?_ ?_
        | refine State.takeOne_kept _ _ _ _ ?_ ?_)
    | intro _

theorem State.objClears_kept {m : Nat} {org : State} :
    ∀ s a1 a2 a3, Sub 2 m → Kept m org s → Kept m org (State.objClears s a1 a2 a3) := by
  intro s a1 a2 a3 hp h
  unfold State.objClears
  try dsimp only
  repeat' first
    | (with_reducible first
        | assumption | refine foldl_kept _ _ ?_ ?_ | refine State.causeClear_kept _ _ _ ?_ ?_
        | refine State.put_kept _ _ _ _ ?_ ?_)
    | split
    | intro _

theorem State.paramRead_kept {m : Nat} {org : State} :
    ∀ s, Sub 4 m → Kept m org s → Kept m org (State.paramRead s) := by
  intro s hp h
  unfold State.paramRead
  try dsimp only
  repeat' first
    | (with_reducible first
        | assumption | refine foldl_kept _ _ ?_ ?_ | refine State.putReg_kept _ _ _ ?_ ?_)
    | split
    | intro _

theorem State.paramWrite_kept {m : Nat} {org : State} :
    ∀ s a1, Sub 1048578 m → Kept m org s → Kept m org (State.paramWrite s a1) := by
  intro s a1 hp h
  unfold State.paramWrite
  try dsimp only
  repeat' first
    | with_reducible assumption
    | ((with_reducible refine so hp ?_); rfl)
    | (with_reducible first
        | refine ite_kept ?_ ?_ | refine foldl_kept _ _ ?_ ?_ | refine State.put_kept _ _ _ _ ?_ ?_
        | refine State.tokenReset_kept _ _ _ _ _ ?_ ?_ | refine State.setPolicer_kept _ _ _ ?_ ?_)
    | split
    | intro _

theorem State.resultOf_kept {m : Nat} {org : State} : ∀ s a1, Sub 0 m → Kept m org s → KeptOut m org a1 → Kept m org (State.resultOf s a1) := by
  intro s a1 hp h ho
  unfold State.resultOf
  split
  · exact ho _ rfl
  · exact h

theorem State.commitOpen_kept {m : Nat} {org : State} :
    ∀ s a1 a2, Sub 128 m → Kept m org s → Kept m org (State.commitOpen s a1 a2) := by
  intro s a1 a2 hp h
  unfold State.commitOpen
  try dsimp only
  repeat' first
    | (with_reducible first
        | assumption | refine ite_kept ?_ ?_)
    | split
    | ((with_reducible refine mk_kept ?_ ?_ ?_ ?_ ?_ ?_ ?_ ?_ ?_ ?_ ?_ ?_ ?_ ?_ ?_ ?_ ?_ ?_ ?_ ?_ ?_ ?_ ?_ ?_ ?_ ?_ ?_) <;> try (intro hq; first | exact (hit hp rfl hq).elim | with_reducible rfl))

theorem State.galGo_kept {m : Nat} {org : State} :
    ∀ s a1, Sub 266534 m → Kept m org s → Kept m org (State.galGo s a1) := by
  intro s a1 hp h
  unfold State.galGo
  try dsimp only
  repeat' first
    | (with_reducible first
        | assumption | refine State.galleryEff_kept _ _ _ _ ?_ ?_)

theorem State.runCmd_kept {m : Nat} {org : State} :
    ∀ s a1 a2 a3 a4, Sub 1266497526 m → Kept m org s → Kept m org (State.runCmd s a1 a2 a3 a4) := by
  intro s a1 a2 a3 a4 hp h
  unfold State.runCmd
  try dsimp only
  repeat' first
    | with_reducible assumption
    | ((with_reducible refine so hp ?_); rfl)
    | (with_reducible first
        | refine ite_kept ?_ ?_ | refine getD_kept ?_ ?_ | refine State.put_kept _ _ _ _ ?_ ?_
        | refine State.commitOpen_kept _ _ _ ?_ ?_ | refine State.resultOf_kept _ _ ?_ ?_ ?_
        | refine execGlimGo_kept _ _ ?_ ?_ | refine execCaptClr_kept _ ?_ ?_ | refine State.wickStepCmd_kept _ ?_ ?_
        | refine State.trigArmSet_kept _ _ _ ?_ ?_ | refine execPrbsClr_kept _ _ ?_ ?_
        | refine execRxCal_kept _ _ ?_ ?_ | refine execHuntAbort_kept _ _ ?_ ?_ | refine execQuietNow_kept _ _ ?_ ?_
        | refine State.laneFree_kept _ _ ?_ ?_ | refine State.laneTestArm_kept _ _ ?_ ?_
        | refine execGrantReload_kept _ ?_ ?_ | refine State.galGo_kept _ _ ?_ ?_
        | refine State.paramRead_kept _ ?_ ?_ | refine State.paramWrite_kept _ _ ?_ ?_
        | refine State.keyLoadCmd_kept _ ?_ ?_ | refine State.keyLockCmd_kept _ ?_ ?_
        | refine State.keyEraseCmd_kept _ ?_ ?_ | refine execWatchdogKick_kept _ ?_ ?_
        | refine State.retrain_kept _ _ ?_ ?_)
    | split
    | ((with_reducible refine mk_kept ?_ ?_ ?_ ?_ ?_ ?_ ?_ ?_ ?_ ?_ ?_ ?_ ?_ ?_ ?_ ?_ ?_ ?_ ?_ ?_ ?_ ?_ ?_ ?_ ?_ ?_ ?_) <;> try (intro hq; first | exact (hit hp rfl hq).elim | with_reducible rfl))

theorem State.cmdFields_kept {m : Nat} {org : State} :
    ∀ s a1 a2 a3 a4, Sub 1266497526 m → Kept m org s → Kept m org (State.cmdFields s a1 a2 a3 a4) := by
  intro s a1 a2 a3 a4 hp h
  unfold State.cmdFields
  try dsimp only
  repeat' first
    | (with_reducible first
        | assumption | refine foldl_kept _ _ ?_ ?_ | refine State.runCmd_kept _ _ _ _ _ ?_ ?_)
    | split
    | intro _

theorem State.trimField_kept {m : Nat} {org : State} :
    ∀ s a1, Sub 1869987638 m → Kept m org s → Kept m org (State.trimField s a1) := by
  intro s a1 hp h
  unfold State.trimField
  try dsimp only
  repeat' first
    | (with_reducible first
        | assumption | refine ite_kept ?_ ?_ | refine State.takeSettings_kept _ _ ?_ ?_)

theorem State.writeFields_kept {m : Nat} {org : State} :
    ∀ s a1 a2 a3 a4 a5, Sub 1870512126 m → Kept m org s → Kept m org (State.writeFields s a1 a2 a3 a4 a5) := by
  intro s a1 a2 a3 a4 a5 hp h
  unfold State.writeFields
  try dsimp only
  repeat' first
    | with_reducible assumption
    | ((with_reducible refine so hp ?_); rfl)
    | (with_reducible first
        | refine ite_kept ?_ ?_ | refine State.trimField_kept _ _ ?_ ?_ | refine State.objClears_kept _ _ _ _ ?_ ?_
        | refine State.objFields_kept _ _ _ _ _ ?_ ?_ | refine State.ownFields_kept _ _ _ _ _ ?_ ?_
        | refine State.engineEnable_kept _ ?_ ?_ | refine State.pressureSeen_kept _ ?_ ?_
        | refine State.cmdFields_kept _ _ _ _ _ ?_ ?_)

theorem State.regWrite_kept {m : Nat} {org : State} :
    ∀ s a1 a2 a3, Sub 1870512126 m → Kept m org s → Kept m org (State.regWrite s a1 a2 a3).1 := by
  intro s a1 a2 a3 hp h
  unfold State.regWrite
  try dsimp only
  repeat' first
    | with_reducible assumption
    | ((with_reducible refine so hp ?_); rfl)
    | (with_reducible first
        | refine ite_kept ?_ ?_ | refine ite_kept1 ?_ ?_ | refine State.touchBlock_kept _ _ ?_ ?_
        | refine State.violation_kept _ _ ?_ ?_ | refine State.putSnap_kept _ _ ?_ ?_
        | refine State.putReg_kept _ _ _ ?_ ?_ | refine State.writeFields_kept _ _ _ _ _ _ ?_ ?_
        | refine State.setField_kept _ _ _ _ _ ?_ ?_ | refine State.writeLost_kept _ _ ?_ ?_)
    | dsimp only
    | split
    | ((with_reducible refine mk_kept ?_ ?_ ?_ ?_ ?_ ?_ ?_ ?_ ?_ ?_ ?_ ?_ ?_ ?_ ?_ ?_ ?_ ?_ ?_ ?_ ?_ ?_ ?_ ?_ ?_ ?_ ?_) <;> try (intro hq; first | exact (hit hp rfl hq).elim | with_reducible rfl))

theorem State.stageWrite_kept {m : Nat} {org : State} :
    ∀ s a1 a2, Sub 128 m → Kept m org s → Kept m org (State.stageWrite s a1 a2) := by
  intro s a1 a2 hp h
  unfold State.stageWrite
  try dsimp only
  repeat' first
    | (with_reducible first
        | assumption | refine ite_kept ?_ ?_)
    | split
    | ((with_reducible refine mk_kept ?_ ?_ ?_ ?_ ?_ ?_ ?_ ?_ ?_ ?_ ?_ ?_ ?_ ?_ ?_ ?_ ?_ ?_ ?_ ?_ ?_ ?_ ?_ ?_ ?_ ?_ ?_) <;> try (intro hq; first | exact (hit hp rfl hq).elim | with_reducible rfl))

theorem State.applySet_kept {m : Nat} {org : State} :
    ∀ s a1, Sub 1870512126 m → Kept m org s → Kept m org (State.applySet s a1) := by
  intro s a1 hp h
  unfold State.applySet
  try dsimp only
  repeat' first
    | (with_reducible first
        | assumption | refine foldl_kept _ _ ?_ ?_ | refine State.regWrite_kept _ _ _ _ ?_ ?_)
    | intro _

theorem State.applySets_kept {m : Nat} {org : State} :
    ∀ s a1, Sub 1870512126 m → Kept m org s → Kept m org (State.applySets s a1) := by
  intro s a1 hp h
  unfold State.applySets
  try dsimp only
  repeat' first
    | (with_reducible first
        | assumption | refine foldl_kept _ _ ?_ ?_ | refine State.applySet_kept _ _ ?_ ?_)
    | intro _
    | ((with_reducible refine mk_kept ?_ ?_ ?_ ?_ ?_ ?_ ?_ ?_ ?_ ?_ ?_ ?_ ?_ ?_ ?_ ?_ ?_ ?_ ?_ ?_ ?_ ?_ ?_ ?_ ?_ ?_ ?_) <;> try (intro hq; first | exact (hit hp rfl hq).elim | with_reducible rfl))

theorem State.writeAt_kept {m : Nat} {org : State} :
    ∀ s a1 a2 a3, Sub 1870512126 m → Kept m org s → Kept m org (State.writeAt s a1 a2 a3) := by
  intro s a1 a2 a3 hp h
  unfold State.writeAt
  try dsimp only
  repeat' first
    | (with_reducible first
        | assumption | refine ite_kept ?_ ?_ | refine State.applySets_kept _ _ ?_ ?_
        | refine State.regWrite_kept _ _ _ _ ?_ ?_)

theorem execRegisterWrite_kept {m : Nat} {org : State} :
    ∀ a0 a1 a2 a3 s, Sub 1870512126 m → Kept m org s → KeptOut m org (execRegisterWrite a0 a1 a2 a3 s) := by
  intro a0 a1 a2 a3 s hp h
  unfold execRegisterWrite
  try dsimp only
  repeat' first
    | with_reducible assumption
    | ((with_reducible refine so hp ?_); rfl)
    | (with_reducible first
        | refine ite_keptOut ?_ ?_ | refine next_kept ?_ | refine State.stageWrite_kept _ _ _ ?_ ?_
        | refine State.writeAt_kept _ _ _ _ ?_ ?_)

theorem execStageOpen_kept {m : Nat} {org : State} :
    ∀ s, Sub 1870512126 m → Kept m org s → KeptOut m org (execStageOpen s) := by
  intro s hp h
  unfold execStageOpen
  try dsimp only
  repeat' first
    | (with_reducible first
        | assumption | refine next_kept ?_ | refine State.writeAt_kept _ _ _ _ ?_ ?_)

theorem execStageDiscard_kept {m : Nat} {org : State} :
    ∀ s, Sub 1870512126 m → Kept m org s → KeptOut m org (execStageDiscard s) := by
  intro s hp h
  unfold execStageDiscard
  try dsimp only
  repeat' first
    | (with_reducible first
        | assumption | refine next_kept ?_ | refine State.writeAt_kept _ _ _ _ ?_ ?_)

theorem execCommitGo_kept {m : Nat} {org : State} :
    ∀ a0 a1 s, Sub 1870512126 m → Kept m org s → KeptOut m org (execCommitGo a0 a1 s) := by
  intro a0 a1 s hp h
  unfold execCommitGo
  try dsimp only
  repeat' first
    | (with_reducible first
        | assumption | refine next_kept ?_ | refine State.writeAt_kept _ _ _ _ ?_ ?_)

theorem execRecordClear_kept {m : Nat} {org : State} :
    ∀ a0 s, Sub 1870512126 m → Kept m org s → KeptOut m org (execRecordClear a0 s) := by
  intro a0 s hp h
  unfold execRecordClear
  try dsimp only
  repeat' first
    | (with_reducible first
        | assumption | refine next_kept ?_ | refine State.writeAt_kept _ _ _ _ ?_ ?_)

theorem execGlbLockSet_kept {m : Nat} {org : State} :
    ∀ a0 s, Sub 1870512126 m → Kept m org s → KeptOut m org (execGlbLockSet a0 s) := by
  intro a0 s hp h
  unfold execGlbLockSet
  try dsimp only
  repeat' first
    | (with_reducible first
        | assumption | refine next_kept ?_ | refine State.writeAt_kept _ _ _ _ ?_ ?_)

theorem execGlbSnapshotWrite_kept {m : Nat} {org : State} :
    ∀ a0 s, Sub 1870512126 m → Kept m org s → KeptOut m org (execGlbSnapshotWrite a0 s) := by
  intro a0 s hp h
  unfold execGlbSnapshotWrite
  try dsimp only
  repeat' first
    | (with_reducible first
        | assumption | refine next_kept ?_ | refine State.writeAt_kept _ _ _ _ ?_ ?_)

end Sys2Proof.Machine
end

