-- ==== Sys2Proof/Laws/Kept/Commands.lean ====
section
/-!
SUPPORT. The operations of Machine/Commands.lean keep soundness and the parts they do not name.
-/

namespace Sys2Proof.Machine

open State

theorem State.claimBreakEff_kept {m : Nat} {org : State} :
    ∀ s a1 a2 a3, Sub 32 m → Kept m org s → Kept m org (State.claimBreakEff s a1 a2 a3).1 := by
  intro s a1 a2 a3 hp h
  unfold State.claimBreakEff
  try dsimp only
  repeat' first
    | (with_reducible first
        | assumption | refine State.setLan_kept _ _ ?_ ?_)

theorem State.masterKeyEff_kept {m : Nat} {org : State} :
    ∀ s a1 a2 a3, Sub 0 m → Kept m org s → Kept m org (State.masterKeyEff s a1 a2 a3).1 := by
  intro s a1 a2 a3 hp h
  unfold State.masterKeyEff
  try dsimp only
  repeat' first
    | with_reducible assumption

theorem State.commissionKeyEff_kept {m : Nat} {org : State} :
    ∀ s a1 a2 a3, Sub 96 m → Kept m org s → Kept m org (State.commissionKeyEff s a1 a2 a3).1 := by
  intro s a1 a2 a3 hp h
  unfold State.commissionKeyEff
  try dsimp only
  repeat' first
    | with_reducible assumption
    | ((with_reducible refine so hp ?_); rfl)
    | (with_reducible first
        | refine ite_kept1 ?_ ?_ | refine State.markOnce_kept _ _ _ ?_ ?_ | refine State.setNvm_kept _ _ ?_ ?_)

theorem State.setUpload_kept {m : Nat} {org : State} :
    ∀ s a1 a2, Sub 32 m → Kept m org s → Kept m org (State.setUpload s a1 a2) := by
  intro s a1 a2 hp h
  unfold State.setUpload
  try dsimp only
  repeat' first
    | (with_reducible first
        | assumption | refine State.setLan_kept _ _ ?_ ?_)

theorem State.uploadEff_kept {m : Nat} {org : State} :
    ∀ a0 s a2 a3 a4, Sub 34 m → Kept m org s → Kept m org (State.uploadEff a0 s a2 a3 a4).1 := by
  intro a0 s a2 a3 a4 hp h
  unfold State.uploadEff
  try dsimp only
  repeat' first
    | with_reducible assumption
    | ((with_reducible refine so hp ?_); rfl)
    | (with_reducible first
        | refine ite_kept1 ?_ ?_ | refine State.put_kept _ _ _ _ ?_ ?_ | refine State.setUpload_kept _ _ _ ?_ ?_)

theorem State.imageCommitEff_kept {m : Nat} {org : State} :
    ∀ s a1 a2 a3, Sub 2 m → Kept m org s → Kept m org (State.imageCommitEff s a1 a2 a3).1 := by
  intro s a1 a2 a3 hp h
  unfold State.imageCommitEff
  try dsimp only
  repeat' first
    | (with_reducible first
        | assumption | refine ite_kept1 ?_ ?_ | refine State.put_kept _ _ _ _ ?_ ?_)

theorem State.imageStore_kept {m : Nat} {org : State} :
    ∀ s a1, Sub 98 m → Kept m org s → Kept m org (State.imageStore s a1) := by
  intro s a1 hp h
  unfold State.imageStore
  try dsimp only
  repeat' first
    | with_reducible assumption
    | ((with_reducible refine so hp ?_); rfl)
    | (with_reducible first
        | refine ite_kept ?_ ?_ | refine State.setUpload_kept _ _ _ ?_ ?_ | refine State.put_kept _ _ _ _ ?_ ?_
        | refine State.firmwareSlots_kept _ ?_ ?_ | refine State.setNvm_kept _ _ ?_ ?_)

theorem State.rollbackCommitEff_kept {m : Nat} {org : State} :
    ∀ s a1 a2 a3, Sub 66 m → Kept m org s → Kept m org (State.rollbackCommitEff s a1 a2 a3).1 := by
  intro s a1 a2 a3 hp h
  unfold State.rollbackCommitEff
  try dsimp only
  repeat' first
    | with_reducible assumption
    | ((with_reducible refine so hp ?_); rfl)
    | (with_reducible first
        | refine ite_kept1 ?_ ?_ | refine State.firmwareSlots_kept _ ?_ ?_ | refine State.put_kept _ _ _ _ ?_ ?_
        | refine State.setNvm_kept _ _ ?_ ?_)

theorem State.warmResetEff_kept {m : Nat} {org : State} :
    ∀ s a1 a2 a3, Sub 0 m → Kept m org s → Kept m org (State.warmResetEff s a1 a2 a3).1 := by
  intro s a1 a2 a3 hp h
  unfold State.warmResetEff
  try dsimp only
  repeat' first
    | with_reducible assumption

theorem State.firmwareActivateEff_kept {m : Nat} {org : State} :
    ∀ s a1 a2 a3, Sub 64 m → Kept m org s → Kept m org (State.firmwareActivateEff s a1 a2 a3).1 := by
  intro s a1 a2 a3 hp h
  unfold State.firmwareActivateEff
  try dsimp only
  repeat' first
    | (with_reducible first
        | assumption | refine ite_kept1 ?_ ?_ | refine State.setNvm_kept _ _ ?_ ?_)

theorem State.firmwareConfirmEff_kept {m : Nat} {org : State} :
    ∀ s a1 a2 a3, Sub 66 m → Kept m org s → Kept m org (State.firmwareConfirmEff s a1 a2 a3).1 := by
  intro s a1 a2 a3 hp h
  unfold State.firmwareConfirmEff
  try dsimp only
  repeat' first
    | (with_reducible first
        | assumption | refine ite_kept ?_ ?_ | refine State.confirm_kept _ ?_ ?_)

theorem State.omciSendEff_kept {m : Nat} {org : State} :
    ∀ s a1 a2 a3, Sub 1048576 m → Kept m org s → Kept m org (State.omciSendEff s a1 a2 a3).1 := by
  intro s a1 a2 a3 hp h
  unfold State.omciSendEff
  try dsimp only
  repeat' first
    | (with_reducible first
        | assumption | refine ite_kept1 ?_ ?_ | refine State.setOmci_kept _ _ _ ?_ ?_)

theorem State.putReport_kept {m : Nat} {org : State} :
    ∀ s a1 a2 a3, Sub 34 m → Kept m org s → Kept m org (State.putReport s a1 a2 a3) := by
  intro s a1 a2 a3 hp h
  unfold State.putReport
  try dsimp only
  repeat' first
    | with_reducible assumption
    | ((with_reducible refine so hp ?_); rfl)
    | (with_reducible first
        | refine State.put_kept _ _ _ _ ?_ ?_ | refine State.setLan_kept _ _ ?_ ?_)

theorem State.attestRequestEff_kept {m : Nat} {org : State} :
    ∀ s a1 a2 a3, Sub 38 m → Kept m org s → Kept m org (State.attestRequestEff s a1 a2 a3).1 := by
  intro s a1 a2 a3 hp h
  unfold State.attestRequestEff
  try dsimp only
  repeat' first
    | with_reducible assumption
    | ((with_reducible refine so hp ?_); rfl)
    | (with_reducible first
        | refine ite_kept1 ?_ ?_ | refine State.setLan_kept _ _ ?_ ?_ | refine State.putReport_kept _ _ _ _ ?_ ?_
        | refine State.put_kept _ _ _ _ ?_ ?_)

theorem State.reportSign_kept {m : Nat} {org : State} :
    ∀ s a1, Sub 102 m → Kept m org s → Kept m org (State.reportSign s a1) := by
  intro s a1 hp h
  unfold State.reportSign
  try dsimp only
  repeat' first
    | with_reducible assumption
    | ((with_reducible refine so hp ?_); rfl)
    | (with_reducible first
        | refine ite_kept ?_ ?_ | refine State.setLan_kept _ _ ?_ ?_ | refine State.putReport_kept _ _ _ _ ?_ ?_
        | refine State.setNvm_kept _ _ ?_ ?_)

theorem State.rawWriteEff_kept {m : Nat} {org : State} :
    ∀ a0 s a2 a3 a4, Sub 1870512126 m → Kept m org s → Kept m org (State.rawWriteEff a0 s a2 a3 a4).1 := by
  intro a0 s a2 a3 a4 hp h
  unfold State.rawWriteEff
  try dsimp only
  repeat' first
    | (with_reducible first
        | assumption | refine ite_kept1 ?_ ?_ | refine State.regWrite_kept _ _ _ _ ?_ ?_)

theorem State.immediateEff_kept {m : Nat} {org : State} :
    ∀ a0 a1 s a3 a4 a5, Sub 1870528510 m → Kept m org s → Kept m org (State.immediateEff a0 a1 s a3 a4 a5).1 := by
  intro a0 a1 s a3 a4 a5 hp h
  unfold State.immediateEff
  try dsimp only
  repeat' first
    | with_reducible assumption
    | ((with_reducible refine so hp ?_); rfl)
    | (with_reducible first
        | refine State.claimBreakEff_kept _ _ _ _ ?_ ?_ | refine State.masterKeyEff_kept _ _ _ _ ?_ ?_
        | refine State.commissionKeyEff_kept _ _ _ _ ?_ ?_ | refine State.uploadEff_kept _ _ _ _ _ ?_ ?_
        | refine State.imageCommitEff_kept _ _ _ _ ?_ ?_ | refine State.warmResetEff_kept _ _ _ _ ?_ ?_
        | refine State.firmwareActivateEff_kept _ _ _ _ ?_ ?_ | refine State.firmwareConfirmEff_kept _ _ _ _ ?_ ?_
        | refine State.rollbackCommitEff_kept _ _ _ _ ?_ ?_ | refine State.rssiRequestEff_kept _ _ _ _ ?_ ?_
        | refine State.i2cRequestEff_kept _ _ _ _ ?_ ?_ | refine State.ploamRelayEff_kept _ _ _ _ ?_ ?_
        | refine State.quietAtEff_kept _ _ _ _ ?_ ?_ | refine State.rogueReleaseEff_kept _ _ _ _ ?_ ?_
        | refine State.laneTestEff_kept _ _ _ _ ?_ ?_ | refine State.laneReleaseEff_kept _ _ _ _ ?_ ?_
        | refine State.omciSendEff_kept _ _ _ _ ?_ ?_ | refine State.galleryEff_kept _ _ _ _ ?_ ?_
        | refine State.wickSetEff_kept _ _ _ _ ?_ ?_ | refine State.modelResetEff_kept _ _ _ _ ?_ ?_
        | refine State.trigArmEff_kept _ _ _ _ ?_ ?_ | refine State.bcastLockEff_kept _ _ _ _ ?_ ?_
        | refine State.bcastSwitchEff_kept _ _ _ _ ?_ ?_ | refine State.saLockEff_kept _ _ _ _ ?_ ?_
        | refine State.attestRequestEff_kept _ _ _ _ ?_ ?_ | refine State.causeClearEff_kept _ _ _ _ _ ?_ ?_
        | refine State.widenEff_kept _ _ _ _ ?_ ?_ | refine State.overflowClearEff_kept _ _ _ _ ?_ ?_
        | refine State.unitEff_kept _ _ _ _ _ ?_ ?_ | refine State.lifetimeSaveEff_kept _ _ _ _ ?_ ?_
        | refine State.rawWriteEff_kept _ _ _ _ _ ?_ ?_ | refine State.settingEff_kept _ _ _ _ _ ?_ ?_)
    | split

end Sys2Proof.Machine
end

