-- ==== Sys2Proof/Laws/Kept/Sconce.lean ====
section
/-!
SUPPORT. The operations of Machine/Sconce.lean keep soundness and the parts they do not name.
-/

namespace Sys2Proof.Machine

open State

theorem State.objRead_kept {m : Nat} {org : State} :
    ∀ s a1 a2, Sub 262678 m → Kept m org s → Kept m org (State.objRead s a1 a2).1 := by
  intro s a1 a2 hp h
  unfold State.objRead
  try dsimp only
  repeat' first
    | with_reducible assumption
    | ((with_reducible refine so hp ?_); rfl)
    | (with_reducible first
        | refine ite_kept1 ?_ ?_ | refine State.captNext_kept _ _ ?_ ?_ | refine State.put_kept _ _ _ _ ?_ ?_
        | refine State.cntValLoRead_kept _ _ ?_ ?_ | refine State.regRead_kept _ _ ?_ ?_)
    | split

theorem State.servedValue_kept {m : Nat} {org : State} :
    ∀ s a1 a2 a3 a4 a5, Sub 32 m → Kept m org s → Kept m org (State.servedValue s a1 a2 a3 a4 a5).1 := by
  intro s a1 a2 a3 a4 a5 hp h
  unfold State.servedValue
  try dsimp only
  repeat' first
    | (with_reducible first
        | assumption | refine ite_kept1 ?_ ?_ | refine State.setLan_kept _ _ ?_ ?_)
    | split

theorem State.readOp_kept {m : Nat} {org : State} :
    ∀ s a1 a2 a3 a4 a5, Sub 262710 m → Kept m org s → Kept m org (State.readOp s a1 a2 a3 a4 a5).1 := by
  intro s a1 a2 a3 a4 a5 hp h
  unfold State.readOp
  try dsimp only
  repeat' first
    | with_reducible assumption
    | ((with_reducible refine so hp ?_); rfl)
    | (with_reducible first
        | refine ite_kept1 ?_ ?_ | refine State.objRead_kept _ _ _ ?_ ?_
        | refine State.servedValue_kept _ _ _ _ _ _ ?_ ?_)

theorem State.claimOp_kept {m : Nat} {org : State} :
    ∀ s a1 a2 a3, Sub 32 m → Kept m org s → Kept m org (State.claimOp s a1 a2 a3).1 := by
  intro s a1 a2 a3 hp h
  unfold State.claimOp
  try dsimp only
  repeat' first
    | (with_reducible first
        | assumption | refine ite_kept1 ?_ ?_ | refine State.setLan_kept _ _ ?_ ?_)

theorem State.releaseOp_kept {m : Nat} {org : State} :
    ∀ s a1 a2 a3, Sub 32 m → Kept m org s → Kept m org (State.releaseOp s a1 a2 a3).1 := by
  intro s a1 a2 a3 hp h
  unfold State.releaseOp
  try dsimp only
  repeat' first
    | (with_reducible first
        | assumption | refine State.setLan_kept _ _ ?_ ?_)

theorem State.doWrites_kept {m : Nat} {org : State} :
    ∀ s a1 a2 a3 a4 a5 a6 a7, Sub 1870528510 m → Kept m org s → Kept m org (State.doWrites s a1 a2 a3 a4 a5 a6 a7).1 := by
  intro s a1 a2 a3 a4 a5 a6 a7 hp h
  unfold State.doWrites
  try dsimp only
  repeat' first
    | with_reducible assumption
    | ((with_reducible refine so hp ?_); rfl)
    | (with_reducible first
        | refine foldl_kept1 _ _ ?_ ?_ | refine State.immediateEff_kept _ _ _ _ _ _ ?_ ?_
        | refine State.markOnce_kept _ _ _ ?_ ?_ | refine State.setLan_kept _ _ ?_ ?_)
    | dsimp only
    | split
    | intro _

theorem State.writeOp_kept {m : Nat} {org : State} :
    ∀ s a1 a2 a3, Sub 1870528510 m → Kept m org s → Kept m org (State.writeOp s a1 a2 a3).1 := by
  intro s a1 a2 a3 hp h
  unfold State.writeOp
  try dsimp only
  repeat' first
    | with_reducible assumption
    | ((with_reducible refine so hp ?_); rfl)
    | (with_reducible first
        | refine State.recordOnce_kept _ _ _ _ ?_ ?_ | refine State.doWrites_kept _ _ _ _ _ _ _ _ ?_ ?_)
    | split

theorem State.plainOp_kept {m : Nat} {org : State} :
    ∀ s a1 a2, Sub 262710 m → Kept m org s → Kept m org (State.plainOp s a1 a2).1 := by
  intro s a1 a2 hp h
  unfold State.plainOp
  try dsimp only
  repeat' first
    | with_reducible assumption
    | ((with_reducible refine so hp ?_); rfl)
    | (with_reducible first
        | refine ite_kept1 ?_ ?_ | refine State.readOp_kept _ _ _ _ _ _ ?_ ?_
        | refine State.claimOp_kept _ _ _ _ ?_ ?_ | refine State.releaseOp_kept _ _ _ _ ?_ ?_)
    | split

theorem State.takeRecords_kept {m : Nat} {org : State} :
    ∀ s a1 a2 a3 a4, Sub 1870528510 m → Kept m org s → Kept m org (State.takeRecords s a1 a2 a3 a4).1 := by
  intro s a1 a2 a3 a4 hp h
  induction a4 generalizing s a1 a2 a3 with
  | nil =>
    unfold State.takeRecords
    try dsimp only
    repeat' first
      | with_reducible assumption
      | ((with_reducible refine so hp ?_); rfl)
      | (with_reducible first
          | refine ite_kept1 ?_ ?_ | refine State.writeOp_kept _ _ _ _ ?_ ?_
          | refine State.plainOp_kept _ _ _ ?_ ?_)
  | cons y l ih =>
    unfold State.takeRecords
    try dsimp only
    repeat' first
      | with_reducible assumption
      | ((with_reducible refine so hp ?_); rfl)
      | (with_reducible first
          | refine ite_kept1 ?_ ?_ | apply ih | refine State.writeOp_kept _ _ _ _ ?_ ?_
          | refine State.plainOp_kept _ _ _ ?_ ?_)

theorem State.txnWrites_kept {m : Nat} {org : State} :
    ∀ s a1 a2, Sub 1870528510 m → Kept m org s → Kept m org (State.txnWrites s a1 a2).1 := by
  intro s a1 a2 hp h
  unfold State.txnWrites
  try dsimp only
  repeat' first
    | with_reducible assumption
    | ((with_reducible refine so hp ?_); rfl)
    | (with_reducible first
        | refine ite_kept1 ?_ ?_ | refine foldl_kept _ _ ?_ ?_ | refine State.doWrites_kept _ _ _ _ _ _ _ _ ?_ ?_
        | refine State.recordOnce_kept _ _ _ _ ?_ ?_)
    | split
    | intro _

theorem State.perform_kept {m : Nat} {org : State} :
    ∀ s a1 a2 a3, Sub 1870528510 m → Kept m org s → Kept m org (State.perform s a1 a2 a3) := by
  intro s a1 a2 a3 hp h
  unfold State.perform
  try dsimp only
  repeat' first
    | with_reducible assumption
    | ((with_reducible refine so hp ?_); rfl)
    | (with_reducible first
        | refine ite_kept1 ?_ ?_ | refine State.takeRecords_kept _ _ _ _ _ ?_ ?_
        | refine State.txnWrites_kept _ _ _ ?_ ?_ | refine State.packetWrites_kept _ ?_ ?_
        | refine State.addMsg_kept _ _ _ _ _ ?_ ?_)

theorem State.hostRequest_kept {m : Nat} {org : State} :
    ∀ s a1 a2, Sub 1870528510 m → Kept m org s → Kept m org (State.hostRequest s a1 a2) := by
  intro s a1 a2 hp h
  unfold State.hostRequest
  try dsimp only
  repeat' first
    | with_reducible assumption
    | ((with_reducible refine so hp ?_); rfl)
    | (with_reducible first
        | refine ite_kept ?_ ?_ | refine State.abortMsg_kept _ _ _ ?_ ?_ | refine State.perform_kept _ _ _ _ ?_ ?_
        | refine State.acceptCounter_kept _ _ _ ?_ ?_)

theorem State.authFail_kept {m : Nat} {org : State} :
    ∀ s a1, Sub 536871010 m → Kept m org s → Kept m org (State.authFail s a1) := by
  intro s a1 hp h
  unfold State.authFail
  try dsimp only
  repeat' first
    | with_reducible assumption
    | ((with_reducible refine so hp ?_); rfl)
    | (with_reducible first
        | refine ite_kept ?_ ?_ | refine State.bump_kept _ _ _ _ ?_ ?_ | refine State.abortMsg_kept _ _ _ ?_ ?_
        | refine State.setMaster_kept _ _ _ ?_ ?_)

theorem State.ackEvents_kept {m : Nat} {org : State} :
    ∀ s a1 a2, Sub 32 m → Kept m org s → Kept m org (State.ackEvents s a1 a2) := by
  intro s a1 a2 hp h
  unfold State.ackEvents
  try dsimp only
  repeat' first
    | (with_reducible first
        | assumption | refine State.setMaster_kept _ _ _ ?_ ?_)

theorem State.datagram_kept {m : Nat} {org : State} :
    ∀ s a1 a2 a3, Sub 1870528510 m → Kept m org s → Kept m org (State.datagram s a1 a2 a3) := by
  intro s a1 a2 a3 hp h
  unfold State.datagram
  try dsimp only
  repeat' first
    | with_reducible assumption
    | ((with_reducible refine so hp ?_); rfl)
    | (with_reducible first
        | refine ite_kept ?_ ?_ | refine State.bump_kept _ _ _ _ ?_ ?_ | refine State.authFail_kept _ _ ?_ ?_
        | refine State.ackEvents_kept _ _ _ ?_ ?_ | refine State.abortMsg_kept _ _ _ ?_ ?_
        | refine State.setMaster_kept _ _ _ ?_ ?_ | refine State.perform_kept _ _ _ _ ?_ ?_
        | refine State.acceptCounter_kept _ _ _ ?_ ?_)

theorem State.doAfter_kept {m : Nat} {org : State} :
    ∀ s a1, Sub 1610612734 m → Kept m org s → Kept m org (State.doAfter s a1) := by
  intro s a1 hp h
  unfold State.doAfter
  try dsimp only
  repeat' first
    | with_reducible assumption
    | ((with_reducible refine so hp ?_); rfl)
    | (with_reducible first
        | refine State.storeKey_kept _ _ _ ?_ ?_ | refine State.lanternReset_kept _ _ ?_ ?_
        | refine State.orderly_kept _ ?_ ?_ | refine State.fullReset_kept _ _ _ ?_ ?_)
    | split

theorem State.respond_kept {m : Nat} {org : State} :
    ∀ s a1, Sub 2147483646 m → Kept m org s → Kept m org (State.respond s a1) := by
  intro s a1 hp h
  unfold State.respond
  try dsimp only
  repeat' first
    | with_reducible assumption
    | ((with_reducible refine so hp ?_); rfl)
    | (with_reducible first
        | refine ite_kept ?_ ?_ | refine foldl_kept _ _ ?_ ?_ | refine State.issueCounter_kept _ _ ?_ ?_
        | refine State.emit_kept _ _ ?_ ?_ | refine State.setLan_kept _ _ ?_ ?_ | refine State.doAfter_kept _ _ ?_ ?_)
    | split
    | intro _

theorem State.sendEvents_kept {m : Nat} {org : State} :
    ∀ s a1 a2, Sub 536871008 m → Kept m org s → Kept m org (State.sendEvents s a1 a2) := by
  intro s a1 a2 hp h
  unfold State.sendEvents
  try dsimp only
  repeat' first
    | with_reducible assumption
    | ((with_reducible refine so hp ?_); rfl)
    | (with_reducible first
        | refine ite_kept ?_ ?_ | refine State.issueCounter_kept _ _ ?_ ?_ | refine State.emit_kept _ _ ?_ ?_
        | refine State.setMaster_kept _ _ _ ?_ ?_)
    | split

theorem execSconceRequest_kept {m : Nat} {org : State} :
    ∀ a0 a1 a2 s, Sub 1870528510 m → Kept m org s → KeptOut m org (execSconceRequest a0 a1 a2 s) := by
  intro a0 a1 a2 s hp h
  unfold execSconceRequest
  try dsimp only
  repeat' first
    | (with_reducible first
        | assumption | refine ite_keptOut ?_ ?_ | refine next_kept ?_ | refine State.datagram_kept _ _ _ _ ?_ ?_)

theorem execRead_kept {m : Nat} {org : State} :
    ∀ a0 a1 a2 a3 s, Sub 1870528510 m → Kept m org s → KeptOut m org (execRead a0 a1 a2 a3 s) := by
  intro a0 a1 a2 a3 s hp h
  unfold execRead
  try dsimp only
  repeat' first
    | (with_reducible first
        | assumption | refine next_kept ?_ | refine State.hostRequest_kept _ _ _ ?_ ?_)

theorem execWrite_kept {m : Nat} {org : State} :
    ∀ a0 a1 a2 a3 s, Sub 1870528510 m → Kept m org s → KeptOut m org (execWrite a0 a1 a2 a3 s) := by
  intro a0 a1 a2 a3 s hp h
  unfold execWrite
  try dsimp only
  repeat' first
    | (with_reducible first
        | assumption | refine next_kept ?_ | refine State.hostRequest_kept _ _ _ ?_ ?_)

theorem execClaim_kept {m : Nat} {org : State} :
    ∀ a0 a1 s, Sub 1870528510 m → Kept m org s → KeptOut m org (execClaim a0 a1 s) := by
  intro a0 a1 s hp h
  unfold execClaim
  try dsimp only
  repeat' first
    | (with_reducible first
        | assumption | refine next_kept ?_ | refine State.hostRequest_kept _ _ _ ?_ ?_)

theorem execRelease_kept {m : Nat} {org : State} :
    ∀ a0 a1 s, Sub 1870528510 m → Kept m org s → KeptOut m org (execRelease a0 a1 s) := by
  intro a0 a1 s hp h
  unfold execRelease
  try dsimp only
  repeat' first
    | (with_reducible first
        | assumption | refine next_kept ?_ | refine State.hostRequest_kept _ _ _ ?_ ?_)

theorem execNext_kept {m : Nat} {org : State} :
    ∀ a0 a1 s, Sub 1870528510 m → Kept m org s → KeptOut m org (execNext a0 a1 s) := by
  intro a0 a1 s hp h
  unfold execNext
  try dsimp only
  repeat' first
    | (with_reducible first
        | assumption | refine next_kept ?_ | refine State.hostRequest_kept _ _ _ ?_ ?_)

theorem execDefault_kept {m : Nat} {org : State} :
    ∀ a0 a1 a2 s, Sub 1870528510 m → Kept m org s → KeptOut m org (execDefault a0 a1 a2 s) := by
  intro a0 a1 a2 s hp h
  unfold execDefault
  try dsimp only
  repeat' first
    | (with_reducible first
        | assumption | refine next_kept ?_ | refine State.hostRequest_kept _ _ _ ?_ ?_)

theorem execResponseSent_kept {m : Nat} {org : State} :
    ∀ a0 s, Sub 2147483646 m → Kept m org s → KeptOut m org (execResponseSent a0 s) := by
  intro a0 s hp h
  unfold execResponseSent
  try dsimp only
  repeat' first
    | (with_reducible first
        | assumption | refine ite_keptOut ?_ ?_ | refine next_kept ?_ | refine State.respond_kept _ _ ?_ ?_)

theorem execClaimTimeout_kept {m : Nat} {org : State} :
    ∀ a0 s, Sub 32 m → Kept m org s → KeptOut m org (execClaimTimeout a0 s) := by
  intro a0 s hp h
  unfold execClaimTimeout
  try dsimp only
  repeat' first
    | (with_reducible first
        | assumption | refine ite_keptOut ?_ ?_ | refine next_kept ?_ | refine State.setLan_kept _ _ ?_ ?_)

theorem execClaimBreak_kept {m : Nat} {org : State} :
    ∀ a0 a1 s, Sub 536871014 m → Kept m org s → KeptOut m org (execClaimBreak a0 a1 s) := by
  intro a0 a1 s hp h
  unfold execClaimBreak
  try dsimp only
  repeat' first
    | with_reducible assumption
    | ((with_reducible refine so hp ?_); rfl)
    | (with_reducible first
        | refine next_kept ?_ | refine State.hostWrite_kept _ _ _ _ _ _ ?_ ?_ ?_
        | refine State.claimBreakEff_kept _ _ _ _ ?_ ?_)
    | intro _

theorem execEventAcknowledgement_kept {m : Nat} {org : State} :
    ∀ a0 a1 s, Sub 32 m → Kept m org s → KeptOut m org (execEventAcknowledgement a0 a1 s) := by
  intro a0 a1 s hp h
  unfold execEventAcknowledgement
  try dsimp only
  repeat' first
    | (with_reducible first
        | assumption | refine ite_keptOut ?_ ?_ | refine next_kept ?_ | refine State.ackEvents_kept _ _ _ ?_ ?_)

theorem execEventSend_kept {m : Nat} {org : State} :
    ∀ a0 s, Sub 536871008 m → Kept m org s → KeptOut m org (execEventSend a0 s) := by
  intro a0 s hp h
  unfold execEventSend
  try dsimp only
  repeat' first
    | (with_reducible first
        | assumption | refine ite_keptOut ?_ ?_ | refine next_kept ?_ | refine State.sendEvents_kept _ _ _ ?_ ?_)

theorem execEventResend_kept {m : Nat} {org : State} :
    ∀ a0 s, Sub 536871008 m → Kept m org s → KeptOut m org (execEventResend a0 s) := by
  intro a0 s hp h
  unfold execEventResend
  try dsimp only
  repeat' first
    | (with_reducible first
        | assumption | refine ite_keptOut ?_ ?_ | refine next_kept ?_ | refine State.sendEvents_kept _ _ _ ?_ ?_)

theorem execMasterKeyWrite_kept {m : Nat} {org : State} :
    ∀ a0 a1 a2 s, Sub 1870528510 m → Kept m org s → KeptOut m org (execMasterKeyWrite a0 a1 a2 s) := by
  intro a0 a1 a2 s hp h
  unfold execMasterKeyWrite
  try dsimp only
  repeat' first
    | (with_reducible first
        | assumption | refine next_kept ?_ | refine State.hostRequest_kept _ _ _ ?_ ?_)

theorem execCommissionKeyWrite_kept {m : Nat} {org : State} :
    ∀ a0 a1 s, Sub 1870528510 m → Kept m org s → KeptOut m org (execCommissionKeyWrite a0 a1 s) := by
  intro a0 a1 s hp h
  unfold execCommissionKeyWrite
  try dsimp only
  repeat' first
    | (with_reducible first
        | assumption | refine next_kept ?_ | refine State.hostRequest_kept _ _ _ ?_ ?_)

theorem execImageUpload_kept {m : Nat} {org : State} :
    ∀ a0 a1 a2 a3 s, Sub 1870528510 m → Kept m org s → KeptOut m org (execImageUpload a0 a1 a2 a3 s) := by
  intro a0 a1 a2 a3 s hp h
  unfold execImageUpload
  try dsimp only
  repeat' first
    | (with_reducible first
        | assumption | refine next_kept ?_ | refine State.hostRequest_kept _ _ _ ?_ ?_)

theorem execImageCommit_kept {m : Nat} {org : State} :
    ∀ a0 a1 a2 s, Sub 1870528510 m → Kept m org s → KeptOut m org (execImageCommit a0 a1 a2 s) := by
  intro a0 a1 a2 s hp h
  unfold execImageCommit
  try dsimp only
  repeat' first
    | (with_reducible first
        | assumption | refine next_kept ?_ | refine State.hostRequest_kept _ _ _ ?_ ?_)

theorem execImageStored_kept {m : Nat} {org : State} :
    ∀ a0 s, Sub 98 m → Kept m org s → KeptOut m org (execImageStored a0 s) := by
  intro a0 s hp h
  unfold execImageStored
  try dsimp only
  repeat' first
    | (with_reducible first
        | assumption | refine ite_keptOut ?_ ?_ | refine next_kept ?_ | refine State.imageStore_kept _ _ ?_ ?_)

theorem execOmciSend_kept {m : Nat} {org : State} :
    ∀ a0 a1 a2 s, Sub 1870528510 m → Kept m org s → KeptOut m org (execOmciSend a0 a1 a2 s) := by
  intro a0 a1 a2 s hp h
  unfold execOmciSend
  try dsimp only
  repeat' first
    | (with_reducible first
        | assumption | refine next_kept ?_ | refine State.hostRequest_kept _ _ _ ?_ ?_)

theorem execAttestRequest_kept {m : Nat} {org : State} :
    ∀ a0 a1 a2 s, Sub 1870528510 m → Kept m org s → KeptOut m org (execAttestRequest a0 a1 a2 s) := by
  intro a0 a1 a2 s hp h
  unfold execAttestRequest
  try dsimp only
  repeat' first
    | (with_reducible first
        | assumption | refine next_kept ?_ | refine State.hostRequest_kept _ _ _ ?_ ?_)

theorem execAttestReportSigned_kept {m : Nat} {org : State} :
    ∀ a0 s, Sub 102 m → Kept m org s → KeptOut m org (execAttestReportSigned a0 s) := by
  intro a0 s hp h
  unfold execAttestReportSigned
  try dsimp only
  repeat' first
    | (with_reducible first
        | assumption | refine ite_keptOut ?_ ?_ | refine next_kept ?_ | refine State.reportSign_kept _ _ ?_ ?_)
    | split

theorem execFirmwareRollbackCommit_kept {m : Nat} {org : State} :
    ∀ a0 a1 s, Sub 1870528510 m → Kept m org s → KeptOut m org (execFirmwareRollbackCommit a0 a1 s) := by
  intro a0 a1 s hp h
  unfold execFirmwareRollbackCommit
  try dsimp only
  repeat' first
    | (with_reducible first
        | assumption | refine next_kept ?_ | refine State.hostRequest_kept _ _ _ ?_ ?_)

theorem execWarmResetLantern_kept {m : Nat} {org : State} :
    ∀ a0 s, Sub 1870528510 m → Kept m org s → KeptOut m org (execWarmResetLantern a0 s) := by
  intro a0 s hp h
  unfold execWarmResetLantern
  try dsimp only
  repeat' first
    | (with_reducible first
        | assumption | refine next_kept ?_ | refine State.hostRequest_kept _ _ _ ?_ ?_)

theorem execWarmResetDevice_kept {m : Nat} {org : State} :
    ∀ a0 s, Sub 1870528510 m → Kept m org s → KeptOut m org (execWarmResetDevice a0 s) := by
  intro a0 s hp h
  unfold execWarmResetDevice
  try dsimp only
  repeat' first
    | (with_reducible first
        | assumption | refine next_kept ?_ | refine State.hostRequest_kept _ _ _ ?_ ?_)

theorem execFirmwareActivate_kept {m : Nat} {org : State} :
    ∀ a0 a1 s, Sub 1870528510 m → Kept m org s → KeptOut m org (execFirmwareActivate a0 a1 s) := by
  intro a0 a1 s hp h
  unfold execFirmwareActivate
  try dsimp only
  repeat' first
    | (with_reducible first
        | assumption | refine next_kept ?_ | refine State.hostRequest_kept _ _ _ ?_ ?_)

theorem execFirmwareConfirm_kept {m : Nat} {org : State} :
    ∀ a0 a1 s, Sub 1870528510 m → Kept m org s → KeptOut m org (execFirmwareConfirm a0 a1 s) := by
  intro a0 a1 s hp h
  unfold execFirmwareConfirm
  try dsimp only
  repeat' first
    | (with_reducible first
        | assumption | refine next_kept ?_ | refine State.hostRequest_kept _ _ _ ?_ ?_)

theorem execFirmwareTrialExpiry_kept {m : Nat} {org : State} :
    ∀ s, Sub 67558 m → Kept m org s → KeptOut m org (execFirmwareTrialExpiry s) := by
  intro s hp h
  unfold execFirmwareTrialExpiry
  try dsimp only
  repeat' first
    | with_reducible assumption
    | ((with_reducible refine so hp ?_); rfl)
    | (with_reducible first
        | refine ite_keptOut ?_ ?_ | refine next_kept ?_ | refine State.lanternReset_kept _ _ ?_ ?_
        | refine State.setNvm_kept _ _ ?_ ?_ | refine State.orderly_kept _ ?_ ?_)
    | split

theorem execRawRegisterRead_kept {m : Nat} {org : State} :
    ∀ a0 a1 s, Sub 1870528510 m → Kept m org s → KeptOut m org (execRawRegisterRead a0 a1 s) := by
  intro a0 a1 s hp h
  unfold execRawRegisterRead
  try dsimp only
  repeat' first
    | (with_reducible first
        | assumption | refine next_kept ?_ | refine State.hostRequest_kept _ _ _ ?_ ?_)

theorem execRawRegisterWrite_kept {m : Nat} {org : State} :
    ∀ a0 a1 a2 a3 s, Sub 1870512126 m → Kept m org s → KeptOut m org (execRawRegisterWrite a0 a1 a2 a3 s) := by
  intro a0 a1 a2 a3 s hp h
  unfold execRawRegisterWrite
  try dsimp only
  repeat' first
    | with_reducible assumption
    | ((with_reducible refine so hp ?_); rfl)
    | (with_reducible first
        | refine next_kept ?_ | refine State.hostWrite_kept _ _ _ _ _ _ ?_ ?_ ?_
        | refine State.rawWriteEff_kept _ _ _ _ _ ?_ ?_)
    | intro _

end Sys2Proof.Machine
end

