-- ==== Sys2Proof/Laws/Kept/Boundary.lean ====
section
/-!
SUPPORT. The operations of Machine/Boundary.lean keep soundness and the parts they do not name.
-/

namespace Sys2Proof.Machine

open State

theorem State.epochFrame_kept {m : Nat} {org : State} :
    ∀ s a1, Sub 16777222 m → Kept m org s → Kept m org (State.epochFrame s a1) := by
  intro s a1 hp h
  unfold State.epochFrame
  try dsimp only
  repeat' first
    | with_reducible assumption
    | ((with_reducible refine so hp ?_); rfl)
    | (with_reducible first
        | refine ite_kept ?_ ?_ | refine State.coverEpoch_kept _ _ _ ?_ ?_ | refine State.setGch_kept _ _ _ ?_ ?_)

theorem State.dueWrites_kept {m : Nat} {org : State} :
    ∀ s, Sub 1870512126 m → Kept m org s → Kept m org (State.dueWrites s) := by
  intro s hp h
  unfold State.dueWrites
  try dsimp only
  repeat' first
    | with_reducible assumption
    | ((with_reducible refine so hp ?_); rfl)
    | (with_reducible first
        | refine ite_kept ?_ ?_ | refine State.boundaryWrites_kept _ _ ?_ ?_
        | refine State.activationAborts_kept _ _ ?_ ?_ ?_ | refine State.applySets_kept _ _ ?_ ?_)

theorem State.startLane_kept {m : Nat} {org : State} :
    ∀ s a1, Sub 8486 m → Kept m org s → Kept m org (State.startLane s a1) := by
  intro s a1 hp h
  unfold State.startLane
  try dsimp only
  repeat' first
    | with_reducible assumption
    | ((with_reducible refine so hp ?_); rfl)
    | (with_reducible first
        | refine ite_kept ?_ ?_ | refine State.laneStart_kept _ _ ?_ ?_ | refine State.asymLoad_kept _ _ ?_ ?_
        | refine State.setLane_kept _ _ _ ?_ ?_)

theorem State.startFrame_kept {m : Nat} {org : State} :
    ∀ s a1, Sub 560140582 m → Kept m org s → Kept m org (State.startFrame s a1) := by
  intro s a1 hp h
  unfold State.startFrame
  try dsimp only
  repeat' first
    | with_reducible assumption
    | ((with_reducible refine so hp ?_); rfl)
    | (with_reducible first
        | refine State.mapsEnd_kept _ _ ?_ ?_ | refine State.noteAlloc_kept _ _ ?_ ?_
        | refine State.noteSent_kept _ _ ?_ ?_ | refine State.sendMap_kept _ _ ?_ ?_
        | refine State.discardUnserved_kept _ _ ?_ ?_)

theorem State.fabricFrame_kept {m : Nat} {org : State} :
    ∀ s, Sub 1870643198 m → Kept m org s → Kept m org (State.fabricFrame s) := by
  intro s hp h
  unfold State.fabricFrame
  try dsimp only
  repeat' first
    | with_reducible assumption
    | ((with_reducible refine so hp ?_); rfl)
    | (with_reducible first
        | refine foldl_kept _ _ ?_ ?_ | refine State.epochFrame_kept _ _ ?_ ?_ | refine State.ciphFrame_kept _ ?_ ?_
        | refine State.snuffFrame_kept _ ?_ ?_ | refine State.headlessAborts_kept _ ?_ ?_
        | refine State.dueWrites_kept _ ?_ ?_ | refine State.laneFrame_kept _ ?_ ?_
        | refine State.allocFrame_kept _ ?_ ?_ | refine State.actFrame_kept _ ?_ ?_ | refine State.steer_kept _ ?_ ?_
        | refine State.frameSelect_kept _ ?_ ?_ | refine State.leaveAll_kept _ ?_ ?_
        | refine State.startLane_kept _ _ ?_ ?_ | refine State.pllFrame_kept _ _ ?_ ?_
        | refine State.soloFrame_kept _ ?_ ?_ | refine State.startFrame_kept _ _ ?_ ?_
        | refine State.framerEmpty_kept _ _ ?_ ?_)
    | intro _

theorem State.frameWork_kept {m : Nat} {org : State} :
    ∀ s, Sub 1870643198 m → Kept m org s → Kept m org (State.frameWork s) := by
  intro s hp h
  unfold State.frameWork
  try dsimp only
  repeat' first
    | with_reducible assumption
    | ((with_reducible refine so hp ?_); rfl)
    | (with_reducible first
        | refine ite_kept ?_ ?_ | refine State.fabricFrame_kept _ ?_ ?_ | refine State.steer_kept _ ?_ ?_
        | refine State.frameSelect_kept _ ?_ ?_ | refine State.setClk_kept _ _ ?_ ?_ ?_)
    | exact fun _ hc => ⟨hc.1, hc.2⟩

theorem State.ppsOut_kept {m : Nat} {org : State} :
    ∀ s a1, Sub 536870912 m → Kept m org s → Kept m org (State.ppsOut s a1) := by
  intro s a1 hp h
  unfold State.ppsOut
  try dsimp only
  repeat' first
    | (with_reducible first
        | assumption | refine ite_kept ?_ ?_ | refine State.emit_kept _ _ ?_ ?_)

theorem State.todOut_kept {m : Nat} {org : State} :
    ∀ s, Sub 536870912 m → Kept m org s → Kept m org (State.todOut s) := by
  intro s hp h
  unfold State.todOut
  try dsimp only
  repeat' first
    | (with_reducible first
        | assumption | refine ite_kept ?_ ?_ | refine State.emit_kept _ _ ?_ ?_)

theorem State.freqOut_kept {m : Nat} {org : State} :
    ∀ s a1, Sub 536870912 m → Kept m org s → Kept m org (State.freqOut s a1) := by
  intro s a1 hp h
  unfold State.freqOut
  try dsimp only
  repeat' first
    | (with_reducible first
        | assumption | refine ite_kept ?_ ?_ | refine State.emit_kept _ _ ?_ ?_)

theorem State.unitSecond_kept {m : Nat} {org : State} :
    ∀ s a1, Sub 6 m → Kept m org s → Kept m org (State.unitSecond s a1) := by
  intro s a1 hp h
  unfold State.unitSecond
  try dsimp only
  repeat' first
    | with_reducible assumption
    | ((with_reducible refine so hp ?_); rfl)
    | (with_reducible first
        | refine ite_kept ?_ ?_ | refine foldl_kept _ _ ?_ ?_ | refine State.put_kept _ _ _ _ ?_ ?_
        | refine State.putReg_kept _ _ _ ?_ ?_)
    | intro _

theorem State.lineSecond_kept {m : Nat} {org : State} :
    ∀ s a1, Sub 2 m → Kept m org s → Kept m org (State.lineSecond s a1) := by
  intro s a1 hp h
  unfold State.lineSecond
  try dsimp only
  repeat' first
    | (with_reducible first
        | assumption | refine ite_kept ?_ ?_ | refine State.putOct_kept _ _ _ _ ?_ ?_
        | refine State.bump_kept _ _ _ _ ?_ ?_)

theorem State.sensed_kept {m : Nat} {org : State} :
    ∀ s a1, Sub 2 m → Kept m org s → Kept m org (State.sensed s a1) := by
  intro s a1 hp h
  unfold State.sensed
  try dsimp only
  repeat' first
    | (with_reducible first
        | assumption | refine State.put_kept _ _ _ _ ?_ ?_ | refine State.puti_kept _ _ _ _ ?_ ?_)

theorem State.fabricSecond_kept {m : Nat} {org : State} :
    ∀ s, Sub 1870643198 m → Kept m org s → Kept m org (State.fabricSecond s) := by
  intro s hp h
  unfold State.fabricSecond
  try dsimp only
  repeat' first
    | with_reducible assumption
    | ((with_reducible refine so hp ?_); rfl)
    | (with_reducible first
        | refine foldl_kept _ _ ?_ ?_ | refine State.freqOut_kept _ _ ?_ ?_ | refine State.ppsOut_kept _ _ ?_ ?_
        | refine State.todOut_kept _ ?_ ?_ | refine State.dueWrites_kept _ ?_ ?_
        | refine State.rtdUpdate_kept _ ?_ ?_ | refine State.count_kept _ _ _ _ ?_ ?_
        | refine State.channelTod_kept _ _ ?_ ?_ | refine State.lineSecond_kept _ _ ?_ ?_
        | refine State.unitSecond_kept _ _ ?_ ?_)
    | split
    | intro _
    | ((with_reducible refine mk_kept ?_ ?_ ?_ ?_ ?_ ?_ ?_ ?_ ?_ ?_ ?_ ?_ ?_ ?_ ?_ ?_ ?_ ?_ ?_ ?_ ?_ ?_ ?_ ?_ ?_ ?_ ?_) <;> try (intro hq; first | exact (hit hp rfl hq).elim | with_reducible rfl))

theorem State.secondWork_kept {m : Nat} {org : State} :
    ∀ s a1, Sub 1870643198 m → Kept m org s → Kept m org (State.secondWork s a1) := by
  intro s a1 hp h
  unfold State.secondWork
  try dsimp only
  repeat' first
    | with_reducible assumption
    | ((with_reducible refine so hp ?_); rfl)
    | (with_reducible first
        | refine ite_kept ?_ ?_ | refine State.wickSecond_kept _ ?_ ?_ | refine State.sensed_kept _ _ ?_ ?_
        | refine State.lifeSecond_kept _ ?_ ?_ | refine State.fabricSecond_kept _ ?_ ?_
        | refine State.setClk_kept _ _ ?_ ?_ ?_)
    | exact fun _ hc => ⟨hc.1, hc.2⟩

theorem State.idle_kept {m : Nat} {org : State} :
    ∀ s, Sub 1870643198 m → Kept m org s → Kept m org (State.idle s) := by
  intro s hp h
  unfold State.idle
  try dsimp only
  repeat' first
    | with_reducible assumption
    | ((with_reducible refine so hp ?_); rfl)
    | (with_reducible first
        | refine ite_kept ?_ ?_ | refine State.frameWork_kept _ ?_ ?_ | refine State.toBoundary_kept _ ?_ ?_
        | refine State.secondWork_kept _ _ ?_ ?_ | refine State.tick_kept _ ?_ ?_)

theorem State.runEntry_kept {m : Nat} {org : State} :
    ∀ s a1, Sub 560148774 m → Kept m org s → Kept m org (State.runEntry s a1) := by
  intro s a1 hp h
  unfold State.runEntry
  try dsimp only
  repeat' first
    | with_reducible assumption
    | ((with_reducible refine so hp ?_); rfl)
    | (with_reducible first
        | refine ite_kept ?_ ?_ | refine State.epochFrame_kept _ _ ?_ ?_ | refine State.portEvents_kept _ _ ?_ ?_
        | refine State.quarantineReplay_kept _ _ ?_ ?_ | refine State.announceAll_kept _ _ ?_ ?_
        | refine State.laneRun_kept _ _ ?_ ?_ | refine State.startFrame_kept _ _ ?_ ?_)

theorem execFrameBoundary_kept {m : Nat} {org : State} :
    ∀ s, Sub 1870643198 m → Kept m org s → KeptOut m org (execFrameBoundary s) := by
  intro s hp h
  unfold execFrameBoundary
  try dsimp only
  repeat' first
    | with_reducible assumption
    | ((with_reducible refine so hp ?_); rfl)
    | (with_reducible first
        | refine ite_keptOut ?_ ?_ | refine next_kept ?_ | refine State.frameWork_kept _ ?_ ?_
        | refine State.toBoundary_kept _ ?_ ?_)

theorem execSecondBoundary_kept {m : Nat} {org : State} :
    ∀ a0 s, Sub 1870643198 m → Kept m org s → KeptOut m org (execSecondBoundary a0 s) := by
  intro a0 s hp h
  unfold execSecondBoundary
  try dsimp only
  repeat' first
    | (with_reducible first
        | assumption | refine ite_keptOut ?_ ?_ | refine next_kept ?_ | refine State.secondWork_kept _ _ ?_ ?_)

theorem execEpochStart_kept {m : Nat} {org : State} :
    ∀ a0 s, Sub 1870512126 m → Kept m org s → KeptOut m org (execEpochStart a0 s) := by
  intro a0 s hp h
  unfold execEpochStart
  try dsimp only
  repeat' first
    | with_reducible assumption
    | ((with_reducible refine so hp ?_); rfl)
    | (with_reducible first
        | refine ite_kept ?_ ?_ | refine ite_keptOut ?_ ?_ | refine next_kept ?_
        | refine State.epochFrame_kept _ _ ?_ ?_ | refine State.boundaryWrites_kept _ _ ?_ ?_
        | refine State.applySets_kept _ _ ?_ ?_ | refine State.put_kept _ _ _ _ ?_ ?_)

theorem execLaneRunEntry_kept {m : Nat} {org : State} :
    ∀ a0 s, Sub 560148774 m → Kept m org s → KeptOut m org (execLaneRunEntry a0 s) := by
  intro a0 s hp h
  unfold execLaneRunEntry
  try dsimp only
  repeat' first
    | (with_reducible first
        | assumption | refine ite_keptOut ?_ ?_ | refine next_kept ?_ | refine State.runEntry_kept _ _ ?_ ?_)

end Sys2Proof.Machine
end

