-- ==== Sys2Proof/Laws/Host.lean ====
section
/-!
SUPPORT. What a frame says of single reads, and a host write of one record that acceptance admits: the counter accepted,
the effect, the message left outstanding.
-/

namespace Sys2Proof.Machine

open State

/-! ### Frames of objects and registers -/

@[simp] theorem State.bit_raise (s : State) (k : Nat) (o : Obj) (i : Nat) (d : List Byte) (a j : Nat) :
    (s.raise k o i d).bit a j = s.bit a j := State.bit_of_reg (by simp) j

@[simp] theorem State.bit_putVal (s : State) (o : Obj) (i : Nat) (v : Val) (a j : Nat) :
    (s.putVal o i v).bit a j = s.bit a j := State.bit_of_reg (by simp) j

theorem State.ObjsBut_refl (s : State) (ws : List (Obj × Nat)) : s.ObjsBut ws s := fun _ _ _ _ => rfl

theorem State.ObjsBut_of_objs {s t : State} (ws : List (Obj × Nat)) (h : t.objs = s.objs) : s.ObjsBut ws t :=
  fun o i _ _ => State.val_of_objs h o i

theorem State.ObjsBut_trans {s t u : State} {ws : List (Obj × Nat)} (h : s.ObjsBut ws t) (k : t.ObjsBut ws u) :
    s.ObjsBut ws u := fun o i hi hw => (k o i hi hw).trans (h o i hi hw)

theorem State.ObjsBut_putVal {s t : State} {ws : List (Obj × Nat)} (o : Obj) (i : Nat) (v : Val) (hi : i < 16777216)
    (hw : (o, i) ∈ ws) (h : s.ObjsBut ws t) : s.ObjsBut ws (t.putVal o i v) := by
  intro p j hj hp
  rw [State.val_putVal_ne t v hi hj (fun e => hp (by rw [e.1, e.2]; exact hw))]
  exact h p j hj hp

theorem State.ObjsBut_bump {s t : State} {ws : List (Obj × Nat)} (o : Obj) (i k : Nat) (hi : i < 16777216)
    (hw : (o, i) ∈ ws) (h : s.ObjsBut ws t) : s.ObjsBut ws (t.bump o i k) := by
  simp only [State.bump]
  split <;> exact State.ObjsBut_putVal o i _ hi hw h

theorem State.ObjsBut_raise {s t : State} {ws : List (Obj × Nat)} (k : Nat) (o : Obj) (i : Nat) (d : List Byte)
    (hw : (.sconceEventsLost, 0) ∈ ws) (h : s.ObjsBut ws t) : s.ObjsBut ws (t.raise k o i d) := by
  intro p j hj hp
  refine Eq.trans ?_ (h p j hj hp)
  by_cases hc : p.code = Obj.sconceEventsLost.code
  · have := Obj.code_inj hc
    subst this
    have hj0 : j ≠ 0 := fun e => hp (by rw [e]; exact hw)
    simp only [State.raise, State.raiseL, State.queueAll]
    have q : ∀ (u : State) (m : Master) (e : EventRec), (u.queueTo m e).val .sconceEventsLost j = u.val .sconceEventsLost j := by
      intro u m e
      simp only [State.queueTo]
      split
      · split
        · exact State.val_bump_inst _ _ _ hj0
        · rfl
      · rfl
    split
    · split <;> rfl
    · split
      · rw [q, q, q]
      · rfl
  · exact State.val_raise t k o i d hc hj

theorem State.RegsBut_of_regs {s t : State} (ws : List Nat) (h : t.regs = s.regs) : s.RegsBut ws t :=
  fun a _ => State.reg_of_regs h a

theorem State.RegsBut_putReg {s t : State} {ws : List Nat} (a v : Nat) (hw : a ∈ ws) (h : s.RegsBut ws t) :
    s.RegsBut ws (t.putReg a v) := by
  intro b hb
  rw [State.reg_putReg_other t v (fun e => hb (by rw [e]; exact hw))]
  exact h b hb

/-! ### Parts -/

theorem only_of {m : Nat} {ps : List Part} {s t : State} {o : Host.Outcome State Fault Refusal} (h : KeptOut m s o)
    (e : o = .next t) (hm : ∀ p, p ∉ ps → m.testBit p.ix = false) : s.Only ps t := Within_only (h t e).2 hm

/-! ### A host write -/

theorem State.oneRecord_takes {s : State} {m : Master} (h : s.Takes m) (act : State → State × List OpRes) :
    s.oneRecord m act = (act (s.taken m)).1.addMsg m false (act (s.taken m)).2 := by
  obtain ⟨h1, h2, h3⟩ := h
  unfold State.oneRecord State.taken
  rw [if_neg (by simp [h1]; exact h2), if_neg (by omega)]

theorem State.taken_kept (s : State) (m : Master) : Kept 98 s (s.taken m) :=
  State.acceptCounter_kept (m := 98) s m _ rfl (kept_refl _ s)

theorem State.taken_same (s : State) (m : Master) (p : Part) (h : (98 : Nat).testBit p.ix = false) :
    State.Same p s (s.taken m) := (s.taken_kept m).2 p h

@[simp] theorem State.taken_msgs (s : State) (m : Master) : (s.taken m).lan.msgs = s.lan.msgs := by
  unfold State.taken State.acceptCounter
  dsimp only
  split <;> simp

@[simp] theorem State.taken_claims (s : State) (m : Master) : (s.taken m).lan.claims = s.lan.claims := by
  unfold State.taken State.acceptCounter
  dsimp only
  split <;> simp

@[simp] theorem State.taken_written (s : State) (m : Master) : (s.taken m).lan.written = s.lan.written := by
  unfold State.taken State.acceptCounter
  dsimp only
  split <;> simp

@[simp] theorem State.taken_keys (s : State) (m : Master) : (s.taken m).nvm.keys = s.nvm.keys := by
  unfold State.taken State.acceptCounter
  dsimp only
  split
  · simp only [State.setNvm, State.bump_nvm, State.setMaster_nvm]
    split <;> rfl
  · simp

theorem State.taken_objs (s : State) (m : Master) : s.ObjsBut [(.sconceRequests, 0)] (s.taken m) := by
  unfold State.taken State.acceptCounter
  dsimp only
  refine State.ObjsBut_bump _ _ _ (by decide) (by simp) (State.ObjsBut_of_objs _ ?_)
  split <;> simp

theorem State.taken_val (s : State) (m : Master) {o : Obj} {i : Nat} (h : o ≠ .sconceRequests) (hi : i < 16777216) :
    (s.taken m).val o i = s.val o i := s.taken_objs m o i hi (by simp [h])

/-- Acceptance reads nothing that accepting a counter changes. -/
theorem State.acceptCode_taken (s : State) (m : Master) (o : Obj) (i : Nat) (bs : List Byte) :
    (s.taken m).acceptCode m o i bs = s.acceptCode m o i bs := by
  have hb : (s.taken m).boot = s.boot := s.taken_same m .boot rfl
  have hc : (s.taken m).ciph = s.ciph := s.taken_same m .ciph rfl
  have hf : (s.taken m).foreignWrite m o i = s.foreignWrite m o i := by
    unfold State.foreignWrite
    split <;> first | rfl | (rw [State.n_of_val (s.taken_val m (by decide) (by decide))])
  unfold State.acceptCode State.accessCode State.exists? State.writtenOnce State.lockedObj State.factoryKey State.claimedBy
  simp only [hb, hc, hf, State.taken_written, State.taken_keys, State.taken_claims]

/-- An admitted host write of an Immediate object: the effect on the state with the counter accepted, and the message. -/
theorem State.hostWrite_admits {s : State} {m : Master} {o : Obj} {i : Nat} {bs : List Byte} (h : s.Admits m o i bs)
    (eff : Eff) : s.hostWrite m o i bs eff =
      (eff (s.taken m) m i bs).1.addMsg m false [resOf 2 o i (some (eff (s.taken m) m i bs).2) []] := by
  unfold State.hostWrite
  rw [State.oneRecord_takes h.1]
  have hc : (s.taken m).acceptCode m o i bs = Abort.ok := by rw [State.acceptCode_taken]; exact h.2
  simp [State.immediateWrite, hc]

/-- Every part but Lantern's is as it was before the message was added. -/
theorem State.addMsg_same (s : State) (m : Master) (x : Bool) (rs : List OpRes) (p : Part) (h : p ≠ .lan) :
    State.Same p s (s.addMsg m x rs) := by cases p <;> first | rfl | exact absurd rfl h

theorem State.addMsg_val (s : State) (m : Master) (x : Bool) (rs : List OpRes) (o : Obj) (i : Nat) :
    (s.addMsg m x rs).val o i = s.val o i := rfl

/-- The message of an effect that leaves the outstanding ones alone. -/
theorem State.answered_addMsg {s t : State} (h : t.lan.msgs = s.lan.msgs) (m : Master) (o : Obj) (i : Nat) (c : Option Nat)
    (n : Nat) (v : List Byte) : s.Answered (t.addMsg m false [resOf n o i c v]) m c :=
  ⟨_, by simp only [State.addMsg, h]; rfl, rfl, rfl⟩

/-! ### Reads after a counter has been accepted and a message added -/

@[simp] theorem State.taken_pending (s : State) (m : Master) : (s.taken m).pending = s.pending := s.taken_same m .pending rfl
@[simp] theorem State.taken_regs (s : State) (m : Master) : (s.taken m).regs = s.regs := s.taken_same m .regs rfl
@[simp] theorem State.taken_latched (s : State) (m : Master) : (s.taken m).latched = s.latched := s.taken_same m .latched rfl
@[simp] theorem State.taken_clk (s : State) (m : Master) : (s.taken m).clk = s.clk := s.taken_same m .clk rfl
@[simp] theorem State.taken_stage (s : State) (m : Master) : (s.taken m).stage = s.stage := s.taken_same m .stage rfl
@[simp] theorem State.taken_ucie (s : State) (m : Master) : (s.taken m).ucie = s.ucie := s.taken_same m .ucie rfl
@[simp] theorem State.taken_boot (s : State) (m : Master) : (s.taken m).boot = s.boot := s.taken_same m .boot rfl
@[simp] theorem State.taken_life (s : State) (m : Master) : (s.taken m).life = s.life := s.taken_same m .life rfl
@[simp] theorem State.taken_snuffs (s : State) (m : Master) : (s.taken m).snuffs = s.snuffs := s.taken_same m .snuffs rfl
@[simp] theorem State.taken_limits (s : State) (m : Master) : (s.taken m).limits = s.limits := s.taken_same m .limits rfl
@[simp] theorem State.taken_lanes (s : State) (m : Master) : (s.taken m).lanes = s.lanes := s.taken_same m .lanes rfl
@[simp] theorem State.taken_cages (s : State) (m : Master) : (s.taken m).cages = s.cages := s.taken_same m .cages rfl
@[simp] theorem State.taken_eqRuns (s : State) (m : Master) : (s.taken m).eqRuns = s.eqRuns := s.taken_same m .eqRuns rfl
@[simp] theorem State.taken_framers (s : State) (m : Master) : (s.taken m).framers = s.framers := s.taken_same m .framers rfl
@[simp] theorem State.taken_lineRun (s : State) (m : Master) : (s.taken m).lineRun = s.lineRun := s.taken_same m .lineRun rfl
@[simp] theorem State.taken_gal (s : State) (m : Master) : (s.taken m).gal = s.gal := s.taken_same m .gal rfl
@[simp] theorem State.taken_frags (s : State) (m : Master) : (s.taken m).frags = s.frags := s.taken_same m .frags rfl
@[simp] theorem State.taken_tm (s : State) (m : Master) : (s.taken m).tm = s.tm := s.taken_same m .tm rfl
@[simp] theorem State.taken_terms (s : State) (m : Master) : (s.taken m).terms = s.terms := s.taken_same m .terms rfl
@[simp] theorem State.taken_acts (s : State) (m : Master) : (s.taken m).acts = s.acts := s.taken_same m .acts rfl
@[simp] theorem State.taken_logEvents (s : State) (m : Master) : (s.taken m).logEvents = s.logEvents := s.taken_same m .logEvents rfl
@[simp] theorem State.taken_grants (s : State) (m : Master) : (s.taken m).grants = s.grants := s.taken_same m .grants rfl
@[simp] theorem State.taken_ciph (s : State) (m : Master) : (s.taken m).ciph = s.ciph := s.taken_same m .ciph rfl
@[simp] theorem State.taken_uplinks (s : State) (m : Master) : (s.taken m).uplinks = s.uplinks := s.taken_same m .uplinks rfl
@[simp] theorem State.taken_psgs (s : State) (m : Master) : (s.taken m).psgs = s.psgs := s.taken_same m .psgs rfl
@[simp] theorem State.taken_casc (s : State) (m : Master) : (s.taken m).casc = s.casc := s.taken_same m .casc rfl
@[simp] theorem State.taken_sent (s : State) (m : Master) : (s.taken m).sent = s.sent := s.taken_same m .sent rfl
@[simp] theorem State.taken_fresh (s : State) (m : Master) : (s.taken m).fresh = s.fresh := s.taken_same m .fresh rfl

@[simp] theorem State.addMsg_pending (s : State) (m : Master) (x : Bool) (rs : List OpRes) : (s.addMsg m x rs).pending = s.pending := rfl
@[simp] theorem State.addMsg_objs (s : State) (m : Master) (x : Bool) (rs : List OpRes) : (s.addMsg m x rs).objs = s.objs := rfl
@[simp] theorem State.addMsg_regs (s : State) (m : Master) (x : Bool) (rs : List OpRes) : (s.addMsg m x rs).regs = s.regs := rfl
@[simp] theorem State.addMsg_latched (s : State) (m : Master) (x : Bool) (rs : List OpRes) : (s.addMsg m x rs).latched = s.latched := rfl
@[simp] theorem State.addMsg_clk (s : State) (m : Master) (x : Bool) (rs : List OpRes) : (s.addMsg m x rs).clk = s.clk := rfl
@[simp] theorem State.addMsg_nvm (s : State) (m : Master) (x : Bool) (rs : List OpRes) : (s.addMsg m x rs).nvm = s.nvm := rfl
@[simp] theorem State.addMsg_stage (s : State) (m : Master) (x : Bool) (rs : List OpRes) : (s.addMsg m x rs).stage = s.stage := rfl
@[simp] theorem State.addMsg_ucie (s : State) (m : Master) (x : Bool) (rs : List OpRes) : (s.addMsg m x rs).ucie = s.ucie := rfl
@[simp] theorem State.addMsg_boot (s : State) (m : Master) (x : Bool) (rs : List OpRes) : (s.addMsg m x rs).boot = s.boot := rfl
@[simp] theorem State.addMsg_life (s : State) (m : Master) (x : Bool) (rs : List OpRes) : (s.addMsg m x rs).life = s.life := rfl
@[simp] theorem State.addMsg_snuffs (s : State) (m : Master) (x : Bool) (rs : List OpRes) : (s.addMsg m x rs).snuffs = s.snuffs := rfl
@[simp] theorem State.addMsg_limits (s : State) (m : Master) (x : Bool) (rs : List OpRes) : (s.addMsg m x rs).limits = s.limits := rfl
@[simp] theorem State.addMsg_lanes (s : State) (m : Master) (x : Bool) (rs : List OpRes) : (s.addMsg m x rs).lanes = s.lanes := rfl
@[simp] theorem State.addMsg_cages (s : State) (m : Master) (x : Bool) (rs : List OpRes) : (s.addMsg m x rs).cages = s.cages := rfl
@[simp] theorem State.addMsg_eqRuns (s : State) (m : Master) (x : Bool) (rs : List OpRes) : (s.addMsg m x rs).eqRuns = s.eqRuns := rfl
@[simp] theorem State.addMsg_framers (s : State) (m : Master) (x : Bool) (rs : List OpRes) : (s.addMsg m x rs).framers = s.framers := rfl
@[simp] theorem State.addMsg_lineRun (s : State) (m : Master) (x : Bool) (rs : List OpRes) : (s.addMsg m x rs).lineRun = s.lineRun := rfl
@[simp] theorem State.addMsg_gal (s : State) (m : Master) (x : Bool) (rs : List OpRes) : (s.addMsg m x rs).gal = s.gal := rfl
@[simp] theorem State.addMsg_frags (s : State) (m : Master) (x : Bool) (rs : List OpRes) : (s.addMsg m x rs).frags = s.frags := rfl
@[simp] theorem State.addMsg_tm (s : State) (m : Master) (x : Bool) (rs : List OpRes) : (s.addMsg m x rs).tm = s.tm := rfl
@[simp] theorem State.addMsg_terms (s : State) (m : Master) (x : Bool) (rs : List OpRes) : (s.addMsg m x rs).terms = s.terms := rfl
@[simp] theorem State.addMsg_acts (s : State) (m : Master) (x : Bool) (rs : List OpRes) : (s.addMsg m x rs).acts = s.acts := rfl
@[simp] theorem State.addMsg_logEvents (s : State) (m : Master) (x : Bool) (rs : List OpRes) : (s.addMsg m x rs).logEvents = s.logEvents := rfl
@[simp] theorem State.addMsg_grants (s : State) (m : Master) (x : Bool) (rs : List OpRes) : (s.addMsg m x rs).grants = s.grants := rfl
@[simp] theorem State.addMsg_ciph (s : State) (m : Master) (x : Bool) (rs : List OpRes) : (s.addMsg m x rs).ciph = s.ciph := rfl
@[simp] theorem State.addMsg_uplinks (s : State) (m : Master) (x : Bool) (rs : List OpRes) : (s.addMsg m x rs).uplinks = s.uplinks := rfl
@[simp] theorem State.addMsg_psgs (s : State) (m : Master) (x : Bool) (rs : List OpRes) : (s.addMsg m x rs).psgs = s.psgs := rfl
@[simp] theorem State.addMsg_casc (s : State) (m : Master) (x : Bool) (rs : List OpRes) : (s.addMsg m x rs).casc = s.casc := rfl
@[simp] theorem State.addMsg_sent (s : State) (m : Master) (x : Bool) (rs : List OpRes) : (s.addMsg m x rs).sent = s.sent := rfl
@[simp] theorem State.addMsg_fresh (s : State) (m : Master) (x : Bool) (rs : List OpRes) : (s.addMsg m x rs).fresh = s.fresh := rfl

@[simp] theorem State.addMsg_n (s : State) (m : Master) (x : Bool) (rs : List OpRes) (o : Obj) (i : Nat) :
    (s.addMsg m x rs).n o i = s.n o i := rfl
@[simp] theorem State.addMsg_num (s : State) (m : Master) (x : Bool) (rs : List OpRes) (o : Obj) (i : Nat) :
    (s.addMsg m x rs).num o i = s.num o i := rfl
@[simp] theorem State.addMsg_on (s : State) (m : Master) (x : Bool) (rs : List OpRes) (o : Obj) (i : Nat) :
    (s.addMsg m x rs).on o i = s.on o i := rfl
@[simp] theorem State.addMsg_oct (s : State) (m : Master) (x : Bool) (rs : List OpRes) (o : Obj) (i : Nat) :
    (s.addMsg m x rs).oct o i = s.oct o i := rfl
@[simp] theorem State.addMsg_reg (s : State) (m : Master) (x : Bool) (rs : List OpRes) (a : Nat) :
    (s.addMsg m x rs).reg a = s.reg a := rfl
@[simp] theorem State.addMsg_bit (s : State) (m : Master) (x : Bool) (rs : List OpRes) (a k : Nat) :
    (s.addMsg m x rs).bit a k = s.bit a k := rfl
@[simp] theorem State.addMsg_wick (s : State) (m : Master) (x : Bool) (rs : List OpRes) :
    (s.addMsg m x rs).wick  = s.wick := rfl
@[simp] theorem State.addMsg_now (s : State) (m : Master) (x : Bool) (rs : List OpRes) :
    (s.addMsg m x rs).now  = s.now := rfl
theorem State.taken_n (s : State) (m : Master) {o : Obj} {i : Nat} (h : o ≠ .sconceRequests) (hi : i < 16777216) :
    (s.taken m).n o i = s.n o i := State.n_of_val (s.taken_val m h hi)
theorem State.taken_num (s : State) (m : Master) {o : Obj} {i : Nat} (h : o ≠ .sconceRequests) (hi : i < 16777216) :
    (s.taken m).num o i = s.num o i := State.num_of_val (s.taken_val m h hi)
theorem State.taken_on (s : State) (m : Master) {o : Obj} {i : Nat} (h : o ≠ .sconceRequests) (hi : i < 16777216) :
    (s.taken m).on o i = s.on o i := State.on_of_val (s.taken_val m h hi)
theorem State.taken_oct (s : State) (m : Master) {o : Obj} {i : Nat} (h : o ≠ .sconceRequests) (hi : i < 16777216) :
    (s.taken m).oct o i = s.oct o i := State.oct_of_val (s.taken_val m h hi)
@[simp] theorem State.taken_reg (s : State) (m : Master) (a : Nat) : (s.taken m).reg a = s.reg a := State.reg_of_regs (by simp) a
@[simp] theorem State.taken_bit (s : State) (m : Master) (a k : Nat) : (s.taken m).bit a k = s.bit a k :=
  State.bit_of_reg (by simp) k
@[simp] theorem State.taken_wick (s : State) (m : Master) : (s.taken m).wick = s.wick := by simp [State.wick]
@[simp] theorem State.taken_now (s : State) (m : Master) : (s.taken m).now = s.now := by simp [State.now]

end Sys2Proof.Machine
end

