-- ==== Sys2Proof/Laws/Request.lean ====
section
/-!
SUPPORT. Requests of one record: which state they are performed in, what a record that stands alone answers, and the
message that it leaves.
-/

namespace Sys2Proof.Machine

open State

/-- An object is found by its own code. -/
theorem Obj.find_code (o : Obj) (h : o ∈ Obj.all) : Obj.find o.code = some o := by
  unfold Obj.find
  cases e : Obj.all.find? fun p => p.code == o.code with
  | none => exact absurd (List.find?_eq_none.1 e o h) (by simp)
  | some p => rw [Obj.code_inj (o := p) (p := o) (by simpa using List.find?_some e)]

@[simp] theorem State.taken_writes (s : State) (m : Master) : (s.taken m).lan.writes = s.lan.writes := by
  unfold State.taken State.acceptCounter
  dsimp only
  split <;> simp

theorem State.hostRequest_takes {s : State} {m : Master} (h : s.Takes m) (r : OpRec) :
    s.hostRequest m r = (s.taken m).perform m false [r] := by
  obtain ⟨h1, h2, h3⟩ := h
  unfold State.hostRequest State.taken
  rw [if_neg (by simp [h1]; exact h2), if_neg (by omega)]

theorem State.packetWrites_none {s : State} (h : s.NoPacket) : s.packetWrites = s := by
  unfold State.packetWrites State.boundaryWrites
  have e : (s.lan.writes.filter fun w => w.cls == 1) = [] := by
    rw [List.filter_eq_nil_iff]
    intro w hw
    simpa using h w hw
  split
  · dsimp only
    rw [if_pos (by rw [e]; rfl)]
  · rfl

/-- A record that does not write, alone in its request. -/
theorem State.perform_plain (s : State) (m : Master) (r : OpRec) (hr : isWrite r = false)
    (hw : (s.plainOp m r).1.lan.writes = s.lan.writes) (hp : s.NoPacket) :
    s.perform m false [r] = (s.plainOp m r).1.addMsg m false [(s.plainOp m r).2] := by
  have h2 : r.opcode ≠ 2 := by
    intro e
    rw [State.isWrite, e] at hr
    exact absurd hr (by decide)
  unfold State.perform
  simp only [State.takeRecords, hr, Bool.false_eq_true, if_false, List.foldl_nil, State.aftersOf, List.zip_cons_cons,
    List.zip_nil_left, List.flatMap_cons, List.flatMap_nil, h2, false_and, List.append_nil]
  refine State.packetWrites_none ?_
  intro w hm
  exact hp w (by rw [← hw]; exact hm)

/-- A record that writes, alone in its request. -/
theorem State.perform_write (s : State) (m : Master) (r : OpRec) (hr : isWrite r = true) :
    s.perform m false [r] = ((s.writeOp m 0 r).1.addMsg m false [answerTo r (s.writeOp m 0 r).2]
      (State.aftersOf [r] [answerTo r (s.writeOp m 0 r).2])).packetWrites := by
  unfold State.perform
  simp only [State.takeRecords, hr, Bool.false_eq_true, if_true, if_false, List.foldl_nil]

/-- What an accepted write of an Immediate-class object does. -/
theorem State.writeOp_immediate (s : State) (m : Master) (o : Obj) (i off : Nat) (bs : List Byte)
    (ho : o ∈ Obj.all) (hc : o.info.cls = .immediate) (hk : o.code < 16777216) (hi : i < 16777216)
    (hf : off = 0 ∨ o = .imageUpload) (ha : s.acceptCode m o i bs = Abort.ok) :
    s.writeOp m 0 (writeRec o i off bs) =
      ((immediateEff o off s m i bs).1, some (immediateEff o off s m i bs).2) := by
  have hfind : Obj.find ((o.code / 256 % 65536) * 256 + o.code % 256) = some o := by
    rw [show o.code / 256 % 65536 * 256 + o.code % 256 = o.code by omega]
    exact Obj.find_code o ho
  have hask : s.asked (writeRec o i off bs) = .inr [(o, i, bs)] := by
    unfold State.asked State.writeRec
    simp only [Fin.val_ofNat, Nat.mod_eq_of_lt hi]
    rw [if_neg (by decide), hfind]
    simp only [if_true]
    rw [if_neg (by rcases hf with rfl | rfl <;> simp)]
  unfold State.writeOp
  rw [hask]
  have hn : s.refusedAt m (writeRec o i off bs) [(o, i, bs)] = none := by
    simp [State.refusedAt, State.askedCode, State.writeRec, ha]
  simp only [hn]
  simp [State.doWrites, hc, State.writeRec]

/-- The message of an accepted write of an Immediate-class object. -/
theorem State.hostRequest_immediate {s : State} {m : Master} {o : Obj} {i off : Nat} {bs : List Byte}
    (h : s.Admits m o i bs) (ho : o ∈ Obj.all) (hc : o.info.cls = .immediate) (hk : o.code < 16777216)
    (hi : i < 16777216) (hf : off = 0 ∨ o = .imageUpload) (hp : s.NoPacket)
    (hw : (immediateEff o off (s.taken m) m i bs).1.lan.writes = s.lan.writes) :
    s.hostRequest m (writeRec o i off bs) =
      (immediateEff o off (s.taken m) m i bs).1.addMsg m false
        [answerTo (writeRec o i off bs) (some (immediateEff o off (s.taken m) m i bs).2)]
        (State.aftersOf [writeRec o i off bs]
          [answerTo (writeRec o i off bs) (some (immediateEff o off (s.taken m) m i bs).2)]) := by
  have ha : (s.taken m).acceptCode m o i bs = Abort.ok := by rw [State.acceptCode_taken]; exact h.2
  rw [State.hostRequest_takes h.1, State.perform_write _ _ _ rfl, State.writeOp_immediate _ _ _ _ _ _ ho hc hk hi hf ha]
  refine State.packetWrites_none ?_
  intro w hm
  exact hp w (by rw [← hw]; exact hm)

/-- An accepted write's message, whatever follows its response. -/
theorem State.answered_addMsg_after {s t : State} (h : t.lan.msgs = s.lan.msgs) (m : Master) (r : OpRec)
    (c : Option Nat) (as : List AfterSend) : s.Answered (t.addMsg m false [answerTo r c] as) m c :=
  ⟨_, by simp only [State.addMsg, h]; rfl, rfl, rfl⟩

end Sys2Proof.Machine
end

