-- ==== Sys2Proof/Laws/Stitch.lean ====
section
/-!
SUPPORT. A stitched check is the check of the edited frame: the FCS register is linear, so that the difference that an edit
makes goes on through the bytes after it as through zeros.
-/

namespace Sys2Proof.Machine

/-- One bit of the register, without a choice. -/
theorem fcsBit_eq (r : Nat) : fcsBit r = (r / 2) ^^^ (r % 2 * 0xEDB88320) := by
  unfold fcsBit
  rcases Nat.mod_two_eq_zero_or_one r with h | h
  · rw [h]; simp
  · rw [h]; simp only [if_true, Nat.one_mul]; rfl

/-- The low bit of an exclusive or. -/
theorem xor_mod_two_mul (a b c : Nat) : (a ^^^ b) % 2 * c = (a % 2 * c) ^^^ (b % 2 * c) := by
  have e : (a ^^^ b) % 2 = (a % 2) ^^^ (b % 2) := by simpa using Nat.xor_mod_two_pow (a := a) (b := b) (n := 1)
  rcases Nat.mod_two_eq_zero_or_one a with h | h <;> rcases Nat.mod_two_eq_zero_or_one b with k | k <;>
    simp [e, h, k]

theorem fcsBit_xor (a b : Nat) : fcsBit (a ^^^ b) = fcsBit a ^^^ fcsBit b := by
  have h : (a ^^^ b) / 2 = (a / 2) ^^^ (b / 2) := by
    have e := Nat.shiftRight_xor_distrib (a := a) (b := b) (i := 1)
    simpa only [Nat.shiftRight_eq_div_pow, Nat.pow_one] using e
  rw [fcsBit_eq, fcsBit_eq, fcsBit_eq, h, xor_mod_two_mul]
  rw [Nat.xor_assoc, Nat.xor_assoc, ← Nat.xor_assoc (b / 2), Nat.xor_comm (b / 2), Nat.xor_assoc]

/-- Two registers that run over one byte keep their difference, moved on by a zero byte. -/
theorem fcsByte_xor (a b : Nat) (c : Byte) : fcsByte a c ^^^ fcsByte b c = fcsByte (a ^^^ b) 0 := by
  have h : Nat.xor a c.toNat ^^^ Nat.xor b c.toNat = Nat.xor (a ^^^ b) (0 : Byte).toNat := by
    show (a ^^^ c.toNat) ^^^ (b ^^^ c.toNat) = (a ^^^ b) ^^^ 0
    rw [Nat.xor_comm b, Nat.xor_assoc, ← Nat.xor_assoc c.toNat, Nat.xor_self, Nat.zero_xor, Nat.xor_zero]
  unfold fcsByte
  simp only [← fcsBit_xor, h]

/-- The difference of two registers after the same bytes. -/
theorem fcs_run (bs : List Byte) (a b : Nat) :
    bs.foldl fcsByte a ^^^ bs.foldl fcsByte b = zeroRun fcsByte bs.length (a ^^^ b) := by
  induction bs generalizing a b with
  | nil => rfl
  | cons c bs ih =>
    rw [List.foldl_cons, List.foldl_cons, ih, fcsByte_xor]
    unfold zeroRun
    have hs : ∀ n x, Nat.repeat (fun y => fcsByte y 0) n (fcsByte x 0) = fcsByte (Nat.repeat (fun y => fcsByte y 0) n x) 0 := by
      intro n x
      induction n with
      | zero => rfl
      | succ n ih => simp only [Nat.repeat]; rw [ih]
    exact hs _ _

/-- R380: the stitched FCS of an edited frame is the FCS of the edited frame. -/
theorem stitch_fcs (pre removed written rest : List Byte) :
    stitch fcsByte (pre.foldl fcsByte 0xFFFFFFFF) removed written rest.length (fcsOf (pre ++ removed ++ rest)) =
      fcsOf (pre ++ written ++ rest) := by
  have h := fcs_run rest (removed.foldl fcsByte (pre.foldl fcsByte 0xFFFFFFFF))
    (written.foldl fcsByte (pre.foldl fcsByte 0xFFFFFFFF))
  unfold stitch fcsOf
  simp only [List.foldl_append]
  show (_ ^^^ 0xFFFFFFFF) ^^^ zeroRun fcsByte rest.length (_ ^^^ _) = _ ^^^ 0xFFFFFFFF
  rw [← h, Nat.xor_comm _ 0xFFFFFFFF, Nat.xor_assoc, ← Nat.xor_assoc (rest.foldl fcsByte _), Nat.xor_self, Nat.zero_xor,
    Nat.xor_comm]

end Sys2Proof.Machine
end

