-- ==== Sys2Proof/Laws/Wick.lean ====
section
/-!
SUPPORT. Entry to a Wick state, and what follows from it: the state entered, the objects it may change, and the domains'
states, of which it ends only Inconsistent.
-/

namespace Sys2Proof.Machine

open State

theorem State.expiryRecompute_objs (s : State) : s.expiryRecompute.objs = s.objs :=
  (State.expiryRecompute_kept (m := 1073741844) s rfl (kept_refl _ s)).2 .objs rfl

@[simp] theorem State.holdEnd_objs (s : State) : s.holdEnd.objs = s.objs := by
  unfold State.holdEnd
  dsimp only
  split <;> rfl

@[simp] theorem State.modelEntry_objs (s : State) : s.modelEntry.objs = s.objs := rfl

/-- The objects that entry to a Wick state may change. -/
def wickObjs : List (Obj × Nat) :=
  [(.wickState, 0), (.timeHoldoverElapsed, 0), (.timeSelectedDomain, 0), (.timeDomainState, 0), (.timeDomainState, 1),
   (.faultCause, 0), (.sconceEventsLost, 0), (.wickIncrement, 0)]

/-- A residual given up changes no object but the increment. -/
theorem State.dropSlew_objs {s t : State} {ws : List (Obj × Nat)} (hw : (.wickIncrement, 0) ∈ ws) (h : s.ObjsBut ws t) :
    s.ObjsBut ws t.dropSlew := by
  unfold State.dropSlew State.putSlewed State.putInc
  dsimp only
  exact State.ObjsBut_putVal _ _ _ (by decide) hw (State.ObjsBut_trans h (State.ObjsBut_of_objs _ (State.setClk_objs _ _)))

theorem State.putDomState_objs {s t : State} {ws : List (Obj × Nat)} (d : TimeDomain) (v : Nat)
    (hd : (.timeDomainState, d.val) ∈ ws) (hw : (.sconceEventsLost, 0) ∈ ws) (h : s.ObjsBut ws t) :
    s.ObjsBut ws (t.putDomState d v) := by
  unfold State.putDomState
  dsimp only
  split
  · exact h
  · exact State.ObjsBut_raise _ _ _ _ hw (State.ObjsBut_putVal _ _ _ (by omega) hd h)

/-- The state of a domain just written. -/
theorem State.domState_putDomState (s : State) (d : TimeDomain) (v : Nat) : (s.putDomState d v).domState d = v := by
  unfold State.putDomState
  dsimp only
  split
  · assumption
  · unfold State.domState
    rw [State.raiseChange_eq, State.n_of_val (State.val_raise _ _ _ _ _ (by decide) (by omega))]
    simp

theorem State.domState_putDomState_other (s : State) {d e : TimeDomain} (v : Nat) (h : e ≠ d) :
    (s.putDomState d v).domState e = s.domState e :=
  State.n_of_val (State.putDomState_objs (ws := [(.timeDomainState, d.val), (.sconceEventsLost, 0)]) d v (by simp) (by simp)
    (State.ObjsBut_refl s _) .timeDomainState e (by omega) (by simp; exact fun he => h (Fin.ext he)))

theorem State.enterWick_objs {s t : State} {ws : List (Obj × Nat)} (v : Nat) (hs : wickObjs ⊆ ws) (h : s.ObjsBut ws t) :
    s.ObjsBut ws (t.enterWick v) := by
  have m : ∀ {x}, x ∈ wickObjs → x ∈ ws := fun hx => hs hx
  unfold State.enterWick
  extract_lets old s1 src s2 s3 s4 clear s5 s6 s7
  split
  · exact h
  · have k1 : s.ObjsBut ws s1 := State.ObjsBut_putVal _ _ _ (by decide) (m (by simp [wickObjs])) h
    have k0 : s.ObjsBut ws src := by
      simp only [src]; split
      · exact State.ObjsBut_trans k1 (State.ObjsBut_of_objs _ (State.holdEnd_objs _))
      · exact k1
    have k2 : s.ObjsBut ws s2 := by
      simp only [s2]; split
      · have k : s.ObjsBut ws (src.put .timeHoldoverElapsed 0 0) :=
          State.ObjsBut_putVal _ _ _ (by decide) (m (by simp [wickObjs])) k0
        exact State.ObjsBut_trans k (State.ObjsBut_of_objs _ (State.modelEntry_objs _))
      · exact k0
    have k3 : s.ObjsBut ws s3 := by
      simp only [s3]; split
      · exact State.ObjsBut_putVal _ _ _ (by decide) (m (by simp [wickObjs])) k2
      · exact k2
    have k4 : s.ObjsBut ws s4 := by
      simp only [s4]; split
      · exact State.dropSlew_objs (m (by simp [wickObjs])) k3
      · split
        · exact State.ObjsBut_trans k3 (State.ObjsBut_of_objs _ (State.setClk_objs _ _))
        · exact k3
    have kc : ∀ u (d : TimeDomain), s.ObjsBut ws u → s.ObjsBut ws (clear u d) := by
      intro u d hu
      simp only [clear]; split
      · refine State.putDomState_objs d 2 (m ?_) (m (by simp [wickObjs])) hu
        rcases (by decide : ∀ d : TimeDomain, d = 0 ∨ d = 1) d with rfl | rfl <;> simp [wickObjs]
      · exact hu
    have k5 : s.ObjsBut ws s5 := by
      simp only [s5]; split
      · exact kc _ _ (kc _ _ k4)
      · exact k4
    have k6 : s.ObjsBut ws s6 := by
      simp only [s6]; split
      · exact State.ObjsBut_putVal _ _ _ (by decide) (m (by simp [wickObjs])) k5
      · exact k5
    have k7 : s.ObjsBut ws s7 := by
      simp only [s7]; split
      · refine State.ObjsBut_trans k6 (State.ObjsBut_of_objs _ ?_)
        rw [State.setClk_objs, State.expiryRecompute_objs, State.setBit_objs]
      · exact k6
    exact State.ObjsBut_raise _ _ _ _ (m (by simp [wickObjs])) k7

/-- The state just entered. -/
theorem State.enterWick_state (s : State) (v : Nat) : (s.enterWick v).n .wickState 0 = v := by
  unfold State.enterWick
  extract_lets old s1 src s2 s3 s4 clear s5 s6 s7
  split
  · assumption
  · have k1 : s1.n .wickState 0 = v := by simp [s1]
    have ob : ∀ (u w : State), w.objs = u.objs → u.n .wickState 0 = v → w.n .wickState 0 = v := fun u w e hu =>
      (State.n_of_val (State.val_of_objs e _ _)).trans hu
    have k0 : src.n .wickState 0 = v := by
      simp only [src]; split
      · exact ob _ _ (State.holdEnd_objs _) k1
      · exact k1
    have step : ∀ (u : State) (o : Obj) (x : Val), o ≠ .wickState → u.n .wickState 0 = v →
        (u.putVal o 0 x).n .wickState 0 = v := by
      intro u o x ho hu
      rw [State.n_of_val (State.val_putVal_ne u x (by decide) (by decide) (fun e => ho e.1.symm))]; exact hu
    have k2 : s2.n .wickState 0 = v := by
      simp only [s2]; split
      · exact ob _ _ (State.modelEntry_objs _) (step src .timeHoldoverElapsed (.num 0) (by decide) k0)
      · exact k0
    have k3 : s3.n .wickState 0 = v := by
      simp only [s3]; split
      · exact step _ _ _ (by decide) k2
      · exact k2
    have k4 : s4.n .wickState 0 = v := by
      simp only [s4]; split
      · rw [State.n_of_val (State.dropSlew_objs (ws := [(.wickIncrement, 0)]) (by simp) (State.ObjsBut_refl s3 _) .wickState 0
          (by decide) (by simp))]; exact k3
      · split
        · exact ob _ _ (State.setClk_objs _ _) k3
        · exact k3
    have kc : ∀ u (d : TimeDomain), u.n .wickState 0 = v → (clear u d).n .wickState 0 = v := by
      intro u d hu
      simp only [clear]; split
      · rw [State.n_of_val (State.putDomState_objs (ws := [(.timeDomainState, d.val), (.sconceEventsLost, 0)]) d 2 (by simp)
          (by simp) (State.ObjsBut_refl u _) .wickState 0 (by decide) (by simp))]; exact hu
      · exact hu
    have k5 : s5.n .wickState 0 = v := by
      simp only [s5]; split
      · exact kc _ _ (kc _ _ k4)
      · exact k4
    have k6 : s6.n .wickState 0 = v := by
      simp only [s6]; split
      · exact step _ _ _ (by decide) k5
      · exact k5
    have k7 : s7.n .wickState 0 = v := by
      simp only [s7]; split
      · refine (State.n_of_val (s := s6) (State.val_of_objs ?_ _ _)).trans k6
        rw [State.setClk_objs, State.expiryRecompute_objs, State.setBit_objs]
      · exact k6
    rw [State.raiseChange_eq, State.n_of_val (State.val_raise _ _ _ _ _ (by decide) (by decide))]
    exact k7

/-- Entry to a Wick state changes a domain's state only from Inconsistent to Locked. -/
theorem State.enterWick_dom (s : State) (v : Nat) (d : TimeDomain) :
    (s.enterWick v).domState d = s.domState d ∨ (s.domState d = 4 ∧ (s.enterWick v).domState d = 2) := by
  unfold State.enterWick
  extract_lets old s1 src s2 s3 s4 clear s5 s6 s7
  split
  · exact .inl rfl
  · have step : ∀ (u : State) (o : Obj) (x : Val), o ≠ .timeDomainState → (u.putVal o 0 x).domState d = u.domState d := by
      intro u o x ho
      exact State.n_of_val (State.val_putVal_ne u x (by decide) (by omega) (fun e => ho e.1.symm))
    have k1 : s1.domState d = s.domState d := step _ _ _ (by decide)
    have ob : ∀ (u w : State), w.objs = u.objs → w.domState d = u.domState d := fun u w e =>
      State.n_of_val (State.val_of_objs e _ _)
    have k0 : src.domState d = s.domState d := by
      simp only [src]; split
      · exact (ob _ _ (State.holdEnd_objs _)).trans k1
      · exact k1
    have k2 : s2.domState d = s.domState d := by
      simp only [s2]; split
      · exact (ob _ _ (State.modelEntry_objs _)).trans ((step src .timeHoldoverElapsed (.num 0) (by decide)).trans k0)
      · exact k0
    have k3 : s3.domState d = s.domState d := by
      simp only [s3]; split
      · exact (step _ _ _ (by decide)).trans k2
      · exact k2
    have k4 : s4.domState d = s.domState d := by
      simp only [s4]; split
      · exact (State.n_of_val (State.dropSlew_objs (ws := [(.wickIncrement, 0)]) (by simp) (State.ObjsBut_refl s3 _)
          .timeDomainState d (by omega) (by simp))).trans k3
      · split
        · exact (ob _ _ (State.setClk_objs _ _)).trans k3
        · exact k3
    have kc : ∀ u (e : TimeDomain), (clear u e).domState d = u.domState d ∨
        (u.domState d = 4 ∧ (clear u e).domState d = 2) := by
      intro u e
      simp only [clear]; split
      · rename_i he
        by_cases hde : d = e
        · subst hde; exact .inr ⟨he, State.domState_putDomState u d 2⟩
        · exact .inl (State.domState_putDomState_other u 2 hde)
      · exact .inl rfl
    have k5 : s5.domState d = s.domState d ∨ (s.domState d = 4 ∧ s5.domState d = 2) := by
      simp only [s5]; split
      · rcases kc s4 0 with h0 | ⟨h0, h0'⟩ <;> rcases kc (clear s4 0) 1 with h1 | ⟨h1, h1'⟩
        · exact .inl (by rw [h1, h0, k4])
        · exact .inr ⟨by rw [← k4, ← h0, h1], h1'⟩
        · exact .inr ⟨by rw [← k4, h0], by rw [h1, h0']⟩
        · rw [h0'] at h1; exact absurd h1 (by decide)
      · exact .inl k4
    have k6 : s6.domState d = s5.domState d := by
      simp only [s6]; split
      · exact step _ _ _ (by decide)
      · rfl
    have k7 : s7.domState d = s6.domState d := by
      simp only [s7]; split
      · refine State.n_of_val (s := s6) (State.val_of_objs ?_ _ _)
        rw [State.setClk_objs, State.expiryRecompute_objs, State.setBit_objs]
      · rfl
    have k8 : (s7.raiseChange .wickState 0 old v).domState d = s7.domState d :=
      State.n_of_val (State.val_raise _ _ _ _ _ (by decide) (by omega))
    rw [k8, k7, k6]
    exact k5

/-! ### Acquiring, the end of Warming, and what follows a change of a domain -/

theorem State.acquire_objs {s t : State} {ws : List (Obj × Nat)} (d : TimeDomain) (hs : wickObjs ⊆ ws)
    (h : s.ObjsBut ws t) : s.ObjsBut ws (t.acquire d) := by
  unfold State.acquire
  dsimp only
  refine State.enterWick_objs 2 hs (State.ObjsBut_putVal _ _ _ (by decide) (hs (by simp [wickObjs])) ?_)
  exact State.ObjsBut_trans h (State.ObjsBut_of_objs _ (State.setClk_objs _ _))

theorem State.acquire_state (s : State) (d : TimeDomain) : (s.acquire d).n .wickState 0 = 2 := State.enterWick_state _ 2

theorem State.acquire_dom (s : State) (d e : TimeDomain) :
    (s.acquire d).domState e = s.domState e ∨ (s.domState e = 4 ∧ (s.acquire d).domState e = 2) := by
  unfold State.acquire
  dsimp only
  generalize hu : State.put _ .timeSelectedDomain 0 _ = u
  have k : u.domState e = s.domState e := by
    subst hu
    exact State.n_of_val (State.val_putVal_ne _ _ (by decide) (by omega) (by simp))
  rw [← k]
  exact State.enterWick_dom u 2 e

theorem State.warmingEnd_objs {s t : State} {ws : List (Obj × Nat)} (hs : wickObjs ⊆ ws) (h : s.ObjsBut ws t) :
    s.ObjsBut ws t.warmingEnd := by
  unfold State.warmingEnd
  split
  · exact h
  · split
    · exact State.acquire_objs _ hs h
    · exact State.enterWick_objs _ hs h

/-- Warming ends in Acquiring or in Unqualified. -/
theorem State.warmingEnd_state {s : State} (h : s.n .wickState 0 = 0) :
    s.warmingEnd.n .wickState 0 = 1 ∨ s.warmingEnd.n .wickState 0 = 2 := by
  unfold State.warmingEnd
  rw [if_neg (by simp [h])]
  split
  · exact .inr (State.acquire_state _ _)
  · exact .inl (State.enterWick_state _ _)

theorem State.evaluate_objs {s t : State} {ws : List (Obj × Nat)} (hs : wickObjs ⊆ ws) (h : s.ObjsBut ws t) :
    s.ObjsBut ws t.evaluate := by
  unfold State.evaluate
  split
  · exact h
  · extract_lets held u
    have k : s.ObjsBut ws u := by
      simp only [u]; split
      · exact State.enterWick_objs _ hs (State.ObjsBut_trans h (State.ObjsBut_of_objs _ (State.setClk_objs _ _)))
      · exact h
    split
    · split
      · exact State.acquire_objs _ hs k
      · exact k
    · exact k

/-- Evaluation changes a domain's state only from Inconsistent to Locked. -/
theorem State.evaluate_dom (s : State) (d : TimeDomain) :
    s.evaluate.domState d = s.domState d ∨ (s.domState d = 4 ∧ s.evaluate.domState d = 2) := by
  unfold State.evaluate
  split
  · exact .inl rfl
  · extract_lets held u
    have k : u.domState d = s.domState d ∨ (s.domState d = 4 ∧ u.domState d = 2) := by
      simp only [u]; split
      · exact State.enterWick_dom (s.setClk _) _ d
      · exact .inl rfl
    split
    · split
      · rename_i e _
        rcases State.acquire_dom u e d with h1 | ⟨h1, h1'⟩
        · rw [h1]; exact k
        · rcases k with k | ⟨_, k'⟩
          · exact .inr ⟨by rw [← k, h1], h1'⟩
          · rw [k'] at h1; exact absurd h1 (by decide)
      · exact k
    · exact k

/-! ### Estimates -/

@[simp] theorem State.dom_setDom (s : State) (d : TimeDomain) (r : DomSt) : (s.setDom d r).dom d = r := by
  simp [State.setDom, State.dom]
@[simp] theorem State.setDom_objs (s : State) (d : TimeDomain) (r : DomSt) : (s.setDom d r).objs = s.objs := rfl
@[simp] theorem State.setDom_regs (s : State) (d : TimeDomain) (r : DomSt) : (s.setDom d r).regs = s.regs := rfl
@[simp] theorem State.setDom_now (s : State) (d : TimeDomain) (r : DomSt) : (s.setDom d r).now = s.now := rfl
@[simp] theorem State.setDom_wick (s : State) (d : TimeDomain) (r : DomSt) : (s.setDom d r).wick = s.wick := rfl
@[simp] theorem State.setDom_n (s : State) (d : TimeDomain) (r : DomSt) (o : Obj) (i : Nat) :
    (s.setDom d r).n o i = s.n o i := rfl
@[simp] theorem State.setDom_num (s : State) (d : TimeDomain) (r : DomSt) (o : Obj) (i : Nat) :
    (s.setDom d r).num o i = s.num o i := rfl

theorem State.putDomState_clk (s : State) (d : TimeDomain) (v : Nat) : (s.putDomState d v).clk = s.clk := by
  unfold State.putDomState
  dsimp only
  split
  · rfl
  · simp

/-- A sample's estimate: its offset at the present time and its rate; the latest sync and the edge kept stay. -/
theorem State.domSample_dom (s : State) (d : TimeDomain) (offset freq : Int) :
    ((s.domSample d offset freq).dom d).off = offset + (s.wick : Int) - (s.now : Int) ∧
      ((s.domSample d offset freq).dom d).freq = freq ∧
      ((s.domSample d offset freq).dom d).lastSync = (s.dom d).lastSync ∧
      ((s.domSample d offset freq).dom d).edge = (s.dom d).edge := by
  unfold State.domSample
  extract_lets r x dt p anew t
  have k : t.dom d = { r with
      off := x, freq := freq, t0 := s.now, since := (if anew then s.now else r.since) } :=
    State.dom_setDom _ _ _
  split
  · have e : (t.putDomState d 1).dom d = t.dom d := by unfold State.dom; rw [State.putDomState_clk]
    rw [e, k]; exact ⟨rfl, rfl, rfl, rfl⟩
  · rw [k]; exact ⟨rfl, rfl, rfl, rfl⟩

theorem State.domSample_objs {s t : State} {ws : List (Obj × Nat)} (d : TimeDomain) (offset freq : Int)
    (hd : (.timeDomainState, d.val) ∈ ws) (hw : (.sconceEventsLost, 0) ∈ ws) (h : s.ObjsBut ws t) :
    s.ObjsBut ws (t.domSample d offset freq) := by
  unfold State.domSample
  extract_lets r x dt p anew u
  have k : s.ObjsBut ws u := h
  split
  · exact State.putDomState_objs _ _ hd hw k
  · exact k

end Sys2Proof.Machine
end

