-- ==== Sys2Proof/Tests/Slice0.lean ====
section
/-!
SUPPORT. Tests: ill-formed commands that WellFormed refuses, the spec's worked examples, single steps, and for every
statement with hypotheses a state and operands that meet them.
-/

namespace Sys2Proof.Tests

open Sys2Proof Sys2Proof.Machine

set_option Elab.async false

/-! ### Well-formed commands -/

def plainHdr : FrameHdr := ⟨5, 6, none, none, 0x800, none, 64, false, [], 0⟩
def plainRx : RxFrame := ⟨plainHdr, false, 0, 0, true, none, none, false, .replicate 4 0⟩
def plainPsg : PsgFrame :=
  ⟨0, 1, 2, 0, false, 0, 0, 0, 0, 64, 0, 0, none, [], none, 0, true, false, .replicate 4 0, .replicate 4 0⟩

theorem test_wf_okWord : Instr.wf (.claimBreak 0 (2 ^ 64)) = false ∧ Instr.wf (.claimBreak 0 (2 ^ 64 - 1)) = true := by decide +kernel
theorem test_wf_okReg : Instr.wf (.rawRegisterWrite 0 0 (2 ^ 32) ⟨0, 0⟩) = false ∧ Instr.wf (.rawRegisterWrite 0 0 (2 ^ 32 - 1) ⟨0, 0⟩) = true := by decide +kernel
theorem test_wf_okAddr : Instr.wf (.registerWrite 2 0 false ⟨0, 0⟩) = false ∧ Instr.wf (.registerWrite 4 0 false ⟨0, 0⟩) = true := by decide +kernel
theorem test_wf_okTime : Instr.wf (.fsyncEdge true (2 ^ 96)) = false ∧ Instr.wf (.fsyncEdge true (2 ^ 96 - 1)) = true := by decide +kernel
theorem test_wf_okInt : Instr.wf (.ageingRefit (2 ^ 63)) = false ∧ Instr.wf (.ageingRefit (-(2 ^ 63))) = true := by decide +kernel
theorem test_wf_okReadings : Instr.wf (.secondBoundary (.replicate 9 (2 ^ 32))) = false ∧ Instr.wf (.secondBoundary (.replicate 9 (-40000))) = true := by decide +kernel
theorem test_wf_okTimes : Instr.wf (.pfcFrameReceived 0 0 (.replicate 8 65536)) = false ∧ Instr.wf (.pfcFrameReceived 0 0 (.replicate 8 65535)) = true := by decide +kernel
theorem test_wf_okBus : Instr.wf (.busParityError 0 (.frame (2 ^ 64))) = false ∧ Instr.wf (.busParityError 0 .control) = true := by decide +kernel
theorem test_wf_okHit : Instr.wf (.uncorrectableError (.cellTag 0 (2 ^ 64)) 0) = false ∧ Instr.wf (.uncorrectableError (.cellTag 0 5) 0) = true := by decide +kernel
theorem test_wf_okCti : Instr.wf (.ctiReport 0 false [⟨some 1, none, some (2 ^ 64)⟩]) = false ∧ Instr.wf (.ctiReport 0 false [⟨some 1, none, some 5⟩]) = true := by decide +kernel
theorem test_wf_okPtp : Instr.wf (.ptpMessageReceived 0 0 ⟨0, true, 0, 0, 0, 0, some 256, 0⟩) = false ∧ Instr.wf (.ptpMessageReceived 0 0 ⟨0, true, 0, 0, 0, 0, some 255, 0⟩) = true := by decide +kernel
theorem test_wf_okWake : Instr.wf (.uplinkWakeMatch 0 (.energy (2 ^ 96) 0)) = false ∧ Instr.wf (.uplinkWakeMatch 0 (.energy (2 ^ 96 - 1) 0)) = true := by decide +kernel
theorem test_wf_okTod : Instr.wf (.todMessageReceived ⟨true, 2 ^ 64, none, none⟩) = false ∧ Instr.wf (.todMessageReceived ⟨true, 5, none, some 6⟩) = true := by decide +kernel
theorem test_wf_okGal : Instr.wf (.galleryInsert 0 ⟨0, 0, 2 ^ 48, 0, 0, 0, 0, 0, 0⟩) = false ∧ Instr.wf (.galleryInsert 0 ⟨0, 0, 2 ^ 48 - 1, 0, 0, 0, 0, 0, 0⟩) = true := by decide +kernel
theorem test_wf_okBurst : Instr.wf (.burstReceived 0 0 0 0 ⟨[], 64, 0, 0, 0, true, 0, 0, none, []⟩) = false ∧ Instr.wf (.burstReceived 0 0 0 0 ⟨[], 63, 0, 0, 0, true, 0, 0, none, []⟩) = true := by decide +kernel
theorem test_wf_okRx : Instr.wf (.uplinkFrameReceived 0 0 { plainRx with control := some 65536 }) = false ∧ Instr.wf (.uplinkFrameReceived 0 0 plainRx) = true := by decide +kernel
theorem test_wf_okHdr : Instr.wf (.uplinkFrameReceived 0 0 { plainRx with hdr := { plainHdr with outer := some (4096, 0) } }) = false ∧ Instr.wf (.uplinkFrameReceived 0 0 { plainRx with hdr := { plainHdr with outer := some (4095, 15) } }) = true := by decide +kernel
theorem test_wf_okIp : Instr.wf (.uplinkFrameReceived 0 0 { plainRx with hdr := { plainHdr with ip := some ⟨false, 2 ^ 32, 0, 0, 0, none, 0, false, 0⟩ } }) = false ∧ Instr.wf (.uplinkFrameReceived 0 0 { plainRx with hdr := { plainHdr with ip := some ⟨true, 2 ^ 32, 0, 0, 0, none, 0, false, 0⟩ } }) = true := by decide +kernel
theorem test_wf_okSec : Instr.wf (.uplinkFrameReceived 0 0 { plainRx with sec := some ⟨0, 2 ^ 32, 0, true⟩ }) = false ∧ Instr.wf (.uplinkFrameReceived 0 0 { plainRx with sec := some ⟨0, 2 ^ 32 - 1, 0, true⟩ }) = true := by decide +kernel
theorem test_wf_okPsg : Instr.wf (.passageFrameReceived 0 0 { plainPsg with len := 65536 }) = false ∧ Instr.wf (.passageFrameReceived 0 0 plainPsg) = true := by decide +kernel
theorem test_wf_okPsgTime : Instr.wf (.timeMessageReceived 0 ⟨0, 0, 0, 0, 0, 2 ^ 96, 0, 0, 0⟩) = false ∧ Instr.wf (.timeMessageReceived 0 ⟨0, 0, 0, 0, 0, 2 ^ 96 - 1, 0, 0, 0⟩) = true := by decide +kernel
theorem test_wf_okBytes : Instr.wf (.masterKeyWrite 0 0 (List.replicate 65536 0)) = false := by
  show decide ((List.replicate 65536 (0 : Byte)).length < 65536) = false
  rw [List.length_replicate]
  decide

/-! ### The spec's worked examples -/

/-- R67's example: SEQ 1, a single fragment on channel A. The check of 0x0000_1C8 is 0xD. -/
theorem test_bonding_header_check : bondHck 0x00001C80 = 0xD := by decide

/-- The check value of CRC-32 over the digits 1 to 9, from the literature on IEEE 802.3. -/
theorem test_fcs_check : fcsOf [0x31, 0x32, 0x33, 0x34, 0x35, 0x36, 0x37, 0x38, 0x39] = 0xCBF43926 := by decide +kernel

/-- No row of the table has bits. -/
theorem test_decode_none : decodeTableWord 32 0 = none := rfl

/-- Objects written, one after the other. -/
def withO (s : State) (l : List (Obj × Nat × Nat)) : State := l.foldl (fun t x => t.put x.1 x.2.1 x.2.2) s

/-- Registers written, one after the other. -/
def withR (s : State) (l : List (Nat × Nat)) : State := l.foldl (fun t x => t.putReg x.1 x.2) s

/-- A device in service from whose state the tests start: rails up, link active, no channel enabled; master 0 and
master 1 have keys. -/
def base : State :=
  { withO State.reset [(.ucieLinkState, 0, 2), (.startPhase, 0, 4)] with
    boot := { BootSt.begin_ with
      rails := .replicate 4 .inWindow, lanternUp := true, dieReset := false, configured := true, readyAt := some 0 }
    nvm := { Nvm.factory with slots := [[], []], keys := [some (List.replicate 32 1), some (List.replicate 32 2), none] } }

/-- The same at another instant, by the reference and by Wick alike. -/
def at_ (x : Time) (s : State) : State := { s with clk := { s.clk with elapsed := x, c0 := x, c1 := x, c2 := x } }

/-- The register that drives the masks' rekeying, and its index. -/
def ctrl : RegDesc × Nat := (regAt Reg.ciphCtrl).getD (⟨0, 4, 1, 0, false, fun _ => []⟩, 0)

/-- A domain's record replaced. -/
def withD (s : State) (d : TimeDomain) (f : DomSt → DomSt) : State := s.setDom d (f (s.dom d))

/-- An object's instance as a record names it. -/
def refOf (o : Obj) (i : Nat) : ObjRef := ⟨Fin.ofNat 65536 (o.code / 256), Fin.ofNat 256 o.code, Fin.ofNat 16777216 i⟩

/-- A master's record replaced. -/
def withM (s : State) (m : Master) (f : MasterSt → MasterSt) : State := s.setMaster m (f s.lan.masters[m])

/-- The first 24 bytes of a datagram of type `ty` without records, from a counter. -/
def head (ty counter : Nat) : List Byte :=
  beBytes 2 0x53CE ++ [1, BitVec.ofNat 8 ty, 0, 0] ++ beBytes 2 56 ++ beBytes 8 counter ++ beBytes 8 0

/-- The datagram, with its tag under the key. -/
def sealed (ty counter : Nat) (key : List Byte) : List Byte :=
  head ty counter ++ (Config.kmac256 key (head ty counter)).toList

theorem sealed_length (ty counter : Nat) (key : List Byte) : (sealed ty counter key).length = 56 := by
  simp [sealed, head, beBytes]

theorem sealed_authentic (s : State) (m : Master) (ty counter : Nat) (key : List Byte) (h : s.keyOf m = some key) :
    s.authentic m (sealed ty counter key) = true := by
  have hl : (head ty counter).length = 24 := by simp [head, beBytes]
  have ht : (sealed ty counter key).take 24 = head ty counter := by
    rw [sealed, List.take_left' hl]
  have hd : (sealed ty counter key).drop 24 = (Config.kmac256 key (head ty counter)).toList := by
    rw [sealed, List.drop_left' hl]
  unfold State.authentic
  rw [h]
  simp only [sealed_length, Nat.reduceSub, ht, hd, beq_self_eq_true, Bool.and_true]
  simp [sealed, head, beBytes, State.byteAt, beNat]

/-- Octet strings written. -/
def withX (s : State) (l : List (Obj × Nat × List Byte)) : State := l.foldl (fun t x => t.putOct x.1 x.2.1 x.2.2) s

/-- Channel 3 in Run with terminal 5 on it, in an activation state. -/
def term5 (st : Nat) : State :=
  withO base [(.channelLaneState, 3, 2), (.terminalChannel, 5, 3), (.terminalStateA, 5, st), (.terminalSnuffPhase, 5, 0),
    (.channelSnuffPhase, 3, 0), (.terminalOnuIdAssigned, 5, 9)]

/-- The record of terminal 5 on its channel replaced. -/
def withSide (s : State) (r : SideSt) : State := s.setTerm 5 { s.term 5 with a := r }

/-- A burst of terminal 5 that is expected, and the frame of whose map it is one. -/
def exp5 : Expect := ⟨⟨5, 100, 200, 10, 0, ⟨0, [], 32, 0, 0, false⟩, false, false, []⟩, ⟨0, [], 32, 0, 0, false⟩, 6, false⟩
def fly5 : Flight := ⟨7, false, false, false, 0, 0, false, 0, [exp5], 50, [0], false, []⟩

/-- The flight on channel 3, and when its burst is expected. -/
def flown (s : State) : State := (withO s [(.channelGeneration, 3, 3)]).setGch 3 { GrantCh.idle with flight := [fly5] }
def awa : Time × Time := match (flown base).awaited 3 with | x :: _ => (x.1, x.2.1) | [] => (0, 0)

/-- The bounds of the gap between a burst of terminal 5 and one of terminal 6 in one frame. -/
def gapP : Time := match (flown base).awaited 3 with | x :: _ => x.2.1 | [] => 0
def gapQ : Time := ((flown base).burstTimes 3 fly5 { exp5 with burst := { exp5.burst with term := 6, start := 9000, stop := 9100 } }).1

/-- A fragment that waits, of a frame whose header is not kept. -/
def frag1 : BondFrag := ⟨1, true, true, 100, none, none, 0⟩

/-- The grant engine at work: its lanes all Voting. -/
def voting : State :=
  withR (withO base [(.grantLaneState0, 0, 3), (.grantLaneState1, 0, 3), (.grantLaneState2, 0, 3)]) [(Reg.grantCtrl, 1)]

/-- The grant engine's record replaced. -/
def withG (s : State) (f : GrantSt → GrantSt) : State := { s with grants := f s.grants }

/-- Uplink port 5 up. -/
def up5 : State := withO base [(.uplinkLinkState, 5, 2), (.uplinkSnuffPhase, 5, 0)]

/-- A plain frame of a length. -/
def hdr (len : Nat) : FrameHdr := ⟨0x020000000001, 0x020000000002, none, none, 0x0800, none, len, false, [], 0⟩
def rx (h : FrameHdr) : RxFrame := ⟨h, false, 0, 0, true, none, none, false, .replicate 4 0⟩

/-- A stored frame of one cell that waits to be sent, and its cell. -/
def desc : QDesc := ⟨7, 100, noFlow, 0, 0, 0, 0, none, [], false, false, .uplink 5, 0, [], []⟩
def cell : CellTag := ⟨1, 0, 0, none, 1, true, true⟩

/-- A secured frame: its SecTAG. -/
def secTag : SecTag := ⟨1, 5, 0, true⟩

/-- The Gallery at work. -/
def gal : State := withR base [(Reg.galCtrl, 7)]

/-- A learned entry and a learn request for it; where it lies. -/
def entry : GalEntry := ⟨false, false, false, 0, 5, 1, 2, 9, 0, 0, 0⟩
def request : LearnReq := ⟨1, 2, 0, 5, 9⟩
def place : Nat := galBucket 0 1 2 * 4

/-- The request waiting in the queue of engine 1. -/
def asks (s : State) : State := s.setGal fun g => { g with queues := #v[[], [request], [], []] }

/-- The Gallery command for the entry's key. -/
def gcmd (flags kind dest flow : Nat) : GalCmd := ⟨7, 1, 2, flags, kind, dest, flow, 0, 0⟩

/-- Both buckets of the entry's key filled with another entry, whose own buckets are free; and those filled too, with
the stash. -/
def other : GalEntry := { entry with mac := 99, kind := 1 }
def fillWays (ps : List Nat) (s : State) : State := ps.foldl (fun t p => t.galSet p (some other)) s
def crowded : State := fillWays (State.bucketWays 0 (galBucket 0 1 2) ++ State.bucketWays 1 (galBucket 1 1 2)) gal
def noPlace : State :=
  fillWays (State.bucketWays 0 (galBucket 0 1 99) ++ State.bucketWays 1 (galBucket 1 1 99) ++
    (List.range 64).map (524288 + ·)) crowded

/-- The relocation path found in the crowded table. -/
def pathFound : List Nat := (crowded.findPath 0 (galBucket 0 1 2) [] 32).getD []

/-- An open walk. -/
def walk : Walk := ⟨3, 0, 0xFFFF, 0xFF, 0, 0, [], false, false, 0⟩

/-- The traffic manager's record replaced. -/
def withT (s : State) (f : TrafficSt → TrafficSt) : State := { s with tm := f s.tm }

/-- The state in which the scheduler chooses for channel 3, what it chooses, and the state after the choice. -/
def ahead (s : State) : State := ((s.waitHold 3).headWork 3).settleIdle
def pickedState (s : State) : State := ((ahead s).select 3 ((ahead s).pairWaiting 3)).elim s Prod.snd

/-- Terminal 5 on an XGS-PON channel whose framer sends. -/
def sends5 : State := withR (withO (term5 4) [(.channelGeneration, 3, 3)]) [(Reg.tcDsCtrl 3, 1)]

/-- A queue of terminal 5 that holds one frame. -/
def queued : State :=
  ((withO sends5 [(.queueEnable, 9, 1), (.queueTerminal, 9, 5), (.queueSnuffPhase, 9, 0),
    (.flowEnable, 4, 1), (.flowTerminal, 4, 5), (.flowPortId, 4, 1500), (.flowSnuffPhase, 4, 0)]).setQueue 9
      [{ desc with flow := 4 }]).setCell 7 (some cell)

def omciMsg : OmciMsg := ⟨1, 0, List.replicate 44 0⟩

/-- Passage port 1 up, of device 9. -/
def psg1 : State :=
  withO base [(.passagePortState, 1, 2), (.passageSnuffPhase, 1, 0), (.passageDeviceId, 0, 9)]

/-- A data frame towards a device. -/
def pframe (type : Fin 16) (dest : Fin 4096) (hops : Fin 64) (ok : Bool) : PsgFrame :=
  let f : PsgFrame :=
    ⟨type, dest, 8, 3, false, 5, hops, 0, 0, 100, 1, 0, some (hdr 100), [], none, 0, ok, false, .replicate 4 0, .replicate 4 0⟩
  { f with hck := Fin.ofNat 256 (hckOf ((State.headerIn f).take 15)) }

/-- Passage port 1 with windows of 256 other sources; and with the window of source 8 and class 3. -/
def psgFull : State := { psg1 with casc := { CascadeSt.idle with windows := (List.range 256).map fun k => ⟨100 + k, 0, 0, []⟩ } }
def psgSeen : State := { psg1 with casc := { CascadeSt.idle with windows := [⟨8, 3, 6, [5]⟩] } }

/-- A marker word of a lane of a Passage port, with the frame count and the maps. -/
def marker (l mfc map ok : Nat) : Nat :=
  let w := 0xC5A00000 + l * 262144 + mfc * 4096 + map * 256 + ok * 16
  w + markerChk w

/-- Port 1 with three lanes in use, in a state. -/
def lanes3 (v : Nat) : State :=
  (withO base [(.passagePortState, 1, v), (.passageSnuffPhase, 1, 0), (.passageLaneState, 4, 3), (.passageLaneState, 5, 3),
    (.passageLaneState, 6, 3), (.passageLaneEnable, 1, 15), (.passageLaneSnuffPhase, 4, 0), (.passageLaneSnuffPhase, 5, 0),
    (.passageLaneSnuffPhase, 6, 0), (.passageLaneSnuffPhase, 7, 0)]).setPsg 1 { PsgSt.idle with farMap := 7, farOk := 15 }

/-- Terminal 5 with its two key slots in states, on a channel of XGS-PON. -/
def keyed (a b : Nat) : State := withO (term5 4) [(.keySlotState, 10, a), (.keySlotState, 11, b), (.channelGeneration, 3, 3)]

/-- The register that selects a key slot, written. -/
def selects (kind slot : Nat) (s : State) : State := withR s [(Reg.ciphKeySel, 65536 * kind + slot)]

/-- Terminal 5 with the rest of a fragmented frame of its encrypted flow 77 in the framer. -/
def fragTail : State :=
  { withO (keyed 2 1) [(.flowEncrypt, 77, 1)] with
    tm := { (keyed 2 1).tm with rest := [(3, some ⟨30, 77, 5, 77, 1, none, false, false⟩)] } }

/-- The block's starts and supplies changed. -/
def withBoot (s : State) (f : BootSt → BootSt) : State := { s with boot := f s.boot }

/-- The record of the link to Lantern changed. -/
def withUcie (s : State) (f : UcieSt → UcieSt) : State := { s with ucie := f s.ucie }

/-- A state of the link. -/
def link (n : Nat) : State := at_ (500 * Tm.ms) (withO base [(.ucieLinkState, 0, n)])

/-- The device draining towards Glim since the start of time, with no Snuff left. -/
def dimming : State := withBoot (withO base [(.glimDrainTime, 0, 1000)]) fun b => { b with glimEntry := some 0 }

/-- The device in Glim. -/
def inGlim : State := withBoot base fun b => { b with glim := true, glimAt := 0 }

/-- A Snuff of a resource in progress. -/
def snuffing (k : ResKind) (i : Nat) (r : SnuffRec) (s : State) : State := s.setSnuff k i r

/-- The burst of R79's example: StartTime 1,000, 128 preamble bits and a 32-bit delimiter. -/
def burst79 : Expect := ⟨⟨5, 1000, 2000, 7, 0, ⟨128, [], 32, 0, 3, false⟩, false, false, []⟩, ⟨128, [], 32, 0, 3, false⟩, 6, false⟩

/-- Channel 3 of XGS-PON. -/
def xgs : State := withO (term5 4) [(.channelGeneration, 3, 3)]

/-- R79: the burst begins 160 bits before 1,000 words. -/
theorem test_expected_start : xgs.burstBits 3 burst79 = (32000 - 160, 64000) := by decide +kernel

/-- The flight of R81's table, with its window of 32 bits. -/
def flight81 : Flight := ⟨7, false, false, false, 32, 0, false, 0, [burst79], 50, [0], false, []⟩

/-- R81, case A: the earlier of equal minima. -/
theorem test_search_case_a : xgs.searched 3 flight81 burst79 [(2, 1), (24, 1)] = some 2 := by decide +kernel

/-- R81, case B: the position over the threshold does not count. -/
theorem test_search_case_b : xgs.searched 3 flight81 burst79 [(2, 4), (24, 2)] = some 24 := by decide +kernel

/-- A terminal in Operation on channel 4, and an allocation: of the worked map (R153 to R156). -/
def mapTerm (t onu : Nat) : List (Obj × Nat × Nat) :=
  [(.terminalChannel, t, 4), (.terminalStateA, t, 4), (.terminalSnuffPhase, t, 0), (.terminalOnuIdAssigned, t, onu)]
def mapAlloc (a t ty report : Nat) : List (Obj × Nat × Nat) :=
  [(.allocEnable, a, 1), (.allocTerminal, a, t), (.allocType, a, ty), (.allocSnuffPhase, a, 0), (.allocReport, a, report)]

/-- The demand of an allocation of the worked map. -/
def withReport (s : State) (a : Nat) (r : Option (Nat × Nat)) : State :=
  s.setGr fun g => { g with
    demand := tabPut (fun _ => DemandSt.idle) g.demand a { DemandSt.idle with ready := true, report := r } }

/-- The state of the worked map, before map 10 is computed. -/
def mapState : State :=
  let s := withO base ([(.channelLaneState, 4, 2), (.channelSnuffPhase, 4, 0), (.channelGeneration, 4, 3),
    (.channelDefaultWeight, 4, 0), (.channelProbeWords, 4, 0)] ++ mapTerm 1 1 ++ mapTerm 2 2 ++ mapTerm 3 3 ++
    mapAlloc 1 1 1 0 ++ [(.allocFixedWords, 1, 1000)] ++ mapAlloc 2 1 2 1 ++ [(.allocAssuredWords, 2, 2000)] ++
    mapAlloc 3 2 4 1 ++ [(.allocMaxWords, 3, 30000)] ++ mapAlloc 4 3 6 0 ++ [(.allocCoopWords, 4, 10000)])
  withReport (withReport (withReport (withReport (s.setGch 4 { GrantCh.idle with
    orders := [⟨4, 10, 20000, 8000, 0, false⟩] }) 1 none) 2 (some (7, 5000))) 3 (some (7, 40000))) 4 none

/-- A map's bursts as the table of the worked map shows them: terminal, StartTime, end word; allocation, words and report (1) of
each grant. -/
def shown (g : GMap) : List (List Nat) :=
  g.bursts.map fun b => [b.term, b.start, b.stop] ++ b.grants.flatMap fun x => [x.alloc, x.words, if x.report then 1 else 0]

/-- The worked map, N+2. -/
theorem test_worked_map : shown (mapState.computeMap 4 10).1 =
    [[1, 7, 3458, 1, 1000, 0, 2, 2000, 1], [2, 3465, 19993, 3, 14389, 1], [3, 20000, 29194, 4, 8000, 0],
     [2, 29201, 38786, 3, 8343, 0]] := by decide +kernel

/-- The order of map N+3. -/
def nextOrder (s : State) : State := s.setGch 4 { s.gch 4 with orders := [⟨4, 11, 30000, 2000, 0, false⟩] }

/-- What the map N+2, sent, leaves of its grants. -/
def noted (r : GMap × List Nat × State) : State := r.2.1.foldl (fun u a => u.noteMap 4 10 r.1.bursts a) r.2.2

/-- The worked map, N+3. -/
theorem test_worked_map_next : shown ((nextOrder (noted (mapState.computeMap 4 10))).computeMap 4 11).1 =
    [[1, 7, 3458, 1, 1000, 0, 2, 2000, 1], [2, 3465, 23296, 3, 17268, 1], [3, 30000, 32306, 4, 2000, 0]] := by decide +kernel

/-- R158: 64,299 ns are 20,000 words of XGS-PON. -/
theorem test_order_start : ceilDiv (64299 * Tm.ns) (mapState.wordSpan 4 1) = 20000 := by decide +kernel

/-- R182: at -7.5 degrees Warming lasts at most 7 minutes. -/
theorem test_warming_bound : State.warmBound (-7500) = 7 * 60 * Tm.s := by decide

/-- R243: fields 0, 9, 10, 11, 13 and 14 have 316 bits. -/
theorem test_profile_width : maskWidth (2 ^ 0 + 2 ^ 9 + 2 ^ 10 + 2 ^ 11 + 2 ^ 13 + 2 ^ 14) = 316 := by decide +kernel

/-- R279's table: +20 bytes on 64, +10 on 1,518. -/
theorem test_counted_length : (withO base [(.overheadBytes, 5, 20)]).counted 5 64 = 84 ∧
    (withO base [(.overheadBytes, 5, 10)]).counted 5 1518 = 1528 := by decide +kernel

/-- R297: Notice is left only below 6,000 - 256. -/
def pool3 (f n : Nat) : State :=
  withO base [(.poolEnable, 3, 1), (.poolCells, 3, 8192), (.poolNoticeCells, 3, 6000), (.poolPressureCells, 3, 7000),
    (.poolShedCells, 3, 8192), (.poolState, 3, n), (.poolCellsHeld, 3, f)]
theorem test_pool_notice : (pool3 5999 0).poolNext 3 = 0 ∧ (pool3 6000 0).poolNext 3 = 1 ∧
    (pool3 5744 1).poolNext 3 = 1 ∧ (pool3 5743 1).poolNext 3 = 0 := by decide +kernel

/-- The exhaustion of pool 3, steps 6 and 7: four cells from pool 3, two borrowed from pool 5, Shed entered. -/
def pool3Dry : State :=
  withO (pool3 8188 2) [(.poolEnable, 5, 1), (.poolCells, 5, 3000), (.poolNoticeCells, 5, 3000),
    (.poolPressureCells, 5, 3000), (.poolShedCells, 5, 3000), (.poolCellsHeld, 5, 1000), (.poolFallback, 3, 5),
    (.requesterPool, 40, 3), (.requesterPool, 41, 3), (.requesterMinCells, 40, 512), (.requesterMaxCells, 40, 7000),
    (.requesterMinCells, 41, 1024), (.requesterMaxCells, 41, 2048), (.requesterCellsHeld, 40, 7002),
    (.requesterCellsHeld, 41, 1186)]
theorem test_pool_borrows :
    let t := (pool3Dry.store 41 0 1518 1 1).2
    (t.n .requesterCellsHeld 41, t.n .poolCellsHeld 3, t.n .poolState 3, t.n .poolCellsHeld 5, t.n .borrows 0) =
      (1192, 8192, 3, 1002, 2) := by decide +kernel

/-- The worked transaction: bytes 24 to 59 are writes of AllocAssuredWords and AllocMaxWords of instance 37. -/
theorem test_transaction_records :
    (State.parseRecs 2 (beBytes 2 0x020A ++ beBytes 2 0x4000 ++ beBytes 4 0x2500 ++ beBytes 4 0 ++ beBytes 2 4 ++ beBytes 4 2000 ++
      beBytes 2 0x020D ++ beBytes 2 0x4000 ++ beBytes 4 0x2500 ++ beBytes 4 0 ++ beBytes 2 4 ++ beBytes 4 30000)) =
      [State.writeRec .allocAssuredWords 37 0 (beBytes 4 2000), State.writeRec .allocMaxWords 37 0 (beBytes 4 30000)] := by
  decide +kernel

/-- The raw read record of WICK_NS_LO: its instance is its address by 4. -/
theorem test_raw_instance : 4 * 0x040002 = 0x100008 ∧ (regAt (4 * 0x040002)).isSome = true := by decide +kernel

/-! ### Single steps -/

/-- A command at the front of the queue of `base`. -/
def front (c : Instr) (s : State) : State := { s with pending := [c] }

/-- What holds after one step. -/
def after (c : Instr) (s : State) (p : State → Bool) : Bool :=
  match step (front c s) with
  | .next t => p t && t.pending == []
  | _ => false

/-- R392: 200 ms without a kick reset Lantern. -/
theorem test_step_watchdog : after .watchdogExpiry (at_ (200 * Tm.ms) (withR base [(Reg.integCtrl, 8)]))
    (fun t => !t.boot.lanternUp && t.ucie.headless && t.n .watchdogExpiries 0 == 1) = true := by decide +kernel

/-- The same 1 ps earlier does nothing. -/
theorem test_step_watchdog_early : after .watchdogExpiry (at_ (200 * Tm.ms - 1) (withR base [(Reg.integCtrl, 8)]))
    (fun t => t.boot.lanternUp && t.n .watchdogExpiries 0 == 0) = true := by decide +kernel

/-- R437: retraining that ends with the lanes lost ends the link. -/
theorem test_step_link_lost : after (.retrainComplete 0xFFFF) (link 4)
    (fun t => t.n .ucieLinkState 0 == 5 && t.ucie.headless) = true := by decide +kernel

/-- R356: Next becomes Current, Current becomes Previous. -/
theorem test_step_key_switch : after (.keySwitch 5) ((keyed 1 2).setExch 5 ⟨false, false, some 0, false⟩)
    (fun t => t.slotState false 10 == 2 && t.slotState false 11 == 3) = true := by decide +kernel

/-- R427: a read-only word keeps its value. -/
theorem test_step_write_read_only : after (.registerWrite 0 5 false ⟨0, 0⟩) base (fun t => t.reg 0 == 0x3250) = true := by
  decide +kernel

/-- R410: a Write of a read-only object is refused with 0x0601_0002. -/
theorem test_step_write_refused : after (.write 0 (refOf .startPhase 0) 0 [4]) base
    (fun t => (t.lan.msgs.map fun q => q.results.map fun r => r.code) == [[some 0x06010002]]) = true := by decide +kernel

/-! ### What the statements' hypotheses hold of -/

theorem witness_StepTakesTheFrontCommand :
    (∃ (c : Instr) (s : State) (rest : List Instr), s.pending = c :: rest) ∧
    (∃ s : State, s.pending = []) :=
  ⟨⟨.maskRekey, { base with pending := [.maskRekey, .watchdogKick] }, [.watchdogKick], rfl⟩,
   ⟨base, by decide +kernel⟩⟩

theorem witness_CommandsCompleteWithinTheirParts :
    (∃ (c : Instr) (s t : State), exec c s = .next t) :=
  ⟨.entropyRecovery, base, base.put .entropyState 0 1, rfl⟩

theorem witness_SoundnessKept :
    (∃ s t : State, s.Sound ∧ step s = .next t) :=
  ⟨{ base with pending := [.entropyRecovery] }, base.put .entropyState 0 1, by unfold State.Sound soundStore soundClock; decide +kernel, rfl⟩

theorem witness_ReservedLocationsAndFields :
    (∃ (a : Nat), regAt a = none) ∧
    (∃ (s : State) (a : Nat), regAt a = none ∧ s.reach = true ∧ s.stage.waiting = []) ∧
    (∃ (a k j : Nat) (d : RegDesc), regAt a = some (d, k) ∧ ((∀ f ∈ d.fields k, ¬ (f.lo ≤ j ∧ j ≤ f.hi)))) ∧
    (∃ (a k v w : Nat) (d : RegDesc), regAt a = some (d, k) ∧ v < 2 ^ 32 ∧ w < 2 ^ 32 ∧ ((a < 0x1200020 ∨ 0x1200040 ≤ a)) ∧ ((∀ j, j < 32 → (d.mw = true ∧ 16 ≤ j) ∨ (∃ f ∈ d.fields k, f.lo ≤ j ∧ j ≤ f.hi) → v.testBit j = w.testBit j))) :=
  ⟨⟨4094, rfl⟩,
   ⟨base, 4094, rfl, by decide +kernel, by decide +kernel⟩,
   ⟨Reg.ciphCtrl, ctrl.2, 31, ctrl.1, rfl, by decide +kernel⟩,
   ⟨Reg.ciphCtrl, ctrl.2, 2, 2 ^ 31 + 2, ctrl.1, rfl, by decide +kernel, by decide +kernel, by decide +kernel, by decide +kernel⟩⟩

theorem witness_RefusedLockedWriteRecorded :
    (∃ (s : State) (m k : Master) (ref : ObjRef) (value : List Byte) (o : Obj) (c : Nat), s.Takes m ∧ s.NoPacket ∧ Obj.find (ref.index.val * 256 + ref.sub.val) = some o ∧ s.acceptCode m o ref.inst value = c ∧ (c = 0x06010003 ∨ c = 0x06010004) ∧ (k ≠ 2 ∨ s.n .inbandVlan 0 ≠ 0xFFFF) ∧ s.n .masterEventMask k / 2 ^ 9 % 2 = 1 ∧ s.lan.masters[k].events.length < 1024) ∧
    (∃ (s : State) (m : Master) (ref : ObjRef) (value : List Byte) (o : Obj) (c : Nat), s.Takes m ∧ s.NoPacket ∧ Obj.find (ref.index.val * 256 + ref.sub.val) = some o ∧ s.acceptCode m o ref.inst value = c ∧ (c = 0x06010003 ∨ c = 0x06010004)) :=
  ⟨⟨withO { base with lan := { base.lan with written := [Obj.treeCagePlan.key 7] } } [(.masterEventMask, 1, 2 ^ 9)], 0, 1, refOf .treeCagePlan 7, [4], .treeCagePlan, 0x06010003, by unfold State.Takes; decide +kernel, by unfold State.NoPacket; decide +kernel, by decide +kernel, by decide +kernel, by decide, by decide, by decide +kernel, by decide +kernel⟩,
   ⟨{ base with ciph := { base.ciph with locked := [131072 + 255] } }, 0, refOf .saKey 255, List.replicate 32 0, .saKey, 0x06010004, by unfold State.Takes; decide +kernel, by unfold State.NoPacket; decide +kernel, by decide +kernel, by decide +kernel, by decide⟩⟩

theorem witness_CounterInstancesCounted :
    (∃ (s : State) (c ev k : Nat), s.Sound ∧ c < 256 ∧ s.val .counterEnable c = .num 1 ∧ s.bit Reg.cntGlobalCtrl 0 = true ∧ s.boot.glim = false ∧ s.n .counterEvent c = ev ∧ s.n .counterValue c + k ≤ State.counterMax) ∧
    (∃ (s : State) (m : Master) (ref : ObjRef) (bs : List Byte) (o : Obj) (ev inst : Nat), s.Takes m ∧ s.NoPacket ∧ Obj.find (ref.index.val * 256 + ref.sub.val) = some o ∧ s.acceptCode m o ref.inst bs = Abort.ok ∧ s.on .counterEnable ref.inst = false ∧ ((o = .counterInstance ∧ ev = s.n .counterEvent ref.inst ∧ inst = beNat bs) ∨
      (o = .counterEvent ∧ ev = beNat bs ∧ inst = s.n .counterInstance ref.inst))) :=
  ⟨⟨withR (withO base [(.counterEnable, 255, 1), (.counterEvent, 255, 0x504), (.counterInstance, 255, 2)]) [(Reg.cntGlobalCtrl, 1)], 255, 0x504, 3, by unfold State.Sound soundStore soundClock; decide +kernel, by decide, by decide +kernel, by decide +kernel, by decide +kernel, by decide +kernel, by decide +kernel⟩,
   ⟨withO base [(.counterEvent, 255, 0x504)], 0, refOf .counterInstance 255, beBytes 2 2, .counterInstance, 0x504, 2, by unfold State.Takes; decide +kernel, by unfold State.NoPacket; decide +kernel, by decide +kernel, by decide +kernel, by decide +kernel, by decide +kernel⟩⟩

theorem witness_LanePllFaults :
    (∃ (s : State) (ch : Chan), s.sending ch = true) ∧
    (∃ (s : State) (ch : Chan), s.laneState ch = 5) ∧
    (∃ (s : State) (ch : Chan), s.laneState ch = 2) ∧
    (∃ (s : State) (ch : Chan), s.laneState ch = 2) :=
  ⟨⟨withO base [(.channelLaneState, 3, 2)], 3, by decide +kernel⟩,
   ⟨withO base [(.channelLaneState, 31, 5)], 31, by decide +kernel⟩,
   ⟨withO base [(.channelLaneState, 0, 2)], 0, by decide +kernel⟩,
   ⟨withO base [(.channelLaneState, 0, 2)], 0, by decide +kernel⟩⟩

theorem witness_LaneSleepAndNaps :
    (∃ (s : State) (ch : Chan), s.laneState ch = 2 ∧ s.atFrame = true ∧ s.n .devicePowerStateActual 0 = 1 ∧ s.n .channelTrimIdleDwell ch ≠ 0 ∧ s.activeOn ch = [] ∧ max s.boot.trimSince (s.lane ch).lastActive + s.n .channelTrimIdleDwell ch * Tm.s ≤ s.now) ∧
    (∃ (s : State) (ch : Chan), s.laneState ch = 3 ∧ s.n .channelQuietNext ch ≠ 0 ∧ s.n .channelQuietNext ch ≤ s.wick + 250 * Tm.us) ∧
    (∃ (s : State) (ch : Chan) (a b : Time), s.laneState ch = 2 ∧ s.n .devicePowerStateActual 0 = 1 ∧ a + 10 * Tm.us ≤ b) ∧
    (∃ (s : State) (ch : Chan) (b : Time), (s.lane ch).napUntil = some b ∧ b ≤ s.wick) :=
  ⟨⟨at_ (60 * Tm.s) (withO base [(.channelLaneState, 3, 2), (.devicePowerStateActual, 0, 1), (.channelTrimIdleDwell, 3, 60)]), 3, by decide +kernel⟩,
   ⟨withO base [(.channelLaneState, 3, 3), (.channelQuietNext, 3, 1)], 3, by decide +kernel⟩,
   ⟨withO base [(.channelLaneState, 3, 2), (.devicePowerStateActual, 0, 1)], 3, 0, 10 * Tm.us, by decide +kernel⟩,
   ⟨{ base with lanes := [(3, { LaneSt.idle with napUntil := some 0 })] }, 3, 0, by decide +kernel⟩⟩

theorem witness_LaneLoopsAndCalibration :
    (∃ (s : State) (ch : Chan), s.laneState ch = 4 ∧ s.bit (Reg.ponLaneCtrl ch) 11 = true ∧ s.bit (Reg.ponLaneStatus ch) 3 = false) ∧
    (∃ (s : State) (ch : Chan), s.laneState ch = 4 ∧ s.bit (Reg.ponLaneCtrl ch) 11 = true ∧ s.bit (Reg.ponLaneStatus ch) 3 = true) ∧
    (∃ (s : State) (ch : Chan), (s.laneState ch = 1 ∨ s.laneState ch = 4)) ∧
    (∃ (s : State) (ch : Chan) (x : Term) (k : Nat), s.atFrame = true ∧ s.sideOn x ch = some k ∧ s.eqRun x k = 16 ∧ s.on .channelEqTrack ch = true ∧ s.on .terminalEqPinned x = false) :=
  ⟨⟨withR (withO base [(.channelLaneState, 3, 4)]) [(Reg.ponLaneCtrl 3, 2048)], 3, by decide +kernel⟩,
   ⟨withR (withO base [(.channelLaneState, 3, 4)]) [(Reg.ponLaneCtrl 3, 2048), (Reg.ponLaneStatus 3, 8)], 3, by decide +kernel⟩,
   ⟨withO base [(.channelLaneState, 31, 1)], 31, by decide +kernel⟩,
   ⟨{ withO base [(.terminalChannel, 5, 3), (.channelEqTrack, 3, 1)] with eqRuns := [(10, 16)] }, 3, 5, 0, by decide +kernel⟩⟩

theorem witness_ModulesAndRelay :
    (∃ (s : State) (c : Cage), s.on .cageModulePresent c = false ∧ ¬ (c.val % 2 = 1 ∧ s.dualCage c = true)) ∧
    (∃ (s : State) (c : Cage) (bs : List Byte), (s.cage c).reading = true ∧ s.on .cageModulePresent c = true ∧ bs.length = 128 ∧ s.boot.lanternUp = true) ∧
    (∃ (s : State) (c : Cage), s.on .cageModulePresent c = true) ∧
    (∃ (s : State) (c : Cage) (r : List Byte) (rest : List (List Byte)), (s.cage c).queue = r :: rest ∧ (s.cage c).reading = false ∧ s.boot.lanternUp = true ∧ s.cageServes c = true) ∧
    (∃ (s : State) (c : Cage) (r : List Byte) (rest : List (List Byte)), (s.cage c).queue = r :: rest ∧ (s.cage c).reading = false ∧ s.boot.lanternUp = true ∧ s.cageServes c = false) ∧
    (∃ (s : State) (c : Cage) (r : List Byte) (rest : List (List Byte)), (s.cage c).queue = r :: rest ∧ (s.cage c).reading = false ∧ s.boot.lanternUp = true ∧ s.cageServes c = true) :=
  ⟨⟨base, 3, by decide +kernel⟩,
   ⟨{ withO base [(.cageModulePresent, 3, 1)] with cages := [(3, ⟨[], true⟩)] }, 3, List.replicate 128 7, by decide +kernel⟩,
   ⟨withO base [(.cageModulePresent, 31, 1)], 31, by decide +kernel⟩,
   ⟨{ withO base [(.cageModulePresent, 3, 1)] with cages := [(3, ⟨[[9, 0x50, 0, 2]], false⟩)] }, 3, [9, 0x50, 0, 2], [], by decide +kernel⟩,
   ⟨{ base with cages := [(3, ⟨[[9, 0x50, 0, 2]], false⟩)] }, 3, [9, 0x50, 0, 2], [], by decide +kernel⟩,
   ⟨{ withO base [(.cageModulePresent, 3, 1)] with cages := [(3, ⟨[[9, 0x50, 0, 2]], false⟩)] }, 3, [9, 0x50, 0, 2], [], by decide +kernel⟩⟩

theorem witness_ReceivedPowerTrigger :
    (∃ (s : State) (ch : Chan) (x : Term) (start stop armed : Time), (s.lane ch).rssi = some (x.val, armed) ∧ (start, stop, x.val) ∈ s.awaited ch ∧ armed + Tm.frame ≤ start ∧ start < armed + 16 * Tm.frame ∧ ((∀ y ∈ s.awaited ch, y.2.2 = x.val → armed + Tm.frame ≤ y.1 → y ≠ (start, stop, x.val) → start < y.1))) ∧
    (∃ (s : State) (ch : Chan) (x armed : Nat), (s.lane ch).rssi = some (x, armed) ∧ armed + 16 * Tm.frame ≤ s.wick) :=
  ⟨⟨flown { base with lanes := [(3, { LaneSt.idle with rssi := some (5, 0) })] }, 3, 5, awa.1, awa.2, 0, by decide +kernel⟩,
   ⟨at_ (16 * Tm.frame) { base with lanes := [(3, { LaneSt.idle with rssi := some (5, 0) })] }, 3, 5, 0, by decide +kernel⟩⟩

theorem witness_LaneSettingsTaken :
    (∃ (s : State) (m : Master) (ch : Chan) (x : Nat), s.Admits m .channelRssiRequest ch (beBytes 2 x)) ∧
    (∃ (s : State) (m : Master) (c : Cage) (r : List Byte), s.Admits m .cageI2cRequest c r ∧ State.i2cBad r = false ∧ (s.cage c).queue.length < 4) ∧
    (∃ (s : State) (m : Master) (c : Cage) (r : List Byte), s.Admits m .cageI2cRequest c r ∧ (State.i2cBad r = true ∨ 4 ≤ (s.cage c).queue.length)) ∧
    (∃ (s : State) (m : Master) (ch : Chan) (v : Nat), s.Admits m .channelLoopMode ch (beBytes 1 v) ∧ v % 256 ≠ 0 ∧ s.laneState ch = 0) ∧
    (∃ (s : State) (m : Master) (ch : Chan), s.Admits m .channelLoopMode ch (beBytes 1 0) ∧ s.laneState ch = 4) :=
  ⟨⟨base, 0, 3, 5, by unfold State.Admits State.Takes; decide +kernel⟩,
   ⟨base, 0, 3, [9, 0x50, 0, 2], by unfold State.Admits State.Takes; decide +kernel⟩,
   ⟨base, 0, 3, [9, 0xA0, 0, 2], by unfold State.Admits State.Takes; decide +kernel⟩,
   ⟨base, 0, 3, 1, by unfold State.Admits State.Takes; decide +kernel⟩,
   ⟨withO base [(.channelLaneState, 3, 4)], 1, 3, by unfold State.Admits State.Takes; decide +kernel⟩⟩

theorem witness_WickCopiesVoted :
    (∃ (s : State) (inc : Bool) (v : Nat), soundClock s.clk ∧ v ≠ (if inc then s.inc else s.wick)) ∧
    (∃ (s : State) (inc : Bool) (own a b : Nat), soundClock s.clk ∧ own = (if inc then s.inc else s.wick) ∧ own ≠ a ∧ own ≠ b ∧ a ≠ b ∧ ((inc = true → s.clk.slewed = 0))) :=
  ⟨⟨at_ 1000 base, false, 5, by unfold soundClock; decide +kernel⟩,
   ⟨at_ 1000 base, false, 1000, 4, 7, by unfold soundClock; decide +kernel⟩⟩

theorem witness_WickStatesEntered :
    (∃ (s : State), s.n .wickState 0 = 0 ∧ s.clk.since + State.warmBound s.clk.startTemp + 60 * Tm.s ≤ s.now) ∧
    (∃ (s : State), s.avail = true ∧ s.n .wickState 0 = 2 ∧ 16 ≤ s.clk.qualify ∧ s.wick % Tm.frame = 0) ∧
    (∃ (s : State), s.avail = false ∧ s.n .wickState 0 = 3 ∧ s.clk.lastUpdate + Tm.s ≤ s.now) ∧
    (∃ (s : State), s.n .wickState 0 = 4 ∧ s.reg Reg.wickHoldExpiry ≤ s.n .timeHoldoverElapsed 0) :=
  ⟨⟨at_ (360 * Tm.s) base, by decide +kernel⟩,
   ⟨{ withO base [(.wickState, 0, 2)] with clk := { ClockSt.start with qualify := 16 } }, by decide +kernel⟩,
   ⟨at_ Tm.s { withO base [(.wickState, 0, 3)] with ucie := { UcieSt.idle with headless := true } }, by decide +kernel⟩,
   ⟨withO base [(.wickState, 0, 4)], by decide +kernel⟩⟩

theorem witness_DomainStatesEntered :
    (∃ (s : State) (d : TimeDomain), s.avail = true ∧ s.domState d = 1 ∧ (s.dom d).since + 16 * Tm.s ≤ s.now ∧ s.domClass d ≤ 248) ∧
    (∃ (s : State) (d : TimeDomain) (a : Bool), s.avail = true ∧ (s.domState d = 1 ∨ s.domState d = 2 ∨ s.domState d = 4) ∧ s.domSilent d a = true) ∧
    (∃ (s : State) (d : TimeDomain), s.avail = true ∧ s.domState d = 4 ∧ 60 ≤ (s.dom d).consistent) ∧
    (∃ (s : State) (d : TimeDomain), s.selected = some d ∧ s.avail = true ∧ s.n .wickState 0 = 3 ∧ 16 ≤ s.clk.outliers) ∧
    (∃ (s : State) (d e : TimeDomain), s.selected = some e ∧ s.avail = true ∧ s.n .wickState 0 = 3 ∧ d ≠ e ∧ s.domState d = 2 ∧ s.domBetter d e = true ∧ s.on .timeDomainRevertive d = true ∧ s.n .timeDomainWtr d ≤ (s.dom d).better ∧ State.within (s.domOffset d) (s.n .timeSwitchMaxOffset 0) = true) ∧
    (∃ (s : State) (d e : TimeDomain), s.selected = some e ∧ s.avail = true ∧ s.n .wickState 0 = 3 ∧ d ≠ e ∧ s.domState d = 2 ∧ s.domBetter d e = true ∧ s.on .timeDomainRevertive d = true ∧ s.n .timeDomainWtr d ≤ (s.dom d).better ∧ State.within (s.domOffset d) (s.n .timeSwitchMaxOffset 0) = false) :=
  ⟨⟨at_ (16 * Tm.s) (withO base [(.timeDomainState, 1, 1), (.timeDomainClockClassManual, 1, 248)]), 1, by decide +kernel⟩,
   ⟨at_ (3 * Tm.s) (withO base [(.timeDomainState, 1, 4), (.timeDomainSource, 1, 4)]), 1, false, by decide +kernel⟩,
   ⟨withD (withO base [(.timeDomainState, 0, 4)]) 0 fun r => { r with consistent := 60 }, 0, by decide +kernel⟩,
   ⟨{ withO base [(.wickState, 0, 3), (.timeSelectedDomain, 0, 1)] with clk := { ClockSt.start with outliers := 16 } }, 1, by decide +kernel⟩,
   ⟨withD (withO base [(.wickState, 0, 3), (.timeSelectedDomain, 0, 1), (.timeDomainState, 0, 2), (.timeDomainState, 1, 2), (.timeDomainRevertive, 0, 1), (.timeDomainWtr, 0, 300)]) 0 fun r => { r with better := 300 }, 0, 1, by decide +kernel⟩,
   ⟨withD (withO base [(.wickState, 0, 3), (.timeSelectedDomain, 0, 1), (.timeDomainState, 0, 2), (.timeDomainState, 1, 2), (.timeDomainRevertive, 0, 1), (.timeDomainWtr, 0, 300)]) 0 fun r => { r with better := 300, off := 10 * Tm.s }, 0, 1, by decide +kernel⟩⟩

theorem witness_DomainInputsTaken :
    (∃ (s : State) (d : TimeDomain) (p : Uplink) (msg : PtpMsg), s.domTakes d 1 = true ∧ s.slaveCapable d p = true ∧ msg.slave = true ∧ msg.kind = 1) ∧
    (∃ (s : State) (d : TimeDomain) (p : Uplink) (msg : PtpMsg) (t1 t2 : Nat), s.domTakes d 1 = true ∧ s.slaveCapable d p = true ∧ msg.slave = true ∧ msg.kind = 2 ∧ (s.dom d).sync = some (t1, t2)) ∧
    (∃ (s : State) (msg : TodMsg), s.domTakes 0 3 = true ∧ msg.ok = true ∧ msg.cls = none ∧ (s.dom 0).lastTod = none ∧ s.n .timeDomainTodFormat 0 = 1 ∧ s.n .timeDomainTodConvention 0 = 1) ∧
    (∃ (s : State) (msg : TodMsg), (s.domTakes 0 3 = true ∨ s.domTakes 1 3 = true) ∧ msg.ok = false) ∧
    (∃ (s : State) (d : TimeDomain) (k : Fin 2), s.pulseDomain k = some d ∧ s.n .timeDomainSource d = 4 ∧ s.domState d ≠ 2) :=
  ⟨⟨withO base [(.timeDomainSource, 1, 1), (.timeDomainPorts, 1, 32), (.ptpPortEnable, 5, 1)], 1, 5, ⟨1, true, 5, 6, 0, 7, none, 0⟩, by decide +kernel⟩,
   ⟨withD (withO base [(.timeDomainSource, 1, 1), (.timeDomainPorts, 1, 32), (.ptpPortEnable, 5, 1), (.timeDomainState, 1, 3)]) 1 fun r => { r with sync := some (50, 60) }, 1, 5, ⟨2, true, 5, 6, 4, 7, none, 0⟩, 50, 60, by decide +kernel⟩,
   ⟨withO base [(.timeDomainSource, 0, 3), (.timeDomainTodFormat, 0, 1), (.timeDomainTodConvention, 0, 1)], ⟨true, 100, none, none⟩, by decide +kernel⟩,
   ⟨withO base [(.timeDomainSource, 1, 3)], ⟨false, 100, none, none⟩, by decide +kernel⟩,
   ⟨withO base [(.timeDomainSource, 1, 4)], 1, 1, by decide +kernel⟩⟩

theorem witness_OscillatorModelKept :
    (∃ (s : State) (b : Fin 68), s.avail = true ∧ s.n .wickState 0 = 3 ∧ 1800 ≤ tabGet (fun _ => 0) s.clk.dwell b) ∧
    (∃ (s : State), s.avail = true ∧ s.n .wickState 0 = 3 ∧ s.clk.lastRefit + 3600 * Tm.s ≤ s.now) ∧
    (∃ (s : State), s.avail = true ∧ s.n .wickState 0 = 3 ∧ s.clk.lastExpiry + 60 * Tm.s ≤ s.now) ∧
    (∃ (s : State) (m : Master), s.Admits m .timeModelReset 0 (beBytes 1 1)) ∧
    (∃ (s : State), s.n .wickState 0 = 3 ∧ s.n .ovenState 0 = 2) :=
  ⟨⟨{ withO base [(.wickState, 0, 3)] with clk := { ClockSt.start with dwell := [(67, 1800)] } }, 67, by decide +kernel⟩,
   ⟨at_ (3600 * Tm.s) (withO base [(.wickState, 0, 3)]), by decide +kernel⟩,
   ⟨at_ (60 * Tm.s) (withO base [(.wickState, 0, 3)]), by decide +kernel⟩,
   ⟨base, 1, by unfold State.Admits State.Takes; decide +kernel⟩,
   ⟨withO base [(.wickState, 0, 3), (.ovenState, 0, 2)], by decide +kernel⟩⟩

theorem witness_TriggersAndCaptures :
    (∃ (s : State) (m : Master) (k : Trig), s.Admits m .trigArm k (beBytes 1 1) ∧ s.trigArmBad k = false) ∧
    (∃ (s : State) (m : Master) (k : Trig), s.Admits m .trigArm k (beBytes 1 0)) ∧
    (∃ (s : State) (k : Trig) (p : TrigProg) (e : Nat), s.trig k = ⟨some (p, e), none⟩ ∧ p.start + e * p.period * Tm.ns ≤ s.wick ∧ s.squelched (s.on .trigSquelch k) = false) ∧
    (∃ (s : State) (k : Trig), s.on .captEnable k = true ∧ s.n .captEdge k = 2 ∧ tabFind s.clk.lastEdge k = none ∧ (s.captures k).length < 16) ∧
    (∃ (s : State) (m : Master) (k : Trig) (x c : Nat) (q : List (Nat × Nat)), s.Takes m ∧ s.boot.recovery = false ∧ s.captures k = (x, c) :: q) ∧
    (∃ (s : State) (m : Master) (i : Fin 1024), s.Takes m ∧ s.boot.recovery = false ∧ i.val < 20) ∧
    (∃ (s : State) (m : Master) (i : Fin 1024), s.Takes m ∧ s.boot.recovery = false ∧ s.exists? .requesterHighWater i = true) :=
  ⟨⟨withO base [(.trigStart, 7, 2 ^ 62), (.trigPeriod, 7, 20), (.trigWidth, 7, 10)], 0, 7, by unfold State.Admits State.Takes; decide +kernel⟩,
   ⟨base, 0, 7, by unfold State.Admits State.Takes; decide +kernel⟩,
   ⟨{ withO base [(.wickState, 0, 3)] with clk := { ClockSt.start with trigs := .replicate 8 ⟨some (⟨0, 20, 10, 1, true⟩, 0), none⟩ } }, 7, ⟨0, 20, 10, 1, true⟩, 0, by decide +kernel⟩,
   ⟨withO base [(.captEnable, 7, 1), (.captEdge, 7, 2)], 7, by decide +kernel⟩,
   ⟨{ base with clk := { ClockSt.start with captures := [(7, [(5, 0)])] } }, 0, 7, 5, 0, [], by unfold State.Takes; decide +kernel⟩,
   ⟨base, 0, 19, by unfold State.Takes; decide +kernel⟩,
   ⟨base, 0, 1023, by unfold State.Takes; decide +kernel⟩⟩

theorem witness_WickSetAndSteps :
    (∃ (s : State) (m : Master) (w : Nat), s.Admits m .wickSetTime 0 (beBytes 12 w) ∧ (s.n .wickState 0 = 0 ∨ s.n .wickState 0 = 1)) ∧
    (∃ (s : State) (m : Master) (w : Nat), s.Admits m .wickSetTime 0 (beBytes 12 w) ∧ s.n .wickState 0 ≠ 0 ∧ s.n .wickState 0 ≠ 1) :=
  ⟨⟨base, 0, 2 ^ 95, by unfold State.Admits State.Takes; decide +kernel⟩,
   ⟨withO base [(.wickState, 0, 3)], 0, 2 ^ 95, by unfold State.Admits State.Takes; decide +kernel⟩⟩

theorem witness_DatagramsJudged :
    (∃ (s : State) (m : Master) (bs : List Byte), s.Hears m ∧ 8192 < bs.length) ∧
    (∃ (s : State) (m : Master) (bs : List Byte), s.Hears m ∧ bs.length ≤ 8192 ∧ s.authentic m bs = false) ∧
    (∃ (s : State) (m : Master) (bs : List Byte), s.Hears m ∧ bs.length ≤ 8192 ∧ s.authentic m bs = true ∧ State.byteAt bs 3 = 1 ∧ beNat ((bs.drop 8).take 8) ≤ s.lan.masters[m].highest) ∧
    (∃ (s : State) (m : Master) (bs : List Byte), s.Hears m ∧ bs.length ≤ 8192 ∧ s.authentic m bs = true ∧ s.NoPacket ∧ State.byteAt bs 3 = 1 ∧ State.byteAt bs 5 = 0 ∧ s.lan.masters[m].highest < beNat ((bs.drop 8).take 8) ∧ s.outstanding m < 16) ∧
    (∃ (s : State) (m : Master) (bs : List Byte), s.Hears m ∧ bs.length ≤ 8192 ∧ s.authentic m bs = true ∧ State.byteAt bs 3 = 4) :=
  ⟨⟨base, 0, List.replicate 8193 0, by unfold State.Hears; decide +kernel⟩,
   ⟨base, 1, [0x53, 0xCE], by unfold State.Hears; decide +kernel⟩,
   ⟨base, 0, sealed 1 0 (List.replicate 32 1), by unfold State.Hears; decide +kernel, by rw [sealed_length]; decide, sealed_authentic _ _ _ _ _ (by decide +kernel), by decide +kernel, by decide +kernel⟩,
   ⟨withM base 0 fun r => { r with highest := 7 }, 0, sealed 1 8 (List.replicate 32 1), by unfold State.Hears; decide +kernel, by rw [sealed_length]; decide, sealed_authentic _ _ _ _ _ (by decide +kernel), by unfold State.NoPacket; decide +kernel, by decide +kernel, by decide +kernel, by decide +kernel, by decide +kernel⟩,
   ⟨base, 1, sealed 4 0 (List.replicate 32 2), by unfold State.Hears; decide +kernel, by rw [sealed_length]; decide, sealed_authentic _ _ _ _ _ (by decide +kernel), by decide +kernel⟩⟩

theorem witness_RecordsPerformed :
    (∃ (s : State) (m : Master) (ref : ObjRef) (off len : Nat) (o : Obj) (bs : List Byte), s.Takes m ∧ s.NoPacket ∧ Obj.find (ref.index.val * 256 + ref.sub.val) = some o ∧ s.exists? o ref.inst = true ∧ o ∉ readActs ∧ bs = (s.taken m).shown o ref.inst ∧ bs.length ≤ 4096 ∧ off + len ≤ bs.length) ∧
    (∃ (s : State) (m : Master) (ref : ObjRef) (off len : Nat) (o : Obj) (bs : List Byte), s.Takes m ∧ s.NoPacket ∧ Obj.find (ref.index.val * 256 + ref.sub.val) = some o ∧ s.exists? o ref.inst = true ∧ ((s.taken m).objRead o ref.inst).2 = bs ∧ bs.length ≤ 4096 ∧ off + len ≤ bs.length) ∧
    (∃ (s : State) (m : Master) (ref : ObjRef) (o : Obj), s.Takes m ∧ s.NoPacket ∧ Obj.find (ref.index.val * 256 + ref.sub.val) = some o) ∧
    (∃ (s : State) (m : Master) (ref : ObjRef) (value : List Byte) (o : Obj), s.Takes m ∧ s.NoPacket ∧ Obj.find (ref.index.val * 256 + ref.sub.val) = some o ∧ o.info.cls ≠ .immediate ∧ o.info.cls ≠ .packet ∧ s.acceptCode m o ref.inst value = Abort.ok) ∧
    (∃ (s : State) (m : Master) (ref : ObjRef) (value : List Byte) (o : Obj) (c : Nat), s.Takes m ∧ s.NoPacket ∧ Obj.find (ref.index.val * 256 + ref.sub.val) = some o ∧ s.acceptCode m o ref.inst value = c ∧ c ≠ Abort.ok ∧ c ≠ Abort.writtenOnce ∧ c ≠ Abort.locked) ∧
    (∃ (s : State) (m : Master) (ref : ObjRef) (o : Obj), s.Takes m ∧ s.NoPacket ∧ Obj.find (ref.index.val * 256 + ref.sub.val) = some o ∧ s.exists? o (if ref.inst.val = 0xFFFFFF then 0 else ref.inst) = true ∧ o.info.acc ≠ .ro ∧ o.info.acc ≠ .const ∧ ((∀ c ∈ s.lan.claims, c.master ≠ m → c.code = o.code →
      c.inst ≠ ref.inst.val ∧ c.inst ≠ 0xFFFFFF ∧ ref.inst.val ≠ 0xFFFFFF)) ∧ (s.lan.claims.filter fun c => c.master == m).length < 256) ∧
    (∃ (s : State) (m : Master) (ref : ObjRef) (o : Obj) (c : ClaimRec), s.Takes m ∧ s.NoPacket ∧ Obj.find (ref.index.val * 256 + ref.sub.val) = some o ∧ s.exists? o (if ref.inst.val = 0xFFFFFF then 0 else ref.inst) = true ∧ o.info.acc ≠ .ro ∧ o.info.acc ≠ .const ∧ c ∈ s.lan.claims ∧ c.master ≠ m ∧ c.code = o.code ∧ (c.inst = ref.inst.val ∨ c.inst = 0xFFFFFF ∨ ref.inst.val = 0xFFFFFF)) ∧
    (∃ (s : State) (m : Master) (ref : ObjRef) (o : Obj), s.Takes m ∧ s.NoPacket ∧ Obj.find (ref.index.val * 256 + ref.sub.val) = some o) ∧
    (∃ (s : State) (m : Master) (ref : ObjRef) (o : Obj) (j : Nat), s.Takes m ∧ s.NoPacket ∧ Obj.find (ref.index.val * 256 + ref.sub.val) = some o ∧ s.exists? o 0 = true ∧ o ≠ .rawRegister ∧ ref.inst.val ≤ j ∧ j < o.info.count ∧ j < 16777216 ∧ (s.taken m).shown o j ≠ o.info.ty.encode ((s.taken m).defaultNow o j) ∧ ((∀ k ∈ List.range j, ref.inst.val ≤ k →
      (s.taken m).shown o k = o.info.ty.encode ((s.taken m).defaultNow o k)))) ∧
    (∃ (s : State) (m : Master) (ref : ObjRef) (o : Obj), s.Takes m ∧ s.NoPacket ∧ Obj.find (ref.index.val * 256 + ref.sub.val) = some o ∧ s.exists? o 0 = true ∧ o ≠ .rawRegister ∧ ((∀ k ∈ List.range o.info.count, ref.inst.val ≤ k →
      (s.taken m).shown o k = o.info.ty.encode ((s.taken m).defaultNow o k)))) ∧
    (∃ (s : State) (m : Master) (ref : ObjRef) (o : Obj) (count : Nat), s.Takes m ∧ s.NoPacket ∧ Obj.find (ref.index.val * 256 + ref.sub.val) = some o ∧ o ≠ .rawRegister ∧ o.info.cls ≠ .immediate ∧ o.info.cls ≠ .packet ∧ 1 ≤ count ∧ count ≤ 65536 ∧ ((∀ k ∈ List.range count, s.accessCode m o (ref.inst.val + k) = Abort.ok))) :=
  ⟨⟨base, 0, refOf .startPhase 0, 0, 1, .startPhase, (base.taken 0).shown .startPhase 0, by unfold State.Takes State.NoPacket; decide +kernel⟩,
   ⟨withO base [(.queueDepthMax, 9, 77)], 0, refOf .queueDepthMax 9, 1, 2, .queueDepthMax, [0, 0, 0, 77], by unfold State.Takes State.NoPacket; decide +kernel⟩,
   ⟨base, 0, refOf .startPhase 0, .startPhase, by unfold State.Takes State.NoPacket; decide +kernel⟩,
   ⟨base, 0, refOf .channelReachMax 31, [60], .channelReachMax, by unfold State.Takes State.NoPacket; decide +kernel⟩,
   ⟨base, 0, refOf .startPhase 0, [4], .startPhase, Abort.readOnly, by unfold State.Takes State.NoPacket; decide +kernel⟩,
   ⟨base, 0, refOf .channelReachMax 31, .channelReachMax, by unfold State.Takes State.NoPacket; decide +kernel⟩,
   ⟨{ base with lan := { base.lan with claims := [⟨1, Obj.channelReachMax.code, 0xFFFFFF⟩] } }, 0, refOf .channelReachMax 31, .channelReachMax, ⟨1, Obj.channelReachMax.code, 0xFFFFFF⟩, by unfold State.Takes State.NoPacket; decide +kernel⟩,
   ⟨base, 0, refOf .channelReachMax 31, .channelReachMax, by unfold State.Takes State.NoPacket; decide +kernel⟩,
   ⟨withO base [(.masterEventMask, 2, 4)], 0, refOf .masterEventMask 0, .masterEventMask, 2, by unfold State.Takes State.NoPacket; decide +kernel⟩,
   ⟨base, 0, refOf .masterEventMask 1, .masterEventMask, by unfold State.Takes State.NoPacket; decide +kernel⟩,
   ⟨base, 1, refOf .channelReachMax 29, .channelReachMax, 3, by unfold State.Takes State.NoPacket; decide +kernel⟩⟩

theorem witness_MastersServed :
    (∃ (s : State) (m : Master) (q : Message), s.serves m = true ∧ s.lan.msgs.find? (fun q => q.master == m && s.complete q) = some q ∧ q.after = [] ∧ s.lan.masters[m].issued < State.lastCounter) ∧
    (∃ (s : State) (m : Master) (q : Message) (k : Master) (key : List Byte), s.serves m = true ∧ s.lan.msgs.find? (fun q => q.master == m && s.complete q) = some q ∧ q.after = [.storeKey k key] ∧ s.lan.masters[m].issued < State.lastCounter ∧ s.nvmUp = true ∧ s.nvm.keys.length = 3) ∧
    (∃ (s : State) (m : Master) (q : Message) (c : Nat), s.serves m = true ∧ s.lan.msgs.find? (fun q => q.master == m && s.complete q) = some q ∧ q.after = [.restartLantern c] ∧ s.lan.masters[m].issued < State.lastCounter) ∧
    (∃ (s : State) (m : Master) (q : Message), s.serves m = true ∧ s.lan.msgs.find? (fun q => q.master == m && s.complete q) = some q ∧ q.after = [.resetDevice] ∧ s.lan.masters[m].issued < State.lastCounter) ∧
    (∃ (s : State) (m : Master) (a : Nat) (es : List EventRec) (e : EventRec), s.sendsEvents m = true ∧ s.lan.masters[m].addr = some a ∧ s.lan.masters[m].issued < State.lastCounter ∧ State.fitEvents 255 8136 (s.lan.masters[m].events.filter fun e => s.lan.masters[m].sentUpTo < e.seq) = es ∧ es.getLast? = some e) ∧
    (∃ (s : State) (m : Master) (a : Nat) (es : List EventRec) (e : EventRec), s.sendsEvents m = true ∧ s.lan.masters[m].lastSend + 500 * Tm.ms ≤ s.now ∧ s.lan.masters[m].addr = some a ∧ s.lan.masters[m].issued < State.lastCounter ∧ State.fitEvents 255 8136 (s.lan.masters[m].events.filter fun e => e.seq ≤ s.lan.masters[m].sentUpTo) = es ∧ es.getLast? = some e) ∧
    (∃ (s : State) (m : Master), s.serves m = true) ∧
    (∃ (s : State) (m : Master), s.boot.lanternUp = true ∧ s.lan.masters[m].lastAccepted + s.n .sconceClaimTimeout 0 * Tm.s ≤ s.now) ∧
    (∃ (s : State) (m : Master) (x : Nat), s.Admits m .sconceClaimBreak 0 (beBytes 1 x)) :=
  ⟨⟨{ base with lan := { base.lan with msgs := [⟨5, 0, 9, 1, false, [⟨1, refOf .startPhase 0, some 0, [4]⟩], []⟩], nextMsg := 6 } }, 0, ⟨5, 0, 9, 1, false, [⟨1, refOf .startPhase 0, some 0, [4]⟩], []⟩, by decide +kernel⟩,
   ⟨{ base with lan := { base.lan with msgs := [⟨5, 0, 9, 1, false, [⟨1, refOf .startPhase 0, some 0, [4]⟩], [.storeKey 2 (List.replicate 32 7)]⟩], nextMsg := 6 } }, 0, ⟨5, 0, 9, 1, false, [⟨1, refOf .startPhase 0, some 0, [4]⟩], [.storeKey 2 (List.replicate 32 7)]⟩, 2, List.replicate 32 7, by decide +kernel⟩,
   ⟨{ base with lan := { base.lan with msgs := [⟨5, 0, 9, 1, false, [⟨1, refOf .startPhase 0, some 0, [4]⟩], [.restartLantern 5]⟩], nextMsg := 6 } }, 0, ⟨5, 0, 9, 1, false, [⟨1, refOf .startPhase 0, some 0, [4]⟩], [.restartLantern 5]⟩, 5, by decide +kernel⟩,
   ⟨{ base with lan := { base.lan with msgs := [⟨5, 0, 9, 1, false, [⟨1, refOf .startPhase 0, some 0, [4]⟩], [.resetDevice]⟩], nextMsg := 6 } }, 0, ⟨5, 0, 9, 1, false, [⟨1, refOf .startPhase 0, some 0, [4]⟩], [.resetDevice]⟩, by decide +kernel⟩,
   ⟨withM base 0 fun r => { r with addr := some 9, events := [⟨1, 1, false, false, 0, 0x744001, 0, []⟩] }, 0, 9, [⟨1, 1, false, false, 0, 0x744001, 0, []⟩], ⟨1, 1, false, false, 0, 0x744001, 0, []⟩, by decide +kernel⟩,
   ⟨at_ Tm.s (withM base 0 fun r => { r with addr := some 9, events := [⟨1, 1, false, false, 0, 0x744001, 0, []⟩], sentUpTo := 1 }), 0, 9, [⟨1, 1, false, false, 0, 0x744001, 0, []⟩], ⟨1, 1, false, false, 0, 0x744001, 0, []⟩, by decide +kernel⟩,
   ⟨base, 1, by decide +kernel⟩,
   ⟨at_ (60 * Tm.s) base, 1, by decide +kernel⟩,
   ⟨base, 0, 1, by unfold State.Admits State.Takes; decide +kernel⟩⟩

theorem witness_KeysImagesAndResets :
    (∃ (s : State) (m k : Master) (key : List Byte), s.NoPacket ∧ s.Admits m .masterKey k key ∧ beNat key ≠ 0 ∧ s.n .powerFailState 0 = 0) ∧
    (∃ (s : State) (m : Master) (key : List Byte), s.NoPacket ∧ s.Admits m .commissionKey 0 key ∧ s.n .powerFailState 0 = 0) ∧
    (∃ (s : State) (m : Master) (k : Fin 2) (bs : List Byte), s.NoPacket ∧ s.Admits m .imageUpload k bs ∧ (s.upload k).owner = none ∧ s.n .imageStatus k ≠ 2) ∧
    (∃ (s : State) (m : Master) (k : Fin 2) (bs : List Byte), s.NoPacket ∧ s.Admits m .imageUpload k bs ∧ (s.upload k).owner = some m ∧ s.n .imageStatus k ≠ 2 ∧ (s.upload k).bytes ≠ [] ∧ (s.upload k).bytes.length + bs.length ≤ State.imageMax) ∧
    (∃ (s : State) (m : Master) (k : Fin 2), s.NoPacket ∧ s.Admits m .imageCommit k (beBytes 1 1) ∧ s.n .powerFailState 0 = 0 ∧ (s.upload k).owner = some m ∧ s.n .imageStatus k ≠ 2) ∧
    (∃ (s : State), s.boot.lanternUp = true ∧ s.nvmUp = true ∧ s.n .imageStatus 0 = 2) ∧
    (∃ (s : State), s.boot.lanternUp = true ∧ s.nvmUp = true ∧ s.n .imageStatus 1 = 2) ∧
    (∃ (s : State) (m : Master) (t0 : Term) (bs : List Byte), s.NoPacket ∧ s.Admits m .omciSend t0 bs ∧ State.omciFormed (bs.drop 1) = true ∧ (s.taken m).inServiceAny t0 = true ∧ s.n .terminalSnuffPhase t0 = 0 ∧ (s.omci t0).length < 4) ∧
    (∃ (s : State) (m : Master) (nonce : List Byte), s.NoPacket ∧ s.Admits m .attestRequest m.val nonce ∧ s.lan.sigNext < State.sigCount) ∧
    (∃ (s : State) (m : Master) (k : Fin 3) (nonce : List Byte), s.NoPacket ∧ s.Admits m .attestRequest k.val nonce ∧ k ≠ m) ∧
    (∃ (s : State) (q : AttestReq) (l : List AttestReq), s.lan.attest = q :: l ∧ s.boot.lanternUp = true ∧ s.nvmUp = true ∧ s.lan.signedAt = none ∧ s.n .powerFailState 0 = 0 ∧ s.lan.sigNext < State.sigCount ∧ s.lan.sigNext ≤ s.nvm.sigLimit) ∧
    (∃ (s : State) (m : Master), s.NoPacket ∧ s.Admits m .firmwareRollbackCommit 0 (beBytes 1 1)) ∧
    (∃ (s : State) (m : Master), s.NoPacket ∧ s.Admits m .warmReset 0 (beBytes 1 1) ∧ s.n .powerFailState 0 = 0) ∧
    (∃ (s : State) (m : Master), s.NoPacket ∧ s.Admits m .warmReset 0 (beBytes 1 2) ∧ s.n .powerFailState 0 = 0) ∧
    (∃ (s : State) (m : Master), s.NoPacket ∧ s.Admits m .firmwareActivate 0 (beBytes 1 1) ∧ s.n .powerFailState 0 = 0) ∧
    (∃ (s : State) (m : Master), s.NoPacket ∧ s.Admits m .firmwareConfirm 0 (beBytes 1 1)) :=
  ⟨⟨base, 0, 2, List.replicate 32 7, by unfold State.Admits State.Takes State.NoPacket; decide +kernel⟩,
   ⟨base, 0, List.replicate 68 7, by unfold State.Admits State.Takes State.NoPacket; decide +kernel⟩,
   ⟨base, 0, 1, [1, 2, 3], by unfold State.Admits State.Takes State.NoPacket; decide +kernel⟩,
   ⟨{ base with lan := { base.lan with uploads := .replicate 2 ⟨some 0, [9]⟩ } }, 0, 1, [1, 2, 3], by unfold State.Admits State.Takes State.NoPacket; decide +kernel⟩,
   ⟨{ base with lan := { base.lan with uploads := .replicate 2 ⟨some 0, [9]⟩ } }, 0, 1, by unfold State.Admits State.Takes State.NoPacket; decide +kernel⟩,
   ⟨withO base [(.imageStatus, 0, 2)], by decide +kernel⟩,
   ⟨withO base [(.imageStatus, 1, 2)], by decide +kernel⟩,
   ⟨withO base [(.terminalChannel, 5, 3), (.terminalStateA, 5, 4), (.terminalSnuffPhase, 5, 0)], 0, 5, 7 :: List.replicate 3 0 ++ [0x0A] ++ List.replicate 40 0, by unfold State.Admits State.Takes State.NoPacket; decide +kernel⟩,
   ⟨base, 1, List.replicate 32 7, by unfold State.Admits State.Takes State.NoPacket; decide +kernel⟩,
   ⟨base, 1, 2, List.replicate 32 7, by unfold State.Admits State.Takes State.NoPacket; decide +kernel⟩,
   ⟨{ base with lan := { base.lan with attest := [⟨1, []⟩] } }, ⟨1, []⟩, [], by decide +kernel⟩,
   ⟨base, 0, by unfold State.Admits State.Takes State.NoPacket; decide +kernel⟩,
   ⟨base, 0, by unfold State.Admits State.Takes State.NoPacket; decide +kernel⟩,
   ⟨base, 0, by unfold State.Admits State.Takes State.NoPacket; decide +kernel⟩,
   ⟨base, 0, by unfold State.Admits State.Takes State.NoPacket; decide +kernel⟩,
   ⟨base, 0, by unfold State.Admits State.Takes State.NoPacket; decide +kernel⟩⟩

theorem witness_TrialsAndRawWindow :
    (∃ (s : State) (at_ : Time), s.boot.readyAt = some at_ ∧ s.boot.lanternUp = true ∧ s.boot.recovery = false ∧ s.nvm.trial = true ∧ s.n .firmwareTrialTime 0 ≠ 0 ∧ max at_ s.boot.lanternStart + s.n .firmwareTrialTime 0 * Tm.s ≤ s.now) ∧
    (∃ (s : State) (m : Master) (r : Fin 16777216), s.Takes m ∧ s.NoPacket ∧ s.exists? .rawRegister r = true) ∧
    (∃ (s u : State) (m : Master) (r : Fin 16777216) (v : Nat) (hw : HwUpdate) (a : RegStatus), s.Admits m .rawRegister r (beBytes 4 v) ∧ State.rawRefused (4 * r) = false ∧ ((carriedKeys (4 * r)).any fun k => s.claimedBy m (k / 16777216) (k % 16777216)) = false ∧ s.fabricRuns = true ∧ (s.taken m).regWrite (4 * r) (State.rawMasked (4 * r) (beNat (beBytes 4 v))) ⟨hw, some m⟩ = (u, a) ∧ u.lan.msgs = s.lan.msgs) ∧
    (∃ (s : State) (m : Master) (r : Fin 16777216) (v : Nat), s.Admits m .rawRegister r (beBytes 4 v)) :=
  ⟨⟨at_ (7200 * Tm.s) (withO { base with nvm := { base.nvm with trial := true } } [(.firmwareTrialTime, 0, 7200)]), 0, by decide +kernel⟩,
   ⟨base, 0, 0, by unfold State.Takes State.NoPacket; decide +kernel⟩,
   ⟨withO base [(.rawWindowMasters, 0, 1)], (((withO base [(.rawWindowMasters, 0, 1)]).taken 0).regWrite 4 7 ⟨⟨0, 0⟩, some 0⟩).1, 0, 1, 7, ⟨0, 0⟩, .done, by unfold State.Admits State.Takes; decide +kernel, by decide +kernel, by decide +kernel, by decide +kernel, by decide +kernel, by decide +kernel⟩,
   ⟨withO base [(.rawWindowMasters, 0, 1)], 0, 16, 7, by unfold State.Admits State.Takes; decide +kernel⟩⟩

theorem witness_BoundariesServed :
    (∃ (s : State), s.wickRuns = true ∧ s.clk.step = none) ∧
    (∃ (s : State), s.wickRuns = true ∧ s.wick % Tm.s = 0 ∧ s.clk.secondAt ≠ some s.wick ∧ s.fabricRuns = true ∧ s.frameServed = true) ∧
    (∃ (s : State), s.wickRuns = true ∧ s.wick % Tm.s = 0 ∧ s.clk.secondAt ≠ some s.wick) ∧
    (∃ (s : State) (ch : Chan) (e : Nat × Nat) (a n : Nat), s.fabricRuns = true ∧ s.atFrame = true ∧ s.sending ch = true ∧ (s.epochOf ch s.frameNo = some e ∨
      (s.epochOf ch s.frameNo = none ∧ (s.gch ch).epochs.getLast? = some (a, n) ∧ a + n = e.1 ∧
        s.n .channelEpochFrames ch = e.2 ∧ s.on .channelEpochSync ch = false))) ∧
    (∃ (s : State) (ch : Chan), s.fabricRuns = true ∧ s.laneState ch = 1 ∧ s.atFrame = true ∧ (s.lane ch).runFrame ≤ s.frameNo) :=
  ⟨⟨{ at_ (5 * Tm.s - 7) base with stage := ⟨none, [⟨1, 0, [(4, 5)], 0⟩, ⟨2, 3, [(4, 6)], 0⟩], []⟩ }, by decide +kernel⟩,
   ⟨withO { at_ (5 * Tm.s) base with clk := { (at_ (5 * Tm.s) base).clk with frameAt := some (5 * Tm.s) }, lineRun := [(8, 77), (11, 1)] } [(.ppsOutEnable, 1, 1), (.ppsOutWidth, 1, 100), (.unitSecondLatch, 15, 1), (.counterValue, 255, 9)], by decide +kernel⟩,
   ⟨at_ (5 * Tm.s) base, by decide +kernel⟩,
   ⟨(at_ (24 * Tm.frame) (withO base [(.channelLaneState, 3, 2), (.channelEpochIndex, 3, 5)])).setGch 3 { (base.gch 3) with epochs := [(16, 8)] }, 3, (24, 8), 16, 8, by decide +kernel⟩,
   ⟨withO base [(.channelLaneState, 3, 1)], 3, by decide +kernel⟩⟩

theorem witness_RegisterWrites :
    (∃ (s : State) (a : Nat), s.reach = true ∧ ((∀ c ∈ s.stage.waiting, c.cls ≠ 0)) ∧ (a = Reg.wickStepLo ∨ a = 4)) ∧
    (∃ (s : State), s.reach = true ∧ ((∀ c ∈ s.stage.waiting, c.cls ≠ 0))) ∧
    (∃ (s : State) (v : Nat) (ch : Chan), s.reach = true ∧ ((∀ c ∈ s.stage.waiting, c.cls ≠ 0)) ∧ v / 16 % 4 = s.n .channelLoopMode ch) ∧
    (∃ (s : State) (a : Nat), s.reach = true ∧ ((∀ c ∈ s.stage.waiting, c.cls ≠ 0)) ∧ (a = 0 ∨ regAt a = none)) ∧
    (∃ (s : State), s.reach = true) ∧
    (∃ (s : State), s.reach = true ∧ ((∀ c ∈ s.stage.waiting, c.cls ≠ 0))) ∧
    (∃ (s : State), s.reach = true ∧ ((∀ c ∈ s.stage.waiting, c.cls ≠ 0))) ∧
    (∃ (s : State) (c : Fin 4) (ws : List (Nat × Nat)), s.reach = true ∧ s.stage.openSet = some ws ∧ ((∀ c ∈ s.stage.waiting, c.cls ≠ 0))) ∧
    (∃ (s : State), s.reach = true ∧ ((∀ c ∈ s.stage.waiting, c.cls ≠ 0))) ∧
    (∃ (s : State) (j : Nat), s.reach = true ∧ ((∀ c ∈ s.stage.waiting, c.cls ≠ 0)) ∧ j < 16) ∧
    (∃ (s : State), s.reach = true ∧ ((∀ c ∈ s.stage.waiting, c.cls ≠ 0))) ∧
    (∃ (s : State), s.reach = false) :=
  ⟨⟨base, 4, by decide +kernel⟩,
   ⟨withR base [(Reg.ucieStatus, 0x700)], by decide +kernel⟩,
   ⟨withO base [(.regWriteLost, 0, 2 ^ 31 + 4)], 2, 31, by decide +kernel⟩,
   ⟨base, 0x7FFFFC, by decide +kernel⟩,
   ⟨{ base with stage := ⟨some [(4, 5), (4, 6)], [⟨1, 0, [(4, 5)], 0⟩], []⟩ }, by decide +kernel⟩,
   ⟨{ base with stage := ⟨none, [⟨1, 0, [(4, 5)], 0⟩], []⟩ }, by decide +kernel⟩,
   ⟨{ base with stage := ⟨some [(4, 5), (4, 6)], [⟨1, 0, [(4, 5)], 0⟩], []⟩ }, by decide +kernel⟩,
   ⟨{ base with stage := ⟨some [(4, 5), (4, 6)], [⟨1, 0, [(4, 5)], 0⟩], []⟩ }, 3, [(4, 5), (4, 6)], by decide +kernel⟩,
   ⟨withO base [(.regLockViolation, 0, 5), (.regWriteLost, 0, 6)], by decide +kernel⟩,
   ⟨withR base [(Reg.glbLock, 1)], 15, by decide +kernel⟩,
   ⟨{ withR base [(Reg.glbSnapshot, 1)] with latched := [(0, ⟨[], []⟩)] }, by decide +kernel⟩,
   ⟨{ base with boot := { base.boot with lanternUp := false } }, by decide +kernel⟩⟩

theorem witness_RegisterReadLatches :
    (∃ (s : State), s.reach = true) ∧
    (∃ (s : State), s.reach = true) ∧
    (∃ (s : State), s.reach = true) ∧
    (∃ (s : State), s.reach = true) ∧
    (∃ (s : State), s.reach = true) ∧
    (∃ (s : State), s.reach = true) ∧
    (∃ (s : State), s.reach = false) :=
  ⟨⟨at_ (2 ^ 90 + 77) base, by decide +kernel⟩,
   ⟨base, by decide +kernel⟩,
   ⟨base, by decide +kernel⟩,
   ⟨withR (withO base [(.counterValue, 255, 2 ^ 47)]) [(Reg.cntValHi 255, 0x50000)], by decide +kernel⟩,
   ⟨{ withO base [(.tsQueueLevel, 19, 1)] with clk := { ClockSt.start with ts := [(19, [⟨1, 0, 0, 5⟩])] } }, by decide +kernel⟩,
   ⟨{ base with clk := { ClockSt.start with captures := [(7, [(5, 0)])] } }, by decide +kernel⟩,
   ⟨{ base with boot := { base.boot with lanternUp := false } }, by decide +kernel⟩⟩

theorem witness_CountersStartedAndRead :
    (∃ (s : State) (m : Master) (u : Fin 16) (w : BitVec 16), s.Admits m .unitStart u (beBytes 2 w.toNat)) ∧
    (∃ (s : State) (m : Master) (u : Fin 16) (w : BitVec 16), s.Admits m .unitStop u (beBytes 2 w.toNat)) ∧
    (∃ (s : State) (m : Master) (c : Fin 256) (v inc : Nat), v + inc < 2 ^ 48 ∧ s.Admits m .counterValue c (beBytes 8 v)) ∧
    (∃ (s : State) (m : Master) (c : Fin 256) (v inc : Nat), v < 2 ^ 48 ∧ 2 ^ 48 ≤ v + inc ∧ v + inc < 2 ^ 49 ∧ s.Admits m .counterValue c (beBytes 8 v) ∧ s.on .counterEnable c = true ∧ s.on .counterMode c = true) ∧
    (∃ (s : State) (c : Fin 256) (k : Nat), s.on .counterEnable c = true ∧ s.bit Reg.cntGlobalCtrl 0 = true ∧ s.boot.glim = false ∧ 2 ^ 48 ≤ s.n .counterValue c + k ∧ s.on .counterMode c = true) ∧
    (∃ (s : State) (c : Fin 256) (k : Nat), s.on .counterEnable c = true ∧ s.bit Reg.cntGlobalCtrl 0 = true ∧ s.boot.glim = false ∧ 2 ^ 48 ≤ s.n .counterValue c + k ∧ s.on .counterMode c = false) ∧
    (∃ (s : State) (c : Fin 256) (k : Nat), (s.on .counterEnable c = false ∨ s.bit Reg.cntGlobalCtrl 0 = false ∨
    s.boot.glim = true ∨ s.n .counterValue c + k < 2 ^ 48)) ∧
    (∃ (s : State) (m : Master) (c : Fin 256) (v : Fin 2), s.Admits m .counterOverflowClear c (beBytes 1 v)) ∧
    (∃ (s : State) (m : Master) (v : Fin 2), s.Admits m .counterSnapshot 0 (beBytes 1 v)) :=
  ⟨⟨base, 0, 15, 0x8001, by unfold State.Admits State.Takes; decide +kernel⟩,
   ⟨withO base [(.counterEnable, 255, 1)], 0, 15, 0x8001, by unfold State.Admits State.Takes; decide +kernel⟩,
   ⟨withO base [(.counterEnable, 255, 1)], 0, 255, 2 ^ 48 - 3, 2, by unfold State.Admits State.Takes; decide +kernel⟩,
   ⟨withO base [(.counterEnable, 255, 1), (.counterMode, 255, 1)], 0, 255, 2 ^ 48 - 1, 5, by unfold State.Admits State.Takes; decide +kernel⟩,
   ⟨withR (withO base [(.counterEnable, 255, 1), (.counterMode, 255, 1), (.counterValue, 255, 2 ^ 48 - 1), (.counterPreload, 255, 9)]) [(Reg.cntGlobalCtrl, 1)], 255, 1, by decide +kernel⟩,
   ⟨withR (withO base [(.counterEnable, 255, 1), (.counterMode, 255, 0), (.counterValue, 255, 2 ^ 48 - 1), (.counterPreload, 255, 9)]) [(Reg.cntGlobalCtrl, 1)], 255, 3, by decide +kernel⟩,
   ⟨withR (withO base [(.counterEnable, 255, 1), (.counterMode, 255, 0), (.counterValue, 255, 2 ^ 48 - 1), (.counterPreload, 255, 9)]) [(Reg.cntGlobalCtrl, 1)], 255, 0, by decide +kernel⟩,
   ⟨withO base [(.counterOverflow, 255, 1)], 0, 255, 1, by unfold State.Admits State.Takes; decide +kernel⟩,
   ⟨base, 0, 1, by unfold State.Admits State.Takes; decide +kernel⟩⟩

theorem witness_LifetimeRecordSaved :
    (∃ (s : State) (m : Master), s.Admits m .lifetimeSave 0 (beBytes 1 1)) ∧
    (∃ (s : State), s.wick % (900 * Tm.s) = 0 ∧ ((∀ x ∈ s.life.lastSave, x + 60 * Tm.s ≤ s.now))) ∧
    (∃ (s : State), (s.wick % (900 * Tm.s) ≠ 0 ∨ (∃ x ∈ s.life.lastSave, s.now < x + 60 * Tm.s))) ∧
    (∃ (s : State) (r : Nat), s.recording = true ∧ s.nvmUp = true ∧ s.life.saving = some r ∧ s.nvm.copies.length = 2 ∧ s.life.nextCopy < 2) ∧
    (∃ (s : State), (s.recording = false ∨ s.nvmUp = false ∨ s.life.saving = none)) ∧
    (∃ (s : State) (l : Fin 64), s.recording = true ∧ s.marginLane l = true ∧ tabGet (fun _ => 0) s.life.measured l ≠ s.minute ∧ (32 ≤ l.val ∨ tabGet (fun _ => 0) s.life.bright l = s.minute)) ∧
    (∃ (s : State) (l : Fin 64), (s.recording = false ∨ s.marginLane l = false ∨
    tabGet (fun _ => 0) s.life.measured l = s.minute ∨
    (l.val < 32 ∧ tabGet (fun _ => 0) s.life.bright l ≠ s.minute))) :=
  ⟨⟨base, 0, by unfold State.Admits State.Takes; decide +kernel⟩,
   ⟨base, by decide +kernel⟩,
   ⟨at_ Tm.s base, by decide +kernel⟩,
   ⟨{ withO base [(.powerFailState, 0, 1)] with life := { State.reset.life with saving := some 1, queued := true } }, 1, by decide +kernel⟩,
   ⟨base, by decide +kernel⟩,
   ⟨{ withO base [(.channelLaneState, 31, 2)] with life := { State.reset.life with bright := [(31, 1)] } }, 31, by decide +kernel⟩,
   ⟨withO base [(.channelLaneState, 31, 2)], 31, by decide +kernel⟩⟩

theorem witness_BurstsReceived :
    (∃ (s : State) (ch : Chan) (k i : Nat) (f : Flight) (e : Expect), (s.gch ch).flight.find? (fun f => f.frame == k) = some f ∧ f.expected[i]? = some e ∧ i ∈ f.due) ∧
    (∃ (s : State) (ch : Chan) (k i : Nat) (f : Flight) (e : Expect), (s.gch ch).flight.find? (fun f => f.frame == k) = some f ∧ f.expected[i]? = some e ∧ i ∈ f.due ∧ s.bit (Reg.ponLaneStatus ch) 1 = false) ∧
    (∃ (s : State) (ch : Chan) (k i : Nat) (r : BurstRx) (f : Flight) (e : Expect), (s.gch ch).flight.find? (fun f => f.frame == k) = some f ∧ f.expected[i]? = some e ∧ i ∈ f.due ∧ s.bit (Reg.ponLaneStatus ch) 1 = true ∧ (s.bit (Reg.tcUsCtrl ch) 0 = false ∨ (∀ h ∈ r.hits, e.prof.threshold < h.2 ∨ f.window < h.1.natAbs))) ∧
    (∃ (s : State) (ch : Chan) (k i : Nat) (r : BurstRx) (f : Flight) (e : Expect) (x : Int), (s.gch ch).flight.find? (fun f => f.frame == k) = some f ∧ f.expected[i]? = some e ∧ i ∈ f.due ∧ s.bit (Reg.ponLaneStatus ch) 1 = true ∧ s.bit (Reg.tcUsCtrl ch) 0 = true ∧ s.searched ch f e r.hits = some x) ∧
    (∃ (s : State) (ch : Chan) (k : Nat) (r : BurstRx) (f : Flight) (e : Expect) (g : Grant) (u : UpGrant) (x : Int) (b : Nat), (s.gch ch).flight.find? (fun f => f.frame == k) = some f ∧ f.expected[0]? = some e ∧ 0 ∈ f.due ∧ s.bit (Reg.ponLaneStatus ch) 1 = true ∧ s.bit (Reg.tcUsCtrl ch) 0 = true ∧ s.searched ch f e r.hits = some x ∧ r.headerOk = true ∧ (s.gen ch = 1 ∨ r.onu = s.n .terminalOnuIdAssigned e.burst.term) ∧ e.burst.grants = [g] ∧ r.grants = [u] ∧ u.frags = [] ∧ u.report = some b ∧ g.report = true ∧ (State.isDflt g.alloc = true ∨ s.n .allocSnuffPhase g.alloc = 0)) ∧
    (∃ (s : State) (ch : Chan) (k i : Nat), ((∀ f ∈ (s.gch ch).flight.find? (fun f => f.frame == k), i ∉ f.due ∨ f.expected[i]? = none))) ∧
    (∃ (s : State) (ch : Chan) (f : Flight) (l : List Flight), (s.gch ch).flight = f :: l ∧ f.frame * Tm.frame + 750 * Tm.us ≤ s.wick) ∧
    (∃ (s : State) (ch : Chan), ((∀ f ∈ (s.gch ch).flight.head?, s.wick < f.frame * Tm.frame + 750 * Tm.us))) :=
  ⟨⟨withR ((term5 4).setGch 3 { GrantCh.idle with flight := [fly5] }) [(Reg.tcUsCtrl 3, 1), (Reg.ponLaneStatus 3, 2)], 3, 7, 0, fly5, exp5, by decide +kernel⟩,
   ⟨withR (withO ((term5 4).setGch 3 { GrantCh.idle with flight := [{ fly5 with expected := [{ exp5 with burst := { exp5.burst with grants := [⟨9, 40, true, .local_, []⟩] } }] }] }) [(.allocSnuffPhase, 9, 0)]) [(Reg.tcUsCtrl 3, 1), (Reg.ponLaneStatus 3, 0)], 3, 7, 0, { fly5 with expected := [{ exp5 with burst := { exp5.burst with grants := [⟨9, 40, true, .local_, []⟩] } }] }, { exp5 with burst := { exp5.burst with grants := [⟨9, 40, true, .local_, []⟩] } }, by decide +kernel⟩,
   ⟨withR (withO ((term5 4).setGch 3 { GrantCh.idle with flight := [{ fly5 with expected := [{ exp5 with burst := { exp5.burst with grants := [⟨9, 40, true, .local_, []⟩] } }] }] }) [(.allocSnuffPhase, 9, 0)]) [(Reg.tcUsCtrl 3, 1), (Reg.ponLaneStatus 3, 2)], 3, 7, 0, ⟨[(0, 1)], 0, 6, 0, 0, true, 0, 0, none, []⟩, { fly5 with expected := [{ exp5 with burst := { exp5.burst with grants := [⟨9, 40, true, .local_, []⟩] } }] }, { exp5 with burst := { exp5.burst with grants := [⟨9, 40, true, .local_, []⟩] } }, by decide +kernel⟩,
   ⟨withR (withO ((term5 4).setGch 3 { GrantCh.idle with flight := [{ fly5 with expected := [{ exp5 with burst := { exp5.burst with grants := [⟨9, 40, true, .local_, []⟩] } }] }] }) [(.allocSnuffPhase, 9, 0)]) [(Reg.tcUsCtrl 3, 1), (Reg.ponLaneStatus 3, 2)], 3, 7, 0, ⟨[(0, 0)], 0, 6, 0, 0, true, 9, 0, none, []⟩, { fly5 with expected := [{ exp5 with burst := { exp5.burst with grants := [⟨9, 40, true, .local_, []⟩] } }] }, { exp5 with burst := { exp5.burst with grants := [⟨9, 40, true, .local_, []⟩] } }, 0, by decide +kernel⟩,
   ⟨withR (withO ((term5 4).setGch 3 { GrantCh.idle with flight := [{ fly5 with expected := [{ exp5 with burst := { exp5.burst with grants := [⟨9, 40, true, .local_, []⟩] } }] }] }) [(.allocSnuffPhase, 9, 0)]) [(Reg.tcUsCtrl 3, 1), (Reg.ponLaneStatus 3, 2)], 3, 7, ⟨[(0, 0)], 0, 6, 0, 0, true, 9, 0, none, [⟨some 77, 3, [], false⟩]⟩, { fly5 with expected := [{ exp5 with burst := { exp5.burst with grants := [⟨9, 40, true, .local_, []⟩] } }] }, { exp5 with burst := { exp5.burst with grants := [⟨9, 40, true, .local_, []⟩] } }, ⟨9, 40, true, .local_, []⟩, ⟨some 77, 3, [], false⟩, 0, 77, by decide +kernel⟩,
   ⟨withR ((term5 4).setGch 3 { GrantCh.idle with flight := [fly5] }) [(Reg.tcUsCtrl 3, 1), (Reg.ponLaneStatus 3, 2)], 3, 6, 0, by decide +kernel⟩,
   ⟨at_ (13 * Tm.frame) (withR ((term5 4).setGch 3 { GrantCh.idle with flight := [fly5] }) [(Reg.cntGlobalCtrl, 4)]), 3, fly5, [], by decide +kernel⟩,
   ⟨at_ (11 * Tm.frame) ((term5 4).setGch 3 { GrantCh.idle with flight := [fly5] }), 3, by decide +kernel⟩⟩

theorem witness_BondingReceiverGoesOn :
    (∃ (s : State) (f : Flow) (r : BondRx) (x : BondFrag), s.bondRx f = some r ∧ r.held = [x] ∧ x.seq = (r.next + 1) % 1048576 ∧ r.next < 1048576 ∧ x.f = true ∧ x.l = true ∧ x.len ≤ 12288 ∧ x.since + s.n .flowBondUpTimeout f * Tm.us ≤ s.now ∧ ((∀ v ∈ r.lastA.toList ++ r.lastB.toList, bondLater v ((r.next + 2) % 1048576) = false))) ∧
    (∃ (s : State) (f : Flow) (r : BondRx), s.bondRx f = some r ∧ r.held = [] ∧ ((∀ v ∈ r.lastA.toList ++ r.lastB.toList, bondLater v r.next = false))) ∧
    (∃ (s : State) (f : Flow) (r : BondRx), s.bondRx f = some r ∧ r.taken + Tm.s ≤ s.now) ∧
    (∃ (s : State) (f : Flow), s.bondRx f = none) ∧
    (∃ (s : State) (f : Flow) (r : BondRx), s.bondRx f = some r ∧ s.now < r.taken + Tm.s) :=
  ⟨⟨at_ Tm.s (base.setBondRx 9 (some ⟨0, some 1, none, [frag1], none, 0⟩)), 9, ⟨0, some 1, none, [frag1], none, 0⟩, frag1, by decide +kernel⟩,
   ⟨at_ Tm.s (base.setBondRx 9 (some ⟨0, none, none, [], none, 0⟩)), 9, ⟨0, none, none, [], none, 0⟩, by decide +kernel⟩,
   ⟨at_ Tm.s (base.setBondRx 9 (some ⟨0, none, none, [], none, 0⟩)), 9, ⟨0, none, none, [], none, 0⟩, by decide +kernel⟩,
   ⟨base, 9, by decide +kernel⟩,
   ⟨base.setBondRx 9 (some ⟨0, none, none, [], none, 0⟩), 9, ⟨0, none, none, [], none, 0⟩, by decide +kernel⟩⟩

theorem witness_StrayLightAndHunts :
    (∃ (s : State) (ch : Chan) (a b : Time) (l x y : Nat) (p q : Time), s.on .channelGapMonitor ch = true ∧ s.sending ch = true ∧ s.n .channelGapEnergyThreshold ch < l ∧ (s.gaps ch).filter (s.lightIn ch a b) = [(some (p, some x), some (q, some y))]) ∧
    (∃ (s : State) (ch : Chan) (a b : Time) (l : Nat) (p : Time) (g : Option State.Bound × Option State.Bound), s.on .channelGapMonitor ch = true ∧ s.sending ch = true ∧ s.n .channelGapEnergyThreshold ch < l ∧ (s.gaps ch).filter (s.lightIn ch a b) = [g] ∧ (g.1 = some (p, none) ∨ g.2 = some (p, none))) ∧
    (∃ (s : State) (ch : Chan) (a b : Time) (l : Nat), (s.on .channelGapMonitor ch = false ∨ s.sending ch = false ∨
    l ≤ s.n .channelGapEnergyThreshold ch ∨ (∀ g ∈ s.gaps ch, s.lightIn ch a b g = false))) ∧
    (∃ (s : State) (ch : Chan), s.n .channelRogueFrames ch ≤ (s.act ch).litRun) ∧
    (∃ (s : State) (ch : Chan) (x : Term) (k : Nat), s.sideOn x ch = some k ∧ s.n .channelRogueFrames ch ≤ (s.sd x k).strayRun) ∧
    (∃ (s : State) (ch : Chan) (x f : Nat) (lit : Bool), (s.act ch).watch = some (x, f, lit)) ∧
    (∃ (s : State) (ch : Chan) (h : HuntSt), (s.act ch).hunt = some h) ∧
    (∃ (s : State) (ch : Chan) (x : Time), (s.act ch).retryAt = some x) ∧
    (∃ (s : State) (ch : Chan) (h : HuntSt), (s.act ch).hunt = some h) ∧
    (∃ (s : State) (m : Master) (x : Term) (v : Fin 2), s.Admits m .terminalRogueRelease x (beBytes 1 v)) :=
  ⟨⟨(withO (flown (term5 4)) [(.channelGapMonitor, 3, 1), (.channelGapEnergyThreshold, 3, 5), (.channelGapMinLen, 3, 100)]).setGch 3 { GrantCh.idle with flight := [{ fly5 with expected := [exp5, { exp5 with burst := { exp5.burst with term := 6, start := 9000, stop := 9100 } }], due := [0, 1] }] }, 3, gapP, gapP + 2 * Tm.us, 6, 5, 6, gapP, gapQ, by decide +kernel⟩,
   ⟨(withO (term5 4) [(.channelGapMonitor, 3, 1), (.channelGapEnergyThreshold, 3, 5)]).setAct 3 { ActSt.idle with wins := [⟨0, 0, 250 * Tm.us, ⟨100, [], 32, 5, 0, false⟩, 6, 0⟩] }, 3, 260 * Tm.us, 270 * Tm.us, 6, 250 * Tm.us, (some (250 * Tm.us, none), none), by decide +kernel⟩,
   ⟨withO (flown (term5 4)) [(.channelGapMonitor, 3, 1), (.channelGapEnergyThreshold, 3, 5), (.channelGapMinLen, 3, 100)], 3, 0, Tm.us, 5, by decide +kernel⟩,
   ⟨(withO (term5 4) [(.channelRogueAction, 3, 2)]).setAct 3 { ActSt.idle with litRun := 8 }, 3, by decide +kernel⟩,
   ⟨withSide (withO (term5 4) [(.channelRogueAction, 3, 1)]) { SideSt.idle with strayRun := 8 }, 3, 5, 0, by decide +kernel⟩,
   ⟨(at_ (15 * Tm.frame) (withO (term5 6) [(.channelRogueAction, 3, 1)])).setAct 3 { ActSt.idle with watch := some (5, 7, false) }, 3, 5, 7, false, by decide +kernel⟩,
   ⟨(at_ (15 * Tm.frame) (term5 4)).setAct 3 { ActSt.idle with hunt := some ⟨[[2, 2, 2, 2, 2, 2, 2, 2]], List.replicate 8 1, 7, true, false, false⟩ }, 3, ⟨[[2, 2, 2, 2, 2, 2, 2, 2]], List.replicate 8 1, 7, true, false, false⟩, by decide +kernel⟩,
   ⟨(withO (term5 4) [(.channelRogueAction, 3, 2)]).setAct 3 { ActSt.idle with retryAt := some 0, litRun := 8 }, 3, 0, by decide +kernel⟩,
   ⟨(term5 4).setAct 3 { ActSt.idle with hunt := some ⟨[], List.replicate 8 1, 7, true, false, false⟩ }, 3, ⟨[], List.replicate 8 1, 7, true, false, false⟩, by decide +kernel⟩,
   ⟨{ withX (withO (term5 6) [(.terminalRogue, 5, 1)]) [(.terminalSerial, 5, List.replicate 8 1)] with nvm := { base.nvm with quarantined := [(3, 5, List.replicate 8 1)] } }, 0, 5, 1, by unfold State.Admits State.Takes; decide +kernel⟩⟩

theorem witness_WindowsAndAdmission :
    (∃ (s : State) (ch : Chan), s.atFrame = true ∧ s.windowsRun ch = true ∧ (s.periodic ch (s.frameNo + 3) = true ∨ s.frameNo + 3 ∈ (s.act ch).extra) ∧ ((s.act ch).wins.any fun w => w.frame == s.frameNo + 3) = false) ∧
    (∃ (s : State) (ch : Chan), (s.atFrame = false ∨ s.windowsRun ch = false ∨
    (s.periodic ch (s.frameNo + 3) = false ∧ s.frameNo + 3 ∉ (s.act ch).extra) ∨
    ((s.act ch).wins.any fun w => w.frame == s.frameNo + 3) = true)) ∧
    (∃ (s : State) (m : Master) (ch : Chan) (x : Nat), x < 2 ^ 96 ∧ s.Admits m .channelQuietAt ch (beBytes 12 x)) ∧
    (∃ (s : State) (ch : Chan) (hits : List (Nat × Nat)) (ph : Fin 64) (sn : Vector Byte 8) (w : QuietWin) (ws : List QuietWin) (pos r : Nat), (s.act ch).wins = w :: ws ∧ s.sending ch = true ∧ w.start ≤ s.wick ∧ State.findResponse w.prof hits w.next = some pos ∧ s.bitTime ch pos ph < w.len ∧ (s.act ch).decoded < 32 ∧ s.n .channelSnuffPhase ch = 0 ∧ (s.act ch).hunt = none ∧ s.admission ch sn.toList = some r) ∧
    (∃ (s : State) (ch : Chan) (hits : List (Nat × Nat)) (ph : Fin 64) (sn : Vector Byte 8) (w : QuietWin) (ws : List QuietWin) (pos i k id : Nat), (s.act ch).wins = w :: ws ∧ s.sending ch = true ∧ w.start ≤ s.wick ∧ State.findResponse w.prof hits w.next = some pos ∧ s.bitTime ch pos ph < w.len ∧ (s.act ch).decoded < 32 ∧ s.n .channelSnuffPhase ch = 0 ∧ (s.act ch).hunt = none ∧ s.admission ch sn.toList = none ∧ s.boundAs ch sn.toList = none ∧ s.admitEntry sn.toList = some i ∧ s.n .admitTerminal i < 8192 ∧ s.sideOn (s.n .admitTerminal i) ch = some k ∧ s.onuFor (s.n .admitTerminal i) = some id) ∧
    (∃ (s : State) (ch : Chan) (hits : List (Nat × Nat)) (ph : Fin 64) (w : QuietWin) (ws : List QuietWin) (pos : Nat), (s.act ch).wins = w :: ws ∧ s.sending ch = true ∧ w.start ≤ s.wick ∧ State.findResponse w.prof hits w.next = some pos ∧ s.bitTime ch pos ph < w.len) ∧
    (∃ (s : State) (ch : Chan) (hits : List (Nat × Nat)) (ph : Fin 64), (s.sending ch = false ∨ (∀ w ∈ (s.act ch).wins.head?, s.wick < w.start ∨
      State.findResponse w.prof hits w.next = none ∨
      (∀ pos ∈ State.findResponse w.prof hits w.next, w.len ≤ s.bitTime ch pos ph)))) ∧
    (∃ (s : State) (ch : Chan) (w : QuietWin) (ws : List QuietWin), (s.act ch).wins = w :: ws ∧ w.start + w.len ≤ s.wick) ∧
    (∃ (s : State) (ch : Chan), ((∀ w ∈ (s.act ch).wins.head?, s.wick < w.start + w.len))) :=
  ⟨⟨withR ((term5 4).setAct 3 { ActSt.idle with extra := [3] }) [(Reg.actCtrl 3, 1)], 3, by decide +kernel⟩,
   ⟨at_ 5 base, 3, by decide +kernel⟩,
   ⟨base, 0, 3, 2 ^ 95, by unfold State.Admits State.Takes; decide +kernel⟩,
   ⟨((withO (term5 4) [(.channelGeneration, 3, 3)]).setAct 3 { ActSt.idle with wins := [⟨0, 0, 250 * Tm.us, ⟨100, [], 32, 5, 1, false⟩, 6, 40⟩] }), 3, [(50, 1), (20, 0)], 7, #v[1, 2, 3, 4, 5, 6, 7, 8], ⟨0, 0, 250 * Tm.us, ⟨100, [], 32, 5, 1, false⟩, 6, 40⟩, [], 50, 0, by decide +kernel⟩,
   ⟨((withX (withO (withO base [(.channelLaneState, 3, 2), (.channelSnuffPhase, 3, 0), (.terminalChannel, 5, 3), (.terminalSnuffPhase, 5, 0), (.terminalOnuId, 5, 1022), (.terminalEnable, 5, 1), (.channelGeneration, 3, 3)]) [(.admitAction, 8, 1), (.admitTerminal, 8, 5)]) [(.admitSerial, 8, [1, 2, 3, 4, 5, 6, 7, 8])]).setAct 3 { ActSt.idle with wins := [⟨0, 0, 250 * Tm.us, ⟨100, [], 32, 5, 1, false⟩, 6, 40⟩] }), 3, [(50, 1), (20, 0)], 7, #v[1, 2, 3, 4, 5, 6, 7, 8], ⟨0, 0, 250 * Tm.us, ⟨100, [], 32, 5, 1, false⟩, 6, 40⟩, [], 50, 8, 0, 1022, by decide +kernel⟩,
   ⟨((withO (term5 4) [(.channelGeneration, 3, 3)]).setAct 3 { ActSt.idle with wins := [⟨0, 0, 250 * Tm.us, ⟨100, [], 32, 5, 1, false⟩, 6, 40⟩] }), 3, [(50, 1), (20, 0)], 7, ⟨0, 0, 250 * Tm.us, ⟨100, [], 32, 5, 1, false⟩, 6, 40⟩, [], 50, by decide +kernel⟩,
   ⟨term5 4, 3, [(50, 1), (20, 0)], 7, by decide +kernel⟩,
   ⟨at_ (250 * Tm.us) (withO (((term5 4).setAct 3 { ActSt.idle with wins := [⟨0, 0, 250 * Tm.us, ⟨100, [], 32, 5, 1, false⟩, 6, 40⟩] })) [(.channelBrstWidth, 3, 8)]), 3, ⟨0, 0, 250 * Tm.us, ⟨100, [], 32, 5, 1, false⟩, 6, 40⟩, [], by decide +kernel⟩,
   ⟨((term5 4).setAct 3 { ActSt.idle with wins := [⟨0, 0, 250 * Tm.us, ⟨100, [], 32, 5, 1, false⟩, 6, 40⟩] }), 3, by decide +kernel⟩⟩

theorem witness_RangingAndRegistration :
    (∃ (s : State) (ch : Chan) (x : Term) (hits : List (Nat × Nat)) (ph : Fin 64) (k : Nat) (w : RangeWin) (pos : Nat), s.sideOn x ch = some k ∧ (s.sd x k).window = some w ∧ s.tstate x k = 2 ∧ State.findResponse w.prof hits w.next = some pos ∧ w.lo + s.bitTime ch pos ph < w.hi) ∧
    (∃ (s : State) (ch : Chan) (x : Term) (hits : List (Nat × Nat)) (ph : Fin 64), ((∀ k ∈ s.sideOn x ch, ∀ w ∈ (s.sd x k).window, s.tstate x k ≠ 2 ∨
      State.findResponse w.prof hits w.next = none ∨
      (∀ pos ∈ State.findResponse w.prof hits w.next, w.hi ≤ w.lo + s.bitTime ch pos ph)))) ∧
    (∃ (s : State) (ch : Chan) (x : Term) (k : Nat) (w : RangeWin), s.sideOn x ch = some k ∧ (s.sd x k).window = some w ∧ s.tstate x k = 2 ∧ w.hi ≤ s.wick) ∧
    (∃ (s : State) (ch : Chan) (x : Term), ((∀ k ∈ s.sideOn x ch, ∀ w ∈ (s.sd x k).window, s.tstate x k ≠ 2 ∨ s.wick < w.hi))) ∧
    (∃ (s : State) (ch : Chan) (x : Term) (k : Nat), s.sideOn x ch = some k ∧ s.avail = true ∧ s.tstate x k = 3 ∧ (s.sd x k).accepted = false ∧ (s.sd x k).asked < 3 ∧ ((s.sd x k).asked = 0 ∨ (s.sd x k).askedAt + 20 * Tm.ms ≤ s.now)) ∧
    (∃ (s : State) (ch : Chan) (x : Term) (k : Nat) (id : List Byte), s.sideOn x ch = some k ∧ s.avail = true ∧ s.tstate x k = 3 ∧ (s.sd x k).accepted = false ∧ (s.sd x k).asked ≠ 0 ∧ ((∀ i ∈ s.admitEntry (s.oct .terminalSerial x), i < 16777216 ∧
      (s.oct .admitRegistrationId i = [] ∨ s.oct .admitRegistrationId i = id)))) ∧
    (∃ (s : State) (ch : Chan) (x : Term) (k i : Nat) (id : List Byte), s.sideOn x ch = some k ∧ s.avail = true ∧ s.tstate x k = 3 ∧ (s.sd x k).accepted = false ∧ (s.sd x k).asked ≠ 0 ∧ s.admitEntry (s.oct .terminalSerial x) = some i ∧ i < 16777216 ∧ s.oct .admitRegistrationId i ≠ id ∧ s.oct .admitRegistrationId i ≠ []) ∧
    (∃ (s : State) (ch : Chan) (x : Term) (k : Nat), s.sideOn x ch = some k ∧ s.tstate x k = 3 ∧ (s.sd x k).accepted = false ∧ (s.sd x k).asked = 3 ∧ (s.sd x k).askedAt + 20 * Tm.ms ≤ s.now) ∧
    (∃ (s : State) (ch : Chan) (x : Term), ((∀ k ∈ s.sideOn x ch, s.tstate x k ≠ 3 ∨ (s.sd x k).accepted = true))) :=
  ⟨⟨withSide (withO (term5 2) [(.channelGeneration, 3, 3)]) ({ SideSt.idle with window := some ⟨0, 100, 600 * Tm.us, 900 * Tm.us, ⟨100, [], 32, 5, 1, false⟩, 6, 5, 40⟩, attempts := 0 }), 3, 5, [(50, 1), (20, 0)], 7, 0, ⟨0, 100, 600 * Tm.us, 900 * Tm.us, ⟨100, [], 32, 5, 1, false⟩, 6, 5, 40⟩, 50, by decide +kernel⟩,
   ⟨withSide (term5 3) ({ SideSt.idle with window := some ⟨0, 100, 600 * Tm.us, 900 * Tm.us, ⟨100, [], 32, 5, 1, false⟩, 6, 5, 40⟩, attempts := 0 }), 3, 5, [(50, 1), (20, 0)], 7, by decide +kernel⟩,
   ⟨at_ Tm.ms (withSide (term5 2) ({ SideSt.idle with window := some ⟨0, 100, 600 * Tm.us, 900 * Tm.us, ⟨100, [], 32, 5, 1, false⟩, 6, 5, 40⟩, attempts := 1 })), 3, 5, 0, ⟨0, 100, 600 * Tm.us, 900 * Tm.us, ⟨100, [], 32, 5, 1, false⟩, 6, 5, 40⟩, by decide +kernel⟩,
   ⟨withSide (term5 2) ({ SideSt.idle with window := some ⟨0, 100, 600 * Tm.us, 900 * Tm.us, ⟨100, [], 32, 5, 1, false⟩, 6, 5, 40⟩, attempts := 1 }), 3, 5, by decide +kernel⟩,
   ⟨term5 3, 3, 5, 0, by decide +kernel⟩,
   ⟨withSide (withX (withX (withO (term5 3) [(.admitAction, 8, 1), (.admitTerminal, 8, 5)]) [(.admitSerial, 8, [1, 2, 3, 4, 5, 6, 7, 8]), (.terminalSerial, 5, [1, 2, 3, 4, 5, 6, 7, 8])]) [(.admitRegistrationId, 8, [7])]) ({ SideSt.idle with asked := 1 }), 3, 5, 0, [7], by decide +kernel⟩,
   ⟨withSide (withX (withX (withO (term5 3) [(.admitAction, 8, 1), (.admitTerminal, 8, 5)]) [(.admitSerial, 8, [1, 2, 3, 4, 5, 6, 7, 8]), (.terminalSerial, 5, [1, 2, 3, 4, 5, 6, 7, 8])]) [(.admitRegistrationId, 8, [7])]) ({ SideSt.idle with asked := 1 }), 3, 5, 0, 8, [8], by decide +kernel⟩,
   ⟨at_ Tm.s (withSide (term5 3) ({ SideSt.idle with asked := 3 })), 3, 5, 0, by decide +kernel⟩,
   ⟨term5 2, 3, 5, by decide +kernel⟩⟩

theorem witness_LossAndPowerSaving :
    (∃ (s : State) (ch : Chan) (x : Term) (k f : Nat), s.sideOn x ch = some k ∧ (s.sd x k).correction = some f) ∧
    (∃ (s : State) (ch : Chan) (x : Term) (k : Nat), s.sideOn x ch = some k ∧ s.tstate x k = 4 ∧ s.n .terminalPowerState x ≤ 1 ∧ s.n .channelLossBursts ch ≤ (s.sd x k).absent ∧ s.wick % Tm.frame = 0) ∧
    (∃ (s : State) (ch : Chan) (x : Term), ((∀ k ∈ s.sideOn x ch, s.tstate x k ≠ 4 ∨
      2 ≤ s.n .terminalPowerState x ∨ (s.sd x k).absent < s.n .channelLossBursts ch ∨ s.wick % Tm.frame ≠ 0))) ∧
    (∃ (s : State) (ch : Chan) (x : Term) (k : Nat), s.sideOn x ch = some k ∧ s.inService x ch = true ∧ 2 ≤ s.n .terminalPowerState x) ∧
    (∃ (s : State) (ch : Chan) (x : Term) (k : Nat), s.sideOn x ch = some k ∧ s.tstate x k = 5 ∧ (s.sd x k).recovered = false) ∧
    (∃ (s : State) (x : Term) (m : Fin 4), s.inServiceAny x = true ∧ m ≠ 0) ∧
    (∃ (s : State) (x : Term), s.inServiceAny x = true ∧ 2 ≤ s.n .terminalPowerState x ∧ (s.n .terminalPowerState x ≠ 5 ∨ (s.term x).wakeFrame ≠ some s.frameNo)) ∧
    (∃ (s : State) (x : Term), s.inServiceAny x = false) ∧
    (∃ (s : State) (x : Term) (e : Time), (s.term x).emptySince = some e ∧ s.avail = true ∧ s.inServiceAny x = true ∧ s.n .terminalPowerState x = 0 ∧ s.n .terminalPowerModes x ≠ 0 ∧ s.on .terminalForceAwake x = false ∧ s.n .terminalSnuffPhase x = 0) ∧
    (∃ (s : State) (x : Term), ((s.term x).emptySince = none ∨ s.n .terminalPowerState x ≠ 0 ∨
    s.n .terminalPowerModes x = 0 ∨ s.on .terminalForceAwake x = true)) :=
  ⟨⟨at_ Tm.s (withSide (withO (term5 4) [(.channelGeneration, 3, 1)]) { SideSt.idle with correction := some 7 }), 3, 5, 0, 7, by decide +kernel⟩,
   ⟨withSide (term5 4) { SideSt.idle with absent := 4 }, 3, 5, 0, by decide +kernel⟩,
   ⟨term5 5, 3, 5, by decide +kernel⟩,
   ⟨at_ (1000 * Tm.s) (withO (term5 4) [(.terminalPowerState, 5, 3)]), 3, 5, 0, by decide +kernel⟩,
   ⟨at_ (1000 * Tm.s) (term5 5), 3, 5, 0, by decide +kernel⟩,
   ⟨withO (term5 4) [(.terminalPowerState, 5, 1), (.terminalPowerModes, 5, 4)], 5, 3, by decide +kernel⟩,
   ⟨withO (term5 4) [(.terminalPowerState, 5, 2)], 5, by decide +kernel⟩,
   ⟨term5 5, 5, by decide +kernel⟩,
   ⟨at_ (1000 * Tm.s) ((withO (term5 4) [(.terminalPowerModes, 5, 1)]).setTerm 5 { TermSt.idle with emptySince := some 0 }), 5, 0, by decide +kernel⟩,
   ⟨term5 4, 5, by decide +kernel⟩⟩

theorem witness_MapsComputedAndLanesVoted :
    (∃ (s : State) (ch : Chan) (m : Nat), s.bit Reg.grantCtrl 0 = true ∧ s.boot.glim = false ∧ m ∈ s.mapFrames ch) ∧
    (∃ (s : State) (ch : Chan) (m x y : Nat), s.bit Reg.grantCtrl 0 = true ∧ s.boot.glim = false ∧ ((∀ c : Chan, s.mapFrames c = if c = ch then [m] else [])) ∧ s.voters = [0, 1, 2] ∧ s.soleLane = false ∧ s.grants.reload = none ∧ s.grants.test = none ∧ x ≠ y) ∧
    (∃ (s : State) (ch : Chan) (m : Nat), s.bit Reg.grantCtrl 0 = true ∧ s.boot.glim = false ∧ ((∀ c : Chan, s.mapFrames c = if c = ch then [m] else [])) ∧ s.voters = [0, 1, 2] ∧ s.soleLane = false ∧ s.grants.reload = none ∧ s.grants.reloadDue = false ∧ s.grants.test = none) ∧
    (∃ (s : State) (ch : Chan) (m : Nat), s.bit Reg.grantCtrl 0 = true ∧ s.boot.glim = false ∧ ((∀ c : Chan, s.mapFrames c = if c = ch then [m] else [])) ∧ s.voters = [0, 1, 2] ∧ s.grants.reload = none ∧ s.grants.reloadDue = false ∧ s.grants.test = none) ∧
    (∃ (s : State), s.grants.reload.isSome = true ∧ s.wick % Tm.frame = 0 ∧ ((∀ l : GrantLane, s.gl l = 2 ∧ 2 ≤ (s.glane l).shadow)) ∧ s.grants.voteLater = none ∧ s.grants.reloadDue = false) ∧
    (∃ (s : State), (s.grants.reload = none ∨ s.wick % Tm.frame ≠ 0 ∨ (∃ l : GrantLane, s.gl l = 2 ∧ (s.glane l).shadow < 2) ∨
    (∀ l : GrantLane, s.gl l ≠ 2))) ∧
    (∃ (s : State) (m : Master) (v : Nat), s.Admits m .grantLaneTest 0 (beBytes 1 v) ∧ v ≤ 2) ∧
    (∃ (s : State) (l : Nat) (a : Time) (given out : Bool), s.grants.test = some (l, a, given, out)) ∧
    (∃ (s : State) (m : Master) (v : Nat), s.Admits m .grantLaneRelease 0 (beBytes 1 v) ∧ v ≤ 2) ∧
    (∃ (s : State), s.grants.test = none) :=
  ⟨⟨withO voting [(.channelLaneState, 3, 2), (.channelGeneration, 3, 3)], 3, 2, by decide +kernel⟩,
   ⟨withO voting [(.channelLaneState, 3, 2), (.channelGeneration, 3, 3)], 3, 2, 7, 8, by decide +kernel⟩,
   ⟨withO voting [(.channelLaneState, 3, 2), (.channelGeneration, 3, 3)], 3, 2, by decide +kernel⟩,
   ⟨withO voting [(.channelLaneState, 3, 2), (.channelGeneration, 3, 3)], 3, 2, by decide +kernel⟩,
   ⟨withG (withO base [(.grantLaneState0, 0, 2), (.grantLaneState1, 0, 2), (.grantLaneState2, 0, 2)]) fun g => { g with lanes := .replicate 3 { GLaneSt.idle with shadow := 2 }, reload := some (0, 2) }, by decide +kernel⟩,
   ⟨voting, by decide +kernel⟩,
   ⟨voting, 0, 2, by unfold State.Admits State.Takes; decide +kernel⟩,
   ⟨at_ (11 * Tm.ms) (withG (withO voting [(.grantLaneState2, 0, 4)]) fun g => { g with test := some (2, 0, true, true) }), 2, 0, true, true, by decide +kernel⟩,
   ⟨withO voting [(.grantLaneState2, 0, 5)], 0, 2, by unfold State.Admits State.Takes; decide +kernel⟩,
   ⟨voting, by decide +kernel⟩⟩

theorem witness_OrdersEdgesAndLargestSamples :
    (∃ (s : State) (c : Instr) (a : Fin 65536) (start volume ch t0 m st words : Nat) (rest : List Order), ((∃ q, c = .passageCooperativeOrder q a start volume ∧ s.psgUp q = true) ∨
    (∃ p e path i, c = .ctiReport p e [⟨some path, some start, some volume⟩] ∧ s.receives p = true ∧
      s.n (if e then .coopEtherType else .coopUdpPort) 0 ≠ 0 ∧ s.coopBinding path = some i ∧
      s.n .coopDevice i = 0xFFFF ∧ s.n .coopAllocation i = a.val)) ∧ a.val < 16384 ∧ s.allocChan a = ch ∧ ch < 32 ∧ s.gen ch ≠ 0 ∧ t0 = ((start : Int) + s.num .channelCoopTimeOffset ch * (Tm.ns : Nat)).toNat ∧ m = (t0 - upDelay) / Tm.frame ∧ st = ceilDiv (t0 - upDelay - m * Tm.frame) (max 1 (s.wordSpan ch 1)) ∧ words = ceilDiv (volume * (100 + s.n .allocCoopMargin a)) (100 * (wordBits (s.gen ch) / 8)) ∧ rest = (s.gch ch).orders.filter (fun x => !(x.alloc == a.val && x.frame == m))) ∧
    (∃ (s : State) (p : Uplink) (e : Bool) (path st v : Option Nat), s.receives p = true ∧ s.n (if e then .coopEtherType else .coopUdpPort) 0 ≠ 0 ∧ (path = none ∨ st = none ∨ v = none ∨ (∃ x ∈ path, s.coopBinding x = none))) ∧
    (∃ (s : State) (q : Psg) (a : Fin 65536), s.psgUp q = true ∧ (16384 ≤ a.val ∨ s.allocChan a = 255 ∨ s.gen (s.allocChan a) = 0)) ∧
    (∃ (s : State) (stamp : Time), ((∀ a ∈ s.grants.fsyncAt, a + 500 * Tm.us ≤ stamp))) ∧
    (∃ (s : State) (stamp a : Time), s.grants.fsyncAt = some a ∧ stamp < a + 500 * Tm.us) ∧
    (∃ (s : State) (a : Time), s.grants.fsyncAt = some a) ∧
    (∃ (s : State), s.grants.fsyncLost = true) ∧
    (∃ (s : State) (m : Master), s.Takes m ∧ s.boot.recovery = false) :=
  ⟨⟨withO base [(.terminalChannel, 5, 3), (.channelGeneration, 3, 3), (.allocTerminal, 7, 5), (.passagePortState, 1, 2), (.passageSnuffPhase, 1, 0)], .passageCooperativeOrder 1 7 (upDelay + 10 * Tm.frame) 100, 7, upDelay + 10 * Tm.frame, 100, 3, upDelay + 10 * Tm.frame, 10, 0, 27, [], Or.inl ⟨1, rfl, by decide +kernel⟩, by decide +kernel⟩,
   ⟨withO up5 [(.coopEtherType, 0, 0x88B5)], 5, true, some 9, some 3, some 4, by decide +kernel⟩,
   ⟨withO base [(.terminalChannel, 5, 3), (.channelGeneration, 3, 3), (.allocTerminal, 7, 5), (.passagePortState, 1, 2), (.passageSnuffPhase, 1, 0)], 1, 20000, by decide +kernel⟩,
   ⟨base, Tm.frame, by decide +kernel⟩,
   ⟨withG base fun g => { g with fsyncAt := some 0 }, 500 * Tm.us - 1, 0, by decide +kernel⟩,
   ⟨at_ Tm.s (withG base fun g => { g with fsyncAt := some 0 }), 0, by decide +kernel⟩,
   ⟨withG base fun g => { g with fsyncLost := true }, by decide +kernel⟩,
   ⟨base, 0, by unfold State.Takes; decide +kernel⟩⟩

theorem witness_StepsAndTimeMessages :
    (∃ (s : State), (s.wickRuns = false ∨ s.clk.step = none)) ∧
    (∃ (s : State) (g : StepTarget) (a : Time) (theta : Int), s.wickRuns = true ∧ s.clk.step = some (g, a) ∧ theta = (match g with
      | .domain d => (s.runTo s.nextBoundary).domOffset (if d = 0 then 0 else 1)
      | .time b => (b : Int) - (s.nextBoundary : Int)
      | .offset x => x) ∧ ((∀ ch : Chan, s.laneState ch = 0)) ∧ 0 ≤ (s.nextBoundary : Int) + theta) ∧
    (∃ (s : State) (g : StepTarget) (a : Time) (j r : Int) (ch : Chan), s.wickRuns = true ∧ s.clk.step = some (g, a) ∧ j * (Tm.frame : Nat) + r = (match g with
      | .domain d => (s.runTo s.nextBoundary).domOffset (if d = 0 then 0 else 1)
      | .time b => (b : Int) - (s.nextBoundary : Int)
      | .offset x => x) ∧ ((2 * r.natAbs < Tm.frame ∨ (2 * r.natAbs = Tm.frame ∧ 0 ≤ (j * (Tm.frame : Nat) + r) * r))) ∧ s.laneState ch ≠ 0 ∧ 0 ≤ (s.nextBoundary : Int) + j * (Tm.frame : Nat)) ∧
    (∃ (s : State) (p : Uplink) (type : Fin 16) (h : FrameHdr) (pool : Nat), s.avail = true ∧ s.on .ptpPortEnable p = true ∧ s.uplinkUp p = true ∧ s.ptpSends p type = true ∧ h.len ≤ 256 ∧ s.tailDrops (txKey (8 * p + 7)) 0 h.len = false ∧ s.grant (s.requester (txKey (8 * p + 7))) 0 = .inr pool) ∧
    (∃ (s : State) (p : Uplink) (type : Fin 16), s.avail = true ∧ s.on .ptpPortEnable p = true ∧ s.uplinkUp p = true ∧ s.ptpSends p type = true) ∧
    (∃ (s : State) (p : Uplink) (type : Fin 16), (s.avail = false ∨
    s.on .ptpPortEnable p = false ∨ s.uplinkUp p = false ∨
    (type.val = 0 ∨ type.val = 9) ∧ (128 ≤ (s.ptpRecent p type).length ∨ s.n .ptpPortState p ≠ 6) ∨
    type.val = 11 ∧ (8 ≤ (s.ptpRecent p type).length ∨ s.n .ptpPortState p ≠ 6) ∨
    type.val = 1 ∧ s.n .ptpPortState p ≠ 9 ∨ type.val = 8 ∧ s.n .ptpPortState p ≠ 6 ∨
    type.val ∉ [0, 1, 8, 9, 11, 12])) :=
  ⟨⟨base, by decide +kernel⟩,
   ⟨{ base with clk := { ClockSt.start with step := some (.time (7 * Tm.s + 5), 0) } }, .time (7 * Tm.s + 5), 0, ((7 * Tm.s + 5 : Nat) : Int) - (base.nextBoundary : Int), by decide +kernel⟩,
   ⟨{ withO base [(.channelLaneState, 3, 5)] with clk := { ClockSt.start with step := some (.offset ((2 * Tm.frame + 5 : Nat) : Int), 0) } }, .offset ((2 * Tm.frame + 5 : Nat) : Int), 0, 2, 5, 3, by decide +kernel⟩,
   ⟨withO up5 [(.ptpPortEnable, 5, 1), (.requesterMinCells, 0, 4), (.ptpPortState, 5, 6)], 5, 0, hdr 256, 0, by decide +kernel⟩,
   ⟨withO up5 [(.ptpPortEnable, 5, 1), (.ptpPortState, 5, 9)], 5, 1, by decide +kernel⟩,
   ⟨withO up5 [(.ptpPortEnable, 5, 1), (.ptpPortState, 5, 6)], 5, 1, by decide +kernel⟩⟩

theorem witness_UplinkFramesReceived :
    (∃ (s : State) (p : Uplink), s.receives p = false) ∧
    (∃ (s : State) (p : Uplink) (f : RxFrame) (o : Obj), s.receives p = true ∧ (((f.codeError = true ∨ 0 < f.uncorrectable) ∧ o = .uplinkDropCode ∨
     (f.codeError = false ∧ f.uncorrectable = 0) ∧ (f.hdr.len < 64 ∧ o = .uplinkDropRunt ∨
      64 ≤ f.hdr.len ∧ s.n .uplinkMaxFrame p < f.hdr.len ∧ o = .uplinkDropOversize ∨
      64 ≤ f.hdr.len ∧ f.hdr.len ≤ s.n .uplinkMaxFrame p ∧ (f.fcsOk = false ∧ f.pending = false ∧ o = .uplinkDropFcs ∨
       (f.fcsOk = true ∨ f.pending = true) ∧ f.hdr.etype = 0x8808 ∧ f.control ≠ some 1 ∧ f.control ≠ some 0x101 ∧
         o = .uplinkDropMacControl))))) ∧
    (∃ (s : State) (p : Uplink) (f : RxFrame), s.receives p = true ∧ f.codeError = false ∧ f.uncorrectable = 0 ∧ 64 ≤ f.hdr.len ∧ f.hdr.len ≤ s.n .uplinkMaxFrame p ∧ (f.fcsOk = true ∨ f.pending = true) ∧ ((f.hdr.etype = 0x8808 → f.control = some 1 ∨ f.control = some 0x101))) ∧
    (∃ (s : State) (p : Uplink) (f : RxFrame) (o : Obj), s.receives p = true ∧ f.codeError = false ∧ f.uncorrectable = 0 ∧ 64 ≤ f.hdr.len ∧ f.hdr.len ≤ s.n .uplinkMaxFrame p ∧ (f.fcsOk = true ∨ f.pending = true) ∧ s.on .uplinkMacsecEnable p = true ∧ f.hdr.etype ≠ 0x8808 ∧ f.hdr.etype ≠ 0x888E ∧ (f.hdr.ptp = false ∨ s.on .uplinkMacsecPtpClear p = false) ∧ s.n .uplinkMacsecValidate p ≠ 0 ∧ ((f.sec = none ∧ s.n .uplinkMacsecValidate p = 2 ∧ o = .uplinkMacsecUntagged) ∨
    (∃ g ∈ f.sec, s.rxSa p g.an g.sci = none ∧ o = .macsecRxNoSa) ∨
    (∃ g ∈ f.sec, ∃ i ∈ s.rxSa p g.an g.sci, s.pnCheck i (s.recoverPn i g.pn) = .late ∧ o = .macsecRxLate) ∨
    (∃ g ∈ f.sec, ∃ i ∈ s.rxSa p g.an g.sci, s.pnCheck i (s.recoverPn i g.pn) = .replay ∧ o = .macsecRxBadTag))) :=
  ⟨⟨withO up5 [(.uplinkLinkState, 5, 3)], 5, by decide +kernel⟩,
   ⟨up5, 5, rx (hdr 63), .uplinkDropRunt, by decide +kernel⟩,
   ⟨up5, 5, rx (hdr 12288), by decide +kernel⟩,
   ⟨withO up5 [(.uplinkMacsecEnable, 5, 1), (.uplinkMacsecValidate, 5, 2)], 5, rx (hdr 64), .uplinkMacsecUntagged, by decide +kernel⟩⟩

theorem witness_FlowControlBothWays :
    (∃ (s : State) (p : Uplink), (s.n .uplinkLinkState p ≠ 2 ∨ s.n .uplinkSnuffPhase p = 3 ∨ s.boot.glim = true)) ∧
    (∃ (s : State) (p : Uplink), s.n .uplinkLinkState p = 2 ∧ s.n .uplinkSnuffPhase p ≠ 3 ∧ s.boot.glim = false) ∧
    (∃ (s : State) (p : Uplink), s.n .uplinkLinkState p = 2 ∧ s.n .uplinkSnuffPhase p ≠ 3 ∧ s.boot.glim = false) ∧
    (∃ (s : State) (p : Uplink), s.n .uplinkLinkState p = 2 ∧ (s.upl p).announced ≠ 0 ∧ s.stopWanted p = (s.upl p).announced ∧ (s.upl p).annAt + (s.upl p).annFor / 2 ≤ s.now) ∧
    (∃ (s : State) (p : Uplink), (s.n .uplinkLinkState p ≠ 2 ∨ (s.upl p).announced = 0 ∨
    s.stopWanted p ≠ (s.upl p).announced ∨ s.now < (s.upl p).annAt + (s.upl p).annFor / 2)) ∧
    (∃ (s : State) (k : Fin 16), (2 ≤ s.n .poolState k ↔ k.val ∉ s.tm.signalled)) ∧
    (∃ (s : State) (k : Fin 16), (2 ≤ s.n .poolState k ↔ k.val ∈ s.tm.signalled)) :=
  ⟨⟨base, 5, by decide +kernel⟩,
   ⟨withO up5 [(.uplinkFlowControl, 5, 1)], 5, by decide +kernel⟩,
   ⟨withO up5 [(.uplinkFlowControl, 5, 2)], 5, by decide +kernel⟩,
   ⟨{ (withR (withO up5 [(.uplinkFlowControl, 5, 1), (.sumpSourcePool, 72, 0)]) [(Reg.sumpCtrl, 4)]).setUpl 5 { UplinkSt.idle with announced := 255 } with tm := { TrafficSt.empty with signalled := [0] } }, 5, by decide +kernel⟩,
   ⟨up5, 5, by decide +kernel⟩,
   ⟨withO up5 [(.poolState, 15, 2)], 15, by decide +kernel⟩,
   ⟨withO up5 [(.poolState, 15, 2)], 14, by decide +kernel⟩⟩

theorem witness_UplinkLinksAndSending :
    (∃ (s : State) (m : Master) (p : Uplink) (v : Fin 2), s.Admits m .uplinkLoop p (beBytes 1 v)) ∧
    (∃ (s : State) (p : Port) (c : Fin 8) (d : QDesc) (rest : List QDesc), p.val < 16 ∧ s.portSends p = true ∧ s.skips 3 p = false ∧ s.queue (txKey (8 * p + c)) = d :: rest ∧ ((∀ e : Fin 8, c < e → s.queue (txKey (8 * p + e)) = [])) ∧ s.verdict d.cell = 1 ∧ s.controlled p d = false ∧ d.len ≤ s.n .uplinkMaxFrame p ∧ s.stopped p c = false ∧ s.peakOk .tx (8 * p + c) = true ∧ s.peakOk .port p = true) ∧
    (∃ (s : State) (p : Port) (c : Fin 8) (i : Nat) (d : QDesc) (rest : List QDesc), p.val < 16 ∧ s.portSends p = true ∧ s.skips 3 p = false ∧ s.queue (txKey (8 * p + c)) = d :: rest ∧ ((∀ e : Fin 8, c < e → s.queue (txKey (8 * p + e)) = [])) ∧ s.verdict d.cell = 1 ∧ s.controlled p d = true ∧ s.txSa p = some i ∧ d.ptp = false ∧ d.len ≤ s.n .uplinkMaxFrame p ∧ s.stopped p c = false ∧ s.peakOk .tx (8 * p + c) = true ∧ s.peakOk .port p = true) ∧
    (∃ (s : State) (q : Psg) (c : Fin 8) (d : QDesc) (rest : List QDesc), s.portSends (16 + q) = true ∧ s.skips 3 (16 + q) = false ∧ s.queue (transitKey q c) = d :: rest ∧ ((∀ e : Fin 8, c < e → s.queue (transitKey q e) = [] ∧ s.queue (txKey (8 * (16 + q) + e)) = [])) ∧ s.verdict d.cell = 1 ∧ s.on .macsecPortEnable (16 + q) = false ∧ s.creditCells q d.len ≤ s.creditLeft q c) ∧
    (∃ (s : State) (p : Port) (c : Fin 8) (key : Nat) (d : QDesc) (rest : List QDesc) (a : Time), key = (if 16 ≤ p.val ∧ s.queue (transitKey (p.val - 16) c) ≠ [] then transitKey (p.val - 16) c
      else txKey (8 * p + c)) ∧ s.queue key = d :: rest ∧ d.held = some a ∧ a + 100 * Tm.ms ≤ s.now ∧ s.controlled p d = true ∧ s.txSa p = none) ∧
    (∃ (s : State) (p : Port) (c : Fin 8), (s.txSa p ≠ none ∨ (∀ k ∈ State.classQueues p c, ∀ d ∈ (s.queue k).head?,
      s.controlled p d = false ∨ ∀ a ∈ d.held, s.now < a + 100 * Tm.ms))) :=
  ⟨⟨up5, 0, 5, 1, by unfold State.Admits State.Takes; decide +kernel⟩,
   ⟨(up5.setQueue (txKey 47) [desc]).setCell 7 (some cell), 5, 7, desc, [], by decide +kernel⟩,
   ⟨((withO up5 [(.uplinkMacsecEnable, 5, 1), (.saEnable, 0, 1), (.saState, 0, 2), (.saPort, 0, 5), (.saDirection, 0, 0), (.saAn, 0, 0), (.macsecTxAn, 5, 0), (.entropyState, 0, 1), (.saSnuffPhase, 0, 0)]).setQueue (txKey 47) [desc]).setCell 7 (some cell), 5, 7, 0, desc, [], by decide +kernel⟩,
   ⟨({ psg1 with psgs := [(1, { PsgSt.idle with granted := .replicate 8 4 })] }.setQueue (transitKey 1 7) [desc]).setCell 7 (some cell), 1, 7, desc, [], by decide +kernel⟩,
   ⟨at_ Tm.s ((withO up5 [(.uplinkMacsecEnable, 5, 1)]).setQueue (txKey 40) [{ desc with held := some 0 }]), 5, 0, txKey 40, { desc with held := some 0 }, [], 0, by decide +kernel⟩,
   ⟨up5, 5, 0, by decide +kernel⟩⟩

theorem witness_EntriesLearnedAndKept :
    (∃ (s : State) (k : Fin 4) (r : LearnReq) (rest : List LearnReq) (p : Nat), s.gal.queues[k] = r :: rest ∧ s.gal.flushing = false ∧ s.bit Reg.galCtrl 0 = true ∧ s.bit Reg.galCtrl 1 = true ∧ s.boot.glim = false ∧ s.galFind r.domain r.mac = none ∧ s.atLimit r.kind r.dest = false ∧ ((s.freeWay 0 (galBucket 0 r.domain r.mac) = some p ∨
      s.freeWay 0 (galBucket 0 r.domain r.mac) = none ∧ (s.freeWay 1 (galBucket 1 r.domain r.mac) = some p ∨
        s.freeWay 1 (galBucket 1 r.domain r.mac) = none ∧ s.findPath 0 (galBucket 0 r.domain r.mac) [] 32 = none ∧
        524288 ≤ p ∧ p < 524352 ∧ s.galAt p = none ∧ ∀ q : Fin 64, 524288 + q.val < p → s.galAt (524288 + q) ≠ none)))) ∧
    (∃ (s : State) (k : Fin 4) (r : LearnReq) (rest : List LearnReq) (path : List Nat), s.gal.queues[k] = r :: rest ∧ s.gal.flushing = false ∧ s.bit Reg.galCtrl 0 = true ∧ s.bit Reg.galCtrl 1 = true ∧ s.boot.glim = false ∧ s.galFind r.domain r.mac = none ∧ s.atLimit r.kind r.dest = false ∧ s.freeWay 0 (galBucket 0 r.domain r.mac) = none ∧ s.freeWay 1 (galBucket 1 r.domain r.mac) = none ∧ s.findPath 0 (galBucket 0 r.domain r.mac) [] 32 = some path) ∧
    (∃ (s : State) (k : Fin 4) (r : LearnReq) (rest : List LearnReq), s.gal.queues[k] = r :: rest ∧ s.gal.flushing = false ∧ s.bit Reg.galCtrl 0 = true ∧ s.bit Reg.galCtrl 1 = true ∧ s.boot.glim = false ∧ s.galFind r.domain r.mac = none ∧ s.atLimit r.kind r.dest = false ∧ s.freeWay 0 (galBucket 0 r.domain r.mac) = none ∧ s.freeWay 1 (galBucket 1 r.domain r.mac) = none ∧ s.findPath 0 (galBucket 0 r.domain r.mac) [] 32 = none ∧ ((∀ p : Fin 64, s.galAt (524288 + p) ≠ none))) ∧
    (∃ (s : State) (k : Fin 4) (r : LearnReq) (rest : List LearnReq), s.gal.queues[k] = r :: rest ∧ s.gal.flushing = false ∧ s.bit Reg.galCtrl 0 = true ∧ s.bit Reg.galCtrl 1 = true ∧ s.boot.glim = false ∧ s.galFind r.domain r.mac = none ∧ s.atLimit r.kind r.dest = true) ∧
    (∃ (s : State) (k : Fin 4) (r : LearnReq) (rest : List LearnReq) (p : Nat) (e : GalEntry), s.gal.queues[k] = r :: rest ∧ s.gal.flushing = false ∧ s.bit Reg.galCtrl 0 = true ∧ s.bit Reg.galCtrl 1 = true ∧ s.boot.glim = false ∧ s.galFind r.domain r.mac = some (p, e) ∧ e.kind = r.kind ∧ e.dest = r.dest) ∧
    (∃ (s : State) (k : Fin 4) (r : LearnReq) (rest : List LearnReq) (p : Nat) (e : GalEntry), s.gal.queues[k] = r :: rest ∧ s.gal.flushing = false ∧ s.bit Reg.galCtrl 0 = true ∧ s.bit Reg.galCtrl 1 = true ∧ s.boot.glim = false ∧ s.galFind r.domain r.mac = some (p, e) ∧ ¬ (e.kind = r.kind ∧ e.dest = r.dest)) ∧
    (∃ (s : State) (k : Fin 4), (s.gal.queues[k] = [] ∨ s.gal.flushing = true ∨ s.bit Reg.galCtrl 0 = false ∨
    s.bit Reg.galCtrl 1 = false ∨ s.boot.glim = true)) ∧
    (∃ (s : State) (p : Nat) (e : GalEntry), s.galAt p = some e ∧ e.static = false ∧ s.n .galleryAgeTime 0 ≠ 0 ∧ s.bit Reg.galCtrl 0 = true ∧ s.bit Reg.galCtrl 2 = true ∧ s.boot.glim = false ∧ s.boot.glimEntry = none) ∧
    (∃ (s : State) (p : Nat), ((∀ e ∈ s.galAt p, e.static = true) ∨ s.n .galleryAgeTime 0 = 0 ∨
    s.bit Reg.galCtrl 0 = false ∨ s.bit Reg.galCtrl 2 = false ∨ s.boot.glim = true ∨ s.boot.glimEntry.isSome = true)) ∧
    (∃ (s : State) (pos : Fin 524288) (p : Nat) (e : GalEntry), s.galAt pos = none ∧ s.bit Reg.galCtrl 0 = true ∧ s.boot.glim = false ∧ s.gal.stash.find? (fun p => match s.galAt p with
      | some e => galBucket (pos.val / 262144) e.domain e.mac == pos.val % 262144 / 4
      | none => false) = some p ∧ s.galAt p = some e ∧ p ≠ pos.val) ∧
    (∃ (s : State) (pos : Fin 524288), (s.galAt pos ≠ none ∨ s.bit Reg.galCtrl 0 = false ∨ s.boot.glim = true ∨
    s.gal.stash.find? (fun p => match s.galAt p with
      | some e => galBucket (pos.val / 262144) e.domain e.mac == pos.val % 262144 / 4
      | none => false) = none)) ∧
    (∃ (s : State) (d : BridgeDomain) (mac p : Nat) (e : GalEntry), s.boot.lanternUp = true ∧ s.ucie.headless = false ∧ (d.val, mac) ∈ s.gal.lost ∧ (s.gal.shadow.find? fun e => e.domain == d.val && e.mac == mac) = some e ∧ ((∃ x ∈ s.galFind d mac, x.1 = p) ∨ (s.galFind d mac = none ∧ s.freeWay 0 (galBucket 0 d mac) = some p))) ∧
    (∃ (s : State) (d : BridgeDomain) (mac : Nat), (s.boot.lanternUp = false ∨ s.ucie.headless = true ∨
    (d.val, mac) ∉ s.gal.lost)) :=
  ⟨⟨asks gal, 1, request, [], place, by decide +kernel⟩,
   ⟨asks crowded, 1, request, [], pathFound, by decide +kernel⟩,
   ⟨asks noPlace, 1, request, [], by decide +kernel⟩,
   ⟨asks (withO gal [(.terminalLearnLimit, 5, 0)]), 1, request, [], by decide +kernel⟩,
   ⟨asks (gal.galSet place (some entry)), 1, request, [], place, entry, by decide +kernel⟩,
   ⟨asks (gal.galSet place (some { entry with dest := 6 })), 1, request, [], place, { entry with dest := 6 }, by decide +kernel⟩,
   ⟨gal, 3, by decide +kernel⟩,
   ⟨gal.galSet place (some { entry with age := 3 }), place, { entry with age := 3 }, by decide +kernel⟩,
   ⟨gal.galSet place (some { entry with static := true }), place, by decide +kernel⟩,
   ⟨gal.galSet 524288 (some entry), Fin.ofNat 524288 place, 524288, entry, by decide +kernel⟩,
   ⟨gal, 7, by decide +kernel⟩,
   ⟨gal.setGal fun g => { g with shadow := [{ entry with static := true }], lost := [(1, 2)] }, 1, 2, place, { entry with static := true }, by decide +kernel⟩,
   ⟨gal, 1, 2, by decide +kernel⟩⟩

theorem witness_GalleryCommandsServed :
    (∃ (s : State) (m : Master) (c : GalCmd), s.Admits m .galleryCommand m (State.galWord 1 c) ∧ State.galParse (State.galWord 1 c) = c ∧ State.galFormed 1 (State.galWord 1 c) c = true) ∧
    (∃ (s : State) (m : Master) (c : GalCmd) (p : Nat), s.Admits m .galleryCommand m (State.galWord 2 c) ∧ State.galParse (State.galWord 2 c) = c ∧ State.galFormed 2 (State.galWord 2 c) c = true ∧ s.galFind c.domain c.mac = none ∧ (c.flags % 2 = 0 ∨ s.gal.shadow.length < 65536) ∧ (s.freeWay 0 (galBucket 0 c.domain c.mac) = some p ∨ (s.freeWay 0 (galBucket 0 c.domain c.mac) = none ∧
      s.freeWay 1 (galBucket 1 c.domain c.mac) = some p))) ∧
    (∃ (s : State) (m : Master) (c : GalCmd), s.Admits m .galleryCommand m (State.galWord 2 c) ∧ State.galParse (State.galWord 2 c) = c ∧ State.galFormed 2 (State.galWord 2 c) c = true ∧ s.galFind c.domain c.mac = none ∧ ((c.flags % 2 = 1 ∧ 65536 ≤ s.gal.shadow.length) ∨
      (s.freeWay 0 (galBucket 0 c.domain c.mac) = none ∧ s.freeWay 1 (galBucket 1 c.domain c.mac) = none ∧
        s.findPath 0 (galBucket 0 c.domain c.mac) [] 32 = none ∧ ∀ p : Fin 64, s.galAt (524288 + p) ≠ none))) ∧
    (∃ (s : State) (m : Master) (c : GalCmd) (p : Nat) (old : GalEntry), s.Admits m .galleryCommand m (State.galWord 2 c) ∧ State.galParse (State.galWord 2 c) = c ∧ State.galFormed 2 (State.galWord 2 c) c = true ∧ s.galFind c.domain c.mac = some (p, old)) ∧
    (∃ (s : State) (m : Master) (c : GalCmd), s.Admits m .galleryCommand m (State.galWord 3 c) ∧ State.galParse (State.galWord 3 c) = c ∧ State.galFormed 3 (State.galWord 3 c) c = true ∧ s.galFind c.domain c.mac = none) ∧
    (∃ (s : State) (m : Master) (c : GalCmd) (p : Nat) (e : GalEntry), s.Admits m .galleryCommand m (State.galWord 3 c) ∧ State.galParse (State.galWord 3 c) = c ∧ State.galFormed 3 (State.galWord 3 c) c = true ∧ s.galFind c.domain c.mac = some (p, e)) ∧
    (∃ (s : State) (m : Master) (c : GalCmd), s.Admits m .galleryCommand m (State.galWord 4 c) ∧ State.galParse (State.galWord 4 c) = c ∧ State.galFormed 4 (State.galWord 4 c) c = true) ∧
    (∃ (s : State) (m : Master) (c : GalCmd) (w : Walk), s.Admits m .galleryCommand m (State.galWord 5 c) ∧ State.galParse (State.galWord 5 c) = c ∧ State.galFormed 5 (State.galWord 5 c) c = true ∧ (s.gal.walks.find? fun w => w.cursor == c.cursor) = some w) ∧
    (∃ (s : State) (m : Master) (c : GalCmd), s.Admits m .galleryCommand m (State.galWord 5 c) ∧ State.galParse (State.galWord 5 c) = c ∧ State.galFormed 5 (State.galWord 5 c) c = true ∧ ((∀ w ∈ s.gal.walks, w.cursor ≠ c.cursor))) ∧
    (∃ (s : State) (m : Master) (c : GalCmd), s.Admits m .galleryCommand m (State.galWord 6 c) ∧ State.galParse (State.galWord 6 c) = c ∧ State.galFormed 6 (State.galWord 6 c) c = true) ∧
    (∃ (s : State) (m : Master) (c : GalCmd), s.Admits m .galleryCommand m (State.galWord 7 c) ∧ State.galParse (State.galWord 7 c) = c ∧ State.galFormed 7 (State.galWord 7 c) c = true) ∧
    (∃ (s : State) (m : Master) (c : GalCmd) (op : Nat) (i : Instr), (op, i) ∈ [(1, .gallerySearch m c), (2, .galleryInsert m c), (3, .galleryDelete m c), (4, .galleryWalkOpen m c),
      (5, .galleryNext m c), (6, .galleryWalkClose m c), (7, .galleryFlush m c)] ∧ s.Admits m .galleryCommand m (State.galWord op c) ∧ State.galParse (State.galWord op c) = c ∧ State.galFormed op (State.galWord op c) c = false) :=
  ⟨⟨gal.galSet place (some entry), 1, gcmd 0 0 0 0, by unfold State.Admits State.Takes; decide +kernel⟩,
   ⟨gal, 1, gcmd 3 0 5 9, place, by unfold State.Admits State.Takes; decide +kernel⟩,
   ⟨noPlace, 1, gcmd 0 0 5 9, by unfold State.Admits State.Takes; decide +kernel⟩,
   ⟨gal.galSet place (some { entry with static := true }), 1, gcmd 5 0 5 9, place, { entry with static := true }, by unfold State.Admits State.Takes; decide +kernel⟩,
   ⟨gal, 1, gcmd 0 0 0 0, by unfold State.Admits State.Takes; decide +kernel⟩,
   ⟨gal.galSet place (some { entry with static := true }), 1, gcmd 0 0 0 0, place, { entry with static := true }, by unfold State.Admits State.Takes; decide +kernel⟩,
   ⟨gal, 1, { gcmd 0 0xFF 0 0 with domain := 0xFFFF }, by unfold State.Admits State.Takes; decide +kernel⟩,
   ⟨(gal.galSet place (some entry)).setGal fun g => { g with walks := [walk] }, 1, ⟨7, 0, 0, 0, 0, 0, 0, 3, 16⟩, walk, by unfold State.Admits State.Takes; decide +kernel⟩,
   ⟨gal.setGal fun g => { g with walks := [walk] }, 1, ⟨7, 0, 0, 0, 0, 0, 0, 4, 16⟩, by unfold State.Admits State.Takes; decide +kernel⟩,
   ⟨gal.setGal fun g => { g with walks := [walk] }, 1, ⟨7, 0, 0, 0, 0, 0, 0, 3, 0⟩, by unfold State.Admits State.Takes; decide +kernel⟩,
   ⟨gal, 1, { gcmd 0 0xFF 0 0 with domain := 0xFFFF }, by unfold State.Admits State.Takes; decide +kernel⟩,
   ⟨gal, 1, ⟨7, 0, 0, 128, 0, 0, 0, 3, 16⟩, 6, .galleryWalkClose 1 ⟨7, 0, 0, 128, 0, 0, 0, 3, 16⟩, by unfold State.Admits State.Takes; decide +kernel⟩⟩

theorem witness_FlushesAndWalksEnd :
    (∃ (s : State) (f : Flush) (rest : List Flush), s.gal.flushes = f :: rest ∧ s.gal.flushing = false) ∧
    (∃ (s : State) (f : Flush) (rest : List Flush), s.gal.flushes = f :: rest ∧ s.gal.flushing = true) :=
  ⟨⟨(gal.galSet place (some entry)).setGal fun g => { g with flushes := [⟨0xFFFF, 0xFF, 0, none, false, some 7⟩] }, ⟨0xFFFF, 0xFF, 0, none, false, some 7⟩, [], by decide +kernel⟩,
   ⟨gal.setGal fun g => { g with flushes := [⟨0xFFFF, 0xFF, 0, none, false, some 7⟩], flushing := true }, ⟨0xFFFF, 0xFF, 0, none, false, some 7⟩, [], by decide +kernel⟩⟩

theorem witness_FramesAskedForAndSent :
    (∃ (s : State) (ch : Chan), ((s.laneState ch ≠ 2 ∧ s.laneState ch ≠ 3) ∨
    s.bit (Reg.tcDsCtrl ch) 0 = false ∨ s.boot.glim = true ∨ s.skips 2 ch = true)) ∧
    (∃ (s : State) (ch : Chan) (key : Nat) (r : RestSt), s.framing ch = true ∧ s.boot.glim = false ∧ s.skips 2 ch = false ∧ s.restOf ch = some r ∧ s.restKey ch r = some key) ∧
    (∃ (s : State) (ch : Chan) (r : RestSt), s.framing ch = true ∧ s.boot.glim = false ∧ s.skips 2 ch = false ∧ s.restOf ch = some r ∧ s.gen ch ≠ 1 ∧ r.key ≠ 0 ∧ (if r.key < 3 then s.slotState false (2 * r.term + (r.key - 1)) else s.slotState true (2 * ch + (r.key - 3))) = 4) ∧
    (∃ (s v : State) (ch : Chan) (key : Nat) (x : BondOut) (w : List BondOut), s.framing ch = true ∧ s.boot.glim = false ∧ s.skips 2 ch = false ∧ s.restOf ch = none ∧ v = s.waitHold ch ∧ v.bondWait ch = x :: w ∧ v.frameKey ch x.flow x.bcast = some key) ∧
    (∃ (s v u : State) (ch : Chan) (x cg : Nat) (a b : Bool) (m : OmciMsg) (q : List OmciMsg), s.framing ch = true ∧ s.boot.glim = false ∧ s.skips 2 ch = false ∧ s.restOf ch = none ∧ ((∀ y ∈ s.bondWait ch, s.frameKey ch y.flow y.bcast = none)) ∧ v = ((s.waitHold ch).headWork ch).settleIdle ∧ v.select ch (v.pairWaiting ch) = some (.omci x cg a b, u) ∧ v.omci x = m :: q) ∧
    (∃ (s v u : State) (ch : Chan) (q x cg port key : Nat) (a b c e : Bool) (d : QDesc) (rest : List QDesc), s.framing ch = true ∧ s.boot.glim = false ∧ s.skips 2 ch = false ∧ s.restOf ch = none ∧ ((∀ y ∈ s.bondWait ch, s.frameKey ch y.flow y.bcast = none)) ∧ v = ((s.waitHold ch).headWork ch).settleIdle ∧ v.select ch (v.pairWaiting ch) = some (.frame q x cg a b c e, u) ∧ v.queue q = d :: rest ∧ d.flow ≠ noFlow ∧ s.flowBonded d.flow = false ∧ s.flowPort d.flow ch = some port ∧ s.frameKey ch d.flow d.bcast = some key) ∧
    (∃ (s v u : State) (ch : Chan) (room q x cg : Nat) (a b c e : Bool) (d : QDesc) (rest : List QDesc), s.framing ch = true ∧ s.boot.glim = false ∧ s.skips 2 ch = false ∧ s.restOf ch = none ∧ ((∀ y ∈ s.bondWait ch, s.frameKey ch y.flow y.bcast = none)) ∧ v = ((s.waitHold ch).headWork ch).settleIdle ∧ v.select ch (v.pairWaiting ch) = some (.frame q x cg a b c e, u) ∧ v.queue q = d :: rest ∧ State.gemRoom (s.gen ch) ≤ room) ∧
    (∃ (s v : State) (ch : Chan), s.framing ch = true ∧ s.boot.glim = false ∧ s.skips 2 ch = false ∧ s.restOf ch = none ∧ ((∀ y ∈ s.bondWait ch, s.frameKey ch y.flow y.bcast = none)) ∧ v = ((s.waitHold ch).headWork ch).settleIdle ∧ v.select ch (v.pairWaiting ch) = none) ∧
    (∃ (s : State) (q : Queue) (d : QDesc) (rest : List QDesc) (a : Time), s.queue q = d :: rest ∧ d.held = some a ∧ a + 100 * Tm.ms ≤ s.now) ∧
    (∃ (s : State) (q : Queue), ((∀ d ∈ (s.queue q).head?, ∀ a ∈ d.held, s.now < a + 100 * Tm.ms))) :=
  ⟨⟨base, 3, by decide +kernel⟩,
   ⟨withT sends5 fun m => { m with rest := [(3, some ⟨50, 4, 5, 77, 0, none, false, false⟩)] }, 3, 0, ⟨50, 4, 5, 77, 0, none, false, false⟩, by decide +kernel⟩,
   ⟨withT (withO sends5 [(.keySlotState, 10, 4)]) fun m => { m with rest := [(3, some ⟨50, 4, 5, 77, 1, none, false, false⟩)] }, 3, ⟨50, 4, 5, 77, 1, none, false, false⟩, by decide +kernel⟩,
   ⟨sends5.setBondWait 3 [⟨4, some 1, true, true, 50, false, none⟩], (sends5.setBondWait 3 [⟨4, some 1, true, true, 50, false, none⟩]).waitHold 3, 3, 0, ⟨4, some 1, true, true, 50, false, none⟩, [], by decide +kernel⟩,
   ⟨(sends5.setOmci 5 [omciMsg]), ahead (sends5.setOmci 5 [omciMsg]), pickedState (sends5.setOmci 5 [omciMsg]), 3, 5, 3, false, false, omciMsg, [], by decide +kernel⟩,
   ⟨queued, ahead queued, pickedState queued, 3, 9, 5, 3, 1500, 0, false, false, false, false, { desc with flow := 4 }, [], by decide +kernel⟩,
   ⟨queued, ahead queued, pickedState queued, 3, 1000, 9, 5, 3, false, false, false, false, { desc with flow := 4 }, [], by decide +kernel⟩,
   ⟨sends5, ahead sends5, 3, by decide +kernel⟩,
   ⟨at_ Tm.s (queued.setQueue 9 [{ desc with held := some 0 }, desc]), 9, { desc with held := some 0 }, [desc], 0, by decide +kernel⟩,
   ⟨queued, 9, by decide +kernel⟩⟩

theorem witness_SamplesVerdictsAndRebuild :
    (∃ (s : State), s.bit Reg.tmCtrl 1 = true ∧ s.boot.glim = false ∧ s.boot.dieReset = false ∧ s.wick % (10 * Tm.ms) = 0) ∧
    (∃ (s : State), (s.bit Reg.tmCtrl 1 = false ∨ s.boot.glim = true ∨ s.boot.dieReset = true ∨
    s.wick % (10 * Tm.ms) ≠ 0)) ∧
    (∃ (s : State) (cell : Nat) (g : CellTag), s.cellTag cell = some g ∧ g.first = true ∧ g.verdict = 0 ∧ ((∀ x ∈ s.tm.cutting, x.2.cell ≠ cell))) ∧
    (∃ (s : State) (p : Uplink) (cell : Nat) (g : CellTag) (d : QDesc), s.cellTag cell = some g ∧ g.first = true ∧ g.verdict = 0 ∧ s.tm.cutting = [(p.val, d)] ∧ d.cell = cell) ∧
    (∃ (s : State) (cell : Nat), ((∀ g ∈ s.cellTag cell, g.first = false ∨ g.verdict ≠ 0))) :=
  ⟨⟨withR queued [(Reg.tmCtrl, 2)], by decide +kernel⟩,
   ⟨at_ 7 base, by decide +kernel⟩,
   ⟨(base.setQueue 9 [desc]).setCell 7 (some { cell with verdict := 0 }), 7, { cell with verdict := 0 }, by decide +kernel⟩,
   ⟨withT (base.setCell 7 (some { cell with verdict := 0 })) fun m => { m with cutting := [(5, desc)] }, 5, 7, { cell with verdict := 0 }, desc, by decide +kernel⟩,
   ⟨base.setCell 7 (some cell), 7, by decide +kernel⟩⟩

theorem witness_PassageFramesReceived :
    (∃ (s : State) (q : Psg), s.psgReceives q = false) ∧
    (∃ (s : State) (q : Psg) (f : PsgFrame), s.psgReceives q = true ∧ (5 < f.type.val ∨ hckOf ((State.headerIn f).take 15) ≠ f.hck.val)) ∧
    (∃ (s : State) (q : Psg) (f : PsgFrame), s.psgReceives q = true ∧ f.type.val ≤ 5 ∧ hckOf ((State.headerIn f).take 15) = f.hck.val) ∧
    (∃ (s : State) (q : Psg) (f : PsgFrame) (w : SeqWindow), s.FrameIn q f ∧ (s.casc.windows.find? fun w => w.src == f.src.val && w.cls == f.cls.val) = some w ∧ (w.high + 65536 - f.seq.val) % 65536 < 32768 ∧ (1023 < (w.high + 65536 - f.seq.val) % 65536 ∨ f.seq.val ∈ w.marks)) ∧
    (∃ (s : State) (q : Psg) (f : PsgFrame), s.FrameIn q f ∧ ((∀ w ∈ s.casc.windows, w.src ≠ f.src.val)) ∧ 256 ≤ s.windowSources.length) ∧
    (∃ (s : State) (q : Psg) (f : PsgFrame), s.FrameIn q f ∧ s.SeqNew f ∧ ((s.on .macsecPortEnable (16 + q) = false ∧ f.pending = false ∧ f.crcOk = false) ∨
      (s.on .macsecPortEnable (16 + q) = true ∧ f.sec = none))) ∧
    (∃ (s : State) (q : Psg) (f : PsgFrame), s.FrameIn q f ∧ s.SeqNew f ∧ s.windowSources.length < 256 ∧ s.on .macsecPortEnable (16 + q) = false ∧ (f.pending = true ∨ f.crcOk = true)) ∧
    (∃ (s : State) (q : Psg) (f : PsgFrame), s.FrameIn q f ∧ s.SeqNew f ∧ s.windowSources.length < 256 ∧ s.on .macsecPortEnable (16 + q) = false ∧ (f.pending = true ∨ f.crcOk = true) ∧ f.dest.val ≠ 0xFFF) ∧
    (∃ (s : State) (q : Psg) (f : PsgFrame) (p : Psg) (pool : Nat), s.FrameIn q f ∧ s.SeqNew f ∧ s.windowSources.length < 256 ∧ s.on .macsecPortEnable (16 + q) = false ∧ (f.pending = true ∨ f.crcOk = true) ∧ f.dest.val ≠ 0xFFF ∧ f.dest.val ≠ s.n .passageDeviceId 0 ∧ f.hops.val < s.n .passageHopLimit 0 ∧ f.dest ≠ f.src ∧ s.n .passageRoute f.dest = 2 ^ p.val ∧ s.psgUp p = true ∧ p ≠ q ∧ s.n .passageRingPorts 0 = 0 ∧ f.len ≤ 256 ∧ s.grant (s.n .passageTransitRequester 0) (min 2 f.colour.val) = .inr pool) ∧
    (∃ (s : State) (q : Psg) (d : BridgeDomain), s.psgReceives q = true ∧ s.on .domainEnable d = true ∧ s.on .domainLearn d = true) ∧
    (∃ (s : State) (q : Psg) (d : BridgeDomain), (s.psgReceives q = false ∨
    s.on .domainEnable d = false ∨ s.on .domainLearn d = false)) :=
  ⟨⟨base, 1, by decide +kernel⟩,
   ⟨psg1, 1, pframe 6 9 0 true, by decide +kernel⟩,
   ⟨psg1, 1, pframe 3 9 0 true, by decide +kernel⟩,
   ⟨psgSeen, 1, pframe 0 9 0 true, ⟨8, 3, 6, [5]⟩, by unfold State.FrameIn; decide +kernel⟩,
   ⟨psgFull, 1, pframe 0 9 0 true, by unfold State.FrameIn; decide +kernel⟩,
   ⟨psg1, 1, pframe 0 9 0 false, by unfold State.FrameIn State.SeqNew; decide +kernel⟩,
   ⟨psg1, 1, pframe 0 9 0 true, by unfold State.FrameIn State.SeqNew; decide +kernel⟩,
   ⟨psg1, 1, pframe 0 7 63 true, by unfold State.FrameIn State.SeqNew; decide +kernel⟩,
   ⟨withO psg1 [(.passagePortState, 2, 2), (.passageSnuffPhase, 2, 0), (.passageRoute, 7, 4), (.requesterMinCells, 0, 4)], 1, pframe 0 7 31 true, 2, 0, by unfold State.FrameIn State.SeqNew; decide +kernel⟩,
   ⟨withO psg1 [(.domainEnable, 16383, 1)], 1, 16383, by decide +kernel⟩,
   ⟨psg1, 1, 16383, by decide +kernel⟩⟩

theorem witness_PassageControlAndTime :
    (∃ (s : State) (q : Psg), s.psgReceives q = true) ∧
    (∃ (s : State) (q : Psg), s.psgReceives q = false) ∧
    (∃ (s : State) (q p : Psg) (pool : Nat), s.casc.presentAt + Tm.ms ≤ s.now ∧ s.boot.glim = false ∧ s.n .passageDeviceId 0 ≠ 0xFFFF ∧ ((∀ r : Psg, s.psgUp r = true ↔ r = p)) ∧ q = p ∧ ((∀ c : Fin 8, s.tailDrops (txKey ((16 + p) * 8 + c)) 0 8 = false ∧
      s.grant (s.requester (txKey ((16 + p) * 8 + c))) 0 = .inr pool))) ∧
    (∃ (s : State) (q : Psg) (d : Fin 4095) (a : Time), tabFind s.casc.heard (4 * d.val + q.val) = some a ∧ a + s.n .passageReachTimeout 0 * Tm.ms ≤ s.now) ∧
    (∃ (s : State) (q : Psg) (d : Fin 4095), ((∀ a ∈ tabFind s.casc.heard (4 * d.val + q.val),
    s.now < a + s.n .passageReachTimeout 0 * Tm.ms))) ∧
    (∃ (s : State) (q : Psg) (m : PsgTime), s.psgLink q = true ∧ s.avail = true ∧ m.sub = 1 ∧ s.serving q = true) ∧
    (∃ (s : State) (q : Psg) (m : PsgTime) (d : TimeDomain), s.psgLink q = true ∧ s.avail = true ∧ m.sub = 0 ∧ s.psgDomain q = some d) ∧
    (∃ (s : State) (q : Psg) (m : PsgTime) (d : TimeDomain) (t1 t2 t3 : Time), s.psgLink q = true ∧ s.avail = true ∧ m.sub = 2 ∧ s.psgDomain q = some d ∧ (s.psg q).sync = some (m.seq.val, t1, t2, t3) ∧ s.n .timeDomainSlavePort d = 16 + q) ∧
    (∃ (s : State) (q : Psg) (m : PsgTime), (s.psgLink q = false ∨ s.avail = false ∨ (m.sub = 1 ∧ s.serving q = false) ∨
    (m.sub ≠ 1 ∧ s.psgDomain q = none) ∨ (m.sub = 2 ∧ ((s.psg q).sync = none ∨
      (∃ x ∈ (s.psg q).sync, x.1 ≠ m.seq.val) ∨ ∀ d ∈ s.psgDomain q, s.n .timeDomainSlavePort d ≠ 16 + q)))) ∧
    (∃ (s : State) (q : Psg), s.serving q = true ∧ s.boot.glim = false ∧ ((∀ a ∈ tabFind s.casc.syncAt q, a + 62500 * Tm.us ≤ s.now))) ∧
    (∃ (s : State) (q : Psg), (s.serving q = false ∨ s.boot.glim = true ∨
    (∃ a ∈ tabFind s.casc.syncAt q, s.now < a + 62500 * Tm.us))) :=
  ⟨⟨psg1, 1, by decide +kernel⟩,
   ⟨base, 1, by decide +kernel⟩,
   ⟨at_ Tm.s (withO psg1 [(.requesterMinCells, 0, 4)]), 1, 1, 0, by decide +kernel⟩,
   ⟨at_ Tm.s { withO psg1 [(.passageReachable, 4094, 2)] with casc := { CascadeSt.idle with heard := [(4 * 4094 + 1, 0)] } }, 1, 4094, 0, by decide +kernel⟩,
   ⟨psg1, 1, 7, by decide +kernel⟩,
   ⟨withO psg1 [(.passageTimeServe, 1, 1)], 1, ⟨1, 6, 1, 0, 65535, 1000, 2000, 3000, 0⟩, by decide +kernel⟩,
   ⟨withO psg1 [(.timeDomainSource, 1, 2), (.timeDomainPorts, 1, 2 ^ 17)], 1, ⟨0, 6, 1, 0, 65535, 1000, 2000, 3000, 0⟩, 1, by decide +kernel⟩,
   ⟨(withO psg1 [(.timeDomainSource, 1, 2), (.timeDomainPorts, 1, 2 ^ 17), (.timeDomainSlavePort, 1, 17)]).setPsg 1 { PsgSt.idle with sync := some (65535, 10, 20, 30) }, 1, ⟨2, 6, 1, 0, 65535, 1000, 2000, 3000, 0⟩, 1, 10, 20, 30, by decide +kernel⟩,
   ⟨base, 1, ⟨1, 6, 1, 0, 65535, 1000, 2000, 3000, 0⟩, by decide +kernel⟩,
   ⟨withO psg1 [(.passageTimeServe, 1, 1)], 1, by decide +kernel⟩,
   ⟨base, 1, by decide +kernel⟩⟩

theorem witness_PassageLanesAndPorts :
    (∃ (s : State) (l : Fin 16), (s.n .passageLaneState l = 2 ∨ s.n .passageLaneState l = 3)) ∧
    (∃ (s : State) (l : Fin 16), s.n .passageLaneState l ≠ 2 ∧ s.n .passageLaneState l ≠ 3) ∧
    (∃ (s : State) (l : Fin 16) (a : Time), tabFind (s.psg (l.val / 4)).back (l.val % 4) = some a ∧ s.n .passageLaneState l = 3 ∧ a + Tm.ms ≤ s.now) ∧
    (∃ (s : State) (l : Fin 16), (s.n .passageLaneState l ≠ 3 ∨
    (∀ a ∈ tabFind (s.psg (l.val / 4)).back (l.val % 4), s.now < a + Tm.ms))) ∧
    (∃ (s : State) (q : Psg) (ms : Vector (Option (BitVec 32)) 4) (l : Fin 4) (w : BitVec 32), ms[l] = some w ∧ s.Opens q l w.toNat ∧ ((∀ k : Fin 4, ∀ v ∈ ms[k].map BitVec.toNat, s.Opens q k v →
      markerMap v = markerMap w.toNat ∧ markerRxOk v = markerRxOk w.toNat))) ∧
    (∃ (s : State) (q : Psg) (ms : Vector (Option (BitVec 32)) 4) (l k : Fin 4) (w v : BitVec 32), ms[l] = some w ∧ ms[k] = some v ∧ s.Opens q l w.toNat ∧ s.Opens q k v.toNat ∧ (markerMap v.toNat ≠ markerMap w.toNat ∨ markerRxOk v.toNat ≠ markerRxOk w.toNat)) ∧
    (∃ (s : State) (q : Psg) (ms : Vector (Option (BitVec 32)) 4), ((∀ l : Fin 4, ∀ w ∈ ms[l].map BitVec.toNat, ¬ s.Opens q l w))) ∧
    (∃ (s : State) (q : Psg) (k : Nat), s.lanesInUse q = some k ∧ s.n .passagePortState q = 1 ∧ s.n .passageSnuffPhase q = 0 ∧ s.boot.glim = false) ∧
    (∃ (s : State) (q : Psg) (k : Nat), s.lanesInUse q = some k ∧ s.boot.glim = false ∧ s.n .passagePortState q = (if k = 4 then 3 else 2)) ∧
    (∃ (s : State) (q : Psg), (s.lanesInUse q = none ∨ s.boot.glim = true ∨ s.n .passagePortState q = 0 ∨
    (∀ k ∈ s.lanesInUse q, s.n .passagePortState q = if k = 4 then 2 else 3) ∨
    (s.n .passagePortState q = 1 ∧ s.n .passageSnuffPhase q ≠ 0))) :=
  ⟨⟨withO base [(.passageLaneState, 15, 2)], 15, by decide +kernel⟩,
   ⟨base, 15, by decide +kernel⟩,
   ⟨at_ Tm.ms ((withO base [(.passageLaneState, 15, 3)]).setPsg 3 { PsgSt.idle with lost := 8, back := [(3, 0)] }), 15, 0, by decide +kernel⟩,
   ⟨base, 15, by decide +kernel⟩,
   ⟨withO psg1 [(.passageLaneState, 7, 3)], 1, #v[none, none, none, some (BitVec.ofNat 32 (marker 3 8 15 7))], 3, BitVec.ofNat 32 (marker 3 8 15 7), by unfold State.Opens; decide +kernel⟩,
   ⟨withO psg1 [(.passageLaneState, 4, 2), (.passageLaneState, 7, 3)], 1, #v[some (BitVec.ofNat 32 (marker 0 8 15 15)), none, none, some (BitVec.ofNat 32 (marker 3 8 15 7))], 0, 3, BitVec.ofNat 32 (marker 0 8 15 15), BitVec.ofNat 32 (marker 3 8 15 7), by unfold State.Opens; decide +kernel⟩,
   ⟨psg1, 1, .replicate 4 none, by unfold State.Opens; decide +kernel⟩,
   ⟨lanes3 1, 1, 3, by decide +kernel⟩,
   ⟨lanes3 2, 1, 3, by decide +kernel⟩,
   ⟨psg1, 1, by decide +kernel⟩⟩

theorem witness_TerminalKeysExchangedAndUsed :
    (∃ (s : State) (x : Term) (ch : Nat), s.avail = true ∧ (s.exch x).running = true ∧ s.exchChannel x = some ch) ∧
    (∃ (s : State) (x : Term), (s.avail = false ∨ (s.exch x).running = false)) ∧
    (∃ (s : State) (x : Term), s.switchDue x = true ∧ ¬ ((s.exch x).due = some 0 ∧ s.restOld x = true)) ∧
    (∃ (s : State) (b : Bool) (i : Fin 16384), s.slotState b i = 2 ∧ s.n .ponKeySoftLimit 0 ≤ s.n (State.slotObjs b).2 i ∧ State.slotNo b i ∉ s.ciph.soft) ∧
    (∃ (s : State) (b : Bool) (i : Fin 16384), (s.slotState b i ≠ 2 ∨
    s.n (State.slotObjs b).2 i < s.n .ponKeySoftLimit 0 ∨ State.slotNo b i ∈ s.ciph.soft)) :=
  ⟨⟨(keyed 2 0).setExch 5 ⟨false, true, none, false⟩, 5, 3, by decide +kernel⟩,
   ⟨keyed 2 0, 5, by decide +kernel⟩,
   ⟨(keyed 1 2).setExch 5 ⟨false, false, some 0, false⟩, 5, by decide +kernel⟩,
   ⟨withO base [(.bcastKeyState, 63, 2), (.ponKeySoftLimit, 0, 5), (.bcastKeyUsage, 63, 5)], true, 63, by decide +kernel⟩,
   ⟨base, true, 63, by decide +kernel⟩⟩

theorem witness_HostKeysLocksAndEntropy :
    (∃ (s : State) (m : Master) (i : Fin 64) (key : List Byte), s.Admits m .bcastKey i key) ∧
    (∃ (s : State) (m : Master) (ch : Chan) (v : Fin 2), s.Admits m .channelBcastKeySwitch ch (beBytes 1 v)) ∧
    (∃ (s : State) (m : Master) (i : Fin 64) (v : Fin 2), s.Admits m .bcastKeyLock i (beBytes 1 v)) ∧
    (∃ (s : State) (m : Master) (i : Sa) (v : Fin 2), s.Admits m .saLock i (beBytes 1 v)) ∧
    (∃ (s : State) (k i : Nat), s.selSlot = (k, i) ∧ k ≠ 2 ∧ s.slotState (k != 0) i = 4) ∧
    (∃ (s : State) (i : Nat), s.selSlot = (2, i) ∧ i < 256 ∧ s.n .saSnuffPhase i = 3) ∧
    (∃ (s : State) (k i : Nat), s.selSlot = (k, i) ∧ ((k = 2 ∧ (256 ≤ i ∨ s.n .saSnuffPhase i ≠ 3)) ∨
    (k ≠ 2 ∧ s.slotState (k != 0) i ≠ 4))) ∧
    (∃ s : State, s.bit Reg.ciphCtrl 1 = true ∧ s.fabricRuns = true) ∧
    (∃ s : State, s.bit Reg.ciphCtrl 1 = true ∧ s.fabricRuns = true) ∧
    (∃ s : State, (s.bit Reg.ciphCtrl 1 = false ∨ s.fabricRuns = false)) :=
  ⟨⟨base, 0, 63, List.replicate 16 9, by unfold State.Admits State.Takes; decide +kernel⟩,
   ⟨withO base [(.bcastKeyState, 7, 1), (.channelGeneration, 3, 3)], 0, 3, 1, by unfold State.Admits State.Takes; decide +kernel⟩,
   ⟨withO base [(.bcastKeyState, 63, 1)], 0, 63, 1, by unfold State.Admits State.Takes; decide +kernel⟩,
   ⟨withO base [(.saState, 255, 1)], 0, 255, 1, by unfold State.Admits State.Takes; decide +kernel⟩,
   ⟨selects 0 16383 (withO base [(.keySlotState, 16383, 4)]), 0, 16383, by decide +kernel⟩,
   ⟨selects 2 255 (withO base [(.saSnuffPhase, 255, 3), (.saState, 255, 2)]), 255, by decide +kernel⟩,
   ⟨selects 2 255 (withO base [(.saSnuffPhase, 255, 1)]), 2, 255, by decide +kernel⟩,
   ⟨base, by decide +kernel⟩,
   ⟨base, by decide +kernel⟩,
   ⟨withR base [(Reg.ciphCtrl, 0)], by decide +kernel⟩⟩

theorem witness_ParityAndMemoryErrors :
    (∃ (s : State), s.fabricRuns = true) ∧
    (∃ (s : State), s.fabricRuns = true) ∧
    (∃ (s : State) (c : Nat) (g : CellTag), s.fabricRuns = true ∧ s.cellTag c = some g ∧ ((∀ x ∈ s.tm.cells, ∀ y, x.2 = some y → y.next ≠ some c)) ∧ ((∀ x ∈ s.tm.cutting, x.2.cell ≠ c))) ∧
    (∃ (s : State) (c : Nat), s.fabricRuns = true ∧ s.cellTag c = none) ∧
    (∃ (s : State), s.fabricRuns = true) ∧
    (∃ (s : State), s.fabricRuns = true) ∧
    (∃ (s : State), s.fabricRuns = true) ∧
    (∃ (s : State), s.fabricRuns = true) ∧
    (∃ (s : State), s.fabricRuns = true) ∧
    (∃ (s : State), s.fabricRuns = true) ∧
    (∃ (s : State), s.fabricRuns = true) ∧
    (∃ (s : State), s.fabricRuns = true) ∧
    (∃ (s : State), s.fabricRuns = true) ∧
    (∃ (s : State), s.fabricRuns = true) ∧
    (∃ (s : State), s.fabricRuns = true) ∧
    (∃ (s : State), s.fabricRuns = true) ∧
    (∃ (s : State) (p : Nat) (e : TsEntry) (rest : List TsEntry), s.fabricRuns = true ∧ tabGet (fun _ => []) s.clk.ts p = e :: rest) ∧
    (∃ (s : State) (k : Fin 8), s.fabricRuns = true ∧ s.captures k ≠ []) ∧
    (∃ (s : State), s.fabricRuns = true) ∧
    (∃ (s : State) (k : Fin 15), s.fabricRuns = true ∧ secded k = true) ∧
    (∃ s : State, s.fabricRuns = true ∧ s.on .integrityScrubEnable 0 = true) ∧
    (∃ (s : State) (d : QDesc) (g : CellTag), s.tm.orphans = [d] ∧ s.cellTag d.cell = some g ∧ g.owner = d.owner ∧ g.next = none) ∧
    (∃ s : State, s.avail = true) :=
  ⟨⟨base, by decide +kernel⟩,
   ⟨base, by decide +kernel⟩,
   ⟨(base.setQueue 9 [desc]).setCell 7 (some cell), 7, cell, by decide +kernel⟩,
   ⟨base, 199999, by decide +kernel⟩,
   ⟨withO base [(.startPhase, 0, 4)], by decide +kernel⟩,
   ⟨base, by decide +kernel⟩,
   ⟨base, by decide +kernel⟩,
   ⟨withO base [(.grantLaneState2, 0, 3)], by decide +kernel⟩,
   ⟨withO base [(.terminalStateA, 8191, 5), (.terminalChannel, 8191, 31)], by decide +kernel⟩,
   ⟨base, by decide +kernel⟩,
   ⟨withO base [(.bcastKeyState, 63, 2)], by decide +kernel⟩,
   ⟨withO base [(.saState, 255, 2)], by decide +kernel⟩,
   ⟨base, by decide +kernel⟩,
   ⟨base, by decide +kernel⟩,
   ⟨base, by decide +kernel⟩,
   ⟨base, by decide +kernel⟩,
   ⟨{ base with clk := { base.clk with ts := [(19, [⟨5, 0, 0, 77⟩])] } }, 19, ⟨5, 0, 0, 77⟩, [], by decide +kernel⟩,
   ⟨{ base with clk := { base.clk with captures := [(7, [(1, 2)])] } }, 7, by decide +kernel⟩,
   ⟨base, by decide +kernel⟩,
   ⟨base, 14, by decide +kernel⟩,
   ⟨withO base [(.integrityScrubEnable, 0, 1)], by decide +kernel⟩,
   ⟨withT (base.setCell 7 (some cell)) fun m => { m with orphans := [desc] }, desc, cell, by decide +kernel⟩,
   ⟨base, by decide +kernel⟩⟩

theorem witness_WatchdogRailsAndTemperatures :
    (∃ (s : State) (r : Fin 4), s.boot.rails[r] = .inWindow) ∧
    (∃ (s : State) (r : Fin 4), s.boot.rails[r] ≠ .inWindow) ∧
    (∃ (s : State) (r : Fin 4) (a : Time), s.boot.rails[r] = .faulted a ∧ a + 10 * Tm.ms ≤ s.now ∧ s.tripped r = false) ∧
    (∃ (s : State) (r : Fin 4) (a : Time), (s.boot.rails[r] = .off ∨ s.boot.rails[r] = .inWindow ∨
    s.boot.rails[r] = .starting a ∨ (s.boot.rails[r] = .faulted a ∧ (s.now < a + 10 * Tm.ms ∨ s.tripped r = true)))) ∧
    (∃ s : State, s.wickRuns = true) ∧
    (∃ s : State, s.wickRuns = false) ∧
    (∃ (s : State) (lantern : Bool), (s.boot.rails[(if lantern then 2 else 3 : Fin 4)]) = .inWindow) ∧
    (∃ (s : State) (lantern : Bool), (s.boot.rails[(if lantern then 2 else 3 : Fin 4)]) ≠ .inWindow) ∧
    (∃ (s : State) (lantern : Bool), s.tripped (if lantern then 2 else 3) = true) ∧
    (∃ (s : State) (lantern : Bool), s.tripped (if lantern then 2 else 3) = false) ∧
    (∃ (s : State) (m : Master) (mask : Nat), s.Admits m .faultCauseClear 0 (beBytes 4 mask)) :=
  ⟨⟨base, 0, by decide +kernel⟩,
   ⟨withBoot base fun b => { b with rails := b.rails.set 3 .off }, 3, by decide +kernel⟩,
   ⟨at_ (10 * Tm.ms) (withBoot base fun b => { b with rails := b.rails.set 3 (.faulted 0) }), 3, 0, by decide +kernel⟩,
   ⟨base, 3, 0, by decide +kernel⟩,
   ⟨base, by decide +kernel⟩,
   ⟨withBoot base fun b => { b with rails := b.rails.set 0 .off }, by decide +kernel⟩,
   ⟨base, true, by decide +kernel⟩,
   ⟨withBoot base fun b => { b with rails := b.rails.set 2 .off }, true, by decide +kernel⟩,
   ⟨withBoot base fun b => { b with tripDie := true }, false, by decide +kernel⟩,
   ⟨base, true, by decide +kernel⟩,
   ⟨withO base [(.faultCause, 0, 0x7F)], 0, 0x7E, by unfold State.Admits State.Takes; decide +kernel⟩⟩

theorem witness_LanternLinkAndHeadless :
    (∃ (s : State), s.linkActive = true) ∧
    (∃ (s : State), s.linkActive = false) ∧
    (∃ (s : State) (m : Master) (v : Fin 2), s.Admits m .ucieWiden 0 (beBytes 1 v)) ∧
    (∃ (s : State) (failed : BitVec 16), s.n .ucieLinkState 0 = 4 ∧ (failed = 0 ∧ (s.ucie.widening = true ∨ s.n .ucieWidth 0 = 16))) ∧
    (∃ (s : State) (failed : BitVec 16), s.n .ucieLinkState 0 = 4 ∧ failed ≠ 0 ∧ s.n .ucieWidth 0 = 16 ∧ (failed.toNat % 256 = 0 ∨ failed.toNat / 256 = 0)) ∧
    (∃ (s : State) (failed : BitVec 16), s.n .ucieLinkState 0 = 4 ∧ s.n .ucieWidth 0 = 8 ∧ (s.ucie.widening = false ∨ failed ≠ 0) ∧ (failed.toNat % 256 = 0 ∨ failed.toNat / 256 = 0)) ∧
    (∃ (s : State) (failed : BitVec 16), s.n .ucieLinkState 0 = 4 ∧ s.boot.dieReset = false ∧ failed.toNat % 256 ≠ 0 ∧ failed.toNat / 256 ≠ 0) ∧
    (∃ (s : State), s.n .ucieLinkState 0 ≠ 4) ∧
    (∃ s : State, s.n .ucieLinkState 0 = 4 ∧ s.ucie.trainStart + 10 * Tm.ms ≤ s.now ∧ s.boot.dieReset = false) ∧
    (∃ s : State, (s.n .ucieLinkState 0 ≠ 4 ∨ s.now < s.ucie.trainStart + 10 * Tm.ms)) ∧
    (∃ (s : State), s.n .ucieLinkState 0 = 1 ∧ s.boot.rails[(3 : Fin 4)] = .inWindow ∧ s.boot.lanternUp = true ∧ (s.boot.recovery = false ∨ s.boot.dieReset = false)) ∧
    (∃ (s : State), (s.n .ucieLinkState 0 ≠ 1 ∨ s.boot.rails[(3 : Fin 4)] ≠ .inWindow ∨
    s.boot.lanternUp = false ∨ (s.boot.recovery = true ∧ s.boot.dieReset = true))) :=
  ⟨⟨link 3, by decide +kernel⟩,
   ⟨link 5, by decide +kernel⟩,
   ⟨link 2, 0, 1, by unfold State.Admits State.Takes; decide +kernel⟩,
   ⟨withUcie (link 4) fun u => { u with widening := true }, 0, by decide +kernel⟩,
   ⟨withO (link 4) [(.ucieWidth, 0, 16)], 0xFF00, by decide +kernel⟩,
   ⟨withR (withO (link 4) [(.ucieWidth, 0, 8)]) [(Reg.ucieStatus, 16)], 0x00FF, by decide +kernel⟩,
   ⟨link 4, 0x0101, by decide +kernel⟩,
   ⟨link 3, by decide +kernel⟩,
   ⟨link 4, by decide +kernel⟩,
   ⟨link 3, by decide +kernel⟩,
   ⟨link 1, by decide +kernel⟩,
   ⟨link 2, by decide +kernel⟩⟩

theorem witness_SupplyAndResets :
    (∃ (s : State), s.boot.vinUp = false) ∧
    (∃ s : State, s.boot.vinUp = true ∧ s.boot.resetLow = true) ∧
    (∃ (s : State), s.boot.vinUp = true ∧ s.n .powerFailState 0 = 0) ∧
    (∃ s : State, s.n .powerFailState 0 ≠ 0) ∧
    (∃ (s : State) (r : Fin 4) (a : Time), s.boot.rails[r] = .starting a ∧ s.boot.vinUp = true) ∧
    (∃ (s : State) (r : Fin 4) (a : Time), (s.boot.rails[r] = .off ∨ s.boot.rails[r] = .inWindow ∨
    s.boot.rails[r] = .faulted a ∨ (s.boot.rails[r] = .starting a ∧ s.boot.vinUp = false))) ∧
    (∃ (s : State) (r : Fin 4) (a : Time), s.boot.rails[r] = .starting a ∧ a + 2 * Tm.ms ≤ s.now) ∧
    (∃ s : State, ((∀ x ∈ s.boot.rails.toList, (match x with
      | .starting a => decide (s.now < a + 2 * Tm.ms)
      | _ => true) = true))) ∧
    (∃ (s : State) (a : Time), s.boot.restartAt = some a ∧ s.boot.vinUp = true ∧ a ≤ s.now) ∧
    (∃ (s : State) (a : Time), (s.boot.restartAt = none ∨
    (s.boot.restartAt = some a ∧ (s.boot.vinUp = false ∨ s.now < a)))) :=
  ⟨⟨withBoot base fun b => { b with vinUp := false }, by decide +kernel⟩,
   ⟨withBoot base fun b => { b with resetLow := true }, by decide +kernel⟩,
   ⟨base, by decide +kernel⟩,
   ⟨withO base [(.powerFailState, 0, 1)], by decide +kernel⟩,
   ⟨at_ 5 (withBoot base fun b => { b with rails := #v[.inWindow, .starting 3, .off, .off] }), 1, 3, by decide +kernel⟩,
   ⟨base, 3, 0, by decide +kernel⟩,
   ⟨at_ (2 * Tm.ms) (withBoot base fun b => { b with rails := #v[.inWindow, .starting 0, .off, .off] }), 1, 0, by decide +kernel⟩,
   ⟨base, by decide +kernel⟩,
   ⟨at_ (100 * Tm.ms) (withBoot base fun b => { b with rails := .replicate 4 .off, restartAt := some (100 * Tm.ms) }), 100 * Tm.ms, by decide +kernel⟩,
   ⟨base, 0, by decide +kernel⟩⟩

theorem witness_FirmwareAndReady :
    (∃ s : State, s.boot.vinUp = true ∧ s.boot.rails[(2 : Fin 4)] = .inWindow ∧ s.boot.resetLow = false ∧ s.boot.lanternUp = false) ∧
    (∃ s : State, (s.boot.vinUp = false ∨ s.boot.rails[(2 : Fin 4)] ≠ .inWindow ∨ s.boot.resetLow = true ∨
    s.boot.lanternUp = true)) :=
  ⟨⟨withBoot base fun b => { b with lanternUp := false }, by decide +kernel⟩,
   ⟨base, by decide +kernel⟩⟩

theorem witness_GlimEnteredAndLeft :
    (∃ (s : State) (f : Time), s.boot.glimEntry = some f ∧ f + s.n .glimDrainTime 0 * Tm.ms ≤ s.now) ∧
    (∃ (s : State) (f : Time), (s.boot.glimEntry = none ∨
    (s.boot.glimEntry = some f ∧ s.now < f + s.n .glimDrainTime 0 * Tm.ms))) ∧
    (∃ (s : State) (a : Time), s.boot.returning = some a) ∧
    (∃ s : State, s.boot.returning = none) :=
  ⟨⟨at_ Tm.s dimming, 0, by decide +kernel⟩,
   ⟨base, 0, by decide +kernel⟩,
   ⟨withBoot base fun b => { b with returning := some 0 }, 0, by decide +kernel⟩,
   ⟨base, by decide +kernel⟩⟩

theorem witness_SnuffCarriedOut :
    (∃ (s : State) (k : ResKind) (i : Nat) (r : SnuffRec), s.snuffOf k i = some r ∧ i < 65536) ∧
    (∃ (s : State) (k : ResKind) (i : Nat) (r : SnuffRec) (k2 : ResKind) (j : Nat) (r2 : SnuffRec), s.snuffOf k i = some r ∧ r.draining = none ∧ s.wick % Tm.frame = 0 ∧ r.closing < s.now ∧ (k2, j) ∈ s.contents k i ∧ i < 65536 ∧ j < 65536 ∧ s.snuffOf k2 j = some r2 ∧ r2.draining = none) ∧
    (∃ (s : State) (k : ResKind) (i : Nat), s.snuffOf k i = none) ∧
    (∃ (s : State) (k : ResKind) (i : Nat) (r : SnuffRec) (d : Time), s.snuffOf k i = some r ∧ r.draining = some d) ∧
    (∃ (s : State) (k : ResKind) (i : Nat) (r : SnuffRec), s.snuffOf k i = some r ∧ r.draining = none) ∧
    (∃ (s : State) (k : ResKind) (i : Nat) (r : SnuffRec) (d : Time), s.snuffOf k i = some r ∧ i < 65536 ∧ r.draining = some d) ∧
    (∃ (s : State) (p l : Uplink), s.n .uplinkSnuffPhase p = 0 ∧ p ≤ l ∧ l.val < p.val + s.portLanes p ∧ ((∀ q : Uplink, q < p → s.portLanes q = 0 ∨ s.n .uplinkSnuffPhase q ≠ 0 ∨ q.val + s.portLanes q ≤ l.val))) ∧
    (∃ (s : State) (l : Uplink), ((∀ p : Uplink, s.n .uplinkSnuffPhase p ≠ 0 ∨ l < p ∨ p.val + s.portLanes p ≤ l.val))) :=
  ⟨⟨snuffing .queue 65535 ⟨0, none, true, false, false, false⟩ base, .queue, 65535, ⟨0, none, true, false, false, false⟩, by decide +kernel⟩,
   ⟨at_ Tm.frame (snuffing .queue 9 ⟨0, none, true, false, false, false⟩ (snuffing .terminal 5 ⟨0, none, true, false, false, false⟩ (withO base [(.queueTerminal, 9, 5)]))), .terminal, 5, ⟨0, none, true, false, false, false⟩, .queue, 9, ⟨0, none, true, false, false, false⟩, by decide +kernel⟩,
   ⟨base, .channel, 31, by decide +kernel⟩,
   ⟨at_ (100 * Tm.ms) (snuffing .queue 7 ⟨0, some 0, false, false, false, false⟩ ((withO base [(.queueSnuffPhase, 7, 2)]).setQueue 7 [desc])), .queue, 7, ⟨0, some 0, false, false, false, false⟩, 0, by decide +kernel⟩,
   ⟨snuffing .queue 65535 ⟨0, none, true, false, false, false⟩ base, .queue, 65535, ⟨0, none, true, false, false, false⟩, by decide +kernel⟩,
   ⟨snuffing .queue 65535 ⟨0, some 0, false, false, false, false⟩ base, .queue, 65535, ⟨0, some 0, false, false, false, false⟩, 0, by decide +kernel⟩,
   ⟨withO base [(.uplinkSnuffPhase, 15, 0), (.uplinkQuadMode, 3, 3)], 15, 15, by decide +kernel⟩,
   ⟨base, 15, by decide +kernel⟩⟩

/-! ### The cases inside the conclusions -/

theorem witness_CounterInstancesCounted_cases :
    (∃ (s : State) (m : Master) (ref : ObjRef) (bs : List Byte) (o : Obj) (ev inst : Nat), s.Takes m ∧ s.NoPacket ∧ Obj.find (ref.index.val * 256 + ref.sub.val) = some o ∧ s.acceptCode m o ref.inst bs = Abort.ok ∧ s.on .counterEnable ref.inst = false ∧ ((o = .counterInstance ∧ ev = s.n .counterEvent ref.inst ∧ inst = beNat bs) ∨
      (o = .counterEvent ∧ ev = beNat bs ∧ inst = s.n .counterInstance ref.inst)) ∧ ((∃ k, catalogue ev = some k ∧ (inst = 0xFFFF ∨ inst < k)))) :=
  ⟨withO base [(.counterEvent, 255, 0x504)], 0, refOf .counterInstance 255, beBytes 2 2, .counterInstance, 0x504, 2, by unfold State.Takes State.NoPacket; decide +kernel⟩

theorem witness_RecordsPerformed_cases :
    (∃ (s : State) (m : Master) (ref : ObjRef) (o : Obj), s.Takes m ∧ s.NoPacket ∧ Obj.find (ref.index.val * 256 + ref.sub.val) = some o ∧ s.exists? o ref.inst = false) ∧
    (∃ (s : State) (m : Master) (ref : ObjRef) (off len : Nat) (o : Obj), s.Takes m ∧ s.NoPacket ∧ Obj.find (ref.index.val * 256 + ref.sub.val) = some o ∧ s.exists? o ref.inst = true ∧ ((s.taken m).objRead o ref.inst).2.length ≤ 4096 ∧ ((s.taken m).objRead o ref.inst).2.length < off + len) :=
  ⟨⟨base, 0, refOf .channelLaneState 32, .channelLaneState, by unfold State.Takes State.NoPacket; decide +kernel⟩,
   ⟨base, 0, refOf .startPhase 0, 0, 9, .startPhase, by unfold State.Takes State.NoPacket; decide +kernel⟩⟩

theorem witness_KeysImagesAndResets_cases :
    (∃ (s : State), s.boot.lanternUp = true ∧ s.nvmUp = true ∧ s.n .imageStatus 1 = 2 ∧ (s.commissionOk ((s.upload 1).bytes) && (s.nvm.commission.isEmpty || decide (State.imgRollback s.nvm.commission ≤ State.imgRollback ((s.upload 1).bytes)))) = false) :=
  ⟨withO base [(.imageStatus, 1, 2)], by decide +kernel⟩

theorem witness_TrialsAndRawWindow_cases :
    (∃ (s : State) (m : Master) (r : Fin 16777216), s.Takes m ∧ s.NoPacket ∧ s.exists? .rawRegister r = true ∧ s.fabricRuns = true) ∧
    (∃ (s : State) (m : Master) (r : Fin 16777216), s.Takes m ∧ s.NoPacket ∧ s.exists? .rawRegister r = true ∧ s.fabricRuns = false) ∧
    (∃ (s : State) (m : Master) (r : Fin 16777216) (v : Nat), s.Admits m .rawRegister r (beBytes 4 v) ∧ State.rawRefused (4 * r) = true) :=
  ⟨⟨base, 0, 0, by unfold State.Takes State.NoPacket; decide +kernel⟩,
   ⟨withBoot base fun b => { b with dieReset := true }, 0, 0, by unfold State.Takes State.NoPacket; decide +kernel⟩,
   ⟨withO base [(.rawWindowMasters, 0, 1)], 0, 16, 7, by unfold State.Admits State.Takes; decide +kernel⟩⟩

theorem witness_BoundariesServed_cases :
    (∃ (s : State), s.wickRuns = true ∧ s.wick % Tm.s = 0 ∧ s.clk.secondAt ≠ some s.wick ∧ s.fabricRuns = true ∧ s.frameServed = false) ∧
    (∃ (s : State), s.wickRuns = true ∧ s.wick % Tm.s = 0 ∧ s.clk.secondAt ≠ some s.wick ∧ s.fabricRuns = false) ∧
    (∃ (s : State) (ch : Chan) (e : Nat × Nat) (a n : Nat), s.fabricRuns = true ∧ s.atFrame = true ∧ s.sending ch = true ∧ (s.epochOf ch s.frameNo = some e ∨
      (s.epochOf ch s.frameNo = none ∧ (s.gch ch).epochs.getLast? = some (a, n) ∧ a + n = e.1 ∧
        s.n .channelEpochFrames ch = e.2 ∧ s.on .channelEpochSync ch = false)) ∧ e.1 = s.frameNo ∧ 0 < e.2) ∧
    (∃ (s : State) (ch : Chan) (e : Nat × Nat) (a n : Nat), s.fabricRuns = true ∧ s.atFrame = true ∧ s.sending ch = true ∧ (s.epochOf ch s.frameNo = some e ∨
      (s.epochOf ch s.frameNo = none ∧ (s.gch ch).epochs.getLast? = some (a, n) ∧ a + n = e.1 ∧
        s.n .channelEpochFrames ch = e.2 ∧ s.on .channelEpochSync ch = false)) ∧ e.1 < s.frameNo ∧ s.frameNo < e.1 + e.2) ∧
    (∃ (s : State), s.wickRuns = false) ∧
    (∃ (s : State), (s.wick % Tm.s ≠ 0 ∨ s.clk.secondAt = some s.wick)) ∧
    (∃ (s : State) (ch : Chan), (s.atFrame = false ∨ s.sending ch = false)) ∧
    (∃ (s : State) (ch : Chan), (s.laneState ch ≠ 1 ∨ s.frameNo < (s.lane ch).runFrame)) :=
  ⟨⟨at_ (5 * Tm.s) base, by decide +kernel⟩,
   ⟨withBoot base fun b => { b with glim := true }, by decide +kernel⟩,
   ⟨(at_ (24 * Tm.frame) (withO base [(.channelLaneState, 3, 2), (.channelEpochIndex, 3, 5)])).setGch 3 { (base.gch 3) with epochs := [(16, 8)] }, 3, (24, 8), 16, 8, by decide +kernel⟩,
   ⟨(at_ (28 * Tm.frame) (withO base [(.channelLaneState, 3, 2), (.channelEpochIndex, 3, 5)])).setGch 3 { (base.gch 3) with epochs := [(16, 8)] }, 3, (24, 8), 16, 8, by decide +kernel⟩,
   ⟨State.reset, by decide +kernel⟩,
   ⟨{ at_ (5 * Tm.s - 7) base with stage := ⟨none, [⟨1, 0, [(4, 5)], 0⟩, ⟨2, 3, [(4, 6)], 0⟩], []⟩ }, by decide +kernel⟩,
   ⟨base, 3, by decide +kernel⟩,
   ⟨base, 3, by decide +kernel⟩⟩

theorem witness_RegisterWrites_cases :
    (∃ (s : State) (c : Fin 4) (ws : List (Nat × Nat)), s.reach = true ∧ s.stage.openSet = some ws ∧ ((∀ c ∈ s.stage.waiting, c.cls ≠ 0)) ∧ s.stage.waiting.length < 4 ∧ c ≠ 0) ∧
    (∃ (s : State) (c : Fin 4) (ws : List (Nat × Nat)), s.reach = true ∧ s.stage.openSet = some ws ∧ ((∀ c ∈ s.stage.waiting, c.cls ≠ 0)) ∧ s.stage.waiting.length < 4 ∧ c = 0 ∧ ((∀ w ∈ ws, w.1 = 4))) ∧
    (∃ (s : State) (c : Fin 4) (ws : List (Nat × Nat)), s.reach = true ∧ s.stage.openSet = some ws ∧ ((∀ c ∈ s.stage.waiting, c.cls ≠ 0)) ∧ 4 ≤ s.stage.waiting.length) :=
  ⟨⟨{ base with stage := ⟨some [(4, 5), (4, 6)], [⟨1, 0, [(4, 5)], 0⟩], []⟩ }, 3, [(4, 5), (4, 6)], by decide +kernel⟩,
   ⟨{ base with stage := ⟨some [(4, 5), (4, 6)], [], []⟩ }, 0, [(4, 5), (4, 6)], by decide +kernel⟩,
   ⟨{ base with stage := ⟨some [(4, 5), (4, 6)], List.replicate 4 ⟨1, 0, [(4, 5)], 0⟩, []⟩ }, 3, [(4, 5), (4, 6)], by decide +kernel⟩⟩

theorem witness_LifetimeRecordSaved_cases :
    (∃ (s : State) (m : Master), s.Admits m .lifetimeSave 0 (beBytes 1 1) ∧ s.n .powerFailState 0 = 0 ∧ ((∀ x ∈ s.life.lastSave, x + 60 * Tm.s ≤ s.now)) ∧ s.recording = true) ∧
    (∃ (s : State) (m : Master), s.Admits m .lifetimeSave 0 (beBytes 1 1) ∧ (s.n .powerFailState 0 ≠ 0 ∨ (∃ x ∈ s.life.lastSave, s.now < x + 60 * Tm.s))) ∧
    (∃ (s : State), s.wick % (900 * Tm.s) = 0 ∧ ((∀ x ∈ s.life.lastSave, x + 60 * Tm.s ≤ s.now)) ∧ s.recording = true) ∧
    (∃ (s : State), s.wick % (900 * Tm.s) = 0 ∧ ((∀ x ∈ s.life.lastSave, x + 60 * Tm.s ≤ s.now)) ∧ s.recording = false) :=
  ⟨⟨base, 0, by unfold State.Admits State.Takes; decide +kernel⟩,
   ⟨{ withO base [(.powerFailState, 0, 1)] with life := { State.reset.life with saving := some 1, queued := true } }, 0, by unfold State.Admits State.Takes; decide +kernel⟩,
   ⟨base, by decide +kernel⟩,
   ⟨State.reset, by decide +kernel⟩⟩

theorem witness_BurstsReceived_cases :
    (∃ (s : State) (ch : Chan) (k i : Nat) (r : BurstRx) (f : Flight) (e : Expect) (x : Int), (s.gch ch).flight.find? (fun f => f.frame == k) = some f ∧ f.expected[i]? = some e ∧ i ∈ f.due ∧ s.bit (Reg.ponLaneStatus ch) 1 = true ∧ s.bit (Reg.tcUsCtrl ch) 0 = true ∧ s.searched ch f e r.hits = some x ∧ r.headerOk = false) ∧
    (∃ (s : State) (ch : Chan) (k i : Nat) (r : BurstRx) (f : Flight) (e : Expect) (x : Int), (s.gch ch).flight.find? (fun f => f.frame == k) = some f ∧ f.expected[i]? = some e ∧ i ∈ f.due ∧ s.bit (Reg.ponLaneStatus ch) 1 = true ∧ s.bit (Reg.tcUsCtrl ch) 0 = true ∧ s.searched ch f e r.hits = some x ∧ r.headerOk = true ∧ s.gen ch ≠ 1 ∧ r.onu ≠ s.n .terminalOnuIdAssigned e.burst.term) ∧
    (∃ (s : State) (ch : Chan) (k i : Nat) (r : BurstRx) (f : Flight) (e : Expect) (x : Int), (s.gch ch).flight.find? (fun f => f.frame == k) = some f ∧ f.expected[i]? = some e ∧ i ∈ f.due ∧ s.bit (Reg.ponLaneStatus ch) 1 = true ∧ s.bit (Reg.tcUsCtrl ch) 0 = true ∧ s.searched ch f e r.hits = some x ∧ r.headerOk = true ∧ (s.gen ch = 1 ∨ r.onu = s.n .terminalOnuIdAssigned e.burst.term) ∧ ((∀ g ∈ r.grants, ∀ y ∈ g.frags, y.last = false))) :=
  ⟨⟨withR (withO ((term5 4).setGch 3 { GrantCh.idle with flight := [{ fly5 with expected := [{ exp5 with burst := { exp5.burst with grants := [⟨9, 40, true, .local_, []⟩] } }] }] }) [(.allocSnuffPhase, 9, 0)]) [(Reg.tcUsCtrl 3, 1), (Reg.ponLaneStatus 3, 2)], 3, 7, 0, ⟨[(0, 0)], 0, 6, 0, 0, false, 9, 0, none, []⟩, { fly5 with expected := [{ exp5 with burst := { exp5.burst with grants := [⟨9, 40, true, .local_, []⟩] } }] }, { exp5 with burst := { exp5.burst with grants := [⟨9, 40, true, .local_, []⟩] } }, 0, by decide +kernel⟩,
   ⟨withR (withO ((term5 4).setGch 3 { GrantCh.idle with flight := [{ fly5 with expected := [{ exp5 with burst := { exp5.burst with grants := [⟨9, 40, true, .local_, []⟩] } }] }] }) [(.allocSnuffPhase, 9, 0)]) [(Reg.tcUsCtrl 3, 1), (Reg.ponLaneStatus 3, 2)], 3, 7, 0, ⟨[(0, 0)], 0, 6, 0, 0, true, 77, 0, none, []⟩, { fly5 with expected := [{ exp5 with burst := { exp5.burst with grants := [⟨9, 40, true, .local_, []⟩] } }] }, { exp5 with burst := { exp5.burst with grants := [⟨9, 40, true, .local_, []⟩] } }, 0, by decide +kernel⟩,
   ⟨withR (withO ((term5 4).setGch 3 { GrantCh.idle with flight := [{ fly5 with expected := [{ exp5 with burst := { exp5.burst with grants := [⟨9, 40, true, .local_, []⟩] } }] }] }) [(.allocSnuffPhase, 9, 0)]) [(Reg.tcUsCtrl 3, 1), (Reg.ponLaneStatus 3, 2)], 3, 7, 0, ⟨[(0, 0)], 0, 6, 0, 0, true, 9, 0, none, []⟩, { fly5 with expected := [{ exp5 with burst := { exp5.burst with grants := [⟨9, 40, true, .local_, []⟩] } }] }, { exp5 with burst := { exp5.burst with grants := [⟨9, 40, true, .local_, []⟩] } }, 0, by decide +kernel⟩⟩

theorem witness_StrayLightAndHunts_cases :
    (∃ (s : State) (ch : Chan) (a b : Time) (l x y : Nat) (p q : Time), s.on .channelGapMonitor ch = true ∧ s.sending ch = true ∧ s.n .channelGapEnergyThreshold ch < l ∧ (s.gaps ch).filter (s.lightIn ch a b) = [(some (p, some x), some (q, some y))] ∧ (a ≤ p + 50 * Tm.ns ∨ q - 50 * Tm.ns ≤ b)) ∧
    (∃ (s : State) (ch : Chan) (a b : Time) (l x y : Nat) (p q : Time), s.on .channelGapMonitor ch = true ∧ s.sending ch = true ∧ s.n .channelGapEnergyThreshold ch < l ∧ (s.gaps ch).filter (s.lightIn ch a b) = [(some (p, some x), some (q, some y))] ∧ p + 50 * Tm.ns < a ∧ b < q - 50 * Tm.ns) ∧
    (∃ (s : State) (ch : Chan), s.n .channelRogueFrames ch ≤ (s.act ch).litRun ∧ (s.n .channelRogueAction ch ≠ 2 ∨ (s.act ch).retryAt ≠ none ∨ s.avail = false ∨ (s.act ch).watch ≠ none ∨
        (s.act ch).hunt ≠ none)) ∧
    (∃ (s : State) (ch : Chan), s.n .channelRogueFrames ch ≤ (s.act ch).litRun ∧ s.n .channelRogueAction ch = 2 ∧ (s.act ch).retryAt = none ∧ s.avail = true ∧ (s.act ch).watch = none ∧ (s.act ch).hunt = none) ∧
    (∃ (s : State) (ch : Chan) (x : Term) (k : Nat), s.sideOn x ch = some k ∧ s.n .channelRogueFrames ch ≤ (s.sd x k).strayRun ∧ (s.n .channelRogueAction ch = 0 ∨ (s.act ch).watch ≠ none ∨ (s.act ch).hunt ≠ none)) ∧
    (∃ (s : State) (ch : Chan) (x : Term) (k : Nat), s.sideOn x ch = some k ∧ s.n .channelRogueFrames ch ≤ (s.sd x k).strayRun ∧ s.n .channelRogueAction ch ≠ 0 ∧ (s.act ch).watch = none ∧ (s.act ch).hunt = none) ∧
    (∃ (s : State) (ch : Chan), (s.act ch).litRun < s.n .channelRogueFrames ch) ∧
    (∃ (s : State) (ch : Chan) (x : Term), ((∀ k ∈ s.sideOn x ch, (s.sd x k).strayRun < s.n .channelRogueFrames ch))) ∧
    (∃ (s : State) (ch : Chan) (x f : Nat) (lit : Bool), (s.act ch).watch = some (x, f, lit) ∧ s.frameNo < f + s.n .channelRogueFrames ch) ∧
    (∃ (s : State) (ch : Chan) (x f : Nat) (lit : Bool), (s.act ch).watch = some (x, f, lit) ∧ f + s.n .channelRogueFrames ch ≤ s.frameNo ∧ lit = false ∧ s.quarantined (s.oct .terminalSerial x) = false ∧ s.nvm.quarantined.length < 256 ∧ s.nvmUp = true) ∧
    (∃ (s : State) (ch : Chan) (x f : Nat) (lit : Bool), (s.act ch).watch = some (x, f, lit) ∧ f + s.n .channelRogueFrames ch ≤ s.frameNo ∧ lit = true ∧ x < 8192 ∧ (s.n .channelRogueAction ch ≠ 2 ∨ (s.act ch).retryAt ≠ none)) ∧
    (∃ (s : State) (ch : Chan) (h : HuntSt), (s.act ch).hunt = some h ∧ s.frameNo < h.from_ + s.n .channelRogueFrames ch ∧ h.snuffed = false) ∧
    (∃ (s : State) (ch : Chan) (h : HuntSt), (s.act ch).hunt = some h ∧ (h.from_ + s.n .channelRogueFrames ch ≤ s.frameNo ∨ h.snuffed = true)) ∧
    (∃ (s : State) (ch : Chan) (x : Time), (s.act ch).retryAt = some x ∧ s.now < x) ∧
    (∃ (s : State) (ch : Chan) (x : Time), (s.act ch).retryAt = some x ∧ x ≤ s.now ∧ s.n .channelRogueFrames ch ≤ (s.act ch).litRun ∧ s.n .channelRogueAction ch = 2 ∧ s.avail = true) ∧
    (∃ (s : State) (ch : Chan) (x : Time), (s.act ch).retryAt = some x ∧ x ≤ s.now ∧ (s.act ch).litRun < s.n .channelRogueFrames ch) ∧
    (∃ (s : State) (ch : Chan), (s.act ch).watch = none) ∧
    (∃ (s : State) (ch : Chan), (s.act ch).hunt = none) ∧
    (∃ (s : State) (ch : Chan), (s.act ch).retryAt = none) ∧
    (∃ (s : State) (m : Master) (x : Term) (v : Fin 2), s.Admits m .terminalRogueRelease x (beBytes 1 v) ∧ v = 1 ∧ s.on .terminalRogue x = true) ∧
    (∃ (s : State) (m : Master) (x : Term) (v : Fin 2), s.Admits m .terminalRogueRelease x (beBytes 1 v) ∧ (v = 0 ∨ s.on .terminalRogue x = false)) :=
  ⟨⟨(withO (flown (term5 4)) [(.channelGapMonitor, 3, 1), (.channelGapEnergyThreshold, 3, 5), (.channelGapMinLen, 3, 100)]).setGch 3 { GrantCh.idle with flight := [{ fly5 with expected := [exp5, { exp5 with burst := { exp5.burst with term := 6, start := 9000, stop := 9100 } }], due := [0, 1] }] }, 3, gapP, gapP + 2 * Tm.us, 6, 5, 6, gapP, gapQ, by decide +kernel⟩,
   ⟨(withO (flown (term5 4)) [(.channelGapMonitor, 3, 1), (.channelGapEnergyThreshold, 3, 5), (.channelGapMinLen, 3, 100)]).setGch 3 { GrantCh.idle with flight := [{ fly5 with expected := [exp5, { exp5 with burst := { exp5.burst with term := 6, start := 9000, stop := 9100 } }], due := [0, 1] }] }, 3, gapP + 100 * Tm.ns, gapQ - 100 * Tm.ns, 6, 5, 6, gapP, gapQ, by decide +kernel⟩,
   ⟨(withO (term5 4) [(.channelRogueAction, 3, 2)]).setAct 3 { ActSt.idle with retryAt := some 0, litRun := 8 }, 3, by decide +kernel⟩,
   ⟨(withO (term5 4) [(.channelRogueAction, 3, 2)]).setAct 3 { ActSt.idle with litRun := 8 }, 3, by decide +kernel⟩,
   ⟨withSide (withO (term5 4) [(.channelRogueAction, 3, 0)]) { SideSt.idle with strayRun := 8 }, 3, 5, 0, by decide +kernel⟩,
   ⟨withSide (term5 4) { SideSt.idle with strayRun := 8 }, 3, 5, 0, by decide +kernel⟩,
   ⟨withO (term5 4) [(.channelRogueAction, 3, 1)], 3, by decide +kernel⟩,
   ⟨withO (term5 4) [(.channelRogueAction, 3, 1)], 3, 5, by decide +kernel⟩,
   ⟨(at_ (8 * Tm.frame) (withO (term5 6) [(.channelRogueAction, 3, 1)])).setAct 3 { ActSt.idle with watch := some (5, 7, false) }, 3, 5, 7, false, by decide +kernel⟩,
   ⟨(at_ (15 * Tm.frame) (withO (term5 6) [(.channelRogueAction, 3, 1)])).setAct 3 { ActSt.idle with watch := some (5, 7, false) }, 3, 5, 7, false, by decide +kernel⟩,
   ⟨(at_ (15 * Tm.frame) (withO (term5 6) [(.channelRogueAction, 3, 1)])).setAct 3 { ActSt.idle with watch := some (5, 7, true) }, 3, 5, 7, true, by decide +kernel⟩,
   ⟨(at_ (8 * Tm.frame) (term5 4)).setAct 3 { ActSt.idle with hunt := some ⟨[[2, 2, 2, 2, 2, 2, 2, 2]], List.replicate 8 1, 7, true, false, false⟩ }, 3, ⟨[[2, 2, 2, 2, 2, 2, 2, 2]], List.replicate 8 1, 7, true, false, false⟩, by decide +kernel⟩,
   ⟨(at_ (15 * Tm.frame) (term5 4)).setAct 3 { ActSt.idle with hunt := some ⟨[[2, 2, 2, 2, 2, 2, 2, 2]], List.replicate 8 1, 7, true, false, false⟩ }, 3, ⟨[[2, 2, 2, 2, 2, 2, 2, 2]], List.replicate 8 1, 7, true, false, false⟩, by decide +kernel⟩,
   ⟨(withO (term5 4) [(.channelRogueAction, 3, 2)]).setAct 3 { ActSt.idle with retryAt := some (10 ^ 20), litRun := 8 }, 3, 10 ^ 20, by decide +kernel⟩,
   ⟨(withO (term5 4) [(.channelRogueAction, 3, 2)]).setAct 3 { ActSt.idle with retryAt := some 0, litRun := 8 }, 3, 0, by decide +kernel⟩,
   ⟨(withO (term5 4) [(.channelRogueAction, 3, 2)]).setAct 3 { ActSt.idle with retryAt := some 0, litRun := 0 }, 3, 0, by decide +kernel⟩,
   ⟨term5 4, 3, by decide +kernel⟩,
   ⟨term5 4, 3, by decide +kernel⟩,
   ⟨term5 4, 3, by decide +kernel⟩,
   ⟨{ withX (withO (term5 6) [(.terminalRogue, 5, 1)]) [(.terminalSerial, 5, List.replicate 8 1)] with nvm := { base.nvm with quarantined := [(3, 5, List.replicate 8 1)] } }, 0, 5, 1, by unfold State.Admits State.Takes; decide +kernel⟩,
   ⟨(withO (flown (term5 4)) [(.channelGapMonitor, 3, 1), (.channelGapEnergyThreshold, 3, 5), (.channelGapMinLen, 3, 100)]).setGch 3 { GrantCh.idle with flight := [{ fly5 with expected := [exp5, { exp5 with burst := { exp5.burst with term := 6, start := 9000, stop := 9100 } }], due := [0, 1] }] }, 0, 5, 1, by unfold State.Admits State.Takes; decide +kernel⟩⟩

theorem witness_WindowsAndAdmission_cases :
    (∃ (s : State) (m : Master) (ch : Chan) (x : Nat), x < 2 ^ 96 ∧ s.Admits m .channelQuietAt ch (beBytes 12 x) ∧ s.wick + Tm.ms ≤ ceilDiv x Tm.frame * Tm.frame) ∧
    (∃ (s : State) (m : Master) (ch : Chan) (x : Nat), x < 2 ^ 96 ∧ s.Admits m .channelQuietAt ch (beBytes 12 x) ∧ ceilDiv x Tm.frame * Tm.frame < s.wick + Tm.ms) ∧
    (∃ (s : State) (ch : Chan) (hits : List (Nat × Nat)) (ph : Fin 64) (w : QuietWin) (ws : List QuietWin) (pos : Nat), (s.act ch).wins = w :: ws ∧ s.sending ch = true ∧ w.start ≤ s.wick ∧ State.findResponse w.prof hits w.next = some pos ∧ s.bitTime ch pos ph < w.len ∧ 32 ≤ (s.act ch).decoded) ∧
    (∃ (s : State) (ch : Chan) (hits : List (Nat × Nat)) (ph : Fin 64) (w : QuietWin) (ws : List QuietWin) (pos : Nat), (s.act ch).wins = w :: ws ∧ s.sending ch = true ∧ w.start ≤ s.wick ∧ State.findResponse w.prof hits w.next = some pos ∧ s.bitTime ch pos ph < w.len ∧ (s.act ch).decoded < 32 ∧ (s.n .channelSnuffPhase ch ≠ 0 ∨ (s.act ch).hunt ≠ none)) ∧
    (∃ (s : State) (ch : Chan) (hits : List (Nat × Nat)) (ph : Fin 64) (sn : Vector Byte 8) (w : QuietWin) (ws : List QuietWin) (pos : Nat), (s.act ch).wins = w :: ws ∧ s.sending ch = true ∧ w.start ≤ s.wick ∧ State.findResponse w.prof hits w.next = some pos ∧ s.bitTime ch pos ph < w.len ∧ (s.act ch).decoded < 32 ∧ s.n .channelSnuffPhase ch = 0 ∧ (s.act ch).hunt = none ∧ s.admission ch sn.toList = none) :=
  ⟨⟨base, 0, 3, 2 ^ 95, by unfold State.Admits State.Takes; decide +kernel⟩,
   ⟨base, 0, 3, 0, by unfold State.Admits State.Takes; decide +kernel⟩,
   ⟨((withO (term5 4) [(.channelGeneration, 3, 3)]).setAct 3 { ActSt.idle with decoded := 32, wins := [⟨0, 0, 250 * Tm.us, ⟨100, [], 32, 5, 1, false⟩, 6, 40⟩] }), 3, [(50, 1), (20, 0)], 7, ⟨0, 0, 250 * Tm.us, ⟨100, [], 32, 5, 1, false⟩, 6, 40⟩, [], 50, by decide +kernel⟩,
   ⟨((withO (term5 4) [(.channelGeneration, 3, 3)]).setAct 3 { ActSt.idle with hunt := some ⟨[], List.replicate 8 1, 7, true, false, false⟩, wins := [⟨0, 0, 250 * Tm.us, ⟨100, [], 32, 5, 1, false⟩, 6, 40⟩] }), 3, [(50, 1), (20, 0)], 7, ⟨0, 0, 250 * Tm.us, ⟨100, [], 32, 5, 1, false⟩, 6, 40⟩, [], 50, by decide +kernel⟩,
   ⟨((withX (withO (withO base [(.channelLaneState, 3, 2), (.channelSnuffPhase, 3, 0), (.terminalChannel, 5, 3), (.terminalSnuffPhase, 5, 0), (.terminalOnuId, 5, 1022), (.terminalEnable, 5, 1), (.channelGeneration, 3, 3)]) [(.admitAction, 8, 1), (.admitTerminal, 8, 5)]) [(.admitSerial, 8, [1, 2, 3, 4, 5, 6, 7, 8])]).setAct 3 { ActSt.idle with wins := [⟨0, 0, 250 * Tm.us, ⟨100, [], 32, 5, 1, false⟩, 6, 40⟩] }), 3, [(50, 1), (20, 0)], 7, #v[1, 2, 3, 4, 5, 6, 7, 8], ⟨0, 0, 250 * Tm.us, ⟨100, [], 32, 5, 1, false⟩, 6, 40⟩, [], 50, by decide +kernel⟩⟩

theorem witness_RangingAndRegistration_cases :
    (∃ (s : State) (ch : Chan) (x : Term) (k : Nat) (w : RangeWin), s.sideOn x ch = some k ∧ (s.sd x k).window = some w ∧ s.tstate x k = 2 ∧ w.hi ≤ s.wick ∧ (s.sd x k).attempts < 2) ∧
    (∃ (s : State) (ch : Chan) (x : Term) (k : Nat) (w : RangeWin), s.sideOn x ch = some k ∧ (s.sd x k).window = some w ∧ s.tstate x k = 2 ∧ w.hi ≤ s.wick ∧ 2 ≤ (s.sd x k).attempts) :=
  ⟨⟨at_ Tm.ms (withSide (term5 2) ({ SideSt.idle with window := some ⟨0, 100, 600 * Tm.us, 900 * Tm.us, ⟨100, [], 32, 5, 1, false⟩, 6, 5, 40⟩, attempts := 1 })), 3, 5, 0, ⟨0, 100, 600 * Tm.us, 900 * Tm.us, ⟨100, [], 32, 5, 1, false⟩, 6, 5, 40⟩, by decide +kernel⟩,
   ⟨at_ Tm.ms (withSide (term5 2) ({ SideSt.idle with window := some ⟨0, 100, 600 * Tm.us, 900 * Tm.us, ⟨100, [], 32, 5, 1, false⟩, 6, 5, 40⟩, attempts := 2 })), 3, 5, 0, ⟨0, 100, 600 * Tm.us, 900 * Tm.us, ⟨100, [], 32, 5, 1, false⟩, 6, 5, 40⟩, by decide +kernel⟩⟩

theorem witness_LossAndPowerSaving_cases :
    (∃ (s : State) (ch : Chan) (x : Term) (k f : Nat), s.sideOn x ch = some k ∧ (s.sd x k).correction = some f ∧ s.gen ch = 1 ∧ f + 8 ≤ s.frameNo) ∧
    (∃ (s : State) (ch : Chan) (x : Term) (k f : Nat), s.sideOn x ch = some k ∧ (s.sd x k).correction = some f ∧ (s.gen ch ≠ 1 ∨ s.frameNo < f + 8)) ∧
    (∃ (s : State) (ch : Chan) (x : Term) (k : Nat), s.sideOn x ch = some k ∧ s.inService x ch = true ∧ 2 ≤ s.n .terminalPowerState x ∧ (s.term x).lastGood + (s.n .terminalSleepInterval x + s.n .terminalAwareInterval x + 2) * Tm.ms ≤ s.now) ∧
    (∃ (s : State) (ch : Chan) (x : Term) (k : Nat), s.sideOn x ch = some k ∧ s.inService x ch = true ∧ 2 ≤ s.n .terminalPowerState x ∧ s.now < (s.term x).lastGood + (s.n .terminalSleepInterval x + s.n .terminalAwareInterval x + 2) * Tm.ms) ∧
    (∃ (s : State) (ch : Chan) (x : Term) (k : Nat), s.sideOn x ch = some k ∧ s.tstate x k = 5 ∧ (s.sd x k).recovered = false ∧ (s.sd x k).lostAt + s.n .channelLostHold ch * Tm.ms ≤ s.now) ∧
    (∃ (s : State) (ch : Chan) (x : Term) (k : Nat), s.sideOn x ch = some k ∧ s.tstate x k = 5 ∧ (s.sd x k).recovered = false ∧ s.now < (s.sd x k).lostAt + s.n .channelLostHold ch * Tm.ms) ∧
    (∃ (s : State) (x : Term) (m : Fin 4), s.inServiceAny x = true ∧ m ≠ 0 ∧ s.n .terminalPowerModes x / 2 ^ (m.val - 1) % 2 = 1 ∧ s.n .terminalPowerState x ≠ 0 ∧ s.n .terminalPowerState x ≠ 5 ∧ (s.term x).wakeFrame ≠ some s.frameNo) ∧
    (∃ (s : State) (x : Term) (m : Fin 4), s.inServiceAny x = true ∧ m ≠ 0 ∧ s.n .terminalPowerModes x / 2 ^ (m.val - 1) % 2 = 1 ∧ s.n .terminalPowerState x ≠ 0 ∧ s.n .terminalPowerState x ≠ 5 ∧ (s.term x).wakeFrame = some s.frameNo ∧ s.avail = true) ∧
    (∃ (s : State) (x : Term) (m : Fin 4), s.inServiceAny x = true ∧ m ≠ 0 ∧ s.n .terminalPowerModes x / 2 ^ (m.val - 1) % 2 = 0 ∧ (s.n .terminalPowerState x ≠ 5 ∨
        (s.term x).wakeFrame ≠ some s.frameNo)) ∧
    (∃ (s : State) (x : Term) (m : Fin 4), s.inServiceAny x = true ∧ m ≠ 0 ∧ s.n .terminalPowerModes x / 2 ^ (m.val - 1) % 2 = 1 ∧ (s.n .terminalPowerState x = 0 ∨ s.n .terminalPowerState x = 5)) ∧
    (∃ (s : State) (x : Term) (e : Time), (s.term x).emptySince = some e ∧ s.avail = true ∧ s.inServiceAny x = true ∧ s.n .terminalPowerState x = 0 ∧ s.n .terminalPowerModes x ≠ 0 ∧ s.on .terminalForceAwake x = false ∧ s.n .terminalSnuffPhase x = 0 ∧ e + s.n .terminalAwakeHold x * Tm.ms ≤ s.now) ∧
    (∃ (s : State) (x : Term) (e : Time), (s.term x).emptySince = some e ∧ s.avail = true ∧ s.inServiceAny x = true ∧ s.n .terminalPowerState x = 0 ∧ s.n .terminalPowerModes x ≠ 0 ∧ s.on .terminalForceAwake x = false ∧ s.n .terminalSnuffPhase x = 0 ∧ s.now < e + s.n .terminalAwakeHold x * Tm.ms) ∧
    (∃ (s : State) (x : Term), (s.term x).aware = true ∧ (s.term x).lastGood + s.n .terminalAwareInterval x * Tm.ms ≤ s.now) ∧
    (∃ (s : State) (x : Term), ((s.term x).aware = false ∨ s.now < (s.term x).lastGood + s.n .terminalAwareInterval x * Tm.ms)) :=
  ⟨⟨at_ Tm.s (withSide (withO (term5 4) [(.channelGeneration, 3, 1)]) { SideSt.idle with correction := some 7 }), 3, 5, 0, 7, by decide +kernel⟩,
   ⟨at_ (8 * Tm.frame) (withSide (withO (term5 4) [(.channelGeneration, 3, 1)]) { SideSt.idle with correction := some 7 }), 3, 5, 0, 7, by decide +kernel⟩,
   ⟨at_ (1000 * Tm.s) (withO (term5 4) [(.terminalPowerState, 5, 3)]), 3, 5, 0, by decide +kernel⟩,
   ⟨withO (term5 4) [(.terminalPowerState, 5, 2)], 3, 5, 0, by decide +kernel⟩,
   ⟨at_ (1000 * Tm.s) (term5 5), 3, 5, 0, by decide +kernel⟩,
   ⟨term5 5, 3, 5, 0, by decide +kernel⟩,
   ⟨withO (term5 4) [(.terminalPowerState, 5, 1), (.terminalPowerModes, 5, 4)], 5, 3, by decide +kernel⟩,
   ⟨(withO (term5 4) [(.terminalPowerState, 5, 1), (.terminalPowerModes, 5, 4)]).setTerm 5 { TermSt.idle with wakeFrame := some (withO (term5 4) []).frameNo }, 5, 3, by decide +kernel⟩,
   ⟨at_ Tm.s (withSide (withO (term5 4) [(.channelGeneration, 3, 1)]) { SideSt.idle with correction := some 7 }), 5, 3, by decide +kernel⟩,
   ⟨withO (term5 4) [(.terminalPowerState, 5, 0), (.terminalPowerModes, 5, 4)], 5, 3, by decide +kernel⟩,
   ⟨at_ (1000 * Tm.s) ((withO (term5 4) [(.terminalPowerModes, 5, 1)]).setTerm 5 { TermSt.idle with emptySince := some 0 }), 5, 0, by decide +kernel⟩,
   ⟨at_ (1000 * Tm.s) ((withO (term5 4) [(.terminalPowerModes, 5, 1), (.terminalAwakeHold, 5, 1000)]).setTerm 5 { TermSt.idle with emptySince := some (1000 * Tm.s) }), 5, 1000 * Tm.s, by decide +kernel⟩,
   ⟨at_ (1000 * Tm.s) ((term5 4).setTerm 5 { TermSt.idle with aware := true }), 5, by decide +kernel⟩,
   ⟨at_ Tm.s (withSide (withO (term5 4) [(.channelGeneration, 3, 1)]) { SideSt.idle with correction := some 7 }), 5, by decide +kernel⟩⟩

theorem witness_MapsComputedAndLanesVoted_cases :
    (∃ (s : State), (s.bit Reg.grantCtrl 0 = false ∨ s.boot.glim = true)) ∧
    (∃ (s : State), s.bit Reg.grantCtrl 0 = true ∧ s.boot.glim = false ∧ ((∀ c : Chan, s.mapFrames c = []))) ∧
    (∃ (s : State) (l : GrantLane), s.gl l = 1 ∧ s.grants.reload = none ∧ ((∃ k ∈ (s.glane l).source, s.gl k = 3))) ∧
    (∃ (s : State) (l : GrantLane), (s.gl l ≠ 1 ∨ s.grants.reload.isSome = true ∨ (∀ k ∈ (s.glane l).source, s.gl k ≠ 3))) ∧
    (∃ (s : State) (l : GrantLane), s.gl l = 2 ∧ 2 ≤ (s.glane l).shadow ∧ s.grants.reload = none ∧ s.wick % Tm.frame = 0) ∧
    (∃ (s : State) (l : GrantLane), (s.gl l ≠ 2 ∨ (s.glane l).shadow < 2 ∨ s.grants.reload.isSome = true ∨ s.wick % Tm.frame ≠ 0)) ∧
    (∃ (s : State), s.grants.reload = none) ∧
    (∃ (s : State), s.grants.reload.isSome = true) ∧
    (∃ (s : State), s.grants.reload.isSome = true ∧ s.wick % Tm.frame = 0 ∧ ((∀ l : GrantLane, s.gl l = 2 ∧ 2 ≤ (s.glane l).shadow)) ∧ s.grants.voteLater = none ∧ s.grants.reloadDue = false ∧ s.grants.differ = []) ∧
    (∃ (s : State), s.grants.reload.isSome = true ∧ s.wick % Tm.frame = 0 ∧ ((∀ l : GrantLane, s.gl l = 2 ∧ 2 ≤ (s.glane l).shadow)) ∧ s.grants.voteLater = none ∧ s.grants.reloadDue = false ∧ s.on .grantVoteEnable 0 = true ∧ ((∀ a b : GrantLane, a ≠ b → (a.val, b.val) ∈ s.grants.differ))) ∧
    (∃ (s : State) (m : Master) (v : Nat), s.Admits m .grantLaneTest 0 (beBytes 1 v) ∧ v ≤ 2 ∧ s.voters = [0, 1, 2] ∧ s.grants.test = none) ∧
    (∃ (s : State) (m : Master) (v : Nat), s.Admits m .grantLaneTest 0 (beBytes 1 v) ∧ v ≤ 2 ∧ (s.voters ≠ [0, 1, 2] ∨ s.grants.test.isSome = true)) ∧
    (∃ (s : State) (l : Nat) (a : Time) (given out : Bool), s.grants.test = some (l, a, given, out) ∧ given = true ∧ out = false) ∧
    (∃ (s : State) (l : Nat) (a : Time) (given out : Bool), s.grants.test = some (l, a, given, out) ∧ given = true ∧ out = true ∧ s.gl l = 3 ∧ s.now ≤ a + 10 * Tm.ms) ∧
    (∃ (s : State) (l : Nat) (a : Time) (given out : Bool), s.grants.test = some (l, a, given, out) ∧ given = true ∧ out = true ∧ a + 10 * Tm.ms < s.now) ∧
    (∃ (s : State) (l : Nat) (a : Time) (given out : Bool), s.grants.test = some (l, a, given, out) ∧ (given = false ∨ (out = true ∧ s.gl l ≠ 3 ∧ s.now < a + 10 * Tm.ms))) ∧
    (∃ (s : State) (m : Master) (v : Nat), s.Admits m .grantLaneRelease 0 (beBytes 1 v) ∧ v ≤ 2 ∧ s.gl v = 5) ∧
    (∃ (s : State) (m : Master) (v : Nat), s.Admits m .grantLaneRelease 0 (beBytes 1 v) ∧ v ≤ 2 ∧ s.gl v ≠ 5) :=
  ⟨⟨withG (withO base [(.grantLaneState0, 0, 2), (.grantLaneState1, 0, 2), (.grantLaneState2, 0, 2)]) fun g => { g with lanes := .replicate 3 { GLaneSt.idle with shadow := 2 }, reload := some (0, 2) }, by decide +kernel⟩,
   ⟨withG (withO voting [(.grantLaneState2, 0, 2)]) fun g => { g with mapAt := some 9 }, by decide +kernel⟩,
   ⟨withG (withO voting [(.grantLaneState2, 0, 1)]) fun g => { g with lanes := .replicate 3 { GLaneSt.idle with source := some 0 } }, 2, by decide +kernel⟩,
   ⟨withO voting [(.channelLaneState, 3, 2), (.channelGeneration, 3, 3)], 2, by decide +kernel⟩,
   ⟨withG (withO voting [(.grantLaneState2, 0, 2)]) fun g => { g with lanes := .replicate 3 { GLaneSt.idle with shadow := 2 } }, 2, by decide +kernel⟩,
   ⟨withO voting [(.channelLaneState, 3, 2), (.channelGeneration, 3, 3)], 2, by decide +kernel⟩,
   ⟨voting, by decide +kernel⟩,
   ⟨withG (withO base [(.grantLaneState0, 0, 2), (.grantLaneState1, 0, 2), (.grantLaneState2, 0, 2)]) fun g => { g with lanes := .replicate 3 { GLaneSt.idle with shadow := 2 }, reload := some (0, 2) }, by decide +kernel⟩,
   ⟨withG (withO base [(.grantLaneState0, 0, 2), (.grantLaneState1, 0, 2), (.grantLaneState2, 0, 2)]) fun g => { g with lanes := .replicate 3 { GLaneSt.idle with shadow := 2 }, reload := some (0, 2) }, by decide +kernel⟩,
   ⟨withG (withO base [(.grantVoteEnable, 0, 1), (.grantLaneState0, 0, 2), (.grantLaneState1, 0, 2), (.grantLaneState2, 0, 2)]) fun g => { g with lanes := .replicate 3 { GLaneSt.idle with shadow := 2 }, reload := some (0, 2), differ := [(0, 1), (0, 2), (1, 0), (1, 2), (2, 0), (2, 1)] }, by decide +kernel⟩,
   ⟨voting, 0, 2, by unfold State.Admits State.Takes; decide +kernel⟩,
   ⟨withG (withO voting [(.grantLaneState2, 0, 2)]) fun g => { g with mapAt := some 9 }, 0, 2, by unfold State.Admits State.Takes; decide +kernel⟩,
   ⟨at_ (11 * Tm.ms) (withG (withO voting [(.grantLaneState2, 0, 4)]) fun g => { g with test := some (2, 0, true, false) }), 2, 0, true, false, by decide +kernel⟩,
   ⟨at_ (9 * Tm.ms) (withG (withO voting [(.grantLaneState2, 0, 3)]) fun g => { g with test := some (2, 0, true, true) }), 2, 0, true, true, by decide +kernel⟩,
   ⟨at_ (11 * Tm.ms) (withG (withO voting [(.grantLaneState2, 0, 4)]) fun g => { g with test := some (2, 0, true, true) }), 2, 0, true, true, by decide +kernel⟩,
   ⟨at_ (9 * Tm.ms) (withG (withO voting [(.grantLaneState2, 0, 3)]) fun g => { g with test := some (2, 0, false, true) }), 2, 0, false, true, by decide +kernel⟩,
   ⟨withO voting [(.grantLaneState2, 0, 5)], 0, 2, by unfold State.Admits State.Takes; decide +kernel⟩,
   ⟨withO voting [(.channelLaneState, 3, 2), (.channelGeneration, 3, 3)], 0, 2, by unfold State.Admits State.Takes; decide +kernel⟩⟩

theorem witness_UplinkFramesReceived_cases :
    (∃ (s : State) (p : Uplink), s.receives p = false ∧ (s.n .uplinkLinkState p ≠ 3 ∨ s.boot.glim = true)) ∧
    (∃ (s : State) (p : Uplink), s.receives p = false ∧ s.n .uplinkLinkState p = 3 ∧ s.boot.glim = false) :=
  ⟨⟨base, 5, by decide +kernel⟩,
   ⟨withO up5 [(.uplinkLinkState, 5, 3)], 5, by decide +kernel⟩⟩

theorem witness_FlowControlBothWays_cases :
    (∃ (s : State) (p : Uplink) (c : Fin 8), ((∀ e ∈ tabFind (s.upl p).stops c, e ≤ s.now))) ∧
    (∃ (s : State) (p : Uplink) (c : Fin 8), ((∃ e ∈ tabFind (s.upl p).stops c, s.now < e))) :=
  ⟨⟨up5.setUpl 5 { UplinkSt.idle with stops := [(7, 0)] }, 5, 7, by decide +kernel⟩,
   ⟨up5.setUpl 5 { UplinkSt.idle with stops := [(7, 10 ^ 20)] }, 5, 7, by decide +kernel⟩⟩

theorem witness_UplinkLinksAndSending_cases :
    (∃ (s : State) (p : Uplink), (s.n .uplinkLinkState p = 1 ∧ s.n .uplinkSnuffPhase p = 0 ∧ s.portExists p = true ∧ (s.upl p).pll % 16 &&& (2 ^ s.portLanes p - 1) = 2 ^ s.portLanes p - 1)) ∧
    (∃ (s : State) (p : Uplink), (¬ (s.n .uplinkLinkState p = 1 ∧ s.n .uplinkSnuffPhase p = 0 ∧ s.portExists p = true ∧ (s.upl p).pll % 16 &&& (2 ^ s.portLanes p - 1) = 2 ^ s.portLanes p - 1))) ∧
    (∃ (s : State) (p : Uplink) (lost : Nat), s.n .uplinkLinkState p = 2 ∧ s.n .uplinkLinkDownHold p ≤ lost) ∧
    (∃ (s : State) (p : Uplink) (lost : Nat), (s.n .uplinkLinkState p ≠ 2 ∨ lost < s.n .uplinkLinkDownHold p)) ∧
    (∃ (s : State) (p : Port) (c : Fin 8) (d : QDesc) (rest : List QDesc), p.val < 16 ∧ s.portSends p = true ∧ s.skips 3 p = false ∧ s.queue (txKey (8 * p + c)) = d :: rest ∧ ((∀ e : Fin 8, c < e → s.queue (txKey (8 * p + e)) = [])) ∧ s.verdict d.cell = 1 ∧ s.controlled p d = false ∧ d.len ≤ s.n .uplinkMaxFrame p ∧ s.stopped p c = false ∧ s.peakOk .tx (8 * p + c) = true ∧ s.peakOk .port p = true ∧ (d.ptp = false ∨ s.on .ptpPortOneStep p = false)) ∧
    (∃ (s : State) (p : Port), (s.portSends p = false ∨ s.skips 3 p = true)) ∧
    (∃ (s : State) (p : Port), ((∀ c : Fin 8, ∀ k ∈ State.classQueues p c, s.queue k = []))) :=
  ⟨⟨(withO base [(.uplinkLinkState, 5, 1), (.uplinkSnuffPhase, 5, 0)]).setUpl 5 { UplinkSt.idle with pll := 1 }, 5, by decide +kernel⟩,
   ⟨(up5.setQueue (txKey 47) [desc]).setCell 7 (some cell), 5, by decide +kernel⟩,
   ⟨(up5.setQueue (txKey 47) [desc]).setCell 7 (some cell), 5, 10, by decide +kernel⟩,
   ⟨(withO base [(.uplinkLinkState, 5, 1), (.uplinkSnuffPhase, 5, 0)]).setUpl 5 { UplinkSt.idle with pll := 1 }, 5, 10, by decide +kernel⟩,
   ⟨(up5.setQueue (txKey 47) [desc]).setCell 7 (some cell), 5, 7, desc, [], by decide +kernel⟩,
   ⟨(withO base [(.uplinkLinkState, 5, 1), (.uplinkSnuffPhase, 5, 0)]).setUpl 5 { UplinkSt.idle with pll := 1 }, 5, by decide +kernel⟩,
   ⟨up5, 5, by decide +kernel⟩⟩

theorem witness_EntriesLearnedAndKept_cases :
    (∃ (s : State) (k : Fin 4) (r : LearnReq) (rest : List LearnReq) (p : Nat) (e : GalEntry), s.gal.queues[k] = r :: rest ∧ s.gal.flushing = false ∧ s.bit Reg.galCtrl 0 = true ∧ s.bit Reg.galCtrl 1 = true ∧ s.boot.glim = false ∧ s.galFind r.domain r.mac = some (p, e) ∧ (¬ (e.kind = r.kind ∧ e.dest = r.dest)) ∧ (e.pinned = true ∨ e.static = true ∨ (s.n .galleryMoveLimit 0 ≠ 0 ∧ e.moveSec = s.second % 16 ∧ s.n .galleryMoveLimit 0 ≤ e.moves) ∨ s.atLimit r.kind r.dest = true)) ∧
    (∃ (s : State) (k : Fin 4) (r : LearnReq) (rest : List LearnReq) (p : Nat) (e : GalEntry), s.gal.queues[k] = r :: rest ∧ s.gal.flushing = false ∧ s.bit Reg.galCtrl 0 = true ∧ s.bit Reg.galCtrl 1 = true ∧ s.boot.glim = false ∧ s.galFind r.domain r.mac = some (p, e) ∧ (¬ (e.kind = r.kind ∧ e.dest = r.dest)) ∧ e.pinned = false ∧ e.static = true) ∧
    (∃ (s : State) (k : Fin 4) (r : LearnReq) (rest : List LearnReq) (p : Nat) (e : GalEntry), s.gal.queues[k] = r :: rest ∧ s.gal.flushing = false ∧ s.bit Reg.galCtrl 0 = true ∧ s.bit Reg.galCtrl 1 = true ∧ s.boot.glim = false ∧ s.galFind r.domain r.mac = some (p, e) ∧ (¬ (e.kind = r.kind ∧ e.dest = r.dest)) ∧ e.pinned = false ∧ e.static = false ∧ (s.n .galleryMoveLimit 0 ≠ 0 ∧ e.moveSec = s.second % 16 ∧ s.n .galleryMoveLimit 0 ≤ e.moves)) ∧
    (∃ (s : State) (k : Fin 4) (r : LearnReq) (rest : List LearnReq) (p : Nat) (e : GalEntry), s.gal.queues[k] = r :: rest ∧ s.gal.flushing = false ∧ s.bit Reg.galCtrl 0 = true ∧ s.bit Reg.galCtrl 1 = true ∧ s.boot.glim = false ∧ s.galFind r.domain r.mac = some (p, e) ∧ (¬ (e.kind = r.kind ∧ e.dest = r.dest)) ∧ e.pinned = false ∧ e.static = false ∧ (¬ (s.n .galleryMoveLimit 0 ≠ 0 ∧ e.moveSec = s.second % 16 ∧ s.n .galleryMoveLimit 0 ≤ e.moves)) ∧ s.atLimit r.kind r.dest = false) ∧
    (∃ (s : State) (k : Fin 131072), s.boot.lanternUp = true ∧ s.ucie.headless = false ∧ k.val ∈ s.gal.lostRules) ∧
    (∃ (s : State) (k : Fin 131072), (s.boot.lanternUp = false ∨ s.ucie.headless = true ∨ k.val ∉ s.gal.lostRules)) :=
  ⟨⟨asks (gal.galSet place (some { entry with dest := 6, static := true })), 1, request, [], place, { entry with dest := 6, static := true }, by decide +kernel⟩,
   ⟨asks (gal.galSet place (some { entry with dest := 6, static := true })), 1, request, [], place, { entry with dest := 6, static := true }, by decide +kernel⟩,
   ⟨asks (gal.galSet place (some { entry with dest := 6, moves := 5 })), 1, request, [], place, { entry with dest := 6, moves := 5 }, by decide +kernel⟩,
   ⟨asks ((withO gal [(.galleryMoveLimit, 0, 2)]).galSet place (some { entry with dest := 6, moves := 1 })), 1, request, [], place, { entry with dest := 6, moves := 1 }, by decide +kernel⟩,
   ⟨gal.setGal fun g => { g with lostRules := [131071] }, 131071, by decide +kernel⟩,
   ⟨asks gal, 131071, by decide +kernel⟩⟩

theorem witness_GalleryCommandsServed_cases :
    (∃ (s : State) (m : Master) (c : GalCmd) (p : Nat), s.Admits m .galleryCommand m (State.galWord 2 c) ∧ State.galParse (State.galWord 2 c) = c ∧ State.galFormed 2 (State.galWord 2 c) c = true ∧ s.galFind c.domain c.mac = none ∧ (c.flags % 2 = 0 ∨ s.gal.shadow.length < 65536) ∧ (s.freeWay 0 (galBucket 0 c.domain c.mac) = some p ∨ (s.freeWay 0 (galBucket 0 c.domain c.mac) = none ∧
      s.freeWay 1 (galBucket 1 c.domain c.mac) = some p)) ∧ c.flags % 2 = 1) ∧
    (∃ (s : State) (m : Master) (c : GalCmd) (p : Nat), s.Admits m .galleryCommand m (State.galWord 2 c) ∧ State.galParse (State.galWord 2 c) = c ∧ State.galFormed 2 (State.galWord 2 c) c = true ∧ s.galFind c.domain c.mac = none ∧ (c.flags % 2 = 0 ∨ s.gal.shadow.length < 65536) ∧ (s.freeWay 0 (galBucket 0 c.domain c.mac) = some p ∨ (s.freeWay 0 (galBucket 0 c.domain c.mac) = none ∧
      s.freeWay 1 (galBucket 1 c.domain c.mac) = some p)) ∧ c.flags % 2 = 0) ∧
    (∃ (s : State) (m : Master) (c : GalCmd) (p : Nat) (old : GalEntry), s.Admits m .galleryCommand m (State.galWord 2 c) ∧ State.galParse (State.galWord 2 c) = c ∧ State.galFormed 2 (State.galWord 2 c) c = true ∧ s.galFind c.domain c.mac = some (p, old) ∧ (¬ (c.flags / 4 % 2 = 1) ∨ (¬ (old.pinned = true ∧ ¬ c.flags / 16 % 2 = 1) ∧ old.static = true ∧ ¬ c.flags % 2 = 1))) ∧
    (∃ (s : State) (m : Master) (c : GalCmd) (p : Nat) (old : GalEntry), s.Admits m .galleryCommand m (State.galWord 2 c) ∧ State.galParse (State.galWord 2 c) = c ∧ State.galFormed 2 (State.galWord 2 c) c = true ∧ s.galFind c.domain c.mac = some (p, old) ∧ (c.flags / 4 % 2 = 1) ∧ ((old.pinned = true ∧ ¬ c.flags / 16 % 2 = 1))) ∧
    (∃ (s : State) (m : Master) (c : GalCmd) (p : Nat) (old : GalEntry), s.Admits m .galleryCommand m (State.galWord 2 c) ∧ State.galParse (State.galWord 2 c) = c ∧ State.galFormed 2 (State.galWord 2 c) c = true ∧ s.galFind c.domain c.mac = some (p, old) ∧ (c.flags / 4 % 2 = 1) ∧ (¬ (old.pinned = true ∧ ¬ c.flags / 16 % 2 = 1)) ∧ (old.static = false ∨ c.flags % 2 = 1) ∧ (c.flags % 2 = 0 ∨ old.static = true ∨ s.gal.shadow.length < 65536)) ∧
    (∃ (s : State) (m : Master) (c : GalCmd) (p : Nat) (e : GalEntry), s.Admits m .galleryCommand m (State.galWord 3 c) ∧ State.galParse (State.galWord 3 c) = c ∧ State.galFormed 3 (State.galWord 3 c) c = true ∧ s.galFind c.domain c.mac = some (p, e) ∧ (e.pinned = false ∨ c.flags / 16 % 2 = 1)) ∧
    (∃ (s : State) (m : Master) (c : GalCmd) (p : Nat) (e : GalEntry), s.Admits m .galleryCommand m (State.galWord 3 c) ∧ State.galParse (State.galWord 3 c) = c ∧ State.galFormed 3 (State.galWord 3 c) c = true ∧ s.galFind c.domain c.mac = some (p, e) ∧ e.pinned = true ∧ c.flags / 16 % 2 = 0) ∧
    (∃ (s : State) (m : Master) (c : GalCmd), s.Admits m .galleryCommand m (State.galWord 4 c) ∧ State.galParse (State.galWord 4 c) = c ∧ State.galFormed 4 (State.galWord 4 c) c = true ∧ s.gal.walks.length < 4) ∧
    (∃ (s : State) (m : Master) (c : GalCmd), s.Admits m .galleryCommand m (State.galWord 4 c) ∧ State.galParse (State.galWord 4 c) = c ∧ State.galFormed 4 (State.galWord 4 c) c = true ∧ 4 ≤ s.gal.walks.length) ∧
    (∃ (s : State) (m : Master) (c : GalCmd) (w : Walk), s.Admits m .galleryCommand m (State.galWord 5 c) ∧ State.galParse (State.galWord 5 c) = c ∧ State.galFormed 5 (State.galWord 5 c) c = true ∧ (s.gal.walks.find? fun w => w.cursor == c.cursor) = some w ∧ ((w.catchUp.take c.count) ++ ((s.galAll.filter fun x => w.pos ≤ x.1 && State.walkMatch w x.2).take (c.count - (w.catchUp.take c.count).length)).map fun x => x.2) ≠ []) ∧
    (∃ (s : State) (m : Master) (c : GalCmd) (w : Walk), s.Admits m .galleryCommand m (State.galWord 5 c) ∧ State.galParse (State.galWord 5 c) = c ∧ State.galFormed 5 (State.galWord 5 c) c = true ∧ (s.gal.walks.find? fun w => w.cursor == c.cursor) = some w ∧ ((w.catchUp.take c.count) ++ ((s.galAll.filter fun x => w.pos ≤ x.1 && State.walkMatch w x.2).take (c.count - (w.catchUp.take c.count).length)).map fun x => x.2) = [] ∧ (w.rescan = false ∨ ((s.galAll.filter fun x => State.walkMatch w x.2).take c.count) = [])) ∧
    (∃ (s : State) (m : Master) (c : GalCmd) (w : Walk), s.Admits m .galleryCommand m (State.galWord 5 c) ∧ State.galParse (State.galWord 5 c) = c ∧ State.galFormed 5 (State.galWord 5 c) c = true ∧ (s.gal.walks.find? fun w => w.cursor == c.cursor) = some w ∧ ((w.catchUp.take c.count) ++ ((s.galAll.filter fun x => w.pos ≤ x.1 && State.walkMatch w x.2).take (c.count - (w.catchUp.take c.count).length)).map fun x => x.2) = [] ∧ w.rescan = true ∧ ((s.galAll.filter fun x => State.walkMatch w x.2).take c.count) ≠ []) ∧
    (∃ (s : State) (m : Master) (c : GalCmd), s.Admits m .galleryCommand m (State.galWord 7 c) ∧ State.galParse (State.galWord 7 c) = c ∧ State.galFormed 7 (State.galWord 7 c) c = true ∧ s.gal.flushes.length < 8) ∧
    (∃ (s : State) (m : Master) (c : GalCmd), s.Admits m .galleryCommand m (State.galWord 7 c) ∧ State.galParse (State.galWord 7 c) = c ∧ State.galFormed 7 (State.galWord 7 c) c = true ∧ 8 ≤ s.gal.flushes.length) :=
  ⟨⟨gal, 1, gcmd 3 0 5 9, place, by unfold State.Admits State.Takes; decide +kernel⟩,
   ⟨gal, 1, gcmd 0 0 5 9, place, by unfold State.Admits State.Takes; decide +kernel⟩,
   ⟨gal.galSet place (some { entry with static := true }), 1, gcmd 0 0 5 9, place, { entry with static := true }, by unfold State.Admits State.Takes; decide +kernel⟩,
   ⟨gal.galSet place (some { entry with pinned := true }), 1, gcmd 4 0 5 9, place, { entry with pinned := true }, by unfold State.Admits State.Takes; decide +kernel⟩,
   ⟨gal.galSet place (some { entry with static := true }), 1, gcmd 5 0 5 9, place, { entry with static := true }, by unfold State.Admits State.Takes; decide +kernel⟩,
   ⟨gal.galSet place (some { entry with static := true }), 1, gcmd 0 0 0 0, place, { entry with static := true }, by unfold State.Admits State.Takes; decide +kernel⟩,
   ⟨gal.galSet place (some { entry with pinned := true }), 1, gcmd 0 0 0 0, place, { entry with pinned := true }, by unfold State.Admits State.Takes; decide +kernel⟩,
   ⟨gal, 1, { gcmd 0 0xFF 0 0 with domain := 0xFFFF }, by unfold State.Admits State.Takes; decide +kernel⟩,
   ⟨gal.setGal fun g => { g with walks := List.replicate 4 walk }, 1, { gcmd 0 0xFF 0 0 with domain := 0xFFFF }, by unfold State.Admits State.Takes; decide +kernel⟩,
   ⟨(gal.galSet place (some entry)).setGal fun g => { g with walks := [walk] }, 1, ⟨7, 0, 0, 0, 0, 0, 0, 3, 16⟩, walk, by unfold State.Admits State.Takes; decide +kernel⟩,
   ⟨gal.setGal fun g => { g with walks := [walk] }, 1, ⟨7, 0, 0, 0, 0, 0, 0, 3, 16⟩, walk, by unfold State.Admits State.Takes; decide +kernel⟩,
   ⟨(gal.galSet place (some entry)).setGal fun g => { g with walks := [{ walk with pos := 524352, rescan := true }] }, 1, ⟨7, 0, 0, 0, 0, 0, 0, 3, 16⟩, { walk with pos := 524352, rescan := true }, by unfold State.Admits State.Takes; decide +kernel⟩,
   ⟨gal, 1, { gcmd 0 0xFF 0 0 with domain := 0xFFFF }, by unfold State.Admits State.Takes; decide +kernel⟩,
   ⟨gal.setGal fun g => { g with flushes := List.replicate 8 ⟨0, 0xFF, 0, none, false, none⟩ }, 1, { gcmd 0 0xFF 0 0 with domain := 0xFFFF }, by unfold State.Admits State.Takes; decide +kernel⟩⟩

theorem witness_FlushesAndWalksEnd_cases :
    (∃ (s : State), (s.gal.flushes = [] ∨ s.gal.flushing = true)) ∧
    (∃ (s : State), (s.gal.flushes = [] ∨ s.gal.flushing = false)) :=
  ⟨⟨gal, by decide +kernel⟩,
   ⟨gal, by decide +kernel⟩⟩

theorem witness_FramesAskedForAndSent_cases :
    (∃ (s : State) (ch : Chan) (room key : Nat) (r : RestSt), s.framing ch = true ∧ s.boot.glim = false ∧ s.skips 2 ch = false ∧ s.restOf ch = some r ∧ s.restKey ch r = some key ∧ State.gemGo (s.gen ch) room r.left = true) ∧
    (∃ (s : State) (ch : Chan) (room key : Nat) (r : RestSt), s.framing ch = true ∧ s.boot.glim = false ∧ s.skips 2 ch = false ∧ s.restOf ch = some r ∧ s.restKey ch r = some key ∧ State.gemGo (s.gen ch) room r.left = false) ∧
    (∃ (s v : State) (ch : Chan) (room key : Nat) (x : BondOut) (w : List BondOut), s.framing ch = true ∧ s.boot.glim = false ∧ s.skips 2 ch = false ∧ s.restOf ch = none ∧ v = s.waitHold ch ∧ v.bondWait ch = x :: w ∧ v.frameKey ch x.flow x.bcast = some key ∧ State.gemGo (s.gen ch) room (if x.seq.isSome then x.len + 4 else x.len) = true) ∧
    (∃ (s v : State) (ch : Chan) (room key : Nat) (x : BondOut) (w : List BondOut), s.framing ch = true ∧ s.boot.glim = false ∧ s.skips 2 ch = false ∧ s.restOf ch = none ∧ v = s.waitHold ch ∧ v.bondWait ch = x :: w ∧ v.frameKey ch x.flow x.bcast = some key ∧ State.gemGo (s.gen ch) room (if x.seq.isSome then x.len + 4 else x.len) = false) ∧
    (∃ (s v u : State) (ch : Chan) (room x cg : Nat) (a b : Bool) (m : OmciMsg) (q : List OmciMsg), s.framing ch = true ∧ s.boot.glim = false ∧ s.skips 2 ch = false ∧ s.restOf ch = none ∧ ((∀ y ∈ s.bondWait ch, s.frameKey ch y.flow y.bcast = none)) ∧ v = ((s.waitHold ch).headWork ch).settleIdle ∧ v.select ch (v.pairWaiting ch) = some (.omci x cg a b, u) ∧ v.omci x = m :: q ∧ State.gemGo (s.gen ch) room (State.omciLen m) = true) ∧
    (∃ (s v u : State) (ch : Chan) (room x cg : Nat) (a b : Bool) (m : OmciMsg) (q : List OmciMsg), s.framing ch = true ∧ s.boot.glim = false ∧ s.skips 2 ch = false ∧ s.restOf ch = none ∧ ((∀ y ∈ s.bondWait ch, s.frameKey ch y.flow y.bcast = none)) ∧ v = ((s.waitHold ch).headWork ch).settleIdle ∧ v.select ch (v.pairWaiting ch) = some (.omci x cg a b, u) ∧ v.omci x = m :: q ∧ State.gemGo (s.gen ch) room (State.omciLen m) = false) ∧
    (∃ (s v u : State) (ch : Chan) (room q x cg port key : Nat) (a b c e : Bool) (d : QDesc) (rest : List QDesc), s.framing ch = true ∧ s.boot.glim = false ∧ s.skips 2 ch = false ∧ s.restOf ch = none ∧ ((∀ y ∈ s.bondWait ch, s.frameKey ch y.flow y.bcast = none)) ∧ v = ((s.waitHold ch).headWork ch).settleIdle ∧ v.select ch (v.pairWaiting ch) = some (.frame q x cg a b c e, u) ∧ v.queue q = d :: rest ∧ d.flow ≠ noFlow ∧ s.flowBonded d.flow = false ∧ s.flowPort d.flow ch = some port ∧ s.frameKey ch d.flow d.bcast = some key ∧ State.gemGo (s.gen ch) room d.len = true) ∧
    (∃ (s v u : State) (ch : Chan) (room q x cg port key : Nat) (a b c e : Bool) (d : QDesc) (rest : List QDesc), s.framing ch = true ∧ s.boot.glim = false ∧ s.skips 2 ch = false ∧ s.restOf ch = none ∧ ((∀ y ∈ s.bondWait ch, s.frameKey ch y.flow y.bcast = none)) ∧ v = ((s.waitHold ch).headWork ch).settleIdle ∧ v.select ch (v.pairWaiting ch) = some (.frame q x cg a b c e, u) ∧ v.queue q = d :: rest ∧ d.flow ≠ noFlow ∧ s.flowBonded d.flow = false ∧ s.flowPort d.flow ch = some port ∧ s.frameKey ch d.flow d.bcast = some key ∧ State.gemGo (s.gen ch) room d.len = false) :=
  ⟨⟨withT sends5 fun m => { m with rest := [(3, some ⟨50, 4, 5, 77, 0, none, false, false⟩)] }, 3, 16, 0, ⟨50, 4, 5, 77, 0, none, false, false⟩, by decide +kernel⟩,
   ⟨withT sends5 fun m => { m with rest := [(3, some ⟨50, 4, 5, 77, 0, none, false, false⟩)] }, 3, 0, 0, ⟨50, 4, 5, 77, 0, none, false, false⟩, by decide +kernel⟩,
   ⟨sends5.setBondWait 3 [⟨4, some 1, true, true, 50, false, none⟩], (sends5.setBondWait 3 [⟨4, some 1, true, true, 50, false, none⟩]).waitHold 3, 3, 100, 0, ⟨4, some 1, true, true, 50, false, none⟩, [], by decide +kernel⟩,
   ⟨sends5.setBondWait 3 [⟨4, some 1, true, true, 50, false, none⟩], (sends5.setBondWait 3 [⟨4, some 1, true, true, 50, false, none⟩]).waitHold 3, 3, 8, 0, ⟨4, some 1, true, true, 50, false, none⟩, [], by decide +kernel⟩,
   ⟨(sends5.setOmci 5 [omciMsg]), ahead (sends5.setOmci 5 [omciMsg]), pickedState (sends5.setOmci 5 [omciMsg]), 3, 1000, 5, 3, false, false, omciMsg, [], by decide +kernel⟩,
   ⟨(sends5.setOmci 5 [omciMsg]), ahead (sends5.setOmci 5 [omciMsg]), pickedState (sends5.setOmci 5 [omciMsg]), 3, 8, 5, 3, false, false, omciMsg, [], by decide +kernel⟩,
   ⟨queued, ahead queued, pickedState queued, 3, 1000, 9, 5, 3, 1500, 0, false, false, false, false, { desc with flow := 4 }, [], by decide +kernel⟩,
   ⟨queued, ahead queued, pickedState queued, 3, 8, 9, 5, 3, 1500, 0, false, false, false, false, { desc with flow := 4 }, [], by decide +kernel⟩⟩

theorem witness_PassageFramesReceived_cases :
    (∃ (s : State) (q : Psg) (f : PsgFrame), s.FrameIn q f ∧ s.SeqNew f ∧ s.windowSources.length < 256 ∧ s.on .macsecPortEnable (16 + q) = false ∧ (f.pending = true ∨ f.crcOk = true) ∧ s.pressed (160 + 8 * q + f.cls) = false) ∧
    (∃ (s : State) (q : Psg) (f : PsgFrame), s.FrameIn q f ∧ s.SeqNew f ∧ s.windowSources.length < 256 ∧ s.on .macsecPortEnable (16 + q) = false ∧ (f.pending = true ∨ f.crcOk = true) ∧ s.pressed (160 + 8 * q + f.cls) = true) ∧
    (∃ (s : State) (q : Psg) (f : PsgFrame), s.FrameIn q f ∧ s.SeqNew f ∧ s.windowSources.length < 256 ∧ s.on .macsecPortEnable (16 + q) = false ∧ (f.pending = true ∨ f.crcOk = true) ∧ f.dest.val ≠ 0xFFF ∧ f.dest.val = s.n .passageDeviceId 0 ∧ f.type.val ≠ 0) ∧
    (∃ (s : State) (q : Psg) (f : PsgFrame), s.FrameIn q f ∧ s.SeqNew f ∧ s.windowSources.length < 256 ∧ s.on .macsecPortEnable (16 + q) = false ∧ (f.pending = true ∨ f.crcOk = true) ∧ f.dest.val ≠ 0xFFF ∧ f.dest.val ≠ s.n .passageDeviceId 0 ∧ s.n .passageHopLimit 0 ≤ f.hops.val) ∧
    (∃ (s : State) (q : Psg) (f : PsgFrame), s.FrameIn q f ∧ s.SeqNew f ∧ s.windowSources.length < 256 ∧ s.on .macsecPortEnable (16 + q) = false ∧ (f.pending = true ∨ f.crcOk = true) ∧ f.dest.val ≠ 0xFFF ∧ f.dest.val ≠ s.n .passageDeviceId 0 ∧ f.hops.val < s.n .passageHopLimit 0) ∧
    (∃ (s : State) (q : Psg) (src : Fin 4095) (d : BridgeDomain) (mac : BitVec 48), s.psgReceives q = true ∧ s.on .domainEnable d = true ∧ s.on .domainLearn d = true ∧ (¬ (∃ x ∈ (s.gal.queues[State.engineOf d]), x.domain = d.val ∧ x.mac = mac.toNat ∧ x.kind = 2 ∧ x.dest = src.val)) ∧ (s.gal.queues[State.engineOf d]).length < 1024) ∧
    (∃ (s : State) (q : Psg) (src : Fin 4095) (d : BridgeDomain) (mac : BitVec 48), s.psgReceives q = true ∧ s.on .domainEnable d = true ∧ s.on .domainLearn d = true ∧ (¬ (∃ x ∈ (s.gal.queues[State.engineOf d]), x.domain = d.val ∧ x.mac = mac.toNat ∧ x.kind = 2 ∧ x.dest = src.val)) ∧ 1024 ≤ (s.gal.queues[State.engineOf d]).length) ∧
    (∃ (s : State) (q : Psg) (src : Fin 4095) (d : BridgeDomain) (mac : BitVec 48), s.psgReceives q = true ∧ s.on .domainEnable d = true ∧ s.on .domainLearn d = true ∧ ((∃ x ∈ (s.gal.queues[State.engineOf d]), x.domain = d.val ∧ x.mac = mac.toNat ∧ x.kind = 2 ∧ x.dest = src.val))) ∧
    (∃ (s : State) (q : Psg), s.psgLink q = true) ∧
    (∃ (s : State) (q : Psg), s.psgLink q = false) :=
  ⟨⟨withO psg1 [(.requesterPool, 168, 1), (.poolEnable, 1, 1), (.poolState, 1, 2)], 1, pframe 0 9 0 true, by unfold State.FrameIn State.SeqNew; decide +kernel⟩,
   ⟨withT (withR (withO psg1 [(.sumpSourcePool, 171, 1)]) [(Reg.sumpCtrl, 4)]) fun m => { m with signalled := [1] }, 1, pframe 0 9 0 true, by unfold State.FrameIn State.SeqNew; decide +kernel⟩,
   ⟨psg1, 1, pframe 1 9 2 true, by unfold State.FrameIn State.SeqNew; decide +kernel⟩,
   ⟨psg1, 1, pframe 1 7 63 true, by unfold State.FrameIn State.SeqNew; decide +kernel⟩,
   ⟨psg1, 1, pframe 1 8 2 true, by unfold State.FrameIn State.SeqNew; decide +kernel⟩,
   ⟨withO psg1 [(.domainEnable, 16383, 1)], 1, 4094, 16383, 0x020000000001, by decide +kernel⟩,
   ⟨(withO psg1 [(.domainEnable, 16383, 1)]).setGal fun g => { g with queues := .replicate 4 (List.replicate 1024 request) }, 1, 4094, 16383, 0x020000000001, by decide +kernel⟩,
   ⟨(withO psg1 [(.domainEnable, 16383, 1)]).setGal fun g => { g with queues := .replicate 4 [⟨16383, 0x020000000001, 2, 4094, 9⟩] }, 1, 4094, 16383, 0x020000000001, by decide +kernel⟩,
   ⟨psg1, 1, by decide +kernel⟩,
   ⟨base, 1, by decide +kernel⟩⟩

theorem witness_PassageControlAndTime_cases :
    (∃ (s : State) (q : Psg), ((s.portSends (16 + q) = true ∧ ((∃ c : Fin 8, 16 ≤ ((s.psg q).given[c] + 65536 - (s.psg q).told[c]) % 65536) ∨ (∃ a ∈ (s.psg q).movedAt, a + Tm.us ≤ s.now) ∨ (s.psg q).toldAt + 100 * Tm.us ≤ s.now)))) ∧
    (∃ (s : State) (q : Psg), (¬ (s.portSends (16 + q) = true ∧ ((∃ c : Fin 8, 16 ≤ ((s.psg q).given[c] + 65536 - (s.psg q).told[c]) % 65536) ∨ (∃ a ∈ (s.psg q).movedAt, a + Tm.us ≤ s.now) ∨ (s.psg q).toldAt + 100 * Tm.us ≤ s.now)))) ∧
    (∃ (s : State), s.casc.presentAt + Tm.ms ≤ s.now ∧ s.boot.glim = false) ∧
    (∃ (s : State), (s.now < s.casc.presentAt + Tm.ms ∨ s.boot.glim = true)) :=
  ⟨⟨at_ Tm.s psg1, 1, by decide +kernel⟩,
   ⟨psg1, 1, by decide +kernel⟩,
   ⟨at_ Tm.s psg1, by decide +kernel⟩,
   ⟨psg1, by decide +kernel⟩⟩

theorem witness_PassageLanesAndPorts_cases :
    (∃ (s : State) (l : Fin 16) (a b : BitVec 32), s.n .passageLaneState l = 1 ∧ ((fun x y : BitVec 32 => markerOk (l.val % 4) x.toNat = true ∧ markerOk (l.val % 4) y.toNat = true ∧ markerMfc y.toNat = (markerMfc x.toNat + 1) % 64) a b ∨ (fun x y : BitVec 32 => markerOk (l.val % 4) x.toNat = true ∧ markerOk (l.val % 4) y.toNat = true ∧ markerMfc y.toNat = (markerMfc x.toNat + 1) % 64) (~~~a) (~~~b))) ∧
    (∃ (s : State) (l : Fin 16) (a b : BitVec 32), (s.n .passageLaneState l ≠ 1 ∨ ¬ ((fun x y : BitVec 32 => markerOk (l.val % 4) x.toNat = true ∧ markerOk (l.val % 4) y.toNat = true ∧ markerMfc y.toNat = (markerMfc x.toNat + 1) % 64) a b ∨ (fun x y : BitVec 32 => markerOk (l.val % 4) x.toNat = true ∧ markerOk (l.val % 4) y.toNat = true ∧ markerMfc y.toNat = (markerMfc x.toNat + 1) % 64) (~~~a) (~~~b)))) ∧
    (∃ (s : State) (l : Fin 16), (s.n .passageLaneState l = 2 ∨ s.n .passageLaneState l = 3)) ∧
    (∃ (s : State) (l : Fin 16), s.n .passageLaneState l ≠ 2 ∧ s.n .passageLaneState l ≠ 3) ∧
    (∃ (s : State) (l : Fin 16) (skew : Nat), (s.n .passageLaneState l = 2 ∨ s.n .passageLaneState l = 3) ∧ skew ≤ 200000) ∧
    (∃ (s : State) (l : Fin 16) (skew : Nat), (s.n .passageLaneState l = 2 ∨ s.n .passageLaneState l = 3) ∧ 200000 < skew) ∧
    (∃ (s : State) (q : Psg), (((s.n .passagePortState q = 2 ∨ s.n .passagePortState q = 3) ∧ s.lanesInUse q = none))) ∧
    (∃ (s : State) (q : Psg), (¬ ((s.n .passagePortState q = 2 ∨ s.n .passagePortState q = 3) ∧ s.lanesInUse q = none))) :=
  ⟨⟨withO base [(.passageLaneState, 15, 1)], 15, BitVec.ofNat 32 (marker 3 63 0 0), BitVec.ofNat 32 (marker 3 0 0 0), by decide +kernel⟩,
   ⟨withO base [(.passageLaneState, 15, 3), (.passageRxLanes, 3, 15)], 15, BitVec.ofNat 32 (marker 3 63 0 0), BitVec.ofNat 32 (marker 3 0 0 0), by decide +kernel⟩,
   ⟨withO base [(.passageLaneState, 15, 3), (.passageRxLanes, 3, 15)], 15, by decide +kernel⟩,
   ⟨withO base [(.passageLaneState, 15, 1)], 15, by decide +kernel⟩,
   ⟨withO base [(.passageLaneState, 15, 2)], 15, 200000, by decide +kernel⟩,
   ⟨withO base [(.passageLaneState, 15, 2)], 15, 200001, by decide +kernel⟩,
   ⟨psg1, 1, by decide +kernel⟩,
   ⟨withO base [(.passageLaneState, 15, 1)], 1, by decide +kernel⟩⟩

theorem witness_TerminalKeysExchangedAndUsed_cases :
    (∃ (s : State) (x : Term) (ch : Nat), s.avail = true ∧ (s.exch x).running = true ∧ s.exchChannel x = some ch ∧ s.gen ch ≠ 1) ∧
    (∃ (s : State) (x : Term) (ch : Nat), s.avail = true ∧ (s.exch x).running = true ∧ s.exchChannel x = some ch ∧ s.gen ch = 1) ∧
    (∃ (s : State) (x : Term), s.switchDue x = true ∧ (s.exch x).due = some 0 ∧ s.restOld x = true) ∧
    (∃ (s : State) (x : Term), s.switchDue x = false) ∧
    (∃ (s : State) (b : Bool) (i : Fin 16384), ((s.slotState b i = 2 ∧ s.n .ponKeyHardLimit 0 ≤ s.n (State.slotObjs b).2 i ∧ (b = true ∨ s.switchDue (i / 2) = false)))) ∧
    (∃ (s : State) (b : Bool) (i : Fin 16384), (¬ (s.slotState b i = 2 ∧ s.n .ponKeyHardLimit 0 ≤ s.n (State.slotObjs b).2 i ∧ (b = true ∨ s.switchDue (i / 2) = false)))) ∧
    (∃ (s : State) (b : Bool) (i : Fin 16384), (s.slotState b i = 3 ∧ tabGet (fun _ => 0) s.ciph.prev (State.slotNo b i) = 0)) ∧
    (∃ (s : State) (b : Bool) (i : Fin 16384), (¬ (s.slotState b i = 3 ∧ tabGet (fun _ => 0) s.ciph.prev (State.slotNo b i) = 0))) :=
  ⟨⟨(keyed 2 0).setExch 5 ⟨false, true, none, false⟩, 5, 3, by decide +kernel⟩,
   ⟨(withO (keyed 2 0) [(.channelGeneration, 3, 1)]).setExch 5 ⟨false, true, none, false⟩, 5, 3, by decide +kernel⟩,
   ⟨fragTail.setExch 5 ⟨false, false, some 0, false⟩, 5, by decide +kernel⟩,
   ⟨(keyed 2 0).setExch 5 ⟨false, true, none, false⟩, 5, by decide +kernel⟩,
   ⟨withO base [(.keySlotState, 16383, 2), (.ponKeyHardLimit, 0, 5), (.keySlotUsage, 16383, 5)], false, 16383, by decide +kernel⟩,
   ⟨(keyed 2 0).setExch 5 ⟨false, true, none, false⟩, false, 16383, by decide +kernel⟩,
   ⟨withO base [(.bcastKeyState, 0, 3)], true, 0, by decide +kernel⟩,
   ⟨(keyed 2 0).setExch 5 ⟨false, true, none, false⟩, true, 0, by decide +kernel⟩⟩

theorem witness_HostKeysLocksAndEntropy_cases :
    (∃ s : State, (s.n .entropyState 0 = 1 ∧ s.bit Reg.ciphCtrl 1 = true ∧ s.fabricRuns = true ∧ s.ciph.maskAt + Tm.ms ≤ s.now)) ∧
    (∃ s : State, (¬ (s.n .entropyState 0 = 1 ∧ s.bit Reg.ciphCtrl 1 = true ∧ s.fabricRuns = true ∧ s.ciph.maskAt + Tm.ms ≤ s.now))) :=
  ⟨⟨at_ Tm.ms (withR (withO base [(.entropyState, 0, 1)]) [(Reg.ciphCtrl, 2)]), by decide +kernel⟩,
   ⟨base, by decide +kernel⟩⟩

theorem witness_ParityAndMemoryErrors_cases :
    (∃ (s : State), s.fabricRuns = false) ∧
    (∃ (s : State) (k : Fin 15), (s.fabricRuns = false ∨ secded k = false)) ∧
    (∃ (s : State), (s.fabricRuns = false ∨ s.on .integrityScrubEnable 0 = false)) ∧
    (∃ (s : State), s.avail = false) :=
  ⟨⟨State.reset, by decide +kernel⟩,
   ⟨base, 9, by decide +kernel⟩,
   ⟨State.reset, by decide +kernel⟩,
   ⟨State.reset, by decide +kernel⟩⟩

theorem witness_WatchdogRailsAndTemperatures_cases :
    (∃ s : State, (s.boot.lanternUp = true ∧ s.boot.recovery = false ∧ s.boot.glim = false ∧ s.boot.dieReset = false ∧ s.bit Reg.integCtrl 3 = true ∧ s.boot.kick + 200 * Tm.ms ≤ s.now)) ∧
    (∃ s : State, (¬ (s.boot.lanternUp = true ∧ s.boot.recovery = false ∧ s.boot.glim = false ∧ s.boot.dieReset = false ∧ s.bit Reg.integCtrl 3 = true ∧ s.boot.kick + 200 * Tm.ms ≤ s.now))) ∧
    (∃ (s : State) (x : Int), (s.num .caseTempWarn 0 < x ∧ s.boot.caseWarned = false ∧ s.wickRuns = true)) ∧
    (∃ (s : State) (x : Int), (¬ (s.num .caseTempWarn 0 < x ∧ s.boot.caseWarned = false ∧ s.wickRuns = true))) ∧
    (∃ (s : State) (x : Int), (s.boot.caseWarned = true ∧ x ≤ s.num .caseTempWarn 0 - 2000)) ∧
    (∃ (s : State) (x : Int), (¬ (s.boot.caseWarned = true ∧ x ≤ s.num .caseTempWarn 0 - 2000))) :=
  ⟨⟨at_ (200 * Tm.ms) (withR base [(Reg.integCtrl, 8)]), by decide +kernel⟩,
   ⟨base, by decide +kernel⟩,
   ⟨base, base.num .caseTempWarn 0 + 1, by decide +kernel⟩,
   ⟨withBoot base fun b => { b with rails := b.rails.set 0 .off }, base.num .caseTempWarn 0 + 1, by decide +kernel⟩,
   ⟨withBoot base fun b => { b with caseWarned := true }, base.num .caseTempWarn 0 - 2000, by decide +kernel⟩,
   ⟨base, base.num .caseTempWarn 0 - 2000, by decide +kernel⟩⟩

theorem witness_LanternLinkAndHeadless_cases :
    (∃ (s : State) (again : Bool), s.linkActive = true ∧ (s.reg Reg.ucieCtrl / 16 % 16 ≤ (if again then s.ucie.attempts + 1 else 1) ∨ 16 < ((s.ucie.failWindow.filter fun x => decide (s.now < x + Tm.ms)).length + 1))) ∧
    (∃ (s : State) (again : Bool), s.linkActive = true ∧ (if again then s.ucie.attempts + 1 else 1) < s.reg Reg.ucieCtrl / 16 % 16 ∧ ((s.ucie.failWindow.filter fun x => decide (s.now < x + Tm.ms)).length + 1) ≤ 16) ∧
    (∃ s : State, s.linkActive = true) ∧
    (∃ s : State, s.linkActive = false) ∧
    (∃ s : State, (s.n .ucieLinkState 0 = 5 ∧ s.ucie.trainStart + 100 * Tm.ms ≤ s.now ∧ s.boot.rails[(2 : Fin 4)] = .inWindow ∧ s.boot.resetLow = false)) ∧
    (∃ s : State, (¬ (s.n .ucieLinkState 0 = 5 ∧ s.ucie.trainStart + 100 * Tm.ms ≤ s.now ∧ s.boot.rails[(2 : Fin 4)] = .inWindow ∧ s.boot.resetLow = false))) ∧
    (∃ (s : State), s.n .ucieLinkState 0 = 1 ∧ s.boot.rails[(3 : Fin 4)] = .inWindow ∧ s.boot.lanternUp = true ∧ (s.boot.recovery = false ∨ s.boot.dieReset = false) ∧ (s.boot.dieReset = false ∨ s.boot.cause ≤ 1)) ∧
    (∃ (s : State) (failed : BitVec 16), s.n .ucieLinkState 0 = 1 ∧ s.boot.rails[(3 : Fin 4)] = .inWindow ∧ s.boot.lanternUp = true ∧ (s.boot.recovery = false ∨ s.boot.dieReset = false) ∧ ((failed.toNat % 256 == 0 : Bool) || failed.toNat / 256 == 0 : Bool) = true ∧ s.boot.dieReset = false) ∧
    (∃ (s : State) (failed : BitVec 16), s.n .ucieLinkState 0 = 1 ∧ s.boot.rails[(3 : Fin 4)] = .inWindow ∧ s.boot.lanternUp = true ∧ (s.boot.recovery = false ∨ s.boot.dieReset = false) ∧ ((failed.toNat % 256 == 0 : Bool) || failed.toNat / 256 == 0 : Bool) = true ∧ s.ucie.headless = true ∧ s.boot.dieReset = false) ∧
    (∃ (s : State) (failed : BitVec 16), s.n .ucieLinkState 0 = 1 ∧ s.boot.rails[(3 : Fin 4)] = .inWindow ∧ s.boot.lanternUp = true ∧ (s.boot.recovery = false ∨ s.boot.dieReset = false) ∧ ((failed.toNat % 256 == 0 : Bool) || failed.toNat / 256 == 0 : Bool) = true ∧ s.boot.dieReset = true) ∧
    (∃ (s : State) (failed : BitVec 16), s.n .ucieLinkState 0 = 1 ∧ s.boot.rails[(3 : Fin 4)] = .inWindow ∧ s.boot.lanternUp = true ∧ (s.boot.recovery = false ∨ s.boot.dieReset = false) ∧ ((failed.toNat % 256 == 0 : Bool) || failed.toNat / 256 == 0 : Bool) = false) ∧
    (∃ s : State, (s.ucie.headless = true ∧ s.boot.lanternUp = true ∧ s.boot.recovery = false ∧ s.linkActive = true)) ∧
    (∃ s : State, (¬ (s.ucie.headless = true ∧ s.boot.lanternUp = true ∧ s.boot.recovery = false ∧ s.linkActive = true))) :=
  ⟨⟨withR (withUcie (link 3) fun u => { u with attempts := 7 }) [(Reg.ucieCtrl, 0x80)], true, by decide +kernel⟩,
   ⟨link 3, true, by decide +kernel⟩,
   ⟨link 2, by decide +kernel⟩,
   ⟨link 5, by decide +kernel⟩,
   ⟨link 5, by decide +kernel⟩,
   ⟨link 3, by decide +kernel⟩,
   ⟨withUcie (link 1) fun u => { u with headless := true }, by decide +kernel⟩,
   ⟨withUcie (link 1) fun u => { u with headless := true }, 0xFF, by decide +kernel⟩,
   ⟨withUcie (link 1) fun u => { u with headless := true }, 0xFF, by decide +kernel⟩,
   ⟨withBoot (link 1) fun b => { b with dieReset := true, cause := 1 }, 0xFF, by decide +kernel⟩,
   ⟨link 1, 0x0101, by decide +kernel⟩,
   ⟨withUcie (withO (link 2) [(.faultCause, 0, 1)]) fun u => { u with headless := true, since := 5 * Tm.ms }, by decide +kernel⟩,
   ⟨link 3, by decide +kernel⟩⟩

theorem witness_SupplyAndResets_cases :
    (∃ (s : State), s.boot.vinUp = true) ∧
    (∃ (s : State), (s.boot.vinUp = false ∨ s.boot.resetLow = false)) ∧
    (∃ s : State, (s.boot.vinUp = true ∧ s.wickRuns = true ∧ s.boot.resetLow = false)) ∧
    (∃ s : State, (¬ (s.boot.vinUp = true ∧ s.wickRuns = true ∧ s.boot.resetLow = false))) ∧
    (∃ s : State, s.boot.vinUp = true) ∧
    (∃ s : State, s.boot.vinUp = false) ∧
    (∃ (s : State), (s.boot.vinUp = false ∨ s.n .powerFailState 0 ≠ 0)) ∧
    (∃ (s : State), s.n .powerFailState 0 = 0) :=
  ⟨⟨base, by decide +kernel⟩,
   ⟨base, by decide +kernel⟩,
   ⟨base, by decide +kernel⟩,
   ⟨withBoot base fun b => { b with vinUp := false }, by decide +kernel⟩,
   ⟨base, by decide +kernel⟩,
   ⟨withBoot base fun b => { b with vinUp := false }, by decide +kernel⟩,
   ⟨withBoot base fun b => { b with vinUp := false }, by decide +kernel⟩,
   ⟨withBoot base fun b => { b with vinUp := false }, by decide +kernel⟩⟩

theorem witness_FirmwareAndReady_cases :
    (∃ (s : State), (s.n .startPhase 0 = 1 ∧ s.boot.dieReset = false ∧ s.boot.configured = false ∧ s.boot.lanternUp = true)) ∧
    (∃ (s : State), (¬ (s.n .startPhase 0 = 1 ∧ s.boot.dieReset = false ∧ s.boot.configured = false ∧ s.boot.lanternUp = true))) ∧
    (∃ s : State, ((s.n .startPhase 0 = 3 ∧ s.boot.configured = true ∧ s.n .wickState 0 ≠ 0 ∧ (s.n .grantLaneState0 0 = 3 ∨ s.n .grantLaneState1 0 = 3 ∨ s.n .grantLaneState2 0 = 3) ∧ (∀ ch ∈ s.boot.imageChans, s.n .channelLaneState ch = 2 ∨ s.n .channelLaneState ch = 5)))) ∧
    (∃ s : State, (¬ (s.n .startPhase 0 = 3 ∧ s.boot.configured = true ∧ s.n .wickState 0 ≠ 0 ∧ (s.n .grantLaneState0 0 = 3 ∨ s.n .grantLaneState1 0 = 3 ∨ s.n .grantLaneState2 0 = 3) ∧ (∀ ch ∈ s.boot.imageChans, s.n .channelLaneState ch = 2 ∨ s.n .channelLaneState ch = 5)))) :=
  ⟨⟨withBoot (withO base [(.startPhase, 0, 1)]) fun b => { b with configured := false }, by decide +kernel⟩,
   ⟨withBoot base fun b => { b with lanternUp := false }, by decide +kernel⟩,
   ⟨withBoot (withO base [(.startPhase, 0, 3), (.wickState, 0, 2), (.grantLaneState0, 0, 3), (.channelLaneState, 3, 5)]) fun b => { b with imageChans := [3] }, by decide +kernel⟩,
   ⟨withBoot base fun b => { b with lanternUp := false }, by decide +kernel⟩⟩

theorem witness_GlimEnteredAndLeft_cases :
    (∃ s : State, ((s.boot.glimEntry.isSome = true ∧ s.snuffs = [] ∧ (∀ p : Uplink, s.on .uplinkEnable p = true → s.n .uplinkWakeMode p ≠ 0 → ∀ c : Fin 8, s.queue (txKey (8 * p + c)) = []) ∧ s.avail = true))) ∧
    (∃ s : State, (¬ (s.boot.glimEntry.isSome = true ∧ s.snuffs = [] ∧ (∀ p : Uplink, s.on .uplinkEnable p = true → s.n .uplinkWakeMode p ≠ 0 → ∀ c : Fin 8, s.queue (txKey (8 * p + c)) = []) ∧ s.avail = true))) ∧
    (∃ s : State, (s.boot.glimEntry.isSome = true ∧ s.bit Reg.glbPowerCtrl 8 = true)) ∧
    (∃ s : State, (¬ (s.boot.glimEntry.isSome = true ∧ s.bit Reg.glbPowerCtrl 8 = true))) ∧
    (∃ s : State, (s.boot.glim = true ∧ s.n .glimWakeAt 0 ≠ 0 ∧ s.n .glimWakeAt 0 ≤ s.wick ∧ s.bit Reg.glbPowerCtrl 16 = true)) ∧
    (∃ s : State, (¬ (s.boot.glim = true ∧ s.n .glimWakeAt 0 ≠ 0 ∧ s.n .glimWakeAt 0 ≤ s.wick ∧ s.bit Reg.glbPowerCtrl 16 = true))) ∧
    (∃ (s : State) (a : Time), s.boot.returning = some a ∧ ((s.tm.rebuilding = false ∧ s.grants.reload = none ∧ s.grants.reloadDue = false ∧ (∀ ch : Chan, s.laneWanted ch = true → s.n .channelLaneState ch = 2 ∨ s.n .channelLaneState ch = 5)))) ∧
    (∃ (s : State) (a : Time), s.boot.returning = some a ∧ (¬ (s.tm.rebuilding = false ∧ s.grants.reload = none ∧ s.grants.reloadDue = false ∧ (∀ ch : Chan, s.laneWanted ch = true → s.n .channelLaneState ch = 2 ∨ s.n .channelLaneState ch = 5)))) ∧
    (∃ (s : State) (b : Fin 16), ((s.fabricRuns = true ∧ ¬ (b = 0 ∨ b = 1 ∨ b = 13 ∨ b = 15 ∨ (2 ≤ b.val ∧ b.val ≤ 5 ∧ (∃ ch : Chan, s.n .channelSnuffPhase ch ≠ 3 ∨ s.n .channelLaneState ch = 4)) ∨ (b = 10 ∧ (∃ p : Uplink, s.n .uplinkSnuffPhase p ≠ 3)) ∨ (b = 11 ∧ (∃ q : Psg, s.n .passageSnuffPhase q ≠ 3)) ∨ (((6 ≤ b.val ∧ b.val ≤ 9) ∨ b = 12) ∧ ((∃ ch : Chan, s.n .channelSnuffPhase ch ≠ 3 ∨ s.n .channelLaneState ch = 4) ∨ (∃ p : Uplink, s.n .uplinkSnuffPhase p ≠ 3) ∨ (∃ q : Psg, s.n .passageSnuffPhase q ≠ 3))) ∨ (b = 14 ∧ s.withNum .counterEnable 1 ≠ [])) ∧ tabGet (fun _ => 0) s.boot.clkLast b + Tm.ms ≤ s.now))) ∧
    (∃ (s : State) (b : Fin 16), (¬ (s.fabricRuns = true ∧ ¬ (b = 0 ∨ b = 1 ∨ b = 13 ∨ b = 15 ∨ (2 ≤ b.val ∧ b.val ≤ 5 ∧ (∃ ch : Chan, s.n .channelSnuffPhase ch ≠ 3 ∨ s.n .channelLaneState ch = 4)) ∨ (b = 10 ∧ (∃ p : Uplink, s.n .uplinkSnuffPhase p ≠ 3)) ∨ (b = 11 ∧ (∃ q : Psg, s.n .passageSnuffPhase q ≠ 3)) ∨ (((6 ≤ b.val ∧ b.val ≤ 9) ∨ b = 12) ∧ ((∃ ch : Chan, s.n .channelSnuffPhase ch ≠ 3 ∨ s.n .channelLaneState ch = 4) ∨ (∃ p : Uplink, s.n .uplinkSnuffPhase p ≠ 3) ∨ (∃ q : Psg, s.n .passageSnuffPhase q ≠ 3))) ∨ (b = 14 ∧ s.withNum .counterEnable 1 ≠ [])) ∧ tabGet (fun _ => 0) s.boot.clkLast b + Tm.ms ≤ s.now))) :=
  ⟨⟨dimming, by decide +kernel⟩,
   ⟨base, by decide +kernel⟩,
   ⟨withR dimming [(Reg.glbPowerCtrl, 256)], by decide +kernel⟩,
   ⟨dimming, by decide +kernel⟩,
   ⟨at_ 1000 (withR (withO inGlim [(.glimWakeAt, 0, 1000)]) [(Reg.glbPowerCtrl, 2 ^ 16)]), by decide +kernel⟩,
   ⟨dimming, by decide +kernel⟩,
   ⟨withBoot base fun b => { b with returning := some 0 }, 0, by decide +kernel⟩,
   ⟨withT (withBoot base fun b => { b with returning := some 0 }) fun m => { m with rebuilding := true }, 0, by decide +kernel⟩,
   ⟨at_ Tm.ms base, 10, by decide +kernel⟩,
   ⟨dimming, 10, by decide +kernel⟩⟩

theorem witness_SnuffCarriedOut_cases :
    (∃ (s : State) (k : ResKind) (i : Nat) (r : SnuffRec), s.snuffOf k i = some r ∧ i < 65536 ∧ ((r.draining = none ∧ ((k = .channel ∨ k = .terminal ∨ k = .alloc ∨ k = .flow ∨ (k = .queue ∧ r.byContainer = true)) → s.wick % Tm.frame = 0 ∧ r.closing < s.now)))) ∧
    (∃ (s : State) (k : ResKind) (i : Nat) (r : SnuffRec), s.snuffOf k i = some r ∧ i < 65536 ∧ (¬ (r.draining = none ∧ ((k = .channel ∨ k = .terminal ∨ k = .alloc ∨ k = .flow ∨ (k = .queue ∧ r.byContainer = true)) → s.wick % Tm.frame = 0 ∧ r.closing < s.now)))) ∧
    (∃ (s : State) (k : ResKind) (i : Nat) (r : SnuffRec) (d : Time), s.snuffOf k i = some r ∧ r.draining = some d ∧ (d + 100 * Tm.ms ≤ s.now ∧ s.holdsFrames k i = true)) ∧
    (∃ (s : State) (k : ResKind) (i : Nat) (r : SnuffRec) (d : Time), s.snuffOf k i = some r ∧ r.draining = some d ∧ (¬ (d + 100 * Tm.ms ≤ s.now ∧ s.holdsFrames k i = true))) ∧
    (∃ (s : State) (k : ResKind) (i : Nat) (r : SnuffRec) (d : Time), s.snuffOf k i = some r ∧ i < 65536 ∧ r.draining = some d ∧ (((k = .channel → (s.wick % Tm.frame = 0) ∧ (r.closing + 875 * Tm.us ≤ s.now) ∧ r.sent = true ∧ (∀ x ∈ s.contents k i, s.n (State.phaseObj x.1) x.2 = 3)) ∧ (k = .terminal → (s.wick % Tm.frame = 0) ∧ r.sent = true ∧ (∀ x ∈ s.contents k i, s.n (State.phaseObj x.1) x.2 = 3)) ∧ (k = .alloc → (s.wick % Tm.frame = 0) ∧ (r.closing + 875 * Tm.us ≤ s.now) ∧ (s.n .allocIdAssigned i = 0xFFFF ∨ s.avail = true)) ∧ (k = .flow → (r.closing + 875 * Tm.us ≤ s.now) ∧ s.holdsFrames .flow i = false) ∧ (k = .psgLane → s.n .passageSnuffPhase (i / 4) = 0 ∧ d + 2330 * Tm.ns ≤ s.now) ∧ (k = .queue → s.queue i = []) ∧ (k = .uplink → ∀ c : Fin 8, s.queue (txKey (8 * i + c)) = []) ∧ (k = .psgPort → ∀ c : Fin 8, s.queue (transitKey i c) = [] ∧ s.queue (txKey (8 * (16 + i) + c)) = [])))) ∧
    (∃ (s : State) (l : Fin 16), (s.on .passagePortEnable (l.val / 4) = true ∧ s.n .passageLaneEnable (l.val / 4) / 2 ^ (l.val % 4) % 2 = 1 ∧ s.n .passageLaneState l = 0)) ∧
    (∃ (s : State) (l : Fin 16), (¬ (s.on .passagePortEnable (l.val / 4) = true ∧ s.n .passageLaneEnable (l.val / 4) / 2 ^ (l.val % 4) % 2 = 1 ∧ s.n .passageLaneState l = 0))) :=
  ⟨⟨snuffing .queue 65535 ⟨0, none, true, false, false, false⟩ base, .queue, 65535, ⟨0, none, true, false, false, false⟩, by decide +kernel⟩,
   ⟨snuffing .queue 65535 ⟨0, some 0, true, false, false, false⟩ base, .queue, 65535, ⟨0, some 0, true, false, false, false⟩, by decide +kernel⟩,
   ⟨at_ (100 * Tm.ms) (snuffing .queue 7 ⟨0, some 0, false, false, false, false⟩ ((withO base [(.queueSnuffPhase, 7, 2)]).setQueue 7 [desc])), .queue, 7, ⟨0, some 0, false, false, false, false⟩, 0, by decide +kernel⟩,
   ⟨at_ (99 * Tm.ms) (snuffing .queue 7 ⟨0, some 0, false, false, false, false⟩ ((withO base [(.queueSnuffPhase, 7, 2)]).setQueue 7 [desc])), .queue, 7, ⟨0, some 0, false, false, false, false⟩, 0, by decide +kernel⟩,
   ⟨snuffing .queue 65535 ⟨0, some 0, false, false, false, false⟩ base, .queue, 65535, ⟨0, some 0, false, false, false, false⟩, 0, by decide +kernel⟩,
   ⟨withO base [(.passagePortEnable, 3, 1), (.passageLaneEnable, 3, 8)], 15, by decide +kernel⟩,
   ⟨snuffing .queue 65535 ⟨0, none, true, false, false, false⟩ base, 15, by decide +kernel⟩⟩

end Sys2Proof.Tests
end

section
/-!
PROOFS. Rules for lanes and cages: a read of an object through a write of another object or through an event, a read of a
record through the updates of the rest of the state, and frames of objects and registers through one update. The statements
of 01_trees_channels_and_lanes.md are settled from them in the sections that follow.
-/

namespace Sys2Proof.Machine

open State

/-! ### Objects -/

theorem Obj.code_ne {o p : Obj} (h : p ≠ o) : p.code ≠ o.code := fun e => h (Obj.code_inj e)

theorem State.val_putVal_other (s : State) {o p : Obj} {i j : Nat} (v : Val) (h : p ≠ o) (hi : i < 16777216)
    (hj : j < 16777216) : (s.putVal o i v).val p j = s.val p j := State.val_putVal_obj s v (Obj.code_ne h) hi hj

theorem State.n_putVal_other (s : State) {o p : Obj} {i j : Nat} (v : Val) (h : p ≠ o) (hi : i < 16777216)
    (hj : j < 16777216) : (s.putVal o i v).n p j = s.n p j := State.n_of_val (s.val_putVal_other v h hi hj)

theorem State.on_putVal_other (s : State) {o p : Obj} {i j : Nat} (v : Val) (h : p ≠ o) (hi : i < 16777216)
    (hj : j < 16777216) : (s.putVal o i v).on p j = s.on p j := State.on_of_val (s.val_putVal_other v h hi hj)

/-- A number just written reads as it was written. -/
theorem State.n_put (s : State) (o : Obj) (i v : Nat) : (s.put o i v).n o i = v := by simp

/-- An event leaves every object but SconceEventsLost as it was. -/
theorem State.val_raise_other (s : State) (k : Nat) (o : Obj) (i : Nat) (d : List Byte) {p : Obj} {j : Nat}
    (h : p ≠ .sconceEventsLost) (hj : j < 16777216) : (s.raise k o i d).val p j = s.val p j :=
  State.val_raise s k o i d (Obj.code_ne h) hj

theorem State.n_raise (s : State) (k : Nat) (o : Obj) (i : Nat) (d : List Byte) {p : Obj} {j : Nat}
    (h : p ≠ .sconceEventsLost) (hj : j < 16777216) : (s.raise k o i d).n p j = s.n p j :=
  State.n_of_val (s.val_raise_other k o i d h hj)

theorem State.on_raise (s : State) (k : Nat) (o : Obj) (i : Nat) (d : List Byte) {p : Obj} {j : Nat}
    (h : p ≠ .sconceEventsLost) (hj : j < 16777216) : (s.raise k o i d).on p j = s.on p j :=
  State.on_of_val (s.val_raise_other k o i d h hj)

theorem State.oct_raise (s : State) (k : Nat) (o : Obj) (i : Nat) (d : List Byte) {p : Obj} {j : Nat}
    (h : p ≠ .sconceEventsLost) (hj : j < 16777216) : (s.raise k o i d).oct p j = s.oct p j :=
  State.oct_of_val (s.val_raise_other k o i d h hj)

/-! ### Frames of objects: what is no write of an object goes through -/

@[simp] theorem State.ObjsBut_self (s : State) (ws : List (Obj × Nat)) : s.ObjsBut ws s := State.ObjsBut_refl s ws

/-- A write of what the frame names. -/
@[simp] theorem State.ObjsBut_putVal_iff (s t : State) {ws : List (Obj × Nat)} {o : Obj} {i : Nat} (v : Val)
    (hi : i < 16777216) (hw : (o, i) ∈ ws) : s.ObjsBut ws (t.putVal o i v) ↔ s.ObjsBut ws t :=
  forall₄_congr fun p j hj hp => by
    rw [State.val_putVal_ne t v hi hj fun ⟨ho, hi⟩ => hp (ho ▸ hi ▸ hw)]

@[simp] theorem State.ObjsBut_setBit (s t : State) (ws : List (Obj × Nat)) (a k : Nat) (b : Bool) :
    s.ObjsBut ws (t.setBit a k b) ↔ s.ObjsBut ws t := Iff.rfl

@[simp] theorem State.ObjsBut_setLane (s t : State) (ws : List (Obj × Nat)) (ch : Nat) (l : LaneSt) :
    s.ObjsBut ws (t.setLane ch l) ↔ s.ObjsBut ws t := Iff.rfl

@[simp] theorem State.ObjsBut_setCage (s t : State) (ws : List (Obj × Nat)) (c : Nat) (r : CageSt) :
    s.ObjsBut ws (t.setCage c r) ↔ s.ObjsBut ws t := Iff.rfl

@[simp] theorem State.ObjsBut_setEqRun (s t : State) (ws : List (Obj × Nat)) (x k v : Nat) :
    s.ObjsBut ws (t.setEqRun x k v) ↔ s.ObjsBut ws t := Iff.rfl

@[simp] theorem State.ObjsBut_emit (s t : State) (ws : List (Obj × Nat)) (o : Out) :
    s.ObjsBut ws (t.emit o) ↔ s.ObjsBut ws t := Iff.rfl

/-! ### Records of a channel and of a cage -/

theorem State.lane_of_lanes {s t : State} (h : t.lanes = s.lanes) (ch : Nat) : t.lane ch = s.lane ch := by
  unfold State.lane; rw [h]

theorem State.cage_of_cages {s t : State} (h : t.cages = s.cages) (c : Nat) : t.cage c = s.cage c := by
  unfold State.cage; rw [h]

@[simp] theorem State.lane_setLane (s : State) (ch : Nat) (l : LaneSt) : (s.setLane ch l).lane ch = l :=
  tabGet_put_self _ _ _ _

@[simp] theorem State.lane_raise (s : State) (k : Nat) (o : Obj) (i : Nat) (d : List Byte) (ch : Nat) :
    (s.raise k o i d).lane ch = s.lane ch := State.lane_of_lanes (by simp) ch

@[simp] theorem State.cage_setCage (s : State) (c : Nat) (r : CageSt) : (s.setCage c r).cage c = r :=
  tabGet_put_self _ _ _ _

@[simp] theorem State.cage_raise (s : State) (k : Nat) (o : Obj) (i : Nat) (d : List Byte) (c : Nat) :
    (s.raise k o i d).cage c = s.cage c := State.cage_of_cages (by simp) c

@[simp] theorem State.eqRun_setEqRun (s : State) (x k v : Nat) : (s.setEqRun x k v).eqRun x k = v :=
  tabGet_put_self _ _ _ _

/-! ### Registers of a channel -/

theorem Reg.ponLaneCtrl_ne_status (ch : Nat) : Reg.ponLaneCtrl ch ≠ Reg.ponLaneStatus ch := by
  unfold Reg.ponLaneCtrl Reg.ponLaneStatus; omega

/-! ### Frames of registers -/

@[simp] theorem State.RegsBut_self (s : State) (ws : List Nat) : s.RegsBut ws s := fun _ _ => rfl

/-- A write of a register that the frame names. -/
@[simp] theorem State.RegsBut_setBit (s t : State) {ws : List Nat} {a : Nat} (k : Nat) (b : Bool) (hw : a ∈ ws) :
    s.RegsBut ws (t.setBit a k b) ↔ s.RegsBut ws t :=
  forall₂_congr fun c hc => by rw [State.reg_setBit_other t k b (by rintro rfl; exact hc hw)]

@[simp] theorem State.RegsBut_putVal (s t : State) (ws : List Nat) (o : Obj) (i : Nat) (v : Val) :
    s.RegsBut ws (t.putVal o i v) ↔ s.RegsBut ws t := Iff.rfl

@[simp] theorem State.RegsBut_setLane (s t : State) (ws : List Nat) (ch : Nat) (l : LaneSt) :
    s.RegsBut ws (t.setLane ch l) ↔ s.RegsBut ws t := Iff.rfl

@[simp] theorem State.RegsBut_emit (s t : State) (ws : List Nat) (o : Out) :
    s.RegsBut ws (t.emit o) ↔ s.RegsBut ws t := Iff.rfl

@[simp] theorem State.RegsBut_raise (s t : State) (ws : List Nat) (k : Nat) (o : Obj) (i : Nat) (d : List Byte) :
    s.RegsBut ws (t.raise k o i d) ↔ s.RegsBut ws t := by simp [State.RegsBut]

end Sys2Proof.Machine
end

section
/-!
PROOFS. The lanes: loss of a PLL and its end, test loops, receive calibration and preset tracking (R29, R38, R42, R44).
-/

namespace Sys2Proof.Machine

open State

/-- Settles O8: each loss or recovery writes the lane state or bits of its own lane and raises at most one event. -/
theorem lanePllFaults : Obligations.LanePllFaults := by
  unfold Obligations.LanePllFaults
  refine ⟨fun s ch h => ?txLost, fun s ch h => ?recovery, fun s ch h => ?rxLost, fun s ch h => ?relock⟩
  all_goals have hc : ch.val < 16777216 := by omega
  all_goals have hne := Reg.ponLaneCtrl_ne_status ch
  case txLost =>
    refine ⟨_, if_pos h, ?state, ?txEn, ?unlock, ?lock, ?objs, ?regs⟩
    case state => simp [State.n_raise, hc]
    case txEn => simp [State.bit_setBit_reg, State.bit_setBit_self, hne]
    case unlock => simp [State.bit_setBit_other, State.bit_setBit_self]
    case lock => simp [State.bit_setBit_self]
    case objs => simp [State.ObjsBut_raise, hc]
    case regs => simp
  case recovery =>
    refine ⟨_, if_pos h, ?state, ?lock, ?run, ?fault, ?objs, ?regs⟩
    case state => simp [State.n_raise, hc]
    case lock => simp [State.bit_setBit_self]
    case run => simp [State.frameNo]
    case fault => simp
    case objs => simp [State.ObjsBut_raise, hc]
    case regs => simp
  case rxLost =>
    refine ⟨_, if_pos h, ?unlock, ?lock, ?objs, ?regs⟩
    case unlock => simp [State.bit_setBit_other, State.bit_setBit_self]
    case lock => simp [State.bit_setBit_self]
    case objs => simp [State.ObjsBut_raise]
    case regs => simp
  case relock =>
    refine ⟨_, if_pos h, ?lock, ?objs, ?regs⟩
    case lock => simp [State.bit_setBit_self]
    case objs => simp
    case regs => simp

/-- A preset that tracks moves by one code towards the recommended one, and its run restarts (R29). -/
theorem exec_presetTrackingStep_of_due {s : State} {ch : Chan} {x : Term} {k : Nat} (hk : s.sideOn x ch = some k)
    (h : s.atFrame = true ∧ s.eqRun x k = 16 ∧ s.on .channelEqTrack ch = true ∧ ¬ s.on .terminalEqPinned x = true) :
    exec (.presetTrackingStep ch x) s = .next ((s.put (presetObj k) x
      (if s.n (presetObj k) x < s.n (recommendedObj k) x then s.n (presetObj k) x + 1
        else s.n (presetObj k) x - 1)).setEqRun x k 0) := by
  simp only [exec, execPresetTrackingStep, hk, if_pos h]

/-- Settles O10: by the branch of each command that its conditions choose. -/
theorem laneLoopsAndCalibration : Obligations.LaneLoopsAndCalibration := by
  unfold Obligations.LaneLoopsAndCalibration
  refine ⟨fun s ch e h hg hl => ?lock, fun s ch e h hg hl => ?errors, fun s ch => ?clear, fun s ch h => ?cal,
    fun s ch => ?calEnd, fun s ch x k hf hk hr ht hp => ?preset⟩
  case lock =>
    refine ⟨_, (if_pos ⟨h, hg⟩).trans (if_neg (by simp [hl])), ?_, ?_, ?_⟩
    · simp [State.bit_setBit_self]
    · simp
    · simp
  case errors =>
    have hc : ch.val < 16777216 := by omega
    exact ⟨_, (if_pos ⟨h, hg⟩).trans (if_pos hl), State.n_put .., by simp [hc]⟩
  case clear =>
    have hc : ch.val < 16777216 := by omega
    exact ⟨_, rfl, by simp, by simp [hc]⟩
  case cal => exact ⟨_, if_pos h, by simp⟩
  case calEnd => exact ⟨_, rfl, by simp⟩
  case preset =>
    have hx : x.val < 16777216 := by omega
    refine ⟨_, exec_presetTrackingStep_of_due hk ⟨hf, hr, ht, by simp [hp]⟩, ?_, ?_, ?_⟩
    · simp
    · exact State.n_put ..
    · simp [hx]

end Sys2Proof.Machine
end

section
/-!
PROOFS. A channel that falls asleep with an order in store (R38 note 4, R160 note 4).
-/

namespace Sys2Proof.Machine

open State

/-- Channel 0 in Run in Trim, idle for its dwell of 60 s at a Frame boundary, with one cooperative order in its store. -/
def State.idleWithOrder : State :=
  { ((State.reset.put .channelLaneState 0 2).put .devicePowerStateActual 0 1).setGch 0
      { GrantCh.idle with orders := [⟨5, 8, 0, 10, 0, false⟩] } with
    clk := { State.reset.clk with elapsed := 60 * Tm.s } }

/-- The order is rejected as the channel leaves Run (R160 note 4), which its counter shows. -/
theorem State.idleWithOrder_rejects {t : State} (h : exec (.laneSleepEntry 0) State.idleWithOrder = .next t) :
    t.n .coopOrdersRejected 0 = 1 := by
  have hrun : (match exec (.laneSleepEntry 0) State.idleWithOrder with
      | .next t => t.n .coopOrdersRejected 0
      | _ => 0) = 1 := by decide +kernel
  rwa [h] at hrun

/-- Refutes O9: a channel that falls asleep with a cooperative order in its store rejects it (R160 note 4), and so changes
CoopOrdersRejected too, which the statement's frame of objects leaves no room for. -/
theorem not_laneSleepAndNaps : ¬ Obligations.LaneSleepAndNaps := by
  unfold Obligations.LaneSleepAndNaps
  rintro ⟨hsleep, -⟩
  obtain ⟨t, hexec, -, -, hobjs, -⟩ := hsleep State.idleWithOrder 0 (by decide +kernel) (by decide +kernel)
    (by decide +kernel) (by decide +kernel) (by decide +kernel) (by decide +kernel)
  have hrejected := State.idleWithOrder_rejects hexec
  rw [State.n_of_val (hobjs .coopOrdersRejected 0 (by decide) (by decide))] at hrejected
  exact absurd hrejected (by decide +kernel)

end Sys2Proof.Machine
end

section
/-!
PROOFS. Modules, the identity read and the I2C relay (R20, R35 to R37).
-/

namespace Sys2Proof.Machine

open State

/-- A low SDA draws the recovery first, where a request waits. -/
theorem State.i2cSda_of_queue {s : State} {c : Nat} {r : List Byte} {rest : List (List Byte)}
    (hq : (s.cage c).queue = r :: rest) (low : Bool) :
    s.i2cSda c low = if low then s.emit (.i2cRecover c) else s := by
  simp [State.i2cSda, hq]

theorem State.i2cSda_cage (s : State) (c : Nat) (low : Bool) (d : Nat) : (s.i2cSda c low).cage d = s.cage d := by
  unfold State.i2cSda
  split <;> rfl

theorem State.i2cSda_objs (s : State) (c : Nat) (low : Bool) : (s.i2cSda c low).objs = s.objs := by
  unfold State.i2cSda
  split <;> rfl

theorem State.i2cSda_sent {s : State} {c : Nat} {r : List Byte} {rest : List (List Byte)}
    (hq : (s.cage c).queue = r :: rest) (low : Bool) :
    (s.i2cSda c low).sent = s.sent ++ if low then [.i2cRecover c] else [] := by
  rw [State.i2cSda_of_queue hq]
  cases low <;> simp [State.emit]

/-- What the end of a cage's first request does: the request leaves the queue, status and data become the result, and the
bus has carried the request unless it was found stuck or without a module. -/
theorem State.i2cEnd_ends {s : State} {c : Nat} {r : List Byte} {rest : List (List Byte)} (hc : c < 16777216)
    (hq : (s.cage c).queue = r :: rest) (status : Nat) (data : List Byte) :
    ((s.i2cEnd c status data).cage c).queue = rest ∧
      (s.i2cEnd c status data).oct .cageI2cResult c =
        [r.getD 0 0, BitVec.ofNat 8 status, BitVec.ofNat 8 data.length] ++ data ∧
      (s.i2cEnd c status data).sent = s.sent ++ (if status = 3 ∨ status = 4 then [] else [.i2c c r]) ∧
      s.ObjsBut [(.cageI2cResult, c)] (s.i2cEnd c status data) := by
  unfold State.i2cEnd
  simp only [hq]
  refine ⟨?queue, by simp, ?sent, ?objs⟩
  case queue => split <;> simp [State.cage]
  case sent => by_cases h : status = 3 ∨ status = 4 <;> simp [h, State.emit]
  case objs => by_cases h : status = 3 ∨ status = 4 <;> simp [h, hc]

/-- A request that waits at a bus that serves a module ends once SDA has been seen to. -/
theorem exec_i2cRequestComplete_of_serves {s : State} {c : Cage} (hr : (s.cage c).reading = false)
    (hl : s.boot.lanternUp = true) (hs : s.cageServes c = true) (sda status : Fin 3) (bs : List Byte) :
    exec (.i2cRequestComplete c sda status bs) s = .next
      (if sda = 2 then (s.i2cSda c (sda != 0)).i2cEnd c 3 []
        else (s.i2cSda c (sda != 0)).i2cEnd c status
          (if status = 0 then bs.take (((s.cage c).queue.headD []).getD 3 0).toNat else [])) := by
  simp only [exec, execI2cRequestComplete, hr, hl, hs]
  rfl

/-- The end of a request on a bus whose SDA was seen to first. -/
theorem State.i2cSda_end {s : State} {c : Nat} {r : List Byte} {rest : List (List Byte)} (hc : c < 16777216)
    (hq : (s.cage c).queue = r :: rest) (low : Bool) (status : Nat) (data : List Byte) :
    (((s.i2cSda c low).i2cEnd c status data).cage c).queue = rest ∧
      ((s.i2cSda c low).i2cEnd c status data).oct .cageI2cResult c =
        [r.getD 0 0, BitVec.ofNat 8 status, BitVec.ofNat 8 data.length] ++ data ∧
      ((s.i2cSda c low).i2cEnd c status data).sent = s.sent ++ ((if low then [.i2cRecover c] else []) ++
        (if status = 3 ∨ status = 4 then [] else [.i2c c r])) ∧
      s.ObjsBut [(.cageI2cResult, c)] ((s.i2cSda c low).i2cEnd c status data) := by
  obtain ⟨queue, result, sent, objs⟩ := State.i2cEnd_ends hc ((congrArg _ (s.i2cSda_cage c low c)).trans hq) status data
  refine ⟨queue, result, ?_, State.ObjsBut_trans (State.ObjsBut_of_objs _ (s.i2cSda_objs c low)) objs⟩
  rw [sent, State.i2cSda_sent hq, List.append_assoc]

/-- Settles O11: presence and identity by their branch, a request by `State.i2cSda_end`. -/
theorem modulesAndRelay : Obligations.ModulesAndRelay := by
  unfold Obligations.ModulesAndRelay
  refine ⟨fun s c h hd => ?insert, fun s c bs hr hp hb hl => ?identity, fun s c h => ?remove,
    fun s c r rest bs hq hr hl hs => ⟨fun sda hd => ?done, fun sda status hd hne => ?nack, fun status => ?stuck⟩,
    fun s c r rest sda k bs hq hr hl hs => ?absent, fun s c r rest sda hq hr hl hs => ?stretch⟩
  all_goals have hc : c.val < 16777216 := by omega
  case insert =>
    refine ⟨_, if_neg (by simp [h]; simpa using hd), ?_, ?_, ?_, ?_⟩
    · simp [State.on_raise, hc]
    · simp [State.bit_setBit_self]
    · simp
    · simp [State.ObjsBut_raise, hc]
  case identity =>
    exact ⟨_, if_pos ⟨hr, hp, hb, hl⟩, by simp, by simp [State.cage], by simp [hc]⟩
  case remove =>
    refine ⟨_, if_pos h, ?_, ?_, ?_, ?_⟩
    · simp [State.on_raise, State.on_putVal_other, hc]
    · simp [State.bit_setBit_self]
    · simp [State.oct_raise, zeros, hc]
    · simp [State.ObjsBut_raise, hc]
  case done =>
    refine ⟨_, exec_i2cRequestComplete_of_serves hr hl hs sda 0 bs, ?_⟩
    rw [if_neg hd, if_pos rfl, hq]
    obtain ⟨queue, result, sent, objs⟩ := State.i2cSda_end hc hq (sda != 0) 0 (bs.take (r.getD 3 0).toNat)
    refine ⟨queue, result, sent.trans ?_, objs⟩
    by_cases h0 : sda = 0 <;> simp [h0]
  case nack =>
    refine ⟨_, exec_i2cRequestComplete_of_serves hr hl hs sda status bs, ?_⟩
    rw [if_neg hd, if_neg hne]
    obtain ⟨queue, result, -, objs⟩ := State.i2cSda_end hc hq (sda != 0) status []
    exact ⟨queue, result, objs⟩
  case stuck =>
    refine ⟨_, exec_i2cRequestComplete_of_serves hr hl hs 2 status bs, ?_⟩
    exact State.i2cSda_end hc hq true 3 []
  case absent =>
    refine ⟨_, (if_neg (by simp [hr, hl])).trans (if_pos (by simp [hs])), ?_⟩
    obtain ⟨queue, result, sent, -⟩ := State.i2cEnd_ends hc hq 4 []
    exact ⟨queue, result, sent.trans (by simp)⟩
  case stretch =>
    refine ⟨_, if_neg (by simp [hr, hl, hs]), ?_⟩
    obtain ⟨queue, result, sent, -⟩ := State.i2cSda_end hc hq sda 5 []
    refine ⟨queue, result, sent.trans ?_⟩
    cases sda <;> rfl

end Sys2Proof.Machine
end

section
/-!
PROOFS. The measurement of received power (R34).
-/

namespace Sys2Proof.Machine

open State

theorem mem_placeBy {α : Type} {key : α → Nat} {x y : α} {l : List α} : y ∈ placeBy key x l ↔ y = x ∨ y ∈ l := by
  induction l with
  | nil => simp [placeBy]
  | cons z l ih =>
    unfold placeBy
    split
    · exact List.mem_cons
    · rw [List.mem_cons, ih, List.mem_cons]
      exact or_left_comm

theorem placeBy_pairwise {α : Type} {key : α → Nat} {x : α} {l : List α} (h : l.Pairwise fun a b => key a ≤ key b) :
    (placeBy key x l).Pairwise fun a b => key a ≤ key b := by
  induction l with
  | nil => simp [placeBy]
  | cons z l ih =>
    obtain ⟨hz, hl⟩ := List.pairwise_cons.1 h
    unfold placeBy
    split
    case isTrue hx =>
      refine List.pairwise_cons.2 ⟨fun y hy => ?_, h⟩
      rcases List.mem_cons.1 hy with rfl | hy
      · omega
      · have := hz y hy
        omega
    case isFalse hx =>
      refine List.pairwise_cons.2 ⟨fun y hy => ?_, ih hl⟩
      rcases mem_placeBy.1 hy with rfl | hy
      · omega
      · exact hz y hy

theorem sortBy_pairwise {α : Type} (key : α → Nat) (l : List α) :
    (sortBy key l).Pairwise fun a b => key a ≤ key b :=
  List.foldlRecOn l _ .nil fun _ h _ _ => placeBy_pairwise h

theorem mem_sortBy {α : Type} {key : α → Nat} {y : α} {l : List α} : y ∈ sortBy key l ↔ y ∈ l := by
  have go : ∀ a : List α, y ∈ l.foldl (fun a x => placeBy key x a) a ↔ y ∈ a ∨ y ∈ l := by
    induction l with
    | nil => simp
    | cons x l ih =>
      intro a
      rw [List.foldl_cons, ih, mem_placeBy, List.mem_cons, or_comm (a := y = x), or_assoc]
  exact (go []).trans (or_iff_right List.not_mem_nil)

/-- The one element with the least key comes first. -/
theorem sortBy_head {α : Type} {key : α → Nat} {a : α} {l : List α} (ha : a ∈ l)
    (hmin : ∀ y ∈ l, y ≠ a → key a < key y) : ∃ t, sortBy key l = a :: t := by
  have hs := sortBy_pairwise key l
  have hm : a ∈ sortBy key l := mem_sortBy.2 ha
  cases e : sortBy key l with
  | nil => simp [e] at hm
  | cons y t =>
    rw [e] at hs hm
    have hy : y ∈ l := mem_sortBy.1 (e ▸ List.mem_cons_self)
    rcases List.mem_cons.1 hm with rfl | hat
    · exact ⟨t, rfl⟩
    · have hle := (List.pairwise_cons.1 hs).1 a hat
      exact ⟨t, congrArg (· :: t) (Classical.byContradiction fun hne => Nat.not_lt.2 hle (hmin y hy hne))⟩

/-- The first awaited burst of the armed terminal gives the trigger. -/
theorem exec_rssiTrigger_of_first {s : State} {ch : Chan} {x : Term} {start stop armed : Time}
    {rest : List (Time × Time × Nat)} (hr : (s.lane ch).rssi = some (x.val, armed))
    (hs : sortBy (fun y => y.1) ((s.awaited ch).filter fun y => y.2.2 == x.val && decide (armed + Tm.frame ≤ y.1) &&
      decide (y.1 < armed + 16 * Tm.frame)) = (start, stop, x.val) :: rest) :
    let rise := start + s.n .channelRssiDelay ch * (10 * Tm.ns)
    let fall := rise + s.n .channelRssiWidth ch * (10 * Tm.ns)
    let u := s.setLane ch { s.lane ch with rssi := none }
    exec (.rssiTrigger ch x) s = .next
      ((if rise < min fall stop then u.emit (.pulse 0 ch rise (min fall stop) true) else u).raiseDone .channelRssiRequest ch
        (beBytes 12 rise ++ beBytes 1 (if stop < fall then 1 else 0))) := by
  simp only [exec, execRssiTrigger, hr, hs, if_true]

/-- Settles O12: of the terminal's awaited bursts the first in time gives the trigger, and a request that is 16 frames old
lapses. -/
theorem receivedPowerTrigger : Obligations.ReceivedPowerTrigger := by
  unfold Obligations.ReceivedPowerTrigger
  refine ⟨fun s ch x start stop armed hr hb h1 h2 hfirst => ?trigger, fun s ch x armed hr h => ?lapse⟩
  case trigger =>
    obtain ⟨rest, hs⟩ : ∃ rest, sortBy (fun y => y.1) ((s.awaited ch).filter fun y => y.2.2 == x.val &&
        decide (armed + Tm.frame ≤ y.1) && decide (y.1 < armed + 16 * Tm.frame)) = (start, stop, x.val) :: rest := by
      refine sortBy_head (by simp [hb, h1, h2]) fun y hy hne => ?_
      simp only [List.mem_filter, Bool.and_eq_true, beq_iff_eq, decide_eq_true_eq] at hy
      obtain ⟨hmem, ⟨hterm, hlate⟩, -⟩ := hy
      exact hfirst y hmem hterm hlate hne
    refine ⟨_, exec_rssiTrigger_of_first hr hs, ?_, ?_, ?_, ?_⟩
    · split <;> simp [State.lane]
    · split <;> simp [State.emit]
    · split <;> simp [State.ObjsBut_raise]
    · split <;> simp
  case lapse =>
    refine ⟨_, (by simp only [exec, execRssiRequestLapse, hr]; exact if_pos h), ?_, ?_, ?_, ?_⟩
    · simp
    · simp
    · simp [State.ObjsBut_raise]
    · simp

end Sys2Proof.Machine
end

section
/-!
PROOFS. Host writes of a lane's settings (R34, R36, R37, R42).
-/

namespace Sys2Proof.Machine

open State

/-- A byte string of `n` bytes spells the number that was written, within their width. -/
theorem beNat_beBytes (n v : Nat) : beNat (beBytes n v) = v % 256 ^ n := by
  have go : ∀ n a, (beBytes n v).foldl (fun a b => a * 256 + b.toNat) a = a * 256 ^ n + v % 256 ^ n := by
    intro n
    induction n with
    | zero => intro a; rw [Nat.pow_zero, Nat.mul_one, Nat.mod_one]; rfl
    | succ n ih =>
      intro a
      have hm : v % 256 ^ (n + 1) = v % 256 ^ n + 256 ^ n * (v / 256 ^ n % 2 ^ 8) := Nat.mod_mul
      rw [beBytes, List.foldl_cons, ih, BitVec.toNat_ofNat, hm, Nat.add_mul, Nat.mul_assoc, Nat.mul_comm 256,
        ← Nat.pow_succ, Nat.mul_comm (v / 256 ^ n % 2 ^ 8), Nat.add_assoc, Nat.add_comm (256 ^ n * _)]
  rw [beNat, go, Nat.zero_mul, Nat.zero_add]

@[simp] theorem State.cage_taken (s : State) (m : Master) (c : Nat) : (s.taken m).cage c = s.cage c :=
  State.cage_of_cages (by simp) c

@[simp] theorem State.ObjsBut_setFramer (s t : State) (ws : List (Obj × Nat)) (ch : Nat) (f : FramerSt) :
    s.ObjsBut ws (t.setFramer ch f) ↔ s.ObjsBut ws t := Iff.rfl

/-- Messages discarded write no object but their relay's result. -/
theorem State.discardAllPloam_objs (s : State) (ch : Nat) (hc : ch < 16777216) :
    s.ObjsBut [(.channelPloamRelayResult, ch)] (s.discardAllPloam ch) := by
  unfold State.discardAllPloam State.discardHost
  dsimp only
  rw [State.ObjsBut_setFramer]
  split
  · simp
  · exact List.foldlRecOn _ _ (by simp) fun t ht p _ => by simpa [State.relayResult, hc] using ht

theorem State.discardAllPloam_n (s : State) {o : Obj} {i ch : Nat} (ho : o ≠ .channelPloamRelayResult) (hi : i < 16777216)
    (hc : ch < 16777216) : (s.discardAllPloam ch).n o i = s.n o i :=
  State.n_of_val (s.discardAllPloam_objs ch hc o i hi (by simp [ho]))

theorem State.laneOff_n (s : State) {o : Obj} {i ch : Nat} (ho : o ≠ .channelLaneState) (hi : i < 16777216)
    (hc : ch < 16777216) : (s.laneOff ch).n o i = s.n o i := by
  simp [State.laneOff, State.n_putVal_other, ho, hi, hc]

theorem State.laneOff_laneState (s : State) (ch : Nat) : (s.laneOff ch).laneState ch = 0 := by
  simp [State.laneOff, State.laneState]

/-- Lantern's messages and masters are no part of a loop's settings. -/
theorem State.loopEff_lan (s : State) (m : Master) (ch : Nat) (bs : List Byte) : (loopEff s m ch bs).1.lan = s.lan :=
  (State.loopEff_kept (m := 73734) s m ch bs rfl (kept_refl _ s)).2 .lan rfl

/-- A non-zero loop mode on a lane that is Off. -/
theorem State.loopEff_starts {s : State} {ch : Nat} {bs : List Byte} (m : Master) (hc : ch < 16777216) (hv : beNat bs ≠ 0)
    (h : s.laneState ch = 0) :
    (loopEff s m ch bs).2 = Abort.ok ∧ (loopEff s m ch bs).1.laneState ch = 4 ∧
      (loopEff s m ch bs).1.n .channelLoopMode ch = beNat bs ∧
      (loopEff s m ch bs).1.bit (Reg.ponLaneCtrl ch) 11 = true := by
  have hl : (loopLanes s m ch bs).2 = Abort.ok ∧ (loopLanes s m ch bs).1.laneState ch = 4 ∧
      (loopLanes s m ch bs).1.n .channelLoopMode ch = beNat bs := by
    simp only [loopLanes, if_neg hv, h, ne_eq, not_true_eq_false, if_false]
    split <;> simp [State.laneState, State.n_putVal_other, hc]
  obtain ⟨hok, hstate, hmode⟩ := hl
  have hs : loopSet s m ch bs = loopLanes s m ch bs := by simp [loopSet, h]
  have he : loopEff s m ch bs = ((loopLanes s m ch bs).1.setBit (Reg.ponLaneCtrl ch) 11 (beNat bs != 0), Abort.ok) := by
    simp [loopEff, hs, hok, hv]
  rw [he]
  exact ⟨rfl, hstate, hmode, by simp [State.bit_setBit_self, hv]⟩

/-- Loop mode 0 on a lane in Loop. -/
theorem State.loopEff_ends {s : State} {ch : Nat} {bs : List Byte} (m : Master) (hc : ch < 16777216) (hv : beNat bs = 0)
    (h : s.laneState ch = 4) :
    (loopEff s m ch bs).2 = Abort.ok ∧ (loopEff s m ch bs).1.laneState ch = 0 ∧
      (loopEff s m ch bs).1.n .channelLoopMode ch = 0 := by
  have h4 : (s.put .channelLoopMode ch 0).laneState ch = 4 := by
    simpa [State.laneState, State.n_putVal_other, hc] using h
  have hl : loopLanes s m ch bs = ((s.put .channelLoopMode ch 0).laneOff ch, Abort.ok) := by
    simp only [loopLanes, hv, h4, if_true]
  have hs : loopSet s m ch bs = (((s.put .channelLoopMode ch 0).laneOff ch).discardAllPloam ch, Abort.ok) := by
    simp only [loopSet, hl, h, State.laneOff_laneState, and_self, if_true]
  have he : loopEff s m ch bs =
      ((((s.put .channelLoopMode ch 0).laneOff ch).discardAllPloam ch).setBit (Reg.ponLaneCtrl ch) 11 (beNat bs != 0),
        Abort.ok) := by
    simp only [loopEff, hs, h, true_or, and_self, if_true]
  rw [he]
  refine ⟨rfl, ?_, ?_⟩
  · exact (State.discardAllPloam_n _ (by decide) hc hc).trans (State.laneOff_laneState _ ch)
  · exact ((State.discardAllPloam_n _ (by decide) hc hc).trans (State.laneOff_n _ (by decide) hc hc)).trans (State.n_put ..)

/-- Settles O13: each write is admitted, so that its effect runs on the state with the counter accepted. -/
theorem laneSettingsTaken : Obligations.LaneSettingsTaken := by
  unfold Obligations.LaneSettingsTaken
  refine ⟨fun s m ch x h => ?rssi, fun s m c r h hr hq => ?joins, fun s m c r h hr => ?refused,
    fun s m ch v h hv h0 => ?starts, fun s m ch h h4 => ?ends⟩
  case rssi =>
    refine ⟨_, congrArg Host.Outcome.next (State.hostWrite_admits h _), State.answered_addMsg (by simp [rssiRequestEff]) .., ?_⟩
    simp [rssiRequestEff, State.lane]
  case joins =>
    have he : i2cRequestEff (s.taken m) m c r =
        ((s.taken m).setCage c { s.cage c with queue := (s.cage c).queue ++ [r] }, Abort.ok) := by
      have hn : ¬ 4 ≤ (s.cage c).queue.length := Nat.not_le.2 hq
      simp only [i2cRequestEff, hr, State.cage_taken, hn, Bool.false_eq_true, if_false]
    refine ⟨_, congrArg Host.Outcome.next ((State.hostWrite_admits h _).trans (by rw [he])),
      State.answered_addMsg (by simp) .., ?_⟩
    simp [State.cage]
  case refused =>
    have he : i2cRequestEff (s.taken m) m c r = (s.taken m, if i2cBad r then Abort.range else Abort.full) := by
      by_cases hb : i2cBad r = true
      · simp [i2cRequestEff, hb]
      · simp [i2cRequestEff, hb, hr.resolve_left hb]
    refine ⟨_, congrArg Host.Outcome.next ((State.hostWrite_admits h _).trans (by rw [he])),
      State.answered_addMsg (by simp) .., ?_⟩
    simp
  case starts =>
    have hc : ch.val < 16777216 := by omega
    have hb : beNat (beBytes 1 v) = v % 256 := beNat_beBytes 1 v
    obtain ⟨hok, hstate, hmode, hgen⟩ := State.loopEff_starts (s := s.taken m) m hc (hb ▸ hv)
      ((State.taken_n s m (by decide) hc).trans h0)
    refine ⟨_, congrArg Host.Outcome.next (State.hostWrite_admits h _), ?_, hstate, hmode.trans hb, hgen⟩
    rw [hok]
    exact State.answered_addMsg (by simp [State.loopEff_lan]) ..
  case ends =>
    have hc : ch.val < 16777216 := by omega
    obtain ⟨hok, hstate, hmode⟩ := State.loopEff_ends (s := s.taken m) m hc (beNat_beBytes 1 0)
      ((State.taken_n s m (by decide) hc).trans h4)
    refine ⟨_, congrArg Host.Outcome.next (State.hostWrite_admits h _), ?_, (State.addMsg_n ..).trans hstate,
      (State.addMsg_n ..).trans hmode⟩
    rw [hok]
    exact State.answered_addMsg (by simp [State.loopEff_lan]) ..

end Sys2Proof.Machine
end

section
/-!
PROOFS. A serial-number response whose serial number is logged beyond the log's entries (R108).
-/

namespace Sys2Proof.Machine

open State

/-- The window that is open on channel 0 from time 0 on. -/
def openWindow : QuietWin := ⟨0, 0, 250 * Tm.us, ⟨100, [], 32, 5, 1, false⟩, 6, 40⟩

/-- The serial number that answers in it. -/
def heardSerial : Vector Byte 8 := #v[1, 2, 3, 4, 5, 6, 7, 8]

/-- Channel 0 in Run with its window open, and the serial number listed in the discovery log under number 300, beyond the
log's 256 entries. A log that started empty is not listed there; the statement speaks of every state, and asks for no
bound on what the log lists. -/
def State.loggedBeyond : State :=
  ((((State.reset.put .channelLaneState 0 2).put .channelSnuffPhase 0 0).put .discoveredCount 300 1).putOct
    .discoveredSerial 300 heardSerial.toList).setAct 0 { ActSt.idle with wins := [openWindow] }

/-- The response is logged where its serial number is listed, so that no entry below 256 shows it. -/
theorem State.loggedBeyond_none_below {t : State}
    (h : exec (.serialNumberResponse 0 [(50, 1)] 0 true heardSerial 0) State.loggedBeyond = .next t) :
    ∀ i < 256, t.oct .discoveredSerial i ≠ heardSerial.toList := by
  have hrun : (match exec (.serialNumberResponse 0 [(50, 1)] 0 true heardSerial 0) State.loggedBeyond with
      | .next t => (List.range 256).all fun i => t.oct .discoveredSerial i != heardSerial.toList
      | _ => false) = true := by decide +kernel
  rw [h] at hrun
  intro i hi
  simpa using List.all_eq_true.1 hrun i (List.mem_range.2 hi)

/-- Refutes O34: where the serial number is listed beyond the log's 256 entries, a response that is not admitted is
logged there (`State.logIndex`), and not at one below 256 as the statement's fifth clause has it. -/
theorem not_windowsAndAdmission : ¬ Obligations.WindowsAndAdmission := by
  unfold Obligations.WindowsAndAdmission
  rintro ⟨-, -, -, -, hrefused, -⟩
  obtain ⟨t, i, hexec, hi, hserial, -⟩ := hrefused State.loggedBeyond 0 [(50, 1)] 0 heardSerial 0 openWindow [] 50 0
    (by decide +kernel) (by decide +kernel) (by decide +kernel) (by decide +kernel) (by decide +kernel)
    (by decide +kernel) (by decide +kernel) (by decide +kernel) (by decide +kernel)
  exact State.loggedBeyond_none_below hexec i hi hserial

end Sys2Proof.Machine
end

section
/-!
PROOFS. A timestamp queue that is longer than its high water (R212).
-/

namespace Sys2Proof.Machine

open State

/-- Lantern reaches the die, and two stamps wait in the queue of port 0, whose high water stands at 0. The statement speaks of
every state, and asks for no high water that a queue keeps to. -/
def State.aboveHighWater : State :=
  { State.reset.put .ucieLinkState 0 2 with
    boot := { BootSt.begin_ with lanternUp := true, dieReset := false }
    clk := { State.reset.clk with ts := [(0, [⟨1, 0, 0, 0⟩, ⟨2, 0, 0, 0⟩])] } }

/-- Taking the oldest stamp raises the queue's high water to the level that is left. -/
theorem State.aboveHighWater_read_raises {t : State}
    (h : exec (.tsTxEntry3Read 0) State.aboveHighWater = .next t) : t.n .tsQueueHighWater 0 = 1 := by
  have hrun : (match exec (.tsTxEntry3Read 0) State.aboveHighWater with
      | .next t => t.n .tsQueueHighWater 0
      | _ => 0) = 1 := by decide +kernel
  rwa [h] at hrun

/-- Refutes O28: the read of the last word of a timestamp entry stores what is left of the queue (`State.setTsQueue`), which
brings TsQueueHighWater up to the level. Where the queue was longer than its high water, this changes an object that the
frame of the statement's fifth clause does not name. -/
theorem not_registerReadLatches : ¬ Obligations.RegisterReadLatches := by
  unfold Obligations.RegisterReadLatches
  rintro ⟨-, -, -, -, hread, -⟩
  obtain ⟨t, hexec, -, -, -, hobjs, -⟩ := hread State.aboveHighWater 0 (by decide +kernel)
  have hraised := State.aboveHighWater_read_raises hexec
  rw [State.n_of_val (hobjs .tsQueueHighWater 0 (by decide) (by decide))] at hraised
  exact absurd hraised (by decide +kernel)

end Sys2Proof.Machine
end

section
/-!
PROOFS. A count of the bonding receiver that lies beyond its 64 bits (R68).
-/

namespace Sys2Proof.Machine

open State

/-- A receiver that waits for number 0 and holds number 1, whole, since time 0, with no frame open. -/
def loneFragment : BondRx := ⟨0, none, none, [⟨1, true, true, 100, none, none, 0⟩], none, 0⟩

/-- Flow 0 has this receiver, 1 s has passed, and BondFramesDiscarded stands at 2^64. The statement speaks of every state, and
asks for no count within the range of its type. -/
def State.discardsBeyond : State :=
  { (State.reset.put .bondFramesDiscarded 0 (2 ^ 64)).setBondRx 0 (some loneFragment) with
    clk := { State.reset.clk with elapsed := Tm.s } }

/-- With no frame open nothing is discarded, and the count stays as it is. -/
theorem State.discardsBeyond_discards_nothing {t : State}
    (h : exec (.bondingTimeout 0 0) State.discardsBeyond = .next t) : t.n .bondFramesDiscarded 0 = 2 ^ 64 := by
  have hrun : (match exec (.bondingTimeout 0 0) State.discardsBeyond with
      | .next t => t.n .bondFramesDiscarded 0
      | _ => 0) = 2 ^ 64 := by decide +kernel
  rwa [h] at hrun

/-- Refutes O32: where no frame is open BondFramesDiscarded is not written (`State.bondDiscard`), and the statement's first
clause has it reduced to 64 bits all the same. -/
theorem not_bondingReceiverGoesOn : ¬ Obligations.BondingReceiverGoesOn := by
  unfold Obligations.BondingReceiverGoesOn
  rintro ⟨htimeout, -⟩
  obtain ⟨t, r, hexec, -, -, -, -, -, hcounts⟩ := htimeout State.discardsBeyond 0 0 loneFragment
    ⟨1, true, true, 100, none, none, 0⟩ (by decide +kernel) rfl (by decide) (by decide) rfl rfl (by decide)
    (by decide +kernel) (by decide)
  obtain ⟨-, -, hdiscarded⟩ := hcounts rfl
  exact absurd ((State.discardsBeyond_discards_nothing hexec).symm.trans hdiscarded) (by decide +kernel)

end Sys2Proof.Machine
end

section
/-!
PROOFS. A descriptor whose flow is numbered beyond the flows (R63).
-/

namespace Sys2Proof.Machine

open State

/-- The number of a flow, beyond the 65,536 flows, whose FlowEncrypt reads from the place of requester 0's
RequesterCellsHeld, and whose FlowTerminal reads from that of its RequesterMinCells. -/
def farFlow : Nat := (Obj.requesterCellsHeld.code - Obj.flowEncrypt.code) * 16777216

/-- A frame of no flow that requester 0 stores in cell 0, held for a key since time 0. -/
def heldFrame : QDesc := ⟨0, 100, noFlow, 0, 0, 0, 0, some 0, [], false, false, .uplink 0, 0, [], []⟩

/-- A frame of the far flow, not held. -/
def farFrame : QDesc := { heldFrame with cell := 1, flow := farFlow, held := none }

/-- Both frames wait in queue 0 of terminal 5, the first held for 1 s; its cell is the one that requester 0 holds. The
statement speaks of every state, and asks for no bound on the flow of a descriptor. -/
def State.farQueued : State :=
  { (((((State.reset.put .queueTerminal 0 5).put .terminalChannel 5 3).put .requesterCellsHeld 0 1).put
      .requesterMinCells 0 5).setQueue 0 [heldFrame, farFrame]).setCell 0 (some ⟨1, 0, 0, none, 1, true, true⟩) with
    clk := { State.reset.clk with elapsed := Tm.s } }

/-- The release of the first frame's cell ends the encryption that the second one's flow reads, so that nothing holds it. -/
theorem State.farQueued_discard_holds_nothing {t : State}
    (h : exec (.keyHeldDiscard 0) State.farQueued = .next t) : t.queue 0 = [farFrame] := by
  have hrun : (match exec (.keyHeldDiscard 0) State.farQueued with
      | .next t => t.queue 0
      | _ => []) = [farFrame] := by decide +kernel
  rwa [h] at hrun

/-- Refutes O46: the discarded head's release writes RequesterCellsHeld before the next frame is looked at
(`execKeyHeldDiscard`), and that frame's flow reads its FlowEncrypt from the same place. The clause on frames held for a key
asks in the state before, where the next frame wants a key; as it becomes the head it wants none. -/
theorem not_framesAskedForAndSent : ¬ Obligations.FramesAskedForAndSent := by
  unfold Obligations.FramesAskedForAndSent
  rintro ⟨-, -, -, -, -, -, -, -, hheld, -⟩
  obtain ⟨t, hexec, -, hqueue, -⟩ := hheld State.farQueued 0 heldFrame [farFrame] 0 (by decide +kernel) rfl
    (by decide +kernel)
  exact absurd ((State.farQueued_discard_holds_nothing hexec).symm.trans hqueue) (by decide +kernel)

end Sys2Proof.Machine
end

section
/-!
PROOFS. A terminal whose channel is numbered beyond the channels (R61, R62).
-/

namespace Sys2Proof.Machine

open State

/-- The number of a channel, beyond the 32 channels, whose ChannelGeneration reads from the place of key slot 10's state. -/
def farChannel : Nat := (Obj.keySlotState.code - Obj.channelGeneration.code) * 16777216 + 10

/-- Terminal 5 is in service on that channel, and its exchange runs while Lantern serves; its slots 10 and 11 are Empty. The
statement speaks of every state, and asks for no bound on the channel of the exchange. -/
def State.farExchange : State :=
  { ((State.reset.put .terminalChannel 5 farChannel).put .terminalStateA 5 4).setExch 5 ⟨false, true, none, false⟩ with
    boot := { BootSt.begin_ with lanternUp := true, dieReset := false } }

/-- The load makes slot 10 Next, by which the channel reads as GPON, so that no switch is scheduled. -/
theorem State.farExchange_unscheduled {t : State}
    (h : exec (.keyExchangeComplete 5 (.replicate 16 0)) State.farExchange = .next t) : (t.exch 5).due = none := by
  have hrun : (match exec (.keyExchangeComplete 5 (.replicate 16 0)) State.farExchange with
      | .next t => (t.exch 5).due
      | _ => some 0) = none := by decide +kernel
  rwa [h] at hrun

/-- Refutes O51: the generation of the exchange's channel is looked at after the key has been loaded
(`execKeyExchangeComplete`). Where the channel's number makes it read the slot's state, the load makes the channel GPON; the
statement's first clause looks at it before, when it is not, and has a switch scheduled. -/
theorem not_terminalKeysExchangedAndUsed : ¬ Obligations.TerminalKeysExchangedAndUsed := by
  unfold Obligations.TerminalKeysExchangedAndUsed
  rintro ⟨hexchange, -⟩
  obtain ⟨t, hexec, -, -, -, -, hscheduled, -⟩ := hexchange State.farExchange 5 (.replicate 16 0) farChannel
    (by decide +kernel) (by decide +kernel) (by decide +kernel)
  obtain ⟨hdue, -⟩ := hscheduled (by decide +kernel)
  exact absurd ((State.farExchange_unscheduled hexec).symm.trans hdue) (by decide +kernel)

end Sys2Proof.Machine
end

section
/-!
PROOFS. A burst that does not come, whose terminal is numbered beyond the terminals (R91, R98).
-/

namespace Sys2Proof.Machine

open State

/-- The number of a terminal, beyond the 8,192 terminals, whose TerminalUpAbsent reads from the place of channel 0's
UpFramesAccounted. -/
def farTerminal : Nat := (Obj.upFramesAccounted.code - Obj.terminalUpAbsent.code) * 16777216

/-- A burst of that terminal, expected without a preamble. -/
def farBurst : Expect :=
  ⟨⟨farTerminal, 100, 200, 10, 0, ⟨0, [], 32, 0, 0, false⟩, false, false, []⟩, ⟨0, [], 32, 0, 0, false⟩, 6, false⟩

/-- The map of frame 0, of which this burst is still to come. -/
def farFlight : Flight := ⟨0, false, false, false, 0, 0, false, 0, [farBurst], 0, [0], false, []⟩

/-- Channel 0 has this map in flight and its receive PLL locked, and the upstream frame has ended. The statement speaks of
every state, and asks for no bound on the terminal of a burst. -/
def State.farAwaited : State :=
  { (State.reset.putReg (Reg.ponLaneStatus 0) 2).setGch 0 { GrantCh.idle with flight := [farFlight] } with
    clk := { State.reset.clk with c0 := 750 * Tm.us, c1 := 750 * Tm.us, c2 := 750 * Tm.us } }

/-- The frame counts once as accounted, and once more as the terminal's absent burst. -/
theorem State.farAwaited_counts_twice {t : State} (h : exec (.upstreamFrameAccounted 0) State.farAwaited = .next t) :
    t.n .upFramesAccounted 0 = 2 := by
  have hrun : (match exec (.upstreamFrameAccounted 0) State.farAwaited with
      | .next t => t.n .upFramesAccounted 0
      | _ => 0) = 2 := by decide +kernel
  rwa [h] at hrun

/-- Refutes O31: a burst that has not come by the end of its frame is Missing, and counts for its terminal
(`State.absent`). Where the terminal's number makes this the place of UpFramesAccounted, that count rises by two, and the
statement's clause on the end of a frame has it rise by one. -/
theorem not_burstsReceived : ¬ Obligations.BurstsReceived := by
  unfold Obligations.BurstsReceived
  rintro ⟨-, -, -, -, -, -, hended, -⟩
  obtain ⟨t, hexec, -, -, -, haccounted⟩ := hended State.farAwaited 0 farFlight [] (by decide +kernel) (by decide +kernel)
  obtain ⟨hframes, -⟩ := haccounted (by decide +kernel)
  exact absurd ((State.farAwaited_counts_twice hexec).symm.trans hframes) (by decide +kernel)

end Sys2Proof.Machine
end

section
/-!
PROOFS. A count of early light that lies beyond its 64 bits (R93).
-/

namespace Sys2Proof.Machine

open State

/-- A burst of terminal 5 in the words 100 to 200 of its frame, expected without a preamble. -/
def burstBefore : Expect :=
  ⟨⟨5, 100, 200, 10, 0, ⟨0, [], 32, 0, 0, false⟩, false, false, []⟩, ⟨0, [], 32, 0, 0, false⟩, 6, false⟩

/-- A burst of terminal 6 in the words 9,000 to 9,100. -/
def burstAfter : Expect := { burstBefore with burst := { burstBefore.burst with term := 6, start := 9000, stop := 9100 } }

/-- The map of frame 0 with these two bursts. -/
def twoBursts : Flight := ⟨0, false, false, false, 0, 0, false, 0, [burstBefore, burstAfter], 0, [], false, []⟩

/-- Channel 0 in Run on XGS-PON, with the map in flight and its gaps monitored, and UpEarlyLight stands at 2^64. The
statement speaks of every state, and asks for no count within the range of its type. -/
def State.earlyBeyond : State :=
  ((((State.reset.put .channelLaneState 0 2).put .channelGeneration 0 3).put .channelGapMonitor 0 1).put .upEarlyLight 0
    (2 ^ 64)).setGch 0 { GrantCh.idle with flight := [twoBursts] }

/-- The end of the first burst, and the start of the second. -/
def gapBetween : Time × Time :=
  ((State.earlyBeyond.burstTimes 0 twoBursts burstBefore).2, (State.earlyBeyond.burstTimes 0 twoBursts burstAfter).1)

/-- Light for 2 µs from the end of the first burst on is overlong only, and the count of early light stays as it is. -/
theorem State.earlyBeyond_stays {t : State}
    (h : exec (.lightFound 0 gapBetween.1 (gapBetween.1 + 2 * Tm.us) 41) State.earlyBeyond = .next t) :
    t.n .upEarlyLight 0 = 2 ^ 64 := by
  have hrun : (match exec (.lightFound 0 gapBetween.1 (gapBetween.1 + 2 * Tm.us) 41) State.earlyBeyond with
      | .next t => t.n .upEarlyLight 0
      | _ => 0) = 2 ^ 64 := by decide +kernel
  rwa [h] at hrun

/-- Refutes O33: where light does not touch the end of its interval UpEarlyLight is not written (`State.lightGap`), and the
statement's first clause has it reduced to 64 bits all the same. -/
theorem not_strayLightAndHunts : ¬ Obligations.StrayLightAndHunts := by
  unfold Obligations.StrayLightAndHunts
  rintro ⟨hlight, -⟩
  obtain ⟨htouches, -⟩ := hlight State.earlyBeyond 0 gapBetween.1 (gapBetween.1 + 2 * Tm.us) 41 5 6 gapBetween.1
    gapBetween.2 (by decide +kernel) (by decide +kernel) (by decide +kernel) (by decide +kernel)
  obtain ⟨t, hexec, -, hearly, -⟩ := htouches (by decide +kernel)
  exact absurd ((State.earlyBeyond_stays hexec).symm.trans hearly) (by decide +kernel)

end Sys2Proof.Machine
end

section
/-!
PROOFS. Rules for terminals and channels in activation: what is listed of an object through a write of another, reads of a
terminal's record, of an activation record and of a framer through the updates of the rest of the state, and what a
terminal's entry to Idle does and leaves alone (R101).
-/

namespace Sys2Proof.Machine

open State

/-! ### What is listed of an object -/

theorem filterMap_tabErase {α β : Type} {f : Nat × α → Option β} {a : Nat} (hf : ∀ v, f (a, v) = none) (t : Tab α) :
    (tabErase t a).filterMap f = t.filterMap f := by
  induction t with
  | nil => rfl
  | cons p t ih =>
    by_cases hp : p.1 = a
    · subst hp
      have herase : tabErase (p :: t) p.1 = tabErase t p.1 := List.filter_cons_of_neg (by simp)
      rw [herase, ih, List.filterMap_cons_none (hf p.2)]
    · have herase : tabErase (p :: t) a = p :: tabErase t a := List.filter_cons_of_pos (by simp [hp])
      rw [herase, List.filterMap_cons, List.filterMap_cons, ih]

theorem filterMap_tabPlace {α β : Type} {f : Nat × α → Option β} {a : Nat} {v : α} (hf : f (a, v) = none) (t : Tab α) :
    (tabPlace t a v).filterMap f = t.filterMap f := by
  induction t with
  | nil => simp [tabPlace, hf]
  | cons p t ih =>
    unfold tabPlace
    split
    · simp [hf]
    · simp [List.filterMap_cons, ih]

/-- A write of one object leaves what is listed of another. -/
theorem State.listed_putVal_other (s : State) {o p : Obj} {i : Nat} (v : Val) (h : p ≠ o) (hi : i < 16777216) :
    (s.putVal o i v).listed p = s.listed p := by
  have hkey : o.key i / 16777216 ≠ p.code := by
    rw [Obj.key, Nat.mul_comm, Nat.mul_add_div (by decide), Nat.div_eq_of_lt hi]
    exact (Obj.code_ne h).symm
  unfold State.listed State.putVal tabPut
  dsimp only
  split
  · exact filterMap_tabErase (fun _ => if_neg hkey) _
  · exact (filterMap_tabPlace (if_neg hkey) _).trans (filterMap_tabErase (fun _ => if_neg hkey) _)

theorem State.lt_of_mem_listed {s : State} {o : Obj} {i : Nat} (h : i ∈ s.listed o) : i < 16777216 := by
  obtain ⟨p, -, hp⟩ := List.mem_filterMap.1 h
  split at hp
  · cases hp; exact Nat.mod_lt _ (by decide)
  · cases hp

/-! ### Records of a terminal, of a channel's activation and of its framer -/

theorem State.term_of_terms {s t : State} (h : t.terms = s.terms) (x : Nat) : t.term x = s.term x := by
  unfold State.term; rw [h]

theorem State.sd_of_terms {s t : State} (h : t.terms = s.terms) (x k : Nat) : t.sd x k = s.sd x k := by
  unfold State.sd; rw [State.term_of_terms h]

theorem State.framer_of_framers {s t : State} (h : t.framers = s.framers) (ch : Nat) : t.framer ch = s.framer ch := by
  unfold State.framer; rw [h]

@[simp] theorem State.term_setTerm (s : State) (x : Nat) (r : TermSt) : (s.setTerm x r).term x = r :=
  tabGet_put_self _ _ _ _

@[simp] theorem State.sd_setSd (s : State) (x k : Nat) (r : SideSt) : (s.setSd x k r).sd x k = r := by
  by_cases h : k = 0 <;> simp [State.sd, State.setSd, h]

@[simp] theorem State.act_setAct (s : State) (ch : Nat) (r : ActSt) : (s.setAct ch r).act ch = r :=
  tabGet_put_self _ _ _ _

@[simp] theorem State.framer_setFramer (s : State) (ch : Nat) (f : FramerSt) : (s.setFramer ch f).framer ch = f :=
  tabGet_put_self _ _ _ _

theorem State.sd_setTerm {s : State} {x : Nat} {r : TermSt} (k : Nat) (ha : r.a = (s.term x).a)
    (hb : r.b = (s.term x).b) : (s.setTerm x r).sd x k = s.sd x k := by simp [State.sd, ha, hb]

@[simp] theorem State.sd_putVal (s : State) (o : Obj) (i : Nat) (v : Val) (x k : Nat) :
    (s.putVal o i v).sd x k = s.sd x k := State.sd_of_terms rfl x k

@[simp] theorem State.sd_setLane (s : State) (ch : Nat) (l : LaneSt) (x k : Nat) :
    (s.setLane ch l).sd x k = s.sd x k := State.sd_of_terms rfl x k

@[simp] theorem State.sd_setAct (s : State) (ch : Nat) (r : ActSt) (x k : Nat) :
    (s.setAct ch r).sd x k = s.sd x k := State.sd_of_terms rfl x k

@[simp] theorem State.sd_setFramer (s : State) (ch : Nat) (f : FramerSt) (x k : Nat) :
    (s.setFramer ch f).sd x k = s.sd x k := State.sd_of_terms rfl x k

@[simp] theorem State.sd_raise (s : State) (c : Nat) (o : Obj) (i : Nat) (d : List Byte) (x k : Nat) :
    (s.raise c o i d).sd x k = s.sd x k := State.sd_of_terms (by simp) x k

@[simp] theorem State.framer_putVal (s : State) (o : Obj) (i : Nat) (v : Val) (ch : Nat) :
    (s.putVal o i v).framer ch = s.framer ch := State.framer_of_framers rfl ch

/-! ### A side's record replaced -/

@[simp] theorem State.setSd_objs (s : State) (x k : Nat) (r : SideSt) : (s.setSd x k r).objs = s.objs := by
  unfold State.setSd; split <;> rfl

@[simp] theorem State.setSd_regs (s : State) (x k : Nat) (r : SideSt) : (s.setSd x k r).regs = s.regs := by
  unfold State.setSd; split <;> rfl

@[simp] theorem State.setSd_val (s : State) (x k : Nat) (r : SideSt) (o : Obj) (i : Nat) :
    (s.setSd x k r).val o i = s.val o i := State.val_of_objs (s.setSd_objs x k r) o i

@[simp] theorem State.setSd_n (s : State) (x k : Nat) (r : SideSt) (o : Obj) (i : Nat) :
    (s.setSd x k r).n o i = s.n o i := State.n_of_val (s.setSd_val x k r o i)

@[simp] theorem State.framer_setSd (s : State) (x k : Nat) (r : SideSt) (ch : Nat) :
    (s.setSd x k r).framer ch = s.framer ch := by unfold State.setSd; split <;> rfl

/-! ### Frames through these updates -/

@[simp] theorem State.ObjsBut_setSd (s t : State) (ws : List (Obj × Nat)) (x k : Nat) (r : SideSt) :
    s.ObjsBut ws (t.setSd x k r) ↔ s.ObjsBut ws t := by simp [State.ObjsBut]

@[simp] theorem State.ObjsBut_setTerm (s t : State) (ws : List (Obj × Nat)) (x : Nat) (r : TermSt) :
    s.ObjsBut ws (t.setTerm x r) ↔ s.ObjsBut ws t := Iff.rfl

@[simp] theorem State.ObjsBut_setAct (s t : State) (ws : List (Obj × Nat)) (ch : Nat) (r : ActSt) :
    s.ObjsBut ws (t.setAct ch r) ↔ s.ObjsBut ws t := Iff.rfl

@[simp] theorem State.RegsBut_setSd (s t : State) (ws : List Nat) (x k : Nat) (r : SideSt) :
    s.RegsBut ws (t.setSd x k r) ↔ s.RegsBut ws t := by simp [State.RegsBut, State.reg]

@[simp] theorem State.RegsBut_setAct (s t : State) (ws : List Nat) (ch : Nat) (r : ActSt) :
    s.RegsBut ws (t.setAct ch r) ↔ s.RegsBut ws t := Iff.rfl

@[simp] theorem State.RegsBut_setFramer (s t : State) (ws : List Nat) (ch : Nat) (f : FramerSt) :
    s.RegsBut ws (t.setFramer ch f) ↔ s.RegsBut ws t := Iff.rfl

theorem State.n_of_objsBut {s t : State} {ws : List (Obj × Nat)} (h : s.ObjsBut ws t) {o : Obj} {i : Nat}
    (hi : i < 16777216) (hw : (o, i) ∉ ws) : t.n o i = s.n o i := State.n_of_val (h o i hi hw)

theorem State.oct_of_objsBut {s t : State} {ws : List (Obj × Nat)} (h : s.ObjsBut ws t) {o : Obj} {i : Nat}
    (hi : i < 16777216) (hw : (o, i) ∉ ws) : t.oct o i = s.oct o i := State.oct_of_val (h o i hi hw)

/-- Of a pair of objects the one of a side is named where both are. -/
theorem side_mem {a b : Obj} {i : Nat} {ws : List (Obj × Nat)} (k : Nat) (ha : (a, i) ∈ ws) (hb : (b, i) ∈ ws) :
    (side a b k, i) ∈ ws := by unfold side; split <;> assumption

theorem side_not_mem {a b : Obj} {i : Nat} {ws : List (Obj × Nat)} (k : Nat) (ha : (a, i) ∉ ws) (hb : (b, i) ∉ ws) :
    (side a b k, i) ∉ ws := by unfold side; split <;> assumption

/-- A frame that names no activation state leaves each as it was. -/
theorem State.tstate_of_objsBut {s t : State} {ws : List (Obj × Nat)} (h : s.ObjsBut ws t) {x : Nat} (k : Nat)
    (hx : x < 16777216) (ha : (.terminalStateA, x) ∉ ws) (hb : (.terminalStateB, x) ∉ ws) :
    t.tstate x k = s.tstate x k := State.n_of_objsBut h hx (side_not_mem k ha hb)

/-- A frame that names neither the channel nor the bonding of a terminal leaves its sides as they were. -/
theorem State.sideOn_of_objsBut {s t : State} {ws : List (Obj × Nat)} (h : s.ObjsBut ws t) {x : Nat} (ch : Nat)
    (hx : x < 16777216) (ha : (.terminalChannel, x) ∉ ws) (hb : (.terminalBonded, x) ∉ ws) :
    t.sideOn x ch = s.sideOn x ch := by
  unfold State.sideOn State.chanA State.bonded
  rw [State.n_of_objsBut h hx ha, State.on_of_val (h _ _ hx hb)]

@[simp] theorem State.tstate_putT (s : State) (x k v : Nat) : (s.putT x k v).tstate x k = v := State.n_put ..

@[simp] theorem State.sd_putT (s : State) (x k v y j : Nat) : (s.putT x k v).sd y j = s.sd y j :=
  State.sd_of_terms rfl y j

@[simp] theorem State.framer_putT (s : State) (x k v ch : Nat) : (s.putT x k v).framer ch = s.framer ch :=
  State.framer_of_framers rfl ch

/-! ### Messages queued -/

@[simp] theorem State.sd_ploamAct (s : State) (ch : Nat) (c : Ploam) (x onu : Nat) (body : List Nat) (times y j : Nat) :
    (s.ploamAct ch c x onu body times).sd y j = s.sd y j := State.sd_of_terms rfl y j

@[simp] theorem State.tstate_ploamAct (s : State) (ch : Nat) (c : Ploam) (x onu : Nat) (body : List Nat)
    (times y j : Nat) : (s.ploamAct ch c x onu body times).tstate y j = s.tstate y j :=
  State.n_of_val (State.val_of_objs rfl ..)

@[simp] theorem State.framer_ploamAct (s : State) (ch : Nat) (c : Ploam) (x onu : Nat) (body : List Nat) (times : Nat) :
    (s.ploamAct ch c x onu body times).framer ch =
      { s.framer ch with act := (s.framer ch).act ++ [⟨c, x, onu, body, times, 0⟩] } := State.framer_setFramer ..

/-! ### Entry to Idle -/

/-- The objects of a terminal's ranging record. -/
def recordObjs (x : Nat) : List (Obj × Nat) :=
  [(.terminalRtdA, x), (.terminalRtdB, x), (.terminalDsDelayA, x), (.terminalDsDelayB, x), (.terminalEqdA, x),
    (.terminalEqdB, x)]

/-- The objects that a terminal's entry to Idle writes. -/
def idleObjs (x : Nat) : List (Obj × Nat) :=
  [(.terminalStateA, x), (.terminalStateB, x), (.terminalOnuIdAssigned, x), (.terminalPowerState, x)] ++ recordObjs x

/-- The objects of one side's record. -/
theorem mem_recordObjs (x k : Nat) : (side .terminalRtdA .terminalRtdB k, x) ∈ recordObjs x ∧
    (side .terminalDsDelayA .terminalDsDelayB k, x) ∈ recordObjs x ∧
    (side .terminalEqdA .terminalEqdB k, x) ∈ recordObjs x := by
  refine ⟨side_mem k ?_ ?_, side_mem k ?_ ?_, side_mem k ?_ ?_⟩ <;> simp [recordObjs]

theorem State.clearRecord_objs {s t : State} {ws : List (Obj × Nat)} {x : Nat} (k : Nat) (hx : x < 16777216)
    (hw : recordObjs x ⊆ ws) (h : s.ObjsBut ws t) : s.ObjsBut ws (t.clearRecord x k) := by
  obtain ⟨hrtd, hdelay, heqd⟩ := mem_recordObjs x k
  simp [State.clearRecord, hx, hw hrtd, hw hdelay, hw heqd, h]

@[simp] theorem State.sd_clearRecord (s : State) (x k : Nat) : (s.clearRecord x k).sd x k = s.sd x k :=
  State.sd_of_terms rfl x k

theorem stateObj_mem (x k : Nat) : (side .terminalStateA .terminalStateB k, x) ∈ idleObjs x :=
  side_mem k (by simp [idleObjs]) (by simp [idleObjs])

/-- A side's entry to Idle: its state, its record, and the instant noted on the channel's lane. -/
def State.sideIdle (s : State) (x ch k : Nat) : State :=
  let u := ((s.putT x k 0).clearRecord x k).setSd x k SideSt.idle
  u.setLane ch { u.lane ch with lastActive := u.now }

theorem State.sideIdle_objs (s : State) {x : Nat} (ch k : Nat) (hx : x < 16777216) :
    s.ObjsBut (idleObjs x) (s.sideIdle x ch k) := by
  have hstate : s.ObjsBut (idleObjs x) (s.putT x k 0) := by simp [State.putT, hx, stateObj_mem]
  simpa [State.sideIdle] using
    State.clearRecord_objs (ws := idleObjs x) k hx (List.subset_append_right ..) hstate

theorem State.sideIdle_tstate (s : State) {x : Nat} (ch k : Nat) (hx : x < 16777216) :
    (s.sideIdle x ch k).tstate x k = 0 := by
  refine Eq.trans ?_ (State.tstate_putT s x k 0)
  refine State.tstate_of_objsBut (ws := recordObjs x) ?_ k hx (by simp [recordObjs]) (by simp [recordObjs])
  simpa [State.sideIdle] using State.clearRecord_objs k hx (List.Subset.refl _) (State.ObjsBut_self (s.putT x k 0) _)

theorem State.sideIdle_sd (s : State) (x ch k : Nat) : (s.sideIdle x ch k).sd x k = SideSt.idle := by
  simp [State.sideIdle]

/-- What the channels of a terminal share goes once it is Idle on each of them. -/
theorem State.goIdle_of_side {s : State} {x ch k : Nat} (hk : s.sideOn x ch = some k) :
    s.goIdle x ch =
      if ((s.sideIdle x ch k).chansOf x).all fun c => (s.sideIdle x ch k).stateOn x c == 0 then
        (((s.sideIdle x ch k).put .terminalOnuIdAssigned x 0xFFFF).put .terminalPowerState x 0).setTerm x
          { (s.sideIdle x ch k).term x with aware := false, emptySince := none, wakeFrame := none, reqFrom := none }
      else s.sideIdle x ch k := by
  simp only [State.goIdle, hk]; rfl

theorem State.goIdle_of_no_side {s : State} {x ch : Nat} (hk : s.sideOn x ch = none) : s.goIdle x ch = s := by
  simp only [State.goIdle, hk]

theorem State.goIdle_objs (s : State) {x : Nat} (ch : Nat) (hx : x < 16777216) :
    s.ObjsBut (idleObjs x) (s.goIdle x ch) := by
  cases hk : s.sideOn x ch with
  | none => simp [State.goIdle_of_no_side hk]
  | some k =>
    have hside := s.sideIdle_objs ch k hx
    rw [State.goIdle_of_side hk]
    split
    · simpa [hx, idleObjs] using hside
    · exact hside

/-- A terminal that goes Idle on a channel is Idle on its side there, with an empty record. -/
theorem State.goIdle_idle {s : State} {x ch k : Nat} (hx : x < 16777216) (hk : s.sideOn x ch = some k) :
    (s.goIdle x ch).tstate x k = 0 ∧ (s.goIdle x ch).sd x k = SideSt.idle := by
  have hstate := s.sideIdle_tstate ch k hx
  have hside := s.sideIdle_sd x ch k
  rw [State.goIdle_of_side hk]
  split
  · refine ⟨Eq.trans ?_ hstate, Eq.trans (State.sd_setTerm k rfl rfl) hside⟩
    exact State.tstate_of_objsBut (ws := [(.terminalOnuIdAssigned, x), (.terminalPowerState, x)]) (by simp [hx]) k hx
      (by simp) (by simp)
  · exact ⟨hstate, hside⟩

/-! ### A failed activation -/

theorem State.activationFails_objs (s : State) {x : Nat} (ch : Nat) (hx : x < 16777216) :
    s.ObjsBut (idleObjs x) (s.activationFails x ch) := State.goIdle_objs _ ch hx

theorem State.activationFails_idle {s : State} {x ch k : Nat} (hx : x < 16777216) (hk : s.sideOn x ch = some k) :
    (s.activationFails x ch).tstate x k = 0 ∧ (s.activationFails x ch).sd x k = SideSt.idle :=
  State.goIdle_idle hx hk

theorem State.activationFails_now (s : State) (x ch : Nat) : (s.activationFails x ch).now = s.now :=
  congrArg ClockSt.elapsed ((State.activationFails_kept (m := 2170882) s x ch rfl (kept_refl _ s)).2 .clk rfl)

end Sys2Proof.Machine
end

section
/-!
PROOFS. Ranging, registration and lockouts (R82, R106, R112 to R114).
-/

namespace Sys2Proof.Machine

open State

/-! ### Ranging -/

/-- The state in which a ranging response has been noted: its window kept as past, the lane's equaliser as the window
left it, the preset seeded and the recommended code counted. -/
def State.heard (s : State) (ch x k : Nat) (w : RangeWin) (code : Nat) : State :=
  let u := (s.windowPast ch w.lo w.hi).setLane ch { s.lane ch with code := w.code }
  (if (u.sd x k).seeded then u else u.put (presetObj k) x code).eqCount ch x k code

/-- The objects of a terminal's equaliser. -/
def equaliserObjs (x : Nat) : List (Obj × Nat) :=
  [(.terminalEqPresetA, x), (.terminalEqPresetB, x), (.terminalEqRecommendedA, x), (.terminalEqRecommendedB, x)]

theorem State.eqCount_objs {s t : State} {ws : List (Obj × Nat)} {x : Nat} (ch k code : Nat) (hx : x < 16777216)
    (hw : equaliserObjs x ⊆ ws) (h : s.ObjsBut ws t) : s.ObjsBut ws (t.eqCount ch x k code) := by
  have hrec : (recommendedObj k, x) ∈ ws := hw (side_mem k (by simp [equaliserObjs]) (by simp [equaliserObjs]))
  have hput : s.ObjsBut ws (t.put (recommendedObj k) x code) := by simpa [hx, hrec] using h
  simp only [State.eqCount]
  split
  · split <;> exact hput
  · exact hput

theorem State.heard_objs (s : State) {x : Nat} (ch k : Nat) (w : RangeWin) (code : Nat) (hx : x < 16777216) :
    s.ObjsBut (equaliserObjs x) (s.heard ch x k w code) := by
  have hpre : (presetObj k, x) ∈ equaliserObjs x := side_mem k (by simp [equaliserObjs]) (by simp [equaliserObjs])
  refine State.eqCount_objs ch k code hx (List.Subset.refl _) ?_
  split <;> simp [State.windowPast, hx, hpre]

/-- Of the parts of the state only objects, lanes, tracking runs and activation records change. -/
theorem State.heard_kept (s : State) (ch x k : Nat) (w : RangeWin) (code : Nat) :
    State.Kept 4235266 s (s.heard ch x k w code) := by
  refine State.eqCount_kept _ _ _ _ _ rfl (ite_kept ?noted (State.put_kept _ _ _ _ rfl ?noted))
  exact State.setLane_kept _ _ _ rfl (State.windowPast_kept _ _ _ _ rfl (kept_refl _ s))

theorem State.heard_sd (s : State) (ch x k : Nat) (w : RangeWin) (code j : Nat) :
    (s.heard ch x k w code).sd x j = s.sd x j :=
  State.sd_of_terms ((s.heard_kept ch x k w code).2 .terms rfl) x j

theorem State.heard_framer (s : State) (ch x k : Nat) (w : RangeWin) (code : Nat) :
    (s.heard ch x k w code).framer ch = s.framer ch :=
  State.framer_of_framers ((s.heard_kept ch x k w code).2 .framers rfl) ch

theorem State.heard_n (s : State) {x : Nat} (ch k : Nat) (w : RangeWin) (code : Nat) (hx : x < 16777216) {o : Obj}
    {i : Nat} (hi : i < 16777216) (ho : (o, i) ∉ equaliserObjs x) : (s.heard ch x k w code).n o i = s.n o i :=
  State.n_of_objsBut (s.heard_objs ch k w code hx) hi ho

theorem State.heard_outOfReach (s : State) {x ch : Nat} (k : Nat) (w : RangeWin) (code : Nat) (hx : x < 16777216)
    (hc : ch < 16777216) (eqd rtd : Int) : (s.heard ch x k w code).outOfReach ch eqd rtd = s.outOfReach ch eqd rtd := by
  unfold State.outOfReach State.rtdFibre State.fixedDelay
  rw [s.heard_n ch k w code hx hc (o := .channelReachMax) (by simp [equaliserObjs]),
    s.heard_n ch k w code hx hc (o := .channelBoardTxDelay) (by simp [equaliserObjs]),
    s.heard_n ch k w code hx hc (o := .channelBoardRxDelay) (by simp [equaliserObjs])]

/-- The round-trip delay that a response gives by its window (R113). -/
def State.windowRtd (s : State) (ch : Nat) (w : RangeWin) (delim : Time) : Int :=
  (delim : Int) - (w.frame * Tm.frame : Nat) - s.wordSpan ch w.start + bitSpan (s.upRate ch) w.prof.dbits
    - s.unitSpan ch w.ePre

/-- The equalisation delay that answers a round-trip delay (R114). -/
def State.windowEqd (s : State) (ch : Nat) (rtd : Int) : Int := s.spanUnits ch ((upDelay : Int) - rtd)

/-- The delays of a side shown, and its state. -/
def State.showRanged (s : State) (ch x k : Nat) (eqd rtd : Int) : State :=
  ((s.setSd x k { s.sd x k with window := none, seeded := true }).showEqd x k ch eqd).showRtd x k ch rtd

theorem State.ranged_of_reach {s : State} {ch x k : Nat} (w : RangeWin) (delim : Time) (code : Nat)
    (hx : x < 16777216) (hc : ch < 16777216)
    (h : s.outOfReach ch (s.windowEqd ch (s.windowRtd ch w delim)) (s.windowRtd ch w delim) = false) :
    let u := (s.heard ch x k w code).showRanged ch x k (s.windowEqd ch (s.windowRtd ch w delim))
      (s.windowRtd ch w delim)
    s.ranged ch x k w delim code = (u.putT x k 3).ploamAct ch .rangingTime x (u.n .terminalOnuIdAssigned x)
      [(s.windowEqd ch (s.windowRtd ch w delim)).toNat] :=
  if_neg (by rw [Bool.not_eq_true]; exact (s.heard_outOfReach k w code hx hc _ _).trans h)

theorem State.ranged_of_no_reach {s : State} {ch x k : Nat} (w : RangeWin) (delim : Time) (code : Nat)
    (hx : x < 16777216) (hc : ch < 16777216)
    (h : s.outOfReach ch (s.windowEqd ch (s.windowRtd ch w delim)) (s.windowRtd ch w delim) = true) :
    s.ranged ch x k w delim code = ((s.heard ch x k w code).activationFails x ch).raiseChange
      (side .terminalStateA .terminalStateB k) x 2 0 (beBytes 4 (twos 32 (spanPs (s.windowRtd ch w delim)))) :=
  if_pos ((s.heard_outOfReach k w code hx hc _ _).trans h)

theorem State.showRanged_objs (s : State) {x : Nat} (ch k : Nat) (eqd rtd : Int) (hx : x < 16777216) :
    s.ObjsBut (recordObjs x) (s.showRanged ch x k eqd rtd) := by
  obtain ⟨hrtd, hdelay, heqd⟩ := mem_recordObjs x k
  simp [State.showRanged, State.showEqd, State.showRtd, hx, hrtd, hdelay, heqd]

theorem State.showRanged_sd (s : State) (ch x k : Nat) (eqd rtd : Int) :
    (s.showRanged ch x k eqd rtd).sd x k =
      { s.sd x k with window := none, seeded := true, eqd := eqd, rtd := rtd } := by
  simp [State.showRanged, State.showEqd, State.showRtd]

theorem State.showRanged_framer (s : State) (ch x k : Nat) (eqd rtd : Int) :
    (s.showRanged ch x k eqd rtd).framer ch = s.framer ch := by
  simp [State.showRanged, State.showEqd, State.showRtd]

/-- A response within reach: the delays held and shown, the window gone, and Ranging_Time queued (R113, R114). -/
theorem State.ranged_in_reach {s : State} {ch x k : Nat} (w : RangeWin) (delim : Time) (code : Nat)
    (hx : x < 16777216) (hc : ch < 16777216)
    (h : s.outOfReach ch (s.windowEqd ch (s.windowRtd ch w delim)) (s.windowRtd ch w delim) = false) :
    (s.ranged ch x k w delim code).tstate x k = 3 ∧
      ((s.ranged ch x k w delim code).sd x k).rtd = s.windowRtd ch w delim ∧
      ((s.ranged ch x k w delim code).sd x k).eqd = s.windowEqd ch (s.windowRtd ch w delim) ∧
      ((s.ranged ch x k w delim code).sd x k).window = none ∧
      ((s.ranged ch x k w delim code).framer ch).act = (s.framer ch).act ++
        [⟨.rangingTime, x, s.n .terminalOnuIdAssigned x, [(s.windowEqd ch (s.windowRtd ch w delim)).toNat], 1, 0⟩] := by
  have honu := (State.n_of_objsBut ((s.heard ch x k w code).showRanged_objs ch k
    (s.windowEqd ch (s.windowRtd ch w delim)) (s.windowRtd ch w delim) hx) hx (o := .terminalOnuIdAssigned)
    (by simp [recordObjs])).trans (s.heard_n ch k w code hx hx (by simp [equaliserObjs]))
  rw [State.ranged_of_reach w delim code hx hc h, honu]
  simp [State.showRanged_sd, State.showRanged_framer, State.heard_framer]

/-- A response out of reach: the activation fails (R114). -/
theorem State.ranged_out_of_reach {s : State} {ch x k : Nat} (w : RangeWin) (delim : Time) (code : Nat)
    (hx : x < 16777216) (hc : ch < 16777216) (hk : s.sideOn x ch = some k)
    (h : s.outOfReach ch (s.windowEqd ch (s.windowRtd ch w delim)) (s.windowRtd ch w delim) = true) :
    (s.ranged ch x k w delim code).tstate x k = 0 ∧ (s.ranged ch x k w delim code).sd x k = SideSt.idle := by
  obtain ⟨hstate, hside⟩ := State.activationFails_idle hx ((State.sideOn_of_objsBut
    (s.heard_objs ch k w code hx) ch hx (by simp [equaliserObjs]) (by simp [equaliserObjs])).trans hk)
  rw [State.ranged_of_no_reach w delim code hx hc h, State.raiseChange_eq]
  exact ⟨(State.n_raise _ _ _ _ _ (by unfold side; split <;> decide) hx).trans hstate, (State.sd_raise ..).trans hside⟩

/-- A response found in its window, while the terminal ranges. -/
theorem exec_rangingResponse_of_found {s : State} {ch : Chan} {x : Term} {hits : List (Nat × Nat)} {ph : Fin 64}
    {k pos : Nat} {w : RangeWin} (hk : s.sideOn x ch = some k) (hw : (s.sd x k).window = some w) (ht : s.tstate x k = 2)
    (hpos : State.findResponse w.prof hits w.next = some pos) (hin : w.lo + s.bitTime ch pos ph < w.hi) (c : Fin 16) :
    exec (.rangingResponse ch x hits ph true c) s = .next (s.ranged ch x k w (w.lo + s.bitTime ch pos ph) c) ∧
      exec (.rangingResponse ch x hits ph false c) s = .next
        (s.setSd x k { s.sd x k with window := some { w with next := pos + s.responseBits ch w.prof } }) := by
  simp only [exec, execRangingResponse, hk, hw, hpos, if_pos (And.intro ht hin), if_true, Bool.false_eq_true, if_false,
    and_self]

/-- No response is found while the terminal does not range, in a window without a match, or beyond the window's end. -/
theorem exec_rangingResponse_of_none {s : State} {ch : Chan} {x : Term} {hits : List (Nat × Nat)} {ph : Fin 64}
    (g : Bool) (c : Fin 16)
    (h : ∀ k ∈ s.sideOn x ch, ∀ w ∈ (s.sd x k).window, s.tstate x k ≠ 2 ∨
      State.findResponse w.prof hits w.next = none ∨
      (∀ pos ∈ State.findResponse w.prof hits w.next, w.hi ≤ w.lo + s.bitTime ch pos ph)) :
    exec (.rangingResponse ch x hits ph g c) s = .next s := by
  simp only [exec, execRangingResponse]
  cases hk : s.sideOn x ch with
  | none => rfl
  | some k =>
    dsimp only
    cases hw : (s.sd x k).window with
    | none => rfl
    | some w =>
      dsimp only
      cases hpos : State.findResponse w.prof hits w.next with
      | none => rfl
      | some pos =>
        refine if_neg fun ⟨ht, hin⟩ => ?_
        rcases h k hk w hw with h | h | h
        · exact h ht
        · simp [hpos] at h
        · exact Nat.not_le.2 hin (h pos hpos)

/-! ### The end of a ranging window -/

theorem exec_rangingWindowEnd_of_ended {s : State} {ch : Chan} {x : Term} {k : Nat} {w : RangeWin}
    (hk : s.sideOn x ch = some k) (hw : (s.sd x k).window = some w) (h : s.tstate x k = 2 ∧ w.hi ≤ s.wick) :
    exec (.rangingWindowEnd ch x) s = .next
      (if 2 ≤ (s.sd x k).attempts then (s.windowPast ch w.lo w.hi).activationFails x ch
        else (s.windowPast ch w.lo w.hi).setSd x k
          { s.sd x k with window := none, attempts := (s.sd x k).attempts + 1, retry := true }) := by
  simp only [exec, execRangingWindowEnd, hk, hw, if_pos h]
  exact (apply_ite _ _ _ _).symm

theorem exec_rangingWindowEnd_of_open {s : State} {ch : Chan} {x : Term}
    (h : ∀ k ∈ s.sideOn x ch, ∀ w ∈ (s.sd x k).window, s.tstate x k ≠ 2 ∨ s.wick < w.hi) :
    exec (.rangingWindowEnd ch x) s = .next s := by
  simp only [exec, execRangingWindowEnd]
  cases hk : s.sideOn x ch with
  | none => rfl
  | some k =>
    dsimp only
    cases hw : (s.sd x k).window with
    | none => rfl
    | some w =>
      refine if_neg fun ⟨ht, hend⟩ => ?_
      rcases h k hk w hw with h | h
      · exact h ht
      · exact Nat.not_le.2 h hend

/-! ### Registration -/

/-- One request more noted, at this instant. -/
def State.noteRequest (s : State) (x k : Nat) : State :=
  s.setSd x k { s.sd x k with asked := (s.sd x k).asked + 1, askedAt := s.now, ploam := true }

/-- A reply's identifier noted. -/
def State.noteReply (s : State) (x : Nat) (id : List Byte) : State := s.putOct .terminalRegistrationId x id

/-- The identifier that the admission list wants of a terminal, empty where it names none. -/
def State.wantedId (s : State) (x : Nat) : List Byte :=
  match s.admitEntry (s.oct .terminalSerial x) with
  | some i => s.oct .admitRegistrationId i
  | none => []

/-- A reply accepted: the key that it gives is drawn. -/
def State.replyAccepted (s : State) (x k : Nat) : State :=
  { s with fresh := s.fresh + 1 }.setSd x k { s.sd x k with accepted := true, ploam := false, mik := some s.fresh }

/-- A wrong reply: the activation fails, and the serial number is locked out. -/
def State.replyRefused (s : State) (x ch : Nat) : State :=
  let u := (s.activationFails x ch).setBit (Reg.actStatus ch) 7 true
  u.setAct ch { u.act ch with lockouts := ((u.act ch).lockouts.filter fun y => y.1 != s.oct .terminalSerial x) ++
    [(s.oct .terminalSerial x, u.now + u.n .channelAuthLockout ch * Tm.s)] }

/-- A reply that was asked for. -/
theorem exec_registrationReply_of_asked {s : State} {ch : Chan} {x : Term} {k : Nat} (id : List Byte)
    (hk : s.sideOn x ch = some k)
    (h : s.avail = true ∧ s.tstate x k = 3 ∧ ¬ (s.sd x k).accepted = true ∧ (s.sd x k).asked ≠ 0) :
    exec (.registrationReply ch x id) s = .next
      (if (s.noteReply x id).wantedId x = [] ∨ (s.noteReply x id).wantedId x = id then
          (s.noteReply x id).replyAccepted x k
        else (s.noteReply x id).replyRefused x ch) := by
  simp only [exec, execRegistrationReply, hk, if_pos h]
  exact (apply_ite _ _ _ _).symm

/-- A reply that is noted changes nothing in the admission list. -/
theorem State.admitEntry_noteReply (s : State) {x : Nat} (id serial : List Byte) (hx : x < 16777216) :
    (s.noteReply x id).admitEntry serial = s.admitEntry serial := by
  unfold State.admitEntry State.noteReply State.putOct
  rw [State.listed_putVal_other s _ (by decide) hx, ← List.head?_filter, ← List.head?_filter]
  refine congrArg List.head? (List.filter_congr fun i hi => ?_)
  have hi := State.lt_of_mem_listed hi
  rw [State.n_putVal_other s _ (by decide) hx hi,
    State.oct_of_val (s.val_putVal_other (o := .terminalRegistrationId) (.oct id) (by decide) hx hi)]

theorem State.noteReply_objs (s : State) {x : Nat} (id : List Byte) (hx : x < 16777216) :
    s.ObjsBut [(.terminalRegistrationId, x)] (s.noteReply x id) := by simp [State.noteReply, hx]

theorem State.noteReply_oct (s : State) {x : Nat} (id : List Byte) (hx : x < 16777216) {o : Obj} {i : Nat}
    (ho : o ≠ .terminalRegistrationId) (hi : i < 16777216) : (s.noteReply x id).oct o i = s.oct o i :=
  State.oct_of_objsBut (s.noteReply_objs id hx) hi (by simp [ho])

/-- Where the list names the terminal's serial number, its entry's identifier is the one wanted. -/
theorem State.wantedId_noteReply (s : State) {x i : Nat} (id : List Byte) (hx : x < 16777216) (hi : i < 16777216)
    (he : s.admitEntry (s.oct .terminalSerial x) = some i) :
    (s.noteReply x id).wantedId x = s.oct .admitRegistrationId i := by
  unfold State.wantedId
  rw [s.noteReply_oct id hx (by decide) hx, s.admitEntry_noteReply id _ hx, he]
  exact s.noteReply_oct id hx (by decide) hi

theorem State.wantedId_noteReply_none (s : State) {x : Nat} (id : List Byte) (hx : x < 16777216)
    (he : s.admitEntry (s.oct .terminalSerial x) = none) : (s.noteReply x id).wantedId x = [] := by
  unfold State.wantedId
  rw [s.noteReply_oct id hx (by decide) hx, s.admitEntry_noteReply id _ hx, he]

theorem State.replyAccepted_objs (s : State) (x k : Nat) (ws : List (Obj × Nat)) : s.ObjsBut ws (s.replyAccepted x k) :=
  State.ObjsBut_of_objs ws (State.setSd_objs ..)

theorem State.replyAccepted_sd (s : State) (x k : Nat) :
    (s.replyAccepted x k).sd x k = { s.sd x k with accepted := true, ploam := false, mik := some s.fresh } :=
  State.sd_setSd ..

/-- A wrong reply leaves the terminal Idle, and its serial number locked out for ChannelAuthLockout (R106). -/
theorem State.replyRefused_idle {s : State} {x ch k : Nat} (hx : x < 16777216) (hc : ch < 16777216)
    (hk : s.sideOn x ch = some k) :
    (s.replyRefused x ch).tstate x k = 0 ∧ (s.replyRefused x ch).bit (Reg.actStatus ch) 7 = true ∧
      (s.replyRefused x ch).oct .terminalRegistrationId x = s.oct .terminalRegistrationId x ∧
      (s.oct .terminalSerial x, s.now + s.n .channelAuthLockout ch * Tm.s) ∈
        ((s.replyRefused x ch).act ch).lockouts := by
  have hobjs := s.activationFails_objs ch hx
  refine ⟨?state, ?bit, ?oct, ?lockout⟩
  case state => simpa [State.replyRefused, State.tstate] using (State.activationFails_idle hx hk).1
  case bit => simp [State.replyRefused, State.bit_setBit_self]
  case oct =>
    simpa [State.replyRefused] using State.oct_of_objsBut hobjs hx (o := .terminalRegistrationId)
      (by simp [idleObjs, recordObjs])
  case lockout =>
    have hlock := State.n_of_objsBut hobjs hc (o := .channelAuthLockout) (by simp [idleObjs, recordObjs])
    simp [State.replyRefused, State.activationFails_now, hlock]

theorem exec_registrationRequest_of_due {s : State} {ch : Chan} {x : Term} {k : Nat} (hk : s.sideOn x ch = some k)
    (h : s.avail = true ∧ s.tstate x k = 3 ∧ ¬ (s.sd x k).accepted = true ∧ (s.sd x k).asked < 3 ∧
      ((s.sd x k).asked = 0 ∨ (s.sd x k).askedAt + 20 * Tm.ms ≤ s.now)) :
    exec (.registrationRequest ch x) s = .next
      ((s.noteRequest x k).ploamLan ch .requestRegistration x ((s.noteRequest x k).n .terminalOnuIdAssigned x) []) := by
  simp only [exec, execRegistrationRequest, hk, if_pos h, State.noteRequest]

theorem exec_registrationTimeout_of_due {s : State} {ch : Chan} {x : Term} {k : Nat} (hk : s.sideOn x ch = some k)
    (h : s.tstate x k = 3 ∧ ¬ (s.sd x k).accepted = true ∧ (s.sd x k).asked = 3 ∧
      (s.sd x k).askedAt + 20 * Tm.ms ≤ s.now) :
    exec (.registrationTimeout ch x) s = .next (s.activationFails x ch) := by
  simp only [exec, execRegistrationTimeout, hk, if_pos h]

/-- A terminal that does not register, or has done so, is not asked, heard or timed out. -/
theorem exec_registration_of_none {s : State} {ch : Chan} {x : Term} (id : List Byte)
    (h : ∀ k ∈ s.sideOn x ch, s.tstate x k ≠ 3 ∨ (s.sd x k).accepted = true) :
    exec (.registrationRequest ch x) s = .next s ∧ exec (.registrationReply ch x id) s = .next s ∧
      exec (.registrationTimeout ch x) s = .next s := by
  simp only [exec, execRegistrationRequest, execRegistrationReply, execRegistrationTimeout]
  cases hk : s.sideOn x ch with
  | none => exact ⟨rfl, rfl, rfl⟩
  | some k =>
    have hnot : ¬ (s.tstate x k = 3 ∧ ¬ (s.sd x k).accepted = true) := by
      rcases h k hk with h | h <;> simp [h]
    refine ⟨if_neg ?_, if_neg ?_, if_neg ?_⟩
    · exact fun ⟨_, ht, ha, _⟩ => hnot ⟨ht, ha⟩
    · exact fun ⟨_, ht, ha, _⟩ => hnot ⟨ht, ha⟩
    · exact fun ⟨ht, ha, _⟩ => hnot ⟨ht, ha⟩

/-! ### The statement -/

/-- Settles O35: each command by its branch, the entries to Idle by `State.activationFails_idle`, and what the admission
list wants by `State.wantedId_noteReply`, since a reply that is noted is no part of it. -/
theorem rangingAndRegistration : Obligations.RangingAndRegistration := by
  unfold Obligations.RangingAndRegistration
  refine ⟨fun s ch x hits ph c k w pos hk hw ht hpos hin => ⟨fun h => ?reach, fun h => ?far, ?bad⟩,
    fun s ch x hits ph g c h => exec_rangingResponse_of_none g c h,
    fun s ch x k w hk hw ht hend => ⟨fun h => ?again, fun h => ?third⟩, fun s ch x h => exec_rangingWindowEnd_of_open h,
    fun s ch x k hk ha ht hacc h3 hdue => ?ask, fun s ch x k id hk ha ht hacc hne hid => ?right,
    fun s ch x k i id hk ha ht hacc hne he hi hid hsome => ?wrong, fun s ch x k hk ht hacc h3 hdue => ?timeout,
    fun s ch x id h => exec_registration_of_none id h, fun s ch sn => ?lockout⟩
  all_goals have hc : ch.val < 16777216 := by omega
  case lockout => exact ⟨_, rfl, by simp, by simp, by simp⟩
  all_goals have hx : x.val < 16777216 := by omega
  case reach =>
    exact ⟨_, (exec_rangingResponse_of_found hk hw ht hpos hin c).1, State.ranged_in_reach w _ c hx hc h⟩
  case far =>
    exact ⟨_, (exec_rangingResponse_of_found hk hw ht hpos hin c).1, State.ranged_out_of_reach w _ c hx hc hk h⟩
  case bad =>
    exact ⟨_, (exec_rangingResponse_of_found hk hw ht hpos hin c).2, by simp, by simp, by simp⟩
  case again =>
    refine ⟨_, (exec_rangingWindowEnd_of_ended hk hw ⟨ht, hend⟩).trans (by rw [if_neg (Nat.not_le.2 h)]), ?_⟩
    simp [State.windowPast]
  case third =>
    have hpast : (s.windowPast ch w.lo w.hi).sideOn x ch = some k :=
      (State.sideOn_of_objsBut (ws := []) (by simp [State.windowPast]) ch hx (by simp) (by simp)).trans hk
    exact ⟨_, (exec_rangingWindowEnd_of_ended hk hw ⟨ht, hend⟩).trans (by rw [if_pos h]),
      State.activationFails_idle hx hpast⟩
  case ask =>
    refine ⟨_, exec_registrationRequest_of_due hk ⟨ha, ht, by simp [hacc], h3, hdue⟩, ?_⟩
    simp [State.noteRequest, State.ploamLan]
  case right =>
    have hwant : (s.noteReply x id).wantedId x = [] ∨ (s.noteReply x id).wantedId x = id := by
      cases he : s.admitEntry (s.oct .terminalSerial x) with
      | none => exact .inl (s.wantedId_noteReply_none id hx he)
      | some i =>
        obtain ⟨hi, hentry⟩ := hid i he
        rwa [s.wantedId_noteReply id hx hi he]
    have hobjs := State.ObjsBut_trans (s.noteReply_objs id hx) ((s.noteReply x id).replyAccepted_objs x k _)
    refine ⟨_, (exec_registrationReply_of_asked id hk ⟨ha, ht, by simp [hacc], hne⟩).trans (by rw [if_pos hwant]),
      ?_, ?_, ?_, (State.tstate_of_objsBut hobjs k hx (by simp) (by simp)).trans ht, hobjs⟩
    · rw [State.replyAccepted_sd]
    · rw [State.replyAccepted_sd]; rfl
    · exact (State.oct_of_objsBut ((s.noteReply x id).replyAccepted_objs x k []) hx (by simp)).trans
        (State.oct_putVal_self ..)
  case wrong =>
    have hwant := s.wantedId_noteReply id hx hi he
    refine ⟨_, (exec_registrationReply_of_asked id hk ⟨ha, ht, by simp [hacc], hne⟩).trans
      (by rw [hwant, if_neg (by simp [hid, hsome])]), ?_⟩
    have hnoted := (State.sideOn_of_objsBut (s.noteReply_objs id hx) ch hx (by simp) (by simp)).trans hk
    obtain ⟨hidle, hbit, hoct, hlock⟩ := State.replyRefused_idle hx hc hnoted
    refine ⟨hidle, hbit, hoct.trans (State.oct_putVal_self ..), ?_⟩
    rwa [s.noteReply_oct id hx (by decide) hx, State.n_of_objsBut (s.noteReply_objs id hx) hc (by simp)] at hlock
  case timeout =>
    exact ⟨_, exec_registrationTimeout_of_due hk ⟨ht, by simp [hacc], h3, hdue⟩, State.activationFails_idle hx hk⟩

end Sys2Proof.Machine
end

section
/-!
PROOFS. A flow that becomes Dark with a cell in its bonding receiver (R68, R302, R485, R497).
-/

namespace Sys2Proof.Machine

open State

/-- A receiver that waits for number 0 and holds number 1 in cell 0. -/
def cellFragment : BondRx := ⟨0, none, none, [⟨1, true, true, 100, none, some 0, 0⟩], none, 0⟩

/-- Flow 0 has this receiver, and its Draining has lasted for 1 ms; the receiver's cell is held from pool 0, and counter 0
counts the cells returned to the pools and stands at its largest value. -/
def State.darkFlowHoldsCell : State :=
  { (((((((((State.reset.setBit Reg.cntGlobalCtrl 0 true).put .flowSnuffPhase 0 2).setSnuff .flow 0
      ⟨0, some 0, false, false, false, false⟩).setBondRx 0 (some cellFragment)).setCell 0
      (some ⟨1, State.reset.n .sumpBondRequester 0, 0, none, 1, true, true⟩)).put .requesterCellsHeld
      (State.reset.n .sumpBondRequester 0) 1).put .poolCellsHeld 0 1).put .counterEnable 0 1).put .counterEvent 0
      0x901).put .counterValue 0 State.counterMax with
    boot := { BootSt.begin_ with lanternUp := true, dieReset := false }
    clk := { State.reset.clk with elapsed := Tm.ms } }

/-- The cell's return overflows the counter, which is told before the flow's own completion. -/
theorem State.darkFlowHoldsCell_tells_twice {t : State}
    (h : exec (.snuffDark .flow 0) State.darkFlowHoldsCell = .next t) : t.lan.masters[0].events.length = 2 := by
  have hrun : (match exec (.snuffDark .flow 0) State.darkFlowHoldsCell with
      | .next t => t.lan.masters[0].events.length
      | _ => 0) = 2 := by decide +kernel
  rwa [h] at hrun

/-- Refutes O59: the Dark of a flow releases the cells of its bonding receiver (`State.bondReset`). Where a counter of
returned cells overflows by it, the masters are told of the overflow too (`State.countAdd`), and the statement's clause on
Dark has the completion as the only event. -/
theorem not_snuffCarriedOut : ¬ Obligations.SnuffCarriedOut := by
  unfold Obligations.SnuffCarriedOut
  rintro ⟨-, -, -, -, -, hdark, -⟩
  obtain ⟨hdue, -⟩ := hdark State.darkFlowHoldsCell .flow 0 ⟨0, some 0, false, false, false, false⟩ 0 (by decide +kernel)
    (by decide) rfl
  obtain ⟨t, hexec, -, -, -, -, hraised, -⟩ := hdue (by decide +kernel)
  obtain ⟨hmasters, -⟩ := hraised (by decide)
  have htold := State.darkFlowHoldsCell_tells_twice hexec
  rw [hmasters] at htold
  exact absurd htold (by decide +kernel)

end Sys2Proof.Machine
end

section
/-!
PROOFS. What the release of a terminal's frames and keys leaves alone: the objects coded below the queues' own, whatever
cell, requester and pool a release names (R122, R302).
-/

namespace Sys2Proof.Machine

open State

/-- Of the objects coded below those of the queues only SconceEventsLost may differ. -/
def State.LowKept (s t : State) : Prop :=
  ∀ o i, i < 16777216 → o.code < Obj.queueAbsentDrops.code → o ≠ .sconceEventsLost → t.val o i = s.val o i

theorem State.LowKept_refl (s : State) : s.LowKept s := fun _ _ _ _ _ => rfl

@[simp] theorem State.LowKept_setBit (s t : State) (a k : Nat) (b : Bool) :
    s.LowKept (t.setBit a k b) ↔ s.LowKept t := Iff.rfl

@[simp] theorem State.LowKept_putReg (s t : State) (a v : Nat) : s.LowKept (t.putReg a v) ↔ s.LowKept t := Iff.rfl

@[simp] theorem State.LowKept_limitTake (s t : State) (k : Nat) : s.LowKept (t.limitTake k) ↔ s.LowKept t := Iff.rfl

@[simp] theorem State.LowKept_setTm (s t : State) (f : TrafficSt → TrafficSt) :
    s.LowKept (t.setTm f) ↔ s.LowKept t := Iff.rfl

@[simp] theorem State.LowKept_setCiph (s t : State) (f : CipherSt → CipherSt) :
    s.LowKept (t.setCiph f) ↔ s.LowKept t := Iff.rfl

@[simp] theorem State.LowKept_setFramer (s t : State) (ch : Nat) (f : FramerSt) :
    s.LowKept (t.setFramer ch f) ↔ s.LowKept t := Iff.rfl

/-- A write of an object of the queues or above them, whatever its number. -/
theorem State.LowKept_putVal {s t : State} (h : s.LowKept t) (o : Obj) (i : Nat) (v : Val)
    (ho : Obj.queueAbsentDrops.code ≤ o.code) : s.LowKept (t.putVal o i v) := by
  intro p j hj hc he
  refine (State.val_putVal_key t o p i j v ?_).trans (h p j hj hc he)
  unfold Obj.key
  omega

theorem State.LowKept_bump {s t : State} (h : s.LowKept t) (o : Obj) (i k : Nat)
    (ho : Obj.queueAbsentDrops.code ≤ o.code) : s.LowKept (t.bump o i k) := by
  simp only [State.bump]
  split <;> exact State.LowKept_putVal h o i _ ho

theorem State.LowKept_raise {s t : State} (h : s.LowKept t) (k : Nat) (o : Obj) (i : Nat) (d : List Byte) :
    s.LowKept (t.raise k o i d) :=
  fun p j hj hc he => (t.val_raise_other k o i d he hj).trans (h p j hj hc he)

/-! ### Counters -/

theorem State.LowKept_countAdd {s t : State} (h : s.LowKept t) (c k : Nat) : s.LowKept (t.countAdd c k) := by
  have hvalue : ∀ v, s.LowKept (t.put .counterValue c v) := fun v => State.LowKept_putVal h _ _ _ (by decide)
  have hover : ∀ v, s.LowKept ((t.put .counterValue c v).put .counterOverflow c 1) :=
    fun v => State.LowKept_putVal (hvalue v) _ _ _ (by decide)
  unfold State.countAdd
  dsimp only
  split
  · exact hvalue _
  · split
    · exact hover _
    · split
      · exact State.LowKept_raise ((State.LowKept_limitTake ..).2 (hover _)) _ _ _ _
      · exact (State.LowKept_setBit ..).2 (State.LowKept_bump (hover _) _ _ _ (by decide))

theorem State.LowKept_count {s t : State} (h : s.LowKept t) (ev inst k : Nat) : s.LowKept (t.count ev inst k) := by
  unfold State.count
  split
  · exact List.foldlRecOn _ _ h fun u hu c _ => State.LowKept_countAdd hu c k
  · exact h

/-! ### Cells and queues -/

theorem State.LowKept_poolUpdate {s t : State} (h : s.LowKept t) (p : Nat) : s.LowKept (t.poolUpdate p) := by
  have hput : s.LowKept (t.put .poolState p (t.poolNext p)) := State.LowKept_putVal h _ _ _ (by decide)
  have hset : ∀ (c : Prop) [Decidable c] (u : State) (a k : Nat) (b : Bool), s.LowKept u →
      s.LowKept (if c then u.setBit a k b else u) := fun c _ u a k b hu => by split <;> simpa using hu
  unfold State.poolUpdate
  dsimp only
  split
  · exact h
  · split
    · exact State.LowKept_raise ((State.LowKept_setBit ..).2 (hset _ _ _ _ _ (hset _ _ _ _ _ hput))) _ _ _ _
    · exact hset _ _ _ _ _ (hset _ _ _ _ _ hput)

theorem State.LowKept_uncharge {s t : State} (h : s.LowKept t) (r p : Nat) : s.LowKept (t.uncharge r p) := by
  have hheld : ∀ a b, s.LowKept (((t.put .requesterCellsHeld r a).put .poolCellsHeld p b).count 0x901 p 1) := fun a b =>
    State.LowKept_count (State.LowKept_putVal (State.LowKept_putVal h _ _ _ (by decide)) _ _ _ (by decide)) _ _ _
  unfold State.uncharge
  dsimp only
  refine State.LowKept_poolUpdate ?_ p
  split
  · exact hheld _ _
  · exact State.LowKept_putVal (State.LowKept_putVal (hheld _ _) _ _ _ (by decide)) _ _ _ (by decide)

/-- A release that names the wrong cell or requester, and the event that tells it (R302). -/
theorem State.LowKept_releaseFault {s t : State} (h : s.LowKept t) (a b v w k : Nat) {o : Obj} (d : List Byte)
    (ho : Obj.queueAbsentDrops.code ≤ o.code) :
    let u := (((t.putReg a v).putReg b w).bump o 0 1).setBit Reg.sumpStatus k true
    s.LowKept (if u.limitFree 0x2000 100 then (u.limitTake 0x2000).raiseRefusal o 0 0 d else u) := by
  intro u
  have hu : s.LowKept u := (State.LowKept_setBit ..).2 (State.LowKept_bump (by simpa using h) o 0 1 ho)
  split
  · exact State.LowKept_raise ((State.LowKept_limitTake ..).2 hu) _ _ _ _
  · exact hu

theorem State.LowKept_releaseCell {s t : State} (h : s.LowKept t) (c r : Nat) : s.LowKept (t.releaseCell c r) := by
  unfold State.releaseCell
  dsimp only
  split
  · exact State.LowKept_releaseFault h _ _ _ _ _ _ (by decide)
  · split
    · exact State.LowKept_releaseFault h _ _ _ _ _ _ (by decide)
    · split
      · exact (State.LowKept_setTm ..).2 h
      · exact State.LowKept_uncharge ((State.LowKept_setTm ..).2 h) _ _

theorem State.LowKept_releaseFrom {s t : State} (h : s.LowKept t) (c r n : Nat) : s.LowKept (t.releaseFrom c r n) := by
  induction n generalizing t c with
  | zero => exact h
  | succ n ih =>
    have hcell := State.LowKept_releaseCell h c r
    simp only [State.releaseFrom]
    split
    · exact ih hcell _
    · exact hcell

/-- The queues of a terminal emptied with their drops counted. -/
theorem State.LowKept_purgeQueues {s t : State} (h : s.LowKept t) (x : Nat) :
    s.LowKept (t.purgeQueues x fun u => u.bump .queueAbsentDrops 0 1) := by
  refine (State.LowKept_setTm ..).2 (List.foldlRecOn _ _ h fun u hu q _ => ?_)
  refine List.foldlRecOn _ _ ((State.LowKept_setTm ..).2 hu) fun v hv d _ => ?_
  exact State.LowKept_bump (State.LowKept_releaseFrom hv d.cell d.owner 64) _ _ _ (by decide)

theorem State.LowKept_keysDiscard {s t : State} (h : s.LowKept t) (x : Nat) : s.LowKept (t.keysDiscard x) := by
  have hslot : ∀ (u : State) (i : Nat), s.LowKept u → s.LowKept (u.slotErase false i) := fun u i hu =>
    (State.LowKept_setCiph ..).2 (State.LowKept_putVal (State.LowKept_putVal hu _ _ _ (by decide)) _ _ _ (by decide))
  refine List.foldlRecOn _ _ ((State.LowKept_setCiph ..).2 (hslot _ _ (hslot _ _ h))) fun u hu ch _ => ?_
  exact (State.LowKept_setFramer ..).2 hu

end Sys2Proof.Machine
end

section
/-!
PROOFS. Loss of terminals and their power saving (R119, R121 to R127).
-/

namespace Sys2Proof.Machine

open State

/-! ### Reads of a terminal -/

@[simp] theorem State.framer_setTerm (s : State) (x : Nat) (r : TermSt) (ch : Nat) :
    (s.setTerm x r).framer ch = s.framer ch := State.framer_of_framers rfl ch

@[simp] theorem State.term_putVal (s : State) (o : Obj) (i : Nat) (v : Val) (x : Nat) :
    (s.putVal o i v).term x = s.term x := State.term_of_terms rfl x

@[simp] theorem State.RegsBut_setTerm (s t : State) (ws : List Nat) (x : Nat) (r : TermSt) :
    s.RegsBut ws (t.setTerm x r) ↔ s.RegsBut ws t := Iff.rfl

/-- A frame that names neither the channel, the bonding nor the state of a terminal leaves its channels, and where it is
in service. -/
theorem State.service_of_objsBut {s t : State} {ws : List (Obj × Nat)} (h : s.ObjsBut ws t) {x : Nat}
    (hx : x < 16777216) (hc : (.terminalChannel, x) ∉ ws) (hb : (.terminalBonded, x) ∉ ws)
    (hsa : (.terminalStateA, x) ∉ ws) (hsb : (.terminalStateB, x) ∉ ws) :
    t.chansOf x = s.chansOf x ∧ ∀ ch, t.inService x ch = s.inService x ch := by
  refine ⟨?_, fun ch => ?_⟩
  · unfold State.chansOf State.chanA State.bonded
    rw [State.n_of_objsBut h hx hc, State.on_of_val (h _ _ hx hb)]
  · unfold State.inService State.stateOn
    rw [State.sideOn_of_objsBut h ch hx hc hb]
    cases s.sideOn x ch with
    | none => rfl
    | some k => exact congrArg (· == 4) (State.tstate_of_objsBut h k hx hsa hsb)

/-! ### Sleep_Allow -/

theorem State.framer_setFramer_other (s : State) {ch c : Nat} (f : FramerSt) (h : ch ≠ c) :
    (s.setFramer c f).framer ch = s.framer ch :=
  tabGet_put_other (fun _ => FramerSt.idle) (fun _ => FramerSt.idle) s.framers f h

/-- A message queued on a channel stays queued as others are queued. -/
theorem State.mem_lan_ploamLan {s : State} {ch : Nat} {m : PloamMsg} (h : m ∈ (s.framer ch).lan) (c : Nat) (k : Ploam)
    (x onu : Nat) (body : List Nat) : m ∈ ((s.ploamLan c k x onu body).framer ch).lan := by
  by_cases hc : ch = c
  · subst hc
    simp [State.ploamLan, h]
  · have hother : (s.ploamLan c k x onu body).framer ch = s.framer ch := State.framer_setFramer_other s _ hc
    rwa [hother]

/-- A message queued on each channel of a list stands in the queue of each of them. -/
theorem State.mem_lan_of_mem {cs : List Nat} {ch : Nat} (h : ch ∈ cs) (s : State) (k : Ploam) (x onu : Nat)
    (body : List Nat) :
    ⟨k, x, onu, body, 1, 0⟩ ∈ ((cs.foldl (fun u c => u.ploamLan c k x onu body) s).framer ch).lan := by
  obtain ⟨before, after, rfl⟩ := List.append_of_mem h
  rw [List.foldl_append, List.foldl_cons]
  refine List.foldlRecOn (motive := fun u => _ ∈ (State.framer u ch).lan) _ _ ?_ fun u hu c _ =>
    State.mem_lan_ploamLan hu c k x onu body
  simp [State.ploamLan]

/-- While Lantern serves, Sleep_Allow stands in the queue of each channel where the terminal is in service (R123). -/
theorem State.mem_lan_sleepAllow {s : State} {x ch : Nat} (b : Bool) (hav : s.avail = true) (hch : ch ∈ s.chansOf x)
    (hin : s.inService x ch = true) :
    ⟨.sleepAllow, x, s.n .terminalOnuIdAssigned x, [if b then 1 else 0], 1, 0⟩ ∈
      ((s.sleepAllow x b).framer ch).lan := by
  have hup : s.boot.lanternUp = true ∧ ¬ s.ucie.headless = true := by
    simp only [State.avail, Bool.and_eq_true, Bool.not_eq_true'] at hav
    simp [hav]
  rw [State.sleepAllow, if_pos hup]
  exact State.mem_lan_of_mem (List.mem_filter.2 ⟨hch, hin⟩) ..

/-- Sleep_Allow changes framers alone. -/
theorem State.sleepAllow_within (s : State) (x : Nat) (b : Bool) : State.Within 65536 s (s.sleepAllow x b) :=
  (State.sleepAllow_kept (m := 65536) s x b rfl (kept_refl _ s)).2

@[simp] theorem State.sleepAllow_n (s : State) (x : Nat) (b : Bool) (o : Obj) (i : Nat) :
    (s.sleepAllow x b).n o i = s.n o i := State.n_of_val (State.val_of_objs (s.sleepAllow_within x b .objs rfl) o i)

@[simp] theorem State.term_sleepAllow (s : State) (x : Nat) (b : Bool) (y : Nat) :
    (s.sleepAllow x b).term y = s.term y := State.term_of_terms (s.sleepAllow_within x b .terms rfl) y

@[simp] theorem State.ObjsBut_sleepAllow (s t : State) (ws : List (Obj × Nat)) (x : Nat) (b : Bool) :
    s.ObjsBut ws (t.sleepAllow x b) ↔ s.ObjsBut ws t := by
  simp [State.ObjsBut, State.val_of_objs (t.sleepAllow_within x b .objs rfl)]

@[simp] theorem State.RegsBut_sleepAllow (s t : State) (ws : List Nat) (x : Nat) (b : Bool) :
    s.RegsBut ws (t.sleepAllow x b) ↔ s.RegsBut ws t := by
  simp [State.RegsBut, State.reg_of_regs (t.sleepAllow_within x b .regs rfl)]

/-- A wake cause makes a terminal in Doze, Sleep or Watch Alerted (R125). -/
theorem State.wake_of_low {s : State} {x : Nat} (hav : s.avail = true)
    (hlow : s.n .terminalPowerState x = 2 ∨ s.n .terminalPowerState x = 3 ∨ s.n .terminalPowerState x = 4) :
    (s.wake x).n .terminalPowerState x = 5 := by
  have hset : ((s.n .terminalPowerState x == 2 || s.n .terminalPowerState x == 3) || s.n .terminalPowerState x == 4)
      = true := by simpa [or_assoc] using hlow
  simp [State.wake, hav, hset]

/-! ### Lost -/

theorem Reg.actStatus_ne_actLostCnt (ch : Nat) : Reg.actStatus ch ≠ Reg.actLostCnt ch := by
  unfold Reg.actStatus Reg.actLostCnt; omega

theorem Reg.actStatus_ne_cntGlobalStatus {ch : Nat} (h : ch < 32) : Reg.actStatus ch ≠ Reg.cntGlobalStatus := by
  unfold Reg.actStatus Reg.cntGlobalStatus; omega

/-- Counting an event writes no register but CNT_GLOBAL_STATUS. -/
theorem State.reg_count (s : State) (ev inst k : Nat) {a : Nat} (ha : a ≠ Reg.cntGlobalStatus) :
    (s.count ev inst k).reg a = s.reg a := by
  have hadd : ∀ (u : State) (c : Nat), (u.countAdd c k).reg a = u.reg a := fun u c => by
    have hvalue : ∀ v, (u.put .counterValue c v).reg a = u.reg a := fun v => State.putVal_reg ..
    have hover : ∀ v, ((u.put .counterValue c v).put .counterOverflow c 1).reg a = u.reg a := fun v => hvalue v
    unfold State.countAdd
    dsimp only
    split
    · exact hvalue _
    · split
      · exact hover _
      · split
        · exact (State.reg_raise ..).trans ((State.limitTake_reg ..).trans (hover _))
        · exact (State.reg_setBit_other _ _ _ ha).trans ((State.reg_bump ..).trans (hover _))
  unfold State.count
  split
  · exact List.foldlRecOn (motive := fun u => u.reg a = s.reg a) _ _ rfl fun u hu c _ => (hadd u c).trans hu
  · rfl

/-- Lost noted on a side, with its instant. -/
def State.lostNoted (s : State) (x k : Nat) : State :=
  (s.putT x k 5).setSd x k { s.sd x k with lostAt := s.now, absent := 0, recovered := false }

/-- Lost shown in the registers of the channel. -/
def State.lostShown (s : State) (x ch k : Nat) : State :=
  ((s.lostNoted x k).setBit (Reg.actStatus ch) 3 true).bumpReg (Reg.actLostCnt ch) 1

theorem State.enterLost_of_side {s : State} {x ch k : Nat} (hk : s.sideOn x ch = some k) :
    s.enterLost x ch = ((s.lostShown x ch k).count 0x401 ch 1).put .terminalPowerState x 0 := by
  simp only [State.enterLost, hk]; rfl

theorem State.lostShown_bit (s : State) (x ch k : Nat) : (s.lostShown x ch k).bit (Reg.actStatus ch) 3 = true :=
  (State.bit_of_reg (State.reg_putReg_other _ _ (Reg.actStatus_ne_actLostCnt ch)) 3).trans
    (State.bit_setBit_self _ _ _ _ (by decide))

/-- The objects of a terminal's state lie below those of the queues, so that what is left alone there keeps it. -/
theorem State.tstate_of_lowKept {s t : State} {x : Nat} (hx : x < 16777216) (h : s.LowKept t) (k : Nat) :
    t.tstate x k = s.tstate x k :=
  State.n_of_val (h _ _ hx (by unfold side; split <;> decide) (by unfold side; split <;> decide))

/-- A terminal that enters Lost on a side: noted there with the instant, shown, and awake (R120, R121, R127). -/
theorem State.enterLost_lost {s : State} {x ch k : Nat} (hx : x < 16777216) (hc : ch < 32)
    (hk : s.sideOn x ch = some k) :
    (s.enterLost x ch).tstate x k = 5 ∧ ((s.enterLost x ch).sd x k).lostAt = s.now ∧
      ((s.enterLost x ch).sd x k).absent = 0 ∧ (s.enterLost x ch).bit (Reg.actStatus ch) 3 = true ∧
      (s.enterLost x ch).n .terminalPowerState x = 0 := by
  have hside : (s.enterLost x ch).sd x k = { s.sd x k with lostAt := s.now, absent := 0, recovered := false } := by
    rw [State.enterLost_of_side hk]
    exact (State.sd_of_terms (State.count_terms ..) x k).trans (State.sd_setSd ..)
  rw [hside, State.enterLost_of_side hk]
  refine ⟨?state, rfl, rfl, ?bit, State.n_put ..⟩
  case bit =>
    rw [State.put_eq, State.bit_putVal, State.bit_of_reg (State.reg_count _ _ _ _
      (Reg.actStatus_ne_cntGlobalStatus hc)), State.lostShown_bit]
  case state =>
    have hcount := State.tstate_of_lowKept hx (State.LowKept_count (State.LowKept_refl (s.lostShown x ch k)) 0x401 ch 1) k
    refine ((State.n_putVal_other _ _ (by unfold side; split <;> decide) hx hx).trans hcount).trans ?_
    simpa [State.lostShown, State.lostNoted, State.tstate] using State.tstate_putT s x k 5

/-- What is left alone below the queues keeps a side Idle. -/
theorem State.idle_of_lowKept {s t : State} {x k : Nat} (hx : x < 16777216) (h : s.LowKept t) (hterms : t.terms = s.terms)
    (hidle : s.tstate x k = 0 ∧ s.sd x k = SideSt.idle) : t.tstate x k = 0 ∧ t.sd x k = SideSt.idle :=
  ⟨(State.tstate_of_lowKept hx h k).trans hidle.1, (State.sd_of_terms hterms x k).trans hidle.2⟩

/-- The actions of R122 leave the side Idle: what they do after its entry to Idle is an event, and the release of frames
and keys. -/
theorem State.lostActions_idle {s : State} {x ch k : Nat} (hx : x < 16777216) (hk : s.sideOn x ch = some k) :
    (s.lostActions x ch).tstate x k = 0 ∧ (s.lostActions x ch).sd x k = SideSt.idle := by
  have hidle := State.goIdle_idle (s := s.deactivate x ch) hx hk
  have hrelease : ∀ u : State, u.tstate x k = 0 ∧ u.sd x k = SideSt.idle →
      ((u.purgeQueues x fun v => v.bump .queueAbsentDrops 0 1).keysDiscard x).tstate x k = 0 ∧
        ((u.purgeQueues x fun v => v.bump .queueAbsentDrops 0 1).keysDiscard x).sd x k = SideSt.idle := fun u hu =>
    State.idle_of_lowKept hx (State.LowKept_keysDiscard (State.LowKept_purgeQueues (State.LowKept_refl u) x) x)
      ((State.keysDiscard_kept (m := 34672934) _ x rfl (State.purgeQueues_kept _ x _ rfl
        (kept_refl _ u) fun v hv => State.bump_kept _ _ _ _ rfl hv)).2 .terms rfl) hu
  have htold : ∀ (u : State) (d : List Byte) (o : Obj), u.tstate x k = 0 ∧ u.sd x k = SideSt.idle →
      (u.raise 1 o x d).tstate x k = 0 ∧ (u.raise 1 o x d).sd x k = SideSt.idle := fun u d o hu =>
    State.idle_of_lowKept hx (State.LowKept_raise (State.LowKept_refl u) _ _ _ _) (State.raise_terms ..) hu
  unfold State.lostActions
  dsimp only
  split <;> split
  · exact hrelease _ (htold _ _ _ hidle)
  · exact htold _ _ _ hidle
  · exact hrelease _ hidle
  · exact hidle

/-! ### The commands -/

theorem exec_driftCorrectionTimeout_of {s : State} {ch : Chan} {x : Term} {k f : Nat} (hk : s.sideOn x ch = some k)
    (hf : (s.sd x k).correction = some f) : exec (.driftCorrectionTimeout ch x) s = .next
      (if s.gen ch = 1 ∧ f + 8 ≤ s.frameNo then s.setSd x k { s.sd x k with correction := none } else s) := by
  simp only [exec, execDriftCorrectionTimeout, hk, hf]
  exact (apply_ite _ _ _ _).symm

theorem exec_terminalLost_of_due {s : State} {ch : Chan} {x : Term} {k : Nat} (hk : s.sideOn x ch = some k)
    (h : s.tstate x k = 4 ∧ s.n .terminalPowerState x ≤ 1 ∧ s.n .channelLossBursts ch ≤ (s.sd x k).absent ∧
      s.wick % Tm.frame = 0) : exec (.terminalLost ch x) s = .next (s.enterLost x ch) := by
  simp only [exec, execTerminalLost, hk, if_pos h]

theorem exec_terminalLost_of_none {s : State} {ch : Chan} {x : Term}
    (h : ∀ k ∈ s.sideOn x ch, s.tstate x k ≠ 4 ∨ 2 ≤ s.n .terminalPowerState x ∨
      (s.sd x k).absent < s.n .channelLossBursts ch ∨ s.wick % Tm.frame ≠ 0) :
    exec (.terminalLost ch x) s = .next s := by
  simp only [exec, execTerminalLost]
  cases hk : s.sideOn x ch with
  | none => rfl
  | some k =>
    refine if_neg fun ⟨hstate, hpower, habsent, hframe⟩ => ?_
    rcases h k hk with h | h | h | h
    · exact h hstate
    · omega
    · omega
    · exact h hframe

theorem exec_sleepLoss_of {s : State} {ch : Chan} {x : Term} (hin : s.inService x ch = true)
    (hp : 2 ≤ s.n .terminalPowerState x) : exec (.sleepLoss ch x) s = .next
      (if (s.term x).lastGood + (s.n .terminalSleepInterval x + s.n .terminalAwareInterval x + 2) * Tm.ms ≤ s.now then
        s.enterLost x ch else s) := by
  simp only [exec, execSleepLoss, hin, hp, true_and]
  exact (apply_ite _ _ _ _).symm

theorem exec_lostHoldExpiry_of {s : State} {ch : Chan} {x : Term} {k : Nat} (hk : s.sideOn x ch = some k)
    (ht : s.tstate x k = 5) (hr : (s.sd x k).recovered = false) : exec (.lostHoldExpiry ch x) s = .next
      (if (s.sd x k).lostAt + s.n .channelLostHold ch * Tm.ms ≤ s.now then s.lostActions x ch else s) := by
  simp only [exec, execLostHoldExpiry, hk, ht, hr, Bool.false_eq_true, not_false_eq_true, true_and]
  exact (apply_ite _ _ _ _).symm

/-- A request noted, with the power state that it finds. -/
def State.noteSleepRequest (s : State) (x : Nat) : State :=
  s.setTerm x { s.term x with reqFrom := some (s.frameNo, s.n .terminalPowerState x) }

/-- The frame in progress has brought a wake cause for the terminal. -/
def State.wokenNow (s : State) (x : Nat) : Bool := (s.term x).wakeFrame == some s.frameNo

/-- A mode of power saving taken from now on. -/
def State.modeTaken (s : State) (x mode : Nat) : State :=
  let u := (s.noteSleepRequest x).put .terminalPowerState x (mode + 1)
  u.setTerm x { u.term x with aware := false, lastGood := u.now, aliveFrom := u.frameNo }

/-- A terminal taken out of its power saving. -/
def State.awake (s : State) (x : Nat) : State :=
  let u := (s.noteSleepRequest x).put .terminalPowerState x 0
  u.setTerm x { u.term x with aware := false }

theorem State.wokenNow_iff (s : State) (x : Nat) : s.wokenNow x = true ↔ (s.term x).wakeFrame = some s.frameNo :=
  beq_iff_eq

/-- A request of a permitted mode: taken from a low state or Sleep_Allow(ON), and the wake cause of its frame with it. -/
theorem exec_sleepRequest_of_permitted {s : State} {x : Term} {m : Fin 4} (hin : s.inServiceAny x = true) (hm : m ≠ 0)
    (hmode : s.n .terminalPowerModes x / 2 ^ (m.val - 1) % 2 = 1) : exec (.sleepRequest x m) s = .next
      (if s.n .terminalPowerState x = 0 ∨ s.n .terminalPowerState x = 5 then s.noteSleepRequest x
        else if s.wokenNow x = true then (s.modeTaken x m).wake x else s.modeTaken x m) := by
  have hperm : ¬ (s.noteSleepRequest x).n .terminalPowerModes x / 2 ^ (m.val - 1) % 2 = 0 := by
    rw [State.noteSleepRequest, State.setTerm_n, hmode]; decide
  simp only [exec, execSleepRequest, hin, not_true_eq_false, if_false, if_neg hm]
  refine (if_neg hperm).trans ?_
  rw [apply_ite Host.Outcome.next, apply_ite Host.Outcome.next]
  rfl

/-- A request of a mode not permitted: forced awake, but where a wake cause of its frame keeps the terminal Alerted. -/
theorem exec_sleepRequest_of_not_permitted {s : State} {x : Term} {m : Fin 4} (hin : s.inServiceAny x = true)
    (hm : m ≠ 0) (hmode : s.n .terminalPowerModes x / 2 ^ (m.val - 1) % 2 = 0) : exec (.sleepRequest x m) s = .next
      ((if s.n .terminalPowerState x = 5 ∧ s.wokenNow x = true then s.noteSleepRequest x
        else (s.noteSleepRequest x).put .terminalPowerState x 0).sleepAllow x false) := by
  simp only [exec, execSleepRequest, hin, not_true_eq_false, if_false, if_neg hm]
  exact if_pos hmode

/-- A request to wake from a low state or from Alerted without a cause in its frame. -/
theorem exec_sleepRequest_of_wake {s : State} {x : Term} (hin : s.inServiceAny x = true)
    (hp : ¬ (s.n .terminalPowerState x < 2 ∨ (s.n .terminalPowerState x = 5 ∧ s.wokenNow x = true))) :
    exec (.sleepRequest x 0) s = .next
      (if s.n .terminalPowerState x = 5 then s.awake x else (s.awake x).sleepAllow x false) := by
  simp only [exec, execSleepRequest, hin, not_true_eq_false, if_false, if_true]
  exact if_neg hp

theorem exec_sleepRequest_of_none {s : State} {x : Term} (m : Fin 4) (h : s.inServiceAny x = false) :
    exec (.sleepRequest x m) s = .next s := by
  simp [exec, execSleepRequest, h]

theorem exec_sleepAllow_of {s : State} {x : Term} {e : Time} (he : (s.term x).emptySince = some e)
    (h : s.avail = true ∧ s.inServiceAny x = true ∧ s.n .terminalPowerState x = 0 ∧ s.n .terminalPowerModes x ≠ 0 ∧
      s.on .terminalForceAwake x = false ∧ s.n .terminalSnuffPhase x = 0) : exec (.sleepAllow x) s = .next
      (if e + s.n .terminalAwakeHold x * Tm.ms ≤ s.now then (s.put .terminalPowerState x 1).sleepAllow x true else s) := by
  obtain ⟨hav, hin, hp, hmodes, hforce, hsnuff⟩ := h
  simp only [exec, execSleepAllow, he, hav, hin, hp, hforce, hsnuff, ne_eq, hmodes, not_false_eq_true, true_and,
    Bool.false_eq_true]
  exact (apply_ite _ _ _ _).symm

theorem exec_sleepAllow_of_none {s : State} {x : Term} (h : (s.term x).emptySince = none ∨
    s.n .terminalPowerState x ≠ 0 ∨ s.n .terminalPowerModes x = 0 ∨ s.on .terminalForceAwake x = true) :
    exec (.sleepAllow x) s = .next s := by
  simp only [exec, execSleepAllow]
  cases he : (s.term x).emptySince with
  | none => rfl
  | some e =>
    refine if_neg fun ⟨_, _, hp, hmodes, hforce, _⟩ => ?_
    rcases h with h | h | h | h
    · simp [he] at h
    · exact h hp
    · exact hmodes h
    · exact hforce h

theorem exec_awarePeriodEnd_eq (s : State) (x : Term) : exec (.awarePeriodEnd x) s = .next
    (if (s.term x).aware = true ∧ (s.term x).lastGood + s.n .terminalAwareInterval x * Tm.ms ≤ s.now then
      s.setTerm x { s.term x with aware := false } else s) := by
  simp only [exec, execAwarePeriodEnd]
  exact (apply_ite _ _ _ _).symm

/-! ### The statement -/

/-- The power state alone is written where Sleep_Allow is sent for a change of it. -/
theorem State.mem_lan_powerPut {s u : State} {x ch : Nat} (b : Bool) (hx : x < 16777216)
    (hu : s.ObjsBut [(.terminalPowerState, x)] u) (hav : u.avail = s.avail) (h : s.avail = true)
    (hch : ch ∈ s.chansOf x) (hin : s.inService x ch = true) :
    ⟨.sleepAllow, x, s.n .terminalOnuIdAssigned x, [if b then 1 else 0], 1, 0⟩ ∈
      ((u.sleepAllow x b).framer ch).lan := by
  obtain ⟨hchans, hservice⟩ := State.service_of_objsBut hu hx (by simp) (by simp) (by simp) (by simp)
  rw [← State.n_of_objsBut hu hx (o := .terminalOnuIdAssigned) (by simp)]
  exact State.mem_lan_sleepAllow b (hav.trans h) (hchans ▸ hch) ((hservice ch).trans hin)

/-- Settles O36: each command by its branch, Lost by `State.enterLost_lost`, the actions of R122 by
`State.lostActions_idle`, since what a terminal's release writes lies above its own objects, and Sleep_Allow by
`State.mem_lan_sleepAllow`. -/
theorem lossAndPowerSaving : Obligations.LossAndPowerSaving := by
  unfold Obligations.LossAndPowerSaving
  refine ⟨fun s ch x k f hk hf => ⟨fun hg hdue => ?drop, fun h => ?outstanding⟩,
    fun s ch x k hk ht hp hb hw => ?lost, fun s ch x h => exec_terminalLost_of_none h,
    fun s ch x k hk hin hp => ⟨fun h => ?silent, fun h => ?heard⟩,
    fun s ch x k hk ht hr => ⟨fun h => ?expired, fun h => ?held⟩,
    fun s x m hin hm => ⟨fun hmode h0 h5 hw => ?taken, fun hmode h0 h5 hw hav => ?alerted, fun hmode h => ?forced,
      fun hmode h => ?stays⟩,
    fun s x hin hp hw => ?wakes, fun s x m h => exec_sleepRequest_of_none m h,
    fun s x e he hav hin hp hmodes hforce hsnuff => ⟨fun h => ?allowed, fun h => ?early⟩,
    fun s x h => exec_sleepAllow_of_none h, fun s x => ⟨fun ha h => ?ends, fun h => ?lasts⟩⟩
  all_goals have hx : x.val < 16777216 := by omega
  case drop =>
    exact ⟨_, (exec_driftCorrectionTimeout_of hk hf).trans (by rw [if_pos ⟨hg, hdue⟩]), by simp, by simp, by simp⟩
  case outstanding =>
    exact (exec_driftCorrectionTimeout_of hk hf).trans (by rw [if_neg (by omega)])
  case lost =>
    obtain ⟨hstate, hat, habsent, hbit, hpower⟩ := State.enterLost_lost hx ch.isLt hk
    exact ⟨_, exec_terminalLost_of_due hk ⟨ht, hp, hb, hw⟩, hstate, hat, habsent, hbit, hpower⟩
  case silent =>
    obtain ⟨hstate, -, -, hbit, hpower⟩ := State.enterLost_lost hx ch.isLt hk
    exact ⟨_, (exec_sleepLoss_of hin hp).trans (by rw [if_pos h]), hstate, hpower, hbit⟩
  case heard => exact (exec_sleepLoss_of hin hp).trans (by rw [if_neg (Nat.not_le.2 h)])
  case expired =>
    exact ⟨_, (exec_lostHoldExpiry_of hk ht hr).trans (by rw [if_pos h]), State.lostActions_idle hx hk⟩
  case held => exact (exec_lostHoldExpiry_of hk ht hr).trans (by rw [if_neg (Nat.not_le.2 h)])
  case taken =>
    refine ⟨_, (exec_sleepRequest_of_permitted hin hm hmode).trans (congrArg _ ((if_neg (by simp [h0, h5])).trans
      (if_neg (mt (s.wokenNow_iff x).1 hw)))), ?_⟩
    simp [State.modeTaken, State.noteSleepRequest, hx]
  case alerted =>
    refine ⟨_, (exec_sleepRequest_of_permitted hin hm hmode).trans (congrArg _ ((if_neg (by simp [h0, h5])).trans
      (if_pos ((s.wokenNow_iff x).2 hw)))), State.wake_of_low hav ?_⟩
    simp [State.modeTaken, State.noteSleepRequest]
    omega
  case forced =>
    have hnot : ¬ (s.n .terminalPowerState x = 5 ∧ s.wokenNow x = true) := fun ⟨h5, hwoken⟩ =>
      h.elim (fun hne => hne h5) fun hne => hne ((s.wokenNow_iff x).1 hwoken)
    rw [exec_sleepRequest_of_not_permitted hin hm hmode, if_neg hnot]
    refine ⟨_, rfl, ?_⟩
    simp [State.noteSleepRequest, hx]
  case stays =>
    refine ⟨_, (exec_sleepRequest_of_permitted hin hm hmode).trans (congrArg _ (if_pos h)), rfl, ?_⟩
    simp [State.noteSleepRequest]
  case wakes =>
    have hdue : ¬ (s.n .terminalPowerState x < 2 ∨ (s.n .terminalPowerState x = 5 ∧ s.wokenNow x = true)) := by
      rintro (hlow | ⟨h5, hwoken⟩)
      · exact Nat.not_lt.2 hp hlow
      · exact hw.elim (fun hne => hne h5) fun hne => hne ((s.wokenNow_iff x).1 hwoken)
    have hexec := exec_sleepRequest_of_wake hin hdue
    have hobjs : s.ObjsBut [(.terminalPowerState, x.val)] (s.awake x) := by
      simp [State.awake, State.noteSleepRequest, hx]
    by_cases h5 : s.n .terminalPowerState x = 5
    · refine ⟨_, hexec.trans (congrArg _ (if_pos h5)), ?_, ?_, hobjs, fun h => absurd h5 h⟩ <;> simp [State.awake]
    · refine ⟨_, hexec.trans (congrArg _ (if_neg h5)), ?_, ?_, ?_, fun _ hav ch hch _ hin =>
        State.mem_lan_powerPut false hx hobjs rfl hav hch hin⟩
      · simp [State.awake]
      · simp [State.awake]
      · simpa using hobjs
  case allowed =>
    refine ⟨_, (exec_sleepAllow_of he ⟨hav, hin, hp, hmodes, hforce, hsnuff⟩).trans (congrArg _ (if_pos h)), ?_, ?_, ?_,
      fun ch hch _ hin => State.mem_lan_powerPut true hx ?_ rfl hav hch hin⟩
    all_goals simp [hx]
  case early =>
    exact (exec_sleepAllow_of he ⟨hav, hin, hp, hmodes, hforce, hsnuff⟩).trans (by rw [if_neg (Nat.not_le.2 h)])
  case ends =>
    refine ⟨_, (exec_awarePeriodEnd_eq s x).trans (by rw [if_pos ⟨ha, h⟩]), ?_⟩
    simp
  case lasts =>
    refine (exec_awarePeriodEnd_eq s x).trans (by rw [if_neg fun ⟨ha, hn⟩ => ?_])
    rcases h with h | h
    · simp [ha] at h
    · exact Nat.not_le.2 h hn

end Sys2Proof.Machine
end

section
/-!
PROOFS. The maps of a channel that returns from Fault (R38 note 2, R162): two in one computation.
-/

namespace Sys2Proof.Machine

open State

@[simp] theorem State.gch_setGch (s : State) (ch : Nat) (r : GrantCh) : (s.setGch ch r).gch ch = r :=
  tabGet_put_self ..

theorem State.gch_of_chans {s t : State} (h : t.grants.chans = s.grants.chans) (ch : Nat) : t.gch ch = s.gch ch := by
  rw [State.gch, State.gch, h]

@[simp] theorem State.gch_computeTime (s : State) (ch : Nat) : s.computeTime.gch ch = s.gch ch := State.gch_of_chans rfl ch

/-- The map computed last for a channel is the one that its record shows. -/
theorem State.mapFor_upTo (s : State) (ch m : Nat) (words : List (Nat × List (Nat × Nat))) (builder : Bool) :
    ((s.mapFor ch m words builder).gch ch).upTo = m := by
  simp only [State.mapFor, State.gch_setGch]

/-- The frames in Shadow are counted in the lanes' records alone. -/
@[simp] theorem State.gch_shadowFrame (s : State) (ch : Nat) : s.shadowFrame.gch ch = s.gch ch := by
  unfold State.shadowFrame
  split
  · rfl
  · refine List.foldlRecOn (motive := fun u : State => u.gch ch = s.gch ch) _ _ rfl fun u hu l _ => ?_
    split <;> exact hu

/-- The maps of one computation, in the order of their channels. -/
def State.mapWork (s : State) : List (Nat × Nat) :=
  (List.range 32).flatMap fun ch => (s.mapFrames ch).map fun m => (ch, m)

/-- The last map of a computation is the one that its channel's record shows afterwards. -/
theorem exec_mapComputation_last {s : State} (wrong : List (Chan × Nat × List (GrantLane × Nat))) (bs : List Chan)
    {first : Nat × Nat} {rest : List (Nat × Nat)} {ch m : Nat} (hen : s.bit Reg.grantCtrl 0 = true)
    (hglim : s.boot.glim = false) (hwork : s.mapWork = first :: (rest ++ [(ch, m)])) :
    ∃ t, exec (.mapComputation wrong bs) s = .next t ∧ (t.gch ch).upTo = m := by
  unfold State.mapWork at hwork
  simp only [exec, execMapComputation, hen, hglim, not_true_eq_false, Bool.false_eq_true, or_self, if_false, hwork]
  refine ⟨_, rfl, ?_⟩
  rw [State.gch_computeTime, State.gch_shadowFrame, ← List.cons_append, List.foldl_append]
  exact State.mapFor_upTo ..

/-- The engine enabled and its lanes Voting; channel 0 has recovered from Fault in frame 0, so that it enters Run at the
start of frame 2, and frame 1 is in progress. -/
def State.returning : State :=
  { (((((State.reset.put .grantLaneState0 0 3).put .grantLaneState1 0 3).put .grantLaneState2 0 3).setBit Reg.grantCtrl 0
      true).put .channelLaneState 0 1).setLane 0 { State.reset.lane 0 with runFrame := 2, fromFault := true } with
    clk := { State.reset.clk with elapsed := Tm.frame, c0 := Tm.frame, c1 := Tm.frame, c2 := Tm.frame } }

/-- Frame 1 is the turn of the maps of frames 2 and 3, and of no other. -/
theorem State.returning_mapWork : State.returning.mapWork = [(0, 2), (0, 3)] := by decide +kernel

/-- Refutes O37: a channel that returns from Fault has the maps of its first two frames computed together, as the first sent in
Run carries a computed map (R162). Both are left to it, but its record shows the later of them alone, where the statement's
first clause has it show each. -/
theorem not_mapsComputedAndLanesVoted : ¬ Obligations.MapsComputedAndLanesVoted := by
  unfold Obligations.MapsComputedAndLanesVoted
  rintro ⟨hcomputed, -⟩
  have hen : State.returning.bit Reg.grantCtrl 0 = true := by decide +kernel
  obtain ⟨t, hexec, -, hfirst⟩ := hcomputed State.returning [] [] 0 2 hen rfl (by decide +kernel)
  obtain ⟨u, hlast, hsecond⟩ := exec_mapComputation_last [] [] (rest := []) hen rfl State.returning_mapWork
  obtain rfl : t = u := by
    rw [hexec] at hlast
    exact Host.Outcome.next.inj hlast
  exact absurd (hfirst.symm.trans hsecond) (by decide)

end Sys2Proof.Machine
end

section
/-!
PROOFS. A count of corrected codewords that lies beyond its 64 bits (R313).
-/

namespace Sys2Proof.Machine

open State

/-- A frame of 63 bytes, of which no codeword had to be corrected. -/
def cleanRunt : RxFrame :=
  ⟨⟨0x020000000001, 0x020000000002, none, none, 0x0800, none, 63, false, [], 0⟩, false, 0, 0, true, none, none, false,
    .replicate 4 0⟩

/-- Port 0 receives, and its UplinkFecCorrected stands at 2^64. The statement speaks of every state, and asks for no count
within the range of its type. -/
def State.correctedBeyond : State :=
  ((State.reset.put .uplinkLinkState 0 2).put .uplinkSnuffPhase 0 0).put .uplinkFecCorrected 0 (2 ^ 64)

/-- The frame counts as a runt, and the count of corrected codewords stays as it is. -/
theorem State.correctedBeyond_stays {t : State}
    (h : exec (.uplinkFrameReceived 0 0 cleanRunt) State.correctedBeyond = .next t) :
    t.n .uplinkDropRunt 0 = 1 ∧ t.n .uplinkFecCorrected 0 = 2 ^ 64 := by
  have hrun : (match exec (.uplinkFrameReceived 0 0 cleanRunt) State.correctedBeyond with
      | .next t => (t.n .uplinkDropRunt 0, t.n .uplinkFecCorrected 0)
      | _ => (0, 0)) = (1, 2 ^ 64) := by decide +kernel
  rw [h] at hrun
  exact Prod.mk.inj hrun

/-- Refutes O40: where no codeword was corrected UplinkFecCorrected is not written (`State.fecCounts`), and the statement's
second clause has it reduced to 64 bits all the same. -/
theorem not_uplinkFramesReceived : ¬ Obligations.UplinkFramesReceived := by
  unfold Obligations.UplinkFramesReceived
  rintro ⟨-, hdropped, -⟩
  obtain ⟨t, hexec, -, hcorrected, -⟩ := hdropped State.correctedBeyond 0 0 cleanRunt .uplinkDropRunt (by decide +kernel)
    (.inr ⟨⟨rfl, rfl⟩, .inl ⟨by decide, rfl⟩⟩)
  obtain ⟨-, hstays⟩ := State.correctedBeyond_stays hexec
  exact absurd (hstays.symm.trans hcorrected) (by decide +kernel)

end Sys2Proof.Machine
end

section
/-!
PROOFS. The release at a passing verdict of a frame that a port cuts through, under an owner that is no requester (R302, R304).
-/

namespace Sys2Proof.Machine

open State

/-- A number of no requester: there are 1,024 (R294). In the object store the cells held by it have the key of the frames
aborted at port 0 (`Obj.key`). -/
def strayOwner : Nat := (Obj.uplinkTxAborted.code - Obj.requesterCellsHeld.code) * 16777216

/-- A frame of one cell, cell 7, that came from flow 0 and is released under `strayOwner`. -/
def strayFrame : QDesc := ⟨7, 64, 0, 0, 0, 0, strayOwner, none, [], false, false, .flow 0, 0, [], []⟩

/-- Its cell's tag: one copy, held from pool 0, with the verdict pending. -/
def strayTag : CellTag := ⟨1, strayOwner, 0, none, 0, true, true⟩

/-- Port 0 cuts through this frame, and has aborted one frame before. -/
def State.strayCut : State :=
  ((State.reset.put .uplinkTxAborted 0 1).setCell 7 (some strayTag)).setTm fun m => { m with cutting := [(0, strayFrame)] }

/-- The cell's return takes one from the count of aborted frames (`State.uncharge`). -/
theorem State.strayCut_uncounted {t : State} (h : exec (.verdictWritten 7 true false) State.strayCut = .next t) :
    t.n .uplinkTxAborted 0 = 0 := by
  have hrun : (match exec (.verdictWritten 7 true false) State.strayCut with
      | .next t => t.n .uplinkTxAborted 0
      | _ => 1) = 0 := by decide +kernel
  rwa [h] at hrun

/-- Refutes O47: the end of a frame that a port cuts through returns its cells to the frame's owner (`State.uncharge`). The
statement speaks of every state and bounds no cell's owner. Where the owner lies beyond the requesters, the cells held by it
share their place in the object store with another object, here UplinkTxAborted, and the statement's fourth clause has a
passing verdict leave that count as it was. -/
theorem not_samplesVerdictsAndRebuild : ¬ Obligations.SamplesVerdictsAndRebuild := by
  unfold Obligations.SamplesVerdictsAndRebuild
  rintro ⟨-, -, -, hcut, -⟩
  obtain ⟨t, hexec, -, hpass, -⟩ := hcut State.strayCut 0 7 true false strayTag strayFrame (by decide +kernel) rfl rfl rfl rfl
  obtain ⟨-, hkept⟩ := hpass rfl
  have hbefore : State.strayCut.n .uplinkTxAborted 0 = 1 := by decide +kernel
  exact absurd ((State.strayCut_uncounted hexec).symm.trans (hkept.trans hbefore)) (by decide)

end Sys2Proof.Machine
end

section
/-!
PROOFS. Frames of objects by their kind, whatever their number: what the counting of an event leaves alone (R493 to R498);
and a U64 counter that is advanced.
-/

namespace Sys2Proof.Machine

open State

/-- Of all objects only these may differ, under whatever number. -/
def State.KindsBut (s : State) (os : List Obj) (t : State) : Prop := ∀ o i, i < 16777216 → o ∉ os → t.val o i = s.val o i

theorem State.n_of_kindsBut {s t : State} {os : List Obj} (h : s.KindsBut os t) {o : Obj} {i : Nat} (hi : i < 16777216)
    (ho : o ∉ os) : t.n o i = s.n o i := State.n_of_val (h o i hi ho)

theorem State.on_of_kindsBut {s t : State} {os : List Obj} (h : s.KindsBut os t) {o : Obj} {i : Nat} (hi : i < 16777216)
    (ho : o ∉ os) : t.on o i = s.on o i := State.on_of_val (h o i hi ho)

theorem State.KindsBut_of_objs {s t : State} (os : List Obj) (h : t.objs = s.objs) : s.KindsBut os t :=
  fun o i _ _ => State.val_of_objs h o i

theorem State.KindsBut_objs {s t u : State} {os : List Obj} (h : s.KindsBut os t) (hu : u.objs = t.objs) :
    s.KindsBut os u := fun o i hi ho => (State.val_of_objs hu o i).trans (h o i hi ho)

theorem State.KindsBut_trans {s t u : State} {os : List Obj} (h : s.KindsBut os t) (k : t.KindsBut os u) :
    s.KindsBut os u := fun o i hi ho => (k o i hi ho).trans (h o i hi ho)

theorem State.KindsBut_putVal {s t : State} {os : List Obj} (h : s.KindsBut os t) {o : Obj} {i : Nat} (v : Val)
    (hi : i < 16777216) (ho : o ∈ os) : s.KindsBut os (t.putVal o i v) := fun p j hj hp =>
  (State.val_putVal_other t v (ne_of_mem_of_not_mem ho hp).symm hi hj).trans (h p j hj hp)

theorem State.KindsBut_bump {s t : State} {os : List Obj} (h : s.KindsBut os t) {o : Obj} {i : Nat} (k : Nat)
    (hi : i < 16777216) (ho : o ∈ os) : s.KindsBut os (t.bump o i k) := fun p j hj hp =>
  (State.val_bump_obj t k (Obj.code_ne (ne_of_mem_of_not_mem ho hp).symm) hi hj).trans (h p j hj hp)

theorem State.KindsBut_raise {s t : State} {os : List Obj} (h : s.KindsBut os t) (k : Nat) (o : Obj) (i : Nat)
    (d : List Byte) (ho : .sconceEventsLost ∈ os) : s.KindsBut os (t.raise k o i d) := fun p j hj hp =>
  (t.val_raise_other k o i d (ne_of_mem_of_not_mem ho hp).symm hj).trans (h p j hj hp)

/-! ### Counting -/

/-- The objects that counting an event may write. -/
def counterObjs : List Obj := [.counterValue, .counterOverflow, .counterOverflowsSuppressed, .sconceEventsLost]

theorem State.KindsBut_countAdd {s t : State} (h : s.KindsBut counterObjs t) {c : Nat} (k : Nat) (hc : c < 16777216) :
    s.KindsBut counterObjs (t.countAdd c k) := by
  have hvalue : ∀ v, s.KindsBut counterObjs (t.put .counterValue c v) := fun v =>
    State.KindsBut_putVal h _ hc (by decide)
  have hover : ∀ v, s.KindsBut counterObjs ((t.put .counterValue c v).put .counterOverflow c 1) := fun v =>
    State.KindsBut_putVal (hvalue v) _ hc (by decide)
  unfold State.countAdd
  dsimp only
  split
  · exact hvalue _
  · split
    · exact hover _
    · split
      · exact State.KindsBut_raise (State.KindsBut_objs (hover _) (State.limitTake_objs ..)) _ _ _ _ (by decide)
      · refine State.KindsBut_objs ?_ (State.setBit_objs ..)
        exact State.KindsBut_bump (hover _) _ (by decide) (by decide)

theorem State.withNum_lt {s : State} {o : Obj} {v : Int} {c : Nat} (h : c ∈ s.withNum o v) : c < 16777216 := by
  obtain ⟨p, -, hp⟩ := List.mem_filterMap.1 h
  split at hp
  · rw [← Option.some.inj hp]
    exact Nat.mod_lt _ (by decide)
  · cases hp

theorem State.count_kindsBut (s : State) (ev inst k : Nat) : s.KindsBut counterObjs (s.count ev inst k) := by
  unfold State.count
  split
  · exact List.foldlRecOn _ _ (State.KindsBut_of_objs _ rfl) fun u hu c hc =>
      State.KindsBut_countAdd hu k (State.withNum_lt (List.mem_filter.1 hc).1)
  · exact State.KindsBut_of_objs _ rfl

theorem State.n_count (s : State) (ev inst k : Nat) {o : Obj} {i : Nat} (hi : i < 16777216) (ho : o ∉ counterObjs) :
    (s.count ev inst k).n o i = s.n o i := State.n_of_kindsBut (s.count_kindsBut ev inst k) hi ho

/-- A U64 counter wraps. -/
theorem State.n_bump_u64 (s : State) {o : Obj} (i k : Nat) (ho : o.info.ty = .u64) :
    (s.bump o i k).n o i = (s.n o i + k) % 2 ^ 64 := by
  have hm : 256 ^ o.info.ty.minLen = 2 ^ 64 := by rw [ho]; rfl
  rw [State.bump, if_pos ho, hm, State.n_put]

end Sys2Proof.Machine
end

section
/-!
PROOFS. Flow control received on an uplink port (R314, R315).
-/

namespace Sys2Proof.Machine

open State

/-! ### An uplink port's record -/

theorem State.upl_of_uplinks {s t : State} (h : t.uplinks = s.uplinks) (p : Nat) : t.upl p = s.upl p := by
  unfold State.upl; rw [h]

@[simp] theorem State.upl_setUpl (s : State) (p : Nat) (r : UplinkSt) : (s.setUpl p r).upl p = r := tabGet_put_self ..

theorem State.upl_setUpl_other (s : State) {p q : Nat} (r : UplinkSt) (h : q ≠ p) : (s.setUpl p r).upl q = s.upl q :=
  tabGet_put_other (fun _ => UplinkSt.idle) (fun _ => UplinkSt.idle) s.uplinks r h

@[simp] theorem State.upl_bump (s : State) (o : Obj) (i k p : Nat) : (s.bump o i k).upl p = s.upl p :=
  State.upl_of_uplinks (by simp) p

/-! ### Stops -/

/-- When a stop of this many quanta, taken now, ends; time 0 ends the stop. -/
def State.stopEnd (s : State) (p time : Nat) : Option Time :=
  if time = 0 then none else some (s.now + quanta time (s.portRate p))

theorem State.stops_stopClass (s : State) (p c time d : Nat) :
    tabFind ((s.stopClass p c time).upl p).stops d =
      if d = c then s.stopEnd p time else tabFind (s.upl p).stops d := by
  simp only [State.stopClass, State.upl_setUpl, State.stopEnd]
  by_cases hd : d = c
  · subst hd
    rw [if_pos rfl]
    split
    · exact tabFind_none tabErase_ne
    · exact tabFind_place_self tabErase_ne
  · rw [if_neg hd]
    split
    · exact tabFind_erase_other hd
    · rw [tabFind_place_other hd, tabFind_erase_other hd]

/-- Some classes stopped, each for its time. -/
def State.stopClasses (s : State) (p : Nat) (cs : List Nat) (time : Nat → Nat) : State :=
  cs.foldl (fun t c => t.stopClass p c (time c)) s

/-- Stops are noted in the ports' records alone. -/
theorem State.stopClasses_within (s : State) (p : Nat) (cs : List Nat) (time : Nat → Nat) :
    State.Within 67108864 s (s.stopClasses p cs time) :=
  (foldl_kept (m := 67108864) _ _ (kept_refl _ s) fun u c h => State.stopClass_kept u p c (time c) rfl h).2

theorem State.stops_stopClasses (s : State) (p : Nat) (cs : List Nat) (time : Nat → Nat) (d : Nat) :
    tabFind ((s.stopClasses p cs time).upl p).stops d =
      if d ∈ cs then s.stopEnd p (time d) else tabFind (s.upl p).stops d := by
  induction cs generalizing s with
  | nil => simp [State.stopClasses]
  | cons c cs ih =>
    have htail : tabFind ((s.stopClasses p (c :: cs) time).upl p).stops d =
        if d ∈ cs then s.stopEnd p (time d) else tabFind ((s.stopClass p c (time c)).upl p).stops d :=
      ih (s.stopClass p c (time c))
    rw [htail, State.stops_stopClass]
    by_cases hd : d ∈ cs
    · simp [hd]
    · by_cases hc : d = c <;> simp [hd, hc]

/-! ### Frames -/

theorem State.rxCount_kindsBut (s : State) {p : Nat} (len : Nat) (hp : p < 16777216) :
    s.KindsBut (.uplinkRxFrames :: .uplinkRxBytes :: counterObjs) (s.rxCount p len) := fun o i hi ho => by
  simp only [List.mem_cons, not_or] at ho
  obtain ⟨hframes, hbytes, hcount⟩ := ho
  refine (State.count_kindsBut _ _ _ _ o i hi hcount).trans ?_
  rw [State.val_bump_obj _ _ (Obj.code_ne hbytes) hp hi, State.val_bump_obj _ _ (Obj.code_ne hframes) hp hi]

theorem State.rxCount_uplinkRxFrames (s : State) {p : Nat} (len : Nat) (hp : p < 16777216) :
    (s.rxCount p len).n .uplinkRxFrames p = (s.n .uplinkRxFrames p + 1) % 2 ^ 64 := by
  refine (State.n_count _ _ _ _ hp (by decide)).trans ?_
  rw [State.n_of_val (State.val_bump_obj _ _ (by decide) hp hp), State.n_bump_u64 _ _ _ rfl]

theorem State.rxCount_within (s : State) (p len : Nat) : State.Within 4390 s (s.rxCount p len) :=
  (State.rxCount_kept (m := 4390) s p len rfl (kept_refl _ s)).2

theorem State.pauseIgnored_n (s : State) (p : Nat) (o : Obj) (i : Nat) :
    (s.pauseIgnored p).n o i = (s.bump .uplinkPauseIgnored p 1).n o i := rfl

/-- A flow-control frame of a kind taken: it stops some classes where it is honoured, and is counted else. -/
def State.takeFlow (s : State) (p kind : Nat) (cs : List Nat) (time : Nat → Nat) : State :=
  if s.honours p kind then (s.stopClasses p cs time).pauseHonoured p else s.pauseIgnored p

theorem State.takePause_eq (s : State) (p time : Nat) :
    s.takePause p time = s.takeFlow p 1 (List.range 8) fun _ => time := rfl

/-- The classes that a PFC frame stops: enabled in it and permitted by the port. -/
def State.pfcStopped (s : State) (p enable : Nat) : List Nat :=
  (List.range 8).filter fun c => enable / 2 ^ c % 2 == 1 && s.n .uplinkPfcClasses p / 2 ^ c % 2 == 1

theorem State.takePfc_eq (s : State) (p enable : Nat) (times : List Nat) :
    s.takePfc p enable times = s.takeFlow p 2 (s.pfcStopped p enable) fun c => times.getD c 0 % 65536 := rfl

section
variable (s : State) {p : Nat} (kind : Nat) (cs : List Nat) (time : Nat → Nat) (hp : p < 16777216)
include hp

theorem State.honours_rxCount (len : Nat) : (s.rxCount p len).honours p kind = s.honours p kind := by
  unfold State.honours
  rw [State.on_of_kindsBut (s.rxCount_kindsBut len hp) hp (by decide),
    State.n_of_kindsBut (s.rxCount_kindsBut len hp) hp (by decide)]

theorem State.stopEnd_rxCount (len k : Nat) : (s.rxCount p len).stopEnd p k = s.stopEnd p k := by
  have hclk : (s.rxCount p len).clk = s.clk := s.rxCount_within p len .clk rfl
  unfold State.stopEnd State.now State.portRate State.quadMode
  rw [hclk, State.n_of_kindsBut (s.rxCount_kindsBut len hp) (by omega) (by decide)]

/-- The frame is counted whether or not it is honoured. -/
theorem State.takeFlow_uplinkRxFrames (len : Nat) :
    ((s.rxCount p len).takeFlow p kind cs time).n .uplinkRxFrames p = (s.n .uplinkRxFrames p + 1) % 2 ^ 64 := by
  refine Eq.trans ?_ (s.rxCount_uplinkRxFrames len hp)
  unfold State.takeFlow
  split
  · refine (State.n_count _ _ _ _ hp (by decide)).trans ?_
    refine (State.n_of_val (State.val_bump_obj _ _ (by decide) hp hp)).trans ?_
    exact State.n_of_val (State.val_of_objs (State.stopClasses_within _ p cs time .objs rfl) _ _)
  · exact (State.pauseIgnored_n ..).trans (State.n_of_val (State.val_bump_obj _ _ (by decide) hp hp))

/-- An honoured frame stops its classes, and is counted as such. -/
theorem State.takeFlow_honoured (len : Nat) (h : s.honours p kind = true) :
    ((s.rxCount p len).takeFlow p kind cs time).n .uplinkPauseHonoured p = (s.n .uplinkPauseHonoured p + 1) % 2 ^ 64 ∧
    ∀ c, tabFind (((s.rxCount p len).takeFlow p kind cs time).upl p).stops c =
      if c ∈ cs then s.stopEnd p (time c) else tabFind (s.upl p).stops c := by
  rw [State.takeFlow, if_pos ((s.honours_rxCount kind hp len).trans h)]
  refine ⟨?_, fun c => ?_⟩
  · refine (State.n_count _ _ _ _ hp (by decide)).trans ?_
    rw [State.n_bump_u64 _ _ _ rfl, State.n_of_val (State.val_of_objs (State.stopClasses_within _ p cs time .objs rfl) _ _),
      State.n_of_kindsBut (s.rxCount_kindsBut len hp) hp (by decide)]
  · have hcounted : (((s.rxCount p len).stopClasses p cs time).pauseHonoured p).upl p =
        ((s.rxCount p len).stopClasses p cs time).upl p := State.upl_of_uplinks (by simp [State.pauseHonoured]) p
    rw [hcounted, State.stops_stopClasses, s.stopEnd_rxCount hp, State.upl_of_uplinks (s.rxCount_within p len .uplinks rfl)]

/-- A frame that is not honoured is counted and shown, and stops nothing. -/
theorem State.takeFlow_ignored (len : Nat) (h : s.honours p kind = false) :
    ((s.rxCount p len).takeFlow p kind cs time).uplinks = s.uplinks ∧
    ((s.rxCount p len).takeFlow p kind cs time).n .uplinkPauseIgnored p = (s.n .uplinkPauseIgnored p + 1) % 2 ^ 64 ∧
    ((s.rxCount p len).takeFlow p kind cs time).bit (Reg.uplStatus p) 10 = true := by
  rw [State.takeFlow, if_neg (by simp [s.honours_rxCount kind hp len, h])]
  refine ⟨?_, ?_, State.bit_setBit_self _ _ _ _ (by decide)⟩
  · simp only [State.pauseIgnored, State.setBit_uplinks, State.bump_uplinks]
    exact s.rxCount_within p len .uplinks rfl
  · rw [State.pauseIgnored_n, State.n_bump_u64 _ _ _ rfl,
      State.n_of_kindsBut (s.rxCount_kindsBut len hp) hp (by decide)]

end

/-- A frame taken changes objects, registers, events and the ports' records alone. -/
theorem State.takeFlow_within (s : State) (p kind len : Nat) (cs : List Nat) (time : Nat → Nat) :
    State.Within 67113254 s ((s.rxCount p len).takeFlow p kind cs time) := by
  have hrx : State.Kept 67113254 s (s.rxCount p len) := State.rxCount_kept s p len rfl (kept_refl _ s)
  have hstops : State.Kept 67113254 s ((s.rxCount p len).stopClasses p cs time) :=
    foldl_kept _ _ hrx fun u c h => State.stopClass_kept u p c (time c) rfl h
  exact (ite_kept (State.pauseHonoured_kept (m := 67113254) _ p rfl hstops)
    (State.pauseIgnored_kept (m := 67113254) _ p rfl hrx)).2

theorem State.honours_eq_true_iff (s : State) (p kind : Nat) :
    s.honours p kind = true ↔ s.on .uplinkPauseHonour p = true ∧ s.n .uplinkFlowControl p = kind := by
  simp [State.honours]

theorem State.honours_eq_false_iff (s : State) (p kind : Nat) :
    s.honours p kind = false ↔ s.on .uplinkPauseHonour p = false ∨ s.n .uplinkFlowControl p ≠ kind := by
  rw [← Bool.not_eq_true, State.honours_eq_true_iff, Decidable.not_and_iff_or_not, Bool.not_eq_true]

theorem State.mem_pfcStopped_iff (s : State) (p : Nat) (e : BitVec 8) (c : Fin 8) :
    c.val ∈ s.pfcStopped p e.toNat ↔ e.getLsbD c = true ∧ s.n .uplinkPfcClasses p / 2 ^ c.val % 2 = 1 := by
  simp [State.pfcStopped, BitVec.getLsbD, Nat.testBit_eq_decide_div_mod_eq]

theorem State.pfcStopped_rxCount (s : State) {p : Nat} (len enable : Nat) (hp : p < 16777216) :
    (s.rxCount p len).pfcStopped p enable = s.pfcStopped p enable := by
  unfold State.pfcStopped
  rw [State.n_of_kindsBut (s.rxCount_kindsBut len hp) hp (by decide)]

/-! ### The commands -/

/-- A flow-control frame on the port is not seen: its link is not up, it is Dark, or the device is in Glim. -/
def State.FlowUnseen (s : State) (p : Nat) : Prop :=
  s.n .uplinkLinkState p ≠ 2 ∨ s.n .uplinkSnuffPhase p = 3 ∨ s.boot.glim = true

theorem exec_pauseFrameReceived_of_unseen {s : State} {p : Uplink} (time : Fin 65536) (h : s.FlowUnseen p) :
    exec (.pauseFrameReceived p time) s = .next s := if_pos h

theorem exec_pauseFrameReceived_of_seen {s : State} {p : Uplink} (time : Fin 65536) (h : ¬ s.FlowUnseen p) :
    exec (.pauseFrameReceived p time) s =
      .next ((s.rxCount p 64).takeFlow p 1 (List.range 8) fun _ => time) := if_neg h

theorem exec_pfcFrameReceived_of_unseen {s : State} {p : Uplink} (e : BitVec 8) (times : Vector Nat 8)
    (h : s.FlowUnseen p) : exec (.pfcFrameReceived p e times) s = .next s := if_pos h

theorem exec_pfcFrameReceived_of_seen {s : State} {p : Uplink} (e : BitVec 8) (times : Vector Nat 8)
    (h : ¬ s.FlowUnseen p) : exec (.pfcFrameReceived p e times) s =
      .next ((s.rxCount p 64).takeFlow p 2 (s.pfcStopped p e.toNat) fun c => times.toList.getD c 0 % 65536) := by
  rw [← s.pfcStopped_rxCount 64 e.toNat (by omega)]
  exact if_neg h

theorem State.stopped_eq_true_iff (s : State) (p c : Nat) :
    s.stopped p c = true ↔ ∃ e ∈ tabFind (s.upl p).stops c, s.now < e := by
  unfold State.stopped
  cases tabFind (s.upl p).stops c <;> simp

theorem exec_pauseStopExpiry_eq (s : State) (p : Uplink) (c : Fin 8) :
    exec (.pauseStopExpiry p c) s = .next (if s.stopped p c then s else s.stopClass p c 0) :=
  (apply_ite _ _ _ _).symm

end Sys2Proof.Machine
end

section
/-!
PROOFS. Flow control sent on an uplink port, and pressure signalled (R298, R316).
-/

namespace Sys2Proof.Machine

open State

/-! ### One frame sent -/

theorem State.upl_sendStop_other (s : State) {p q : Nat} (stop release : Nat) (h : q ≠ p) :
    (s.sendStop p stop release).upl q = s.upl q := (State.upl_bump ..).trans (State.upl_setUpl_other s _ h)

/-- What is announced is noted, with its instant. -/
theorem State.upl_sendStop (s : State) (p stop release : Nat) : (s.sendStop p stop release).upl p =
    { s.upl p with announced := stop, annAt := s.now, annFor := quanta (s.n .uplinkPauseQuanta p) (s.portRate p) } :=
  (State.upl_bump ..).trans (State.upl_setUpl s p _)

theorem State.sendStop_sent (s : State) (p stop release : Nat) : (s.sendStop p stop release).sent = s.sent ++
    [.ethernet p 1 [s.n .uplinkFlowControl p, s.uplinkMacOf p, stop, s.n .uplinkPauseQuanta p, release] [] none none] :=
  State.bump_sent ..

theorem State.sendStop_uplinkPauseSent (s : State) (p stop release : Nat) :
    (s.sendStop p stop release).n .uplinkPauseSent p = (s.n .uplinkPauseSent p + 1) % 2 ^ 64 :=
  State.n_bump_u64 _ _ _ rfl

theorem State.sendStop_objsBut (s : State) {p : Nat} (stop release : Nat) (hp : p < 16777216) :
    s.ObjsBut [(.uplinkPauseSent, p)] (s.sendStop p stop release) :=
  State.ObjsBut_bump _ _ _ hp (by simp) (State.ObjsBut_of_objs _ rfl)

/-! ### What is to be stopped -/

/-- All that flow control is decided by is as it was: the objects but UplinkPauseSent, the registers, the pools that have
signalled. -/
def State.SameFlow (s t : State) : Prop :=
  s.KindsBut [.uplinkPauseSent] t ∧ t.regs = s.regs ∧ t.tm = s.tm

theorem State.SameFlow_refl (s : State) : s.SameFlow s := ⟨State.KindsBut_of_objs _ rfl, rfl, rfl⟩

theorem State.SameFlow_trans {s t u : State} (h : s.SameFlow t) (k : t.SameFlow u) : s.SameFlow u := by
  obtain ⟨hobjs, hregs, htm⟩ := h
  obtain ⟨kobjs, kregs, ktm⟩ := k
  exact ⟨State.KindsBut_trans hobjs kobjs, kregs.trans hregs, ktm.trans htm⟩

theorem State.pressed_of_sameFlow {s t : State} (h : s.SameFlow t) {k : Nat} (hk : k < 16777216) :
    t.pressed k = s.pressed k := by
  obtain ⟨hobjs, hregs, htm⟩ := h
  unfold State.pressed
  rw [State.n_of_kindsBut hobjs hk (by decide), State.bit_of_reg (State.reg_of_regs hregs _), htm]

theorem State.stopWanted_of_sameFlow {s t : State} (h : s.SameFlow t) {p : Nat} (hp : p < 16) :
    t.stopWanted p = s.stopWanted p := by
  have hclasses : ((List.range 8).filter fun c => t.pressed (32 + p * 8 + c)) =
      (List.range 8).filter fun c => s.pressed (32 + p * 8 + c) :=
    List.filter_congr fun c hc => State.pressed_of_sameFlow h (by have := List.mem_range.1 hc; omega)
  unfold State.stopWanted
  rw [hclasses, State.n_of_kindsBut h.1 (by omega) (by decide), State.n_of_kindsBut h.1 (by omega) (by decide)]

theorem State.sendStop_sameFlow (s : State) {p : Nat} (stop release : Nat) (hp : p < 16) :
    s.SameFlow (s.sendStop p stop release) :=
  ⟨State.KindsBut_bump (State.KindsBut_of_objs _ rfl) _ (by omega) (by decide), State.bump_regs .., State.bump_tm ..⟩

theorem State.flowControl_sameFlow (s : State) {p : Nat} (hp : p < 16) : s.SameFlow (s.flowControl p) := by
  unfold State.flowControl
  dsimp only
  split
  · exact s.SameFlow_refl
  · split
    · exact s.SameFlow_refl
    · exact s.sendStop_sameFlow _ _ hp

/-! ### Announcements -/

/-- A port that is up announces what it is to stop; one that is not announces what it did. -/
theorem State.flowControl_announced (s : State) (p : Nat) : ((s.flowControl p).upl p).announced =
    if s.n .uplinkLinkState p = 2 then s.stopWanted p else (s.upl p).announced := by
  by_cases hup : s.n .uplinkLinkState p = 2
  · by_cases hsame : s.stopWanted p = (s.upl p).announced
    · simp [State.flowControl, hup, hsame]
    · simp [State.flowControl, hup, hsame, State.upl_sendStop]
  · simp [State.flowControl, hup]

theorem State.upl_flowControl_other (s : State) {p q : Nat} (h : q ≠ p) : (s.flowControl p).upl q = s.upl q := by
  unfold State.flowControl
  dsimp only
  split
  · rfl
  · split
    · rfl
    · exact s.upl_sendStop_other _ _ h

/-- The ports of a list brought up to the pressure. -/
def State.flowControls (s : State) (ps : List Nat) : State := ps.foldl (fun t p => t.flowControl p) s

theorem State.flowControls_sameFlow (s : State) {ps : List Nat} (hps : ∀ p ∈ ps, p < 16) :
    s.SameFlow (s.flowControls ps) :=
  List.foldlRecOn _ _ s.SameFlow_refl fun _ hu p hp => State.SameFlow_trans hu (State.flowControl_sameFlow _ (hps p hp))

theorem State.flowControls_announced (s : State) {ps : List Nat} (hps : ∀ p ∈ ps, p < 16) {q : Nat} (hq : q < 16) :
    ((s.flowControls ps).upl q).announced =
      if q ∈ ps ∧ s.n .uplinkLinkState q = 2 then s.stopWanted q else (s.upl q).announced := by
  induction ps generalizing s with
  | nil => simp [State.flowControls]
  | cons p ps ih =>
    obtain ⟨hp, hrest⟩ := List.forall_mem_cons.1 hps
    have hflow := s.flowControl_sameFlow hp
    have htail : ((s.flowControls (p :: ps)).upl q).announced =
        if q ∈ ps ∧ s.n .uplinkLinkState q = 2 then s.stopWanted q else ((s.flowControl p).upl q).announced := by
      rw [← State.n_of_kindsBut hflow.1 (i := q) (by omega) (by decide), ← State.stopWanted_of_sameFlow hflow hq]
      exact ih (s.flowControl p) hrest
    rw [htail]
    by_cases hqp : q = p
    · subst hqp
      rw [State.flowControl_announced]
      by_cases hup : s.n .uplinkLinkState q = 2 <;> simp [hup]
    · rw [s.upl_flowControl_other hqp]
      simp [hqp]

/-! ### Pressure -/

theorem State.creditRelease_within (s : State) : State.Within 134217728 s s.creditRelease :=
  (State.creditRelease_kept (m := 134217728) s rfl (kept_refl _ s)).2

theorem State.pressureSeen_eq (s : State) : s.pressureSeen = (s.flowControls (List.range 16)).creditRelease := rfl

theorem State.pressureSeen_sameFlow (s : State) : s.SameFlow s.pressureSeen := by
  have hwithin := (s.flowControls (List.range 16)).creditRelease_within
  refine State.SameFlow_trans (s.flowControls_sameFlow fun p => List.mem_range.1) ⟨?_, hwithin .regs rfl, hwithin .tm rfl⟩
  exact State.KindsBut_of_objs _ (hwithin .objs rfl)

/-- Every port that is up announces what it is to stop. -/
theorem State.pressureSeen_announced (s : State) {p : Nat} (hp : p < 16) : (s.pressureSeen.upl p).announced =
    if s.n .uplinkLinkState p = 2 then s.pressureSeen.stopWanted p else (s.upl p).announced := by
  rw [State.stopWanted_of_sameFlow s.pressureSeen_sameFlow hp, s.pressureSeen_eq,
    State.upl_of_uplinks (State.creditRelease_within _ .uplinks rfl),
    State.flowControls_announced _ (fun _ => List.mem_range.1) hp]
  simp [hp]

/-- A pool's pressure, or its end, as signalled. -/
def State.signalNoted (s : State) (k : Nat) : State :=
  s.setTm fun m => { m with signalled := if 2 ≤ s.n .poolState k then m.signalled ++ [k] else m.signalled.erase k }

/-! ### The commands -/

/-- The announcement of a port that is up still stands, and half of its time has passed. -/
def State.RefreshDue (s : State) (p : Nat) : Prop :=
  s.n .uplinkLinkState p = 2 ∧ (s.upl p).announced ≠ 0 ∧ s.stopWanted p = (s.upl p).announced ∧
    (s.upl p).annAt + (s.upl p).annFor / 2 ≤ s.now

theorem exec_flowControlRefresh_of_due {s : State} {p : Uplink} (h : s.RefreshDue p) :
    exec (.flowControlRefresh p) s = .next (s.sendStop p (s.stopWanted p) 0) := if_pos h

theorem exec_flowControlRefresh_of_not_due {s : State} {p : Uplink} (h : ¬ s.RefreshDue p) :
    exec (.flowControlRefresh p) s = .next s := if_neg h

theorem exec_pressureSignal_of_known {s : State} {k : Fin 16} (h : 2 ≤ s.n .poolState k ↔ k.val ∈ s.tm.signalled) :
    exec (.pressureSignal k) s = .next s := by
  simp [exec, execPressureSignal, h, List.contains_eq_mem]

theorem exec_pressureSignal_of_changed {s : State} {k : Fin 16} (h : 2 ≤ s.n .poolState k ↔ k.val ∉ s.tm.signalled) :
    exec (.pressureSignal k) s = .next (s.signalNoted k).pressureSeen := by
  have hne : decide (2 ≤ s.n .poolState k) ≠ s.tm.signalled.contains k.val := by
    by_cases hk : k.val ∈ s.tm.signalled <;> simp [h, hk, List.contains_eq_mem]
  simp only [exec, execPressureSignal, if_neg hne, decide_eq_true_eq]
  rfl

/-! ### The statement -/

/-- Settles O41: the frames received by `State.takeFlow_honoured` and `State.takeFlow_ignored`, which pause and PFC share;
the expiry by `State.stops_stopClass`; the frames sent by what `State.sendStop` notes; pressure by
`State.pressureSeen_announced`, since the sending of one port leaves what every other port is to stop. -/
theorem flowControlBothWays : Obligations.FlowControlBothWays := by
  unfold Obligations.FlowControlBothWays
  refine ⟨fun s p time e times h => ⟨exec_pauseFrameReceived_of_unseen time h, exec_pfcFrameReceived_of_unseen e times h⟩,
    fun s p time hup hdark hglim => ?pause, fun s p e times hup hdark hglim => ?pfc,
    fun s p c => ⟨fun h => ?expired, fun h => ?running⟩, fun s p hup hann hwant hdue => ?refresh,
    fun s p h => exec_flowControlRefresh_of_not_due ?early, fun s k h => ?signalled,
    fun s k h => exec_pressureSignal_of_known h⟩
  case pause =>
    have hseen : ¬ s.FlowUnseen p := by simp [State.FlowUnseen, hup, hdark, hglim]
    have hwithin := s.takeFlow_within p 1 64 (List.range 8) fun _ => time
    refine ⟨_, exec_pauseFrameReceived_of_seen time hseen, s.takeFlow_uplinkRxFrames _ _ _ (by omega) _, hwithin .tm rfl,
      hwithin .gal rfl, hwithin .sent rfl, fun hon hflow => ?_, fun h =>
      s.takeFlow_ignored _ _ _ (by omega) _ ((s.honours_eq_false_iff p 1).2 h)⟩
    obtain ⟨hcounted, hstops⟩ := s.takeFlow_honoured 1 (List.range 8) (fun _ => time) (by omega) 64
      ((s.honours_eq_true_iff p 1).2 ⟨hon, hflow⟩)
    refine ⟨fun c => (hstops c).trans ?_, hcounted⟩
    simp [State.stopEnd, quanta]
  case pfc =>
    have hseen : ¬ s.FlowUnseen p := by simp [State.FlowUnseen, hup, hdark, hglim]
    have hwithin := s.takeFlow_within p 2 64 (s.pfcStopped p e.toNat) fun c => times.toList.getD c 0 % 65536
    refine ⟨_, exec_pfcFrameReceived_of_seen e times hseen, s.takeFlow_uplinkRxFrames _ _ _ (by omega) _, hwithin .tm rfl,
      hwithin .gal rfl, hwithin .sent rfl, fun hon hflow => ?_, fun h =>
      s.takeFlow_ignored _ _ _ (by omega) _ ((s.honours_eq_false_iff p 2).2 h)⟩
    obtain ⟨hcounted, hstops⟩ := s.takeFlow_honoured 2 (s.pfcStopped p e.toNat)
      (fun c => times.toList.getD c 0 % 65536) (by omega) 64 ((s.honours_eq_true_iff p 2).2 ⟨hon, hflow⟩)
    refine ⟨hcounted, fun c => (hstops c).trans ?_⟩
    have htime : times.toList.getD c 0 = times[c] := by simp
    simp only [s.mem_pfcStopped_iff, htime]
    rfl
  case expired =>
    have hover : ¬ s.stopped p c = true := by
      rw [State.stopped_eq_true_iff]
      rintro ⟨e, he, hlt⟩
      exact Nat.not_lt.2 (h e he) hlt
    refine ⟨_, (exec_pauseStopExpiry_eq s p c).trans (by rw [if_neg hover]), ?_, fun d hd => ?_, ?_, ?_⟩
    · rw [State.stops_stopClass, if_pos rfl]; rfl
    · rw [State.stops_stopClass, if_neg (Fin.val_ne_of_ne hd)]
    · exact State.ObjsBut_of_objs _ rfl
    · exact State.RegsBut_of_regs _ rfl
  case running =>
    exact (exec_pauseStopExpiry_eq s p c).trans (by rw [if_pos ((s.stopped_eq_true_iff p c).2 h)])
  case refresh =>
    refine ⟨_, exec_flowControlRefresh_of_due ⟨hup, hann, hwant, hdue⟩, ?_, ?_, s.sendStop_uplinkPauseSent .., ?_, ?_⟩
    · rw [State.upl_sendStop]
    · rw [State.sendStop_sent, hwant]
    · exact s.sendStop_objsBut _ _ (by omega)
    · exact State.RegsBut_of_regs _ (State.bump_regs ..)
  case early =>
    rintro ⟨hup, hann, hwant, hdue⟩
    rcases h with h | h | h | h
    · exact h hup
    · exact hann h
    · exact h hwant
    · exact Nat.not_le.2 h hdue
  case signalled =>
    obtain ⟨-, -, htm⟩ := (s.signalNoted k).pressureSeen_sameFlow
    exact ⟨_, exec_pressureSignal_of_changed h, htm, fun p => (s.signalNoted k).pressureSeen_announced p.isLt⟩

end Sys2Proof.Machine
end
